-- ==== Sys2Proof/Word.lean ====
section
/-! DEFINITION. The word of the block: registers are 32 bits wide and are accessed as naturally aligned words (R6). -/
namespace Sys2Proof

/-- One register word (R6). -/
abbrev Word := BitVec 32

/-- One byte of a message, a buffer or an image. -/
abbrev Byte := BitVec 8

/-- A table with numbers as keys, held as a list whose keys strictly rise. -/
abbrev SMap (α : Type) := List (Nat × α)

end Sys2Proof
end

