-- ==== Sys2Proof/Syntax.lean ====
section
/-! DEFINITION. The commands of the block (spec/opcode_table.json, one constructor per row) and the data they carry. -/
namespace Sys2Proof

/-- A management session (R437): one of the 8 slots of MGT.SESSION, or the mailbox session of a berth. -/
inductive Sess where
  | slot (i : Fin 8)
  | berth (k : Fin 64)
  deriving DecidableEq, Repr

/-- Fault classes (R312): C0 correctable, C1 transient, C2 permanent, C3 fatal. -/
inductive FaultClass where
  | c0 | c1 | c2 | c3
  deriving DecidableEq, Repr

/-- The fault collectors (R11): one per cell, per block, per region, and the chip's. -/
inductive Collector where
  | cell (p : Fin 1024)
  | block (n : Fin 128)
  | region (g : Fin 8)
  | hub
  deriving DecidableEq, Repr

/-- The two reference inputs (R19). -/
inductive RefIn where
  | a | b
  deriving DecidableEq, Repr

/-- Power-stage readings that a PMBus poll brings with it: bulk voltage and feed voltages in 0.1 V, feed currents in 0.1 A,
the 100 µs average of input power in W, and the always-on current in mA. -/
structure InputMeas where
  vbus : Nat
  vinA : Nat
  vinB : Nat
  iinA : Nat
  iinB : Nat
  pNow : Nat
  iAon : Nat
  deriving DecidableEq, Repr

/-- One rail's reading (R373): the rail, its voltage in mV, its current in 0.1 A and its power-good pin. -/
structure RailReading where
  rail : Fin 26
  mv : Nat
  da : Nat
  pg : Bool
  deriving DecidableEq, Repr

/-- One temperature sensor's reading (R460), in 0.125 °C above −40 °C where it lies in range; none when it is invalid. -/
structure TempReading where
  sensor : Fin 28
  value : Option (Fin 1521)
  deriving DecidableEq, Repr

/-- What a heavy operation of R377 is for. -/
inductive Purpose where
  | regionPower (g : Fin 8)
  | bulkSweep
  | chartResets
  | copyEngine (g : Fin 8)
  | scrub (unit : Fin 9)
  | windowFlush
  | deadSweep (a : Fin 64)
  | chartCommit
  | almanacSave
  | ldoFull
  | otherMgt (helm : Bool)
  deriving DecidableEq, Repr

/-- Where a stored bit is wrong (R338 to R342): an HBM line and symbol, with the bank, row, column address and symbol bit it stands at; or an
SRAM macro of a macro group, with its row, word position and bit, and for a block's group the cell and which of its memories (0
staging, 1 shadows, 2 replay buffers). -/
inductive ErrPlace where
  | hbm (line : Fin (2 ^ 30)) (symbol : Fin 36) (bank : Fin 256) (row : Nat) (col : Fin 512) (bit : Fin 16)
  | sram (group : Fin 43) (mac : Fin 256) (row : Fin 4096) (wordpos : Fin 4) (bit : Fin 72) (cell : Fin 8) (part : Fin 3)
  deriving DecidableEq, Repr

/-- What an uncorrectable error has spoiled (R343). -/
inductive Spoiled where
  | message (src : Fin 1024) (id : Nat)
  | replayData (p : Fin 1024) (seq : Fin 4096)
  | replayHeader (p : Fin 1024)
  | shadow (cell : Fin 1024) (tag : Nat) (both : Bool)
  | descriptor (both : Bool)
  | directoryCache
  | partition (n : Fin 72) (set : Fin 4194304)
  | ownedFilter (n : Fin 72) (index : Fin (2 ^ 20))
  | ownedStore (line : Fin (2 ^ 46))
  | memoryCache (line : Fin (2 ^ 46))
  | lodestarObject (obj : Fin (2 ^ 26)) (ch : Fin 4096) (k : Fin 64)
  | tracker (id : Nat)
  | waiter (ch : Fin 4096) (k : Fin 64)
  | resultRecord (ch : Fin 4096) (k : Fin 64)
  | roseTable (fromChart : Bool)
  | freeSpace
  deriving DecidableEq, Repr

/-- An error a read finds: its place, what it spoiled when it is uncorrectable, and whether it was found after the write-back of the error
last logged at that place (R342, R353). -/
structure MemError where
  place : ErrPlace
  spoiled : Option Spoiled
  after : Bool
  deriving DecidableEq, Repr

/-- The paths of R428: I3C, the management Ethernet, in-band through the USP pleat led by a cell, the mailbox of a virtual switch. -/
inductive MgtPath where
  | i3c
  | ethernet
  | inband (p : Fin 1024)
  | mailbox (v : Fin 64)
  deriving DecidableEq, Repr

/-- An MCTP packet (R428 to R432): whether it begins and ends its message, its tag with the tag-owner bit, the message type of a first
packet, and its payload. -/
structure MctpPacket where
  som : Bool
  eom : Bool
  tag : Fin 16
  mtype : Fin 256
  body : List (Fin 256)
  deriving DecidableEq, Repr

/-- A datagram of the management Ethernet (R431): an MCTP packet to port 4,570, what the module answers itself, a DHCPv4 lease, or any
other. -/
inductive Datagram where
  | mctp (pkt : MctpPacket)
  | icmpEcho (v6 : Bool)
  | arp
  | neighbour
  | dhcpLease (addr : Fin (2 ^ 32))
  | other
  deriving DecidableEq, Repr

/-- Coherent requests (R172, R183, R184). On CXL a full write is taken as WR_BACK, WR_CLEAN or WR_FULL by what the directory names when
it becomes active (memWr and memWrS); MemSpecRd is a hint; other is any further M2S opcode. -/
inductive CohOp where
  | rdS | rdOwn | upg | rdCur | evictS | wrBack | wrClean | wrFull | wrPart | memWr | memWrS | specRd | other
  deriving DecidableEq, Repr

/-- Snoops (R184). -/
inductive SnpOp where
  | data | inv | cur
  deriving DecidableEq, Repr

/-- What a coherent request carries beside its header (R184): the edge port it comes from (none: the host of the USP it arrives
at), 64 B of data and a byte mask where the opcode has them. -/
structure CohReq where
  op : CohOp
  port : Option (Fin 4096)
  data : Nat
  mask : Nat
  deriving DecidableEq, Repr

/-- How a snoop ends without a response (R185, R186): its timeout, an UNBOUND answer, or a flush after a grace period. -/
inductive SnoopEnd where
  | timeout | unbound | flushed
  deriving DecidableEq, Repr

/-- Flow-control classes of a link (R97). -/
inductive FcClass where
  | req | snp | rsp | sync | data | mgt
  | ioPosted | ioNonPosted | ioCompletion
  | m2sReq | m2sRwd | h2dReq | h2dRsp | h2dData
  | s2mNdr | s2mDrs | d2hReq | d2hRsp | d2hData
  deriving DecidableEq, Repr

/-- Kinds of message, as the rules of R77 and R127 tell them apart. -/
inductive MsgKind where
  | ioNonPosted | ioPosted | memRead | memWrite | cacheRead | cacheWrite | fnlRequest
  | snoop | snoopResponse | response | management
  deriving DecidableEq, Repr

/-- What sets a TLP or a link's request apart (R65): nothing, an IDE prefix, or a partner's request to enter L1. -/
inductive TlpMark where
  | plain | ide | l1Request
  deriving DecidableEq, Repr

/-- The functions of a virtual switch that a host configures (R68, R76): the upstream switch port, the management function, a vPPB. -/
inductive CfgFn where
  | port | mgt
  | vppb (i : Fin 256)
  deriving DecidableEq, Repr

/-- What a configuration access names: class code, header type, BAR0 (low and high half), Slot Capabilities, Slot Status, Link
Capabilities, Link Status, or any other word by its number. -/
inductive CfgReg where
  | classCode | headerType | barLo | barHi | slotCaps | slotStatus | linkCaps | linkStatus
  | other (n : Fin 1024)
  deriving DecidableEq, Repr

/-- A configuration access (R68): the function, what it names, and the value of a write. -/
structure CfgAccess where
  fn : CfgFn
  reg : CfgReg
  write : Option (Fin (2 ^ 32))
  deriving DecidableEq, Repr

/-- The header of an arriving message: its tag, the port ID it is routed by, if any (R70), kind and flow-control class, the lead cell and logical device it is routed to,
its payload and header bytes, the address of a request, its access kind under R240 (0: it addresses no memory) and the bytes it covers,
what a coherent request carries, the class, berth and colour fields of an FNL header, the tag of the request that a response
answers, what sets a TLP apart (R65), and a configuration access to the module's own functions (R68, R76). -/
structure MsgHeader where
  id : Nat
  port : Option (Fin 4096)
  kind : MsgKind
  fc : FcClass
  out : Fin 1024
  ld : Option (Fin 16)
  bytes : Fin 4097
  header : Fin 65
  addr : Fin (2 ^ 52)
  access : Fin 9
  len : Fin 4097
  coh : Option CohReq
  hclass : Fin 8
  hberth : Fin 64
  hcolour : Fin 4
  answers : Nat
  mark : TlpMark
  cfg : Option CfgAccess
  deriving DecidableEq, Repr


/-- A lane's present adaptation (R252): CTLE peaking code, VGA gain code, the twelve DFE taps as their register codes. -/
structure LaneSettings where
  peak : Fin 16
  gain : Fin 64
  taps : List (Fin 128)
  deriving DecidableEq, Repr

/-- A training block of FNL (R290): slot 0 of a TRAIN codeword. -/
structure TrainBlock where
  phase : Fin 5
  role : Bool
  moduleId : Fin 16
  rates : Fin 4
  width : Fin 6
  good : Fin 65536
  rxNext : Fin 4096
  resumeOk : Bool
  depth : Fin 65536
  credits : List (Fin 65536)
  deriving DecidableEq, Repr

/-- The two planes of a seam and of the Rose. -/
inductive Plane where
  | a | b
  deriving DecidableEq, Repr

/-- What a USP or DSP pleat finds as it trains (R61, R62, R69): the good lanes by link-lane number, the rates and flit modes the partner
supports (as CEL.PERSONA codes them), whether it negotiates CXL, and how many logical devices it reports (0: it is not a
multi-logical device). -/
structure CxlTraining where
  good : Fin 65536
  rates : Fin 64
  flits : Fin 8
  cxl : Bool
  lds : Nat
  deriving DecidableEq, Repr

/-- The actions of Physical Port Control (R72). -/
inductive PortAct where
  | assertPerst | deassertPerst | resetPpb
  deriving DecidableEq, Repr

/-- A CXL.io request the Pilot sends through the module (R72): whether it writes, its address or register number, its data. -/
structure FmRequest where
  write : Bool
  addr : Fin (2 ^ 64)
  data : List (Fin 256)
  deriving DecidableEq, Repr

/-- The header of a write to the Lodestar aperture: the logical device it comes from, and the berth, class and colour fields of an FNL
header (R127, R128, R143). -/
structure SyncHeader where
  ld : Option (Fin 16)
  hberth : Fin 64
  hclass : Fin 8
  hcolour : Fin 4
  deriving DecidableEq, Repr

/-- What a quarter's presence input shows (R83, R91): whether a cable end is seated, and whether that has been stable for the debounce
time. -/
structure PresenceLevel where
  seated : Bool
  stable : Bool
  deriving DecidableEq, Repr

/-- A write to BAR0 (R445): its size in bytes and its word. -/
structure BarWrite where
  size : Fin 65
  word : Fin (2 ^ 32)
  deriving DecidableEq, Repr

/-- A host's write to an emulated slot (R76): its power controller, its attention indicator, the events of its status that it clears. -/
inductive SlotAct where
  | power (on : Bool)
  | attention (on : Bool)
  | clearStatus (mask : Fin 512)
  deriving DecidableEq, Repr

/-- A command to the block: one constructor for every row of the opcode table. -/
inductive Instr where
  /-- REFERENCE_FAILURE (R20). The monitor declares a reference failed, either after 100 ns with no edge or when a 10 µs frequency window falls outside the band. -/
  | referenceFailure (r : RefIn) (t : Nat)
  /-- REFERENCE_RECOVERED (R20). A failed reference that has stayed in band for 10 ms counts as good again, which also ends holdover when one is running. -/
  | referenceRecovered (r : RefIn) (t : Nat)
  /-- HOLDOVER_EXPIRED (R22). The holdover limit expires with both references still failed, so the chip collector raises C3 and the safe state follows. -/
  | holdoverExpired (t : Nat)
  /-- REFERENCE_REVERT (R23). With REVERT set, the preferred reference has been good for REVERT_HOLD and the selector switches back to it. -/
  | referenceRevert (t : Nat)
  /-- REFERENCE_FORCE (R23). A Helm write of HUB.REFCTL.FORCE forces a reference, or sets FORCE_IGNORED when the forced reference has failed. -/
  | referenceForce (src : Sess) (force : Fin 4)
  /-- REFERENCE_TAKE_AT_START (R24). At power-on or a reset, the selector takes a reference once it has been good for 100 µs. -/
  | referenceTakeAtStart (r : RefIn) (t : Nat)
  /-- REFERENCE_START_TIMEOUT (R24). At start-up the 2 ms fallback limit or the 20 ms no-reference limit expires; after 20 ms the module stays in reset with the reference fault bit set. -/
  | referenceStartTimeout (t : Nat)
  /-- SSC_MEASUREMENT (R27). Every 1 ms, HUB.SSCMEAS is updated; a spread above 5,500 ppm sets SSC_OOR, counts a C0 event and raises NOTICE. -/
  | sscMeasurement (spread : Fin 1024) (modfreq : Fin 1024)
  /-- ROOT_PLL_UNLOCK (R313). The root PLL has been out of lock for 1 µs, which is a class C3 fault. -/
  | rootPllUnlock
  /-- ROOT_PLL_LOCK (R404). The root PLL locks after a reference is taken; when it has not locked within 5 ms, SSW bit 11 is set. -/
  | rootPllLock (t : Nat) (locked : Bool)
  /-- CHART_LOAD (R46). CMD LOAD starts a full load of the image in CHT.BUF, beginning with the checks. -/
  | chartLoad (src : Sess)
  /-- CHART_AMEND (R48). CMD AMEND starts an amendment of the chart in force from the image in CHT.BUF. -/
  | chartAmend (src : Sess)
  /-- CHART_QUIESCE (R45). CMD QUIESCE stops admission and credit return, and STATE reads QUIESCING. -/
  | chartQuiesce (src : Sess)
  /-- CHART_RESUME (R45). CMD RESUME in QUIESCED state releases the links under the chart in force. -/
  | chartResume (src : Sess)
  /-- CHART_REBASE (R53). CMD REBASE checks a rebase image against CHT.EFFDIGEST and requests leave of kind 0x9. -/
  | chartRebase (src : Sess)
  /-- CHART_ABORT (R50). CMD ABORT stops a chart operation before its commit with result ABORTED; after the commit it is ignored. -/
  | chartAbort (src : Sess)
  /-- QUIESCE_DRAINED (R45). Bolt memory, staging, trackers and copy jobs are empty, so the links are held in reset and STATE reads QUIESCED. -/
  | quiesceDrained (t : Nat)
  /-- QUIESCE_WAIT_EXPIRED (R45). QUIESCE_WAIT runs out, held messages are flushed with LINK_DOWN replies, and the quiesce completes. -/
  | quiesceWaitExpired (t : Nat)
  /-- CHART_CHECKS_DONE (R43). The hash, signature, generation, scope, consistency and resource checks of an image finish; the image is refused with a result code or goes on to leave. -/
  | chartChecksDone (t : Nat)
  /-- CHART_LEAVE_WAIT_EXPIRED (R46). No slip is granted within LEAVE_WAIT, so the image is refused with LEAVE_REFUSED. -/
  | chartLeaveWaitExpired (t : Nat)
  /-- CHART_COMMIT_DONE (R48). The flash write and Almanac commit finish, the generation registers update, and the apply point is reached. -/
  | chartCommitDone (t : Nat)
  /-- AMENDMENT_APPLY_DONE (R48). Every unit has changed in three stages, gate transitions and cell resets included; RESULT reads OK and DONE is set. -/
  | amendmentApplyDone (t : Nat)
  /-- CHART_BUF_WRITE (R58). A write to CHT.BUF stores image bytes, or is refused with RETRY while STATE is not IDLE or QUIESCED. -/
  | chartBufWrite (src : Sess) (word : Fin (2 ^ 23)) (w : Fin (2 ^ 32))
  /-- LOGREAD_DATA_READ (R58). A read of CHT.LOGREAD.DATA returns the next 4 log bytes and advances the pointer. -/
  | logreadDataRead (src : Sess)
  /-- CHART_STARTUP (R54). After the management boot, the base chart is loaded and checked and the journal replayed, or the null chart comes up with BASE_FAIL or REPLAY_FAIL. -/
  | chartStartup (t : Nat)
  /-- CXL_LINK_UP (R62). A USP or DSP pleat finishes training at a chosen width, rate and flit mode; held messages flow and grace handling follows R301. -/
  | cxlLinkUp (p : Fin 1024) (a : CxlTraining) (t : Nat)
  /-- CXL_TRAINING_FAILED (R62). No usable rate is found, so training fails and the link retries from Detect. -/
  | cxlTrainingFailed (p : Fin 1024) (t : Nat)
  /-- PARTNER_RECOVERY_CHANGE (R63). A partner starts a rate or width change in Recovery; the pleat retrains to its own width and rate or takes the link down. -/
  | partnerRecoveryChange (p : Fin 1024) (retrains : Bool) (t : Nat)
  /-- PBR_ADV (R71). A port-ID advertisement is received; a local ID that collides sets COLLISION, is counted and raises BINDING. -/
  | pbrAdv (p : Fin 1024) (ids : List (Fin 4096))
  /-- IDENTIFY_SWITCH_DEVICE (R72). FM API 0x5100 reports the port-directory entries and 64 virtual switches. -/
  | identifySwitchDevice (src : Sess)
  /-- GET_PHYSICAL_PORT_STATE (R72). FM API 0x5101 returns the state of port-directory pleats. -/
  | getPhysicalPortState (src : Sess) (ports : List (Fin 256))
  /-- PHYSICAL_PORT_CONTROL (R72). FM API 0x5102 asserts PERST, deasserts PERST or resets the PPB of a DSP pleat. -/
  | physicalPortControl (src : Sess) (port : Fin 256) (act : PortAct)
  /-- SEND_PPB_CXLIO_CONFIG_REQUEST (R72). FM API 0x5103 sends a configuration request to a DSP pleat. -/
  | sendPpbCxlioConfigRequest (src : Sess) (port : Fin 256) (q : FmRequest) (answer : Option (List (Fin 256)))
  /-- GET_VIRTUAL_CXL_SWITCH_INFO (R72). FM API 0x5200 returns information on all 64 virtual switches. -/
  | getVirtualCxlSwitchInfo (src : Sess)
  /-- BIND_VPPB (R73). FM API 0x5201 checks the request, answers Background Command Started and requests a tack advance for the binding. -/
  | bindVppb (src : Sess) (v : Fin 256) (i : Fin 256) (port : Fin 256) (ld : Fin 65536)
  /-- UNBIND_VPPB (R74). FM API 0x5202 unbinds at once under option 2, or starts the wait of option 0 or 1. -/
  | unbindVppb (src : Sess) (v : Fin 256) (i : Fin 256) (option : Fin 16)
  /-- GENERATE_AER_EVENT (R72). FM API 0x5203 generates an AER event at a bound vPPB. -/
  | generateAerEvent (src : Sess) (v : Fin 256) (i : Fin 256) (err : Fin (2 ^ 32))
  /-- TUNNEL_MANAGEMENT_COMMAND (R72). FM API 0x5300 tunnels a command to the FM-owned logical device of an MLD. -/
  | tunnelManagementCommand (src : Sess) (port : Fin 256) (q : List (Fin 256)) (answer : Option (List (Fin 256)))
  /-- SEND_LD_CXLIO_CONFIG_REQUEST (R72). FM API 0x5301 sends a configuration request to a logical device. -/
  | sendLdCxlioConfigRequest (src : Sess) (port : Fin 256) (ld : Fin 65536) (q : FmRequest) (answer : Option (List (Fin 256)))
  /-- SEND_LD_CXLIO_MEMORY_REQUEST (R72). FM API 0x5302 sends a memory request to a logical device. -/
  | sendLdCxlioMemoryRequest (src : Sess) (port : Fin 256) (ld : Fin 65536) (q : FmRequest) (answer : Option (List (Fin 256)))
  /-- BIND_PLEAT (R72). Vendor command 0xC101 binds as Bind vPPB, naming a 10-bit lead cell. -/
  | bindPleat (src : Sess) (v : Fin 256) (i : Fin 256) (p : Fin 1024) (ld : Fin 65536)
  /-- UNBIND_PLEAT (R72). Vendor command 0xC102 unbinds as Unbind vPPB, naming a 10-bit lead cell. -/
  | unbindPleat (src : Sess) (p : Fin 1024) (ld : Fin 65536) (option : Fin 16)
  /-- GET_BINDING_STATE (R72). Vendor command 0xC103 returns the binding and tack registers of one pleat. -/
  | getBindingState (src : Sess) (p : Fin 1024)
  /-- TACK_ADVANCE (R79). A binding point's tack advances once a slot is free; the old value starts draining and the pending bind or unbind records its binding and completes. -/
  | tackAdvance (p : Fin 1024) (ld : Fin 17) (t : Nat)
  /-- TACK_SLOT_WAIT_EXPIRED (R79). SLOT_WAIT expires with no free tack slot, so the command fails with Retry Required and nothing changes. -/
  | tackSlotWaitExpired (t : Nat)
  /-- TACK_RETIRE (R79). A draining tack whose outstanding count is zero and which stopped being current at least 1 ms ago retires. -/
  | tackRetire (p : Fin 1024) (ld : Fin 17) (tack : Fin 256) (t : Nat)
  /-- RESPONSE_WAIT_EXPIRED (R80). RSP_WAIT expires for a delivered request; its record is dropped and it leaves the outstanding count. -/
  | responseWaitExpired (p : Fin 1024) (id : Nat) (t : Nat)
  /-- UNBIND_WAIT_SATISFIED (R74). The wait of unbind option 0 or 1 is met (link down, or Power Controller Off), so the tack advance and unbind proceed. -/
  | unbindWaitSatisfied (t : Nat)
  /-- UNBIND_WAIT_EXPIRED (R74). UNBIND_WAIT expires, so the binding stays and the command completes Retry Required with TIMEOUT. -/
  | unbindWaitExpired (t : Nat)
  /-- SLOT_CONTROL_WRITE (R76). A host write to an emulated vPPB slot control, such as Power Controller Off or On, holds or releases the bound pleat's link and PERST. -/
  | slotControlWrite (v : Fin 64) (i : Fin 256) (act : SlotAct)
  /-- PRESENCE_DEBOUNCED (R83). A presence change has stayed stable for DEBOUNCE, so PRESENT updates, PRESENCE_CHG is set, the vPPB is notified and training may start. -/
  | presenceDebounced (q : Fin 256) (level : PresenceLevel) (t : Nat)
  /-- PERST_IN_CHANGE (R85). A host drives PERST_L low or releases it on a USP quarter, holding the pleat in full reset or freeing it. -/
  | perstInChange (q : Fin 256) (low : Bool)
  /-- MESSAGE_INGRESS (R98). A message header arrives in staging; it is charged to its dedicated partition and, when green, moved to the shared area. -/
  | messageIngress (p : Fin 1024) (m : MsgHeader) (t : Nat)
  /-- ADMISSION_REQUEST (R105). A staging head asks the egress region's admission unit for admission and receives GRANT with its charges recorded, or WAIT. -/
  | admissionRequest (p : Fin 1024) (fc : FcClass) (g : Fin 8) (t : Nat)
  /-- OUTPUT_NEXT_MESSAGE (R130). At a message boundary, the output arbiter picks the next message by strict class, DWRR and weighted berth choice. -/
  | outputNextMessage (o : Fin 1024) (t : Nat)
  /-- SEGMENT_RELEASE (R106). A segment's last byte is handed to the link layer; at a message's last segment, its charges are credited back and quota flags may clear. -/
  | segmentRelease (o : Fin 1024) (t : Nat)
  /-- CUT_THROUGH_GAP (R111). A cut-through output finds its next segment absent and fills with hold markers or empty slots, counting UNDERRUNS. -/
  | cutThroughGap (o : Fin 1024) (slots : Nat) (t : Nat)
  /-- POISON_FILL (R112). A gap lasts STALL_MAX, so the message is completed with poisoned filler, POISON is raised and its input cell and class are demoted. -/
  | poisonFill (o : Fin 1024) (t : Nat)
  /-- DEMOTION_END (R112). The demotion time of an input cell and class runs out, and cut-through is possible again. -/
  | demotionEnd (g : Fin 8) (p : Fin 1024) (cls : Fin 8) (t : Nat)
  /-- SEAM_SLOT_RECEIVE (R304). A seam slot arrives; parity is checked, the segment is reordered and written to bolt memory, or a resend is requested. -/
  | seamSlotReceive (o : Fin 1024) (id : Nat) (idx : Fin 64) (pl : Plane) (h : Fin 40) (data : Nat) (sp0 : Fin 256) (sp1 : Fin 256) (rose : Bool) (t : Nat)
  /-- SEAM_RESEND_RECEIVE (R304). A resent slot arrives; it is compared with the discarded copy and the wire error counts are raised. -/
  | seamResendReceive (o : Fin 1024) (id : Nat) (idx : Fin 64) (pl : Plane) (h : Fin 40) (data : Nat) (sp0 : Fin 256) (sp1 : Fin 256) (rose : Bool) (t : Nat)
  /-- SEAM_RESET_COMMAND (R306). A Helm write of SEAM.CTL.RESET_A or RESET_B starts a plane reset. -/
  | seamResetCommand (src : Sess) (g : Fin 8) (pl : Plane)
  /-- SEAM_RESET_DONE (R306). The plane has trained with the spare map applied and carries traffic again. -/
  | seamResetDone (g : Fin 8) (pl : Plane) (t : Nat)
  /-- ROSE_PLANE_LOSS (R307). A C2 fault takes out one Rose plane; traffic moves to the surviving plane, retry rings resend, SPEEDUP reads 115 and DEGRADED is raised. -/
  | rosePlaneLoss (pl : Plane) (t : Nat)
  /-- REGEN_RELOCK_TIMEOUT (R308). A region's clock regenerator has not relocked within 8 µs. -/
  | regenRelockTimeout (g : Fin 8) (t : Nat)
  /-- BOLT_ROW_RETIRE (R351). A bolt row with no spare is taken out of service once both its segments are free and F is at least 2; CAPACITY and F fall by 2. -/
  | boltRowRetire (g : Fin 8) (e : Fin 16) (t : Nat)
  /-- WEIGHT_REFRESH (R134). Every 256 CK_CORE cycles, every arbiter input's weight is recomputed from its active sources. -/
  | weightRefresh (t : Nat)
  /-- SHAPER_SLOT (R139). A parked shaper's wheel slot comes round; it accrues and is released or parked again. -/
  | shaperSlot (o : Fin 1024) (j : Fin 16) (t : Nat)
  /-- QUEUE_SAMPLE (R151). Every 1 µs, each region samples the depth and sojourn of all its queues into the histogram bins. -/
  | queueSample (g : Fin 8) (t : Nat)
  /-- QHIST_CLEAR (R152). A write of 1 to RGN.QHISTCTL.CLR clears every histogram of the region. -/
  | qhistClear (src : Sess) (g : Fin 8)
  /-- TACK_COUNTS_CLEAR (R90). A write of 1 to CEL.TACKCTL.CLR_COUNTS clears CEL.STALE. -/
  | tackCountsClear (src : Sess) (p : Fin 1024)
  /-- CTSTAT_CLEAR (R122). A write of 1 to RGN.CTSTAT.CLR clears UNDERRUNS, POISON_FILLS and CTHOLD.SLOTS. -/
  | ctstatClear (src : Sess) (g : Fin 8)
  /-- STG_PEAK_CLEAR (R120). A write of 1 to BLK.STGHOLD.CLR_PEAK clears PEAK. -/
  | stgPeakClear (src : Sess) (n : Fin 128) (c : Fin 8)
  /-- HOME_ADMISSION (R164). A coherent request asks its home over the sash and gets GRANT, WAIT or RETRY by trackers, tracker quota and line queue. -/
  | homeAdmission (p : Fin 1024) (fc : FcClass) (g : Fin 8) (t : Nat)
  /-- RD_S (R172). A read-to-share becomes active at its line and is served by the native or compatible transition table. -/
  | rdS (line : Fin (2 ^ 46)) (t : Nat)
  /-- RD_OWN (R172). A read for ownership becomes active at its line, invalidates the other holders and grants M. -/
  | rdOwn (line : Fin (2 ^ 46)) (t : Nat)
  /-- UPG (R172). An upgrade becomes active at its line and grants M without data, or is served as RD_OWN. -/
  | upg (line : Fin (2 ^ 46)) (t : Nat)
  /-- RD_CUR (R172). An uncached read becomes active at its line and returns the current value, snooping an M holder. -/
  | rdCur (line : Fin (2 ^ 46)) (t : Nat)
  /-- EVICT_S (R172). A clean eviction removes the requester as a sharer. -/
  | evictS (line : Fin (2 ^ 46)) (t : Nat)
  /-- WR_BACK (R172). The owner's write-back writes the line to the pool and leaves it I. -/
  | wrBack (line : Fin (2 ^ 46)) (t : Nat)
  /-- WR_CLEAN (R172). The owner's clean write writes the line to the pool and keeps it in S. -/
  | wrClean (line : Fin (2 ^ 46)) (t : Nat)
  /-- WR_FULL (R172). An uncached full-line write invalidates every holder, writes the pool and clears poison. -/
  | wrFull (line : Fin (2 ^ 46)) (t : Nat)
  /-- WR_PART (R172). An uncached partial write invalidates every holder and merges the masked bytes, keeping any poison. -/
  | wrPart (line : Fin (2 ^ 46)) (t : Nat)
  /-- SN_DATA (R183). A snoop to share from another module's home is mapped to this module's host. -/
  | snData (p : Fin 1024) (tag : Nat) (port : Fin 4096) (line : Fin (2 ^ 46)) (t : Nat)
  /-- SN_INV (R183). An invalidating snoop from another module's home is mapped to this module's host. -/
  | snInv (p : Fin 1024) (tag : Nat) (port : Fin 4096) (line : Fin (2 ^ 46)) (t : Nat)
  /-- SN_CUR (R183). A snoop for the current value from another module's home is mapped to this module's host. -/
  | snCur (p : Fin 1024) (tag : Nat) (port : Fin 4096) (line : Fin (2 ^ 46)) (t : Nat)
  /-- SR_I (R175). A snoop response reporting I, no data, completes the snoop at the home. -/
  | srI (port : Fin 4096) (line : Fin (2 ^ 46)) (t : Nat)
  /-- SR_S (R175). A snoop response reporting S, no data, completes the snoop at the home. -/
  | srS (port : Fin 4096) (line : Fin (2 ^ 46)) (t : Nat)
  /-- SR_I_DATA (R175). A snoop response reporting I with dirty data completes the snoop; the data is taken as the transaction requires. -/
  | srIData (port : Fin 4096) (line : Fin (2 ^ 46)) (data : Nat) (t : Nat)
  /-- SR_S_DATA (R175). A snoop response reporting S with dirty data completes the snoop; the data goes to the store or the pool. -/
  | srSData (port : Fin 4096) (line : Fin (2 ^ 46)) (data : Nat) (t : Nat)
  /-- SR_CUR_DATA (R172). An answer to SN_CUR carrying current data completes an RD_CUR with M kept by the holder. -/
  | srCurData (port : Fin 4096) (line : Fin (2 ^ 46)) (data : Nat) (t : Nat)
  /-- SR_CUR (R172). An answer to SN_CUR with no dirty data completes the snoop. -/
  | srCur (port : Fin 4096) (line : Fin (2 ^ 46)) (t : Nat)
  /-- BICONFLICT (R183). A host's BIConflict is answered with BIConflictAck once the snooping transaction has recorded the host's response. -/
  | biconflict (p : Fin 1024) (tag : Nat) (line : Fin (2 ^ 46)) (t : Nat)
  /-- POOL_RESPONSE (R181). A pool read returns or a pool write is acknowledged, letting the waiting home transaction reply or free its store entry. -/
  | poolResponse (line : Fin (2 ^ 46)) (write : Bool) (data : Nat) (poison : Bool) (status : Fin 11) (t : Nat)
  /-- SNOOP_TIMEOUT (R185). A snoop times out, or is answered UNBOUND, or its grace period flushes; the line is poisoned and MISSES rises. -/
  | snoopTimeout (line : Fin (2 ^ 46)) (a : Fin 64) (why : SnoopEnd) (t : Nat)
  /-- DEAD_AGENT_SWEEP_DONE (R188). The sweep of every directory partition for a dead agent ends, sets SWEPT and starts any queued sweep. -/
  | deadAgentSweepDone (t : Nat)
  /-- AGENT_REVIVE (R188). A write of 1 to HUB.AGENT[a].REVIVE revives a swept dead agent, or is refused DENIED. -/
  | agentRevive (src : Sess) (a : Fin 64)
  /-- WRITE_BEHIND (R177). An O line reaches its write-behind horizon, or is over budget after an amendment, and is written to the pool and leaves O. -/
  | writeBehind (line : Fin (2 ^ 46)) (t : Nat)
  /-- WINDOW_FLUSH_START (R197). A write of 1 to HUB.WFLUSH.START requests leave to flush the named shared window. -/
  | windowFlushStart (src : Sess)
  /-- WINDOW_FLUSH_DONE (R197). Every slice has finished scanning the window, so DONE is set and LIVE is updated. -/
  | windowFlushDone (t : Nat)
  /-- HOME_SLICE_FAILOVER (R191). A C2 fault retires a slice's logic; its slots are held, a new home is chosen and HOMEMAP is moved. -/
  | homeSliceFailover (n : Fin 72) (t : Nat)
  /-- SHADOW_REISSUE (R192). Each cell re-issues, oldest first, the shadows whose slot moved, raising COUNT and setting REPLAY. -/
  | shadowReissue (p : Fin 1024) (t : Nat)
  /-- HOME_FAILOVER_DONE (R192). Service is normal again and HOME is raised to the Pilot and the affected berths. -/
  | homeFailoverDone (t : Nat)
  /-- HBM_STACK_LOSS (R194). A C2 fault retires an HBM stack; every slot of its region moves in unknown mode, its objects are lost and DEGRADED is raised. -/
  | hbmStackLoss (g : Fin 8) (t : Nat)
  /-- HOME_WORK_RESTART (R473). Write-behind, flush or sweep work of a failed slice restarts at the new home once re-issue is admitted. -/
  | homeWorkRestart (n : Fin 72) (t : Nat)
  /-- TRK_PEAK_CLEAR (R200). A write of 1 to HOM.TRK.CLR_PEAK clears PEAK. -/
  | trkPeakClear (src : Sess) (n : Fin 72)
  /-- LODESTAR_COMMAND_WRITE (R211). A 64 B write to a command slot sets the record PENDING, or sets OVERRUN when it already was, or is refused as malformed; the command goes to its object's home. -/
  | lodestarCommandWrite (p : Fin 1024) (id : Nat) (h : SyncHeader) (off : Fin (2 ^ 26)) (bytes : List (Fin 256)) (t : Nat)
  /-- FETCH_ADD (R212). FETCH_ADD adds A to the word, returns the old word and wakes waiters under WAKE. -/
  | fetchAdd (ch : Fin 4096) (k : Fin 64) (t : Nat)
  /-- COMPARE_SWAP (R212). COMPARE_SWAP sets the word to B when it equals A and returns the old word. -/
  | compareSwap (ch : Fin 4096) (k : Fin 64) (t : Nat)
  /-- SWAP (R212). SWAP sets the word to A and returns the old word. -/
  | swap (ch : Fin 4096) (k : Fin 64) (t : Nat)
  /-- WAIT (R212). WAIT completes at once when the word differs from A, or parks in the waiter table. -/
  | wait (ch : Fin 4096) (k : Fin 64) (t : Nat)
  /-- NOTIFY (R214). NOTIFY wakes the oldest, or every, WAIT already parked on the word. -/
  | notify (ch : Fin 4096) (k : Fin 64) (t : Nat)
  /-- BARRIER (R216). BARRIER records an arrival; the P-th arrival completes all parked arrivals and raises the generation. -/
  | barrier (ch : Fin 4096) (k : Fin 64) (t : Nat)
  /-- LOCK (R215). LOCK grants shared or exclusive mode at once, or parks in first-in, first-out order. -/
  | lock (ch : Fin 4096) (k : Fin 64) (t : Nat)
  /-- UNLOCK (R215). UNLOCK releases one hold and hands the lock over, or completes DENIED NOT_OWNER. -/
  | unlock (ch : Fin 4096) (k : Fin 64) (t : Nat)
  /-- GROUP_CREATE (R218). GROUP_CREATE makes a wait group in the berth's range live, with its detection interval. -/
  | groupCreate (ch : Fin 4096) (k : Fin 64) (t : Nat)
  /-- GROUP_JOIN (R212). GROUP_JOIN adds the issuing channel as a member of the group. -/
  | groupJoin (ch : Fin 4096) (k : Fin 64) (t : Nat)
  /-- GROUP_LEAVE (R212). GROUP_LEAVE removes the issuing channel from the group. -/
  | groupLeave (ch : Fin 4096) (k : Fin 64) (t : Nat)
  /-- GROUP_DESTROY (R212). GROUP_DESTROY makes a group with no members not live. -/
  | groupDestroy (ch : Fin 4096) (k : Fin 64) (t : Nat)
  /-- OBJ_ALLOC (R207). OBJ_ALLOC allocates the lowest free object of the requested type within the berth's quota. -/
  | objAlloc (ch : Fin 4096) (k : Fin 64) (t : Nat)
  /-- OBJ_FREE (R212). OBJ_FREE frees the object and completes its parked commands with DENIED NO_OBJECT. -/
  | objFree (ch : Fin 4096) (k : Fin 64) (t : Nat)
  /-- LODESTAR_RESULT_RETURN (R213). A result reaches the channel's home and is written into the result record, which reads DONE. -/
  | lodestarResultReturn (ch : Fin 4096) (k : Fin 64) (t : Nat)
  /-- PARKED_TIMEOUT (R214). A parked command's timeout expires; it completes TIMEOUT and is withdrawn from its lock queue or barrier. -/
  | parkedTimeout (ch : Fin 4096) (k : Fin 64) (t : Nat)
  /-- ALL_WAITING_FREEZE (R220). A group's detection interval ends with every member parked, so a freeze goes out to the slices holding its commands. -/
  | allWaitingFreeze (grp : Fin 65536) (t : Nat)
  /-- ALL_WAITING_DECISION (R220). The freeze reports are in; the group commits ALL_WAITING and raises SYNC, or thaws and restarts the interval. -/
  | allWaitingDecision (grp : Fin 65536) (t : Nat)
  /-- LDS_PEAK_CLEAR (R234). A write of 1 to LDS.STAT.CLR_PEAK clears PEAK. -/
  | ldsPeakClear (src : Sess) (n : Fin 72)
  /-- COPY (R227). A COPY descriptor is written to a copy channel slot and queued in its engine. -/
  | copy (p : Fin 1024) (id : Nat) (h : SyncHeader) (off : Fin (2 ^ 26)) (bytes : List (Fin 256)) (t : Nat)
  /-- ZERO (R227). A ZERO descriptor is written to a copy channel slot and queued in its engine. -/
  | zero (p : Fin 1024) (id : Nat) (h : SyncHeader) (off : Fin (2 ^ 26)) (bytes : List (Fin 256)) (t : Nat)
  /-- SANITIZE (R227). A SANITIZE descriptor is written to a copy channel slot and queued in its engine. -/
  | sanitize (p : Fin 1024) (id : Nat) (h : SyncHeader) (off : Fin (2 ^ 26)) (bytes : List (Fin 256)) (t : Nat)
  /-- COPY_JOB_START (R228). A queued job starts once its berth's share, its FENCE and leave allow it. -/
  | copyJobStart (g : Fin 8) (t : Nat)
  /-- COPY_CHUNK_DONE (R228). A 4 KiB chunk of a running job finishes, with gate checks; the next turn follows, or the job completes its record. -/
  | copyChunkDone (g : Fin 8) (data : List Nat) (dirty : List Nat) (t : Nat)
  /-- COPY_LEAVE_WAIT_EXPIRED (R229). The first grant does not come within LEAVE_WAIT, so the job at the queue head completes RETRY with detail LEAVE. -/
  | copyLeaveWaitExpired (g : Fin 8) (t : Nat)
  /-- COPY_LEAVE_RENEW (R229). Every 1 ms the engine renews its slip; a refusal pauses running jobs at their next chunk boundary. -/
  | copyLeaveRenew (g : Fin 8) (t : Nat)
  /-- COPY_ENGINE_FAILURE (R230). An engine fails or its region powers off; its jobs complete UNKNOWN_OUTCOME, written by the next powered region. -/
  | copyEngineFailure (g : Fin 8) (t : Nat)
  /-- MGT_COPY_SUBMIT (R231). A write of 1 to CPE.MGTSUBMIT.GO submits the management descriptor as one job outside every share. -/
  | mgtCopySubmit (src : Sess) (g : Fin 8)
  /-- VIOL_CLEAR (R246). A write of 1 to GAT.VIOL.VALID frees the violation record. -/
  | violClear (src : Sess) (n : Fin 1098)
  /-- VIOL_COUNT_CLEAR (R246). A write of 1 to GAT.CTL.CLR_COUNT sets VIOL_COUNT to 0. -/
  | violCountClear (src : Sess) (n : Fin 1098)
  /-- SEXTANT_POINT_DONE (R256). A probe point's dwell ends; the FOM is recomputed, and at the end of a pass re-centring or a CTLE trial may be requested. -/
  | sextantPointDone (l : Fin 2048) (mismatches : Nat) (t : Nat)
  /-- FOM_TICK (R257). A FOM tick ends; a lane below LOW throughout counts a low-FOM event, which may direct a CXL link into Recovery. -/
  | fomTick (p : Fin 1024) (t : Nat)
  /-- RANGE_CHANGE_REQUEST (R254). A fine code has stayed at an end for 1 µs, so the lane requests a range change and starts a 2 µs trial. -/
  | rangeChangeRequest (l : Fin 2048) (vga : Bool) (up : Bool) (t : Nat)
  /-- TRIAL_RETRY (R266). 8 µs after a deferred trial, the trial is run again. -/
  | trialRetry (l : Fin 2048) (t : Nat)
  /-- TRIAL_END (R266). A trial ends and the range change is applied as pending, rejected, deferred, or decided at DEFER_MAX. -/
  | trialEnd (l : Fin 2048) (t1 : Fin 256) (t2 : Fin 256) (pushing : Bool) (t : Nat)
  /-- QUIET_WINDOW_GRANT (R260). The sender grants a partner's quiet-window request once its budget holds LEN, marking QW_GO and sending idles. -/
  | quietWindowGrant (p : Fin 1024) (t : Nat)
  /-- NATURAL_GAP (R262). On a CXL pleat, 40 ns without data from the partner lets pending steps be made. -/
  | naturalGap (p : Fin 1024) (t : Nat)
  /-- SUSPECT_STEP (R263). A step has waited GAP_WAIT, so it is made with suspect marking; four codewords or flits are discarded and NAKed. -/
  | suspectStep (l : Fin 2048) (t : Nat)
  /-- PRESET_WRITE (R268). A lane up for 1 s at target FOM with changed settings writes its preset record, at most once every 10 s. -/
  | presetWrite (l : Fin 2048) (a : LaneSettings) (t : Nat)
  /-- THRESH_WRITE (R258). A write to SXT.THRESH is applied, or refused DENIED when it breaks the threshold order. -/
  | threshWrite (src : Sess) (l : Fin 2048) (target : Fin 256) (attn : Fin 256) (low : Fin 256)
  /-- SWEEP_START (R270). A write of 1 to HUB.SWEEP.START starts a bulk sweep, requesting leave for more than 64 lanes. -/
  | sweepStart (src : Sess)
  /-- SWEEP_LANE_DONE (R270). A lane finishes its sweep and writes SXT.SWEEPRES; when every named lane is done, DONE is set. -/
  | sweepLaneDone (l : Fin 2048) (ho : Fin 257) (vo : Fin 257) (eye : Fin 3) (t : Nat)
  /-- CODEWORD_RECEIVE (R288). An FNL codeword is decoded and its header, ACK or NAK, credits and slots are handled, or it is counted uncorrectable and NAKed. -/
  | codewordReceive (p : Fin 1024) (cw : List (Fin 256)) (t : Nat)
  /-- TRAIN (R290). A TRAIN control codeword delivers a training block. -/
  | train (p : Fin 1024) (b : TrainBlock)
  /-- RESET_REQ (R281). A RESET_REQ control codeword takes the link down with cause 0x7. -/
  | resetReq (p : Fin 1024)
  /-- CREDIT_SYNC (R286). A CREDIT_SYNC request is answered with CREDIT_TOTALS in the next codeword. -/
  | creditSync (p : Fin 1024)
  /-- CREDIT_TOTALS (R286). Received credit totals reset each VC's returned count and add the difference to the holder's credits. -/
  | creditTotals (p : Fin 1024) (totals : List (Fin 65536))
  /-- RETIRE (R281). A RETIRE control codeword tells the receiver that the sender is retiring the link. -/
  | retire (p : Fin 1024)
  /-- CREDIT_SYNC_TIMEOUT (R286). No CREDIT_TOTALS arrives within 1 µs, so CREDIT_SYNC is sent again. -/
  | creditSyncTimeout (p : Fin 1024) (t : Nat)
  /-- NAK_TIMEOUT (R288). A NAK has stayed outstanding for TIMEOUT, so it is sent again. -/
  | nakTimeout (p : Fin 1024) (t : Nat)
  /-- REPLAY_TIMEOUT (R289). The oldest outstanding codeword goes unacknowledged for TIMEOUT; the sender replays, or takes the link down at REPLAY_MAX. -/
  | replayTimeout (p : Fin 1024) (t : Nat)
  /-- FNL_TRAINING_PHASE (R290). An FNL training phase completes, moving to the next phase, falling back to 56 Gbit/s or failing training. -/
  | fnlTrainingPhase (p : Fin 1024) (good : Fin 65536) (t : Nat)
  /-- FNL_LINK_UP (R292). After READY, the link comes up and resumes with its sequence and credits, or comes up fresh with the held traffic flushed. -/
  | fnlLinkUp (p : Fin 1024) (t : Nat)
  /-- PRESET_RESET_TIMEOUT (R291). A lane is not good within the preset-reset limit, so the reset becomes a cold train. -/
  | presetResetTimeout (p : Fin 1024) (t : Nat)
  /-- WATCH_END (R293). A watch ends; the MAX counts update and the uncorrectable and low-FOM counts return to 0. -/
  | watchEnd (p : Fin 1024) (t : Nat)
  /-- LOSS_OF_SIGNAL (R294). Loss of signal on every lane for 1 µs takes the link down with cause 0x8. -/
  | lossOfSignal (p : Fin 1024) (t : Nat)
  /-- GRACE_EXPIRED (R297). The grace period expires, so held traffic is flushed with LINK_DOWN replies and FLUSHED is set. -/
  | graceExpired (p : Fin 1024) (t : Nat)
  /-- LINK_RESET_COMMAND (R294). A write of 1 to FNL.RETIRECTL.RESET takes the link down with cause 0x9, or is refused while it is retired. -/
  | linkResetCommand (src : Sess) (p : Fin 1024)
  /-- LINK_UNRETIRE (R300). A write of 1 to FNL.RETIRECTL.UNRETIRE clears retirement. -/
  | linkUnretire (src : Sess) (p : Fin 1024)
  /-- CXL_REPLAY_TIMEOUT (R301). A CXL or PCIe replay or retry timer expires, so the link replays or retries and may enter Recovery. -/
  | cxlReplayTimeout (p : Fin 1024) (again : Bool) (t : Nat)
  /-- ERROR_LINE_EVENT (R315). A collector takes an error event, counts it, fills its first-source record or PENDING, repeats it upward, and at HUB starts any C2 or C3 reaction. -/
  | errorLineEvent (c : Collector) (events : List (Fin 32 × FaultClass))
  /-- WIRING_FAULT (R317). A line reads invalid for 8 samples; it is masked, its WIRING bit is set and NOTICE is raised. -/
  | wiringFault (c : Collector) (i : Fin 32)
  /-- WIRING_POLL (R317). Every 10 µs, a masked input's source status is read and its events are handled. -/
  | wiringPoll (c : Collector) (i : Fin 32) (found : List FaultClass) (quiet : Bool) (t : Nat)
  /-- WIRING_REARM (R317). A write of 1 to a FLT.WIRING bit re-arms the line when it has been quiet for 1 ms. -/
  | wiringRearm (src : Sess) (c : Collector) (i : Fin 32)
  /-- INPUT_SERVICE_ENTRY (R319). An input enters SERVICE after its unit leaves reset and the line is quiet for 1 µs; a latched SSW bit retires the unit or holds the module in reset. -/
  | inputServiceEntry (c : Collector) (i : Fin 32)
  /-- INPUT_SERVICE_TIMEOUT (R319). A line is not quiet 1 ms after its unit leaves reset, so it enters SERVICE with a wiring fault. -/
  | inputServiceTimeout (c : Collector) (i : Fin 32)
  /-- FIRST_RECORD_CLEAR (R321). A write of 1 to FLT.FIRST.VALID clears the record, OVERFLOW and PENDING. -/
  | firstRecordClear (src : Sess) (c : Collector)
  /-- COLLECTOR_SELF_FAULT (R322). A collector's parity or duplicate check fails and it drives its fatal line, entering the safe state. -/
  | collectorSelfFault (c : Collector) (lasting : Bool)
  /-- SAFE_ENTER (R323). A Helm write of 1 to FLT.SAFE.ENTER enters the safe state. -/
  | safeEnter (src : Sess)
  /-- SAFE_DRAIN_END (R323). The drain ends; remaining requests get SAFE replies and every link is disabled. -/
  | safeDrainEnd (t : Nat)
  /-- SAFE_EXIT (R325). A Helm write of 1 to FLT.SAFE.EXIT starts the safe-state exit reset, or is refused while the cause persists. -/
  | safeExit (src : Sess)
  /-- C0_WINDOW_END (R328). The 1 s C0 window ends and its count restarts. -/
  | c0WindowEnd (t : Nat)
  /-- ATTENTION_ACK (R331). A write of FLT.ATTN[a].ACK_MASK clears the masked codes when ACK_SEQ equals SEQ, or sets STALE. -/
  | attentionAck (src : Sess) (a : Fin 66) (mask : Fin 65536)
  /-- FAULT_INJECT (R335). A Helm write of 1 to FLT.INJECT.GO injects one event of the chosen class on the chosen input. -/
  | faultInject (src : Sess) (c : Collector) (i : Fin 32) (cls : FaultClass)
  /-- CORRECTABLE_ERROR (R341). A read finds a correctable error; the data is corrected and written back, the error is logged and C0 counted. -/
  | correctableError (u : Fin 9) (p : ErrPlace) (after : Bool) (t : Nat)
  /-- UNCORRECTABLE_ERROR (R343). A read finds an uncorrectable error; the memory-specific reaction is applied and POISON is raised. -/
  | uncorrectableError (u : Fin 9) (p : ErrPlace) (w : Spoiled) (after : Bool) (t : Nat)
  /-- SCRUB_START (R344). A write of 1 to ECC.SCRUB.START, or to ROSESCRUB, requests leave for a scrub of a stack or macro group. -/
  | scrubStart (src : Sess) (u : Fin 9)
  /-- SCRUB_READ (R345). A scrub reads the next word or line in order and handles any error it finds. -/
  | scrubRead (u : Fin 9) (found : List MemError) (t : Nat)
  /-- SCRUB_LEAVE_RENEW (R344). Every 1 ms the scrub renews its slip; a refusal pauses it. -/
  | scrubLeaveRenew (u : Fin 9) (t : Nat)
  /-- SCRUB_DONE (R346). A scrub ends with its summary in ECC.SCRUBSUM and DONE set. -/
  | scrubDone (u : Fin 9) (t : Nat)
  /-- FUSE_BURN (R350). A Helm write of 1 to ECC.FUSECMD.BURN starts making a soft repair hard. -/
  | fuseBurn (src : Sess)
  /-- FUSE_BURN_DONE (R350). A repair burn ends, copying the spare, setting DONE or FAILED and dropping the Almanac record. -/
  | fuseBurnDone (ok : Bool) (t : Nat)
  /-- ORING_REVERSE (R358). Reverse current reaches 5 A and the feed's ORing FET turns off. -/
  | oringReverse (f : Fin 2) (t : Nat)
  /-- FEED_PRESENT (R363). A feed rises through 35.0 V and enters QUALIFY. -/
  | feedPresent (f : Fin 2) (v : Fin 1001) (t : Nat)
  /-- FEED_QUALIFIED (R359). A feed has stayed in range for QUAL and starts, enabling its hot-swap gate. -/
  | feedQualified (f : Fin 2) (t : Nat)
  /-- BULK_CAP_MEASURE (R366). The bulk node reaches 30 V in the first start and C is stored, setting CAP_LOW below 5,600 µF. -/
  | bulkCapMeasure (c : Fin 16384)
  /-- FEED_POWER_GOOD (R360). The bulk node reaches power-good; the feed is ON and the second feed may start. -/
  | feedPowerGood (f : Fin 2) (t : Nat)
  /-- FEED_START_TIMEOUT (R360). START_TIME expires without power-good, so the feed trips with cause START. -/
  | feedStartTimeout (f : Fin 2) (t : Nat)
  /-- GATE_CHECK_FAILURE (R364). The gate has not risen within 2 ms, so the FET is declared damaged and the feed is RETIRED. -/
  | gateCheckFailure (f : Fin 2) (t : Nat)
  /-- FEED_UNDERVOLTAGE (R359). A feed below 33.0 V for 10 µs turns its FET off and goes ABSENT, except during ride-through. -/
  | feedUndervoltage (f : Fin 2) (v : Fin 330) (t : Nat)
  /-- FEED_OVERVOLTAGE_LONG (R359). A feed above 75.5 V for 100 ms trips with OV_LONG. -/
  | feedOvervoltageLong (f : Fin 2) (t : Nat)
  /-- FEED_OVERVOLTAGE_FAST (R359). A feed above 85.0 V for 1 µs trips with OV_FAST. -/
  | feedOvervoltageFast (f : Fin 2) (t : Nat)
  /-- FEED_LIMIT_ENTER (R363). The feed's current reaches its limit and it enters LIMIT. -/
  | feedLimitEnter (f : Fin 2) (t : Nat)
  /-- FEED_LIMIT_EXIT (R363). The current stays below 57 A for 10 µs and the feed returns to ON. -/
  | feedLimitExit (f : Fin 2) (t : Nat)
  /-- FEED_OC_TRIP (R361). A feed limits for OC_TIME and trips, waiting for retry or latching off. -/
  | feedOcTrip (f : Fin 2) (t : Nat)
  /-- FEED_FAST_TRIP (R361). A feed's current reaches 120 A and its FET is off within 1 µs. -/
  | feedFastTrip (f : Fin 2) (t : Nat)
  /-- FEED_RETRY (R362). RETRY_INT elapses after a trip and the feed starts again. -/
  | feedRetry (f : Fin 2) (t : Nat)
  /-- FEED_TRIP_COUNT_CLEAR (R362). A feed has run ON for 60 s without a trip and its trip count returns to 0. -/
  | feedTripCountClear (f : Fin 2) (t : Nat)
  /-- FEED_CYCLED (R362). A feed below 33.0 V for 100 ms then qualifies again, releasing a latch-off or waking P3. -/
  | feedCycled (f : Fin 2) (v : Fin 1001) (t : Nat)
  /-- FEED_RELEASE (R362). A Helm write of 1 to PWR.FEEDCTL.RELEASE releases a latched feed. -/
  | feedRelease (src : Sess) (f : Fin 2)
  /-- FEED_UNRETIRE (R364). A Helm write of 1 to PWR.FEEDCTL.UNRETIRE clears a feed's retirement. -/
  | feedUnretire (src : Sess) (f : Fin 2)
  /-- RIDE_THROUGH_START (R368). Neither ORing FET has conducted for 2 µs, so ride-through begins. -/
  | rideThroughStart (vbus : Fin 1001) (t : Nat)
  /-- RIDE_THROUGH_END (R368). A feed conducts again before SHED_DELAY, ending ride-through with nothing shed and raising POWER. -/
  | rideThroughEnd (f : Fin 2) (t : Nat)
  /-- DATA_PLANE_SHED (R369). SHED_DELAY passes with no feed; admission stops, data-plane slips end and deferred requests are refused SHED. -/
  | dataPlaneShed (t : Nat)
  /-- SHED_PLANE_OFF (R369). The region and Rose-datapath regulators are off and the Almanac save is granted against the floor. -/
  | shedPlaneOff (t : Nat)
  /-- ALMANAC_SAVE_DONE (R395). A save finishes its image and header, sets PENDING, and the module proceeds to standby or the next step. -/
  | almanacSaveDone (t : Nat)
  /-- AVS_ACK_TIMEOUT (R373). An AVSBus request goes unacknowledged; it is resent, or the rail is frozen after FAIL_MAX. -/
  | avsAckTimeout (r : Fin 26)
  /-- RAIL_POLL (R373). Every 1 ms, every rail is read over PMBus. -/
  | railPoll (readings : List RailReading) (m : InputMeas) (t : Nat)
  /-- RAIL_FAULT (R374). A rail is 5% off its set voltage for 10 µs; its region is taken out of service, or C3 follows for VDD_ROSE or VDD_MGT. -/
  | railFault (r : Fin 26)
  /-- BROWN_OUT (R375). The always-on domain stays below 0.72 V for 2 µs, resets, is restored and raises POWER. -/
  | brownOut
  /-- LDO_GO_FULL (R376). A write of 1 to PWR.LDO.GO_FULL enters full mode under a named slip, or is refused DENIED. -/
  | ldoGoFull (src : Sess)
  /-- LDO_RETURN_LOW (R376). After the slip, the domain's current stays below 36 mA for 100 µs and the LDO returns to low-power mode. -/
  | ldoReturnLow (t : Nat)
  /-- LEAVE_REQUEST (R378). A heavy operation requests leave and is granted, deferred or refused by the decision procedure. -/
  | leaveRequest (q : Purpose) (t : Nat)
  /-- LEAVE_REDECIDE (R379). Every 10 µs, and at releases, expiries and budget changes, the deferred requests are decided again in order. -/
  | leaveRedecide (t : Nat)
  /-- LEAVE_RENEW (R378). A holder renews its slip, decided at once and never queued. -/
  | leaveRenew (i : Fin 32) (t : Nat)
  /-- SLIP_EXPIRY (R377). A slip's duration runs out and it ends, or an LDO slip is extended as an overstay. -/
  | slipExpiry (i : Fin 32) (t : Nat)
  /-- SLIP_RELEASE (R381). A write of 1 to LVC.CTL.RELEASE releases the writer's own slip. -/
  | slipRelease (src : Sess)
  /-- SLIP_RENEW (R381). A write of 1 to LVC.CTL.RENEW renews the writer's own slip. -/
  | slipRenew (src : Sess)
  /-- LEAVE_WITHDRAW (R381). A write of 1 to LVC.CTL.WITHDRAW withdraws the writer's deferred request. -/
  | leaveWithdraw (src : Sess)
  /-- LVC_REQUEST (R381). A write of 1 to LVC.REQ.GO submits a kind 0xB or 0xC request. -/
  | lvcRequest (src : Sess)
  /-- INPUT_PEAK_CLEAR (R384). A write of 1 to PWR.INPUT.CLR_PEAK clears P_PEAK. -/
  | inputPeakClear (src : Sess)
  /-- ENTER_P2 (R388). A Helm write of P2 to RST.PSTATE.REQ starts the entry to P2, or is refused with a REFUSE code. -/
  | enterP2 (src : Sess)
  /-- ENTER_P3 (R388). A Helm write of P3 to RST.PSTATE.REQ starts the entry to standby, or is refused with a REFUSE code. -/
  | enterP3 (src : Sess)
  /-- EXIT_P2 (R389). A Helm write of P0 from P2 powers and trains the attached regions as their slips are granted. -/
  | exitP2 (src : Sess)
  /-- PSTATE_ENTRY_COMPLETE (R388). After the quiesce and any save, the pads latch, the regulators switch off, and for P3 the FETs turn off. -/
  | pstateEntryComplete (t : Nat)
  /-- WAKE (R389). WAKE_L held low for 100 µs, or a cycled feed, starts the wake reset from P3. -/
  | wake (wakeL : Bool) (t : Nat)
  /-- PAD_RELEASE (R392). A write of 1 to RST.PADREL.RELEASE lets the held pads follow their rules and acts on changes recorded meanwhile. -/
  | padRelease (src : Sess)
  /-- POWER_ON_RESET (R398). The first feed reaches power-good with no image pending and the whole module but the Almanac resets. -/
  | powerOnReset (t : Nat)
  /-- FEED_RETURN_RESET (R398). The first feed reaches power-good after a shed; the module resets and restores the saved set. -/
  | feedReturnReset (t : Nat)
  /-- RESET_L (R399). RESET_L low for at least 2 µs resets the switch complex, HBM and management complex until it rises. -/
  | resetL (ns : Nat) (t : Nat)
  /-- WATCHDOG_EXPIRY (R400). The watchdog has not been kicked for TIMEOUT and resets as RESET_L does, deferred past a running save. -/
  | watchdogExpiry (t : Nat)
  /-- WATCHDOG_KICK (R400). A firmware write of 1 to RST.WDOG.KICK restarts the timeout. -/
  | watchdogKick (t : Nat)
  /-- BLOCK_SWRESET (R402). A write of 1 to BLK.SWRESET.GO resets one block's crossbar and cells, or is refused when it arrived through that block. -/
  | blockSwreset (src : Sess) (n : Fin 128)
  /-- BLOCK_RESET_DONE (R402). A block reset finishes, restores the cell group and releases the links. -/
  | blockResetDone (n : Fin 128) (t : Nat)
  /-- REGION_RESET_DONE (R401). A region reset finishes, restores the region group and releases the links. -/
  | regionResetDone (g : Fin 8) (t : Nat)
  /-- PORT_RESET (R398). A host PERST_L, an in-band hot reset, a link disable or Physical Port Control gives one pleat a full link reset. -/
  | portReset (p : Fin 1024) (t : Nat)
  /-- RETAIN_DATA_ACCESS (R397). A Helm access of ALM.RETAIN.DATA reads or writes the retained-area word and advances the pointer by 4 B. -/
  | retainDataAccess (src : Sess) (w : Option (Fin (2 ^ 32)))
  /-- MANAGEMENT_BOOT_DONE (R404). The management firmware runs and the Almanac control records have been read. -/
  | managementBootDone (took : Fin 501) (t : Nat)
  /-- REGION_POWER_UP_DONE (R404). A region granted its power-up slip has its die, stack and seams up. -/
  | regionPowerUpDone (g : Fin 8) (t : Nat)
  /-- READY (R404). Every attached region is up and the chart is in force; READY is set, MOD_READY is released and the links are released. -/
  | ready (t : Nat)
  /-- COUNTER_SELECT (R415). A write to CTR.SEL sets the selection and clears the counter, its OVF and any chained partner. -/
  | counterSelect (src : Sess) (k : Fin 1824) (event : Fin 256) (mode : Fin 4) (sub : Fin 256) (berth : Fin 64) (berthEn : Bool) (chain : Bool) (en : Bool)
  /-- COUNTER_CLEAR (R415). A write of 1 to CTR.SEL.CLR clears the counter without changing its selection. -/
  | counterClear (src : Sess) (k : Fin 1824)
  /-- TALLY_FREEZE (R417). A write of 1 to TAL.CTL.FREEZE stops every counter and histogram in one cycle. -/
  | tallyFreeze (src : Sess)
  /-- TALLY_UNFREEZE (R417). A write of 0 to TAL.CTL.FREEZE restarts every counter and histogram in one cycle. -/
  | tallyUnfreeze (src : Sess)
  /-- TALLY_SNAP (R418). A write of 1 to TAL.CTL.SNAP triggers a snapshot, or is dropped and counted while BUSY. -/
  | tallySnap (src : Sess)
  /-- TALLY_PERIOD (R418). The snapshot period expires and a snapshot is triggered. -/
  | tallyPeriod (t : Nat)
  /-- TALLY_BUFFER_FLIP (R418). A snapshot's counters and histograms are in the back buffer; FRONT flips and SEQ rises, unless HOLD is set. -/
  | tallyBufferFlip (t : Nat)
  /-- TALLY_HOLD_RELEASE (R419). A write of 0 to TAL.CTL.HOLD flips to the newest complete snapshot. -/
  | tallyHoldRelease (src : Sess)
  /-- SET_ENDPOINT_ID (R429). The MCTP control command Set Endpoint ID assigns the module's endpoint ID. -/
  | setEndpointId (path : MgtPath) (eid : Fin 256)
  /-- GET_ENDPOINT_ID (R429). The MCTP control command Get Endpoint ID returns the endpoint ID. -/
  | getEndpointId (path : MgtPath)
  /-- GET_VERSION_SUPPORT (R429). The MCTP control command Get Version Support returns the supported versions. -/
  | getVersionSupport (path : MgtPath) (mtype : Fin 256)
  /-- GET_MESSAGE_TYPE_SUPPORT (R429). The MCTP control command Get Message Type Support returns the supported message types. -/
  | getMessageTypeSupport (path : MgtPath)
  /-- GET_ENDPOINT_UUID (R429). The MCTP control command Get Endpoint UUID returns the UUID. -/
  | getEndpointUuid (path : MgtPath)
  /-- KEY_EXCHANGE (R434). SPDM KEY_EXCHANGE with mutual authentication opens a session whose principal is fixed by the requester's key, or is refused Busy. -/
  | keyExchange (path : MgtPath) (key : List (Fin 256)) (id : Fin (2 ^ 32)) (t : Nat)
  /-- GET_MEASUREMENTS (R433). SPDM GET_MEASUREMENTS returns the firmware, fuse-map, chart and credential measurement blocks. -/
  | getMeasurements (path : MgtPath)
  /-- HEARTBEAT (R437). An SPDM HEARTBEAT keeps the session alive. -/
  | heartbeat (src : Sess) (t : Nat)
  /-- END_SESSION (R437). SPDM END_SESSION ends the session. -/
  | endSession (src : Sess)
  /-- SESSION_HEARTBEAT_TIMEOUT (R437). No message has arrived in a session for 10 s, so the session ends. -/
  | sessionHeartbeatTimeout (src : Sess) (t : Nat)
  /-- UDP_DATAGRAM (R431). A management Ethernet datagram is taken as one MCTP packet on port 4,570, answered for ICMP, ARP or ND, or discarded and counted when over rate. -/
  | udpDatagram (d : Datagram) (t : Nat)
  /-- I3C_ADDRESS_ASSIGN (R430). ENTDAA or SETDASA gives the module its I3C dynamic address. -/
  | i3cAddressAssign (fixed : Option (Fin 128)) (da : Fin 128)
  /-- IDENTIFY (R441). The generic CCI command Identify (0x0001) returns the device identity. -/
  | identify (src : Sess)
  /-- BACKGROUND_OPERATION_STATUS (R438). CCI 0x0002 returns the status of a background command. -/
  | backgroundOperationStatus (src : Sess)
  /-- GET_RESPONSE_MESSAGE_LIMIT (R438). CCI 0x0003 returns the response message limit. -/
  | getResponseMessageLimit (src : Sess)
  /-- SET_RESPONSE_MESSAGE_LIMIT (R438). CCI 0x0004 sets the response message limit to 256–4,104 B. -/
  | setResponseMessageLimit (src : Sess) (limit : Fin 65536)
  /-- REQUEST_ABORT_BACKGROUND_OP (R438). CCI 0x0005 aborts a background command where that command's own rule allows it. -/
  | requestAbortBackgroundOp (src : Sess)
  /-- GET_IDENT (R441). Vendor command 0xC001 returns the identity and firmware registers. -/
  | getIdent (src : Sess)
  /-- REG_READ (R442). Vendor command 0xC010 checks every word, then returns consecutive register words, or DENIED with the failing index. -/
  | regRead (src : Sess) (off : Fin (2 ^ 28)) (count : Fin 65536)
  /-- REG_WRITE (R442). Vendor command 0xC011 checks every word, then applies the words in ascending order one per CK_MGT cycle. -/
  | regWrite (src : Sess) (off : Fin (2 ^ 28)) (words : List (Fin (2 ^ 32)))
  /-- REGISTER_WRITE (R5). A write to a register with no row of its own sets its RW fields and applies its W1C and W1S bits under its access codes. -/
  | registerWrite (src : Sess) (off : Fin (2 ^ 28)) (w : Fin (2 ^ 32))
  /-- KEY_PROGRAM (R40). Vendor command 0xC020 burns a chart key slot with a public key's digest. -/
  | keyProgram (src : Sess) (slot : Fin 256) (key : List (Fin 256))
  /-- KEY_REVOKE (R40). Vendor command 0xC021 revokes a chart key slot, or is refused when it is the last usable slot. -/
  | keyRevoke (src : Sess) (slot : Fin 256)
  /-- PINFUSE_SET (R403). Vendor command 0xC022 burns a sideband pin's reset-state fuse. -/
  | pinfuseSet (src : Sess) (pin : Fin 65536) (value : Bool)
  /-- HELM_CLAIM (R436). Vendor command 0xC023 burns the Helm identity into slot 0, programs chart key slot 0 and ends the session. -/
  | helmClaim (src : Sess) (key : List (Fin 256))
  /-- HELM_ROTATE (R436). Vendor command 0xC024 programs the next Helm identity slot and revokes the current one. -/
  | helmRotate (src : Sess) (key : List (Fin 256))
  /-- PILOT_ENROL (R435). Vendor command 0xC025 enrols a Pilot key, or is refused DENIED when 4 are enrolled. -/
  | pilotEnrol (src : Sess) (key : List (Fin 256))
  /-- PILOT_REMOVE (R435). Vendor command 0xC026 removes a Pilot key and ends that Pilot's sessions. -/
  | pilotRemove (src : Sess) (digest : List (Fin 256))
  /-- BERTH_KEY_SET (R435). Vendor command 0xC027 sets or clears a berth agent's key and ends that berth's session. -/
  | berthKeySet (src : Sess) (k : Fin 256) (key : Option (List (Fin 256)))
  /-- FUSE_BURN_VERIFY (R441). A vendor-command fuse burn finishes and is verified, and the command is answered, DENIED when it did not verify. -/
  | fuseBurnVerify (src : Sess) (ok : Bool) (burned : Bool) (t : Nat)
  /-- MODULE_RESET (R441). Vendor command 0xC030 sends its response, then performs an MCTP module reset. -/
  | moduleReset (src : Sess)
  /-- REGION_RESET (R401). Vendor command 0xC031 starts a region reset, refused when the region homes any slot. -/
  | regionReset (src : Sess) (g : Fin 8)
  /-- BLOCK_RESET (R402). Vendor command 0xC032 starts a reset of one block. -/
  | blockReset (src : Sess) (n : Fin 128)
  /-- CHART_CMD (R441). Vendor command 0xC040 issues a CHT.CTRL.CMD code as a background command whose completion carries the chart result. -/
  | chartCmd (src : Sess) (cmd : Fin 256)
  /-- MAILBOX_GO (R446). A write of 1 to MB.CTRL.GO submits the berth mailbox request, ignored while BUSY. -/
  | mailboxGo (v : Fin 64) (line : Fin (2 ^ 46))
  /-- MAILBOX_ABORT (R446). A write of 1 to MB.CTRL.ABORT discards a pending request not yet taken. -/
  | mailboxAbort (v : Fin 64) (line : Fin (2 ^ 46))
  /-- MAILBOX_REQ_WRITE (R446). A write to MB.REQ stores request bytes, or is discarded while BUSY. -/
  | mailboxReqWrite (v : Fin 64) (line : Fin (2 ^ 46)) (off : Fin 32768) (w : BarWrite)
  /-- MAILBOX_RESPONSE (R445). The response to a berth mailbox request stands in MB.RSP; READY is set and BUSY clears. -/
  | mailboxResponse (v : Fin 64) (rsp : Option (List (Fin 256))) (t : Nat)
  /-- TEMP_SAMPLE (R462). Every 100 µs, the sensors are sampled and T_MAX recomputed, driving THERMAL, deferral, throttle, C3 or thermal cut. -/
  | tempSample (readings : List TempReading) (t : Nat)
  /-- SENSOR_BLIND (R461). Both sensors of a powered die read invalid for 1 ms; the die is taken as 100 °C, C1 is raised and DEGRADED is raised. -/
  | sensorBlind (die : Fin 9) (t : Nat)
  /-- THROTTLE_END (R463). T_MAX has stayed below 97 °C for 1 s and throttling ends. -/
  | throttleEnd (t : Nat)
  /-- TMAX_PEAK_CLEAR (R468). A write of 1 to HUB.TMAX.CLR_PEAK clears PEAK. -/
  | tmaxPeakClear (src : Sess)
  /-- DELAY_TRIM_END (R305). A seam wire's delay trim, followed by the slow tracking loop, reaches the end of its range, so the wire fails. -/
  | delayTrimEnd (g : Fin 8) (n : Fin 160) (w : Fin 64) (t : Nat)
  /-- REGENERATOR_RELOCK (R306). A region's clock regenerator relocks on a plane, and the module starts a reset of that plane of the seam. -/
  | regeneratorRelock (g : Fin 8) (pl : Plane) (t : Nat)
  /-- FEED_LEAVES_RANGE (R363). A feed in QUALIFY leaves 35.0–75.0 V and goes ABSENT, or QUALIFY restarts. -/
  | feedLeavesRange (f : Fin 2) (v : Fin 1001) (t : Nat)
  /-- LINK_DOWN_LEAVES_WINDOW (R299). A counted link-down passes out of RETIRE_WINDOW and drops out of FNL.LINKSTAT.LINKDOWNS. -/
  | linkDownLeavesWindow (p : Fin 1024) (t : Nat)
  /-- MCTP_PACKET (R432). An MCTP packet arrives over I3C or as an in-band PCIe VDM on an FM port; it is assembled, or discarded and counted as an unsupported or unsecured message. -/
  | mctpPacket (path : MgtPath) (pkt : MctpPacket)
  /-- CXL_DATA_LINK_DOWN (R294). A USP or DSP link's data link layer goes down under PCIe Base 6.0 (cause 0xE), for example after a failed Recovery or a partner's loss of signal. -/
  | cxlDataLinkDown (p : Fin 1024) (t : Nat)
  /-- BUILT_IN_SELF_TEST (R318). The Helm starts built-in self-test of a unit, whose collector input enters TEST and latches ERR_P into FLT.SSW until the test ends. -/
  | builtInSelfTest (src : Sess) (c : Collector) (i : Fin 32) (failed : Bool) (ends : Bool)
  /-- HISTOGRAM_CLEAR_DONE (R152). A region's histogram clear completes within 2 µs and RGN.QHISTCTL.CLEARING returns to 0. -/
  | histogramClearDone (g : Fin 8) (t : Nat)
  deriving DecidableEq, Repr

end Sys2Proof
end

