-- ==== Sys2Proof/Decode.lean ====
section
/-! DEFINITION. The words of the opcode table. Every row of spec/opcode_table.json lists no fields: the block takes its commands as
events and register writes, and no word of bits spells one. -/
namespace Sys2Proof

/-- The command that a word spells by the table's bits: none, since no row of the table gives bits. -/
def decodeTableWord (_nbits _w : Nat) : Option Instr := none

end Sys2Proof
end

