-- ==== Sys2Proof/Config.lean ====
section
/-! DEFINITION. What the spec leaves open: uninterpreted values that nothing can compute, so that a statement about them holds for
every value (log entries name each). -/
namespace Sys2Proof.Config

/-- The fine code that gives the nearest equivalent gain after a range change (R254): kind, old range, new range, old code.
[DESIGN CHOICE, log entry 13] -/
opaque nearestCode : Nat → Nat → Nat → Nat → Nat

/-- The post-package repair rows an HBM bank has (R352).
[DESIGN CHOICE, log entry 15] -/
opaque pprRows : Nat

/-- The set voltage, in mV, of a rail that the module sets over AVSBus (R372, R373).
[DESIGN CHOICE, log entry 14] -/
opaque avsMv : Nat → Nat

/-- The MGT_ADDR straps of the carrier (R430, R454).
[DESIGN CHOICE, log entry 17] -/
opaque straps : Fin 4

/-- What the spec names and gives no value: the digest of the running firmware image, the digests of the fuse map and of the credential store,
whose layouts it does not give (R433), by what they hold; the endpoint's UUID and the versions of a message type it supports (R429).
[DESIGN CHOICE, log entry 18] -/
opaque firmwareDigest : List Nat
/-- [DESIGN CHOICE, log entry 18] -/
opaque fuseDigest : List (List Nat) → List Nat
/-- [DESIGN CHOICE, log entry 18] -/
opaque credentialDigest : List (List Nat) → List Nat
/-- [DESIGN CHOICE, log entry 18] -/
opaque endpointUuid : List Nat
/-- [DESIGN CHOICE, log entry 18] -/
opaque mctpVersions : Nat → List Nat

/-- What the write allocator of bolt memory chooses by, among the places the rule permits (R107), by draw.
[DESIGN CHOICE, log entry 141] -/
opaque boltPlace : Nat → Nat

/-- Which entry a full cache of a home gives up (R169, R181), by draw.
[DESIGN CHOICE, log entry 58] -/
opaque displaced : Nat → Nat

/-- The words of the configuration space of a virtual switch's functions that the spec gives no value (R68).
[PRESUMED, log entry 144] -/
opaque configWord : Nat → Nat

/-- The line of the management space at which a read of a management function's BAR0 meets the management gate (R236): by virtual switch and
line of BAR0.
[DESIGN CHOICE, log entry 76] -/
opaque barLine : Nat → Nat → Nat

end Sys2Proof.Config
end

