-- ==== Sys2Proof/Machine/RegMap.lean ====
section
/-! DEFINITION. The register map (R447, R448 and the register tables of every chapter): one named field for every
field of every register, and for every block the table of its words. Written out from the register tables of the
spec; F.<name> is a field's address in the management space, lowest bit, width and reset value. The table row beside it
gives its access code (R5), the range its table clamps a write to, and the principal that writes it (R442 and the
rule that owns the register). -/
namespace Sys2Proof.Machine

/-- A register field: the byte address of its word in the 256 MiB management space, its lowest bit, its width, and what
it reads when nothing has changed it since reset. -/
structure Fld where
  addr : Nat
  lsb : Nat
  width : Nat
  reset : Nat
  deriving DecidableEq, Repr

/-- The key under which State.regs holds the field. -/
def Fld.key (f : Fld) : Nat := f.addr * 32 + f.lsb

/-- The access codes of R5 that the register tables use. -/
inductive Access where
  | rw | ro | rh | w1c | wo | cl
  deriving DecidableEq, Repr

/-- Which principal writes a register (R442): the Helm, the Pilot, either, the audience's own principal (R331), or by
the backup register's number (R397). -/
inductive Writer where
  | helm | pilot | either | attn | almBkp
  deriving DecidableEq, Repr

/-- A field in its register's table: its access code and the range a write is clamped to. -/
structure FieldDesc where
  fld : Fld
  access : Access
  lo : Nat
  hi : Option Nat
  deriving DecidableEq, Repr

/-- A row of words of one block: offset of the first, how many, their stride, who writes them, and the fields of the word
of instance i, element e. -/
structure RegRow where
  off : Nat
  count : Nat
  stride : Nat
  writer : Writer
  fields : Nat → Nat → List FieldDesc

/-- PWR.RAIL.TYPE (R385) of rail r (R372): 0 core, 1 SerDes, 2 HBM, 3 Rose or management. -/
def railType (r : Nat) : Nat := if r < 24 then r % 3 else 3

/-- PWR.RAIL.ILIMIT (R385): the current limit of rail r (R372), in 0.1 A. -/
def railIlimit (r : Nat) : Nat :=
  if r < 24 then (if r % 3 = 0 then 1200 else if r % 3 = 1 then 1300 else 250)
  else if r = 24 then 1500 else 400

/-- GAT.IDENT.KIND (R247) of gate n (R236): 0 egress, 1 home slice, 2 Lodestar, 3 management. -/
def gateKind (n : Nat) : Nat := if n < 0x400 then 0 else if n < 0x448 then 1 else if n = 0x448 then 2 else 3

/-- GAT.IDENT.UNIT (R247): the cell of an egress gate, the flat slice number of a home-slice gate, otherwise 0. -/
def gateUnit (n : Nat) : Nat := if n < 0x400 then n else if n < 0x448 then n - 0x400 else 0

/-- HUB.IDENT.PART bits 31:16, RO, R31. -/
def F.hubIdentPart : Fld := ⟨0x100000, 16, 16, 4132⟩
/-- HUB.IDENT.STEPPING bits 15:12, RO, R31; reset: fuse. -/
def F.hubIdentStepping : Fld := ⟨0x100000, 12, 4, 1⟩
/-- HUB.TOPO.MODULE_ID bits 3:0, CL, R32. -/
def F.hubTopoModuleId : Fld := ⟨0x100004, 0, 4, 0⟩
/-- HUB.TOPO.REGION_ATTACHED bits 11:4, CL, R32. -/
def F.hubTopoRegionAttached : Fld := ⟨0x100004, 4, 8, 255⟩
/-- HUB.TOPO.REGION_POWERED bits 19:12, RH, R32. -/
def F.hubTopoRegionPowered : Fld := ⟨0x100004, 12, 8, 0⟩
/-- HUB.TOPO.PLANE_A_UP bits 20:20, RH, R32. -/
def F.hubTopoPlaneAUp : Fld := ⟨0x100004, 20, 1, 0⟩
/-- HUB.TOPO.PLANE_B_UP bits 21:21, RH, R32. -/
def F.hubTopoPlaneBUp : Fld := ⟨0x100004, 21, 1, 0⟩
/-- HUB.REFCTL.PREF bits 0:0, RW, R33; reset: fuse. -/
def F.hubRefctlPref : Fld := ⟨0x100010, 0, 1, 0⟩
/-- HUB.REFCTL.REVERT bits 1:1, RW, R33. -/
def F.hubRefctlRevert : Fld := ⟨0x100010, 1, 1, 0⟩
/-- HUB.REFCTL.FORCE bits 3:2, RW, R33. -/
def F.hubRefctlForce : Fld := ⟨0x100010, 2, 2, 0⟩
/-- HUB.REFCTL.HOLDOVER bits 15:8, RW, R33. -/
def F.hubRefctlHoldover : Fld := ⟨0x100010, 8, 8, 5⟩
/-- HUB.REFCTL.REVERT_HOLD bits 23:16, RW, R33. -/
def F.hubRefctlRevertHold : Fld := ⟨0x100010, 16, 8, 10⟩
/-- HUB.REFSTAT.SEL bits 0:0, RH, R34; reset: fuse. -/
def F.hubRefstatSel : Fld := ⟨0x100014, 0, 1, 0⟩
/-- HUB.REFSTAT.A_GOOD bits 1:1, RH, R34. -/
def F.hubRefstatAGood : Fld := ⟨0x100014, 1, 1, 0⟩
/-- HUB.REFSTAT.B_GOOD bits 2:2, RH, R34. -/
def F.hubRefstatBGood : Fld := ⟨0x100014, 2, 1, 0⟩
/-- HUB.REFSTAT.ROOT_LOCK bits 3:3, RH, R34. -/
def F.hubRefstatRootLock : Fld := ⟨0x100014, 3, 1, 0⟩
/-- HUB.REFSTAT.HOLDOVER bits 4:4, RH, R34. -/
def F.hubRefstatHoldover : Fld := ⟨0x100014, 4, 1, 0⟩
/-- HUB.REFSTAT.A_FAIL bits 5:5, W1C, R34. -/
def F.hubRefstatAFail : Fld := ⟨0x100014, 5, 1, 0⟩
/-- HUB.REFSTAT.B_FAIL bits 6:6, W1C, R34. -/
def F.hubRefstatBFail : Fld := ⟨0x100014, 6, 1, 0⟩
/-- HUB.REFSTAT.SSC_OOR bits 7:7, W1C, R34. -/
def F.hubRefstatSscOor : Fld := ⟨0x100014, 7, 1, 0⟩
/-- HUB.REFSTAT.FORCE_IGNORED bits 8:8, RH, R34. -/
def F.hubRefstatForceIgnored : Fld := ⟨0x100014, 8, 1, 0⟩
/-- HUB.REFSTAT.SWITCHES bits 23:16, RH, R34. -/
def F.hubRefstatSwitches : Fld := ⟨0x100014, 16, 8, 0⟩
/-- HUB.SSCMEAS.SPREAD bits 9:0, RH, R35. -/
def F.hubSscmeasSpread : Fld := ⟨0x100018, 0, 10, 0⟩
/-- HUB.SSCMEAS.MODFREQ bits 25:16, RH, R35. -/
def F.hubSscmeasModfreq : Fld := ⟨0x100018, 16, 10, 0⟩
/-- CHT.CTRL.CMD bits 3:0, WO, R58. -/
def F.chtCtrlCmd : Fld := ⟨0x4000000, 0, 4, 0⟩
/-- CHT.CTRL.LEAVE_WAIT bits 15:8, RW, R58. -/
def F.chtCtrlLeaveWait : Fld := ⟨0x4000000, 8, 8, 10⟩
/-- CHT.CTRL.QUIESCE_WAIT bits 23:16, RW, R58. -/
def F.chtCtrlQuiesceWait : Fld := ⟨0x4000000, 16, 8, 10⟩
/-- CHT.STATUS.STATE bits 2:0, RH, R58. -/
def F.chtStatusState : Fld := ⟨0x4000004, 0, 3, 0⟩
/-- CHT.STATUS.NULL_CHART bits 3:3, RH, R58. -/
def F.chtStatusNullChart : Fld := ⟨0x4000004, 3, 1, 1⟩
/-- CHT.STATUS.BASE_FAIL bits 4:4, RH, R58. -/
def F.chtStatusBaseFail : Fld := ⟨0x4000004, 4, 1, 0⟩
/-- CHT.STATUS.REPLAY_FAIL bits 5:5, RH, R58. -/
def F.chtStatusReplayFail : Fld := ⟨0x4000004, 5, 1, 0⟩
/-- CHT.STATUS.ACTIVE_SLOT bits 6:6, RH, R58. -/
def F.chtStatusActiveSlot : Fld := ⟨0x4000004, 6, 1, 0⟩
/-- CHT.RESULT.CODE bits 7:0, RH, R58. -/
def F.chtResultCode : Fld := ⟨0x4000008, 0, 8, 0⟩
/-- CHT.RESULT.SECTION bits 15:8, RH, R58. -/
def F.chtResultSection : Fld := ⟨0x4000008, 8, 8, 0⟩
/-- CHT.RESULT.DONE bits 16:16, W1C, R58. -/
def F.chtResultDone : Fld := ⟨0x4000008, 16, 1, 0⟩
/-- CHT.ERRLOC.OFFSET bits 31:0, RH, R58. -/
def F.chtErrlocOffset : Fld := ⟨0x400000C, 0, 32, 0⟩
/-- CHT.GEN bits 31:0, RH, R58; reset: Almanac. -/
def F.chtGen : Fld := ⟨0x4000010, 0, 32, 0⟩
/-- CHT.BASE_GEN bits 31:0, RH, R58; reset: Almanac. -/
def F.chtBaseGen : Fld := ⟨0x4000014, 0, 32, 0⟩
/-- CHT.FLOOR bits 31:0, RH, R58; reset: Almanac. -/
def F.chtFloor : Fld := ⟨0x4000018, 0, 32, 0⟩
/-- CHT.JOURNAL.COUNT bits 12:0, RH, R58; reset: Almanac. -/
def F.chtJournalCount : Fld := ⟨0x400001C, 0, 13, 0⟩
/-- CHT.JOURNAL.LOG_USED bits 28:16, RH, R58; reset: Almanac. -/
def F.chtJournalLogUsed : Fld := ⟨0x400001C, 16, 13, 0⟩
/-- CHT.KEYSLOT.PROGRAMMED bits 3:0, RH, R58; reset: fuse. -/
def F.chtKeyslotProgrammed : Fld := ⟨0x4000020, 0, 4, 0⟩
/-- CHT.KEYSLOT.REVOKED bits 7:4, RH, R58; reset: fuse. -/
def F.chtKeyslotRevoked : Fld := ⟨0x4000020, 4, 4, 0⟩
/-- CHT.KEYSLOT.LAST_USED bits 9:8, RH, R58. -/
def F.chtKeyslotLastUsed : Fld := ⟨0x4000020, 8, 2, 0⟩
/-- CHT.EFFDIGEST bits 31:0, RH, R58; reset: computed. -/
def F.chtEffdigest (e : Nat) : Fld := ⟨0x4000040 + 4 * e, 0, 32, 0⟩
/-- CHT.LOGREAD.OFFSET bits 21:0, RW, R58. -/
def F.chtLogreadOffset : Fld := ⟨0x4000080, 0, 22, 0⟩
/-- CEL.PERSONA.LEAD bits 9:0, CL, R87; reset: cell's own number. -/
def F.celPersonaLead (i : Nat) : Fld := ⟨0x2000000 + 0x1000 * i, 0, 10, i⟩
/-- CEL.PERSONA.WIDTH bits 11:10, CL, R87. -/
def F.celPersonaWidth (i : Nat) : Fld := ⟨0x2000000 + 0x1000 * i, 10, 2, 0⟩
/-- CEL.PERSONA.PERSONALITY bits 13:12, CL, R87. -/
def F.celPersonaPersonality (i : Nat) : Fld := ⟨0x2000000 + 0x1000 * i, 12, 2, 0⟩
/-- CEL.PERSONA.FM_PORT bits 14:14, CL, R87. -/
def F.celPersonaFmPort (i : Nat) : Fld := ⟨0x2000000 + 0x1000 * i, 14, 1, 0⟩
/-- CEL.PERSONA.RATE_MAX bits 18:16, CL, R87. -/
def F.celPersonaRateMax (i : Nat) : Fld := ⟨0x2000000 + 0x1000 * i, 16, 3, 0⟩
/-- CEL.PERSONA.FLITMODES bits 22:20, CL, R87. -/
def F.celPersonaFlitmodes (i : Nat) : Fld := ⟨0x2000000 + 0x1000 * i, 20, 3, 0⟩
/-- CEL.LINKSTAT.UP bits 0:0, RH, R88. -/
def F.celLinkstatUp (i : Nat) : Fld := ⟨0x2000004 + 0x1000 * i, 0, 1, 0⟩
/-- CEL.LINKSTAT.WIDTH_NOW bits 3:1, RH, R88. -/
def F.celLinkstatWidthNow (i : Nat) : Fld := ⟨0x2000004 + 0x1000 * i, 1, 3, 0⟩
/-- CEL.LINKSTAT.DEGRADED bits 4:4, RH, R88. -/
def F.celLinkstatDegraded (i : Nat) : Fld := ⟨0x2000004 + 0x1000 * i, 4, 1, 0⟩
/-- CEL.LINKSTAT.RATE_NOW bits 7:5, RH, R88. -/
def F.celLinkstatRateNow (i : Nat) : Fld := ⟨0x2000004 + 0x1000 * i, 5, 3, 0⟩
/-- CEL.LINKSTAT.FLIT_NOW bits 9:8, RH, R88. -/
def F.celLinkstatFlitNow (i : Nat) : Fld := ⟨0x2000004 + 0x1000 * i, 8, 2, 0⟩
/-- CEL.LINKSTAT.CXL bits 10:10, RH, R88. -/
def F.celLinkstatCxl (i : Nat) : Fld := ⟨0x2000004 + 0x1000 * i, 10, 1, 0⟩
/-- CEL.LINKSTAT.PEER_MODULE bits 11:11, RH, R88. -/
def F.celLinkstatPeerModule (i : Nat) : Fld := ⟨0x2000004 + 0x1000 * i, 11, 1, 0⟩
/-- CEL.LINKSTAT.LINK_RESETS bits 23:16, RH, R88. -/
def F.celLinkstatLinkResets (i : Nat) : Fld := ⟨0x2000004 + 0x1000 * i, 16, 8, 0⟩
/-- CEL.BIND.BOUND bits 0:0, RH, R89. -/
def F.celBindBound (i : Nat) : Fld := ⟨0x2000008 + 0x1000 * i, 0, 1, 0⟩
/-- CEL.BIND.VCS bits 6:1, RH, R89. -/
def F.celBindVcs (i : Nat) : Fld := ⟨0x2000008 + 0x1000 * i, 1, 6, 0⟩
/-- CEL.BIND.VPPB bits 14:7, RH, R89. -/
def F.celBindVppb (i : Nat) : Fld := ⟨0x2000008 + 0x1000 * i, 7, 8, 0⟩
/-- CEL.BIND.MLD bits 15:15, RH, R89. -/
def F.celBindMld (i : Nat) : Fld := ⟨0x2000008 + 0x1000 * i, 15, 1, 0⟩
/-- CEL.BIND.LD_COUNT bits 20:16, RH, R89. -/
def F.celBindLdCount (i : Nat) : Fld := ⟨0x2000008 + 0x1000 * i, 16, 5, 0⟩
/-- CEL.BIND.LD_EXCESS bits 28:21, RH, R89. -/
def F.celBindLdExcess (i : Nat) : Fld := ⟨0x2000008 + 0x1000 * i, 21, 8, 0⟩
/-- CEL.LDBIND.BOUND bits 0:0, RH, R89. -/
def F.celLdbindBound (i e : Nat) : Fld := ⟨0x2000040 + 0x1000 * i + 4 * e, 0, 1, 0⟩
/-- CEL.LDBIND.VCS bits 6:1, RH, R89. -/
def F.celLdbindVcs (i e : Nat) : Fld := ⟨0x2000040 + 0x1000 * i + 4 * e, 1, 6, 0⟩
/-- CEL.LDBIND.VPPB bits 14:7, RH, R89. -/
def F.celLdbindVppb (i e : Nat) : Fld := ⟨0x2000040 + 0x1000 * i + 4 * e, 7, 8, 0⟩
/-- CEL.LDBIND.TACK bits 22:15, RH, R89. -/
def F.celLdbindTack (i e : Nat) : Fld := ⟨0x2000040 + 0x1000 * i + 4 * e, 15, 8, 0⟩
/-- CEL.TACK.CURRENT bits 7:0, RH, R90. -/
def F.celTackCurrent (i : Nat) : Fld := ⟨0x200000C + 0x1000 * i, 0, 8, 0⟩
/-- CEL.TACK.DRAIN1 bits 15:8, RH, R90. -/
def F.celTackDrain1 (i : Nat) : Fld := ⟨0x200000C + 0x1000 * i, 8, 8, 0⟩
/-- CEL.TACK.DRAIN2 bits 23:16, RH, R90. -/
def F.celTackDrain2 (i : Nat) : Fld := ⟨0x200000C + 0x1000 * i, 16, 8, 0⟩
/-- CEL.TACK.DRAIN3 bits 31:24, RH, R90. -/
def F.celTackDrain3 (i : Nat) : Fld := ⟨0x200000C + 0x1000 * i, 24, 8, 0⟩
/-- CEL.TACKSTAT.DRAINING bits 1:0, RH, R90. -/
def F.celTackstatDraining (i : Nat) : Fld := ⟨0x2000010 + 0x1000 * i, 0, 2, 0⟩
/-- CEL.TACKSTAT.STALL bits 2:2, RH, R90. -/
def F.celTackstatStall (i : Nat) : Fld := ⟨0x2000010 + 0x1000 * i, 2, 1, 0⟩
/-- CEL.TACKSTAT.OUTSTANDING bits 31:16, RH, R90. -/
def F.celTackstatOutstanding (i : Nat) : Fld := ⟨0x2000010 + 0x1000 * i, 16, 16, 0⟩
/-- CEL.LDTACK.DRAIN1 bits 7:0, RH, R90. -/
def F.celLdtackDrain1 (i e : Nat) : Fld := ⟨0x2000080 + 0x1000 * i + 8 * e, 0, 8, 0⟩
/-- CEL.LDTACK.DRAIN2 bits 15:8, RH, R90. -/
def F.celLdtackDrain2 (i e : Nat) : Fld := ⟨0x2000080 + 0x1000 * i + 8 * e, 8, 8, 0⟩
/-- CEL.LDTACK.DRAIN3 bits 23:16, RH, R90. -/
def F.celLdtackDrain3 (i e : Nat) : Fld := ⟨0x2000080 + 0x1000 * i + 8 * e, 16, 8, 0⟩
/-- CEL.LDTACK.DRAINING bits 25:24, RH, R90. -/
def F.celLdtackDraining (i e : Nat) : Fld := ⟨0x2000080 + 0x1000 * i + 8 * e, 24, 2, 0⟩
/-- CEL.LDTACK.STALL bits 26:26, RH, R90. -/
def F.celLdtackStall (i e : Nat) : Fld := ⟨0x2000080 + 0x1000 * i + 8 * e, 26, 1, 0⟩
/-- CEL.LDTACK.OUTSTANDING bits 15:0, RH, R90. -/
def F.celLdtackOutstanding (i e : Nat) : Fld := ⟨0x2000084 + 0x1000 * i + 8 * e, 0, 16, 0⟩
/-- CEL.STALE.REQ_UNBOUND bits 15:0, RH, R90. -/
def F.celStaleReqUnbound (i : Nat) : Fld := ⟨0x2000014 + 0x1000 * i, 0, 16, 0⟩
/-- CEL.STALE.RSP_DISCARD bits 31:16, RH, R90. -/
def F.celStaleRspDiscard (i : Nat) : Fld := ⟨0x2000014 + 0x1000 * i, 16, 16, 0⟩
/-- CEL.TACKCTL.RSP_WAIT bits 7:0, RW, R90. -/
def F.celTackctlRspWait (i : Nat) : Fld := ⟨0x2000018 + 0x1000 * i, 0, 8, 50⟩
/-- CEL.TACKCTL.SLOT_WAIT bits 15:8, RW, R90. -/
def F.celTackctlSlotWait (i : Nat) : Fld := ⟨0x2000018 + 0x1000 * i, 8, 8, 2⟩
/-- CEL.TACKCTL.CLR_COUNTS bits 16:16, WO, R90. -/
def F.celTackctlClrCounts (i : Nat) : Fld := ⟨0x2000018 + 0x1000 * i, 16, 1, 0⟩
/-- CEL.HOTPLUG.PRESENT bits 0:0, RH, R91. -/
def F.celHotplugPresent (i : Nat) : Fld := ⟨0x200001C + 0x1000 * i, 0, 1, 0⟩
/-- CEL.HOTPLUG.PRSNT_RAW bits 1:1, RH, R91. -/
def F.celHotplugPrsntRaw (i : Nat) : Fld := ⟨0x200001C + 0x1000 * i, 1, 1, 0⟩
/-- CEL.HOTPLUG.PRESENCE_CHG bits 2:2, W1C, R91. -/
def F.celHotplugPresenceChg (i : Nat) : Fld := ⟨0x200001C + 0x1000 * i, 2, 1, 0⟩
/-- CEL.HOTPLUG.SURPRISE bits 3:3, W1C, R91. -/
def F.celHotplugSurprise (i : Nat) : Fld := ⟨0x200001C + 0x1000 * i, 3, 1, 0⟩
/-- CEL.HOTPLUG.PERST_IN bits 4:4, RH, R91. -/
def F.celHotplugPerstIn (i : Nat) : Fld := ⟨0x200001C + 0x1000 * i, 4, 1, 0⟩
/-- CEL.HOTPLUG.PERST_OUT bits 5:5, RH, R91. -/
def F.celHotplugPerstOut (i : Nat) : Fld := ⟨0x200001C + 0x1000 * i, 5, 1, 1⟩
/-- CEL.HOTPLUG.DEBOUNCE bits 15:8, RW, R91. -/
def F.celHotplugDebounce (i : Nat) : Fld := ⟨0x200001C + 0x1000 * i, 8, 8, 10⟩
/-- HUB.BINDCTL.UNBIND_WAIT bits 7:0, RW, R92. -/
def F.hubBindctlUnbindWait : Fld := ⟨0x100020, 0, 8, 10⟩
/-- HUB.PBRSTAT.COLLISIONS bits 15:0, RH, R92. -/
def F.hubPbrstatCollisions : Fld := ⟨0x100024, 0, 16, 0⟩
/-- HUB.PBR.CELL bits 9:0, CL, R93. -/
def F.hubPbrCell (e : Nat) : Fld := ⟨0x110000 + 4 * e, 0, 10, 0⟩
/-- HUB.PBR.MODULE bits 13:10, CL, R93. -/
def F.hubPbrModule (e : Nat) : Fld := ⟨0x110000 + 4 * e, 10, 4, 0⟩
/-- HUB.PBR.LOCAL bits 14:14, CL, R93. -/
def F.hubPbrLocal (e : Nat) : Fld := ⟨0x110000 + 4 * e, 14, 1, 0⟩
/-- HUB.PBR.VALID bits 15:15, CL, R93. -/
def F.hubPbrValid (e : Nat) : Fld := ⟨0x110000 + 4 * e, 15, 1, 0⟩
/-- HUB.PBR.COLLISION bits 16:16, RH, R93. -/
def F.hubPbrCollision (e : Nat) : Fld := ⟨0x110000 + 4 * e, 16, 1, 0⟩
/-- BLK.STG.USED bits 11:0, RH, R120. -/
def F.blkStgUsed (i e : Nat) : Fld := ⟨0x800100 + 0x1000 * i + 4 * e, 0, 12, 0⟩
/-- BLK.STG.SHARED_USED bits 23:12, RH, R120. -/
def F.blkStgSharedUsed (i e : Nat) : Fld := ⟨0x800100 + 0x1000 * i + 4 * e, 12, 12, 0⟩
/-- BLK.STGHOLD.HELD bits 11:0, RH, R120. -/
def F.blkStgholdHeld (i e : Nat) : Fld := ⟨0x800120 + 0x1000 * i + 4 * e, 0, 12, 0⟩
/-- BLK.STGHOLD.PEAK bits 23:12, RH, R120. -/
def F.blkStgholdPeak (i e : Nat) : Fld := ⟨0x800120 + 0x1000 * i + 4 * e, 12, 12, 0⟩
/-- BLK.STGHOLD.CLR_PEAK bits 24:24, WO, R120. -/
def F.blkStgholdClrPeak (i e : Nat) : Fld := ⟨0x800120 + 0x1000 * i + 4 * e, 24, 1, 0⟩
/-- BLK.FWDRATE.RATE bits 10:0, RH, R120. -/
def F.blkFwdrateRate (i e : Nat) : Fld := ⟨0x800140 + 0x1000 * i + 4 * e, 0, 11, 0⟩
/-- BLK.FWDRATE.CT_OK bits 11:11, RH, R120. -/
def F.blkFwdrateCtOk (i e : Nat) : Fld := ⟨0x800140 + 0x1000 * i + 4 * e, 11, 1, 0⟩
/-- RGN.POOLCFG.ALPHA bits 3:0, CL, R121. -/
def F.rgnPoolcfgAlpha (i : Nat) : Fld := ⟨0x1000100 + 0x100000 * i, 0, 4, 6⟩
/-- RGN.YELLOW.FLOOR bits 19:0, CL, R121. -/
def F.rgnYellowFloor (i : Nat) : Fld := ⟨0x1000104 + 0x100000 * i, 0, 20, 98304⟩
/-- RGN.POOLSTAT.FREE bits 20:0, RH, R121. -/
def F.rgnPoolstatFree (i : Nat) : Fld := ⟨0x1000108 + 0x100000 * i, 0, 21, 786432⟩
/-- RGN.HEMSTAT.RESERVED bits 19:0, RH, R121. -/
def F.rgnHemstatReserved (i : Nat) : Fld := ⟨0x100010C + 0x100000 * i, 0, 20, 0⟩
/-- RGN.BOLTUSE.USED bits 19:0, RH, R121. -/
def F.rgnBoltuseUsed (i : Nat) : Fld := ⟨0x1000110 + 0x100000 * i, 0, 20, 0⟩
/-- RGN.BOLTCAP.CAPACITY bits 19:0, RH, R121. -/
def F.rgnBoltcapCapacity (i : Nat) : Fld := ⟨0x1000114 + 0x100000 * i, 0, 20, 786432⟩
/-- RGN.BOLTCAP.BELOW_ZERO bits 31:31, W1C, R121. -/
def F.rgnBoltcapBelowZero (i : Nat) : Fld := ⟨0x1000114 + 0x100000 * i, 31, 1, 0⟩
/-- RGN.CTCTL.STALL_MAX bits 7:0, RW, R122. -/
def F.rgnCtctlStallMax (i : Nat) : Fld := ⟨0x1000120 + 0x100000 * i, 0, 8, 10⟩
/-- RGN.CTCTL.DEMOTE bits 15:8, RW, R122. -/
def F.rgnCtctlDemote (i : Nat) : Fld := ⟨0x1000120 + 0x100000 * i, 8, 8, 10⟩
/-- RGN.CTSTAT.UNDERRUNS bits 11:0, RH, R122. -/
def F.rgnCtstatUnderruns (i : Nat) : Fld := ⟨0x1000124 + 0x100000 * i, 0, 12, 0⟩
/-- RGN.CTSTAT.POISON_FILLS bits 23:12, RH, R122. -/
def F.rgnCtstatPoisonFills (i : Nat) : Fld := ⟨0x1000124 + 0x100000 * i, 12, 12, 0⟩
/-- RGN.CTSTAT.DEMOTED bits 24:24, RH, R122. -/
def F.rgnCtstatDemoted (i : Nat) : Fld := ⟨0x1000124 + 0x100000 * i, 24, 1, 0⟩
/-- RGN.CTSTAT.CLR bits 25:25, WO, R122. -/
def F.rgnCtstatClr (i : Nat) : Fld := ⟨0x1000124 + 0x100000 * i, 25, 1, 0⟩
/-- RGN.CTHOLD.SLOTS bits 31:0, RH, R122. -/
def F.rgnCtholdSlots (i : Nat) : Fld := ⟨0x1000128 + 0x100000 * i, 0, 32, 0⟩
/-- RGN.BERTHPOOL.CAP bits 19:0, CL, R123. -/
def F.rgnBerthpoolCap (i e : Nat) : Fld := ⟨0x1001000 + 0x100000 * i + 8 * e, 0, 20, 0⟩
/-- RGN.BERTHPOOL.USE bits 19:0, RH, R123. -/
def F.rgnBerthpoolUse (i e : Nat) : Fld := ⟨0x1001004 + 0x100000 * i + 8 * e, 0, 20, 0⟩
/-- RGN.BERTHPOOL.OVERQ bits 31:31, RH, R123. -/
def F.rgnBerthpoolOverq (i e : Nat) : Fld := ⟨0x1001004 + 0x100000 * i + 8 * e, 31, 1, 0⟩
/-- RGN.HEM.PLEAT bits 6:0, CL, R124. -/
def F.rgnHemPleat (i e : Nat) : Fld := ⟨0x1010000 + 0x100000 * i + 16 * e, 0, 7, 0⟩
/-- RGN.HEM.CLASS bits 9:7, CL, R124. -/
def F.rgnHemClass (i e : Nat) : Fld := ⟨0x1010000 + 0x100000 * i + 16 * e, 7, 3, 0⟩
/-- RGN.HEM.BERTH bits 15:10, CL, R124. -/
def F.rgnHemBerth (i e : Nat) : Fld := ⟨0x1010000 + 0x100000 * i + 16 * e, 10, 6, 0⟩
/-- RGN.HEM.ANY bits 16:16, CL, R124. -/
def F.rgnHemAny (i e : Nat) : Fld := ⟨0x1010000 + 0x100000 * i + 16 * e, 16, 1, 0⟩
/-- RGN.HEM.VALID bits 17:17, CL, R124. -/
def F.rgnHemValid (i e : Nat) : Fld := ⟨0x1010000 + 0x100000 * i + 16 * e, 17, 1, 0⟩
/-- RGN.HEM bits 19:0, CL, R124. -/
def F.rgnHem (i e : Nat) : Fld := ⟨0x1010004 + 0x100000 * i + 16 * e, 0, 20, 0⟩
/-- RGN.HEM.USE bits 19:0, RH, R124. -/
def F.rgnHemUse (i e : Nat) : Fld := ⟨0x1010008 + 0x100000 * i + 16 * e, 0, 20, 0⟩
/-- RGN.HEM.OVERQ bits 31:31, RH, R124. -/
def F.rgnHemOverq (i e : Nat) : Fld := ⟨0x1010008 + 0x100000 * i + 16 * e, 31, 1, 0⟩
/-- RGN.HEM.PEAK bits 19:0, RH, R124. -/
def F.rgnHemPeak (i e : Nat) : Fld := ⟨0x101000C + 0x100000 * i + 16 * e, 0, 20, 0⟩
/-- HUB.XBARSTAT.MODE bits 1:0, RH, R125. -/
def F.hubXbarstatMode : Fld := ⟨0x100030, 0, 2, 0⟩
/-- HUB.XBARSTAT.SPEEDUP bits 15:8, RH, R125. -/
def F.hubXbarstatSpeedup : Fld := ⟨0x100030, 8, 8, 0⟩
/-- HUB.XBARSTAT.SASH_UP bits 23:16, RH, R125. -/
def F.hubXbarstatSashUp : Fld := ⟨0x100030, 16, 8, 0⟩
/-- HUB.ADMCTL.REQ_OUT bits 11:0, RW, R125. -/
def F.hubAdmctlReqOut : Fld := ⟨0x100034, 0, 12, 1152⟩
/-- HUB.BERTH.WEIGHT bits 3:0, CL, R153. -/
def F.hubBerthWeight (e : Nat) : Fld := ⟨0x120000 + 4 * e, 0, 4, 0⟩
/-- HUB.BERTH.VALID bits 4:4, CL, R153. -/
def F.hubBerthValid (e : Nat) : Fld := ⟨0x120000 + 4 * e, 4, 1, 0⟩
/-- HUB.BERTH.CLASS_IO bits 10:8, CL, R153. -/
def F.hubBerthClassIo (e : Nat) : Fld := ⟨0x120000 + 4 * e, 8, 3, 0⟩
/-- HUB.BERTH.CLASS_MRD bits 13:11, CL, R153. -/
def F.hubBerthClassMrd (e : Nat) : Fld := ⟨0x120000 + 4 * e, 11, 3, 0⟩
/-- HUB.BERTH.CLASS_MWR bits 16:14, CL, R153. -/
def F.hubBerthClassMwr (e : Nat) : Fld := ⟨0x120000 + 4 * e, 14, 3, 0⟩
/-- HUB.BERTH.CLASS_CACHE bits 19:17, CL, R153. -/
def F.hubBerthClassCache (e : Nat) : Fld := ⟨0x120000 + 4 * e, 17, 3, 0⟩
/-- HUB.BERTH.CLASS_SYNC bits 22:20, CL, R153. -/
def F.hubBerthClassSync (e : Nat) : Fld := ⟨0x120000 + 4 * e, 20, 3, 0⟩
/-- CEL.CLASS.DISC bits 1:0, CL, R154. -/
def F.celClassDisc (i e : Nat) : Fld := ⟨0x2000200 + 0x1000 * i + 4 * e, 0, 2, 0⟩
/-- CEL.CLASS.WEIGHT bits 9:2, CL, R154. -/
def F.celClassWeight (i e : Nat) : Fld := ⟨0x2000200 + 0x1000 * i + 4 * e, 2, 8, 0⟩
/-- CEL.CLASS.SHAPED bits 10:10, RH, R154. -/
def F.celClassShaped (i e : Nat) : Fld := ⟨0x2000200 + 0x1000 * i + 4 * e, 10, 1, 0⟩
/-- CEL.SHAPER.RATE bits 20:0, CL, R155. -/
def F.celShaperRate (i e : Nat) : Fld := ⟨0x2000220 + 0x1000 * i + 16 * e, 0, 21, (if e = 7 then 2000 else 0)⟩
/-- CEL.SHAPER.BERTH bits 26:21, CL, R155. -/
def F.celShaperBerth (i e : Nat) : Fld := ⟨0x2000220 + 0x1000 * i + 16 * e, 21, 6, 0⟩
/-- CEL.SHAPER.BURST bits 21:0, CL, R155. -/
def F.celShaperBurst (i e : Nat) : Fld := ⟨0x2000224 + 0x1000 * i + 16 * e, 0, 22, (if e = 7 then 16384 else 0)⟩
/-- CEL.SHAPER.DEBT bits 22:0, RH, R155. -/
def F.celShaperDebt (i e : Nat) : Fld := ⟨0x2000228 + 0x1000 * i + 16 * e, 0, 23, 0⟩
/-- CEL.SHAPER.HELD bits 31:31, RH, R155. -/
def F.celShaperHeld (i e : Nat) : Fld := ⟨0x2000228 + 0x1000 * i + 16 * e, 31, 1, 0⟩
/-- CEL.SHAPER.NEXT bits 11:0, RH, R155. -/
def F.celShaperNext (i e : Nat) : Fld := ⟨0x200022C + 0x1000 * i + 16 * e, 0, 12, 0⟩
/-- CEL.SCHEDSTAT.REMAPPED bits 15:0, RH, R156. -/
def F.celSchedstatRemapped (i : Nat) : Fld := ⟨0x2000320 + 0x1000 * i, 0, 16, 0⟩
/-- CEL.SCHEDSTAT.FIXUPS bits 31:16, RH, R156. -/
def F.celSchedstatFixups (i : Nat) : Fld := ⟨0x2000320 + 0x1000 * i, 16, 16, 0⟩
/-- CEL.POLICE.MODE bits 1:0, CL, R157. -/
def F.celPoliceMode (i e : Nat) : Fld := ⟨0x2000800 + 0x1000 * i + 32 * e, 0, 2, 0⟩
/-- CEL.POLICE.CIR bits 20:0, CL, R157. -/
def F.celPoliceCir (i e : Nat) : Fld := ⟨0x2000804 + 0x1000 * i + 32 * e, 0, 21, 0⟩
/-- CEL.POLICE.CBS bits 21:0, CL, R157. -/
def F.celPoliceCbs (i e : Nat) : Fld := ⟨0x2000808 + 0x1000 * i + 32 * e, 0, 22, 0⟩
/-- CEL.POLICE.PIR bits 20:0, CL, R157. -/
def F.celPolicePir (i e : Nat) : Fld := ⟨0x200080C + 0x1000 * i + 32 * e, 0, 21, 0⟩
/-- CEL.POLICE.EBS_PBS bits 21:0, CL, R157. -/
def F.celPoliceEbsPbs (i e : Nat) : Fld := ⟨0x2000810 + 0x1000 * i + 32 * e, 0, 22, 0⟩
/-- CEL.POLICE.TC_FILL bits 21:0, RH, R157. -/
def F.celPoliceTcFill (i e : Nat) : Fld := ⟨0x2000814 + 0x1000 * i + 32 * e, 0, 22, 0⟩
/-- CEL.POLICE.TX_FILL bits 21:0, RH, R157. -/
def F.celPoliceTxFill (i e : Nat) : Fld := ⟨0x2000818 + 0x1000 * i + 32 * e, 0, 22, 0⟩
/-- CEL.POLICE.YELLOW bits 15:0, RH, R157. -/
def F.celPoliceYellow (i e : Nat) : Fld := ⟨0x200081C + 0x1000 * i + 32 * e, 0, 16, 0⟩
/-- CEL.POLICE.RED bits 31:16, RH, R157. -/
def F.celPoliceRed (i e : Nat) : Fld := ⟨0x200081C + 0x1000 * i + 32 * e, 16, 16, 0⟩
/-- RGN.ARBW.ADMIT_W bits 13:0, RH, R158. -/
def F.rgnArbwAdmitW (i e : Nat) : Fld := ⟨0x1000200 + 0x100000 * i + 4 * e, 0, 14, 0⟩
/-- RGN.ARBW.SEAM_W bits 27:14, RH, R158. -/
def F.rgnArbwSeamW (i e : Nat) : Fld := ⟨0x1000200 + 0x100000 * i + 4 * e, 14, 14, 0⟩
/-- HUB.ARBW bits 13:0, RH, R158. -/
def F.hubArbw (e : Nat) : Fld := ⟨0x100100 + 4 * e, 0, 14, 0⟩
/-- RGN.QHIST.DEPTH bits 31:0, RH, R159. -/
def F.rgnQhistDepth (i q e : Nat) : Fld := ⟨0x1080000 + 0x100000 * i + 128 * q + 4 * e, 0, 32, 0⟩
/-- RGN.QHIST.SOJOURN bits 31:0, RH, R159. -/
def F.rgnQhistSojourn (i q e : Nat) : Fld := ⟨0x1080040 + 0x100000 * i + 128 * q + 4 * e, 0, 32, 0⟩
/-- RGN.QHISTCTL.CLR bits 0:0, WO, R159. -/
def F.rgnQhistctlClr (i : Nat) : Fld := ⟨0x1000130 + 0x100000 * i, 0, 1, 0⟩
/-- RGN.QHISTCTL.CLEARING bits 1:1, RH, R159. -/
def F.rgnQhistctlClearing (i : Nat) : Fld := ⟨0x1000130 + 0x100000 * i, 1, 1, 0⟩
/-- HUB.HOMEMAP.SLICE bits 6:0, RH, R198; reset: from chart. -/
def F.hubHomemapSlice (e : Nat) : Fld := ⟨0x130000 + 4 * e, 0, 7, 0⟩
/-- HUB.HOMEMAP.UNKNOWN bits 7:7, RH, R198. -/
def F.hubHomemapUnknown (e : Nat) : Fld := ⟨0x130000 + 4 * e, 7, 1, 0⟩
/-- HUB.HOMEMAP.CHART_SLICE bits 14:8, CL, R198. -/
def F.hubHomemapChartSlice (e : Nat) : Fld := ⟨0x130000 + 4 * e, 8, 7, 0⟩
/-- HUB.HOMEMAP.MOVED bits 15:15, RH, R198. -/
def F.hubHomemapMoved (e : Nat) : Fld := ⟨0x130000 + 4 * e, 15, 1, 0⟩
/-- HUB.AGENT.PORT_ID bits 11:0, CL, R198. -/
def F.hubAgentPortId (e : Nat) : Fld := ⟨0x130100 + 4 * e, 0, 12, 0⟩
/-- HUB.AGENT.VALID bits 12:12, CL, R198. -/
def F.hubAgentValid (e : Nat) : Fld := ⟨0x130100 + 4 * e, 12, 1, 0⟩
/-- HUB.AGENT.DEAD bits 13:13, RH, R198. -/
def F.hubAgentDead (e : Nat) : Fld := ⟨0x130100 + 4 * e, 13, 1, 0⟩
/-- HUB.AGENT.MISSES bits 15:14, RH, R198. -/
def F.hubAgentMisses (e : Nat) : Fld := ⟨0x130100 + 4 * e, 14, 2, 0⟩
/-- HUB.AGENT.REVIVE bits 16:16, WO, R198. -/
def F.hubAgentRevive (e : Nat) : Fld := ⟨0x130100 + 4 * e, 16, 1, 0⟩
/-- HUB.AGENT.SWEPT bits 17:17, RH, R198. -/
def F.hubAgentSwept (e : Nat) : Fld := ⟨0x130100 + 4 * e, 17, 1, 0⟩
/-- HUB.WFLUSH.WINDOW bits 11:0, RW, R198. -/
def F.hubWflushWindow : Fld := ⟨0x100040, 0, 12, 0⟩
/-- HUB.WFLUSH.START bits 12:12, WO, R198. -/
def F.hubWflushStart : Fld := ⟨0x100040, 12, 1, 0⟩
/-- HUB.WFLUSH.BUSY bits 13:13, RH, R198. -/
def F.hubWflushBusy : Fld := ⟨0x100040, 13, 1, 0⟩
/-- HUB.WFLUSH.DONE bits 14:14, W1C, R198. -/
def F.hubWflushDone : Fld := ⟨0x100040, 14, 1, 0⟩
/-- HUB.WFLUSH.LEAVE_REFUSED bits 15:15, W1C, R198. -/
def F.hubWflushLeaveRefused : Fld := ⟨0x100040, 15, 1, 0⟩
/-- HUB.WFLUSHSTAT.LINES bits 31:0, RH, R198. -/
def F.hubWflushstatLines : Fld := ⟨0x100044, 0, 32, 0⟩
/-- HUB.DEADSWEEP.AGENT bits 5:0, RH, R198. -/
def F.hubDeadsweepAgent : Fld := ⟨0x100048, 0, 6, 0⟩
/-- HUB.DEADSWEEP.BUSY bits 6:6, RH, R198. -/
def F.hubDeadsweepBusy : Fld := ⟨0x100048, 6, 1, 0⟩
/-- HUB.DEADSWEEP.DONE bits 7:7, W1C, R198. -/
def F.hubDeadsweepDone : Fld := ⟨0x100048, 7, 1, 0⟩
/-- HUB.WIN.START_LO bits 31:0, CL, R199. -/
def F.hubWinStartLo (e : Nat) : Fld := ⟨0x140000 + 64 * e, 0, 32, 0⟩
/-- HUB.WIN.START_HI bits 13:0, CL, R199. -/
def F.hubWinStartHi (e : Nat) : Fld := ⟨0x140004 + 64 * e, 0, 14, 0⟩
/-- HUB.WIN.SHARED bits 14:14, CL, R199. -/
def F.hubWinShared (e : Nat) : Fld := ⟨0x140004 + 64 * e, 14, 1, 0⟩
/-- HUB.WIN.COMPAT bits 15:15, CL, R199. -/
def F.hubWinCompat (e : Nat) : Fld := ⟨0x140004 + 64 * e, 15, 1, 0⟩
/-- HUB.WIN.BERTH bits 21:16, CL, R199. -/
def F.hubWinBerth (e : Nat) : Fld := ⟨0x140004 + 64 * e, 16, 6, 0⟩
/-- HUB.WIN.VALID bits 22:22, CL, R199. -/
def F.hubWinValid (e : Nat) : Fld := ⟨0x140004 + 64 * e, 22, 1, 0⟩
/-- HUB.WIN.END_LO bits 31:0, CL, R199. -/
def F.hubWinEndLo (e : Nat) : Fld := ⟨0x140008 + 64 * e, 0, 32, 0⟩
/-- HUB.WIN.END_HI bits 13:0, CL, R199. -/
def F.hubWinEndHi (e : Nat) : Fld := ⟨0x14000C + 64 * e, 0, 14, 0⟩
/-- HUB.WIN.OWNED_BUDGET bits 29:0, CL, R199. -/
def F.hubWinOwnedBudget (e : Nat) : Fld := ⟨0x140010 + 64 * e, 0, 30, 0⟩
/-- HUB.WIN.WB_HORIZON bits 13:0, CL, R199. -/
def F.hubWinWbHorizon (e : Nat) : Fld := ⟨0x140014 + 64 * e, 0, 14, 100⟩
/-- HUB.WIN.LIVE bits 31:0, RH, R199. -/
def F.hubWinLive (e : Nat) : Fld := ⟨0x140018 + 64 * e, 0, 32, 0⟩
/-- HUB.WIN.OWNED bits 29:0, RH, R199. -/
def F.hubWinOwned (e : Nat) : Fld := ⟨0x14001C + 64 * e, 0, 30, 0⟩
/-- HUB.WIN.AGENTS_LO bits 31:0, RH, R199. -/
def F.hubWinAgentsLo (e : Nat) : Fld := ⟨0x140020 + 64 * e, 0, 32, 0⟩
/-- Reserved words of the entry, read-only zero (R7). -/
def F.hubWinReserved (e j : Nat) : Fld := ⟨0x140028 + 64 * e + 4 * j, 0, 32, 0⟩
/-- HUB.WIN.AGENTS_HI bits 31:0, RH, R199. -/
def F.hubWinAgentsHi (e : Nat) : Fld := ⟨0x140024 + 64 * e, 0, 32, 0⟩
/-- HOM.ROLE bits 1:0, RH, R200. -/
def F.homRole (i : Nat) : Fld := ⟨0x300000 + 0x1000 * i, 0, 2, 0⟩
/-- HOM.ROLE.UNKNOWN bits 2:2, RH, R200. -/
def F.homRoleUnknown (i : Nat) : Fld := ⟨0x300000 + 0x1000 * i, 2, 1, 0⟩
/-- HOM.ROLE.SERVES_FOR bits 9:3, RH, R200; reset: own number. -/
def F.homRoleServesFor (i : Nat) : Fld := ⟨0x300000 + 0x1000 * i, 3, 7, i⟩
/-- HOM.ROLE.ADOPTED bits 10:10, RH, R200. -/
def F.homRoleAdopted (i : Nat) : Fld := ⟨0x300000 + 0x1000 * i, 10, 1, 0⟩
/-- HOM.SNPCTL.TIMEOUT bits 9:0, RW, R200. -/
def F.homSnpctlTimeout (i : Nat) : Fld := ⟨0x300004 + 0x1000 * i, 0, 10, 20⟩
/-- HOM.TRK.IN_USE bits 11:0, RH, R200. -/
def F.homTrkInUse (i : Nat) : Fld := ⟨0x300008 + 0x1000 * i, 0, 12, 0⟩
/-- HOM.TRK.PEAK bits 23:12, RH, R200. -/
def F.homTrkPeak (i : Nat) : Fld := ⟨0x300008 + 0x1000 * i, 12, 12, 0⟩
/-- HOM.TRK.CLR_PEAK bits 24:24, WO, R200. -/
def F.homTrkClrPeak (i : Nat) : Fld := ⟨0x300008 + 0x1000 * i, 24, 1, 0⟩
/-- HOM.ERRSTAT.TIMEOUTS bits 7:0, RH, R200. -/
def F.homErrstatTimeouts (i : Nat) : Fld := ⟨0x30000C + 0x1000 * i, 0, 8, 0⟩
/-- HOM.ERRSTAT.POISONED bits 15:8, RH, R200. -/
def F.homErrstatPoisoned (i : Nat) : Fld := ⟨0x30000C + 0x1000 * i, 8, 8, 0⟩
/-- HOM.ERRSTAT.PROTO bits 23:16, RH, R200. -/
def F.homErrstatProto (i : Nat) : Fld := ⟨0x30000C + 0x1000 * i, 16, 8, 0⟩
/-- HOM.ERRSTAT.LATE_RSP bits 31:24, RH, R200. -/
def F.homErrstatLateRsp (i : Nat) : Fld := ⟨0x30000C + 0x1000 * i, 24, 8, 0⟩
/-- HOM.BERTH.TRACKERS bits 10:0, CL, R200. -/
def F.homBerthTrackers (i e : Nat) : Fld := ⟨0x300100 + 0x1000 * i + 8 * e, 0, 11, 0⟩
/-- HOM.BERTH.SNOOPS bits 23:12, CL, R200. -/
def F.homBerthSnoops (i e : Nat) : Fld := ⟨0x300100 + 0x1000 * i + 8 * e, 12, 12, 1⟩
/-- HOM.BERTH.TRK_USE bits 10:0, RH, R200. -/
def F.homBerthTrkUse (i e : Nat) : Fld := ⟨0x300104 + 0x1000 * i + 8 * e, 0, 11, 0⟩
/-- HOM.BERTH.SNP_USE bits 23:12, RH, R200. -/
def F.homBerthSnpUse (i e : Nat) : Fld := ⟨0x300104 + 0x1000 * i + 8 * e, 12, 12, 0⟩
/-- HOM.BERTH.TRK_OVERQ bits 24:24, RH, R200. -/
def F.homBerthTrkOverq (i e : Nat) : Fld := ⟨0x300104 + 0x1000 * i + 8 * e, 24, 1, 0⟩
/-- HOM.BERTH.SNP_OVERQ bits 25:25, RH, R200. -/
def F.homBerthSnpOverq (i e : Nat) : Fld := ⟨0x300104 + 0x1000 * i + 8 * e, 25, 1, 0⟩
/-- DIR.PART.STACK bits 2:0, RH, R201; reset: g. -/
def F.dirPartStack (i : Nat) : Fld := ⟨0x200000 + 0x100 * i, 0, 3, (i / 9)⟩
/-- DIR.PART.INDEX bits 6:3, RH, R201; reset: s. -/
def F.dirPartIndex (i : Nat) : Fld := ⟨0x200000 + 0x100 * i, 3, 4, (i % 9)⟩
/-- DIR.PART.VALID bits 7:7, RH, R201. -/
def F.dirPartValid (i : Nat) : Fld := ⟨0x200000 + 0x100 * i, 7, 1, 0⟩
/-- DIR.LIVE bits 26:0, RH, R201. -/
def F.dirLive (i : Nat) : Fld := ⟨0x200004 + 0x100 * i, 0, 27, 0⟩
/-- DIR.OWNED bits 23:0, RH, R201. -/
def F.dirOwned (i : Nat) : Fld := ⟨0x200008 + 0x100 * i, 0, 24, 0⟩
/-- DIR.FILTER.NONZERO bits 20:0, RH, R201. -/
def F.dirFilterNonzero (i : Nat) : Fld := ⟨0x20000C + 0x100 * i, 0, 21, 0⟩
/-- DIR.FILTER.SATURATED bits 31:21, RH, R201. -/
def F.dirFilterSaturated (i : Nat) : Fld := ⟨0x20000C + 0x100 * i, 21, 11, 0⟩
/-- DIR.EVICT bits 31:0, RH, R201. -/
def F.dirEvict (i : Nat) : Fld := ⟨0x200010 + 0x100 * i, 0, 32, 0⟩
/-- HUB.LDSWIN.VALID bits 0:0, CL, R233. -/
def F.hubLdswinValid : Fld := ⟨0x100050, 0, 1, 0⟩
/-- HUB.LDSWIN.BASE_LO bits 31:26, CL, R233. -/
def F.hubLdswinBaseLo : Fld := ⟨0x100050, 26, 6, 0⟩
/-- HUB.LDSWIN.BASE_HI bits 19:0, CL, R233. -/
def F.hubLdswinBaseHi : Fld := ⟨0x100054, 0, 20, 0⟩
/-- HUB.LDSQ.OBJ_QUOTA bits 26:0, CL, R233. -/
def F.hubLdsqObjQuota (e : Nat) : Fld := ⟨0x130200 + 16 * e, 0, 27, 0⟩
/-- HUB.LDSQ.OBJ_USE bits 26:0, RH, R233. -/
def F.hubLdsqObjUse (e : Nat) : Fld := ⟨0x130204 + 16 * e, 0, 27, 0⟩
/-- The reserved word of the entry, read-only zero (R7). -/
def F.hubLdsqReserved (e : Nat) : Fld := ⟨0x13020C + 16 * e, 0, 32, 0⟩
/-- HUB.LDSQ.GRP_FIRST bits 15:0, CL, R233. -/
def F.hubLdsqGrpFirst (e : Nat) : Fld := ⟨0x130208 + 16 * e, 0, 16, 1⟩
/-- HUB.LDSQ.GRP_LAST bits 31:16, CL, R233. -/
def F.hubLdsqGrpLast (e : Nat) : Fld := ⟨0x130208 + 16 * e, 16, 16, 0⟩
/-- LDS.CTL.MAX_WAIT bits 15:0, RW, R234. -/
def F.ldsCtlMaxWait (i : Nat) : Fld := ⟨0x210000 + 0x100 * i, 0, 16, 1000⟩
/-- LDS.CTL.DETECT bits 27:16, RW, R234. -/
def F.ldsCtlDetect (i : Nat) : Fld := ⟨0x210000 + 0x100 * i, 16, 12, 10⟩
/-- LDS.STAT.WAITERS bits 14:0, RH, R234. -/
def F.ldsStatWaiters (i : Nat) : Fld := ⟨0x210004 + 0x100 * i, 0, 15, 0⟩
/-- LDS.STAT.PEAK bits 29:15, RH, R234. -/
def F.ldsStatPeak (i : Nat) : Fld := ⟨0x210004 + 0x100 * i, 15, 15, 0⟩
/-- LDS.STAT.CLR_PEAK bits 30:30, WO, R234. -/
def F.ldsStatClrPeak (i : Nat) : Fld := ⟨0x210004 + 0x100 * i, 30, 1, 0⟩
/-- LDS.ERRSTAT.SLOT_BUSY bits 7:0, RH, R234. -/
def F.ldsErrstatSlotBusy (i : Nat) : Fld := ⟨0x210008 + 0x100 * i, 0, 8, 0⟩
/-- LDS.ERRSTAT.FORMAT bits 15:8, RH, R234. -/
def F.ldsErrstatFormat (i : Nat) : Fld := ⟨0x210008 + 0x100 * i, 8, 8, 0⟩
/-- LDS.ERRSTAT.UNKNOWN bits 23:16, RH, R234. -/
def F.ldsErrstatUnknown (i : Nat) : Fld := ⟨0x210008 + 0x100 * i, 16, 8, 0⟩
/-- LDS.ERRSTAT.RETRY bits 31:24, RH, R234. -/
def F.ldsErrstatRetry (i : Nat) : Fld := ⟨0x210008 + 0x100 * i, 24, 8, 0⟩
/-- LDS.GRPSTAT.ALLWAIT bits 15:0, RH, R234. -/
def F.ldsGrpstatAllwait (i : Nat) : Fld := ⟨0x21000C + 0x100 * i, 0, 16, 0⟩
/-- LDS.GRPSTAT.THAWED bits 31:16, RH, R234. -/
def F.ldsGrpstatThawed (i : Nat) : Fld := ⟨0x21000C + 0x100 * i, 16, 16, 0⟩
/-- LDS.OBJSTAT.FREE bits 20:0, RH, R234. -/
def F.ldsObjstatFree (i : Nat) : Fld := ⟨0x210010 + 0x100 * i, 0, 21, 1048576⟩
/-- LDS.OBJSTAT.NOSTORE bits 31:31, RH, R234. -/
def F.ldsObjstatNostore (i : Nat) : Fld := ⟨0x210010 + 0x100 * i, 31, 1, 0⟩
/-- CPE.CTL.LEAVE_WAIT bits 7:0, RW, R235. -/
def F.cpeCtlLeaveWait (i : Nat) : Fld := ⟨0x400000 + 0x1000 * i, 0, 8, 10⟩
/-- CPE.STAT.RUNNING bits 4:0, RH, R235. -/
def F.cpeStatRunning (i : Nat) : Fld := ⟨0x400004 + 0x1000 * i, 0, 5, 0⟩
/-- CPE.STAT.QUEUED bits 16:5, RH, R235. -/
def F.cpeStatQueued (i : Nat) : Fld := ⟨0x400004 + 0x1000 * i, 5, 12, 0⟩
/-- CPE.STAT.PAUSED bits 17:17, RH, R235. -/
def F.cpeStatPaused (i : Nat) : Fld := ⟨0x400004 + 0x1000 * i, 17, 1, 0⟩
/-- CPE.STAT.FORMAT bits 31:24, RH, R235. -/
def F.cpeStatFormat (i : Nat) : Fld := ⟨0x400004 + 0x1000 * i, 24, 8, 0⟩
/-- CPE.SHARE.SHARE bits 4:0, CL, R235. -/
def F.cpeBerthShare (i e : Nat) : Fld := ⟨0x400100 + 0x1000 * i + 4 * e, 0, 5, 0⟩
/-- CPE.SHARE.USE bits 9:5, RH, R235. -/
def F.cpeBerthUse (i e : Nat) : Fld := ⟨0x400100 + 0x1000 * i + 4 * e, 5, 5, 0⟩
/-- CPE.SHARE.OVERQ bits 10:10, RH, R235. -/
def F.cpeBerthOverq (i e : Nat) : Fld := ⟨0x400100 + 0x1000 * i + 4 * e, 10, 1, 0⟩
/-- CPE.MGTDESC bits 31:0, WO, R235. -/
def F.cpeMgtdesc (i e : Nat) : Fld := ⟨0x400200 + 0x1000 * i + 4 * e, 0, 32, 0⟩
/-- CPE.MGTSUBMIT.GO bits 0:0, WO, R235. -/
def F.cpeMgtsubmitGo (i : Nat) : Fld := ⟨0x400240 + 0x1000 * i, 0, 1, 0⟩
/-- CPE.MGTSUBMIT.BUSY bits 1:1, RH, R235. -/
def F.cpeMgtsubmitBusy (i : Nat) : Fld := ⟨0x400240 + 0x1000 * i, 1, 1, 0⟩
/-- CPE.MGTDONE bits 31:0, RH, R235. -/
def F.cpeMgtdone (i e : Nat) : Fld := ⟨0x400280 + 0x1000 * i + 4 * e, 0, 32, 0⟩
/-- GAT.IDENT.KIND bits 1:0, RO, R247; reset: by instance. -/
def F.gatIdentKind (i : Nat) : Fld := ⟨0x2800000 + 0x1000 * i, 0, 2, (gateKind i)⟩
/-- GAT.IDENT.UNIT bits 11:2, RO, R247; reset: by instance. -/
def F.gatIdentUnit (i : Nat) : Fld := ⟨0x2800000 + 0x1000 * i, 2, 10, (gateUnit i)⟩
/-- GAT.IDENT.IN_USE bits 12:12, RH, R247. -/
def F.gatIdentInUse (i : Nat) : Fld := ⟨0x2800000 + 0x1000 * i, 12, 1, 0⟩
/-- GAT.VIOL.ADDR_LO bits 31:0, RH, R248. -/
def F.gatViolAddrLo (i : Nat) : Fld := ⟨0x2800010 + 0x1000 * i, 0, 32, 0⟩
/-- GAT.VIOL.ADDR_HI bits 13:0, RH, R248. -/
def F.gatViolAddrHi (i : Nat) : Fld := ⟨0x2800014 + 0x1000 * i, 0, 14, 0⟩
/-- GAT.VIOL.BERTH bits 19:14, RH, R248. -/
def F.gatViolBerth (i : Nat) : Fld := ⟨0x2800014 + 0x1000 * i, 14, 6, 0⟩
/-- GAT.VIOL.WINDOW bits 26:20, RH, R248. -/
def F.gatViolWindow (i : Nat) : Fld := ⟨0x2800014 + 0x1000 * i, 20, 7, 0⟩
/-- GAT.VIOL.REASON bits 28:27, RH, R248. -/
def F.gatViolReason (i : Nat) : Fld := ⟨0x2800014 + 0x1000 * i, 27, 2, 0⟩
/-- GAT.VIOL.KIND bits 3:0, RH, R248. -/
def F.gatViolKind (i : Nat) : Fld := ⟨0x2800018 + 0x1000 * i, 0, 4, 0⟩
/-- GAT.VIOL.SOURCE bits 13:4, RH, R248. -/
def F.gatViolSource (i : Nat) : Fld := ⟨0x2800018 + 0x1000 * i, 4, 10, 0⟩
/-- GAT.VIOL.PARTS bits 14:14, RH, R248. -/
def F.gatViolParts (i : Nat) : Fld := ⟨0x2800018 + 0x1000 * i, 14, 1, 0⟩
/-- GAT.VIOL.VALID bits 31:31, W1C, R248. -/
def F.gatViolValid (i : Nat) : Fld := ⟨0x2800018 + 0x1000 * i, 31, 1, 0⟩
/-- GAT.VIOL_COUNT bits 31:0, RH, R248. -/
def F.gatViolCount (i : Nat) : Fld := ⟨0x280001C + 0x1000 * i, 0, 32, 0⟩
/-- GAT.CTL.CLR_COUNT bits 0:0, WO, R248. -/
def F.gatCtlClrCount (i : Nat) : Fld := ⟨0x2800020 + 0x1000 * i, 0, 1, 0⟩
/-- GAT.WIN.START_LO bits 31:0, CL, R249. -/
def F.gatWinStartLo (i e : Nat) : Fld := ⟨0x2800100 + 0x1000 * i + 32 * e, 0, 32, 0⟩
/-- GAT.WIN.START_HI bits 13:0, CL, R249. -/
def F.gatWinStartHi (i e : Nat) : Fld := ⟨0x2800104 + 0x1000 * i + 32 * e, 0, 14, 0⟩
/-- Reserved words of the entry, read-only zero (R7). -/
def F.gatWinReserved (i e : Nat) : Fld := ⟨0x280011C + 0x1000 * i + 32 * e, 0, 32, 0⟩
/-- GAT.WIN.END_LO bits 31:0, CL, R249. -/
def F.gatWinEndLo (i e : Nat) : Fld := ⟨0x2800108 + 0x1000 * i + 32 * e, 0, 32, 0⟩
/-- GAT.WIN.END_HI bits 13:0, CL, R249. -/
def F.gatWinEndHi (i e : Nat) : Fld := ⟨0x280010C + 0x1000 * i + 32 * e, 0, 14, 0⟩
/-- GAT.WIN.MASK_LO bits 31:0, CL, R249. -/
def F.gatWinMaskLo (i e : Nat) : Fld := ⟨0x2800110 + 0x1000 * i + 32 * e, 0, 32, 0⟩
/-- GAT.WIN.MASK_HI bits 31:0, CL, R249. -/
def F.gatWinMaskHi (i e : Nat) : Fld := ⟨0x2800114 + 0x1000 * i + 32 * e, 0, 32, 0⟩
/-- GAT.WIN.EN bits 0:0, CL, R249. -/
def F.gatWinEn (i e : Nat) : Fld := ⟨0x2800118 + 0x1000 * i + 32 * e, 0, 1, 0⟩
/-- GAT.WIN.R bits 1:1, CL, R249. -/
def F.gatWinR (i e : Nat) : Fld := ⟨0x2800118 + 0x1000 * i + 32 * e, 1, 1, 0⟩
/-- GAT.WIN bits 2:2, CL, R249. -/
def F.gatWinW (i e : Nat) : Fld := ⟨0x2800118 + 0x1000 * i + 32 * e, 2, 1, 0⟩
/-- GAT.WIN.A bits 3:3, CL, R249. -/
def F.gatWinA (i e : Nat) : Fld := ⟨0x2800118 + 0x1000 * i + 32 * e, 3, 1, 0⟩
/-- GAT.WIN.C bits 4:4, CL, R249. -/
def F.gatWinC (i e : Nat) : Fld := ⟨0x2800118 + 0x1000 * i + 32 * e, 4, 1, 0⟩
/-- LAN.MODE.ACTIVE bits 0:0, RH, R272. -/
def F.lanModeActive (i : Nat) : Fld := ⟨0x700000 + 0x40 * i, 0, 1, 0⟩
/-- LAN.MODE.PAM4 bits 1:1, RH, R272. -/
def F.lanModePam4 (i : Nat) : Fld := ⟨0x700000 + 0x40 * i, 1, 1, 0⟩
/-- LAN.MODE.POL_INV bits 2:2, RH, R272. -/
def F.lanModePolInv (i : Nat) : Fld := ⟨0x700000 + 0x40 * i, 2, 1, 0⟩
/-- LAN.MODE.LINK_LANE bits 6:3, RH, R272. -/
def F.lanModeLinkLane (i : Nat) : Fld := ⟨0x700000 + 0x40 * i, 3, 4, 0⟩
/-- LAN.TXEQ.CM2 bits 5:0, RH, R272. -/
def F.lanTxeqCm2 (i : Nat) : Fld := ⟨0x700004 + 0x40 * i, 0, 6, 0⟩
/-- LAN.TXEQ.CM1 bits 11:6, RH, R272. -/
def F.lanTxeqCm1 (i : Nat) : Fld := ⟨0x700004 + 0x40 * i, 6, 6, 0⟩
/-- LAN.TXEQ.C0 bits 17:12, RH, R272. -/
def F.lanTxeqC0 (i : Nat) : Fld := ⟨0x700004 + 0x40 * i, 12, 6, 0⟩
/-- LAN.TXEQ.CP1 bits 23:18, RH, R272. -/
def F.lanTxeqCp1 (i : Nat) : Fld := ⟨0x700004 + 0x40 * i, 18, 6, 0⟩
/-- LAN.RXEQ.CTLE_RANGE bits 1:0, RH, R272. -/
def F.lanRxeqCtleRange (i : Nat) : Fld := ⟨0x700008 + 0x40 * i, 0, 2, 0⟩
/-- LAN.RXEQ.CTLE_PEAK bits 5:2, RH, R272. -/
def F.lanRxeqCtlePeak (i : Nat) : Fld := ⟨0x700008 + 0x40 * i, 2, 4, 0⟩
/-- LAN.RXEQ.VGA_RANGE bits 7:6, RH, R272. -/
def F.lanRxeqVgaRange (i : Nat) : Fld := ⟨0x700008 + 0x40 * i, 6, 2, 0⟩
/-- LAN.RXEQ.VGA_GAIN bits 13:8, RH, R272. -/
def F.lanRxeqVgaGain (i : Nat) : Fld := ⟨0x700008 + 0x40 * i, 8, 6, 0⟩
/-- LAN.RXEQ.CDR_PHASE bits 19:14, RH, R272. -/
def F.lanRxeqCdrPhase (i : Nat) : Fld := ⟨0x700008 + 0x40 * i, 14, 6, 0⟩
/-- LAN.RXEQ.END_STOP bits 20:20, RH, R272. -/
def F.lanRxeqEndStop (i : Nat) : Fld := ⟨0x700008 + 0x40 * i, 20, 1, 0⟩
/-- LAN.RXEQ.STEP_PENDING bits 21:21, RH, R272. -/
def F.lanRxeqStepPending (i : Nat) : Fld := ⟨0x700008 + 0x40 * i, 21, 1, 0⟩
/-- LAN.DFE.TAP1 bits 6:0, RH, R272. -/
def F.lanDfeTap1 (i : Nat) : Fld := ⟨0x70000C + 0x40 * i, 0, 7, 0⟩
/-- LAN.DFE.TAP2 bits 11:7, RH, R272. -/
def F.lanDfeTap2 (i : Nat) : Fld := ⟨0x70000C + 0x40 * i, 7, 5, 0⟩
/-- LAN.DFE.TAP3 bits 16:12, RH, R272. -/
def F.lanDfeTap3 (i : Nat) : Fld := ⟨0x70000C + 0x40 * i, 12, 5, 0⟩
/-- LAN.DFE.TAP4 bits 21:17, RH, R272. -/
def F.lanDfeTap4 (i : Nat) : Fld := ⟨0x70000C + 0x40 * i, 17, 5, 0⟩
/-- LAN.DFE.TAP5 bits 26:22, RH, R272. -/
def F.lanDfeTap5 (i : Nat) : Fld := ⟨0x70000C + 0x40 * i, 22, 5, 0⟩
/-- LAN.DFE.TAP6 bits 4:0, RH, R272. -/
def F.lanDfeTap6 (i : Nat) : Fld := ⟨0x700010 + 0x40 * i, 0, 5, 0⟩
/-- LAN.DFE.TAP7 bits 9:5, RH, R272. -/
def F.lanDfeTap7 (i : Nat) : Fld := ⟨0x700010 + 0x40 * i, 5, 5, 0⟩
/-- LAN.DFE.TAP8 bits 14:10, RH, R272. -/
def F.lanDfeTap8 (i : Nat) : Fld := ⟨0x700010 + 0x40 * i, 10, 5, 0⟩
/-- LAN.DFE.TAP9 bits 19:15, RH, R272. -/
def F.lanDfeTap9 (i : Nat) : Fld := ⟨0x700010 + 0x40 * i, 15, 5, 0⟩
/-- LAN.DFE.TAP10 bits 24:20, RH, R272. -/
def F.lanDfeTap10 (i : Nat) : Fld := ⟨0x700010 + 0x40 * i, 20, 5, 0⟩
/-- LAN.DFE.TAP11 bits 29:25, RH, R272. -/
def F.lanDfeTap11 (i : Nat) : Fld := ⟨0x700010 + 0x40 * i, 25, 5, 0⟩
/-- LAN.DFE.TAP12 bits 4:0, RH, R272. -/
def F.lanDfeTap12 (i : Nat) : Fld := ⟨0x700014 + 0x40 * i, 0, 5, 0⟩
/-- LAN.CALCNT.RANGE_STEPS bits 7:0, RH, R272. -/
def F.lanCalcntRangeSteps (i : Nat) : Fld := ⟨0x700018 + 0x40 * i, 0, 8, 0⟩
/-- LAN.CALCNT.RECENTRES bits 15:8, RH, R272. -/
def F.lanCalcntRecentres (i : Nat) : Fld := ⟨0x700018 + 0x40 * i, 8, 8, 0⟩
/-- LAN.CALCNT.FORCED bits 23:16, RH, R272. -/
def F.lanCalcntForced (i : Nat) : Fld := ⟨0x700018 + 0x40 * i, 16, 8, 0⟩
/-- LAN.CALCNT.SUSPECT_STEPS bits 31:24, RH, R272. -/
def F.lanCalcntSuspectSteps (i : Nat) : Fld := ⟨0x700018 + 0x40 * i, 24, 8, 0⟩
/-- LAN.QWCTL.LEN bits 6:0, RW, R272. -/
def F.lanQwctlLen (i : Nat) : Fld := ⟨0x700020 + 0x40 * i, 0, 7, 40⟩
/-- LAN.QWCTL.GAP_WAIT bits 14:8, RW, R272. -/
def F.lanQwctlGapWait (i : Nat) : Fld := ⟨0x700020 + 0x40 * i, 8, 7, 10⟩
/-- LAN.QWSTAT.BUDGET bits 7:0, RH, R272. -/
def F.lanQwstatBudget (i : Nat) : Fld := ⟨0x700024 + 0x40 * i, 0, 8, 160⟩
/-- LAN.QWSTAT.REQ_OUT bits 8:8, RH, R272. -/
def F.lanQwstatReqOut (i : Nat) : Fld := ⟨0x700024 + 0x40 * i, 8, 1, 0⟩
/-- LAN.QWSTAT.REQ_IN bits 9:9, RH, R272. -/
def F.lanQwstatReqIn (i : Nat) : Fld := ⟨0x700024 + 0x40 * i, 9, 1, 0⟩
/-- LAN.QWSENT bits 31:0, RH, R272. -/
def F.lanQwsent (i : Nat) : Fld := ⟨0x700028 + 0x40 * i, 0, 32, 0⟩
/-- LAN.QWRCVD bits 31:0, RH, R272. -/
def F.lanQwrcvd (i : Nat) : Fld := ⟨0x70002C + 0x40 * i, 0, 32, 0⟩
/-- SXT.FOM bits 7:0, RH, R273. -/
def F.sxtFom (i : Nat) : Fld := ⟨0x780000 + 0x40 * i, 0, 8, 0⟩
/-- SXT.FOM.HO bits 16:8, RH, R273. -/
def F.sxtFomHo (i : Nat) : Fld := ⟨0x780000 + 0x40 * i, 8, 9, 0⟩
/-- SXT.FOM.VO bits 25:17, RH, R273. -/
def F.sxtFomVo (i : Nat) : Fld := ⟨0x780000 + 0x40 * i, 17, 9, 0⟩
/-- SXT.FOM.WORST_EYE bits 27:26, RH, R273. -/
def F.sxtFomWorstEye (i : Nat) : Fld := ⟨0x780000 + 0x40 * i, 26, 2, 0⟩
/-- SXT.EDGE.LEFT bits 7:0, RH, R273. -/
def F.sxtEdgeLeft (i : Nat) : Fld := ⟨0x780004 + 0x40 * i, 0, 8, 0⟩
/-- SXT.EDGE.RIGHT bits 15:8, RH, R273. -/
def F.sxtEdgeRight (i : Nat) : Fld := ⟨0x780004 + 0x40 * i, 8, 8, 0⟩
/-- SXT.EDGE.UP bits 23:16, RH, R273. -/
def F.sxtEdgeUp (i : Nat) : Fld := ⟨0x780004 + 0x40 * i, 16, 8, 0⟩
/-- SXT.EDGE.DOWN bits 31:24, RH, R273. -/
def F.sxtEdgeDown (i : Nat) : Fld := ⟨0x780004 + 0x40 * i, 24, 8, 0⟩
/-- SXT.THRESH.TARGET bits 7:0, RW, R273. -/
def F.sxtThreshTarget (i : Nat) : Fld := ⟨0x780008 + 0x40 * i, 0, 8, 96⟩
/-- SXT.THRESH.ATTN bits 15:8, RW, R273. -/
def F.sxtThreshAttn (i : Nat) : Fld := ⟨0x780008 + 0x40 * i, 8, 8, 64⟩
/-- SXT.THRESH.LOW bits 23:16, RW, R273. -/
def F.sxtThreshLow (i : Nat) : Fld := ⟨0x780008 + 0x40 * i, 16, 8, 32⟩
/-- SXT.CFG.TOL bits 3:0, RW, R273. -/
def F.sxtCfgTol (i : Nat) : Fld := ⟨0x78000C + 0x40 * i, 0, 4, 0⟩
/-- SXT.CFG.DWELL bits 6:4, RW, R273. -/
def F.sxtCfgDwell (i : Nat) : Fld := ⟨0x78000C + 0x40 * i, 4, 3, 2⟩
/-- SXT.RANGECTL.SLOPE_MAX bits 5:0, RW, R273. -/
def F.sxtRangectlSlopeMax (i : Nat) : Fld := ⟨0x780010 + 0x40 * i, 0, 6, 8⟩
/-- SXT.RANGECTL.GAIN_MIN bits 10:6, RW, R273. -/
def F.sxtRangectlGainMin (i : Nat) : Fld := ⟨0x780010 + 0x40 * i, 6, 5, 4⟩
/-- SXT.RANGECTL.DEFER_MAX bits 18:11, RW, R273. -/
def F.sxtRangectlDeferMax (i : Nat) : Fld := ⟨0x780010 + 0x40 * i, 11, 8, 50⟩
/-- SXT.TRIAL.KIND bits 1:0, RH, R273. -/
def F.sxtTrialKind (i : Nat) : Fld := ⟨0x780014 + 0x40 * i, 0, 2, 0⟩
/-- SXT.TRIAL.FROM bits 3:2, RH, R273. -/
def F.sxtTrialFrom (i : Nat) : Fld := ⟨0x780014 + 0x40 * i, 2, 2, 0⟩
/-- SXT.TRIAL.TO bits 5:4, RH, R273. -/
def F.sxtTrialTo (i : Nat) : Fld := ⟨0x780014 + 0x40 * i, 4, 2, 0⟩
/-- SXT.TRIAL.T1 bits 13:6, RH, R273. -/
def F.sxtTrialT1 (i : Nat) : Fld := ⟨0x780014 + 0x40 * i, 6, 8, 0⟩
/-- SXT.TRIAL.T2 bits 21:14, RH, R273. -/
def F.sxtTrialT2 (i : Nat) : Fld := ⟨0x780014 + 0x40 * i, 14, 8, 0⟩
/-- SXT.TRIAL.OUTCOME bits 24:22, RH, R273. -/
def F.sxtTrialOutcome (i : Nat) : Fld := ⟨0x780014 + 0x40 * i, 22, 3, 0⟩
/-- SXT.TRIALCNT.TRIALS bits 7:0, RH, R273. -/
def F.sxtTrialcntTrials (i : Nat) : Fld := ⟨0x780018 + 0x40 * i, 0, 8, 0⟩
/-- SXT.TRIALCNT.DEFERRALS bits 15:8, RH, R273. -/
def F.sxtTrialcntDeferrals (i : Nat) : Fld := ⟨0x780018 + 0x40 * i, 8, 8, 0⟩
/-- SXT.TRIALCNT.REJECTS bits 23:16, RH, R273. -/
def F.sxtTrialcntRejects (i : Nat) : Fld := ⟨0x780018 + 0x40 * i, 16, 8, 0⟩
/-- SXT.TRIALCNT.LOWTICKS bits 31:24, RH, R273. -/
def F.sxtTrialcntLowticks (i : Nat) : Fld := ⟨0x780018 + 0x40 * i, 24, 8, 0⟩
/-- SXT.SWEEPRES.HO bits 8:0, RH, R273. -/
def F.sxtSweepresHo (i : Nat) : Fld := ⟨0x78001C + 0x40 * i, 0, 9, 0⟩
/-- SXT.SWEEPRES.VO bits 17:9, RH, R273. -/
def F.sxtSweepresVo (i : Nat) : Fld := ⟨0x78001C + 0x40 * i, 9, 9, 0⟩
/-- SXT.SWEEPRES.FOM bits 25:18, RH, R273. -/
def F.sxtSweepresFom (i : Nat) : Fld := ⟨0x78001C + 0x40 * i, 18, 8, 0⟩
/-- SXT.SWEEPRES.EYE bits 27:26, RH, R273. -/
def F.sxtSweepresEye (i : Nat) : Fld := ⟨0x78001C + 0x40 * i, 26, 2, 0⟩
/-- SXT.SWEEPRES.VALID bits 28:28, RH, R273. -/
def F.sxtSweepresValid (i : Nat) : Fld := ⟨0x78001C + 0x40 * i, 28, 1, 0⟩
/-- HUB.SWEEP.FIRST bits 10:0, RW, R274. -/
def F.hubSweepFirst : Fld := ⟨0x100060, 0, 11, 0⟩
/-- HUB.SWEEP.COUNT bits 23:12, RW, R274. -/
def F.hubSweepCount : Fld := ⟨0x100060, 12, 12, 1⟩
/-- HUB.SWEEP.DWELL bits 26:24, RW, R274. -/
def F.hubSweepDwell : Fld := ⟨0x100060, 24, 3, 5⟩
/-- HUB.SWEEP.START bits 27:27, WO, R274. -/
def F.hubSweepStart : Fld := ⟨0x100060, 27, 1, 0⟩
/-- HUB.SWEEP.BUSY bits 28:28, RH, R274. -/
def F.hubSweepBusy : Fld := ⟨0x100060, 28, 1, 0⟩
/-- HUB.SWEEP.DONE bits 29:29, W1C, R274. -/
def F.hubSweepDone : Fld := ⟨0x100060, 29, 1, 0⟩
/-- HUB.SWEEP.LEAVE_REFUSED bits 30:30, W1C, R274. -/
def F.hubSweepLeaveRefused : Fld := ⟨0x100060, 30, 1, 0⟩
/-- HUB.SWEEPSTAT.LANES_DONE bits 11:0, RH, R274. -/
def F.hubSweepstatLanesDone : Fld := ⟨0x100064, 0, 12, 0⟩
/-- FNL.LINKCTL.GRACE bits 9:0, RW, R309. -/
def F.fnlLinkctlGrace (i : Nat) : Fld := ⟨0x600000 + 0x100 * i, 0, 10, 20⟩
/-- FNL.LINKCTL.WATCH bits 17:10, RW, R309. -/
def F.fnlLinkctlWatch (i : Nat) : Fld := ⟨0x600000 + 0x100 * i, 10, 8, 10⟩
/-- FNL.LINKCTL.UNCOR_MAX bits 25:18, RW, R309. -/
def F.fnlLinkctlUncorMax (i : Nat) : Fld := ⟨0x600000 + 0x100 * i, 18, 8, 16⟩
/-- FNL.LINKCTL.LOWFOM_MAX bits 31:26, RW, R309. -/
def F.fnlLinkctlLowfomMax (i : Nat) : Fld := ⟨0x600000 + 0x100 * i, 26, 6, 16⟩
/-- FNL.RETIRECTL.RETIRE_COUNT bits 3:0, RW, R309. -/
def F.fnlRetirectlRetireCount (i : Nat) : Fld := ⟨0x600004 + 0x100 * i, 0, 4, 3⟩
/-- FNL.RETIRECTL.RETIRE_WINDOW bits 11:4, RW, R309. -/
def F.fnlRetirectlRetireWindow (i : Nat) : Fld := ⟨0x600004 + 0x100 * i, 4, 8, 10⟩
/-- FNL.RETIRECTL.UNRETIRE bits 12:12, WO, R309. -/
def F.fnlRetirectlUnretire (i : Nat) : Fld := ⟨0x600004 + 0x100 * i, 12, 1, 0⟩
/-- FNL.RETIRECTL.RESET bits 13:13, WO, R309. -/
def F.fnlRetirectlReset (i : Nat) : Fld := ⟨0x600004 + 0x100 * i, 13, 1, 0⟩
/-- FNL.RETIRECTL.COLD bits 14:14, RW, R309. -/
def F.fnlRetirectlCold (i : Nat) : Fld := ⟨0x600004 + 0x100 * i, 14, 1, 0⟩
/-- FNL.LINKSTAT.STATE bits 2:0, RH, R309. -/
def F.fnlLinkstatState (i : Nat) : Fld := ⟨0x600008 + 0x100 * i, 0, 3, 0⟩
/-- FNL.LINKSTAT.GRACE_ON bits 3:3, RH, R309. -/
def F.fnlLinkstatGraceOn (i : Nat) : Fld := ⟨0x600008 + 0x100 * i, 3, 1, 0⟩
/-- FNL.LINKSTAT.FLUSHED bits 4:4, RH, R309. -/
def F.fnlLinkstatFlushed (i : Nat) : Fld := ⟨0x600008 + 0x100 * i, 4, 1, 0⟩
/-- FNL.LINKSTAT.RESUMED bits 5:5, RH, R309. -/
def F.fnlLinkstatResumed (i : Nat) : Fld := ⟨0x600008 + 0x100 * i, 5, 1, 0⟩
/-- FNL.LINKSTAT.LAST_CAUSE bits 9:6, RH, R309. -/
def F.fnlLinkstatLastCause (i : Nat) : Fld := ⟨0x600008 + 0x100 * i, 6, 4, 0⟩
/-- FNL.LINKSTAT.LINKDOWNS bits 13:10, RH, R309. -/
def F.fnlLinkstatLinkdowns (i : Nat) : Fld := ⟨0x600008 + 0x100 * i, 10, 4, 0⟩
/-- FNL.LINKSTAT.PEER_ID bits 17:14, RH, R309. -/
def F.fnlLinkstatPeerId (i : Nat) : Fld := ⟨0x600008 + 0x100 * i, 14, 4, 0⟩
/-- FNL.WATCHCNT.UNCOR bits 7:0, RH, R309. -/
def F.fnlWatchcntUncor (i : Nat) : Fld := ⟨0x60000C + 0x100 * i, 0, 8, 0⟩
/-- FNL.WATCHCNT.LOWFOM bits 15:8, RH, R309. -/
def F.fnlWatchcntLowfom (i : Nat) : Fld := ⟨0x60000C + 0x100 * i, 8, 8, 0⟩
/-- FNL.WATCHCNT.MAXUNCOR bits 23:16, RH, R309. -/
def F.fnlWatchcntMaxuncor (i : Nat) : Fld := ⟨0x60000C + 0x100 * i, 16, 8, 0⟩
/-- FNL.WATCHCNT.MAXLOW bits 31:24, RH, R309. -/
def F.fnlWatchcntMaxlow (i : Nat) : Fld := ⟨0x60000C + 0x100 * i, 24, 8, 0⟩
/-- FNL.REPLAYCTL.TIMEOUT bits 7:0, RW, R309. -/
def F.fnlReplayctlTimeout (i : Nat) : Fld := ⟨0x600010 + 0x100 * i, 0, 8, 20⟩
/-- FNL.REPLAYCTL.REPLAY_MAX bits 11:8, RW, R309. -/
def F.fnlReplayctlReplayMax (i : Nat) : Fld := ⟨0x600010 + 0x100 * i, 8, 4, 4⟩
/-- FNL.SEQ.TX_NEXT bits 11:0, RH, R309. -/
def F.fnlSeqTxNext (i : Nat) : Fld := ⟨0x600014 + 0x100 * i, 0, 12, 0⟩
/-- FNL.SEQ.ACKED bits 23:12, RH, R309. -/
def F.fnlSeqAcked (i : Nat) : Fld := ⟨0x600014 + 0x100 * i, 12, 12, 4095⟩
/-- FNL.SEQ.RX_NEXT bits 11:0, RH, R309. -/
def F.fnlSeqRxNext (i : Nat) : Fld := ⟨0x600018 + 0x100 * i, 0, 12, 0⟩
/-- FNL.SEQ.OUTSTANDING bits 22:12, RH, R309. -/
def F.fnlSeqOutstanding (i : Nat) : Fld := ⟨0x600018 + 0x100 * i, 12, 11, 0⟩
/-- FNL.SEQ.DEPTH bits 26:23, RH, R309. -/
def F.fnlSeqDepth (i : Nat) : Fld := ⟨0x600018 + 0x100 * i, 23, 4, 0⟩
/-- FNL.CORR bits 31:0, RH, R309. -/
def F.fnlCorr (i : Nat) : Fld := ⟨0x60001C + 0x100 * i, 0, 32, 0⟩
/-- FNL.UNCOR bits 31:0, RH, R309. -/
def F.fnlUncor (i : Nat) : Fld := ⟨0x600020 + 0x100 * i, 0, 32, 0⟩
/-- FNL.EVT.NAK_TX bits 7:0, RH, R309. -/
def F.fnlEvtNakTx (i : Nat) : Fld := ⟨0x600024 + 0x100 * i, 0, 8, 0⟩
/-- FNL.EVT.NAK_RX bits 15:8, RH, R309. -/
def F.fnlEvtNakRx (i : Nat) : Fld := ⟨0x600024 + 0x100 * i, 8, 8, 0⟩
/-- FNL.EVT.REPLAYS bits 23:16, RH, R309. -/
def F.fnlEvtReplays (i : Nat) : Fld := ⟨0x600024 + 0x100 * i, 16, 8, 0⟩
/-- FNL.EVT.CSYNC bits 31:24, RH, R309. -/
def F.fnlEvtCsync (i : Nat) : Fld := ⟨0x600024 + 0x100 * i, 24, 8, 0⟩
/-- FNL.FLUSH.MSGS bits 15:0, RH, R309. -/
def F.fnlFlushMsgs (i : Nat) : Fld := ⟨0x600028 + 0x100 * i, 0, 16, 0⟩
/-- FNL.FLUSH.REPLIES bits 31:16, RH, R309. -/
def F.fnlFlushReplies (i : Nat) : Fld := ⟨0x600028 + 0x100 * i, 16, 16, 0⟩
/-- FNL.QWLOSS bits 15:0, RH, R309. -/
def F.fnlQwloss (i : Nat) : Fld := ⟨0x60002C + 0x100 * i, 0, 16, 0⟩
/-- CEL.LLCXL.REPLAY_TO bits 7:0, RW, R310. -/
def F.celLlcxlReplayTo (i : Nat) : Fld := ⟨0x2000400 + 0x1000 * i, 0, 8, 15⟩
/-- CEL.LLCXL.RETRY_TO bits 15:8, RW, R310. -/
def F.celLlcxlRetryTo (i : Nat) : Fld := ⟨0x2000400 + 0x1000 * i, 8, 8, 40⟩
/-- CEL.LLCXL.REPLAYS bits 23:16, RH, R310. -/
def F.celLlcxlReplays (i : Nat) : Fld := ⟨0x2000400 + 0x1000 * i, 16, 8, 0⟩
/-- CEL.LLCXL.RETRAINS bits 31:24, RH, R310. -/
def F.celLlcxlRetrains (i : Nat) : Fld := ⟨0x2000400 + 0x1000 * i, 24, 8, 0⟩
/-- SEAM.CTL.RESET_A bits 0:0, WO, R311. -/
def F.seamCtlResetA (i : Nat) : Fld := ⟨0x410000 + 0x1000 * i, 0, 1, 0⟩
/-- SEAM.CTL.RESET_B bits 1:1, WO, R311. -/
def F.seamCtlResetB (i : Nat) : Fld := ⟨0x410000 + 0x1000 * i, 1, 1, 0⟩
/-- SEAM.CTL.WIRE_ERR_MAX bits 15:8, RW, R311. -/
def F.seamCtlWireErrMax (i : Nat) : Fld := ⟨0x410000 + 0x1000 * i, 8, 8, 4⟩
/-- SEAM.CTL.WIRE_WINDOW bits 23:16, RW, R311. -/
def F.seamCtlWireWindow (i : Nat) : Fld := ⟨0x410000 + 0x1000 * i, 16, 8, 10⟩
/-- SEAM.STAT.STATE_A bits 1:0, RH, R311. -/
def F.seamStatStateA (i : Nat) : Fld := ⟨0x410004 + 0x1000 * i, 0, 2, 0⟩
/-- SEAM.STAT.STATE_B bits 3:2, RH, R311. -/
def F.seamStatStateB (i : Nat) : Fld := ⟨0x410004 + 0x1000 * i, 2, 2, 0⟩
/-- SEAM.STAT.REGEN_LOCK bits 4:4, RH, R311. -/
def F.seamStatRegenLock (i : Nat) : Fld := ⟨0x410004 + 0x1000 * i, 4, 1, 0⟩
/-- SEAM.STAT.SLOTS_A bits 11:5, RH, R311. -/
def F.seamStatSlotsA (i : Nat) : Fld := ⟨0x410004 + 0x1000 * i, 5, 7, 40⟩
/-- SEAM.STAT.SLOTS_B bits 18:12, RH, R311. -/
def F.seamStatSlotsB (i : Nat) : Fld := ⟨0x410004 + 0x1000 * i, 12, 7, 40⟩
/-- SEAM.STAT.RESETS bits 26:19, RH, R311. -/
def F.seamStatResets (i : Nat) : Fld := ⟨0x410004 + 0x1000 * i, 19, 8, 0⟩
/-- SEAM.ERR.PARITY bits 15:0, RH, R311. -/
def F.seamErrParity (i : Nat) : Fld := ⟨0x410008 + 0x1000 * i, 0, 16, 0⟩
/-- SEAM.ERR.RESENDS bits 31:16, RH, R311. -/
def F.seamErrResends (i : Nat) : Fld := ⟨0x410008 + 0x1000 * i, 16, 16, 0⟩
/-- SEAM.SPAREMAP.SPARE0_WIRE bits 5:0, RH, R311. -/
def F.seamSparemapSpare0Wire (i e : Nat) : Fld := ⟨0x410100 + 0x1000 * i + 4 * e, 0, 6, 0⟩
/-- SEAM.SPAREMAP.SPARE0_USED bits 6:6, RH, R311. -/
def F.seamSparemapSpare0Used (i e : Nat) : Fld := ⟨0x410100 + 0x1000 * i + 4 * e, 6, 1, 0⟩
/-- SEAM.SPAREMAP.SPARE1_WIRE bits 12:7, RH, R311. -/
def F.seamSparemapSpare1Wire (i e : Nat) : Fld := ⟨0x410100 + 0x1000 * i + 4 * e, 7, 6, 0⟩
/-- SEAM.SPAREMAP.SPARE1_USED bits 13:13, RH, R311. -/
def F.seamSparemapSpare1Used (i e : Nat) : Fld := ⟨0x410100 + 0x1000 * i + 4 * e, 13, 1, 0⟩
/-- SEAM.SPAREMAP.PENDING bits 14:14, RH, R311. -/
def F.seamSparemapPending (i e : Nat) : Fld := ⟨0x410100 + 0x1000 * i + 4 * e, 14, 1, 0⟩
/-- SEAM.SPAREMAP.PENDING_WIRE bits 20:15, RH, R311. -/
def F.seamSparemapPendingWire (i e : Nat) : Fld := ⟨0x410100 + 0x1000 * i + 4 * e, 15, 6, 0⟩
/-- SEAM.SPAREMAP.PARITY_MODE bits 22:21, RH, R311. -/
def F.seamSparemapParityMode (i e : Nat) : Fld := ⟨0x410100 + 0x1000 * i + 4 * e, 21, 2, 0⟩
/-- FLT.COLSTAT.MODE bits 1:0, RH, R335. -/
def F.colColstatMode (b : Nat) : Fld := ⟨b + 0x600, 0, 2, 0⟩
/-- FLT.COLSTAT.REGEN_LOCK bits 2:2, RH, R335. -/
def F.colColstatRegenLock (b : Nat) : Fld := ⟨b + 0x600, 2, 1, 0⟩
/-- FLT.COLSTAT.SELF_FAULT bits 3:3, RH, R335. -/
def F.colColstatSelfFault (b : Nat) : Fld := ⟨b + 0x600, 3, 1, 0⟩
/-- FLT.FIRST.SRC bits 4:0, RH, R335. -/
def F.colFirstSrc (b : Nat) : Fld := ⟨b + 0x604, 0, 5, 0⟩
/-- FLT.FIRST.CLASS bits 6:5, RH, R335. -/
def F.colFirstClass (b : Nat) : Fld := ⟨b + 0x604, 5, 2, 0⟩
/-- FLT.FIRST.OVERFLOW bits 7:7, RH, R335. -/
def F.colFirstOverflow (b : Nat) : Fld := ⟨b + 0x604, 7, 1, 0⟩
/-- FLT.FIRST.VALID bits 31:31, W1C, R335. -/
def F.colFirstValid (b : Nat) : Fld := ⟨b + 0x604, 31, 1, 0⟩
/-- FLT.FIRST.TIME bits 31:0, RH, R335. -/
def F.colFirstTime (b : Nat) : Fld := ⟨b + 0x608, 0, 32, 0⟩
/-- FLT.PENDING bits 31:0, RH, R335. -/
def F.colPending (b : Nat) : Fld := ⟨b + 0x60C, 0, 32, 0⟩
/-- FLT.SSW bits 31:0, W1C, R335. -/
def F.colSsw (b : Nat) : Fld := ⟨b + 0x610, 0, 32, 0⟩
/-- FLT.WIRING bits 31:0, W1C, R335. -/
def F.colWiring (b : Nat) : Fld := ⟨b + 0x614, 0, 32, 0⟩
/-- FLT.COUNT.C0 bits 15:0, RH, R335. -/
def F.colCountC0 (b : Nat) : Fld := ⟨b + 0x618, 0, 16, 0⟩
/-- FLT.COUNT.C1 bits 23:16, RH, R335. -/
def F.colCountC1 (b : Nat) : Fld := ⟨b + 0x618, 16, 8, 0⟩
/-- FLT.COUNT.C2 bits 31:24, RH, R335. -/
def F.colCountC2 (b : Nat) : Fld := ⟨b + 0x618, 24, 8, 0⟩
/-- FLT.INJECT.SRC bits 4:0, WO, R335. -/
def F.colInjectSrc (b : Nat) : Fld := ⟨b + 0x61C, 0, 5, 0⟩
/-- FLT.INJECT.CLASS bits 6:5, WO, R335. -/
def F.colInjectClass (b : Nat) : Fld := ⟨b + 0x61C, 5, 2, 0⟩
/-- FLT.INJECT.GO bits 7:7, WO, R335. -/
def F.colInjectGo (b : Nat) : Fld := ⟨b + 0x61C, 7, 1, 0⟩
/-- FLT.SAFE.STATE bits 1:0, RH, R336. -/
def F.fltSafeState : Fld := ⟨0x14000, 0, 2, 0⟩
/-- FLT.SAFE.ENTER bits 2:2, WO, R336. -/
def F.fltSafeEnter : Fld := ⟨0x14000, 2, 1, 0⟩
/-- FLT.SAFE.EXIT bits 3:3, WO, R336. -/
def F.fltSafeExit : Fld := ⟨0x14000, 3, 1, 0⟩
/-- FLT.SAFE.CAUSE bits 7:4, RH, R336. -/
def F.fltSafeCause : Fld := ⟨0x14000, 4, 4, 0⟩
/-- FLT.SAFE.LATER bits 15:8, RH, R336. -/
def F.fltSafeLater : Fld := ⟨0x14000, 8, 8, 0⟩
/-- FLT.LASTFATAL.LEVEL bits 1:0, RH, R336; reset: Almanac. -/
def F.fltLastfatalLevel : Fld := ⟨0x14004, 0, 2, 0⟩
/-- FLT.LASTFATAL.INSTANCE bits 11:2, RH, R336; reset: Almanac. -/
def F.fltLastfatalInstance : Fld := ⟨0x14004, 2, 10, 0⟩
/-- FLT.LASTFATAL.SRC bits 16:12, RH, R336; reset: Almanac. -/
def F.fltLastfatalSrc : Fld := ⟨0x14004, 12, 5, 0⟩
/-- FLT.LASTFATAL.CAUSE bits 20:17, RH, R336; reset: Almanac. -/
def F.fltLastfatalCause : Fld := ⟨0x14004, 17, 4, 0⟩
/-- FLT.LASTFATAL.VALID bits 31:31, W1C, R336; reset: Almanac. -/
def F.fltLastfatalValid : Fld := ⟨0x14004, 31, 1, 0⟩
/-- FLT.CTL.C0_ATTN bits 15:0, RW, R336. -/
def F.fltCtlC0Attn : Fld := ⟨0x14008, 0, 16, 1024⟩
/-- FLT.C0WIN bits 31:0, RH, R336. -/
def F.fltC0win : Fld := ⟨0x1400C, 0, 32, 0⟩
/-- FLT.ATTN.PEND bits 15:0, RH, R337. -/
def F.fltAttnPend (e : Nat) : Fld := ⟨0x14100 + 16 * e, 0, 16, 0⟩
/-- FLT.ATTN.TOP bits 19:16, RH, R337. -/
def F.fltAttnTop (e : Nat) : Fld := ⟨0x14100 + 16 * e, 16, 4, 0⟩
/-- FLT.ATTN.STALE bits 20:20, RH, R337. -/
def F.fltAttnStale (e : Nat) : Fld := ⟨0x14100 + 16 * e, 20, 1, 0⟩
/-- FLT.ATTN.SEQ bits 31:0, RH, R337. -/
def F.fltAttnSeq (e : Nat) : Fld := ⟨0x14104 + 16 * e, 0, 32, 0⟩
/-- FLT.ATTN.ACK_SEQ bits 31:0, RW, R337. -/
def F.fltAttnAckSeq (e : Nat) : Fld := ⟨0x14108 + 16 * e, 0, 32, 0⟩
/-- FLT.ATTN.ACK_MASK bits 15:0, WO, R337. -/
def F.fltAttnAckMask (e : Nat) : Fld := ⟨0x1410C + 16 * e, 0, 16, 0⟩
/-- ECC.STAT.HBM_CE bits 15:0, RH, R354. -/
def F.eccStatHbmCe (b : Nat) : Fld := ⟨b + 0x0, 0, 16, 0⟩
/-- ECC.STAT.HBM_UE bits 23:16, RH, R354. -/
def F.eccStatHbmUe (b : Nat) : Fld := ⟨b + 0x0, 16, 8, 0⟩
/-- ECC.STAT.RQ_FULL bits 24:24, W1C, R354. -/
def F.eccStatRqFull (b : Nat) : Fld := ⟨b + 0x0, 24, 1, 0⟩
/-- ECC.SCRUB.TARGET bits 5:0, RW, R354. -/
def F.eccScrubTarget (b : Nat) : Fld := ⟨b + 0x4, 0, 6, 63⟩
/-- ECC.SCRUB.RATE bits 13:6, RW, R354. -/
def F.eccScrubRate (b : Nat) : Fld := ⟨b + 0x4, 6, 8, 8⟩
/-- ECC.SCRUB.START bits 14:14, WO, R354. -/
def F.eccScrubStart (b : Nat) : Fld := ⟨b + 0x4, 14, 1, 0⟩
/-- ECC.SCRUB.BUSY bits 15:15, RH, R354. -/
def F.eccScrubBusy (b : Nat) : Fld := ⟨b + 0x4, 15, 1, 0⟩
/-- ECC.SCRUB.PAUSED bits 16:16, RH, R354. -/
def F.eccScrubPaused (b : Nat) : Fld := ⟨b + 0x4, 16, 1, 0⟩
/-- ECC.SCRUB.DONE bits 17:17, W1C, R354. -/
def F.eccScrubDone (b : Nat) : Fld := ⟨b + 0x4, 17, 1, 0⟩
/-- ECC.SCRUB.ABORTED bits 18:18, W1C, R354. -/
def F.eccScrubAborted (b : Nat) : Fld := ⟨b + 0x4, 18, 1, 0⟩
/-- ECC.SCRUB.LEAVE_REFUSED bits 19:19, W1C, R354. -/
def F.eccScrubLeaveRefused (b : Nat) : Fld := ⟨b + 0x4, 19, 1, 0⟩
/-- ECC.SCRUBRANGE.FIRST bits 29:0, RW, R354. -/
def F.eccScrubrangeFirst (b : Nat) : Fld := ⟨b + 0x8, 0, 30, 0⟩
/-- ECC.SCRUBRANGE.LAST bits 29:0, RW, R354. -/
def F.eccScrubrangeLast (b : Nat) : Fld := ⟨b + 0xC, 0, 30, 603979775⟩
/-- ECC.SCRUBSUM.CE bits 15:0, RH, R354. -/
def F.eccScrubsumCe (b : Nat) : Fld := ⟨b + 0x10, 0, 16, 0⟩
/-- ECC.SCRUBSUM.UE bits 23:16, RH, R354. -/
def F.eccScrubsumUe (b : Nat) : Fld := ⟨b + 0x10, 16, 8, 0⟩
/-- ECC.SCRUBSUM.COLUMN bits 24:24, RH, R354. -/
def F.eccScrubsumColumn (b : Nat) : Fld := ⟨b + 0x10, 24, 1, 0⟩
/-- ECC.SCRUBSUM.CELL bits 25:25, RH, R354. -/
def F.eccScrubsumCell (b : Nat) : Fld := ⟨b + 0x10, 25, 1, 0⟩
/-- ECC.SCRUBSUM.KEYS_FULL bits 26:26, RH, R354. -/
def F.eccScrubsumKeysFull (b : Nat) : Fld := ⟨b + 0x10, 26, 1, 0⟩
/-- ECC.SCRUBSUM.FIRST bits 31:0, RH, R354. -/
def F.eccScrubsumFirst (b : Nat) : Fld := ⟨b + 0x14, 0, 32, 0⟩
/-- ECC.SCRUBSUM.LAST bits 31:0, RH, R354. -/
def F.eccScrubsumLast (b : Nat) : Fld := ⟨b + 0x18, 0, 32, 0⟩
/-- ECC.SCRUBSUM.COLKEY_MACRO bits 7:0, RH, R354. -/
def F.eccScrubsumColkeyMacro (b : Nat) : Fld := ⟨b + 0x1C, 0, 8, 0⟩
/-- ECC.SCRUBSUM.COLKEY_COL bits 20:8, RH, R354. -/
def F.eccScrubsumColkeyCol (b : Nat) : Fld := ⟨b + 0x1C, 8, 13, 0⟩
/-- ECC.SCRUBSUM.COLKEY_ROWS bits 23:21, RH, R354. -/
def F.eccScrubsumColkeyRows (b : Nat) : Fld := ⟨b + 0x1C, 21, 3, 0⟩
/-- ECC.LOG.LINE bits 29:0, RH, R355. -/
def F.eccLogLine (b e : Nat) : Fld := ⟨b + 0x100 + 8 * e, 0, 30, 0⟩
/-- ECC.LOG.SYMBOL bits 5:0, RH, R355. -/
def F.eccLogSymbol (b e : Nat) : Fld := ⟨b + 0x104 + 8 * e, 0, 6, 0⟩
/-- ECC.LOG.REPEAT bits 9:6, RH, R355. -/
def F.eccLogRepeat (b e : Nat) : Fld := ⟨b + 0x104 + 8 * e, 6, 4, 0⟩
/-- ECC.LOG.UNCORR bits 10:10, RH, R355. -/
def F.eccLogUncorr (b e : Nat) : Fld := ⟨b + 0x104 + 8 * e, 10, 1, 0⟩
/-- ECC.LOG.CELL bits 11:11, RH, R355. -/
def F.eccLogCell (b e : Nat) : Fld := ⟨b + 0x104 + 8 * e, 11, 1, 0⟩
/-- ECC.LOG.COLUMN bits 12:12, RH, R355. -/
def F.eccLogColumn (b e : Nat) : Fld := ⟨b + 0x104 + 8 * e, 12, 1, 0⟩
/-- ECC.LOG.VALID bits 31:31, W1C, R355. -/
def F.eccLogValid (b e : Nat) : Fld := ⟨b + 0x104 + 8 * e, 31, 1, 0⟩
/-- ECC.REPAIRQ.KIND bits 1:0, RH, R356. -/
def F.eccRepairqKind (b e : Nat) : Fld := ⟨b + 0x200 + 8 * e, 0, 2, 0⟩
/-- ECC.REPAIRQ.GROUP bits 7:2, RH, R356. -/
def F.eccRepairqGroup (b e : Nat) : Fld := ⟨b + 0x200 + 8 * e, 2, 6, 0⟩
/-- ECC.REPAIRQ.MACRO bits 15:8, RH, R356. -/
def F.eccRepairqMacro (b e : Nat) : Fld := ⟨b + 0x200 + 8 * e, 8, 8, 0⟩
/-- ECC.REPAIRQ.INDEX bits 28:16, RH, R356. -/
def F.eccRepairqIndex (b e : Nat) : Fld := ⟨b + 0x200 + 8 * e, 16, 13, 0⟩
/-- ECC.REPAIRQ.STATE bits 31:29, RH, R356. -/
def F.eccRepairqState (b e : Nat) : Fld := ⟨b + 0x200 + 8 * e, 29, 3, 0⟩
/-- ECC.REPAIRQ.LINE bits 29:0, RH, R356. -/
def F.eccRepairqLine (b e : Nat) : Fld := ⟨b + 0x204 + 8 * e, 0, 30, 0⟩
/-- ECC.FUSECMD.INSTANCE bits 3:0, RW, R356. -/
def F.eccFusecmdInstance : Fld := ⟨0x18040, 0, 4, 0⟩
/-- ECC.FUSECMD.ENTRY bits 7:4, RW, R356. -/
def F.eccFusecmdEntry : Fld := ⟨0x18040, 4, 4, 0⟩
/-- ECC.FUSECMD.BURN bits 8:8, WO, R356. -/
def F.eccFusecmdBurn : Fld := ⟨0x18040, 8, 1, 0⟩
/-- ECC.FUSECMD.BUSY bits 9:9, RH, R356. -/
def F.eccFusecmdBusy : Fld := ⟨0x18040, 9, 1, 0⟩
/-- ECC.FUSECMD.DONE bits 10:10, W1C, R356. -/
def F.eccFusecmdDone : Fld := ⟨0x18040, 10, 1, 0⟩
/-- ECC.FUSECMD.FAILED bits 11:11, W1C, R356. -/
def F.eccFusecmdFailed : Fld := ⟨0x18040, 11, 1, 0⟩
/-- PWR.FEEDCTL.EN bits 0:0, RW, R383. -/
def F.pwrFeedctlEn (e : Nat) : Fld := ⟨0x12000 + 16 * e, 0, 1, 1⟩
/-- PWR.FEEDCTL.RETRIES bits 3:1, RW, R383. -/
def F.pwrFeedctlRetries (e : Nat) : Fld := ⟨0x12000 + 16 * e, 1, 3, 3⟩
/-- PWR.FEEDCTL.RETRY_INT bits 10:4, RW, R383. -/
def F.pwrFeedctlRetryInt (e : Nat) : Fld := ⟨0x12000 + 16 * e, 4, 7, 10⟩
/-- PWR.FEEDCTL.OC_TIME bits 15:11, RW, R383. -/
def F.pwrFeedctlOcTime (e : Nat) : Fld := ⟨0x12000 + 16 * e, 11, 5, 5⟩
/-- PWR.FEEDCTL.START_TIME bits 19:16, RW, R383. -/
def F.pwrFeedctlStartTime (e : Nat) : Fld := ⟨0x12000 + 16 * e, 16, 4, 6⟩
/-- PWR.FEEDCTL.QUAL bits 24:20, RW, R383. -/
def F.pwrFeedctlQual (e : Nat) : Fld := ⟨0x12000 + 16 * e, 20, 5, 5⟩
/-- PWR.FEEDCTL.RELEASE bits 25:25, WO, R383. -/
def F.pwrFeedctlRelease (e : Nat) : Fld := ⟨0x12000 + 16 * e, 25, 1, 0⟩
/-- PWR.FEEDCTL.UNRETIRE bits 26:26, WO, R383. -/
def F.pwrFeedctlUnretire (e : Nat) : Fld := ⟨0x12000 + 16 * e, 26, 1, 0⟩
/-- PWR.FEEDSTAT.STATE bits 3:0, RH, R383. -/
def F.pwrFeedstatState (e : Nat) : Fld := ⟨0x12004 + 16 * e, 0, 4, 0⟩
/-- PWR.FEEDSTAT.ORING_ON bits 4:4, RH, R383. -/
def F.pwrFeedstatOringOn (e : Nat) : Fld := ⟨0x12004 + 16 * e, 4, 1, 0⟩
/-- PWR.FEEDSTAT.GATE_OK bits 5:5, RH, R383. -/
def F.pwrFeedstatGateOk (e : Nat) : Fld := ⟨0x12004 + 16 * e, 5, 1, 0⟩
/-- PWR.FEEDSTAT.PG bits 6:6, RH, R383. -/
def F.pwrFeedstatPg (e : Nat) : Fld := ⟨0x12004 + 16 * e, 6, 1, 0⟩
/-- PWR.FEEDSTAT.LAST_TRIP bits 10:7, RH, R383. -/
def F.pwrFeedstatLastTrip (e : Nat) : Fld := ⟨0x12004 + 16 * e, 7, 4, 0⟩
/-- PWR.FEEDSTAT.RETRY_COUNT bits 13:11, RH, R383. -/
def F.pwrFeedstatRetryCount (e : Nat) : Fld := ⟨0x12004 + 16 * e, 11, 3, 0⟩
/-- PWR.FEEDSTAT.TRIPPED bits 14:14, W1C, R383. -/
def F.pwrFeedstatTripped (e : Nat) : Fld := ⟨0x12004 + 16 * e, 14, 1, 0⟩
/-- PWR.FEEDSTAT.LATCH_EV bits 15:15, W1C, R383. -/
def F.pwrFeedstatLatchEv (e : Nat) : Fld := ⟨0x12004 + 16 * e, 15, 1, 0⟩
/-- PWR.FEEDMEAS.VIN bits 10:0, RH, R383. -/
def F.pwrFeedmeasVin (e : Nat) : Fld := ⟨0x12008 + 16 * e, 0, 11, 0⟩
/-- PWR.FEEDMEAS.IIN bits 21:11, RH, R383. -/
def F.pwrFeedmeasIin (e : Nat) : Fld := ⟨0x12008 + 16 * e, 11, 11, 0⟩
/-- PWR.FEEDCNT.TRIPS bits 7:0, RH, R383. -/
def F.pwrFeedcntTrips (e : Nat) : Fld := ⟨0x1200C + 16 * e, 0, 8, 0⟩
/-- PWR.FEEDCNT.STARTS bits 15:8, RH, R383. -/
def F.pwrFeedcntStarts (e : Nat) : Fld := ⟨0x1200C + 16 * e, 8, 8, 0⟩
/-- PWR.BUS.VBUS bits 10:0, RH, R384. -/
def F.pwrBusVbus : Fld := ⟨0x12040, 0, 11, 0⟩
/-- PWR.BULK.CAP_MEAS bits 13:0, RH, R384; reset: Almanac. -/
def F.pwrBulkCapMeas : Fld := ⟨0x12044, 0, 14, 6600⟩
/-- PWR.BULK.CAP_LOW bits 14:14, RH, R384. -/
def F.pwrBulkCapLow : Fld := ⟨0x12044, 14, 1, 0⟩
/-- PWR.BULK.MEASURED bits 15:15, RH, R384; reset: Almanac. -/
def F.pwrBulkMeasured : Fld := ⟨0x12044, 15, 1, 0⟩
/-- PWR.RIDE.SHED_DELAY bits 5:0, RW, R384. -/
def F.pwrRideShedDelay : Fld := ⟨0x12048, 0, 6, 50⟩
/-- PWR.RIDE.RIDING bits 6:6, RH, R384. -/
def F.pwrRideRiding : Fld := ⟨0x12048, 6, 1, 0⟩
/-- PWR.RIDE.SHED bits 7:7, W1C, R384; reset: Almanac. -/
def F.pwrRideShed : Fld := ⟨0x12048, 7, 1, 0⟩
/-- PWR.RIDE.SAVE_DONE bits 8:8, RH, R384; reset: Almanac. -/
def F.pwrRideSaveDone : Fld := ⟨0x12048, 8, 1, 0⟩
/-- PWR.RIDE.RESIDUAL bits 23:16, RO, R384. -/
def F.pwrRideResidual : Fld := ⟨0x12048, 16, 8, 45⟩
/-- PWR.RIDE.RIDES bits 31:24, RH, R384; reset: Almanac. -/
def F.pwrRideRides : Fld := ⟨0x12048, 24, 8, 0⟩
/-- PWR.RECKON.ENERGY bits 15:0, RH, R384. -/
def F.pwrReckonEnergy : Fld := ⟨0x1204C, 0, 16, 0⟩
/-- PWR.RECKON.FLOOR bits 31:16, RO, R384. -/
def F.pwrReckonFloor : Fld := ⟨0x1204C, 16, 16, 400⟩
/-- PWR.INPUT.P_NOW bits 11:0, RH, R384. -/
def F.pwrInputPNow : Fld := ⟨0x12050, 0, 12, 0⟩
/-- PWR.INPUT.P_PEAK bits 23:12, RH, R384. -/
def F.pwrInputPPeak : Fld := ⟨0x12050, 12, 12, 0⟩
/-- PWR.INPUT.CLR_PEAK bits 24:24, WO, R384. -/
def F.pwrInputClrPeak : Fld := ⟨0x12050, 24, 1, 0⟩
/-- PWR.LDO.MODE bits 0:0, RH, R384. -/
def F.pwrLdoMode : Fld := ⟨0x12060, 0, 1, 0⟩
/-- PWR.LDO.SLIP bits 5:1, RW, R384. -/
def F.pwrLdoSlip : Fld := ⟨0x12060, 1, 5, 0⟩
/-- PWR.LDO.GO_FULL bits 6:6, WO, R384. -/
def F.pwrLdoGoFull : Fld := ⟨0x12060, 6, 1, 0⟩
/-- PWR.LDO.I_AON bits 15:7, RH, R384. -/
def F.pwrLdoIAon : Fld := ⟨0x12060, 7, 9, 0⟩
/-- PWR.LDO.OVERSTAY bits 16:16, RH, R384. -/
def F.pwrLdoOverstay : Fld := ⟨0x12060, 16, 1, 0⟩
/-- PWR.LDO.BROWNOUTS bits 24:17, RH, R384; reset: Almanac. -/
def F.pwrLdoBrownouts : Fld := ⟨0x12060, 17, 8, 0⟩
/-- PWR.AVSCTL.ACK_TIMEOUT bits 9:0, RW, R384. -/
def F.pwrAvsctlAckTimeout : Fld := ⟨0x12070, 0, 10, 200⟩
/-- PWR.AVSCTL.FAIL_MAX bits 14:12, RW, R384. -/
def F.pwrAvsctlFailMax : Fld := ⟨0x12070, 12, 3, 3⟩
/-- PWR.RAIL.VSET bits 11:0, RH, R385. -/
def F.pwrRailVset (e : Nat) : Fld := ⟨0x12100 + 8 * e, 0, 12, 0⟩
/-- PWR.RAIL.ILIMIT bits 23:12, RO, R385; reset: by rail. -/
def F.pwrRailIlimit (e : Nat) : Fld := ⟨0x12100 + 8 * e, 12, 12, (railIlimit e)⟩
/-- PWR.RAIL.TYPE bits 25:24, RO, R385; reset: by rail. -/
def F.pwrRailType (e : Nat) : Fld := ⟨0x12100 + 8 * e, 24, 2, (railType e)⟩
/-- PWR.RAIL.VMEAS bits 11:0, RH, R385. -/
def F.pwrRailVmeas (e : Nat) : Fld := ⟨0x12104 + 8 * e, 0, 12, 0⟩
/-- PWR.RAIL.IMEAS bits 23:12, RH, R385. -/
def F.pwrRailImeas (e : Nat) : Fld := ⟨0x12104 + 8 * e, 12, 12, 0⟩
/-- PWR.RAIL.PG bits 24:24, RH, R385. -/
def F.pwrRailPg (e : Nat) : Fld := ⟨0x12104 + 8 * e, 24, 1, 0⟩
/-- PWR.RAIL.FROZEN bits 25:25, RH, R385. -/
def F.pwrRailFrozen (e : Nat) : Fld := ⟨0x12104 + 8 * e, 25, 1, 0⟩
/-- PWR.RAIL.FAULT bits 26:26, W1C, R385. -/
def F.pwrRailFault (e : Nat) : Fld := ⟨0x12104 + 8 * e, 26, 1, 0⟩
/-- PWR.RAIL.TIMEOUTS bits 29:27, RH, R385. -/
def F.pwrRailTimeouts (e : Nat) : Fld := ⟨0x12104 + 8 * e, 27, 3, 0⟩
/-- LVC.BUDGET.INPUT_W bits 11:0, RW, R386. -/
def F.lvcBudgetInputW : Fld := ⟨0x13000, 0, 12, 1750⟩
/-- LVC.BUDGET.THERM_MARGIN bits 15:12, RW, R386. -/
def F.lvcBudgetThermMargin : Fld := ⟨0x13000, 12, 4, 3⟩
/-- LVC.BW.HBM bits 7:0, RW, R386. -/
def F.lvcBwHbm : Fld := ⟨0x13004, 0, 8, 64⟩
/-- LVC.BW.BOLT bits 13:8, RW, R386. -/
def F.lvcBwBolt : Fld := ⟨0x13004, 8, 6, 8⟩
/-- LVC.STAT.COMMITTED bits 11:0, RH, R386. -/
def F.lvcStatCommitted : Fld := ⟨0x13008, 0, 12, 0⟩
/-- LVC.STAT.SLIPS bits 17:12, RH, R386. -/
def F.lvcStatSlips : Fld := ⟨0x13008, 12, 6, 0⟩
/-- LVC.STAT.QUEUED bits 23:18, RH, R386. -/
def F.lvcStatQueued : Fld := ⟨0x13008, 18, 6, 0⟩
/-- LVC.STAT.RIDE_MODE bits 24:24, RH, R386. -/
def F.lvcStatRideMode : Fld := ⟨0x13008, 24, 1, 0⟩
/-- LVC.COUNT.REFUSED bits 15:0, RH, R386. -/
def F.lvcCountRefused : Fld := ⟨0x1300C, 0, 16, 0⟩
/-- LVC.COUNT.DEFERRED bits 31:16, RH, R386. -/
def F.lvcCountDeferred : Fld := ⟨0x1300C, 16, 16, 0⟩
/-- LVC.REQ.KIND bits 3:0, RW, R386. -/
def F.lvcReqKind : Fld := ⟨0x13010, 0, 4, 0⟩
/-- LVC.REQ.POWER bits 19:4, RW, R386. -/
def F.lvcReqPower : Fld := ⟨0x13010, 4, 16, 0⟩
/-- LVC.REQ.DURATION bits 15:0, RW, R386. -/
def F.lvcReqDuration : Fld := ⟨0x13014, 0, 16, 1⟩
/-- LVC.REQ.GO bits 16:16, WO, R386. -/
def F.lvcReqGo : Fld := ⟨0x13014, 16, 1, 0⟩
/-- LVC.RESP.RESULT bits 1:0, RH, R386. -/
def F.lvcRespResult : Fld := ⟨0x13018, 0, 2, 0⟩
/-- LVC.RESP.SLIP bits 6:2, RH, R386. -/
def F.lvcRespSlip : Fld := ⟨0x13018, 2, 5, 0⟩
/-- LVC.RESP.REASON bits 10:7, RH, R386. -/
def F.lvcRespReason : Fld := ⟨0x13018, 7, 4, 0⟩
/-- LVC.CTL.SLIP bits 4:0, RW, R386. -/
def F.lvcCtlSlip : Fld := ⟨0x1301C, 0, 5, 0⟩
/-- LVC.CTL.RELEASE bits 5:5, WO, R386. -/
def F.lvcCtlRelease : Fld := ⟨0x1301C, 5, 1, 0⟩
/-- LVC.CTL.RENEW bits 6:6, WO, R386. -/
def F.lvcCtlRenew : Fld := ⟨0x1301C, 6, 1, 0⟩
/-- LVC.CTL.WITHDRAW bits 7:7, WO, R386. -/
def F.lvcCtlWithdraw : Fld := ⟨0x1301C, 7, 1, 0⟩
/-- LVC.SLIP.KIND bits 3:0, RH, R386. -/
def F.lvcSlipKind (e : Nat) : Fld := ⟨0x13100 + 16 * e, 0, 4, 0⟩
/-- LVC.SLIP.STATE bits 5:4, RH, R386. -/
def F.lvcSlipState (e : Nat) : Fld := ⟨0x13100 + 16 * e, 4, 2, 0⟩
/-- LVC.SLIP.OWNER bits 7:6, RH, R386. -/
def F.lvcSlipOwner (e : Nat) : Fld := ⟨0x13100 + 16 * e, 6, 2, 0⟩
/-- LVC.SLIP.TARGET bits 11:8, RH, R386. -/
def F.lvcSlipTarget (e : Nat) : Fld := ⟨0x13100 + 16 * e, 8, 4, 0⟩
/-- LVC.SLIP.POWER bits 15:0, RH, R386. -/
def F.lvcSlipPower (e : Nat) : Fld := ⟨0x13104 + 16 * e, 0, 16, 0⟩
/-- LVC.SLIP.REMAIN bits 31:16, RH, R386. -/
def F.lvcSlipRemain (e : Nat) : Fld := ⟨0x13104 + 16 * e, 16, 16, 0⟩
/-- LVC.SLIP.ENERGY bits 19:0, RH, R386. -/
def F.lvcSlipEnergy (e : Nat) : Fld := ⟨0x13108 + 16 * e, 0, 20, 0⟩
/-- LVC.SLIP.GRANT_TIME bits 31:0, RH, R386. -/
def F.lvcSlipGrantTime (e : Nat) : Fld := ⟨0x1310C + 16 * e, 0, 32, 0⟩
/-- RST.PSTATE.CUR bits 1:0, RH, R407. -/
def F.rstPstateCur : Fld := ⟨0x10000, 0, 2, 0⟩
/-- RST.PSTATE.REQ bits 3:2, WO, R407. -/
def F.rstPstateReq : Fld := ⟨0x10000, 2, 2, 0⟩
/-- RST.PSTATE.BUSY bits 4:4, RH, R407. -/
def F.rstPstateBusy : Fld := ⟨0x10000, 4, 1, 0⟩
/-- RST.PSTATE.REFUSE bits 7:5, RH, R407. -/
def F.rstPstateRefuse : Fld := ⟨0x10000, 5, 3, 0⟩
/-- RST.CAUSE.SOURCE bits 3:0, RH, R407; reset: by reset. -/
def F.rstCauseSource : Fld := ⟨0x10004, 0, 4, 1⟩
/-- RST.CAUSE.WAKE_SRC bits 5:4, RH, R407. -/
def F.rstCauseWakeSrc : Fld := ⟨0x10004, 4, 2, 0⟩
/-- RST.CAUSE.COUNT bits 23:16, RH, R407; reset: Almanac. -/
def F.rstCauseCount : Fld := ⟨0x10004, 16, 8, 0⟩
/-- RST.STAT.READY bits 0:0, RH, R407. -/
def F.rstStatReady : Fld := ⟨0x10008, 0, 1, 0⟩
/-- RST.STAT.PHASE bits 3:1, RH, R407. -/
def F.rstStatPhase : Fld := ⟨0x10008, 1, 3, 0⟩
/-- RST.STAT.READY_MS bits 31:16, RH, R407. -/
def F.rstStatReadyMs : Fld := ⟨0x10008, 16, 16, 0⟩
/-- RST.WDOG.TIMEOUT bits 7:0, RW, R407. -/
def F.rstWdogTimeout : Fld := ⟨0x1000C, 0, 8, 20⟩
/-- RST.WDOG.EN bits 8:8, RW, R407. -/
def F.rstWdogEn : Fld := ⟨0x1000C, 8, 1, 1⟩
/-- RST.WDOG.KICK bits 9:9, WO, R407. -/
def F.rstWdogKick : Fld := ⟨0x1000C, 9, 1, 0⟩
/-- RST.PADREL.HELD bits 0:0, RH, R407. -/
def F.rstPadrelHeld : Fld := ⟨0x10010, 0, 1, 0⟩
/-- RST.PADREL.RELEASE bits 1:1, WO, R407. -/
def F.rstPadrelRelease : Fld := ⟨0x10010, 1, 1, 0⟩
/-- RST.PADREL.PRSNT_CHG bits 2:2, RH, R407. -/
def F.rstPadrelPrsntChg : Fld := ⟨0x10010, 2, 1, 0⟩
/-- RST.PINFUSE.PERST bits 31:0, RO, R407; reset: fuse. -/
def F.rstPinfusePerst (e : Nat) : Fld := ⟨0x10020 + 4 * e, 0, 32, 0⟩
/-- RST.PINFUSE.ATTN bits 31:0, RO, R407; reset: fuse. -/
def F.rstPinfuseAttn (e : Nat) : Fld := ⟨0x10040 + 4 * e, 0, 32, 0⟩
/-- RST.PINFUSE.MGE_RST bits 0:0, RO, R407; reset: fuse. -/
def F.rstPinfuseMgeRst : Fld := ⟨0x10048, 0, 1, 0⟩
/-- BLK.SWRESET.GO bits 0:0, WO, R408. -/
def F.blkSwresetGo (i : Nat) : Fld := ⟨0x800060 + 0x1000 * i, 0, 1, 0⟩
/-- BLK.SWRESET.BUSY bits 1:1, RH, R408. -/
def F.blkSwresetBusy (i : Nat) : Fld := ⟨0x800060 + 0x1000 * i, 1, 1, 0⟩
/-- BLK.SWRESET.COUNT bits 15:8, RH, R408. -/
def F.blkSwresetCount (i : Nat) : Fld := ⟨0x800060 + 0x1000 * i, 8, 8, 0⟩
/-- ALM.STAT.SLOT0_VALID bits 0:0, RH, R409; reset: Almanac. -/
def F.almStatSlot0Valid : Fld := ⟨0x11000, 0, 1, 0⟩
/-- ALM.STAT.SLOT1_VALID bits 1:1, RH, R409; reset: Almanac. -/
def F.almStatSlot1Valid : Fld := ⟨0x11000, 1, 1, 0⟩
/-- ALM.STAT.PENDING bits 2:2, RH, R409; reset: Almanac. -/
def F.almStatPending : Fld := ⟨0x11000, 2, 1, 0⟩
/-- ALM.STAT.RESTORED bits 3:3, RH, R409. -/
def F.almStatRestored : Fld := ⟨0x11000, 3, 1, 0⟩
/-- ALM.STAT.RESTORE_FAIL bits 4:4, W1C, R409. -/
def F.almStatRestoreFail : Fld := ⟨0x11000, 4, 1, 0⟩
/-- ALM.STAT.LAST_EVENT bits 6:5, RH, R409; reset: Almanac. -/
def F.almStatLastEvent : Fld := ⟨0x11000, 5, 2, 0⟩
/-- ALM.SAVE.SEQ bits 15:0, RH, R409; reset: Almanac. -/
def F.almSaveSeq : Fld := ⟨0x11004, 0, 16, 0⟩
/-- ALM.SAVE.REGS bits 31:16, RH, R409; reset: Almanac. -/
def F.almSaveRegs : Fld := ⟨0x11004, 16, 16, 0⟩
/-- ALM.TIMES.SAVE bits 15:0, RH, R409; reset: Almanac. -/
def F.almTimesSave : Fld := ⟨0x11008, 0, 16, 0⟩
/-- ALM.TIMES.RESTORE bits 31:16, RH, R409. -/
def F.almTimesRestore : Fld := ⟨0x11008, 16, 16, 0⟩
/-- ALM.BKP bits 31:0, RW, R409; reset: Almanac. -/
def F.almBkp (e : Nat) : Fld := ⟨0x11100 + 4 * e, 0, 32, 0⟩
/-- ALM.RETAIN.OFFSET bits 13:0, RW, R409. -/
def F.almRetainOffset : Fld := ⟨0x11200, 0, 14, 0⟩
/-- CTR.SEL.EVENT bits 7:0, RW, R426. -/
def F.ctrSelEvent (b j : Nat) : Fld := ⟨b + 0x700 + 16 * j, 0, 8, 0⟩
/-- CTR.SEL.MODE bits 9:8, RW, R426. -/
def F.ctrSelMode (b j : Nat) : Fld := ⟨b + 0x700 + 16 * j, 8, 2, 0⟩
/-- CTR.SEL.SUB bits 17:10, RW, R426. -/
def F.ctrSelSub (b j : Nat) : Fld := ⟨b + 0x700 + 16 * j, 10, 8, 0⟩
/-- CTR.SEL.BERTH bits 23:18, RW, R426. -/
def F.ctrSelBerth (b j : Nat) : Fld := ⟨b + 0x700 + 16 * j, 18, 6, 0⟩
/-- CTR.SEL.BERTH_EN bits 24:24, RW, R426. -/
def F.ctrSelBerthEn (b j : Nat) : Fld := ⟨b + 0x700 + 16 * j, 24, 1, 0⟩
/-- CTR.SEL.CHAIN bits 25:25, RW, R426. -/
def F.ctrSelChain (b j : Nat) : Fld := ⟨b + 0x700 + 16 * j, 25, 1, 0⟩
/-- CTR.SEL.EN bits 26:26, RW, R426. -/
def F.ctrSelEn (b j : Nat) : Fld := ⟨b + 0x700 + 16 * j, 26, 1, 0⟩
/-- CTR.SEL.CLR bits 27:27, WO, R426. -/
def F.ctrSelClr (b j : Nat) : Fld := ⟨b + 0x700 + 16 * j, 27, 1, 0⟩
/-- CTR.SEL.BAD bits 28:28, RH, R426. -/
def F.ctrSelBad (b j : Nat) : Fld := ⟨b + 0x700 + 16 * j, 28, 1, 0⟩
/-- CTR.THRESH bits 23:0, RW, R426. -/
def F.ctrThresh (b j : Nat) : Fld := ⟨b + 0x704 + 16 * j, 0, 24, 0⟩
/-- CTR.VAL_LO bits 31:0, RH, R426. -/
def F.ctrValLo (b j : Nat) : Fld := ⟨b + 0x708 + 16 * j, 0, 32, 0⟩
/-- CTR.VAL_HI.VALUE bits 15:0, RH, R426. -/
def F.ctrValHiValue (b j : Nat) : Fld := ⟨b + 0x70C + 16 * j, 0, 16, 0⟩
/-- CTR.VAL_HI.OVF bits 31:31, RH, R426. -/
def F.ctrValHiOvf (b j : Nat) : Fld := ⟨b + 0x70C + 16 * j, 31, 1, 0⟩
/-- TAL.CTL.FREEZE bits 0:0, RW, R427. -/
def F.talCtlFreeze : Fld := ⟨0x3000000, 0, 1, 0⟩
/-- TAL.CTL.SNAP bits 1:1, WO, R427. -/
def F.talCtlSnap : Fld := ⟨0x3000000, 1, 1, 0⟩
/-- TAL.CTL.HOLD bits 2:2, RW, R427. -/
def F.talCtlHold : Fld := ⟨0x3000000, 2, 1, 0⟩
/-- TAL.CTL.PERIOD bits 31:16, RW, R427. -/
def F.talCtlPeriod : Fld := ⟨0x3000000, 16, 16, 0⟩
/-- TAL.STAT.FRONT bits 0:0, RH, R427. -/
def F.talStatFront : Fld := ⟨0x3000004, 0, 1, 0⟩
/-- TAL.STAT.BUSY bits 1:1, RH, R427. -/
def F.talStatBusy : Fld := ⟨0x3000004, 1, 1, 0⟩
/-- TAL.STAT.FROZEN bits 2:2, RH, R427. -/
def F.talStatFrozen : Fld := ⟨0x3000004, 2, 1, 0⟩
/-- TAL.STAT.MISSED bits 15:8, RH, R427. -/
def F.talStatMissed : Fld := ⟨0x3000004, 8, 8, 0⟩
/-- TAL.STAT.HIST_SKIPPED bits 31:16, RH, R427. -/
def F.talStatHistSkipped : Fld := ⟨0x3000004, 16, 16, 0⟩
/-- TAL.SEQ bits 31:0, RH, R427. -/
def F.talSeq : Fld := ⟨0x3000008, 0, 32, 0⟩
/-- TAL.BERTHPAGE_LO bits 31:0, RW, R427. -/
def F.talBerthpageLo : Fld := ⟨0x3000010, 0, 32, 0⟩
/-- TAL.BERTHPAGE_HI bits 31:0, RW, R427. -/
def F.talBerthpageHi : Fld := ⟨0x3000014, 0, 32, 0⟩
/-- MGT.IDENT.VENDOR bits 15:0, RO, R449; reset: fuse. -/
def F.mgtIdentVendor : Fld := ⟨0x0, 0, 16, 0⟩
/-- MGT.IDENT.MODULE bits 31:16, RO, R449. -/
def F.mgtIdentModule : Fld := ⟨0x0, 16, 16, 4132⟩
/-- MGT.SERIAL_LO bits 31:0, RO, R449; reset: fuse. -/
def F.mgtSerialLo : Fld := ⟨0x4, 0, 32, 0⟩
/-- MGT.SERIAL_HI bits 31:0, RO, R449; reset: fuse. -/
def F.mgtSerialHi : Fld := ⟨0x8, 0, 32, 0⟩
/-- MGT.FWVER.MINOR bits 15:0, RH, R449; reset: image. -/
def F.mgtFwverMinor : Fld := ⟨0xC, 0, 16, 0⟩
/-- MGT.FWVER.MAJOR bits 31:16, RH, R449; reset: image. -/
def F.mgtFwverMajor : Fld := ⟨0xC, 16, 16, 0⟩
/-- MGT.CRED.HELM_PROG bits 3:0, RH, R449; reset: fuse. -/
def F.mgtCredHelmProg : Fld := ⟨0x10, 0, 4, 0⟩
/-- MGT.CRED.HELM_REV bits 7:4, RH, R449; reset: fuse. -/
def F.mgtCredHelmRev : Fld := ⟨0x10, 4, 4, 0⟩
/-- MGT.CRED.PILOTS bits 10:8, RH, R449; reset: flash. -/
def F.mgtCredPilots : Fld := ⟨0x10, 8, 3, 0⟩
/-- MGT.EID bits 7:0, RH, R449. -/
def F.mgtEid : Fld := ⟨0x14, 0, 8, 0⟩
/-- MGT.I3CSTAT.DA bits 14:8, RH, R449. -/
def F.mgtI3cstatDa : Fld := ⟨0x14, 8, 7, 0⟩
/-- MGT.MCTPSTAT.BADTYPE bits 7:0, RH, R449. -/
def F.mgtMctpstatBadtype : Fld := ⟨0x18, 0, 8, 0⟩
/-- MGT.MCTPSTAT.UNSECURED bits 15:8, RH, R449. -/
def F.mgtMctpstatUnsecured : Fld := ⟨0x18, 8, 8, 0⟩
/-- MGT.MCTPSTAT.AUTHFAIL bits 23:16, RH, R449. -/
def F.mgtMctpstatAuthfail : Fld := ⟨0x18, 16, 8, 0⟩
/-- MGT.ETHCFG.EN bits 0:0, RW, R449. -/
def F.mgtEthcfgEn : Fld := ⟨0x20, 0, 1, 1⟩
/-- MGT.ETHCFG.STATIC bits 1:1, RW, R449. -/
def F.mgtEthcfgStatic : Fld := ⟨0x20, 1, 1, 0⟩
/-- MGT.ETHCFG.SLAAC bits 2:2, RW, R449. -/
def F.mgtEthcfgSlaac : Fld := ⟨0x20, 2, 1, 0⟩
/-- MGT.ETHADDR bits 31:0, RW, R449. -/
def F.mgtEthaddr : Fld := ⟨0x24, 0, 32, 0⟩
/-- MGT.ETHSTAT.LINK bits 0:0, RH, R449. -/
def F.mgtEthstatLink : Fld := ⟨0x28, 0, 1, 0⟩
/-- MGT.ETHSTAT.ADDR_OK bits 1:1, RH, R449. -/
def F.mgtEthstatAddrOk : Fld := ⟨0x28, 1, 1, 0⟩
/-- MGT.ETHSTAT.DROPPED bits 31:16, RH, R449. -/
def F.mgtEthstatDropped : Fld := ⟨0x28, 16, 16, 0⟩
/-- MGT.ETHIPV4 bits 31:0, RH, R449. -/
def F.mgtEthipv4 : Fld := ⟨0x30, 0, 32, 0⟩
/-- MGT.BSESS_LO bits 31:0, RH, R449. -/
def F.mgtBsessLo : Fld := ⟨0x34, 0, 32, 0⟩
/-- MGT.BSESS_HI bits 31:0, RH, R449. -/
def F.mgtBsessHi : Fld := ⟨0x38, 0, 32, 0⟩
/-- MGT.SESSION.PRINCIPAL bits 1:0, RH, R449. -/
def F.mgtSessionPrincipal (e : Nat) : Fld := ⟨0x100 + 8 * e, 0, 2, 0⟩
/-- MGT.SESSION.PATH bits 3:2, RH, R449. -/
def F.mgtSessionPath (e : Nat) : Fld := ⟨0x100 + 8 * e, 2, 2, 0⟩
/-- MGT.SESSION.PILOT bits 5:4, RH, R449. -/
def F.mgtSessionPilot (e : Nat) : Fld := ⟨0x100 + 8 * e, 4, 2, 0⟩
/-- MGT.SESSION.BG bits 6:6, RH, R449. -/
def F.mgtSessionBg (e : Nat) : Fld := ⟨0x100 + 8 * e, 6, 1, 0⟩
/-- MGT.SESSION.ID bits 31:0, RH, R449. -/
def F.mgtSessionId (e : Nat) : Fld := ⟨0x104 + 8 * e, 0, 32, 0⟩
/-- HUB.THERM.THROTTLE_PCT bits 6:0, RW, R468. -/
def F.hubThermThrottlePct : Fld := ⟨0x100070, 0, 7, 50⟩
/-- HUB.THERM.STATE bits 9:8, RH, R468. -/
def F.hubThermState : Fld := ⟨0x100070, 8, 2, 0⟩
/-- HUB.THERM.THROTTLES bits 23:16, RH, R468. -/
def F.hubThermThrottles : Fld := ⟨0x100070, 16, 8, 0⟩
/-- HUB.TMAX bits 11:0, RH, R468. -/
def F.hubTmax : Fld := ⟨0x100074, 0, 12, 0⟩
/-- HUB.TMAX.SRC bits 16:12, RH, R468. -/
def F.hubTmaxSrc : Fld := ⟨0x100074, 12, 5, 0⟩
/-- HUB.TMAX.PEAK bits 28:17, RH, R468. -/
def F.hubTmaxPeak : Fld := ⟨0x100074, 17, 12, 0⟩
/-- HUB.TMAX.CLR_PEAK bits 29:29, WO, R468. -/
def F.hubTmaxClrPeak : Fld := ⟨0x100074, 29, 1, 0⟩
/-- HUB.TEMP bits 11:0, RH, R469. -/
def F.hubTemp (e : Nat) : Fld := ⟨0x100080 + 4 * e, 0, 12, 0⟩
/-- HUB.TEMP.VALID bits 12:12, RH, R469. -/
def F.hubTempValid (e : Nat) : Fld := ⟨0x100080 + 4 * e, 12, 1, 0⟩
/-- HUB.TEMP.COUNTS bits 13:13, RO, R469; reset: by instance. -/
def F.hubTempCounts (e : Nat) : Fld := ⟨0x100080 + 4 * e, 13, 1, (if e < 18 then 1 else 0)⟩
/-- ECC.GRP.CE bits 15:0, RH, R355. -/
def F.eccGrpCe (b m : Nat) : Fld := ⟨b + 0x1000 + 0x100 * m, 0, 16, 0⟩
/-- ECC.GRP.UE bits 23:16, RH, R355. -/
def F.eccGrpUe (b m : Nat) : Fld := ⟨b + 0x1000 + 0x100 * m, 16, 8, 0⟩
/-- ECC.GRP.LOST bits 7:0, RH, R355. -/
def F.eccGrpLost (b m : Nat) : Fld := ⟨b + 0x1004 + 0x100 * m, 0, 8, 0⟩
/-- ECC.GLOG.MACRO bits 7:0, RH, R355. -/
def F.eccGlogMacro (b m e : Nat) : Fld := ⟨b + 0x1010 + 0x100 * m + 8 * e, 0, 8, 0⟩
/-- ECC.GLOG.ROW bits 19:8, RH, R355. -/
def F.eccGlogRow (b m e : Nat) : Fld := ⟨b + 0x1010 + 0x100 * m + 8 * e, 8, 12, 0⟩
/-- ECC.GLOG.WORDPOS bits 21:20, RH, R355. -/
def F.eccGlogWordpos (b m e : Nat) : Fld := ⟨b + 0x1010 + 0x100 * m + 8 * e, 20, 2, 0⟩
/-- ECC.GLOG.BIT bits 28:22, RH, R355. -/
def F.eccGlogBit (b m e : Nat) : Fld := ⟨b + 0x1010 + 0x100 * m + 8 * e, 22, 7, 0⟩
/-- ECC.GLOG.SYMBOL bits 5:0, RH, R355. -/
def F.eccGlogSymbol (b m e : Nat) : Fld := ⟨b + 0x1014 + 0x100 * m + 8 * e, 0, 6, 0⟩
/-- ECC.GLOG.REPEAT bits 9:6, RH, R355. -/
def F.eccGlogRepeat (b m e : Nat) : Fld := ⟨b + 0x1014 + 0x100 * m + 8 * e, 6, 4, 0⟩
/-- ECC.GLOG.UNCORR bits 10:10, RH, R355. -/
def F.eccGlogUncorr (b m e : Nat) : Fld := ⟨b + 0x1014 + 0x100 * m + 8 * e, 10, 1, 0⟩
/-- ECC.GLOG.CELL bits 11:11, RH, R355. -/
def F.eccGlogCell (b m e : Nat) : Fld := ⟨b + 0x1014 + 0x100 * m + 8 * e, 11, 1, 0⟩
/-- ECC.GLOG.COLUMN bits 12:12, RH, R355. -/
def F.eccGlogColumn (b m e : Nat) : Fld := ⟨b + 0x1014 + 0x100 * m + 8 * e, 12, 1, 0⟩
/-- ECC.GLOG.VALID bits 31:31, W1C, R355. -/
def F.eccGlogValid (b m e : Nat) : Fld := ⟨b + 0x1014 + 0x100 * m + 8 * e, 31, 1, 0⟩
/-- LVC.SAVESLIP.KIND bits 3:0, RH, R386. -/
def F.lvcSaveslipKind : Fld := ⟨0x13080, 0, 4, 0⟩
/-- LVC.SAVESLIP.STATE bits 5:4, RH, R386. -/
def F.lvcSaveslipState : Fld := ⟨0x13080, 4, 2, 0⟩
/-- LVC.SAVESLIP.OWNER bits 7:6, RH, R386. -/
def F.lvcSaveslipOwner : Fld := ⟨0x13080, 6, 2, 0⟩
/-- LVC.SAVESLIP.TARGET bits 11:8, RH, R386. -/
def F.lvcSaveslipTarget : Fld := ⟨0x13080, 8, 4, 0⟩
/-- LVC.SAVESLIP.POWER bits 15:0, RH, R386. -/
def F.lvcSaveslipPower : Fld := ⟨0x13084, 0, 16, 0⟩
/-- LVC.SAVESLIP.REMAIN bits 31:16, RH, R386. -/
def F.lvcSaveslipRemain : Fld := ⟨0x13084, 16, 16, 0⟩
/-- LVC.SAVESLIP.ENERGY bits 19:0, RH, R386. -/
def F.lvcSaveslipEnergy : Fld := ⟨0x13088, 0, 20, 0⟩
/-- LVC.SAVESLIP.GRANT_TIME bits 31:0, RH, R386. -/
def F.lvcSaveslipGrantTime : Fld := ⟨0x1308C, 0, 32, 0⟩

def rowsMgt0 : List RegRow := [
  ⟨0x0, 1, 4, .pilot, fun _ _ => [⟨F.mgtIdentVendor, .ro, 0, none⟩,
    ⟨F.mgtIdentModule, .ro, 0, none⟩]⟩,
  ⟨0x4, 1, 4, .pilot, fun _ _ => [⟨F.mgtSerialLo, .ro, 0, none⟩]⟩,
  ⟨0x8, 1, 4, .pilot, fun _ _ => [⟨F.mgtSerialHi, .ro, 0, none⟩]⟩,
  ⟨0xC, 1, 4, .pilot, fun _ _ => [⟨F.mgtFwverMinor, .rh, 0, none⟩,
    ⟨F.mgtFwverMajor, .rh, 0, none⟩]⟩,
  ⟨0x10, 1, 4, .pilot, fun _ _ => [⟨F.mgtCredHelmProg, .rh, 0, none⟩,
    ⟨F.mgtCredHelmRev, .rh, 0, none⟩,
    ⟨F.mgtCredPilots, .rh, 0, none⟩]⟩,
  ⟨0x14, 1, 4, .pilot, fun _ _ => [⟨F.mgtEid, .rh, 0, none⟩,
    ⟨F.mgtI3cstatDa, .rh, 0, none⟩]⟩,
  ⟨0x18, 1, 4, .pilot, fun _ _ => [⟨F.mgtMctpstatBadtype, .rh, 0, none⟩,
    ⟨F.mgtMctpstatUnsecured, .rh, 0, none⟩,
    ⟨F.mgtMctpstatAuthfail, .rh, 0, none⟩]⟩,
  ⟨0x20, 1, 4, .helm, fun _ _ => [⟨F.mgtEthcfgEn, .rw, 0, none⟩,
    ⟨F.mgtEthcfgStatic, .rw, 0, none⟩,
    ⟨F.mgtEthcfgSlaac, .rw, 0, none⟩]⟩,
  ⟨0x24, 1, 4, .helm, fun _ _ => [⟨F.mgtEthaddr, .rw, 0, none⟩]⟩,
  ⟨0x28, 1, 4, .pilot, fun _ _ => [⟨F.mgtEthstatLink, .rh, 0, none⟩,
    ⟨F.mgtEthstatAddrOk, .rh, 0, none⟩,
    ⟨F.mgtEthstatDropped, .rh, 0, none⟩]⟩]

def rowsMgt1 : List RegRow := [
  ⟨0x30, 1, 4, .pilot, fun _ _ => [⟨F.mgtEthipv4, .rh, 0, none⟩]⟩,
  ⟨0x34, 1, 4, .pilot, fun _ _ => [⟨F.mgtBsessLo, .rh, 0, none⟩]⟩,
  ⟨0x38, 1, 4, .pilot, fun _ _ => [⟨F.mgtBsessHi, .rh, 0, none⟩]⟩,
  ⟨0x100, 8, 8, .pilot, fun _ e => [⟨F.mgtSessionPrincipal e, .rh, 0, none⟩,
    ⟨F.mgtSessionPath e, .rh, 0, none⟩,
    ⟨F.mgtSessionPilot e, .rh, 0, none⟩,
    ⟨F.mgtSessionBg e, .rh, 0, none⟩]⟩,
  ⟨0x104, 8, 8, .pilot, fun _ e => [⟨F.mgtSessionId e, .rh, 0, none⟩]⟩]

/-- The words of one MGT instance. -/
def rowsMgt : List RegRow := rowsMgt0 ++ rowsMgt1

def rowsRst0 : List RegRow := [
  ⟨0x0, 1, 4, .helm, fun _ _ => [⟨F.rstPstateCur, .rh, 0, none⟩,
    ⟨F.rstPstateReq, .wo, 0, none⟩,
    ⟨F.rstPstateBusy, .rh, 0, none⟩,
    ⟨F.rstPstateRefuse, .rh, 0, none⟩]⟩,
  ⟨0x4, 1, 4, .helm, fun _ _ => [⟨F.rstCauseSource, .rh, 0, none⟩,
    ⟨F.rstCauseWakeSrc, .rh, 0, none⟩,
    ⟨F.rstCauseCount, .rh, 0, none⟩]⟩,
  ⟨0x8, 1, 4, .helm, fun _ _ => [⟨F.rstStatReady, .rh, 0, none⟩,
    ⟨F.rstStatPhase, .rh, 0, none⟩,
    ⟨F.rstStatReadyMs, .rh, 0, none⟩]⟩,
  ⟨0xC, 1, 4, .helm, fun _ _ => [⟨F.rstWdogTimeout, .rw, 1, none⟩,
    ⟨F.rstWdogEn, .rw, 0, none⟩,
    ⟨F.rstWdogKick, .wo, 0, none⟩]⟩,
  ⟨0x10, 1, 4, .helm, fun _ _ => [⟨F.rstPadrelHeld, .rh, 0, none⟩,
    ⟨F.rstPadrelRelease, .wo, 0, none⟩,
    ⟨F.rstPadrelPrsntChg, .rh, 0, none⟩]⟩,
  ⟨0x20, 8, 4, .helm, fun _ e => [⟨F.rstPinfusePerst e, .ro, 0, none⟩]⟩,
  ⟨0x40, 2, 4, .helm, fun _ e => [⟨F.rstPinfuseAttn e, .ro, 0, none⟩]⟩,
  ⟨0x48, 1, 4, .helm, fun _ _ => [⟨F.rstPinfuseMgeRst, .ro, 0, none⟩]⟩]

/-- The words of one RST instance. -/
def rowsRst : List RegRow := rowsRst0

def rowsAlm0 : List RegRow := [
  ⟨0x0, 1, 4, .pilot, fun _ _ => [⟨F.almStatSlot0Valid, .rh, 0, none⟩,
    ⟨F.almStatSlot1Valid, .rh, 0, none⟩,
    ⟨F.almStatPending, .rh, 0, none⟩,
    ⟨F.almStatRestored, .rh, 0, none⟩,
    ⟨F.almStatRestoreFail, .w1c, 0, none⟩,
    ⟨F.almStatLastEvent, .rh, 0, none⟩]⟩,
  ⟨0x4, 1, 4, .pilot, fun _ _ => [⟨F.almSaveSeq, .rh, 0, none⟩,
    ⟨F.almSaveRegs, .rh, 0, none⟩]⟩,
  ⟨0x8, 1, 4, .pilot, fun _ _ => [⟨F.almTimesSave, .rh, 0, none⟩,
    ⟨F.almTimesRestore, .rh, 0, none⟩]⟩,
  ⟨0x100, 32, 4, .almBkp, fun _ e => [⟨F.almBkp e, .rw, 0, none⟩]⟩,
  ⟨0x200, 1, 4, .helm, fun _ _ => [⟨F.almRetainOffset, .rw, 0, none⟩]⟩]

/-- The words of one ALM instance. -/
def rowsAlm : List RegRow := rowsAlm0

/-- The first words of PWR. Here, as in the other blocks, a W1C field whose writer no rule names is the Helm's where the Helm writes the
block's fields otherwise, and the Pilot's elsewhere (R2, R442).
[DESIGN CHOICE, log entry 146] -/
def rowsPwr0 : List RegRow := [
  ⟨0x0, 2, 16, .helm, fun _ e => [⟨F.pwrFeedctlEn e, .rw, 0, none⟩,
    ⟨F.pwrFeedctlRetries e, .rw, 0, none⟩,
    ⟨F.pwrFeedctlRetryInt e, .rw, 1, some 100⟩,
    ⟨F.pwrFeedctlOcTime e, .rw, 1, some 20⟩,
    ⟨F.pwrFeedctlStartTime e, .rw, 2, some 10⟩,
    ⟨F.pwrFeedctlQual e, .rw, 1, some 25⟩,
    ⟨F.pwrFeedctlRelease e, .wo, 0, none⟩,
    ⟨F.pwrFeedctlUnretire e, .wo, 0, none⟩]⟩,
  ⟨0x4, 2, 16, .helm, fun _ e => [⟨F.pwrFeedstatState e, .rh, 0, none⟩,
    ⟨F.pwrFeedstatOringOn e, .rh, 0, none⟩,
    ⟨F.pwrFeedstatGateOk e, .rh, 0, none⟩,
    ⟨F.pwrFeedstatPg e, .rh, 0, none⟩,
    ⟨F.pwrFeedstatLastTrip e, .rh, 0, none⟩,
    ⟨F.pwrFeedstatRetryCount e, .rh, 0, none⟩,
    ⟨F.pwrFeedstatTripped e, .w1c, 0, none⟩,
    ⟨F.pwrFeedstatLatchEv e, .w1c, 0, none⟩]⟩,
  ⟨0x8, 2, 16, .helm, fun _ e => [⟨F.pwrFeedmeasVin e, .rh, 0, none⟩,
    ⟨F.pwrFeedmeasIin e, .rh, 0, none⟩]⟩,
  ⟨0xC, 2, 16, .helm, fun _ e => [⟨F.pwrFeedcntTrips e, .rh, 0, none⟩,
    ⟨F.pwrFeedcntStarts e, .rh, 0, none⟩]⟩,
  ⟨0x40, 1, 4, .helm, fun _ _ => [⟨F.pwrBusVbus, .rh, 0, none⟩]⟩,
  ⟨0x44, 1, 4, .helm, fun _ _ => [⟨F.pwrBulkCapMeas, .rh, 0, none⟩,
    ⟨F.pwrBulkCapLow, .rh, 0, none⟩,
    ⟨F.pwrBulkMeasured, .rh, 0, none⟩]⟩,
  ⟨0x48, 1, 4, .helm, fun _ _ => [⟨F.pwrRideShedDelay, .rw, 0, some 50⟩,
    ⟨F.pwrRideRiding, .rh, 0, none⟩,
    ⟨F.pwrRideShed, .w1c, 0, none⟩,
    ⟨F.pwrRideSaveDone, .rh, 0, none⟩,
    ⟨F.pwrRideResidual, .ro, 0, none⟩,
    ⟨F.pwrRideRides, .rh, 0, none⟩]⟩,
  ⟨0x4C, 1, 4, .helm, fun _ _ => [⟨F.pwrReckonEnergy, .rh, 0, none⟩,
    ⟨F.pwrReckonFloor, .ro, 0, none⟩]⟩,
  ⟨0x50, 1, 4, .helm, fun _ _ => [⟨F.pwrInputPNow, .rh, 0, none⟩,
    ⟨F.pwrInputPPeak, .rh, 0, none⟩,
    ⟨F.pwrInputClrPeak, .wo, 0, none⟩]⟩,
  ⟨0x60, 1, 4, .helm, fun _ _ => [⟨F.pwrLdoMode, .rh, 0, none⟩,
    ⟨F.pwrLdoSlip, .rw, 0, none⟩,
    ⟨F.pwrLdoGoFull, .wo, 0, none⟩,
    ⟨F.pwrLdoIAon, .rh, 0, none⟩,
    ⟨F.pwrLdoOverstay, .rh, 0, none⟩,
    ⟨F.pwrLdoBrownouts, .rh, 0, none⟩]⟩]

def rowsPwr1 : List RegRow := [
  ⟨0x70, 1, 4, .helm, fun _ _ => [⟨F.pwrAvsctlAckTimeout, .rw, 50, some 1000⟩,
    ⟨F.pwrAvsctlFailMax, .rw, 1, none⟩]⟩,
  ⟨0x100, 26, 8, .helm, fun _ e => [⟨F.pwrRailVset e, .rh, 0, none⟩,
    ⟨F.pwrRailIlimit e, .ro, 0, none⟩,
    ⟨F.pwrRailType e, .ro, 0, none⟩]⟩,
  ⟨0x104, 26, 8, .helm, fun _ e => [⟨F.pwrRailVmeas e, .rh, 0, none⟩,
    ⟨F.pwrRailImeas e, .rh, 0, none⟩,
    ⟨F.pwrRailPg e, .rh, 0, none⟩,
    ⟨F.pwrRailFrozen e, .rh, 0, none⟩,
    ⟨F.pwrRailFault e, .w1c, 0, none⟩,
    ⟨F.pwrRailTimeouts e, .rh, 0, none⟩]⟩]

/-- The words of one PWR instance. -/
def rowsPwr : List RegRow := rowsPwr0 ++ rowsPwr1

def rowsLvc0 : List RegRow := [
  ⟨0x0, 1, 4, .helm, fun _ _ => [⟨F.lvcBudgetInputW, .rw, 200, some 1750⟩,
    ⟨F.lvcBudgetThermMargin, .rw, 0, none⟩]⟩,
  ⟨0x4, 1, 4, .helm, fun _ _ => [⟨F.lvcBwHbm, .rw, 1, some 128⟩,
    ⟨F.lvcBwBolt, .rw, 1, some 48⟩]⟩,
  ⟨0x8, 1, 4, .pilot, fun _ _ => [⟨F.lvcStatCommitted, .rh, 0, none⟩,
    ⟨F.lvcStatSlips, .rh, 0, none⟩,
    ⟨F.lvcStatQueued, .rh, 0, none⟩,
    ⟨F.lvcStatRideMode, .rh, 0, none⟩]⟩,
  ⟨0xC, 1, 4, .pilot, fun _ _ => [⟨F.lvcCountRefused, .rh, 0, none⟩,
    ⟨F.lvcCountDeferred, .rh, 0, none⟩]⟩,
  ⟨0x10, 1, 4, .either, fun _ _ => [⟨F.lvcReqKind, .rw, 0, none⟩,
    ⟨F.lvcReqPower, .rw, 0, none⟩]⟩,
  ⟨0x14, 1, 4, .either, fun _ _ => [⟨F.lvcReqDuration, .rw, 1, none⟩,
    ⟨F.lvcReqGo, .wo, 0, none⟩]⟩,
  ⟨0x18, 1, 4, .pilot, fun _ _ => [⟨F.lvcRespResult, .rh, 0, none⟩,
    ⟨F.lvcRespSlip, .rh, 0, none⟩,
    ⟨F.lvcRespReason, .rh, 0, none⟩]⟩,
  ⟨0x1C, 1, 4, .either, fun _ _ => [⟨F.lvcCtlSlip, .rw, 0, none⟩,
    ⟨F.lvcCtlRelease, .wo, 0, none⟩,
    ⟨F.lvcCtlRenew, .wo, 0, none⟩,
    ⟨F.lvcCtlWithdraw, .wo, 0, none⟩]⟩,
  ⟨0x80, 1, 4, .pilot, fun _ _ => [⟨F.lvcSaveslipKind, .rh, 0, none⟩,
    ⟨F.lvcSaveslipState, .rh, 0, none⟩,
    ⟨F.lvcSaveslipOwner, .rh, 0, none⟩,
    ⟨F.lvcSaveslipTarget, .rh, 0, none⟩]⟩,
  ⟨0x84, 1, 4, .pilot, fun _ _ => [⟨F.lvcSaveslipPower, .rh, 0, none⟩,
    ⟨F.lvcSaveslipRemain, .rh, 0, none⟩]⟩]

def rowsLvc1 : List RegRow := [
  ⟨0x88, 1, 4, .pilot, fun _ _ => [⟨F.lvcSaveslipEnergy, .rh, 0, none⟩]⟩,
  ⟨0x8C, 1, 4, .pilot, fun _ _ => [⟨F.lvcSaveslipGrantTime, .rh, 0, none⟩]⟩,
  ⟨0x100, 32, 16, .pilot, fun _ e => [⟨F.lvcSlipKind e, .rh, 0, none⟩,
    ⟨F.lvcSlipState e, .rh, 0, none⟩,
    ⟨F.lvcSlipOwner e, .rh, 0, none⟩,
    ⟨F.lvcSlipTarget e, .rh, 0, none⟩]⟩,
  ⟨0x104, 32, 16, .pilot, fun _ e => [⟨F.lvcSlipPower e, .rh, 0, none⟩,
    ⟨F.lvcSlipRemain e, .rh, 0, none⟩]⟩,
  ⟨0x108, 32, 16, .pilot, fun _ e => [⟨F.lvcSlipEnergy e, .rh, 0, none⟩]⟩,
  ⟨0x10C, 32, 16, .pilot, fun _ e => [⟨F.lvcSlipGrantTime e, .rh, 0, none⟩]⟩]

/-- The words of one LVC instance. -/
def rowsLvc : List RegRow := rowsLvc0 ++ rowsLvc1

def rowsFlt0 : List RegRow := [
  ⟨0x0, 1, 4, .helm, fun _ _ => [⟨F.fltSafeState, .rh, 0, none⟩,
    ⟨F.fltSafeEnter, .wo, 0, none⟩,
    ⟨F.fltSafeExit, .wo, 0, none⟩,
    ⟨F.fltSafeCause, .rh, 0, none⟩,
    ⟨F.fltSafeLater, .rh, 0, none⟩]⟩,
  ⟨0x4, 1, 4, .pilot, fun _ _ => [⟨F.fltLastfatalLevel, .rh, 0, none⟩,
    ⟨F.fltLastfatalInstance, .rh, 0, none⟩,
    ⟨F.fltLastfatalSrc, .rh, 0, none⟩,
    ⟨F.fltLastfatalCause, .rh, 0, none⟩,
    ⟨F.fltLastfatalValid, .w1c, 0, none⟩]⟩,
  ⟨0x8, 1, 4, .pilot, fun _ _ => [⟨F.fltCtlC0Attn, .rw, 0, none⟩]⟩,
  ⟨0xC, 1, 4, .pilot, fun _ _ => [⟨F.fltC0win, .rh, 0, none⟩]⟩,
  ⟨0x100, 66, 16, .attn, fun _ e => [⟨F.fltAttnPend e, .rh, 0, none⟩,
    ⟨F.fltAttnTop e, .rh, 0, none⟩,
    ⟨F.fltAttnStale e, .rh, 0, none⟩]⟩,
  ⟨0x104, 66, 16, .attn, fun _ e => [⟨F.fltAttnSeq e, .rh, 0, none⟩]⟩,
  ⟨0x108, 66, 16, .attn, fun _ e => [⟨F.fltAttnAckSeq e, .rw, 0, none⟩]⟩,
  ⟨0x10C, 66, 16, .attn, fun _ e => [⟨F.fltAttnAckMask e, .wo, 0, none⟩]⟩]

/-- The words of one FLT instance. -/
def rowsFlt : List RegRow := rowsFlt0

def rowsHub0 : List RegRow := [
  ⟨0x0, 1, 4, .pilot, fun _ _ => [⟨F.hubIdentPart, .ro, 0, none⟩,
    ⟨F.hubIdentStepping, .ro, 0, none⟩]⟩,
  ⟨0x4, 1, 4, .pilot, fun _ _ => [⟨F.hubTopoModuleId, .cl, 0, none⟩,
    ⟨F.hubTopoRegionAttached, .cl, 0, none⟩,
    ⟨F.hubTopoRegionPowered, .rh, 0, none⟩,
    ⟨F.hubTopoPlaneAUp, .rh, 0, none⟩,
    ⟨F.hubTopoPlaneBUp, .rh, 0, none⟩]⟩,
  ⟨0x10, 1, 4, .helm, fun _ _ => [⟨F.hubRefctlPref, .rw, 0, none⟩,
    ⟨F.hubRefctlRevert, .rw, 0, none⟩,
    ⟨F.hubRefctlForce, .rw, 0, none⟩,
    ⟨F.hubRefctlHoldover, .rw, 1, some 50⟩,
    ⟨F.hubRefctlRevertHold, .rw, 1, none⟩]⟩,
  ⟨0x14, 1, 4, .pilot, fun _ _ => [⟨F.hubRefstatSel, .rh, 0, none⟩,
    ⟨F.hubRefstatAGood, .rh, 0, none⟩,
    ⟨F.hubRefstatBGood, .rh, 0, none⟩,
    ⟨F.hubRefstatRootLock, .rh, 0, none⟩,
    ⟨F.hubRefstatHoldover, .rh, 0, none⟩,
    ⟨F.hubRefstatAFail, .w1c, 0, none⟩,
    ⟨F.hubRefstatBFail, .w1c, 0, none⟩,
    ⟨F.hubRefstatSscOor, .w1c, 0, none⟩,
    ⟨F.hubRefstatForceIgnored, .rh, 0, none⟩,
    ⟨F.hubRefstatSwitches, .rh, 0, none⟩]⟩,
  ⟨0x18, 1, 4, .pilot, fun _ _ => [⟨F.hubSscmeasSpread, .rh, 0, none⟩,
    ⟨F.hubSscmeasModfreq, .rh, 0, none⟩]⟩,
  ⟨0x20, 1, 4, .pilot, fun _ _ => [⟨F.hubBindctlUnbindWait, .rw, 1, none⟩]⟩,
  ⟨0x24, 1, 4, .pilot, fun _ _ => [⟨F.hubPbrstatCollisions, .rh, 0, none⟩]⟩,
  ⟨0x30, 1, 4, .pilot, fun _ _ => [⟨F.hubXbarstatMode, .rh, 0, none⟩,
    ⟨F.hubXbarstatSpeedup, .rh, 0, none⟩,
    ⟨F.hubXbarstatSashUp, .rh, 0, none⟩]⟩,
  ⟨0x34, 1, 4, .pilot, fun _ _ => [⟨F.hubAdmctlReqOut, .rw, 1, none⟩]⟩,
  ⟨0x40, 1, 4, .pilot, fun _ _ => [⟨F.hubWflushWindow, .rw, 0, none⟩,
    ⟨F.hubWflushStart, .wo, 0, none⟩,
    ⟨F.hubWflushBusy, .rh, 0, none⟩,
    ⟨F.hubWflushDone, .w1c, 0, none⟩,
    ⟨F.hubWflushLeaveRefused, .w1c, 0, none⟩]⟩]

def rowsHub1 : List RegRow := [
  ⟨0x44, 1, 4, .pilot, fun _ _ => [⟨F.hubWflushstatLines, .rh, 0, none⟩]⟩,
  ⟨0x48, 1, 4, .pilot, fun _ _ => [⟨F.hubDeadsweepAgent, .rh, 0, none⟩,
    ⟨F.hubDeadsweepBusy, .rh, 0, none⟩,
    ⟨F.hubDeadsweepDone, .w1c, 0, none⟩]⟩,
  ⟨0x50, 1, 4, .pilot, fun _ _ => [⟨F.hubLdswinValid, .cl, 0, none⟩,
    ⟨F.hubLdswinBaseLo, .cl, 0, none⟩]⟩,
  ⟨0x54, 1, 4, .pilot, fun _ _ => [⟨F.hubLdswinBaseHi, .cl, 0, none⟩]⟩,
  ⟨0x60, 1, 4, .pilot, fun _ _ => [⟨F.hubSweepFirst, .rw, 0, none⟩,
    ⟨F.hubSweepCount, .rw, 1, none⟩,
    ⟨F.hubSweepDwell, .rw, 0, none⟩,
    ⟨F.hubSweepStart, .wo, 0, none⟩,
    ⟨F.hubSweepBusy, .rh, 0, none⟩,
    ⟨F.hubSweepDone, .w1c, 0, none⟩,
    ⟨F.hubSweepLeaveRefused, .w1c, 0, none⟩]⟩,
  ⟨0x64, 1, 4, .pilot, fun _ _ => [⟨F.hubSweepstatLanesDone, .rh, 0, none⟩]⟩,
  ⟨0x70, 1, 4, .helm, fun _ _ => [⟨F.hubThermThrottlePct, .rw, 25, some 90⟩,
    ⟨F.hubThermState, .rh, 0, none⟩,
    ⟨F.hubThermThrottles, .rh, 0, none⟩]⟩,
  ⟨0x74, 1, 4, .helm, fun _ _ => [⟨F.hubTmax, .rh, 0, none⟩,
    ⟨F.hubTmaxSrc, .rh, 0, none⟩,
    ⟨F.hubTmaxPeak, .rh, 0, none⟩,
    ⟨F.hubTmaxClrPeak, .wo, 0, none⟩]⟩,
  ⟨0x80, 28, 4, .pilot, fun _ e => [⟨F.hubTemp e, .rh, 0, none⟩,
    ⟨F.hubTempValid e, .rh, 0, none⟩,
    ⟨F.hubTempCounts e, .ro, 0, none⟩]⟩,
  ⟨0x100, 64, 4, .pilot, fun _ e => [⟨F.hubArbw e, .rh, 0, none⟩]⟩]

def rowsHub2 : List RegRow := [
  ⟨0x10000, 4096, 4, .pilot, fun _ e => [⟨F.hubPbrCell e, .cl, 0, none⟩,
    ⟨F.hubPbrModule e, .cl, 0, none⟩,
    ⟨F.hubPbrLocal e, .cl, 0, none⟩,
    ⟨F.hubPbrValid e, .cl, 0, none⟩,
    ⟨F.hubPbrCollision e, .rh, 0, none⟩]⟩,
  ⟨0x20000, 64, 4, .pilot, fun _ e => [⟨F.hubBerthWeight e, .cl, 0, none⟩,
    ⟨F.hubBerthValid e, .cl, 0, none⟩,
    ⟨F.hubBerthClassIo e, .cl, 0, none⟩,
    ⟨F.hubBerthClassMrd e, .cl, 0, none⟩,
    ⟨F.hubBerthClassMwr e, .cl, 0, none⟩,
    ⟨F.hubBerthClassCache e, .cl, 0, none⟩,
    ⟨F.hubBerthClassSync e, .cl, 0, none⟩]⟩,
  ⟨0x30000, 64, 4, .pilot, fun _ e => [⟨F.hubHomemapSlice e, .rh, 0, none⟩,
    ⟨F.hubHomemapUnknown e, .rh, 0, none⟩,
    ⟨F.hubHomemapChartSlice e, .cl, 0, none⟩,
    ⟨F.hubHomemapMoved e, .rh, 0, none⟩]⟩,
  ⟨0x30100, 64, 4, .pilot, fun _ e => [⟨F.hubAgentPortId e, .cl, 0, none⟩,
    ⟨F.hubAgentValid e, .cl, 0, none⟩,
    ⟨F.hubAgentDead e, .rh, 0, none⟩,
    ⟨F.hubAgentMisses e, .rh, 0, none⟩,
    ⟨F.hubAgentRevive e, .wo, 0, none⟩,
    ⟨F.hubAgentSwept e, .rh, 0, none⟩]⟩,
  ⟨0x30200, 64, 16, .pilot, fun _ e => [⟨F.hubLdsqObjQuota e, .cl, 0, none⟩]⟩,
  ⟨0x30204, 64, 16, .pilot, fun _ e => [⟨F.hubLdsqObjUse e, .rh, 0, none⟩]⟩,
  ⟨0x30208, 64, 16, .pilot, fun _ e => [⟨F.hubLdsqGrpFirst e, .cl, 0, none⟩,
    ⟨F.hubLdsqGrpLast e, .cl, 0, none⟩]⟩,
  ⟨0x3020C, 64, 16, .pilot, fun _ e => [⟨F.hubLdsqReserved e, .ro, 0, none⟩]⟩,
  ⟨0x40000, 4096, 64, .pilot, fun _ e => [⟨F.hubWinStartLo e, .cl, 0, none⟩]⟩,
  ⟨0x40004, 4096, 64, .pilot, fun _ e => [⟨F.hubWinStartHi e, .cl, 0, none⟩,
    ⟨F.hubWinShared e, .cl, 0, none⟩,
    ⟨F.hubWinCompat e, .cl, 0, none⟩,
    ⟨F.hubWinBerth e, .cl, 0, none⟩,
    ⟨F.hubWinValid e, .cl, 0, none⟩]⟩,
  ⟨0x40008, 4096, 64, .pilot, fun _ e => [⟨F.hubWinEndLo e, .cl, 0, none⟩]⟩]

def rowsHub3 : List RegRow := [
  ⟨0x4000C, 4096, 64, .pilot, fun _ e => [⟨F.hubWinEndHi e, .cl, 0, none⟩]⟩,
  ⟨0x40010, 4096, 64, .pilot, fun _ e => [⟨F.hubWinOwnedBudget e, .cl, 0, none⟩]⟩,
  ⟨0x40014, 4096, 64, .pilot, fun _ e => [⟨F.hubWinWbHorizon e, .cl, 0, none⟩]⟩,
  ⟨0x40018, 4096, 64, .pilot, fun _ e => [⟨F.hubWinLive e, .rh, 0, none⟩]⟩,
  ⟨0x4001C, 4096, 64, .pilot, fun _ e => [⟨F.hubWinOwned e, .rh, 0, none⟩]⟩,
  ⟨0x40020, 4096, 64, .pilot, fun _ e => [⟨F.hubWinAgentsLo e, .rh, 0, none⟩]⟩,
  ⟨0x40024, 4096, 64, .pilot, fun _ e => [⟨F.hubWinAgentsHi e, .rh, 0, none⟩]⟩,
  ⟨0x40000, 65536, 4, .pilot, fun _ e => if 10 ≤ e % 16 then [⟨F.hubWinReserved (e / 16) (e % 16 - 10), .ro, 0, none⟩] else []⟩]

/-- The words of one HUB instance. -/
def rowsHub : List RegRow := rowsHub0 ++ rowsHub1 ++ rowsHub2 ++ rowsHub3

def rowsDir0 : List RegRow := [
  ⟨0x0, 1, 4, .pilot, fun i _ => [⟨F.dirPartStack i, .rh, 0, none⟩,
    ⟨F.dirPartIndex i, .rh, 0, none⟩,
    ⟨F.dirPartValid i, .rh, 0, none⟩]⟩,
  ⟨0x4, 1, 4, .pilot, fun i _ => [⟨F.dirLive i, .rh, 0, none⟩]⟩,
  ⟨0x8, 1, 4, .pilot, fun i _ => [⟨F.dirOwned i, .rh, 0, none⟩]⟩,
  ⟨0xC, 1, 4, .pilot, fun i _ => [⟨F.dirFilterNonzero i, .rh, 0, none⟩,
    ⟨F.dirFilterSaturated i, .rh, 0, none⟩]⟩,
  ⟨0x10, 1, 4, .pilot, fun i _ => [⟨F.dirEvict i, .rh, 0, none⟩]⟩]

/-- The words of one DIR instance. -/
def rowsDir : List RegRow := rowsDir0

def rowsLds0 : List RegRow := [
  ⟨0x0, 1, 4, .pilot, fun i _ => [⟨F.ldsCtlMaxWait i, .rw, 1, some 60000⟩,
    ⟨F.ldsCtlDetect i, .rw, 1, some 2000⟩]⟩,
  ⟨0x4, 1, 4, .pilot, fun i _ => [⟨F.ldsStatWaiters i, .rh, 0, none⟩,
    ⟨F.ldsStatPeak i, .rh, 0, none⟩,
    ⟨F.ldsStatClrPeak i, .wo, 0, none⟩]⟩,
  ⟨0x8, 1, 4, .pilot, fun i _ => [⟨F.ldsErrstatSlotBusy i, .rh, 0, none⟩,
    ⟨F.ldsErrstatFormat i, .rh, 0, none⟩,
    ⟨F.ldsErrstatUnknown i, .rh, 0, none⟩,
    ⟨F.ldsErrstatRetry i, .rh, 0, none⟩]⟩,
  ⟨0xC, 1, 4, .pilot, fun i _ => [⟨F.ldsGrpstatAllwait i, .rh, 0, none⟩,
    ⟨F.ldsGrpstatThawed i, .rh, 0, none⟩]⟩,
  ⟨0x10, 1, 4, .pilot, fun i _ => [⟨F.ldsObjstatFree i, .rh, 0, none⟩,
    ⟨F.ldsObjstatNostore i, .rh, 0, none⟩]⟩]

/-- The words of one LDS instance. -/
def rowsLds : List RegRow := rowsLds0

def rowsHom0 : List RegRow := [
  ⟨0x0, 1, 4, .pilot, fun i _ => [⟨F.homRole i, .rh, 0, none⟩,
    ⟨F.homRoleUnknown i, .rh, 0, none⟩,
    ⟨F.homRoleServesFor i, .rh, 0, none⟩,
    ⟨F.homRoleAdopted i, .rh, 0, none⟩]⟩,
  ⟨0x4, 1, 4, .pilot, fun i _ => [⟨F.homSnpctlTimeout i, .rw, 1, some 1000⟩]⟩,
  ⟨0x8, 1, 4, .pilot, fun i _ => [⟨F.homTrkInUse i, .rh, 0, none⟩,
    ⟨F.homTrkPeak i, .rh, 0, none⟩,
    ⟨F.homTrkClrPeak i, .wo, 0, none⟩]⟩,
  ⟨0xC, 1, 4, .pilot, fun i _ => [⟨F.homErrstatTimeouts i, .rh, 0, none⟩,
    ⟨F.homErrstatPoisoned i, .rh, 0, none⟩,
    ⟨F.homErrstatProto i, .rh, 0, none⟩,
    ⟨F.homErrstatLateRsp i, .rh, 0, none⟩]⟩,
  ⟨0x100, 64, 8, .pilot, fun i e => [⟨F.homBerthTrackers i e, .cl, 0, none⟩,
    ⟨F.homBerthSnoops i e, .cl, 0, none⟩]⟩,
  ⟨0x104, 64, 8, .pilot, fun i e => [⟨F.homBerthTrkUse i e, .rh, 0, none⟩,
    ⟨F.homBerthSnpUse i e, .rh, 0, none⟩,
    ⟨F.homBerthTrkOverq i e, .rh, 0, none⟩,
    ⟨F.homBerthSnpOverq i e, .rh, 0, none⟩]⟩]

/-- The words of one HOM instance. -/
def rowsHom : List RegRow := rowsHom0

def rowsCpe0 : List RegRow := [
  ⟨0x0, 1, 4, .pilot, fun i _ => [⟨F.cpeCtlLeaveWait i, .rw, 1, none⟩]⟩,
  ⟨0x4, 1, 4, .pilot, fun i _ => [⟨F.cpeStatRunning i, .rh, 0, none⟩,
    ⟨F.cpeStatQueued i, .rh, 0, none⟩,
    ⟨F.cpeStatPaused i, .rh, 0, none⟩,
    ⟨F.cpeStatFormat i, .rh, 0, none⟩]⟩,
  ⟨0x100, 64, 4, .pilot, fun i e => [⟨F.cpeBerthShare i e, .cl, 0, none⟩,
    ⟨F.cpeBerthUse i e, .rh, 0, none⟩,
    ⟨F.cpeBerthOverq i e, .rh, 0, none⟩]⟩,
  ⟨0x200, 16, 4, .pilot, fun i e => [⟨F.cpeMgtdesc i e, .wo, 0, none⟩]⟩,
  ⟨0x240, 1, 4, .pilot, fun i _ => [⟨F.cpeMgtsubmitGo i, .wo, 0, none⟩,
    ⟨F.cpeMgtsubmitBusy i, .rh, 0, none⟩]⟩,
  ⟨0x280, 16, 4, .pilot, fun i e => [⟨F.cpeMgtdone i e, .rh, 0, none⟩]⟩]

/-- The words of one CPE instance. -/
def rowsCpe : List RegRow := rowsCpe0

def rowsSeam0 : List RegRow := [
  ⟨0x0, 1, 4, .helm, fun i _ => [⟨F.seamCtlResetA i, .wo, 0, none⟩,
    ⟨F.seamCtlResetB i, .wo, 0, none⟩,
    ⟨F.seamCtlWireErrMax i, .rw, 1, none⟩,
    ⟨F.seamCtlWireWindow i, .rw, 1, none⟩]⟩,
  ⟨0x4, 1, 4, .helm, fun i _ => [⟨F.seamStatStateA i, .rh, 0, none⟩,
    ⟨F.seamStatStateB i, .rh, 0, none⟩,
    ⟨F.seamStatRegenLock i, .rh, 0, none⟩,
    ⟨F.seamStatSlotsA i, .rh, 0, none⟩,
    ⟨F.seamStatSlotsB i, .rh, 0, none⟩,
    ⟨F.seamStatResets i, .rh, 0, none⟩]⟩,
  ⟨0x8, 1, 4, .helm, fun i _ => [⟨F.seamErrParity i, .rh, 0, none⟩,
    ⟨F.seamErrResends i, .rh, 0, none⟩]⟩,
  ⟨0x100, 160, 4, .helm, fun i e => [⟨F.seamSparemapSpare0Wire i e, .rh, 0, none⟩,
    ⟨F.seamSparemapSpare0Used i e, .rh, 0, none⟩,
    ⟨F.seamSparemapSpare1Wire i e, .rh, 0, none⟩,
    ⟨F.seamSparemapSpare1Used i e, .rh, 0, none⟩,
    ⟨F.seamSparemapPending i e, .rh, 0, none⟩,
    ⟨F.seamSparemapPendingWire i e, .rh, 0, none⟩,
    ⟨F.seamSparemapParityMode i e, .rh, 0, none⟩]⟩]

/-- The words of one SEAM instance. -/
def rowsSeam : List RegRow := rowsSeam0

def rowsFnl0 : List RegRow := [
  ⟨0x0, 1, 4, .pilot, fun i _ => [⟨F.fnlLinkctlGrace i, .rw, 0, some 1000⟩,
    ⟨F.fnlLinkctlWatch i, .rw, 1, some 100⟩,
    ⟨F.fnlLinkctlUncorMax i, .rw, 1, none⟩,
    ⟨F.fnlLinkctlLowfomMax i, .rw, 1, none⟩]⟩,
  ⟨0x4, 1, 4, .pilot, fun i _ => [⟨F.fnlRetirectlRetireCount i, .rw, 1, none⟩,
    ⟨F.fnlRetirectlRetireWindow i, .rw, 1, none⟩,
    ⟨F.fnlRetirectlUnretire i, .wo, 0, none⟩,
    ⟨F.fnlRetirectlReset i, .wo, 0, none⟩,
    ⟨F.fnlRetirectlCold i, .rw, 0, none⟩]⟩,
  ⟨0x8, 1, 4, .pilot, fun i _ => [⟨F.fnlLinkstatState i, .rh, 0, none⟩,
    ⟨F.fnlLinkstatGraceOn i, .rh, 0, none⟩,
    ⟨F.fnlLinkstatFlushed i, .rh, 0, none⟩,
    ⟨F.fnlLinkstatResumed i, .rh, 0, none⟩,
    ⟨F.fnlLinkstatLastCause i, .rh, 0, none⟩,
    ⟨F.fnlLinkstatLinkdowns i, .rh, 0, none⟩,
    ⟨F.fnlLinkstatPeerId i, .rh, 0, none⟩]⟩,
  ⟨0xC, 1, 4, .pilot, fun i _ => [⟨F.fnlWatchcntUncor i, .rh, 0, none⟩,
    ⟨F.fnlWatchcntLowfom i, .rh, 0, none⟩,
    ⟨F.fnlWatchcntMaxuncor i, .rh, 0, none⟩,
    ⟨F.fnlWatchcntMaxlow i, .rh, 0, none⟩]⟩,
  ⟨0x10, 1, 4, .pilot, fun i _ => [⟨F.fnlReplayctlTimeout i, .rw, 5, some 160⟩,
    ⟨F.fnlReplayctlReplayMax i, .rw, 1, none⟩]⟩,
  ⟨0x14, 1, 4, .pilot, fun i _ => [⟨F.fnlSeqTxNext i, .rh, 0, none⟩,
    ⟨F.fnlSeqAcked i, .rh, 0, none⟩]⟩,
  ⟨0x18, 1, 4, .pilot, fun i _ => [⟨F.fnlSeqRxNext i, .rh, 0, none⟩,
    ⟨F.fnlSeqOutstanding i, .rh, 0, none⟩,
    ⟨F.fnlSeqDepth i, .rh, 0, none⟩]⟩,
  ⟨0x1C, 1, 4, .pilot, fun i _ => [⟨F.fnlCorr i, .rh, 0, none⟩]⟩,
  ⟨0x20, 1, 4, .pilot, fun i _ => [⟨F.fnlUncor i, .rh, 0, none⟩]⟩,
  ⟨0x24, 1, 4, .pilot, fun i _ => [⟨F.fnlEvtNakTx i, .rh, 0, none⟩,
    ⟨F.fnlEvtNakRx i, .rh, 0, none⟩,
    ⟨F.fnlEvtReplays i, .rh, 0, none⟩,
    ⟨F.fnlEvtCsync i, .rh, 0, none⟩]⟩]

def rowsFnl1 : List RegRow := [
  ⟨0x28, 1, 4, .pilot, fun i _ => [⟨F.fnlFlushMsgs i, .rh, 0, none⟩,
    ⟨F.fnlFlushReplies i, .rh, 0, none⟩]⟩,
  ⟨0x2C, 1, 4, .pilot, fun i _ => [⟨F.fnlQwloss i, .rh, 0, none⟩]⟩]

/-- The words of one FNL instance. -/
def rowsFnl : List RegRow := rowsFnl0 ++ rowsFnl1

def rowsLan0 : List RegRow := [
  ⟨0x0, 1, 4, .pilot, fun i _ => [⟨F.lanModeActive i, .rh, 0, none⟩,
    ⟨F.lanModePam4 i, .rh, 0, none⟩,
    ⟨F.lanModePolInv i, .rh, 0, none⟩,
    ⟨F.lanModeLinkLane i, .rh, 0, none⟩]⟩,
  ⟨0x4, 1, 4, .pilot, fun i _ => [⟨F.lanTxeqCm2 i, .rh, 0, none⟩,
    ⟨F.lanTxeqCm1 i, .rh, 0, none⟩,
    ⟨F.lanTxeqC0 i, .rh, 0, none⟩,
    ⟨F.lanTxeqCp1 i, .rh, 0, none⟩]⟩,
  ⟨0x8, 1, 4, .pilot, fun i _ => [⟨F.lanRxeqCtleRange i, .rh, 0, none⟩,
    ⟨F.lanRxeqCtlePeak i, .rh, 0, none⟩,
    ⟨F.lanRxeqVgaRange i, .rh, 0, none⟩,
    ⟨F.lanRxeqVgaGain i, .rh, 0, none⟩,
    ⟨F.lanRxeqCdrPhase i, .rh, 0, none⟩,
    ⟨F.lanRxeqEndStop i, .rh, 0, none⟩,
    ⟨F.lanRxeqStepPending i, .rh, 0, none⟩]⟩,
  ⟨0xC, 1, 4, .pilot, fun i _ => [⟨F.lanDfeTap1 i, .rh, 0, none⟩,
    ⟨F.lanDfeTap2 i, .rh, 0, none⟩,
    ⟨F.lanDfeTap3 i, .rh, 0, none⟩,
    ⟨F.lanDfeTap4 i, .rh, 0, none⟩,
    ⟨F.lanDfeTap5 i, .rh, 0, none⟩]⟩,
  ⟨0x10, 1, 4, .pilot, fun i _ => [⟨F.lanDfeTap6 i, .rh, 0, none⟩,
    ⟨F.lanDfeTap7 i, .rh, 0, none⟩,
    ⟨F.lanDfeTap8 i, .rh, 0, none⟩,
    ⟨F.lanDfeTap9 i, .rh, 0, none⟩,
    ⟨F.lanDfeTap10 i, .rh, 0, none⟩,
    ⟨F.lanDfeTap11 i, .rh, 0, none⟩]⟩,
  ⟨0x14, 1, 4, .pilot, fun i _ => [⟨F.lanDfeTap12 i, .rh, 0, none⟩]⟩,
  ⟨0x18, 1, 4, .pilot, fun i _ => [⟨F.lanCalcntRangeSteps i, .rh, 0, none⟩,
    ⟨F.lanCalcntRecentres i, .rh, 0, none⟩,
    ⟨F.lanCalcntForced i, .rh, 0, none⟩,
    ⟨F.lanCalcntSuspectSteps i, .rh, 0, none⟩]⟩,
  ⟨0x20, 1, 4, .pilot, fun i _ => [⟨F.lanQwctlLen i, .rw, 36, some 80⟩,
    ⟨F.lanQwctlGapWait i, .rw, 1, some 100⟩]⟩,
  ⟨0x24, 1, 4, .pilot, fun i _ => [⟨F.lanQwstatBudget i, .rh, 0, none⟩,
    ⟨F.lanQwstatReqOut i, .rh, 0, none⟩,
    ⟨F.lanQwstatReqIn i, .rh, 0, none⟩]⟩,
  ⟨0x28, 1, 4, .pilot, fun i _ => [⟨F.lanQwsent i, .rh, 0, none⟩]⟩]

def rowsLan1 : List RegRow := [
  ⟨0x2C, 1, 4, .pilot, fun i _ => [⟨F.lanQwrcvd i, .rh, 0, none⟩]⟩]

/-- The words of one LAN instance. -/
def rowsLan : List RegRow := rowsLan0 ++ rowsLan1

def rowsSxt0 : List RegRow := [
  ⟨0x0, 1, 4, .pilot, fun i _ => [⟨F.sxtFom i, .rh, 0, none⟩,
    ⟨F.sxtFomHo i, .rh, 0, none⟩,
    ⟨F.sxtFomVo i, .rh, 0, none⟩,
    ⟨F.sxtFomWorstEye i, .rh, 0, none⟩]⟩,
  ⟨0x4, 1, 4, .pilot, fun i _ => [⟨F.sxtEdgeLeft i, .rh, 0, none⟩,
    ⟨F.sxtEdgeRight i, .rh, 0, none⟩,
    ⟨F.sxtEdgeUp i, .rh, 0, none⟩,
    ⟨F.sxtEdgeDown i, .rh, 0, none⟩]⟩,
  ⟨0x8, 1, 4, .pilot, fun i _ => [⟨F.sxtThreshTarget i, .rw, 0, none⟩,
    ⟨F.sxtThreshAttn i, .rw, 0, none⟩,
    ⟨F.sxtThreshLow i, .rw, 0, none⟩]⟩,
  ⟨0xC, 1, 4, .pilot, fun i _ => [⟨F.sxtCfgTol i, .rw, 0, none⟩,
    ⟨F.sxtCfgDwell i, .rw, 0, none⟩]⟩,
  ⟨0x10, 1, 4, .pilot, fun i _ => [⟨F.sxtRangectlSlopeMax i, .rw, 1, none⟩,
    ⟨F.sxtRangectlGainMin i, .rw, 0, none⟩,
    ⟨F.sxtRangectlDeferMax i, .rw, 10, none⟩]⟩,
  ⟨0x14, 1, 4, .pilot, fun i _ => [⟨F.sxtTrialKind i, .rh, 0, none⟩,
    ⟨F.sxtTrialFrom i, .rh, 0, none⟩,
    ⟨F.sxtTrialTo i, .rh, 0, none⟩,
    ⟨F.sxtTrialT1 i, .rh, 0, none⟩,
    ⟨F.sxtTrialT2 i, .rh, 0, none⟩,
    ⟨F.sxtTrialOutcome i, .rh, 0, none⟩]⟩,
  ⟨0x18, 1, 4, .pilot, fun i _ => [⟨F.sxtTrialcntTrials i, .rh, 0, none⟩,
    ⟨F.sxtTrialcntDeferrals i, .rh, 0, none⟩,
    ⟨F.sxtTrialcntRejects i, .rh, 0, none⟩,
    ⟨F.sxtTrialcntLowticks i, .rh, 0, none⟩]⟩,
  ⟨0x1C, 1, 4, .pilot, fun i _ => [⟨F.sxtSweepresHo i, .rh, 0, none⟩,
    ⟨F.sxtSweepresVo i, .rh, 0, none⟩,
    ⟨F.sxtSweepresFom i, .rh, 0, none⟩,
    ⟨F.sxtSweepresEye i, .rh, 0, none⟩,
    ⟨F.sxtSweepresValid i, .rh, 0, none⟩]⟩]

/-- The words of one SXT instance. -/
def rowsSxt : List RegRow := rowsSxt0

def rowsBlk0 : List RegRow := [
  ⟨0x60, 1, 4, .pilot, fun i _ => [⟨F.blkSwresetGo i, .wo, 0, none⟩,
    ⟨F.blkSwresetBusy i, .rh, 0, none⟩,
    ⟨F.blkSwresetCount i, .rh, 0, none⟩]⟩,
  ⟨0x100, 8, 4, .pilot, fun i e => [⟨F.blkStgUsed i e, .rh, 0, none⟩,
    ⟨F.blkStgSharedUsed i e, .rh, 0, none⟩]⟩,
  ⟨0x120, 8, 4, .pilot, fun i e => [⟨F.blkStgholdHeld i e, .rh, 0, none⟩,
    ⟨F.blkStgholdPeak i e, .rh, 0, none⟩,
    ⟨F.blkStgholdClrPeak i e, .wo, 0, none⟩]⟩,
  ⟨0x140, 8, 4, .pilot, fun i e => [⟨F.blkFwdrateRate i e, .rh, 0, none⟩,
    ⟨F.blkFwdrateCtOk i e, .rh, 0, none⟩]⟩]

/-- The words of one BLK instance. -/
def rowsBlk : List RegRow := rowsBlk0

def rowsRgn0 : List RegRow := [
  ⟨0x100, 1, 4, .pilot, fun i _ => [⟨F.rgnPoolcfgAlpha i, .cl, 0, none⟩]⟩,
  ⟨0x104, 1, 4, .pilot, fun i _ => [⟨F.rgnYellowFloor i, .cl, 0, none⟩]⟩,
  ⟨0x108, 1, 4, .pilot, fun i _ => [⟨F.rgnPoolstatFree i, .rh, 0, none⟩]⟩,
  ⟨0x10C, 1, 4, .pilot, fun i _ => [⟨F.rgnHemstatReserved i, .rh, 0, none⟩]⟩,
  ⟨0x110, 1, 4, .pilot, fun i _ => [⟨F.rgnBoltuseUsed i, .rh, 0, none⟩]⟩,
  ⟨0x114, 1, 4, .pilot, fun i _ => [⟨F.rgnBoltcapCapacity i, .rh, 0, none⟩,
    ⟨F.rgnBoltcapBelowZero i, .w1c, 0, none⟩]⟩,
  ⟨0x120, 1, 4, .pilot, fun i _ => [⟨F.rgnCtctlStallMax i, .rw, 1, none⟩,
    ⟨F.rgnCtctlDemote i, .rw, 0, none⟩]⟩,
  ⟨0x124, 1, 4, .pilot, fun i _ => [⟨F.rgnCtstatUnderruns i, .rh, 0, none⟩,
    ⟨F.rgnCtstatPoisonFills i, .rh, 0, none⟩,
    ⟨F.rgnCtstatDemoted i, .rh, 0, none⟩,
    ⟨F.rgnCtstatClr i, .wo, 0, none⟩]⟩,
  ⟨0x128, 1, 4, .pilot, fun i _ => [⟨F.rgnCtholdSlots i, .rh, 0, none⟩]⟩,
  ⟨0x130, 1, 4, .pilot, fun i _ => [⟨F.rgnQhistctlClr i, .wo, 0, none⟩,
    ⟨F.rgnQhistctlClearing i, .rh, 0, none⟩]⟩]

def rowsRgn1 : List RegRow := [
  ⟨0x200, 17, 4, .pilot, fun i e => [⟨F.rgnArbwAdmitW i e, .rh, 0, none⟩,
    ⟨F.rgnArbwSeamW i e, .rh, 0, none⟩]⟩,
  ⟨0x1000, 64, 8, .pilot, fun i e => [⟨F.rgnBerthpoolCap i e, .cl, 0, none⟩]⟩,
  ⟨0x1004, 64, 8, .pilot, fun i e => [⟨F.rgnBerthpoolUse i e, .rh, 0, none⟩,
    ⟨F.rgnBerthpoolOverq i e, .rh, 0, none⟩]⟩,
  ⟨0x10000, 4096, 16, .pilot, fun i e => [⟨F.rgnHemPleat i e, .cl, 0, none⟩,
    ⟨F.rgnHemClass i e, .cl, 0, none⟩,
    ⟨F.rgnHemBerth i e, .cl, 0, none⟩,
    ⟨F.rgnHemAny i e, .cl, 0, none⟩,
    ⟨F.rgnHemValid i e, .cl, 0, none⟩]⟩,
  ⟨0x10004, 4096, 16, .pilot, fun i e => [⟨F.rgnHem i e, .cl, 0, none⟩]⟩,
  ⟨0x10008, 4096, 16, .pilot, fun i e => [⟨F.rgnHemUse i e, .rh, 0, none⟩,
    ⟨F.rgnHemOverq i e, .rh, 0, none⟩]⟩,
  ⟨0x1000C, 4096, 16, .pilot, fun i e => [⟨F.rgnHemPeak i e, .rh, 0, none⟩]⟩,
  ⟨0x80000, 32768, 4, .pilot, fun i e => if e % 32 < 16 then [⟨F.rgnQhistDepth i (e / 32) (e % 32), .rh, 0, none⟩] else [⟨F.rgnQhistSojourn i (e / 32) (e % 32 - 16), .rh, 0, none⟩]⟩]

/-- The words of one RGN instance. -/
def rowsRgn : List RegRow := rowsRgn0 ++ rowsRgn1

def rowsCel0 : List RegRow := [
  ⟨0x0, 1, 4, .pilot, fun i _ => [⟨F.celPersonaLead i, .cl, 0, none⟩,
    ⟨F.celPersonaWidth i, .cl, 0, none⟩,
    ⟨F.celPersonaPersonality i, .cl, 0, none⟩,
    ⟨F.celPersonaFmPort i, .cl, 0, none⟩,
    ⟨F.celPersonaRateMax i, .cl, 0, none⟩,
    ⟨F.celPersonaFlitmodes i, .cl, 0, none⟩]⟩,
  ⟨0x4, 1, 4, .pilot, fun i _ => [⟨F.celLinkstatUp i, .rh, 0, none⟩,
    ⟨F.celLinkstatWidthNow i, .rh, 0, none⟩,
    ⟨F.celLinkstatDegraded i, .rh, 0, none⟩,
    ⟨F.celLinkstatRateNow i, .rh, 0, none⟩,
    ⟨F.celLinkstatFlitNow i, .rh, 0, none⟩,
    ⟨F.celLinkstatCxl i, .rh, 0, none⟩,
    ⟨F.celLinkstatPeerModule i, .rh, 0, none⟩,
    ⟨F.celLinkstatLinkResets i, .rh, 0, none⟩]⟩,
  ⟨0x8, 1, 4, .pilot, fun i _ => [⟨F.celBindBound i, .rh, 0, none⟩,
    ⟨F.celBindVcs i, .rh, 0, none⟩,
    ⟨F.celBindVppb i, .rh, 0, none⟩,
    ⟨F.celBindMld i, .rh, 0, none⟩,
    ⟨F.celBindLdCount i, .rh, 0, none⟩,
    ⟨F.celBindLdExcess i, .rh, 0, none⟩]⟩,
  ⟨0xC, 1, 4, .pilot, fun i _ => [⟨F.celTackCurrent i, .rh, 0, none⟩,
    ⟨F.celTackDrain1 i, .rh, 0, none⟩,
    ⟨F.celTackDrain2 i, .rh, 0, none⟩,
    ⟨F.celTackDrain3 i, .rh, 0, none⟩]⟩,
  ⟨0x10, 1, 4, .pilot, fun i _ => [⟨F.celTackstatDraining i, .rh, 0, none⟩,
    ⟨F.celTackstatStall i, .rh, 0, none⟩,
    ⟨F.celTackstatOutstanding i, .rh, 0, none⟩]⟩,
  ⟨0x14, 1, 4, .pilot, fun i _ => [⟨F.celStaleReqUnbound i, .rh, 0, none⟩,
    ⟨F.celStaleRspDiscard i, .rh, 0, none⟩]⟩,
  ⟨0x18, 1, 4, .pilot, fun i _ => [⟨F.celTackctlRspWait i, .rw, 1, none⟩,
    ⟨F.celTackctlSlotWait i, .rw, 1, none⟩,
    ⟨F.celTackctlClrCounts i, .wo, 0, none⟩]⟩,
  ⟨0x1C, 1, 4, .pilot, fun i _ => [⟨F.celHotplugPresent i, .rh, 0, none⟩,
    ⟨F.celHotplugPrsntRaw i, .rh, 0, none⟩,
    ⟨F.celHotplugPresenceChg i, .w1c, 0, none⟩,
    ⟨F.celHotplugSurprise i, .w1c, 0, none⟩,
    ⟨F.celHotplugPerstIn i, .rh, 0, none⟩,
    ⟨F.celHotplugPerstOut i, .rh, 0, none⟩,
    ⟨F.celHotplugDebounce i, .rw, 1, none⟩]⟩,
  ⟨0x40, 16, 4, .pilot, fun i e => [⟨F.celLdbindBound i e, .rh, 0, none⟩,
    ⟨F.celLdbindVcs i e, .rh, 0, none⟩,
    ⟨F.celLdbindVppb i e, .rh, 0, none⟩,
    ⟨F.celLdbindTack i e, .rh, 0, none⟩]⟩,
  ⟨0x80, 16, 8, .pilot, fun i e => [⟨F.celLdtackDrain1 i e, .rh, 0, none⟩,
    ⟨F.celLdtackDrain2 i e, .rh, 0, none⟩,
    ⟨F.celLdtackDrain3 i e, .rh, 0, none⟩,
    ⟨F.celLdtackDraining i e, .rh, 0, none⟩,
    ⟨F.celLdtackStall i e, .rh, 0, none⟩]⟩]

def rowsCel1 : List RegRow := [
  ⟨0x84, 16, 8, .pilot, fun i e => [⟨F.celLdtackOutstanding i e, .rh, 0, none⟩]⟩,
  ⟨0x200, 8, 4, .pilot, fun i e => [⟨F.celClassDisc i e, .cl, 0, none⟩,
    ⟨F.celClassWeight i e, .cl, 0, none⟩,
    ⟨F.celClassShaped i e, .rh, 0, none⟩]⟩,
  ⟨0x220, 16, 16, .pilot, fun i e => [⟨F.celShaperRate i e, .cl, 0, none⟩,
    ⟨F.celShaperBerth i e, .cl, 0, none⟩]⟩,
  ⟨0x224, 16, 16, .pilot, fun i e => [⟨F.celShaperBurst i e, .cl, 0, none⟩]⟩,
  ⟨0x228, 16, 16, .pilot, fun i e => [⟨F.celShaperDebt i e, .rh, 0, none⟩,
    ⟨F.celShaperHeld i e, .rh, 0, none⟩]⟩,
  ⟨0x22C, 16, 16, .pilot, fun i e => [⟨F.celShaperNext i e, .rh, 0, none⟩]⟩,
  ⟨0x320, 1, 4, .pilot, fun i _ => [⟨F.celSchedstatRemapped i, .rh, 0, none⟩,
    ⟨F.celSchedstatFixups i, .rh, 0, none⟩]⟩,
  ⟨0x400, 1, 4, .pilot, fun i _ => [⟨F.celLlcxlReplayTo i, .rw, 5, some 80⟩,
    ⟨F.celLlcxlRetryTo i, .rw, 5, some 80⟩,
    ⟨F.celLlcxlReplays i, .rh, 0, none⟩,
    ⟨F.celLlcxlRetrains i, .rh, 0, none⟩]⟩,
  ⟨0x800, 64, 32, .pilot, fun i e => [⟨F.celPoliceMode i e, .cl, 0, none⟩]⟩,
  ⟨0x804, 64, 32, .pilot, fun i e => [⟨F.celPoliceCir i e, .cl, 0, none⟩]⟩]

def rowsCel2 : List RegRow := [
  ⟨0x808, 64, 32, .pilot, fun i e => [⟨F.celPoliceCbs i e, .cl, 0, none⟩]⟩,
  ⟨0x80C, 64, 32, .pilot, fun i e => [⟨F.celPolicePir i e, .cl, 0, none⟩]⟩,
  ⟨0x810, 64, 32, .pilot, fun i e => [⟨F.celPoliceEbsPbs i e, .cl, 0, none⟩]⟩,
  ⟨0x814, 64, 32, .pilot, fun i e => [⟨F.celPoliceTcFill i e, .rh, 0, none⟩]⟩,
  ⟨0x818, 64, 32, .pilot, fun i e => [⟨F.celPoliceTxFill i e, .rh, 0, none⟩]⟩,
  ⟨0x81C, 64, 32, .pilot, fun i e => [⟨F.celPoliceYellow i e, .rh, 0, none⟩,
    ⟨F.celPoliceRed i e, .rh, 0, none⟩]⟩]

/-- The words of one CEL instance. -/
def rowsCel : List RegRow := rowsCel0 ++ rowsCel1 ++ rowsCel2

def rowsGat0 : List RegRow := [
  ⟨0x0, 1, 4, .pilot, fun i _ => [⟨F.gatIdentKind i, .ro, 0, none⟩,
    ⟨F.gatIdentUnit i, .ro, 0, none⟩,
    ⟨F.gatIdentInUse i, .rh, 0, none⟩]⟩,
  ⟨0x10, 1, 4, .pilot, fun i _ => [⟨F.gatViolAddrLo i, .rh, 0, none⟩]⟩,
  ⟨0x14, 1, 4, .pilot, fun i _ => [⟨F.gatViolAddrHi i, .rh, 0, none⟩,
    ⟨F.gatViolBerth i, .rh, 0, none⟩,
    ⟨F.gatViolWindow i, .rh, 0, none⟩,
    ⟨F.gatViolReason i, .rh, 0, none⟩]⟩,
  ⟨0x18, 1, 4, .pilot, fun i _ => [⟨F.gatViolKind i, .rh, 0, none⟩,
    ⟨F.gatViolSource i, .rh, 0, none⟩,
    ⟨F.gatViolParts i, .rh, 0, none⟩,
    ⟨F.gatViolValid i, .w1c, 0, none⟩]⟩,
  ⟨0x1C, 1, 4, .pilot, fun i _ => [⟨F.gatViolCount i, .rh, 0, none⟩]⟩,
  ⟨0x20, 1, 4, .pilot, fun i _ => [⟨F.gatCtlClrCount i, .wo, 0, none⟩]⟩,
  ⟨0x100, 64, 32, .pilot, fun i e => [⟨F.gatWinStartLo i e, .cl, 0, none⟩]⟩,
  ⟨0x104, 64, 32, .pilot, fun i e => [⟨F.gatWinStartHi i e, .cl, 0, none⟩]⟩,
  ⟨0x108, 64, 32, .pilot, fun i e => [⟨F.gatWinEndLo i e, .cl, 0, none⟩]⟩,
  ⟨0x10C, 64, 32, .pilot, fun i e => [⟨F.gatWinEndHi i e, .cl, 0, none⟩]⟩]

def rowsGat1 : List RegRow := [
  ⟨0x110, 64, 32, .pilot, fun i e => [⟨F.gatWinMaskLo i e, .cl, 0, none⟩]⟩,
  ⟨0x114, 64, 32, .pilot, fun i e => [⟨F.gatWinMaskHi i e, .cl, 0, none⟩]⟩,
  ⟨0x118, 64, 32, .pilot, fun i e => [⟨F.gatWinEn i e, .cl, 0, none⟩,
    ⟨F.gatWinR i e, .cl, 0, none⟩,
    ⟨F.gatWinW i e, .cl, 0, none⟩,
    ⟨F.gatWinA i e, .cl, 0, none⟩,
    ⟨F.gatWinC i e, .cl, 0, none⟩]⟩,
  ⟨0x11C, 64, 32, .pilot, fun i e => [⟨F.gatWinReserved i e, .ro, 0, none⟩]⟩]

/-- The words of one GAT instance. -/
def rowsGat : List RegRow := rowsGat0 ++ rowsGat1

def rowsTal0 : List RegRow := [
  ⟨0x0, 1, 4, .pilot, fun _ _ => [⟨F.talCtlFreeze, .rw, 0, none⟩,
    ⟨F.talCtlSnap, .wo, 0, none⟩,
    ⟨F.talCtlHold, .rw, 0, none⟩,
    ⟨F.talCtlPeriod, .rw, 0, none⟩]⟩,
  ⟨0x4, 1, 4, .pilot, fun _ _ => [⟨F.talStatFront, .rh, 0, none⟩,
    ⟨F.talStatBusy, .rh, 0, none⟩,
    ⟨F.talStatFrozen, .rh, 0, none⟩,
    ⟨F.talStatMissed, .rh, 0, none⟩,
    ⟨F.talStatHistSkipped, .rh, 0, none⟩]⟩,
  ⟨0x8, 1, 4, .pilot, fun _ _ => [⟨F.talSeq, .rh, 0, none⟩]⟩,
  ⟨0x10, 1, 4, .helm, fun _ _ => [⟨F.talBerthpageLo, .rw, 0, none⟩]⟩,
  ⟨0x14, 1, 4, .helm, fun _ _ => [⟨F.talBerthpageHi, .rw, 0, none⟩]⟩]

/-- The words of one TAL instance. -/
def rowsTal : List RegRow := rowsTal0

def rowsCht0 : List RegRow := [
  ⟨0x0, 1, 4, .pilot, fun _ _ => [⟨F.chtCtrlCmd, .wo, 0, none⟩,
    ⟨F.chtCtrlLeaveWait, .rw, 1, none⟩,
    ⟨F.chtCtrlQuiesceWait, .rw, 1, none⟩]⟩,
  ⟨0x4, 1, 4, .pilot, fun _ _ => [⟨F.chtStatusState, .rh, 0, none⟩,
    ⟨F.chtStatusNullChart, .rh, 0, none⟩,
    ⟨F.chtStatusBaseFail, .rh, 0, none⟩,
    ⟨F.chtStatusReplayFail, .rh, 0, none⟩,
    ⟨F.chtStatusActiveSlot, .rh, 0, none⟩]⟩,
  ⟨0x8, 1, 4, .pilot, fun _ _ => [⟨F.chtResultCode, .rh, 0, none⟩,
    ⟨F.chtResultSection, .rh, 0, none⟩,
    ⟨F.chtResultDone, .w1c, 0, none⟩]⟩,
  ⟨0xC, 1, 4, .pilot, fun _ _ => [⟨F.chtErrlocOffset, .rh, 0, none⟩]⟩,
  ⟨0x10, 1, 4, .pilot, fun _ _ => [⟨F.chtGen, .rh, 0, none⟩]⟩,
  ⟨0x14, 1, 4, .pilot, fun _ _ => [⟨F.chtBaseGen, .rh, 0, none⟩]⟩,
  ⟨0x18, 1, 4, .pilot, fun _ _ => [⟨F.chtFloor, .rh, 0, none⟩]⟩,
  ⟨0x1C, 1, 4, .pilot, fun _ _ => [⟨F.chtJournalCount, .rh, 0, none⟩,
    ⟨F.chtJournalLogUsed, .rh, 0, none⟩]⟩,
  ⟨0x20, 1, 4, .pilot, fun _ _ => [⟨F.chtKeyslotProgrammed, .rh, 0, none⟩,
    ⟨F.chtKeyslotRevoked, .rh, 0, none⟩,
    ⟨F.chtKeyslotLastUsed, .rh, 0, none⟩]⟩,
  ⟨0x40, 12, 4, .pilot, fun _ e => [⟨F.chtEffdigest e, .rh, 0, none⟩]⟩]

def rowsCht1 : List RegRow := [
  ⟨0x80, 1, 4, .pilot, fun _ _ => [⟨F.chtLogreadOffset, .rw, 0, none⟩]⟩]

/-- The words of one CHT instance. -/
def rowsCht : List RegRow := rowsCht0 ++ rowsCht1

def rowsCol0 (b : Nat) : List RegRow := [
  ⟨0x600, 1, 4, .pilot, fun _ _ => [⟨F.colColstatMode b, .rh, 0, none⟩,
    ⟨F.colColstatRegenLock b, .rh, 0, none⟩,
    ⟨F.colColstatSelfFault b, .rh, 0, none⟩]⟩,
  ⟨0x604, 1, 4, .pilot, fun _ _ => [⟨F.colFirstSrc b, .rh, 0, none⟩,
    ⟨F.colFirstClass b, .rh, 0, none⟩,
    ⟨F.colFirstOverflow b, .rh, 0, none⟩,
    ⟨F.colFirstValid b, .w1c, 0, none⟩]⟩,
  ⟨0x608, 1, 4, .pilot, fun _ _ => [⟨F.colFirstTime b, .rh, 0, none⟩]⟩,
  ⟨0x60C, 1, 4, .pilot, fun _ _ => [⟨F.colPending b, .rh, 0, none⟩]⟩,
  ⟨0x610, 1, 4, .pilot, fun _ _ => [⟨F.colSsw b, .w1c, 0, none⟩]⟩,
  ⟨0x614, 1, 4, .pilot, fun _ _ => [⟨F.colWiring b, .w1c, 0, none⟩]⟩,
  ⟨0x618, 1, 4, .pilot, fun _ _ => [⟨F.colCountC0 b, .rh, 0, none⟩,
    ⟨F.colCountC1 b, .rh, 0, none⟩,
    ⟨F.colCountC2 b, .rh, 0, none⟩]⟩,
  ⟨0x61C, 1, 4, .helm, fun _ _ => [⟨F.colInjectSrc b, .wo, 0, none⟩,
    ⟨F.colInjectClass b, .wo, 0, none⟩,
    ⟨F.colInjectGo b, .wo, 0, none⟩]⟩]

/-- The words of one collector page (FLT.) instance. -/
def rowsCol (b : Nat) : List RegRow := rowsCol0 b

def rowsEcc0 (b : Nat) : List RegRow := [
  ⟨0x0, 1, 4, .either, fun _ _ => [⟨F.eccStatHbmCe b, .rh, 0, none⟩,
    ⟨F.eccStatHbmUe b, .rh, 0, none⟩,
    ⟨F.eccStatRqFull b, .w1c, 0, none⟩]⟩,
  ⟨0x4, 1, 4, .either, fun _ _ => [⟨F.eccScrubTarget b, .rw, 0, none⟩,
    ⟨F.eccScrubRate b, .rw, 1, some 32⟩,
    ⟨F.eccScrubStart b, .wo, 0, none⟩,
    ⟨F.eccScrubBusy b, .rh, 0, none⟩,
    ⟨F.eccScrubPaused b, .rh, 0, none⟩,
    ⟨F.eccScrubDone b, .w1c, 0, none⟩,
    ⟨F.eccScrubAborted b, .w1c, 0, none⟩,
    ⟨F.eccScrubLeaveRefused b, .w1c, 0, none⟩]⟩,
  ⟨0x8, 1, 4, .either, fun _ _ => [⟨F.eccScrubrangeFirst b, .rw, 0, none⟩]⟩,
  ⟨0xC, 1, 4, .either, fun _ _ => [⟨F.eccScrubrangeLast b, .rw, 0, none⟩]⟩,
  ⟨0x10, 1, 4, .either, fun _ _ => [⟨F.eccScrubsumCe b, .rh, 0, none⟩,
    ⟨F.eccScrubsumUe b, .rh, 0, none⟩,
    ⟨F.eccScrubsumColumn b, .rh, 0, none⟩,
    ⟨F.eccScrubsumCell b, .rh, 0, none⟩,
    ⟨F.eccScrubsumKeysFull b, .rh, 0, none⟩]⟩,
  ⟨0x14, 1, 4, .either, fun _ _ => [⟨F.eccScrubsumFirst b, .rh, 0, none⟩]⟩,
  ⟨0x18, 1, 4, .either, fun _ _ => [⟨F.eccScrubsumLast b, .rh, 0, none⟩]⟩,
  ⟨0x1C, 1, 4, .either, fun _ _ => [⟨F.eccScrubsumColkeyMacro b, .rh, 0, none⟩,
    ⟨F.eccScrubsumColkeyCol b, .rh, 0, none⟩,
    ⟨F.eccScrubsumColkeyRows b, .rh, 0, none⟩]⟩,
  ⟨0x100, 16, 8, .either, fun _ e => [⟨F.eccLogLine b e, .rh, 0, none⟩]⟩,
  ⟨0x104, 16, 8, .either, fun _ e => [⟨F.eccLogSymbol b e, .rh, 0, none⟩,
    ⟨F.eccLogRepeat b e, .rh, 0, none⟩,
    ⟨F.eccLogUncorr b e, .rh, 0, none⟩,
    ⟨F.eccLogCell b e, .rh, 0, none⟩,
    ⟨F.eccLogColumn b e, .rh, 0, none⟩,
    ⟨F.eccLogValid b e, .w1c, 0, none⟩]⟩]

def rowsEcc1 (b : Nat) : List RegRow := [
  ⟨0x200, 16, 8, .pilot, fun _ e => [⟨F.eccRepairqKind b e, .rh, 0, none⟩,
    ⟨F.eccRepairqGroup b e, .rh, 0, none⟩,
    ⟨F.eccRepairqMacro b e, .rh, 0, none⟩,
    ⟨F.eccRepairqIndex b e, .rh, 0, none⟩,
    ⟨F.eccRepairqState b e, .rh, 0, none⟩]⟩,
  ⟨0x204, 16, 8, .pilot, fun _ e => [⟨F.eccRepairqLine b e, .rh, 0, none⟩]⟩,
  ⟨0x1000, 43, 0x100, .either, fun _ e => [⟨F.eccGrpCe b e, .rh, 0, none⟩, ⟨F.eccGrpUe b e, .rh, 0, none⟩]⟩,
  ⟨0x1004, 43, 0x100, .either, fun _ e => [⟨F.eccGrpLost b e, .rh, 0, none⟩]⟩,
  ⟨0x1010, 1376, 8, .either, fun _ e => if e % 32 < 16 then [⟨F.eccGlogMacro b (e / 32) (e % 32), .rh, 0, none⟩,
    ⟨F.eccGlogRow b (e / 32) (e % 32), .rh, 0, none⟩,
    ⟨F.eccGlogWordpos b (e / 32) (e % 32), .rh, 0, none⟩,
    ⟨F.eccGlogBit b (e / 32) (e % 32), .rh, 0, none⟩] else []⟩,
  ⟨0x1014, 1376, 8, .either, fun _ e => if e % 32 < 16 then [⟨F.eccGlogSymbol b (e / 32) (e % 32), .rh, 0, none⟩,
    ⟨F.eccGlogRepeat b (e / 32) (e % 32), .rh, 0, none⟩,
    ⟨F.eccGlogUncorr b (e / 32) (e % 32), .rh, 0, none⟩,
    ⟨F.eccGlogCell b (e / 32) (e % 32), .rh, 0, none⟩,
    ⟨F.eccGlogColumn b (e / 32) (e % 32), .rh, 0, none⟩,
    ⟨F.eccGlogValid b (e / 32) (e % 32), .w1c, 0, none⟩] else []⟩]

/-- The words of one ECC instance. -/
def rowsEcc (b : Nat) : List RegRow := rowsEcc0 b ++ rowsEcc1 b

/-- The `n` performance counters of the instance at address b (R426). -/
def rowsCtr (b n : Nat) : List RegRow := [
  ⟨0x700, n, 16, .pilot, fun _ e => [⟨F.ctrSelEvent b e, .rw, 0, none⟩, ⟨F.ctrSelMode b e, .rw, 0, none⟩, ⟨F.ctrSelSub b e, .rw, 0, none⟩, ⟨F.ctrSelBerth b e, .rw, 0, none⟩, ⟨F.ctrSelBerthEn b e, .rw, 0, none⟩, ⟨F.ctrSelChain b e, .rw, 0, none⟩, ⟨F.ctrSelEn b e, .rw, 0, none⟩, ⟨F.ctrSelClr b e, .wo, 0, none⟩, ⟨F.ctrSelBad b e, .rh, 0, none⟩]⟩,
  ⟨0x704, n, 16, .pilot, fun _ e => [⟨F.ctrThresh b e, .rw, 0, none⟩]⟩,
  ⟨0x708, n, 16, .pilot, fun _ e => [⟨F.ctrValLo b e, .rh, 0, none⟩]⟩,
  ⟨0x70C, n, 16, .pilot, fun _ e => [⟨F.ctrValHiValue b e, .rh, 0, none⟩, ⟨F.ctrValHiOvf b e, .rh, 0, none⟩]⟩]

/-- ECC.FUSECMD, module-wide only (R356). -/
def rowsFuse : List RegRow := [⟨0x40, 1, 4, .helm, fun _ _ => [⟨F.eccFusecmdInstance, .rw, 0, none⟩, ⟨F.eccFusecmdEntry, .rw, 0, none⟩, ⟨F.eccFusecmdBurn, .wo, 0, none⟩, ⟨F.eccFusecmdBusy, .rh, 0, none⟩, ⟨F.eccFusecmdDone, .w1c, 0, none⟩, ⟨F.eccFusecmdFailed, .w1c, 0, none⟩]⟩]

/-- The blocks of the management space (R447): base, instances, stride, the words of an instance, and the counters and
collector page inside it. -/
structure Block where
  base : Nat
  count : Nat
  stride : Nat
  extent : Nat
  rows : Nat → List RegRow

/-- Every block of R447 but the CHT.BUF and TAL.BUF buffers, which are not registers. -/
def blocks : List Block := [
  ⟨0x0, 1, 0x10000, 0x10000, fun _ => rowsMgt⟩,
  ⟨0x10000, 1, 0x1000, 0x1000, fun _ => rowsRst⟩,
  ⟨0x11000, 1, 0x1000, 0x1000, fun _ => rowsAlm⟩,
  ⟨0x12000, 1, 0x1000, 0x1000, fun _ => rowsPwr⟩,
  ⟨0x13000, 1, 0x1000, 0x1000, fun _ => rowsLvc⟩,
  ⟨0x14000, 1, 0x1000, 0x1000, fun _ => rowsFlt⟩,
  ⟨0x18000, 1, 0x4000, 0x4000, fun _ => rowsFuse ++ (rowsEcc 0x18000).filter (fun r => !(decide (0x100 ≤ r.off ∧ r.off < 0x200)))⟩,
  ⟨0x100000, 1, 0x100000, 0x100000, fun _ => rowsCtr 0x100000 32 ++ rowsCol 0x100000 ++ rowsHub⟩,
  ⟨0x200000, 72, 0x100, 0x100, fun _ => rowsDir⟩,
  ⟨0x210000, 72, 0x100, 0x100, fun _ => rowsLds⟩,
  ⟨0x300000, 72, 0x1000, 0x1000, fun i => rowsCtr (0x300000 + 0x1000 * i) 8 ++ rowsHom⟩,
  ⟨0x400000, 8, 0x1000, 0x1000, fun _ => rowsCpe⟩,
  ⟨0x410000, 8, 0x1000, 0x1000, fun _ => rowsSeam⟩,
  ⟨0x500000, 8, 0x4000, 0x4000, fun i => rowsCtr (0x500000 + 0x4000 * i) 8 ++ rowsEcc (0x500000 + 0x4000 * i)⟩,
  ⟨0x600000, 1024, 0x100, 0x100, fun _ => rowsFnl⟩,
  ⟨0x700000, 2048, 0x40, 0x40, fun _ => rowsLan⟩,
  ⟨0x780000, 2048, 0x40, 0x40, fun _ => rowsSxt⟩,
  ⟨0x800000, 128, 0x1000, 0x1000, fun i => rowsCtr (0x800000 + 0x1000 * i) 8 ++ rowsCol (0x800000 + 0x1000 * i) ++ rowsBlk⟩,
  ⟨0x1000000, 8, 0x100000, 0x100000, fun i => rowsCtr (0x1000000 + 0x100000 * i) 16 ++ rowsCol (0x1000000 + 0x100000 * i) ++ rowsRgn⟩,
  ⟨0x2000000, 1024, 0x1000, 0x1000, fun i => rowsCol (0x2000000 + 0x1000 * i) ++ rowsCel⟩,
  ⟨0x2800000, 1098, 0x1000, 0x1000, fun _ => rowsGat⟩,
  ⟨0x3000000, 1, 0x800000, 0x800000, fun _ => rowsTal⟩,
  ⟨0x4000000, 1, 0x4000000, 0x4000000, fun _ => rowsCht⟩]

/-- The row of a list that holds the word at an offset, with the element's number. -/
def findRow (rows : List RegRow) (o : Nat) : Option (RegRow × Nat) :=
  match rows with
  | [] => none
  | r :: rs =>
    if r.off ≤ o ∧ (o - r.off) % r.stride = 0 ∧ (o - r.off) / r.stride < r.count then some (r, (o - r.off) / r.stride)
    else findRow rs o

/-- A word of the register map: its block's instance, its writer and its fields. -/
structure WordAt where
  inst : Nat
  writer : Writer
  fields : List FieldDesc

/-- The block an address lies in, among the blocks of a list. -/
def findBlock (bs : List Block) (a : Nat) : Option (Block × Nat × Nat) :=
  match bs with
  | [] => none
  | b :: r =>
    if b.base ≤ a ∧ a < b.base + b.stride * (b.count - 1) + b.extent then
      some (b, (a - b.base) / b.stride, (a - b.base) % b.stride)
    else findBlock r a

/-- The register word at an address of the management space, none for an unmapped word (R448). -/
def wordAt (a : Nat) : Option WordAt :=
  if a % 4 ≠ 0 then none else
  match findBlock blocks a with
  | none => none
  | some (b, i, o) =>
    match findRow (b.rows i) o with
    | none => none
    | some (r, e) =>
      match r.fields i e with
      | [] => none
      | fs => some ⟨i, r.writer, fs⟩

end Sys2Proof.Machine
end

