-- ==== Sys2Proof/Machine/State.lean ====
section
/-! DEFINITION. The state of the block (INVENTORY.md, State), its faults and refusals, and the state after reset. Every field of
every register is held once, in `regs`, under its place in the management space (Machine/RegMap.lean); registers that only
show other state (a shown attention code, a slip's remaining time, a chart table's content) are computed from that state where
they are read (Machine/View.lean); what no register shows stands in the units below. -/
namespace Sys2Proof.Machine

/-- Who speaks in a session (R2, R435, R436). -/
inductive Principal where
  | helm
  | pilot (n : Nat)
  | berth (k : Nat)
  | unclaimed
  deriving DecidableEq, Repr

/-- The path a session runs on (R428): I3C, Ethernet, in-band through the USP pleat led by a cell, or the mailbox of a virtual
switch. -/
inductive Path where
  | i3c
  | ethernet
  | inband (p : Nat)
  | mailbox (v : Nat)
  deriving DecidableEq, Repr

/-- An open session (R434, R437): its principal and path, the digest of its key, its SPDM session ID, and when its last
message came. -/
structure SessionRec where
  who : Principal
  path : Path
  key : List Nat
  id : Nat
  last : Nat
  deriving DecidableEq, Repr

/-- The CCI return codes that R440 and R75 use. -/
inductive Cci where
  | success | backgroundStarted | busy | invalidInput | unsupported | invalidSecurity | retryRequired | internalError
  deriving DecidableEq, Repr

/-- A background command (R438): the session that started it (its number in State.sessions) and whether that session is still the one open there, its
principal, its opcode and what it works on, whether it still runs, and the return code, status and detail its completion carries. -/
structure BgRec where
  sess : Nat
  live : Bool
  target : Nat
  who : Principal
  opcode : Nat
  running : Bool
  code : Cci
  status : Nat
  detail : Nat
  deriving DecidableEq, Repr

/-- A fuse burn of a vendor command (R441): KEY_PROGRAM, KEY_REVOKE, PINFUSE_SET, HELM_CLAIM (the claiming key's digest and the chart
key's) and HELM_ROTATE (the new slot and its key, the slot it revokes). -/
inductive BurnWhat where
  | keyProgram (slot : Nat) (digest : List Nat)
  | keyRevoke (slot : Nat)
  | pinFuse (pin : Nat)
  | helmClaim (identity chartKey : List Nat)
  | helmRotate (slot : Nat) (digest : List Nat) (old : Nat)
  deriving DecidableEq, Repr

/-- A burn under way: the session that asked (its number) and whether that session is still open. -/
structure BurnJob where
  sess : Nat
  live : Bool
  what : BurnWhat
  deriving DecidableEq, Repr

/-- A berth mailbox (R445, R446): its status, since when a request is pending, the lengths, and the buffers as words by offset (a word
nothing has written reads 0). -/
structure Mailbox where
  busy : Bool
  ready : Bool
  error : Bool
  goAt : Nat
  reqLen : Nat
  rspLen : Nat
  req : SMap Nat
  rsp : SMap Nat
  deriving DecidableEq, Repr

/-- The management endpoints (R428 to R446): fuse burns under way, oldest first; response limits that differ from 4,104 B, by session;
messages not yet whole, by path × 16 + tag, as type and bytes; the second in which datagrams are counted, and how many came in it; the
mailboxes by virtual switch; BAR0 of each virtual switch's management function as its host has set it (R68). -/
structure MgtUnit where
  burns : List BurnJob
  limits : SMap Nat
  asm : SMap (Nat × List Nat)
  ethSecond : Nat
  ethCount : Nat
  mail : SMap Mailbox
  bars : SMap Nat
  deriving DecidableEq, Repr

/-- An SPDM answer (R433 to R437). -/
inductive SpdmReply where
  | busy
  | error
  | opened (id : Nat)
  | heartbeatAck
  | ended
  | measurements (blocks : List (Nat × Nat × List Nat))
  deriving DecidableEq, Repr

/-- A leave slip in force (R377): its kind, what it is for, owner as LVC.SLIP.OWNER, target as LVC.SLIP.TARGET, power in mW,
duration in µs, times in ps, and the current, HBM and bolt shares it is charged (R378). -/
structure Slip where
  kind : Nat
  purpose : Purpose
  owner : Nat
  target : Nat
  power : Nat
  dur : Nat
  grant : Nat
  expiry : Nat
  extended : Bool
  rails : SMap Nat
  hbm : SMap Nat
  bolt : SMap Nat
  deriving DecidableEq, Repr

/-- A request for leave (R377, R378): as the slip it asks for, with its plane, when it arrived, when it was first deferred. -/
structure LeaveReq where
  kind : Nat
  purpose : Purpose
  owner : Nat
  target : Nat
  power : Nat
  dur : Nat
  rails : SMap Nat
  hbm : SMap Nat
  bolt : SMap Nat
  arrived : Nat
  deriving DecidableEq, Repr

/-- The Leave Controller (R378): 32 slips, the Almanac save's own slip, and at most 32 deferred requests, in order of
arrival. -/
structure LeaveUnit where
  slips : SMap Slip
  saveSlip : Option Slip
  queue : List LeaveReq
  deriving DecidableEq, Repr

/-- The collectors' state that no register shows: the mode of each input (R318; unlisted inputs are in STARTUP), C2 reactions
waiting for their sequencer (R315), when the safe state was entered, whether this C0 window has raised CORRECTED and when it
began (R328), collectors whose comparison still reports a self-fault (R325), a failed start-up check that holds the module in
reset (R319), since when each masked line has read quiet (R317). -/
structure FaultUnit where
  modes : SMap Nat
  reactions : List (Nat × Nat)
  safeAt : Nat
  c0Raised : Bool
  c0Start : Nat
  selfLive : List Nat
  holdReset : Bool
  quiet : SMap Nat
  deriving DecidableEq, Repr

/-- The reference monitor and selector (R20 to R24, R313): since when each reference has stayed in the band, when holdover
began, whether a reference has been taken since reset, when the power-stage good signal came, when a reference was last taken, the
reference in use and the count of switch-overs as holdover began, when the selector last switched over. -/
structure ClockUnit where
  aSince : Option Nat
  bSince : Option Nat
  holdStart : Nat
  taken : Bool
  psGood : Nat
  takenAt : Nat
  heldSel : Nat
  heldSwitches : Nat
  switchedAt : Option Nat
  deriving DecidableEq, Repr

/-- One feed's timers (R359 to R363): since when it is in its state, and whether it has qualified and waits to start (R360). -/
structure FeedTimer where
  since : Nat
  qualified : Bool
  deriving DecidableEq, Repr

/-- The power stage behind its registers: the feeds' timers, when both ORing FETs last stopped conducting, when ride-through
began, the input-power samples of the last 10 ms (time, W), the progress of a shed (R369: 0 none, 1 admission stopped, 2 planes
off, 4 standby after its save), when an Almanac save began and for which event (R395), the regions that wait for a power-up slip and
those that power up under one (R404); the power-state entry or exit that runs (R388, R389: 0 none, 1 to P0, 2 to P2, 3 to P3), the
reset that waits for a save (R406, as RST.CAUSE.SOURCE) and the wake that waits for a P3 entry (as WAKE_SRC), when the watchdog was
last kicked (R400), when the first feed reached power-good or RESET_L rose (READY_MS), the registers copied as a save began (R394), and the
regions in an MCTP region reset (R401). -/
structure PowerUnit where
  feedA : FeedTimer
  feedB : FeedTimer
  oringOff : Nat
  rideStart : Nat
  samples : List (Nat × Nat)
  shedPhase : Nat
  saveStart : Option Nat
  saveEvent : Nat
  powerWait : List Nat
  powering : List Nat
  entry : Nat
  laterReset : Nat
  laterWake : Nat
  kicked : Nat
  goodAt : Nat
  saveRegs : List (Nat × Nat)
  regionReset : List Nat
  deriving DecidableEq, Repr

/-- Thermal timers (R461 to R463): whether THERMAL is armed for a new rise, since when T_MAX has stayed below 97 °C, the last
valid sample of each sensor, and the dies taken as 100 °C. -/
structure ThermalUnit where
  armed : Bool
  coolSince : Option Nat
  lastValid : SMap Nat
  blind : List Nat
  deriving DecidableEq, Repr

/-- A scrub in progress (R344 to R347): whether leave has been granted and reading has begun, the next word or line, the last
one, the column keys with the rows each has seen, and where its leave wait began. -/
structure ScrubJob where
  granted : Bool
  begun : Bool
  target : Nat
  next : Nat
  last : Nat
  keys : List (Nat × List Nat)
  asked : Nat
  deriving DecidableEq, Repr

/-- The stored-data units: the scrubs in progress by unit (0–7 a region, 8 the Rose); each logbook's entries, oldest first, by 64 × unit +
macro group (63: the HBM logbook) (R342); the repair being burnt: its unit, queue entry and identity (R350); bolt rows taken out of
service (R351), by identity. -/
structure EccUnit where
  scrubs : SMap ScrubJob
  order : SMap (List Nat)
  burning : Option (Nat × Nat × Nat)
  rowsOut : List Nat
  deriving DecidableEq, Repr

/-- The base address of an ECC unit's registers (R447): region g, or the module-wide unit of the Rose. -/
def eccBase (u : Nat) : Nat := if u < 8 then 0x500000 + 0x4000 * u else 0x18000

/-- What the sender of a message sees when the module answers in its target's place (R77, R84, R295). -/
inductive Answer where
  | unsupportedRequest
  | nothing
  | poisonedData
  | normalCompletion
  | goErr
  | fnlStatus (st : Nat)
  deriving DecidableEq, Repr

/-- A counter of the Tally's tree (R412 to R415): its selection, threshold, 48-bit value and OVF. -/
structure Ctr where
  event : Nat
  mode : Nat
  sub : Nat
  berth : Nat
  berthEn : Bool
  chain : Bool
  en : Bool
  thresh : Nat
  val : Nat
  ovf : Bool
  deriving DecidableEq, Repr

/-- A buffer of the Tally (R418, R420): the snapshot's number, when it was taken in µs since reset, whether the counters stood frozen, every
counter at that cycle, the histogram bins by field, and the locations whose counters read unpowered (regions 0–7, blocks 8–135). -/
structure TallyBuf where
  seq : Nat
  time : Nat
  frozen : Bool
  ctrs : SMap Ctr
  bins : SMap Nat
  unpowered : List Nat
  deriving DecidableEq, Repr

/-- The Tally (R417 to R425): the two buffers; the snapshot in progress, with when it was triggered and whether by the period; whether
a complete snapshot waits for HOLD; when the period last triggered; the outputs that each berth's page shows, taken at the last flip. -/
structure TallyUnit where
  buf0 : TallyBuf
  buf1 : TallyBuf
  latch : Option TallyBuf
  trigger : Nat
  byPeriod : Bool
  waiting : Bool
  periodAt : Nat
  outputs : SMap (List Nat)
  deriving DecidableEq, Repr

/-- A message held in the module: its tag, the lead cell it came in at, its kind and flow-control class, the lead cell it leaves
at, the binding point and tack it carries (R77), class, berth and colour (R127, R128, R143; no berth: the ANY berth), payload and
header bytes, the address, access kind and length of a request (R240) and what a coherent request carries, whether its staging charge stands in the shared area (R98), when it arrived; and once admitted (R105): its queue's
class, the hem entries it is charged to with the segments charged to them and to the pool, its forwarding mode, when it was
admitted, the segments in bolt memory and the segments sent; the lines of it that a gate has denied (R242); in staging, whether it has
been admitted and how many of its segments have left (R101); whether it is completed with poisoned filler (R112); the segments charged to
hem entries that an amendment has removed since (R106). -/
structure Msg where
  id : Nat
  src : Nat
  kind : MsgKind
  fc : FcClass
  out : Nat
  point : Nat
  tack : Nat
  cls : Nat
  berth : Option Nat
  colour : Nat
  bytes : Nat
  header : Nat
  addr : Nat
  access : Nat
  len : Nat
  coh : Option CohReq
  denied : List Nat
  shared : Bool
  arrived : Nat
  qcls : Nat
  own : Option Nat
  any : Option Nat
  tb : Nat
  ta : Nat
  pool : Nat
  cut : Bool
  admitted : Nat
  inBolt : Nat
  sent : Nat
  granted : Bool
  left : Nat
  filled : Bool
  orphan : Nat
  deriving DecidableEq, Repr

/-- A non-posted request delivered to a partner whose response has not come (R77, R80): its tag, kind, binding point, tack, class,
berth, the lead cell it came from, when it was delivered, and the lines of it that a gate denied (R243). -/
structure ReqRecord where
  id : Nat
  kind : MsgKind
  point : Nat
  tack : Nat
  cls : Nat
  berth : Option Nat
  src : Nat
  since : Nat
  denied : List Nat
  deriving DecidableEq, Repr

/-- A shaper (R139): its debt in 1/256 B, when it last accrued, and the wheel slot it is parked on. -/
structure Shaper where
  debt : Int
  last : Nat
  slot : Option Nat
  deriving DecidableEq, Repr

/-- A policer's buckets (R143), in units of a byte over 8,000,000, and when they were last filled. -/
structure Policer where
  tc : Nat
  tx : Nat
  last : Nat
  deriving DecidableEq, Repr

/-- The bulk arbiter of an output (R131): the class whose turn it is, whether its quantum has been added, the deficits of
TC0–TC4 in 1/256 B. -/
structure Dwrr where
  turn : Nat
  begun : Bool
  deficits : SMap Nat
  deriving DecidableEq, Repr

/-- A cell arbiter within one class (R135): the balances of its inputs by berth (64: no berth) and the input last granted. -/
structure Arb where
  acc : SMap Int
  last : Nat
  deriving DecidableEq, Repr

/-- The switch core (R95 to R157): messages in staging and in bolt memory, oldest first; delivered requests; the message each
output is sending; gaps that stand open, by output, since when; demoted input cells and classes by region × 8,192 + 8 × cell + class,
until when; shapers by 16 × lead cell + shaper; policers by 64 × lead cell + berth; bulk arbiters by output; cell arbiters and
weights by 8 × output + class (the weights by berth behind it: × 65 + berth); the factors of the framing pleats last trained
with (R137); since when the data plane runs; messages that hold a poisoned segment, by the lead cell they came in at and tag (R343); the
arbiters of blocks, regions, outbound seams and the Rose (R11, R135) by number; the place of every segment in bolt memory (R107): its
segment of the region, output lead cell, tag and index; the banks read last, by 256 × region + bank, with when; how many places have been
chosen; the apply point from which an output's class is disabled (R129), by 8 × output + class; admission requests of the present CK_CORE cycle (R102): the cycle, the head's pleat,
class and egress region, and whether it has been decided in another's slot, or still waits for one. -/
structure CoreUnit where
  staged : List Msg
  bolt : List Msg
  records : List ReqRecord
  sending : SMap Nat
  gaps : SMap Nat
  demoted : SMap Nat
  shapers : SMap Shaper
  policers : SMap Policer
  dwrr : SMap Dwrr
  arbs : SMap Arb
  weights : SMap Nat
  framing : SMap (Nat × Nat)
  since : Nat
  spoiled : List (Nat × Nat)
  slots : SMap Arb
  places : List (Nat × Nat × Nat × Nat)
  reads : SMap Nat
  draws : Nat
  disabledAt : SMap Nat
  turns : List (Nat × Nat × FcClass × Nat × Bool)
  deriving DecidableEq, Repr

/-- A step of a lane that waits for a window or gap (R252, R260): its kind (0 CTLE range, 1 VGA range, 2 re-centring), the setting it
moves to, and since when it waits. -/
structure LaneStep where
  kind : Nat
  to_ : Nat
  since : Nat
  deriving DecidableEq, Repr

/-- A range change on trial (R265, R266): its kind, the ranges it moves between, when its first trial and its present one began,
whether it has been deferred, and whether a trial runs now. -/
structure LaneTrial where
  kind : Nat
  from_ : Nat
  to_ : Nat
  first : Nat
  start : Nat
  deferred : Bool
  running : Bool
  deriving DecidableEq, Repr

/-- A lane's calibration (R254 to R268): the failing probe points (eye × 64 + direction × 16 + k − 1), the next point of the pass, the
pending step and the trial, whether CALIBRATION is armed, whether a reading of this tick reached LOW, since when the FOM has been
at or above TARGET, and when its preset record was last written. -/
structure LaneRec where
  failing : List Nat
  next : Nat
  step : Option LaneStep
  trial : Option LaneTrial
  armed : Bool
  reached : Bool
  goodSince : Option Nat
  wrote : Option Nat
  deriving DecidableEq, Repr

/-- The lanes (R250 to R274): calibration by lane (2p + l); pleats in a quiet window and until when, as senders and as receivers;
quiet budgets in 1 / 1,000,000 ps and when they last accrued; how many codewords or flits to come are suspect; and the bulk
sweep: whether it has leave, and the lanes still sweeping. -/
structure LaneUnit where
  lanes : SMap LaneRec
  windows : SMap Nat
  asked : SMap Nat
  budgets : SMap (Nat × Nat)
  suspect : SMap Nat
  sweepOn : Bool
  sweeping : List Nat
  deriving DecidableEq, Repr

/-- A sequenced codeword in the replay buffer (R280, R287): its number, when it was last sent, the tag and segment of the message it
carries, the colour its header carries (R143), whether its slots are poisoned (R112). -/
structure SentCw where
  seq : Nat
  sentAt : Nat
  msg : Nat
  seg : Nat
  colour : Nat
  poison : Bool
  deriving DecidableEq, Repr

/-- An FNL pleat's link layer (R285 to R292): the replay buffer, oldest first; how often its oldest codeword has been replayed;
whether a NAK is outstanding and since when; runs of consecutive bad codewords (for CREDIT_SYNC and for lost lock); credits held
by virtual channel, the last CREDIT counters received and the totals of credits returned and of credits given out; when
CREDIT_SYNC was last sent; the data slots still to come of an open message; the training phase it is in (R290), the rate tried, the
lanes good here, the width agreed in lanes and from which end; whether it retires; whether a header lost from its replay buffer keeps it
from resuming (R343); and what the partner's training blocks said. -/
structure FnlLink where
  buffer : List SentCw
  oldReplays : Nat
  nakOut : Bool
  nakAt : Nat
  badRun : Nat
  lockRun : Nat
  credits : List Nat
  lastCredit : List Nat
  returned : List Nat
  given : List Nat
  csyncAt : Option Nat
  openData : Nat
  stage : Nat
  rate : Nat
  good : Nat
  width : Nat
  high : Bool
  retiring : Bool
  noResume : Bool
  peerPhase : Nat
  peerZalhel : Bool
  peerRates : Nat
  peerGood : Nat
  peerRx : Nat
  peerResume : Bool
  peerCredits : List Nat
  deriving DecidableEq, Repr

/-- The links of all pleats, by lead cell (R294 to R301): when counted link-downs happened, when a grace period and a full reset began,
when the current watch began, the lanes of the trained link, the FNL link layers, how often a CXL link has replayed in a row,
pleats whose host has powered the slot off (R76), whose partner FM Physical Port Control holds in PERST (R72); whether every link is held in reset
(quiesced, R45), and whether every link is disabled (the safe state, R323). -/
structure LinkUnit where
  downs : SMap (List Nat)
  graceAt : SMap Nat
  resetAt : SMap Nat
  watchAt : SMap Nat
  lanes : SMap (List Nat)
  fnl : SMap FnlLink
  retries : SMap Nat
  slotOff : List Nat
  fmPerst : List Nat
  held : Bool
  disabled : Bool
  deriving DecidableEq, Repr

/-- A directory entry in use (R168): the slice and way that hold it, its state (0 I, 1 S, 2 O, 3 M, 4 E), sharers as a mask, owner,
poison, index in the owned-line store, age, the stored value of an O line, and when it entered O. -/
structure DirEntry where
  home : Nat
  way : Nat
  st : Nat
  sharers : Nat
  owner : Nat
  poison : Bool
  store : Nat
  age : Nat
  value : Nat
  since : Nat
  deriving DecidableEq, Repr

/-- What a transaction does at its line: a request, a write-behind (R177), a window flush (R197), a dead-agent sweep (R188). -/
inductive Job where
  | req (op : CohOp)
  | writeBehind
  | flush
  | sweep
  deriving DecidableEq, Repr

/-- Where a transaction stands. -/
inductive Stage where
  | queued | start | evict | evictWrite | unknown | unknownWrite | proto | protoWrite | replay | snoop | read | write
  deriving DecidableEq, Repr

/-- A transaction in a home slice's tracker (R164): its number, slice and line; what it does; the lead cell it came from (1,024 + g: the
copy engine of region g), its tag, its agent index, whether it came over FNL, its berth, payload and mask; whether it carries REPLAY; its
stage; snoops not sent yet for want of budget (R166); data a snoop returned and how the holder went down (1 to S, 2 to I); the line
being evicted for it; whether its protocol error and its replay have been dealt with; memory's value with its poison; the
status a failed pool access gave; the way of its set it holds for an entry to come (R170); whether a snoop of it ended without an
answer (R185) and its line has still to be poisoned; and the value it has sent to the pool. -/
structure Txn where
  id : Nat
  home : Nat
  line : Nat
  job : Job
  cell : Nat
  tag : Nat
  agent : Option Nat
  fnl : Bool
  berth : Option Nat
  data : Nat
  mask : Nat
  replay : Bool
  stage : Stage
  todo : List (Nat × SnpOp)
  got : Option Nat
  down : Nat
  victim : Nat
  proto : Bool
  replayed : Bool
  value : Option (Nat × Bool)
  status : Nat
  way : Option Nat
  lost : Bool
  due : Bool
  wrote : Option (Nat × Bool)
  deriving DecidableEq, Repr

/-- A snoop that is out (R166, R185, R195): its transaction, the agents that have yet to answer, when each agent's timer began (R186), the
tack of each agent's binding point it carries (R77); a broadcast counts as one. -/
structure Snoop where
  txn : Nat
  home : Nat
  line : Nat
  agents : List Nat
  op : SnpOp
  berth : Option Nat
  sent : SMap Nat
  tacks : SMap Nat
  deriving DecidableEq, Repr

/-- A shadow (R189, R190): the coherent request as it was admitted, its slot, the binding point and tack it was sent under, the region that holds its payload, the payload's first bolt segment (3,072 × bank + place, R107) and
whether it holds one, how often it has been re-issued, and whether its slot has moved since. -/
structure Shadow where
  cell : Nat
  tag : Nat
  op : CohOp
  line : Nat
  slot : Nat
  point : Nat
  tack : Nat
  agent : Option Nat
  fnl : Bool
  berth : Option Nat
  data : Nat
  mask : Nat
  region : Nat
  seg : Nat
  payload : Bool
  count : Nat
  moved : Bool
  deriving DecidableEq, Repr

/-- A failover that runs (R192): its moved slots, the berths whose requests were re-issued, whether it is a stack loss. -/
structure Failover where
  slots : List Nat
  berths : List Nat
  stack : Bool
  deriving DecidableEq, Repr

/-- The homes (R160 to R201, R473): directory entries by line; owned filters by chart slice × 2^20 + index (R180); the memory-side caches
(R181) and the lines the on-die directory caches hold; transactions, oldest first in each line's queue; snoops; shadows, oldest
first; lines looked up in unknown mode (R195) and the windows flushed since each slot entered it; the window flush, with the lines it has still to take; dead agents to
be swept; the failover that runs and those that wait (a slice, or 72 + g a stack); snoops passed on to this module's hosts (FNL pleat, tag,
USP, line); BIConflicts not yet answered (USP, tag, line); replies to the copy engines (engine, tag, data, poison); regions whose stack is lost; berths over their tracker and snoop
quotas (64 × slice + berth, R115); copy-engine requests that wait for admission (R164); the lines a dead-agent sweep has still to visit;
the slices at which home-originated work has still to restart (R473); and how often a cache has displaced a line. -/
structure HomeUnit where
  dir : SMap DirEntry
  filter : SMap Nat
  cache : SMap (Nat × Bool)
  dcache : SMap Nat
  txns : List Txn
  snoops : List Snoop
  shadows : List Shadow
  known : SMap Nat
  flushedWins : SMap (List Nat)
  flushOn : Bool
  flushWin : Option Nat
  flushTodo : List Nat
  sweeps : List Nat
  failover : Option Failover
  waiting : List Nat
  forwarded : List (Nat × Nat × Nat × Nat)
  conflicts : List (Nat × Nat × Nat)
  engine : List (Nat × Nat × Nat × Bool)
  lostStacks : List Nat
  overTrk : List Nat
  overSnp : List Nat
  next : Nat
  engineWait : List Shadow
  sweepTodo : List Nat
  restarts : List Nat
  draws : Nat
  deriving DecidableEq, Repr

/-- Replies of a home (R184). -/
inductive HomeReply where
  | grantS | grantE | grantM | done | retry
  deriving DecidableEq, Repr

/-- A live Lodestar object (R206): its type (0 VALUE, 1 LOCK, 2 BARRIER), eight words, the channel that holds it exclusively, how many
hold it shared, the barrier's parties and generation, the berth it counts against, and whether its stack is lost. -/
structure LObj where
  type : Nat
  words : List Nat
  holder : Option Nat
  shared : Nat
  parties : Nat
  gen : Nat
  berth : Nat
  lost : Bool
  deriving DecidableEq, Repr

/-- A Lodestar command (R209) on its way to its object: the channel and slot it was written to, its fields, the berth it is charged to,
and whether a freeze holds it (R220). -/
structure LCmd where
  chan : Nat
  slot : Nat
  opc : Nat
  flags : Nat
  ticket : Nat
  obj : Nat
  word : Nat
  a : Nat
  b : Nat
  timeout : Nat
  group : Nat
  berth : Nat
  held : Bool
  deriving DecidableEq, Repr

/-- A parked command (R212, R214, R219): since when, its limit in µs, the slice it is parked at, the group it is parked on, and
whether it is frozen. -/
structure Parked where
  cmd : LCmd
  since : Nat
  limit : Nat
  slice : Nat
  group : Option Nat
  frozen : Bool
  deriving DecidableEq, Repr

/-- A result or completion record (R210): STATE, OVERRUN, FLAG, reply status, detail, OPC, ticket, VALUE, AUX, ELAPSED. -/
structure LRec where
  state : Nat
  overrun : Bool
  flag : Bool
  status : Nat
  detail : Nat
  opc : Nat
  ticket : Nat
  value : Nat
  aux : Nat
  elapsed : Nat
  deriving DecidableEq, Repr

/-- A wait group (R218, R220): its members, its interval in µs, since when it is all-waiting, the commands frozen for it (channel × 64 +
slot), the berth that made it, and whether its record is lost. -/
structure Grp where
  members : List Nat
  interval : Nat
  since : Option Nat
  frozen : List Nat
  freezing : Bool
  berth : Nat
  lost : Bool
  deriving DecidableEq, Repr

/-- Lodestar (R202 to R225): objects, commands in flight in order of arrival, parked commands in order of parking, result records by
channel × 64 + slot, slots whose records are lost (R222), results on their way to their records, groups. -/
structure LodUnit where
  objects : SMap LObj
  pend : List LCmd
  parked : List Parked
  records : SMap LRec
  lostSlots : List Nat
  results : List (Nat × LRec)
  groups : SMap Grp
  deriving DecidableEq, Repr

/-- A copy-engine job (R226 to R231): its engine and number, channel (256: the management job) and slot, fields, whether it runs, the next
line, the accesses to shared lines it waits for (line × 16 + phase), lines done, the first denied or failing address, whether a
part was denied, a line failed or failed to verify, when it began to run, and the lines SANITIZE may not read back. -/
structure CopyJob where
  g : Nat
  id : Nat
  chan : Nat
  slot : Nat
  ticket : Nat
  opc : Nat
  fence : Bool
  lines : Nat
  src : Nat
  dst : Nat
  berth : Nat
  running : Bool
  next : Nat
  waits : List Nat
  done : Nat
  bad : Option Nat
  denied : Bool
  failed : Bool
  verify : Bool
  since : Nat
  blind : List Nat
  deriving DecidableEq, Repr

/-- The copy engines (R225 to R231): jobs, those that run in the order of their turns before those queued in order of acceptance;
completion records by channel × 64 + slot; when each engine that waits for its first grant asked; engines out of service; berths over
their share (64 × engine + berth, R115). -/
structure CopyUnit where
  jobs : List CopyJob
  records : SMap LRec
  asked : SMap Nat
  failed : List Nat
  overShare : List Nat
  next : Nat
  deriving DecidableEq, Repr

/-- A segment's slot on a seam: its message (output lead cell and tag) and index within it (R302). -/
structure SegSlot where
  out : Nat
  id : Nat
  idx : Nat
  deriving DecidableEq, Repr

/-- A slot discarded for a parity error (R304): the segment, the seam and SPAREMAP entry of the hop that found it, its bits. -/
structure BadSlot where
  seg : SegSlot
  seam : Nat
  entry : Nat
  data : Nat
  deriving DecidableEq, Repr

/-- The seams (R302 to R308): discarded slots; segments in the reorder buffers (R16); the retry rings by region and plane, with when each
slot was sent; wire errors by seam × 16,384 + entry × 64 + wire, as the times of the last; plane resets that wait (2 × region +
plane); regions out of service; regions that have lost one copy of their sash (R101). -/
structure SeamUnit where
  bad : List BadSlot
  reorder : List SegSlot
  rings : List (Nat × Nat × SegSlot)
  errors : SMap (List Nat)
  waiting : List Nat
  out : List Nat
  sash : List Nat
  deriving DecidableEq, Repr

/-- A chart's tables (R37, R471): the content words of every entry that differs from what R470 gives an unlisted index, keyed by
section type, entry kind and index (type × 2^28 + kind × 2^24 + index). The null chart (R55) is the empty table. -/
abbrev Chart := SMap (List Nat)

/-- An entry of the amendment journal (R51). -/
structure JournalEntry where
  gen : Nat
  loc : Nat
  len : Nat
  digest : List Nat
  change : Nat
  deriving DecidableEq, Repr

/-- The kind of a chart operation in progress (R45, R46, R48, R53). -/
inductive ChartKind where
  | load | amend | rebase | quiesce
  deriving DecidableEq, Repr

/-- A chart operation in progress: its kind, generation, the configuration it would bring into force, the image as submitted, the
pleat it arrived through when it came in-band, the session that asked, the cells it resets, the gates it changes, its journal CHANGE byte, and when it began
to wait for leave. -/
structure ChartOp where
  kind : ChartKind
  gen : Nat
  next : Chart
  image : List Nat
  via : Option Nat
  asker : Option Nat
  resets : List Nat
  gates : List Nat
  change : Nat
  keySlot : Nat
  waitFrom : Nat
  deriving DecidableEq, Repr

/-- The chart unit: the operation in progress, the gates in transition with the windows they had before (R48 step 4), where
the amendment log is read within its 64 B unit (R58), when a quiesce began, whether the
data plane is quiesced under an operation, and the bytes of CHT.BUF (one never written reads 0). -/
structure ChartUnit where
  op : Option ChartOp
  oldGates : Chart
  inTransition : List Nat
  logByte : Nat
  quiesceStart : Nat
  quiesced : Bool
  buf : SMap Nat
  deriving DecidableEq, Repr

/-- The kept state of the feeds, chart, keys, Almanac and flash, which no reset clears (R39, R42, R51, R393, R435), and the attention
fuses burnt of quarters 64 to 255 (R403). Chart images, the amendment log and retained words are bytes and words in order; digests are 48 bytes. -/
structure NonVolatile where
  activeSlot : Nat
  slot0 : List Nat
  slot1 : List Nat
  gen : Nat
  baseGen : Nat
  floor : Nat
  journal : List JournalEntry
  log : List Nat
  chartKeys : SMap (List Nat)
  helmKeys : SMap (List Nat)
  pilotKeys : SMap (List Nat)
  berthKeys : SMap (List Nat)
  attached : Nat
  image0 : List (Nat × Nat)
  image0Seq : Nat
  image0Event : Nat
  image1 : List (Nat × Nat)
  image1Seq : Nat
  image1Event : Nat
  retain : SMap Nat
  presets : SMap (List Nat)
  linkRetired : List Nat
  feedRetired : List Nat
  softRepairs : SMap (List Nat)
  padLatch : SMap Nat
  fuseMap : SMap Nat
  attnFuses : List Nat
  deriving DecidableEq, Repr

/-- A bind or unbind in progress (R73, R74): whether it binds, its binding point, virtual switch and vPPB, the session that asked and its
opcode, the unbind option, since when it waits, and whether it waits for the option (else for its tack to advance). -/
structure BindWork where
  bind : Bool
  point : Nat
  vcs : Nat
  vppb : Nat
  sess : Nat
  opcode : Nat
  option : Nat
  since : Nat
  waiting : Bool
  deriving DecidableEq, Repr

/-- A command that waits for its turn (R49, R86): a bind or unbind with its session and principal, or a chart operation with the pleat it came
through and the session that asked. -/
inductive Waiting where
  | bind (src : Sess) (who : Principal) (opcode v i : Nat) (lead : Option Nat) (ld : Nat)
  | unbindVppb (src : Sess) (who : Principal) (v i option : Nat)
  | unbindPleat (src : Sess) (who : Principal) (p ld option : Nat)
  | chart (kind : ChartKind) (via asker : Option Nat)
  deriving DecidableEq, Repr

/-- The session whose command waits, none for a chart operation. -/
def Waiting.session : Waiting → Option Sess
  | .bind src .. | .unbindVppb src .. | .unbindPleat src .. => some src
  | .chart .. => none

/-- What a vPPB's slot shows its host (R73, R76): presence, an active data link layer, and the events its host has not cleared: attention
button pressed, presence detect changed, data link layer state changed. -/
structure Slot where
  present : Bool
  active : Bool
  button : Bool
  presenceChg : Bool
  activeChg : Bool
  deriving DecidableEq, Repr

/-- Binding (R67 to R86): the FM command in progress; when each draining tack of a binding point stopped being current, oldest first;
vPPB slots powered off and lit attention indicators (256 × virtual switch + vPPB); Power Controller writes that wait for a bind
(R86); quarters in which a cable end is seated; retired pleats whose presence fell since (R300); surprise removals that wait for the
command in progress (R86); the port IDs each FNL neighbour advertises (R71); commands that wait for their turn, oldest first (R86); what
each vPPB's slot shows (256 × virtual switch + vPPB); quarters whose presence input is low now (R91), and those whose PERST_L the host
holds low (R85); advances that a binding point owes beside the one that stalls (R78). -/
structure BindUnit where
  work : Option BindWork
  drains : SMap (List Nat)
  slotsOff : List Nat
  attnOn : List Nat
  powerLater : List (Nat × Bool)
  quarters : List Nat
  fell : List Nat
  removals : List Nat
  advs : SMap (List Nat)
  waits : List Waiting
  slots : SMap Slot
  raw : List Nat
  lows : List Nat
  owed : SMap Nat
  deriving DecidableEq, Repr

/-- What leaves the block, in the order it left. -/
inductive Emit where
  /-- A CCI response in a session: return code, status word fields of R439, payload. -/
  | response (dst : Sess) (code : Cci) (status attn detail : Nat) (data : List Nat)
  /-- A regulator request sent once more (R373). -/
  | avsResend (rail : Nat)
  /-- What the sender of a request sees when the module answers it itself (R77, R84, R472): the pleat it came in at, its tag, the
  answer. -/
  | answer (pleat id : Nat) (what : Answer)
  /-- Staging credits return to an FNL partner (R98): the flow-control class and how many segments. -/
  | credits (pleat : Nat) (fc : FcClass) (n : Nat)
  /-- Flow-control credits of a CXL or PCIe link (R97, R98): those advertised as it comes up, and those an UpdateFC returns: headers (or
  messages), and 16 B data credits. -/
  | initFc (pleat : Nat) (fc : FcClass) (headers data : Nat)
  | updateFc (pleat : Nat) (fc : FcClass) (headers data : Nat)
  /-- A message has left whole at an output: its pleat and tag, and whether it was completed with poisoned filler (R112). -/
  | delivered (pleat id : Nat) (poisoned : Bool)
  /-- A control codeword of an FNL pleat (R281): its code and the words of its slot 0. -/
  | control (pleat code : Nat) (slot0 : List Nat)
  /-- A NAK naming the last accepted number (R288). -/
  | nak (pleat ackseq : Nat)
  /-- A sequenced codeword sent or replayed on an FNL pleat (R280, R289): its number, message and segment, the colour its header slot
  carries (R143), and whether its slots are poisoned (R112). -/
  | codeword (pleat seq msg seg colour : Nat) (poison : Bool)
  /-- Slots of an output that cannot fill them from its open message (R111): hold markers on FNL, empty slots on CXL. -/
  | holdSlots (pleat n : Nat)
  | emptySlots (pleat n : Nat)
  /-- An output completes its open message with poisoned filler on CXL or PCIe (R112): the standard's data poison, or the TLP nullified. -/
  | filler (pleat id segs : Nat) (nullified : Bool)
  /-- A CXL link enters Recovery at the same width and rate (R257, R301), or reinitialises. -/
  | recovery (pleat : Nat)
  /-- A CXL pleat replays or retries (R301). -/
  | cxlReplay (pleat : Nat)
  /-- A quiet window begins at a pleat's next codeword boundary (R260). -/
  | quietWindow (pleat : Nat)
  /-- A receiver asks its partner for a quiet window (R260). -/
  | quietRequest (pleat : Nat)
  /-- An event at a vPPB (R76): virtual switch, vPPB, and what its slot status shows. -/
  | slotEvent (vcs vppb : Nat) (presence dll attention : Bool)
  /-- A port-ID advertisement to a fabric neighbour (R71): this module's local IDs. -/
  | pbrAdv (pleat : Nat) (ids : List Nat)
  /-- A home's reply (R172, R184): the pleat and tag it goes to, the reply, its status, the code its berth shows, the data and its poison. -/
  | homeReply (pleat tag : Nat) (what : HomeReply) (status attn : Nat) (data : Option Nat) (poison : Bool)
  /-- A snoop or back-invalidate to an agent (R172, R183). -/
  | homeSnoop (agent : Nat) (op : SnpOp) (line : Nat)
  /-- A home reads a line from its pool, or writes it there (R160, R181). -/
  | poolRead (pleat line : Nat)
  | poolWrite (pleat line data : Nat) (poison : Bool)
  /-- BIConflictAck to a host (R183). -/
  | biConflictAck (pleat tag : Nat)
  /-- A snoop from another module's home passed to a host of this module, and the host's answer passed back (R183). -/
  | hostSnoop (pleat : Nat) (op : SnpOp) (line : Nat)
  | snoopReturn (pleat tag down : Nat) (kept : Bool) (data : Option Nat)
  /-- A partly denied request (R243): the denied lines, of which a read's bytes read 0xFF. -/
  | answerParts (pleat id : Nat) (denied : List Nat)
  /-- Data read from the Lodestar aperture (R204, R210): 64 bytes. -/
  | apertureData (pleat id : Nat) (bytes : List Nat)

  /-- A request of the Pilot delivered to a DSP pleat's partner (R72): the logical device (65,535: the FM-owned one; none: the PPB),
  what is sent. -/
  | fmRequest (pleat : Nat) (ld : Option Nat) (write : Bool) (addr : Nat) (data : List Nat)
  /-- A management command tunnelled to the FM-owned logical device of an MLD (R72). -/
  | fmTunnel (pleat : Nat) (data : List Nat)
  /-- An AER event at a vPPB (R64, R72), and at a USP's upstream switch port (R64). -/
  | aerEvent (vcs vppb err : Nat)
  | aerUpstream (pleat err : Nat)
  /-- A partner's request to enter L1 is rejected (R65). -/
  | l1Reject (pleat : Nat)
  /-- The completion of a configuration access (R68, R76), and of a read of BAR0 with the code in its vendor-defined field (R330). -/
  | cfgData (pleat id value : Nat)
  | barData (pleat id value attn : Nat)
  /-- The attention LED of a cable-site quarter (R76, R82). -/
  | attentionLed (quarter : Nat) (on : Bool)
  /-- An SPDM answer on a path (R433 to R437). -/
  | spdm (path : Path) (what : SpdmReply)
  /-- An answer to an MCTP control command (R429): its completion code (0 success, 2 invalid data) and data. -/
  | mctpControl (path : Path) (code : Nat) (data : List Nat)
  /-- An answer of the management Ethernet to a datagram (R431). -/
  | netAnswer (d : Datagram)
  deriving DecidableEq, Repr

/-- No fault is raised by any command: every command of the table has an effect by the spec. The one constructor keeps the type
inhabited for the host's interface; nothing answers it (safe). -/
inductive Fault where
  /-- Raised by nothing (safe). -/
  | none
  deriving DecidableEq, Repr

/-- Why a command is refused. -/
inductive Refusal where
  /-- Raised by exec for a command that has no meaning yet (safe: nothing can be proved of it). -/
  | notModelled (mnemonic : String)
  deriving DecidableEq, Repr

/-- The state of the block. -/
structure State where
  /-- The commands that wait, first in, first out. -/
  pending : List Instr
  /-- The time, in ps. -/
  now : Nat
  /-- When the last reset that reached the management complex ended, in ps. -/
  resetAt : Nat
  /-- Every register field that differs from its reset value, under its key. -/
  regs : SMap Nat
  /-- What has left the block, newest first. -/
  sent : List Emit
  /-- Open sessions: 0–7 the slots of MGT.SESSION, 64 + k the mailbox session of berth k. -/
  sessions : SMap SessionRec
  /-- Background commands, newest first. -/
  bgs : List BgRec
  /-- The chart in force. -/
  chart : Chart
  /-- The chart unit. -/
  chtu : ChartUnit
  /-- What no reset clears. -/
  nv : NonVolatile
  /-- The Leave Controller. -/
  lvc : LeaveUnit
  /-- The collectors and the safe state. -/
  flt : FaultUnit
  /-- The reference selector. -/
  clk : ClockUnit
  /-- The power stage. -/
  pwr : PowerUnit
  /-- The stored-data units. -/
  ecc : EccUnit
  /-- The lanes. -/
  lan : LaneUnit
  /-- The links. -/
  lnk : LinkUnit
  /-- The homes. -/
  home : HomeUnit
  /-- The seams. -/
  seam : SeamUnit
  /-- Lodestar. -/
  lod : LodUnit
  /-- The copy engines. -/
  cpy : CopyUnit
  /-- Binding. -/
  bnd : BindUnit
  /-- The switch core. -/
  core : CoreUnit
  /-- Counters that hold more than their reset values, by counter number (R410). -/
  ctrs : SMap Ctr
  /-- The management endpoints. -/
  mgt : MgtUnit
  /-- The Tally. -/
  tal : TallyUnit
  /-- The thermal unit. -/
  thm : ThermalUnit
  /-- The bits of register fields that have been set in the present CK_MGT cycle (R8), by the field's key. -/
  fresh : SMap Nat
  deriving DecidableEq, Repr

/-- The chart unit after reset: idle. [DESIGN CHOICE, log entry 7] -/
def ChartUnit.reset : ChartUnit := ⟨none, [], [], 0, 0, false, []⟩

/-- The Tally after reset (R423): both buffers empty. [DESIGN CHOICE, log entry 7] -/
def TallyUnit.reset : TallyUnit := ⟨⟨0, 0, false, [], [], []⟩, ⟨0, 0, false, [], [], []⟩, none, 0, false, false, 0, []⟩

/-- The kept state of a module as shipped with key state N (R36, R55): no chart, no key, an unwritten Almanac. [DESIGN CHOICE, log entries 5, 8] -/
def NonVolatile.reset : NonVolatile where
  activeSlot := 0
  slot0 := []
  slot1 := []
  gen := 0
  baseGen := 0
  floor := 0
  journal := []
  log := []
  chartKeys := []
  helmKeys := []
  pilotKeys := []
  berthKeys := []
  attached := 0xFF
  image0 := []
  image0Seq := 0
  image0Event := 0
  image1 := []
  image1Seq := 0
  image1Event := 0
  retain := []
  presets := []
  linkRetired := []
  feedRetired := []
  softRepairs := []
  padLatch := []
  fuseMap := []
  attnFuses := []

/-- The power stage before any feed is present. [DESIGN CHOICE, log entry 7] -/
def PowerUnit.reset : PowerUnit := ⟨⟨0, false⟩, ⟨0, false⟩, 0, 0, [], 0, none, 0, [], [], 0, 0, 0, 0, 0, [], []⟩

/-- The block right after reset: every register at the value its table gives (no entry in regs), every queue and table empty.
[DESIGN CHOICE, log entries 4, 5, 6, 7] -/
def State.reset : State where
  pending := []
  now := 0
  resetAt := 0
  regs := []
  sent := []
  sessions := []
  bgs := []
  chart := []
  chtu := ChartUnit.reset
  nv := NonVolatile.reset
  lvc := ⟨[], none, []⟩
  flt := ⟨[], [], 0, false, 0, [], false, []⟩
  clk := ⟨none, none, 0, false, 0, 0, 0, 0, none⟩
  pwr := PowerUnit.reset
  ecc := ⟨[], [], none, []⟩
  lan := ⟨[], [], [], [], [], false, []⟩
  lnk := ⟨[], [], [], [], [], [], [], [], [], false, false⟩
  home := ⟨[], [], [], [], [], [], [], [], [], false, none, [], [], none, [], [], [], [], [], [], [], 0, [], [], [], 0⟩
  seam := ⟨[], [], [], [], [], [], []⟩
  lod := ⟨[], [], [], [], [], [], []⟩
  cpy := ⟨[], [], [], [], [], 0⟩
  bnd := ⟨none, [], [], [], [], [], [], [], [], [], [], [], [], []⟩
  core := ⟨[], [], [], [], [], [], [], [], [], [], [], [], 0, [], [], [], [], 0, [], []⟩
  ctrs := []
  mgt := ⟨[], [], [], 0, 0, [], []⟩
  tal := TallyUnit.reset
  thm := ⟨true, none, [], []⟩
  fresh := []
/-! Changes to one unit of the state. -/
def State.modSessions (s : State) (f : SMap SessionRec → SMap SessionRec) : State := { s with sessions := f s.sessions }
def State.modChart (s : State) (f : Chart → Chart) : State := { s with chart := f s.chart }
def State.modChtu (s : State) (f : ChartUnit → ChartUnit) : State := { s with chtu := f s.chtu }
def State.modNv (s : State) (f : NonVolatile → NonVolatile) : State := { s with nv := f s.nv }
def State.modLvc (s : State) (f : LeaveUnit → LeaveUnit) : State := { s with lvc := f s.lvc }
def State.modFlt (s : State) (f : FaultUnit → FaultUnit) : State := { s with flt := f s.flt }
def State.modClk (s : State) (f : ClockUnit → ClockUnit) : State := { s with clk := f s.clk }
def State.modPwr (s : State) (f : PowerUnit → PowerUnit) : State := { s with pwr := f s.pwr }
def State.modEcc (s : State) (f : EccUnit → EccUnit) : State := { s with ecc := f s.ecc }
def State.modLan (s : State) (f : LaneUnit → LaneUnit) : State := { s with lan := f s.lan }
def State.modLnk (s : State) (f : LinkUnit → LinkUnit) : State := { s with lnk := f s.lnk }
def State.modHome (s : State) (f : HomeUnit → HomeUnit) : State := { s with home := f s.home }
def State.modSeam (s : State) (f : SeamUnit → SeamUnit) : State := { s with seam := f s.seam }
def State.modLod (s : State) (f : LodUnit → LodUnit) : State := { s with lod := f s.lod }
def State.modCpy (s : State) (f : CopyUnit → CopyUnit) : State := { s with cpy := f s.cpy }
def State.modBnd (s : State) (f : BindUnit → BindUnit) : State := { s with bnd := f s.bnd }
def State.modCore (s : State) (f : CoreUnit → CoreUnit) : State := { s with core := f s.core }
def State.modCtrs (s : State) (f : SMap Ctr → SMap Ctr) : State := { s with ctrs := f s.ctrs }
def State.modMgt (s : State) (f : MgtUnit → MgtUnit) : State := { s with mgt := f s.mgt }
def State.modTal (s : State) (f : TallyUnit → TallyUnit) : State := { s with tal := f s.tal }
def State.modThm (s : State) (f : ThermalUnit → ThermalUnit) : State := { s with thm := f s.thm }

end Sys2Proof.Machine
end

