-- ==== Sys2Proof/Machine/Table.lean ====
section
/-! DEFINITION. Tables with numeric keys (register fields, directory entries, slips, bindings, lanes ...): look up, put and delete,
which keep the keys strictly rising, so that equal tables are equal data. -/
namespace Sys2Proof

/-- The entry of a key. -/
def SMap.find? {α : Type} (m : SMap α) (k : Nat) : Option α :=
  match m with
  | [] => none
  | (a, v) :: r => if a = k then some v else SMap.find? r k

/-- Put an entry at its place, in order of keys. -/
def SMap.put {α : Type} (m : SMap α) (k : Nat) (v : α) : SMap α :=
  match m with
  | [] => [(k, v)]
  | (a, w) :: r =>
    if a = k then (k, v) :: r else if k < a then (k, v) :: (a, w) :: r else (a, w) :: SMap.put r k v

/-- Take an entry out. -/
def SMap.del {α : Type} (m : SMap α) (k : Nat) : SMap α := m.filter fun e => e.1 != k

/-- The entry of a key, or a default. -/
def SMap.getD {α : Type} (m : SMap α) (k : Nat) (d : α) : α := (SMap.find? m k).getD d

/-- Change the entry of a key where there is one. -/
def SMap.alter {α : Type} (m : SMap α) (k : Nat) (f : α → α) : SMap α :=
  match SMap.find? m k with
  | none => m
  | some v => SMap.put m k (f v)

/-- The keys strictly rise. -/
def SMap.sorted {α : Type} : SMap α → Bool
  | [] => true
  | [_] => true
  | (a, _) :: (b, w) :: r => decide (a < b) && SMap.sorted ((b, w) :: r)

/-- Change every value of a table, its keys kept. -/
def SMap.mapVal {α β : Type} (m : SMap α) (f : Nat → α → β) : SMap β := m.map fun e => (e.1, f e.1 e.2)

end Sys2Proof
end

