-- ==== Sys2Proof/Machine/Regs.lean ====
section
/-! DEFINITION. Reading and writing register fields (R5, R6), counters that saturate, time, what leaves the block. -/
namespace Sys2Proof.Machine

/-- The value of a field held in State.regs: its entry, or its reset value.
[DESIGN CHOICE, log entry 10] -/
def State.get (s : State) (f : Fld) : Nat := (SMap.find? s.regs f.key).getD f.reset

/-- Set a field to a value, kept to the field's width; a field at its reset value has no entry.
[DESIGN CHOICE, log entry 10] -/
def State.store (s : State) (f : Fld) (v : Nat) : State :=
  { s with regs := if v % 2 ^ f.width = f.reset then SMap.del s.regs f.key else SMap.put s.regs f.key (v % 2 ^ f.width) }

/-- The bits of a field that have been set in the present CK_MGT cycle (R8). -/
def State.freshBits (s : State) (f : Fld) : Nat := SMap.getD s.fresh f.key 0

/-- Set a field: the value is stored, and the bits it sets are noted as set in this cycle (R8).
[DESIGN CHOICE, log entry 10] -/
def State.set (s : State) (f : Fld) (v : Nat) : State :=
  { s.store f v with fresh := if v % 2 ^ f.width = 0 then s.fresh else SMap.put s.fresh f.key (s.freshBits f ||| v % 2 ^ f.width) }

/-- Add to a counter that saturates at the largest value of its field. -/
def State.bump (s : State) (f : Fld) (n : Nat) : State := s.set f (min (s.get f + n) (2 ^ f.width - 1))

/-- Add to a counter that wraps at the width of its field. -/
def State.wrapAdd (s : State) (f : Fld) (n : Nat) : State := s.set f (s.get f + n)

/-- A one-bit field as a truth value. -/
def State.flag (s : State) (f : Fld) : Bool := s.get f == 1

/-- Set a one-bit field. -/
def State.setFlag (s : State) (f : Fld) (b : Bool) : State := s.set f (if b then 1 else 0)

/-- Set bit i of a field. -/
def State.setBit (s : State) (f : Fld) (i : Nat) : State := s.set f (s.get f ||| 2 ^ i)

/-- Clear bit i of a field. -/
def State.clearBit (s : State) (f : Fld) (i : Nat) : State :=
  s.set f (if (s.get f).testBit i then s.get f - 2 ^ i else s.get f)

/-- Several fields at once, in order. -/
def State.setAll (s : State) (l : List (Fld × Nat)) : State := l.foldl (fun s e => s.set e.1 e.2) s

/-- Put something out.
[DESIGN CHOICE, log entry 11] -/
def State.emit (s : State) (e : Emit) : State := { s with sent := e :: s.sent }

/-- A value of the model's time unit, the ps. -/
def nsec (n : Nat) : Nat := n * 1000
def usec (n : Nat) : Nat := n * 1000000
def msec (n : Nat) : Nat := n * 1000000000
def sec (n : Nat) : Nat := n * 1000000000000

/-- The period of CK_MGT (R18), in ps.
[DESIGN CHOICE, log entry 3] -/
def mgtCycle : Nat := 2500

/-- Microseconds since reset (R320, R386), as the low 32 bits the registers keep. -/
def State.usSinceReset (s : State) : Nat := (s.now - s.resetAt) / 1000000 % 2 ^ 32

/-- Drop every register entry whose address lies in a range and whose key is not kept: those registers read their reset
values again. -/
def dropRegs (m : SMap Nat) (lo hi : Nat) (kept : Nat → Bool) : SMap Nat :=
  m.filter fun e => !(decide (lo ≤ e.1 / 32 ∧ e.1 / 32 < hi)) || kept e.1

/-- Registers of an address range go back to their reset values (R398). -/
def State.resetRange (s : State) (lo hi : Nat) : State := { s with regs := dropRegs s.regs lo hi fun _ => false }

end Sys2Proof.Machine
end

