-- ==== Sys2Proof/Machine/ChartRead.lean ====
section
/-! DEFINITION. Reading the chart in force (R471): the content words of every entry, with what R470 gives an index the chart does not list, and the
settings they hold under the names of the CL registers they are images of. -/
namespace Sys2Proof.Machine

/-- Bits of a word: `n` bits from bit `lsb`. -/
def bitsOf (v lsb n : Nat) : Nat := v / 2 ^ lsb % 2 ^ n

/-- The key of a chart entry: section type, entry kind, index. -/
def chartKey (ty kind idx : Nat) : Nat := ty * 2 ^ 28 + kind * 2 ^ 24 + idx

/-- What an index the chart does not list holds (R470): the reset values of the CL fields its entry loads. -/
def chartDefault (ty kind idx : Nat) : List Nat :=
  if ty = 1 then 0xFF0 :: List.replicate 31 0
  else if ty = 2 then [idx]
  else if ty = 3 then [0]
  else if ty = 4 then (if kind = 0 then [0, 0, 0] else [0])
  else if ty = 5 then (if kind = 0 then [0, 0, 1, 0x1000, 0, 0, 0] else [0, 0, 0])
  else if ty = 6 then (if kind = 0 then [0, 0, 0, 0, 0, 100, 0] else [0])
  else if ty = 7 then [0, 0, 0, 0]
  else if ty = 8 then [0, 0, 0]
  else if ty = 9 then (if kind = 0 then [0, 0, 0] else if kind = 1 then [0] else [6, 98304, 0])
  else if ty = 10 then [0]
  else if ty = 11 then [0, 0, 0, 0, 0, 0, 0]
  else [0, 0, 0, 0, 0]

/-- A chart entry's content words. -/
def chartEntry (c : Chart) (ty kind idx : Nat) : List Nat :=
  (SMap.find? c (chartKey ty kind idx)).getD (chartDefault ty kind idx)

/-- A content word of a chart entry, counted from 0. -/
def chartWord (c : Chart) (ty kind idx w : Nat) : Nat := (chartEntry c ty kind idx).getD w 0

/-- Put an entry into a chart; an entry that says what R470 gives an unlisted index is not listed. -/
def chartPut (c : Chart) (ty kind idx : Nat) (ws : List Nat) : Chart :=
  if ws = chartDefault ty kind idx then SMap.del c (chartKey ty kind idx) else SMap.put c (chartKey ty kind idx) ws

/-- HUB.TOPO (R32). -/
def Chart.moduleId (c : Chart) : Nat := bitsOf (chartWord c 1 0 0 0) 0 4
/-- [DESIGN CHOICE, log entry 99] -/
def Chart.attached (c : Chart) : Nat := bitsOf (chartWord c 1 0 0 0) 4 8

/-- HUB.LDSWIN (R233): the Lodestar aperture's VALID bit and 64 MiB-aligned base. -/
def Chart.ldsValid (c : Chart) : Bool := bitsOf (chartWord c 1 0 0 1) 0 1 == 1
def Chart.ldsBase (c : Chart) : Nat := bitsOf (chartWord c 1 0 0 1) 26 6 * 2 ^ 26 + bitsOf (chartWord c 1 0 0 2) 0 20 * 2 ^ 32

/-- CEL.PERSONA (R87): the pleat a cell belongs to and what the pleat speaks. -/
def Chart.lead (c : Chart) (p : Nat) : Nat := bitsOf (chartWord c 2 0 p 0) 0 10
def Chart.widthCode (c : Chart) (p : Nat) : Nat := bitsOf (chartWord c 2 0 p 0) 10 2
def Chart.cells (c : Chart) (p : Nat) : Nat := 2 ^ c.widthCode p
def Chart.personaWord (c : Chart) (p : Nat) : Nat := chartWord c 3 0 (c.lead p) 0
def Chart.personality (c : Chart) (p : Nat) : Nat := bitsOf (c.personaWord p) 12 2
def Chart.fmPort (c : Chart) (p : Nat) : Bool := bitsOf (c.personaWord p) 14 1 == 1
def Chart.rateMax (c : Chart) (p : Nat) : Nat := bitsOf (c.personaWord p) 16 3
def Chart.flitModes (c : Chart) (p : Nat) : Nat := bitsOf (c.personaWord p) 20 3
def Chart.isOff (c : Chart) (p : Nat) : Bool := c.personality p == 0
def Chart.isUsp (c : Chart) (p : Nat) : Bool := c.personality p == 1
def Chart.isDsp (c : Chart) (p : Nat) : Bool := c.personality p == 2
def Chart.isFnl (c : Chart) (p : Nat) : Bool := c.personality p == 3
def Chart.isLead (c : Chart) (p : Nat) : Bool := c.lead p == p

/-- The cells of the pleat that a cell belongs to (R60). -/
def Chart.pleat (c : Chart) (p : Nat) : List Nat := (List.range (c.cells p)).map (c.lead p + ·)

/-- A VSWITCHES entry (R67): USP lead cell, berth, number of vPPBs, VALID. -/
def Chart.vsUsp (c : Chart) (v : Nat) : Nat := bitsOf (chartWord c 4 0 v 0) 0 10
def Chart.vsBerth (c : Chart) (v : Nat) : Nat := bitsOf (chartWord c 4 0 v 0) 10 6
def Chart.vsPpbs (c : Chart) (v : Nat) : Nat := bitsOf (chartWord c 4 0 v 0) 16 9
def Chart.vsValid (c : Chart) (v : Nat) : Bool := bitsOf (chartWord c 4 0 v 0) 25 1 == 1

/-- The virtual switch whose USP is led by a cell. -/
def Chart.vsOf (c : Chart) (p : Nat) : Option Nat := (List.range 64).find? fun v => c.vsValid v && c.vsUsp v == p

/-- HUB.PBR[i] (R93) and the FM port directory (R72). -/
def Chart.pbrCell (c : Chart) (i : Nat) : Nat := bitsOf (chartWord c 4 1 i 0) 0 10
def Chart.pbrModule (c : Chart) (i : Nat) : Nat := bitsOf (chartWord c 4 1 i 0) 10 4
def Chart.pbrLocal (c : Chart) (i : Nat) : Bool := bitsOf (chartWord c 4 1 i 0) 14 1 == 1
def Chart.pbrValid (c : Chart) (i : Nat) : Bool := bitsOf (chartWord c 4 1 i 0) 15 1 == 1
def Chart.dirCell (c : Chart) (n : Nat) : Option Nat :=
  if bitsOf (chartWord c 4 2 n 0) 10 1 = 1 then some (bitsOf (chartWord c 4 2 n 0) 0 10) else none

/-- HUB.BERTH[k] (R153), HUB.LDSQ[k] (R233), HOM.BERTH[k] (R200) and CPE.BERTH[k] (R235). -/
def Chart.berthWord (c : Chart) (k w : Nat) : Nat := chartWord c 5 0 k w
def Chart.berthValid (c : Chart) (k : Nat) : Bool := bitsOf (c.berthWord k 0) 4 1 == 1
def Chart.berthWeight (c : Chart) (k : Nat) : Nat := bitsOf (c.berthWord k 0) 0 4
def Chart.objQuota (c : Chart) (k : Nat) : Nat := bitsOf (c.berthWord k 1) 0 27
def Chart.grpFirst (c : Chart) (k : Nat) : Nat := bitsOf (c.berthWord k 2) 0 16
def Chart.grpLast (c : Chart) (k : Nat) : Nat := bitsOf (c.berthWord k 2) 16 16
def Chart.trackers (c : Chart) (k : Nat) : Nat := bitsOf (c.berthWord k 3) 0 11
def Chart.snoops (c : Chart) (k : Nat) : Nat := bitsOf (c.berthWord k 3) 12 12
def Chart.copyShare (c : Chart) (k : Nat) : Nat := bitsOf (c.berthWord k 4) 0 5

/-- HUB.WIN[w] (R199) and the pool behind a window (R471). Line addresses are bits 51:6 of an address. -/
def Chart.winWord (c : Chart) (w n : Nat) : Nat := chartWord c 6 0 w n
def Chart.winStart (c : Chart) (w : Nat) : Nat := c.winWord w 0 + bitsOf (c.winWord w 1) 0 14 * 2 ^ 32
def Chart.winEnd (c : Chart) (w : Nat) : Nat := c.winWord w 2 + bitsOf (c.winWord w 3) 0 14 * 2 ^ 32
def Chart.winShared (c : Chart) (w : Nat) : Bool := bitsOf (c.winWord w 1) 14 1 == 1
def Chart.winCompat (c : Chart) (w : Nat) : Bool := bitsOf (c.winWord w 1) 15 1 == 1
def Chart.winBerth (c : Chart) (w : Nat) : Nat := bitsOf (c.winWord w 1) 16 6
def Chart.winValid (c : Chart) (w : Nat) : Bool := bitsOf (c.winWord w 1) 22 1 == 1
def Chart.winBudget (c : Chart) (w : Nat) : Nat := bitsOf (c.winWord w 4) 0 30
def Chart.winHorizon (c : Chart) (w : Nat) : Nat := bitsOf (c.winWord w 5) 0 14
def Chart.winPool (c : Chart) (w : Nat) : Nat := bitsOf (c.winWord w 6) 0 10

/-- The enabled window that holds a line address. -/
def Chart.windowOf (c : Chart) (line : Nat) : Option Nat :=
  (c.filterMap fun e => if e.1 / 2 ^ 24 = 6 * 2 ^ 4 then some (e.1 % 2 ^ 24) else none).find? fun w =>
    c.winValid w && decide (c.winStart w ≤ line ∧ line ≤ c.winEnd w)

/-- The shared window that holds a line address. -/
def Chart.sharedWindow (c : Chart) (line : Nat) : Option Nat :=
  (c.filterMap fun e => if e.1 / 2 ^ 24 = 6 * 2 ^ 4 then some (e.1 % 2 ^ 24) else none).find? fun w =>
    c.winValid w && c.winShared w && decide (c.winStart w ≤ line ∧ line ≤ c.winEnd w)

/-- HUB.AGENT[a] (R198). -/
def Chart.agentPort (c : Chart) (a : Nat) : Nat := bitsOf (chartWord c 6 1 a 0) 0 12
def Chart.agentValid (c : Chart) (a : Nat) : Bool := bitsOf (chartWord c 6 1 a 0) 12 1 == 1

/-- The home set (R471, HOMESET): the flat numbers of the active slices, in ascending order. -/
def Chart.homeActive (c : Chart) (n : Nat) : Bool := bitsOf (chartWord c 7 0 0 (n / 32)) (n % 32) 1 == 1
def Chart.homeSet (c : Chart) : List Nat := (List.range 72).filter fun n => c.homeActive n

/-- CEL.CLASS[t] (R154) and CEL.SHAPER[t] (R155) of output cell p. Shaper 7's figures are fixed (R155). -/
def Chart.classDisc (c : Chart) (p t : Nat) : Nat := bitsOf (chartWord c 8 0 (8 * p + t) 0) 0 2
def Chart.classWeight (c : Chart) (p t : Nat) : Nat := bitsOf (chartWord c 8 0 (8 * p + t) 0) 2 8
def Chart.shaperRate (c : Chart) (p t : Nat) : Nat := if t = 7 then 2000 else bitsOf (chartWord c 8 0 (8 * p + t) 1) 0 21
def Chart.shaperBurst (c : Chart) (p t : Nat) : Nat := if t = 7 then 16384 else bitsOf (chartWord c 8 0 (8 * p + t) 2) 0 22

/-- RGN[g].HEM[i] (R124), BERTHPOOL[k] CAP (R123), POOLCFG and YELLOW (R121). -/
def Chart.hemWord (c : Chart) (g i w : Nat) : Nat := chartWord c 9 0 (4096 * g + i) w
def Chart.poolCap (c : Chart) (g k : Nat) : Nat := bitsOf (chartWord c 9 1 (64 * g + k) 0) 0 20
def Chart.alpha (c : Chart) (g : Nat) : Nat := bitsOf (chartWord c 9 2 g 0) 0 4
def Chart.yellowFloor (c : Chart) (g : Nat) : Nat := bitsOf (chartWord c 9 2 g 1) 0 20

/-- The indices of the listed entries of a section and kind. -/
def Chart.listed (c : Chart) (ty kind : Nat) : List Nat :=
  c.filterMap fun e => if e.1 / 2 ^ 24 = ty * 16 + kind then some (e.1 % 2 ^ 24) else none

/-- The hem entries of a region (R103), by entry number, and what each selects and reserves. -/
def Chart.hems (c : Chart) (g : Nat) : List Nat :=
  (c.listed 9 0).filterMap fun n => if n / 4096 = g then some (n % 4096) else none
def Chart.hemValid (c : Chart) (g i : Nat) : Bool := bitsOf (c.hemWord g i 0) 17 1 == 1
def Chart.hemAny (c : Chart) (g i : Nat) : Bool := bitsOf (c.hemWord g i 0) 16 1 == 1
def Chart.hemPleat (c : Chart) (g i : Nat) : Nat := 128 * g + bitsOf (c.hemWord g i 0) 0 7
def Chart.hemClass (c : Chart) (g i : Nat) : Nat := bitsOf (c.hemWord g i 0) 7 3
def Chart.hemBerth (c : Chart) (g i : Nat) : Nat := bitsOf (c.hemWord g i 0) 10 6
def Chart.hemSize (c : Chart) (g i : Nat) : Nat := bitsOf (c.hemWord g i 1) 0 20

/-- The hem entry of an output, class and berth, and the ANY entry (R105). -/
def Chart.hemOf (c : Chart) (out cls : Nat) (berth : Option Nat) : Option Nat :=
  (c.hems (out / 128)).find? fun i => c.hemValid (out / 128) i && c.hemPleat (out / 128) i == out
    && c.hemClass (out / 128) i == cls && (match berth with
      | some k => !c.hemAny (out / 128) i && c.hemBerth (out / 128) i == k
      | none => c.hemAny (out / 128) i)

/-- The egress limits that name an output pleat (R138), in ascending index, as berth, rate and burst: its shapers 8 to 15.
[DEDUCED, log entry 38] -/
def Chart.egress (c : Chart) (o : Nat) : List (Nat × Nat × Nat) :=
  (c.listed 5 1).filterMap fun n =>
    if bitsOf (chartWord c 5 1 n 0) 10 1 = 1 ∧ bitsOf (chartWord c 5 1 n 0) 0 10 = o then
      some (n / 64, bitsOf (chartWord c 5 1 n 1) 0 21, bitsOf (chartWord c 5 1 n 2) 0 22) else none

/-- An access to the Lodestar aperture (R202), which is of kind SYNC (R127). -/
def Chart.inAperture (c : Chart) (addr : Nat) : Bool :=
  c.ldsValid && decide (c.ldsBase ≤ addr ∧ addr < c.ldsBase + 2 ^ 26)

/-- The forwarding mode of an input cell and class (R471, FORWARDING). -/
def Chart.cutThrough (c : Chart) (p t : Nat) : Bool := bitsOf (chartWord c 10 0 (8 * p + t) 0) 0 1 == 1

/-- GAT.WIN[i] of gate n (R249).
[DEDUCED, log entry 92] -/
def Chart.gateWord (c : Chart) (n i w : Nat) : Nat := chartWord c 11 0 (64 * n + i) w
def Chart.gateStart (c : Chart) (n i : Nat) : Nat := c.gateWord n i 0 + bitsOf (c.gateWord n i 1) 0 14 * 2 ^ 32
def Chart.gateEnd (c : Chart) (n i : Nat) : Nat := c.gateWord n i 2 + bitsOf (c.gateWord n i 3) 0 14 * 2 ^ 32
def Chart.gateMask (c : Chart) (n i : Nat) : Nat := c.gateWord n i 4 + c.gateWord n i 5 * 2 ^ 32
def Chart.gateEn (c : Chart) (n i : Nat) : Bool := bitsOf (c.gateWord n i 6) 0 1 == 1
def Chart.gatePerm (c : Chart) (n i : Nat) : Nat := bitsOf (c.gateWord n i 6) 1 4

/-- CEL.POLICE[k] of ingress cell p (R157). -/
def Chart.policeWord (c : Chart) (p k w : Nat) : Nat := chartWord c 12 0 (64 * p + k) w

def Chart.policeMode (c : Chart) (p k : Nat) : Nat := bitsOf (c.policeWord p k 0) 0 2
def Chart.policeCir (c : Chart) (p k : Nat) : Nat := bitsOf (c.policeWord p k 1) 0 21
def Chart.policeCbs (c : Chart) (p k : Nat) : Nat := bitsOf (c.policeWord p k 2) 0 22
def Chart.policePir (c : Chart) (p k : Nat) : Nat := bitsOf (c.policeWord p k 3) 0 21
def Chart.policeEbs (c : Chart) (p k : Nat) : Nat := bitsOf (c.policeWord p k 4) 0 22

/-- The symbol time of a cell's lanes in fs, and its eyes per symbol (R250), at the rate the link runs. -/
def State.laneUiFs (s : State) (c : Nat) : Nat :=
  let p := s.chart.lead c
  if s.chart.isFnl p then (if s.get (F.celLinkstatRateNow p) = 1 then 17857 else 35714)
  else match s.get (F.celLinkstatRateNow p) with
    | 0 => 400000
    | 1 => 200000
    | 2 => 125000
    | 3 => 62500
    | _ => 31250

def State.laneEyes (s : State) (c : Nat) : Nat :=
  let p := s.chart.lead c
  if s.chart.isFnl p then 3 else if s.get (F.celLinkstatRateNow p) = 5 then 3 else 1

end Sys2Proof.Machine
end

