-- ==== Sys2Proof/Machine/Counting.lean ====
section
/-! DEFINITION. The counters of the Tally's tree (R410 to R417) and the passing of time: what a counter takes, wraps and chains,
and the cycles and occupancies it adds while time moves on. -/
namespace Sys2Proof.Machine

/-- The period of CK_CORE (R18), in ps. -/
def coreCycle : Nat := 625

/-- Counter ranges (R410): the first counter number of a location and how many it has. -/
def ctrBlk (n : Nat) : Nat × Nat := (8 * n, 8)
def ctrRgn (g : Nat) : Nat × Nat := (1024 + 16 * g, 16)
def ctrHub : Nat × Nat := (1152, 32)
def ctrHom (n : Nat) : Nat × Nat := (1184 + 8 * n, 8)
def ctrEcc (g : Nat) : Nat × Nat := (1760 + 8 * g, 8)

/-- The location of a counter number: its kind (0 block, 1 region, 2 Rose, 3 home slice, 4 HBM controller), instance and local
index. -/
def ctrPlace (k : Nat) : Nat × Nat × Nat :=
  if k < 1024 then (0, k / 8, k % 8) else if k < 1152 then (1, (k - 1024) / 16, (k - 1024) % 16)
  else if k < 1184 then (2, 0, k - 1152) else if k < 1760 then (3, (k - 1184) / 8, (k - 1184) % 8)
  else (4, (k - 1760) / 8, (k - 1760) % 8)

/-- The event codes of a location (R413). -/
def eventListed (kind code : Nat) : Bool :=
  code == 1 || (if kind = 0 then decide (0x10 ≤ code ∧ code ≤ 0x18)
    else if kind = 1 then decide (0x20 ≤ code ∧ code ≤ 0x27)
    else if kind = 2 then decide (0x30 ≤ code ∧ code ≤ 0x32)
    else if kind = 3 then decide (0x40 ≤ code ∧ code ≤ 0x49) else decide (0x50 ≤ code ∧ code ≤ 0x55))

/-- Occupancy events, and events that a berth can filter (R413). -/
def isOccupancy (code : Nat) : Bool := [0x12, 0x14, 0x24, 0x43, 0x49, 0x54].contains code
def berthFilter (code : Nat) : Bool :=
  [0x10, 0x11, 0x13, 0x15, 0x16, 0x20, 0x21, 0x22, 0x23, 0x24, 0x25, 0x30, 0x31, 0x32, 0x40, 0x41, 0x42, 0x43, 0x48].contains code

/-- A selection that counts nothing (R412): SEL.BAD.
[DEDUCED, log entry 33] -/
def Ctr.bad (c : Ctr) (kind : Nat) : Bool :=
  !eventListed kind c.event || c.mode == 3 || (isOccupancy c.event != (c.mode == 1 || c.mode == 2))
    || (c.berthEn && !berthFilter c.event)

/-- The counter takes no event of its own when it is odd and chained (R414). -/
def Ctr.follows (c : Ctr) (k : Nat) : Bool := c.chain && k % 2 == 1

/-- Add to a counter (R414): it wraps at 2^48, sets OVF, and carries into its chained odd partner. -/
def addCtr (m : SMap Ctr) (k n : Nat) : SMap Ctr :=
  match SMap.find? m k with
  | none => m
  | some c =>
    let w := (c.val + n) / 2 ^ 48
    let m1 := SMap.put m k { c with val := (c.val + n) % 2 ^ 48, ovf := c.ovf || decide (0 < w) }
    if k % 2 = 0 ∧ 0 < w then
      match SMap.find? m1 (k + 1) with
      | some d =>
        if d.chain && d.en then
          SMap.put m1 (k + 1) { d with val := (d.val + w) % 2 ^ 48, ovf := d.ovf || decide (2 ^ 48 ≤ d.val + w) }
        else m1
      | none => m1
    else m1

/-- Segments a message occupies in staging (R96) and in bolt memory (R100). -/
def stgSegs (bytes : Nat) : Nat := 1 + (bytes + 63) / 64
def boltSegs (bytes : Nat) : Nat := max 1 ((bytes + 63) / 64)
def Msg.stg (m : Msg) : Nat := stgSegs m.bytes
def Msg.segs (m : Msg) : Nat := boltSegs m.bytes

/-- The segments of a staged message still there: an admitted message for another region leaves one by one, its header with the first
(R101). -/
def Msg.stgNow (m : Msg) : Nat := if m.left = 0 then m.stg else m.segs - m.left

/-- A message of one block that runs cut-through goes straight to its output, and its segments in bolt memory are released together (R15). -/
def Msg.direct (m : Msg) : Bool := m.cut && m.src / 8 == m.out / 8

/-- The bolt segments a message still holds. -/
def Msg.held (m : Msg) : Nat := if m.direct && m.sent != m.segs then m.segs else m.segs - m.sent

def sumOf (l : List Nat) : Nat := l.foldl (· + ·) 0

/-- Staging in use by a pleat's messages (R120), of a kind that a test picks. -/
def State.stgUsed (s : State) (p : Nat) (f : Msg → Bool) : Nat :=
  sumOf ((s.core.staged.filter fun m => m.src == p && f m).map Msg.stgNow)

/-- Requests that carry a payload, which its shadow holds in bolt memory (R189). -/
def hasPayload (op : CohOp) : Bool :=
  match op with
  | .wrBack | .wrClean | .wrFull | .wrPart | .memWr | .memWrS => true
  | _ => false

/-- Bolt segments still held for messages of a region, the payloads of shadows included (R121, R189). The payloads count here alone: no
pool or hem entry is charged with them.
[DESIGN CHOICE, log entry 150] -/
def State.boltUsed (s : State) (g : Nat) : Nat :=
  sumOf ((s.core.bolt.filter fun m => m.out / 128 == g).map Msg.held)
    + (s.home.shadows.filter fun x => x.region == g && x.payload).length

/-- The pool segments a berth uses in a region (R104). -/
def State.poolUse (s : State) (g k : Nat) : Nat :=
  sumOf ((s.core.bolt.filter fun m => m.out / 128 == g && m.berth == some k).map (·.pool))

/-- Trackers in use at a home slice (R164, R200), by any berth or by one. -/
def State.trkUse (s : State) (n : Nat) (berth : Option Nat) : Nat :=
  (s.home.txns.filter fun t => t.home == n && (berth.isNone || (t.berth == berth && (match t.job with | .req _ => true | _ => false)))).length

/-- The occupancy an event code names at a location (R413). The controllers of this model answer at once, so HBM_QUEUE is empty
(log entry 12).
[DESIGN CHOICE, log entry 12] -/
def State.occupancy (s : State) (inst : Nat) (c : Ctr) : Nat :=
  if c.event = 0x12 then sumOf (((List.range 8).filter fun i => c.sub == i || c.sub == 0xF).map fun i =>
    s.stgUsed (8 * inst + i) fun _ => true)
  else if c.event = 0x14 then sumOf (((List.range 8).filter fun i => c.sub == i || c.sub == 0xF).map fun i =>
    s.stgUsed (8 * inst + i) fun m => !m.shared && m.colour != 0)
  else if c.event = 0x24 then (if c.berthEn then s.poolUse inst c.berth else s.boltUsed inst)
  else if c.event = 0x43 then s.trkUse inst (if c.berthEn then some c.berth else none)
  else if c.event = 0x49 then (s.lod.parked.filter fun p => p.slice == inst).length
  else 0

/-- What a counter adds in a number of cycles in which nothing happens (R411, R412).
[DEDUCED, log entry 33] -/
def State.quietGain (s : State) (k : Nat) (c : Ctr) (cycles : Nat) : Nat :=
  if !c.en || c.follows k || c.bad (ctrPlace k).1 then 0
  else if c.event = 1 then cycles
  else if c.mode = 1 then (if c.thresh < s.occupancy (ctrPlace k).2.1 c then cycles else 0)
  else if c.mode = 2 then s.occupancy (ctrPlace k).2.1 c * cycles
  else 0

/-- Time moves on to the moment an event names, never back; a new CK_MGT cycle has no bits set in it yet (R8); counters that run add their cycles and occupancies, unless they are
frozen (R417).
[DEDUCED, log entries 1, 34; DESIGN CHOICE, log entries 2, 139] -/
def State.at (s : State) (t : Nat) : State :=
  if t ≤ s.now then s
  else { s with
    now := t
    fresh := if t / mgtCycle = s.now / mgtCycle then s.fresh else []
    ctrs := if s.flag F.talStatFrozen then s.ctrs
      else (s.ctrs.map (·.1)).foldl (fun m k =>
        addCtr m k (s.quietGain k ((SMap.find? s.ctrs k).getD ⟨0, 0, 0, 0, false, false, false, 0, 0, false⟩)
          (t / coreCycle - s.now / coreCycle))) s.ctrs }

/-- Events at a location (R411, R412): every enabled counter there in mode COUNT that selects the event, the narrowing and the
berth takes them. -/
def State.count (s : State) (loc : Nat × Nat) (code : Nat) (sub : Nat → Bool) (berth : Option Nat) (n : Nat) : State :=
  if s.flag F.talStatFrozen then s
  else { s with ctrs := (s.ctrs.filterMap fun e =>
      if loc.1 ≤ e.1 && decide (e.1 < loc.1 + loc.2) && e.2.en && !e.2.follows e.1 && !e.2.bad (ctrPlace e.1).1
          && e.2.event == code && e.2.mode == 0 && sub e.2.sub && (!e.2.berthEn || berth == some e.2.berth)
      then some e.1 else none).foldl (fun m k => addCtr m k n) s.ctrs }

/-- Narrowings of R413: any, one cell of a block, one plane, one of a code with "all" at a given value. -/
def anySub : Nat → Bool := fun _ => true
def subOf (i all : Nat) : Nat → Bool := fun x => x == i || x == all

/-- An event at the block of a cell. -/
def State.countCell (s : State) (p code : Nat) (berth : Option Nat) (n : Nat) : State :=
  s.count (ctrBlk (p / 8)) code (subOf (p % 8) 0xF) berth n

/-- A region's histograms are being copied into a snapshot (R421): the Tally takes the counters in 20 µs and then the regions in
ascending order, 60 µs each.
[DESIGN CHOICE, log entry 118] -/
def State.copyingBins (s : State) (g : Nat) : Bool :=
  s.flag F.talStatBusy && decide (s.now < s.tal.trigger + usec (20 + 60 * (g + 1)))

end Sys2Proof.Machine
end

