-- ==== Sys2Proof/Machine/Ops.lean ====
section
/-! DEFINITION. Operations every family shares: attention codes (R327 to R332), reply status (R333), sessions and the
principals behind them (R2, R434, R437), responses (R439, R440), background commands (R438). -/
namespace Sys2Proof.Machine

/-- Reply status codes (R333). -/
def stOk : Nat := 0
def stRetry : Nat := 1
def stUnbound : Nat := 2
def stLinkDown : Nat := 3
def stDenied : Nat := 4
def stPoison : Nat := 5
def stTimeout : Nat := 6
def stQuotaBelowUse : Nat := 7
def stAllWaiting : Nat := 8
def stSafe : Nat := 9
def stUnknownOutcome : Nat := 10

/-- Attention codes (R327). -/
def atNotice : Nat := 1
def atCorrected : Nat := 2
def atBinding : Nat := 3
def atLink : Nat := 4
def atQuota : Nat := 5
def atPower : Nat := 6
def atThermal : Nat := 7
def atCalibration : Nat := 8
def atHome : Nat := 9
def atPoison : Nat := 10
def atAccess : Nat := 11
def atSync : Nat := 12
def atRetired : Nat := 13
def atDegraded : Nat := 14
def atSafe : Nat := 15

/-- The audiences of the Pilot and of the Helm (R327). -/
def audPilot : Nat := 64
def audHelm : Nat := 65

/-- Where a rule names no audience, a code goes to the Pilot and the Helm (R327). -/
def audOwners : List Nat := [audPilot, audHelm]

/-- Raise a code to one audience (R329): it becomes pending and the raise count rises. -/
def State.raiseOne (s : State) (code a : Nat) : State :=
  (s.set (F.fltAttnPend a) (s.get (F.fltAttnPend a) ||| 2 ^ code)).wrapAdd (F.fltAttnSeq a) 1

/-- The codes that always go to the Helm as well (R327). -/
def helmAlways (code : Nat) : Bool :=
  code == atPower || code == atThermal || code == atRetired || code == atDegraded || code == atSafe

/-- Raise a code to the audiences named, each once (R327).
[DESIGN CHOICE, log entry 138] -/
def State.raise (s : State) (code : Nat) (auds : List Nat) : State :=
  ((if helmAlways code && !auds.contains audHelm then auds ++ [audHelm] else auds).eraseDups).foldl
    (fun s a => s.raiseOne code a) s

/-- Raise a code whose rule names no audience. -/
def State.notify (s : State) (code : Nat) : State := s.raise code audOwners

/-- The code an audience shows (R329): the highest pending one. -/
def State.shown (s : State) (a : Nat) : Nat :=
  if s.get (F.fltAttnPend a) = 0 then 0 else Nat.log2 (s.get (F.fltAttnPend a))

/-- The number of a session in State.sessions: its slot, or 64 + its berth. -/
def sessNum : Sess → Nat
  | .slot i => i.val
  | .berth k => 64 + k.val

/-- The audience of a principal (R327). -/
def Principal.audience : Principal → Nat
  | .helm => audHelm
  | .pilot _ => audPilot
  | .berth k => k
  | .unclaimed => audHelm

def Principal.isHelm : Principal → Bool
  | .helm => true
  | _ => false

def Principal.isPilot : Principal → Bool
  | .pilot _ => true
  | _ => false

def Principal.isOwner (p : Principal) : Bool := p.isHelm || p.isPilot

/-- Every principal of R435 (R441): all but an unclaimed session's. -/
def Principal.claimed (p : Principal) : Bool :=
  match p with
  | .unclaimed => false
  | _ => true

/-- The open session a command came in. -/
def State.session (s : State) (src : Sess) : Option SessionRec := SMap.find? s.sessions (sessNum src)

/-- The principal of an open session (R434). -/
def State.principal (s : State) (src : Sess) : Option Principal := (s.session src).map (·.who)

/-- The return code of a reply status (R440); DENIED by a rule is an out-of-range request. -/
def cciOf (status : Nat) : Cci :=
  if status = stOk then .success
  else if status = stRetry then .busy
  else if status = stTimeout then .retryRequired
  else if status = stSafe then .internalError
  else .invalidInput

/-- A response in a session: it carries the code that the principal's audience shows as it leaves (R330, R439). -/
def State.respond (s : State) (src : Sess) (code : Cci) (status detail : Nat) (data : List Nat) : State :=
  s.emit (.response src code status (match s.principal src with | some p => s.shown p.audience | none => 0) detail data)

/-- A message came in a session (R437). -/
def State.touch (s : State) (src : Sess) : State :=
  { s with sessions := SMap.alter s.sessions (sessNum src) fun r => { r with last := s.now } }

/-- READY has been reached (R404, R405).
[DESIGN CHOICE, log entry 2] -/
def State.ready (s : State) : Bool := s.flag F.rstStatReady

/-- A foreground command of this session waits: for its fuse burn (R438, R441), or for its turn (R86). -/
def State.fgBusy (s : State) (n : Nat) : Bool :=
  (s.mgt.burns.any fun b => b.sess == n && b.live) || s.bnd.waits.any fun w => w.session.any fun x => sessNum x == n

/-- A command of a session, served before READY where `early` says so: outside a session it is discarded and counted (R434); while the session's last
foreground command is outstanding, and before READY, it is answered Busy (R405, R438); outside the principal's rights it is refused
DENIED and changes nothing (R2, R440); otherwise it acts.
[DEDUCED, log entry 32] -/
def State.commandWhen (s : State) (src : Sess) (early : Bool) (rights : Principal → Bool) (act : Principal → State → State) : State :=
  match s.principal src with
  | none => s.bump F.mgtMctpstatUnsecured 1
  | some p =>
    if s.fgBusy (sessNum src) || !(s.ready || early) then (s.touch src).respond src .busy stRetry 0 []
    else if rights p then act p (s.touch src)
    else (s.touch src).respond src .invalidSecurity stDenied 0 []

/-- A command of a session (R405, R434, R438, R440). -/
def State.command (s : State) (src : Sess) (rights : Principal → Bool) (act : Principal → State → State) : State :=
  s.commandWhen src false rights act

/-- A register write of a session with one effect: the effect and its reply status; a status other than OK is answered with
the return code of R440. -/
def State.regCommand (s : State) (src : Sess) (rights : Principal → Bool) (act : Principal → State → State × Nat) : State :=
  s.command src rights fun p s =>
    (act p s).1.respond src (cciOf (act p s).2) (act p s).2 0 []

/-- The address ranges of a region's units (R447): where region 0's begins, and how far one region's reaches. -/
def regionRanges : List (Nat × Nat) :=
  [(0x200000, 0x900), (0x210000, 0x900), (0x300000, 0x9000), (0x400000, 0x1000), (0x410000, 0x1000), (0x500000, 0x4000),
   (0x600000, 0x8000), (0x700000, 0x4000), (0x780000, 0x4000), (0x800000, 0x10000), (0x1000000, 0x100000), (0x2000000, 0x80000),
   (0x2800000, 0x80000), (0x2C00000, 0x9000)]

/-- The address ranges of a block's crossbar and its eight cells. -/
def blockRanges : List (Nat × Nat) :=
  [(0x600000, 0x800), (0x700000, 0x400), (0x780000, 0x400), (0x800000, 0x1000), (0x2000000, 0x8000), (0x2800000, 0x8000)]

/-- An address lies in the i-th reach of some ranges. -/
def inReach (ranges : List (Nat × Nat)) (i a : Nat) : Bool := ranges.any fun e => decide (e.1 + e.2 * i ≤ a ∧ a < e.1 + e.2 * (i + 1))

/-- The instance of a range that an address lies in, none where it lies in none of the first n. -/
def reachOf (ranges : List (Nat × Nat)) (n a : Nat) : Option Nat := (List.range n).find? fun i => inReach ranges i a

/-- A region's traffic can cross: a plane of its seam is up on a plane of the Rose (R29, R306).
[DESIGN CHOICE, log entry 132] -/
def State.crosses (s : State) (g : Nat) : Bool :=
  (s.get (F.seamStatStateA g) == 2 && (s.get F.hubXbarstatMode).testBit 0)
    || (s.get (F.seamStatStateB g) == 2 && (s.get F.hubXbarstatMode).testBit 1)

/-- An address can be reached (R29, R387, R391): its region is powered and a plane of its seam carries traffic, which the seam's own registers at
the Rose do not need, and its block holds a cell that is not OFF.
[DESIGN CHOICE, log entry 132] -/
def State.reach (s : State) (a : Nat) : Bool :=
  (match reachOf regionRanges 8 a with
    | some g => (s.get F.hubTopoRegionPowered).testBit g && (inReach [(0x410000, 0x1000)] g a || s.crosses g)
    | none => true)
  && (match reachOf blockRanges 128 a with
    | some n => (List.range 8).any fun i => !s.chart.isOff (8 * n + i)
    | none => true)

/-- A register write of a session to a register instance that may be unpowered (R391). -/
def State.regCommandAt (s : State) (src : Sess) (a : Nat) (rights : Principal → Bool) (act : Principal → State → State × Nat) : State :=
  s.regCommand src rights fun p s => if s.reach a then act p s else (s, stDenied)

/-- The safe state or its drain stands (R323). -/
def State.safeOn (s : State) : Bool := s.get F.fltSafeState != 0

/-- A background command of this session still runs (R438). -/
def State.bgBusy (s : State) (n : Nat) : Bool := s.bgs.any fun b => b.sess == n && b.live && b.running

/-- Start a background command: Busy when the session has one running, otherwise Background Command Started (R438). -/
def State.startBg (s : State) (src : Sess) (p : Principal) (opcode target : Nat) (act : State → State) : State :=
  if s.bgBusy (sessNum src) then s.respond src .busy stRetry 0 []
  else act (({ s with bgs := ⟨(sessNum src), true, target, p, opcode, true, .backgroundStarted, stOk, 0⟩ :: s.bgs } : State).respond
    src .backgroundStarted stOk 0 [])

/-- Complete the running background command of a session that has the opcode.
[DESIGN CHOICE, log entry 125] -/
def State.endBg (s : State) (n opcode : Nat) (code : Cci) (status detail : Nat) : State :=
  { s with bgs := s.bgs.map fun b =>
      if b.sess == n && b.opcode == opcode && b.running then
        { b with running := false, code := code, status := status, detail := detail } else b }

/-- Complete every running background command that has the opcode and works on the target. -/
def State.endBgOn (s : State) (opcode target : Nat) (code : Cci) (status : Nat) : State :=
  { s with bgs := s.bgs.map fun b =>
      if b.opcode == opcode && b.target == target && b.running then { b with running := false, code := code, status := status } else b }

/-- The reply status a chart result carries (R57). -/
def chartStatus (code : Nat) : Nat :=
  if code = 0 then stOk else if code = 1 then stRetry else if code = 0x0A then stQuotaBelowUse else stDenied

/-- A chart command ends (R57, R58): result code, failing section and offset, DONE; STATE reads QUIESCED again when the data
plane is quiesced and IDLE otherwise; the CHART_CMD that started it completes with the code in DETAIL (R441). -/
def State.endChart (s : State) (code sect loc : Nat) : State :=
  let s1 := s.setAll [(F.chtResultCode, code), (F.chtResultSection, sect), (F.chtErrlocOffset, loc), (F.chtResultDone, 1),
    (F.chtStatusState, if s.chtu.quiesced then 6 else 0)]
  let s2 := match s.chtu.op.bind (·.asker) with
    | some n => s1.endBg n 0xC040 (cciOf (chartStatus code)) (chartStatus code) code
    | none => s1
  { s2 with chtu := { s2.chtu with op := none } }

end Sys2Proof.Machine
end

