-- ==== Sys2Proof/Machine/SwitchOps.lean ====
section
/-! DEFINITION. The switch core's shared operations: binding points and tacks (R77 to R80), classes, berths and colours
(R127, R128, R143), staging (R96 to R98), hem and pool accounting (R104 to R106), shapers (R137 to R139), arbiters
(R130, R131, R135). -/
namespace Sys2Proof.Machine

/-- The slot of a line (R163): seven 6-bit fields XORed. -/
def slotOf (line : Nat) : Nat :=
  (List.range 7).foldl (fun x i => x ^^^ bitsOf line (6 * i) 6) 0

/-- The slice the chart homes a slot at (R163). -/
def Chart.slotHome (c : Chart) (v : Nat) : Nat := c.homeSet.getD (v % c.homeSet.length) 0

/-- The slice that serves a slot, and a line (R163). -/
def State.slotSlice (s : State) (v : Nat) : Nat := s.get (F.hubHomemapSlice v)
def State.lineHome (s : State) (line : Nat) : Nat := s.slotSlice (slotOf line)

/-- The CK_CORE cycle of a time (R18, R102). -/
def atCycle (t : Nat) : Nat := t / coreCycle

/-- The destination region of a staged message (R99): its home's for a coherent request (R164), its output's otherwise. -/
def State.destRegion (s : State) (m : Msg) : Nat := if m.coh.isSome then s.lineHome (m.addr / 64) / 9 else m.out / 128

/-- A binding point by number: 17 × lead cell for the pleat itself, 1 + k more for its logical device k. -/
def pointOf (lead : Nat) (ld : Option Nat) : Nat := 17 * lead + (match ld with | none => 0 | some k => k + 1)
def pointLead (pt : Nat) : Nat := pt / 17
def pointLd (pt : Nat) : Option Nat := if pt % 17 = 0 then none else some (pt % 17 - 1)

/-- A binding point's current tack (R90). -/
def State.tack (s : State) (pt : Nat) : Nat :=
  match pointLd pt with
  | none => s.get (F.celTackCurrent (pointLead pt))
  | some k => s.get (F.celLdbindTack (pointLead pt) k)

/-- A DSP's binding point is bound to a vPPB; its virtual switch (R89). -/
def State.pointBound (s : State) (pt : Nat) : Bool :=
  match pointLd pt with
  | none => s.flag (F.celBindBound (pointLead pt))
  | some k => s.flag (F.celLdbindBound (pointLead pt) k)

def State.pointVcs (s : State) (pt : Nat) : Nat :=
  match pointLd pt with
  | none => s.get (F.celBindVcs (pointLead pt))
  | some k => s.get (F.celLdbindVcs (pointLead pt) k)

/-- The berth of the requests that come from a binding point of a USP or DSP pleat (R128): that of its virtual switch. -/
def State.pointBerth (s : State) (pt : Nat) : Option Nat :=
  if s.chart.isUsp (pointLead pt) then (s.chart.vsOf (pointLead pt)).map s.chart.vsBerth
  else if s.pointBound pt then some (s.chart.vsBerth (s.pointVcs pt)) else none

/-- What the sender of a message sees when the module answers in its target's place (R77, R84, R323); FNL requests and the homes
behind snoops get the reply status. -/
def answerOf (kind : MsgKind) (st : Nat) : Answer :=
  match kind with
  | .ioNonPosted => .unsupportedRequest
  | .memRead | .cacheRead => .poisonedData
  | .memWrite => .normalCompletion
  | .cacheWrite => .goErr
  | .fnlRequest | .snoop => .fnlStatus st
  | .ioPosted | .snoopResponse | .response | .management => .nothing

def isResponse : MsgKind → Bool
  | .response | .snoopResponse => true
  | _ => false

/-- Requests that a partner answers. -/
def nonPosted : MsgKind → Bool
  | .ioNonPosted | .memRead | .memWrite | .cacheRead | .cacheWrite | .fnlRequest | .snoop => true
  | _ => false

/-- Staging partitions per cell (R97): the dedicated partition of a class under a personality, and the shared area. -/
def stgPart (personality : Nat) (fc : FcClass) : Nat :=
  match personality, fc with
  | 3, .req => 32
  | 3, .snp | 3, .rsp | 3, .sync => 16
  | 3, .data => 64
  | 3, .mgt => 8
  | 1, .ioPosted | 2, .ioPosted | 1, .ioCompletion | 2, .ioCompletion => 24
  | 1, .ioNonPosted | 2, .ioNonPosted => 16
  | 1, .m2sReq => 16
  | 1, .m2sRwd => 48
  | 1, .h2dReq | 1, .h2dRsp => 8
  | 1, .h2dData => 16
  | 2, .s2mNdr => 24
  | 2, .s2mDrs => 48
  | 2, .d2hReq | 2, .d2hRsp => 8
  | 2, .d2hData => 16
  | _, _ => 0

/-- The credits a CXL or PCIe cell advertises for a class (R97): headers, or messages of CXL.mem and CXL.cache, and 16 B data credits. -/
def fcHeaders (fc : FcClass) : Nat :=
  match fc with
  | .ioPosted | .ioCompletion | .h2dReq | .h2dRsp | .h2dData | .d2hReq | .d2hRsp | .d2hData => 8
  | .ioNonPosted => 12
  | .m2sReq => 16
  | .m2sRwd | .s2mNdr | .s2mDrs => 24
  | _ => 0
def fcData (fc : FcClass) : Nat :=
  match fc with
  | .ioPosted | .ioCompletion => 64
  | .ioNonPosted => 16
  | _ => 0

/-- The CXL.io and PCIe classes. -/
def ioClass : FcClass → Bool
  | .ioPosted | .ioNonPosted | .ioCompletion => true
  | _ => false

/-- The 16 B data credits a message takes (R97). -/
def Msg.dataCredits (m : Msg) : Nat := if ioClass m.fc then (m.bytes + 15) / 16 else 0

def stgShared (personality : Nat) : Nat :=
  if personality = 3 then 104 else if personality = 1 then 96 else if personality = 2 then 88 else 0

/-- The segments of a message charged to a class's partition: on FNL its header to its own class and its data slots to DATA (R283);
elsewhere all of it to its class. -/
def Msg.charge (m : Msg) (fnl : Bool) (fc : FcClass) : Nat :=
  if fnl then (if m.fc = fc then 1 else 0) + (if fc = .data then m.stg - 1 else 0) else if m.fc = fc then m.stg else 0

/-- Messages of a class that hold dedicated credits of a CXL or PCIe pleat, and their data credits (R97). -/
def State.fcHeld (s : State) (p : Nat) (fc : FcClass) : Nat × Nat :=
  let l := s.core.staged.filter fun m => m.src == p && m.fc == fc && !m.shared
  (l.length, sumOf (l.map Msg.dataCredits))

/-- Segments charged to a class's dedicated partition, and to the shared area, of a pleat. -/
def State.stgDedicated (s : State) (p : Nat) (fc : FcClass) : Nat :=
  sumOf ((s.core.staged.filter fun m => m.src == p && !m.shared).map fun m => m.charge (s.chart.isFnl p) fc)
def State.stgSharedUsed (s : State) (p : Nat) : Nat := s.stgUsed p fun m => m.shared

/-- Note the pleat's highest staging use (R120). -/
def State.notePeak (s : State) (p : Nat) : State :=
  s.set (F.blkStgholdPeak (p / 8) (p % 8)) (max (s.get (F.blkStgholdPeak (p / 8) (p % 8))) (s.stgUsed p fun _ => true))

/-- Lanes and the raw rate in Mbit/s at which a pleat's link runs. -/
def widthLanes (w : Nat) : Nat := if w = 0 then 0 else 2 ^ (w - 1)
def laneRate (fnl : Bool) (r : Nat) : Nat :=
  if fnl then 56000 * (r + 1) else match r with
    | 0 => 2500
    | 1 => 5000
    | 2 => 8000
    | 3 => 16000
    | 4 => 32000
    | _ => 64000
def State.rawRate (s : State) (p : Nat) : Nat :=
  widthLanes (s.get (F.celLinkstatWidthNow p)) * laneRate (s.chart.isFnl p) (s.get (F.celLinkstatRateNow p))

/-- The framing factor of a link that is up (R108, R137): numerator and denominator. -/
def framingOf (fnl : Bool) (flit rate : Nat) : Nat × Nat :=
  if fnl then (8, 9) else if flit = 1 then (16, 17) else if 2 ≤ flit then (15, 16) else if rate ≤ 1 then (4, 5) else (64, 65)

/-- The factor a shaper charges by (R137): of the framing the pleat last trained with, or by personality before its first
training. -/
def State.factor (s : State) (p : Nat) : Nat × Nat :=
  SMap.getD s.core.framing p (if s.chart.isFnl p then (8, 9) else (15, 16))

/-- The forwarding rate (R108) in Mbit/s times the factor's numerator, and the denominator: none while the link is down. -/
def State.forwarding (s : State) (p : Nat) : Nat × Nat := (s.rawRate p * (s.factor p).1, (s.factor p).2)

/-- The pleat's framing permits cut-through (R108). -/
def State.ctFraming (s : State) (p : Nat) : Bool := s.chart.isFnl p || s.get (F.celLinkstatFlitNow p) != 1

/-- A message's charged length (R137) in 1/256 B, rounded down; on FNL a header slot and whole data slots (R282).
[DESIGN CHOICE, log entry 37] -/
def State.charged (s : State) (o : Nat) (m : Msg) : Nat :=
  (if s.chart.isFnl o then 64 + 64 * ((m.bytes + 63) / 64) else m.bytes + m.header) * 256 * (s.factor o).2 / (s.factor o).1

/-- The class by which an output queues and schedules a message (R129). -/
def Chart.effClass (c : Chart) (o t : Nat) : Nat := if c.classDisc o t = 0 then 0 else t

/-- Segments charged to a hem entry (R104). -/
def State.hemUse (s : State) (g i : Nat) : Nat :=
  sumOf ((s.core.bolt.filter fun m => m.out / 128 == g).map fun m =>
    (if m.own = some i then m.tb else 0) + (if m.any = some i then m.ta else 0))

/-- Segments that stand charged to hem entries an amendment has removed (R106). -/
def State.orphans (s : State) (g : Nat) : Nat := sumOf ((s.core.bolt.filter fun m => m.out / 128 == g).map (·.orphan))

/-- The free pool F (R104), signed; the charge on a removed entry leaves it with its message (R106). -/
def State.freePool (s : State) (g : Nat) : Int :=
  (s.get (F.rgnBoltcapCapacity g) : Int)
    - (sumOf (((s.chart.hems g).filter (s.chart.hemValid g)).map fun i => max (s.chart.hemSize g i) (s.hemUse g i)) : Int)
    - (sumOf ((s.core.bolt.filter fun m => m.out / 128 == g).map (·.pool)) : Int) - (s.orphans g : Int)

/-- The pool segments of an output queue (R104). -/
def State.queuePool (s : State) (o t : Nat) (berth : Option Nat) : Nat :=
  sumOf ((s.core.bolt.filter fun m => m.out == o && m.qcls == t && m.berth == berth).map (·.pool))

/-- room(e) of R105. -/
def State.hemRoom (s : State) (g : Nat) (e : Option Nat) : Nat :=
  match e with
  | none => 0
  | some i => if s.flag (F.rgnHemOverq g i) then 0 else s.chart.hemSize g i - s.hemUse g i

/-- FREE has gone below zero (R116, R121). -/
def State.noteFree (s : State) (g : Nat) : State :=
  if s.freePool g < 0 then s.set (F.rgnBoltcapBelowZero g) 1 else s

/-- Quota flags clear when use falls strictly below the limit (R115): the hem entries of a region and its berth pools. -/
def State.clearOverq (s : State) (g : Nat) : State :=
  (List.range 64).foldl (fun s k =>
      if s.flag (F.rgnBerthpoolOverq g k) && decide (s.poolUse g k < s.chart.poolCap g k) then s.set (F.rgnBerthpoolOverq g k) 0 else s)
    ((s.chart.hems g).foldl (fun s i =>
      if s.flag (F.rgnHemOverq g i) && decide (s.hemUse g i < s.chart.hemSize g i) then s.set (F.rgnHemOverq g i) 0 else s) s)

/-- The switch core holds no message any more: every charge is gone, and with it every deficit and every quota flag of the regions (R106, R115,
R131). -/
def State.emptyCore (s : State) : State :=
  (List.range 8).foldl (fun s g => s.clearOverq g) ((s.modCore fun u => { u with
    staged := [], bolt := [], records := [], sending := [], gaps := [], places := [], turns := [], spoiled := []
    dwrr := u.dwrr.map fun e => (e.1, { e.2 with begun := false, deficits := [] }) }).modSeam fun u => { u with bad := [], reorder := [] })

/-- The messages the module holds, each once: those staged and not admitted, and those in bolt memory that have not left (R80). -/
def State.heldMsgs (s : State) : List Msg := (s.core.staged.filter fun m => !m.granted) ++ s.core.bolt.filter fun m => !m.filled

/-- The virtual channel of an FNL flow-control class, in CREDIT field order (R279). -/
def vcIndex (fc : FcClass) : Nat :=
  match fc with
  | .req => 0
  | .snp => 1
  | .rsp => 2
  | .data => 3
  | .sync => 4
  | _ => 5

/-- Add to an entry of a list of counts. -/
def addAt (l : List Nat) (i n : Nat) : List Nat := l.set i (l.getD i 0 + n)

/-- Credits go back to a pleat's partner (R98, R285): one header of a class and some data, in segments on FNL, in 16 B data credits
elsewhere. -/
def State.sendCredits (s : State) (p : Nat) (fc : FcClass) (headers data : Nat) : State :=
  if s.chart.isFnl p then
    (((s.modLnk fun u => { u with fnl := SMap.alter u.fnl p fun f => { f with
        returned := (addAt (addAt f.returned (vcIndex fc) headers) 3 data).map (· % 65536)
        given := addAt (addAt f.given (vcIndex fc) headers) 3 data } }).emit (.credits p fc headers))).emit (.credits p .data data)
  else s.emit (.updateFc p fc headers data)

/-- The dedicated credits a message held return to its partner (R98); while the data plane quiesces none is returned (R45). -/
def State.returnCredits (s : State) (m : Msg) : State :=
  let d := if s.chart.isFnl m.src then m.stg - 1 else m.dataCredits
  if s.get F.chtStatusState = 5 then s else s.sendCredits m.src m.fc 1 d

/-- Take a message out of staging: its charge is released, and dedicated credits return to the partner (R98). -/
def State.dropStaged (s : State) (m : Msg) : State :=
  let s1 : State := { s with core := { s.core with staged := s.core.staged.filter (· != m) } }
  if m.shared then s1 else s1.returnCredits m

/-- The staged copy of an admitted message, whose segments still leave for another region (R101). -/
def State.staging (s : State) (m : Msg) : Option Msg := s.core.staged.find? fun x => x.granted && x.src == m.src && x.id == m.id

/-- Nothing of an admitted message stays in staging. -/
def State.unstage (s : State) (m : Msg) : State :=
  match s.staging m with
  | some x => s.dropStaged x
  | none => s

/-- A segment of an admitted message has left staging for the seam (R101); with the last one the charge is released. -/
def State.leaveStaging (s : State) (m : Msg) (idx : Nat) : State :=
  match s.staging m with
  | none => s
  | some x =>
    if x.segs ≤ max x.left (idx + 1) then s.dropStaged x
    else s.modCore fun u => { u with staged := u.staged.map fun y => if y = x then { x with left := max x.left (idx + 1) } else y }

/-- A message of one class may pass an older one of another towards the same region (R99): on CXL.io, only posted requests and completions
pass, and only a non-posted request. -/
def mayPass (fc older : FcClass) : Bool := !(ioClass fc && ioClass older) || (older == .ioNonPosted && fc != .ioNonPosted)

/-- The head of a staging queue (R99): the oldest message of a class towards a region, where it waits behind none that it may not pass. -/
def State.stagingHead (s : State) (p : Nat) (fc : FcClass) (g : Nat) : Option Msg :=
  match s.core.staged.find? fun m => m.src == p && !m.granted && s.destRegion m == g && (m.fc == fc || !mayPass fc m.fc) with
  | some m => if m.fc = fc then some m else none
  | none => none

/-! Bolt memory's banks (R107). -/

/-- A repair's identity: unit, kind, group, macro or bank, row or column.
[DESIGN CHOICE, log entry 113] -/
def repairKey (u kind group mac index : Nat) : Nat :=
  (((u * 4 + kind) * 64 + group) * 256 + mac) * 8192 + index % 8192

/-- The free segments of a bank, numbered 0 to 3,071: those that hold nothing and whose row, of two segments, is in service (R107,
R351). -/
def State.bankFree (s : State) (g b : Nat) : List Nat :=
  (List.range 3072).filter fun i => !(s.core.places.any fun e => e.1 == 3072 * b + i && e.2.1 / 128 == g)
    && !(s.home.shadows.any fun x => x.region == g && x.payload && x.seg == 3072 * b + i)
    && !s.ecc.rowsOut.contains (repairKey g 0 (b / 16) (b % 16) (i / 2))

/-- Both segments of a row are free (R351): the segments that hold something lie elsewhere. -/
def State.rowFree (s : State) (g group mac row : Nat) : Bool :=
  !(s.core.places.any fun e => e.2.1 / 128 == g && decide (e.1 / 2 = 1536 * (16 * group + mac) + row))
    && !(s.home.shadows.any fun x => x.region == g && x.payload && decide (x.seg / 2 = 1536 * (16 * group + mac) + row))

/-- The banks the write allocator of a region may place a segment in (R107): with a free segment, no read in this cycle, and not that of
the message's segment before. -/
def State.writeBanks (s : State) (g : Nat) (before : Option Nat) : List Nat :=
  let l := (List.range 256).filter fun b => !(s.bankFree g b).isEmpty
  match l.filter fun b => SMap.find? s.core.reads (256 * g + b) != some (atCycle s.now) && before != some b with
  | [] => l
  | ok => ok

/-- The place a segment takes (R107): its bank and its place there are free values among those the rule permits.
[DESIGN CHOICE, log entry 141] -/
def State.segPlace (s : State) (g : Nat) (before : Option Nat) : Nat :=
  let l := s.writeBanks g before
  let b := l.getD (Sys2Proof.Config.boltPlace s.core.draws % max 1 l.length) 0
  let f := s.bankFree g b
  3072 * b + f.getD (Sys2Proof.Config.boltPlace (s.core.draws + 1) % max 1 f.length) 0

/-- A segment is written (R107). -/
def State.writeSeg (s : State) (m : Msg) (idx : Nat) : State :=
  let before := (s.core.places.find? fun e => e.2.1 == m.out && e.2.2.1 == m.id && e.2.2.2 + 1 == idx).map (·.1 / 3072)
  let n := s.segPlace (m.out / 128) before
  s.modCore fun u => { u with places := u.places ++ [(n, m.out, m.id, idx)], draws := u.draws + 2 }

/-- A segment is read for its output and its place is free again (R106, R107); the bank performs no write in that cycle. -/
def State.readSeg (s : State) (m : Msg) : State :=
  s.modCore fun u => { u with
    reads := (u.places.filter fun e => e.2.1 == m.out && e.2.2.1 == m.id && e.2.2.2 == m.sent).foldl
      (fun r e => SMap.put r (256 * (m.out / 128) + e.1 / 3072) (atCycle s.now)) u.reads
    places := if m.direct then u.places else u.places.filter fun e => !(e.2.1 == m.out && e.2.2.1 == m.id && e.2.2.2 == m.sent) }

/-- A bulk class of an output that holds no message has deficit 0 and no turn (R131). -/
def State.endDeficit (s : State) (o t : Nat) : State :=
  if s.core.bolt.any fun m => m.out == o && !m.filled && s.chart.effClass o m.qcls == t then s
  else s.modCore fun u => { u with dwrr := SMap.alter u.dwrr o fun d =>
    if d.turn = t then ⟨(t + 1) % 5, false, SMap.del d.deficits t⟩ else { d with deficits := SMap.del d.deficits t } }

/-- The segments of a message that have come to its egress region, those that come after it was filled included (R112). -/
def Msg.got (m : Msg) : Nat := if m.filled then m.left else m.inBolt

/-- Take a message out of bolt memory: its charges go back exactly (R106), what is left of it in staging goes too, and its class may have
emptied (R131). -/
def State.dropBolt (s : State) (m : Msg) : State :=
  let s1 := s.modCore fun u => { u with
    bolt := u.bolt.filter (· != m), places := u.places.filter fun e => !(e.2.1 == m.out && e.2.2.1 == m.id) }
  ((s1.unstage m).endDeficit m.out (s.chart.effClass m.out m.qcls)).clearOverq (m.out / 128)

/-- Shaper j of output o (R138): rate in Mbit/s and burst in bytes; 8 to 15 are the berths' egress limits.
[DEDUCED, log entry 38] -/
def Chart.shaper (c : Chart) (o j : Nat) : Nat × Nat :=
  if j < 8 then (c.shaperRate o j, c.shaperBurst o j)
  else match (c.egress o)[j - 8]? with
    | some (_, r, b) => (r, b)
    | none => (0, 0)

def State.shaperOf (s : State) (o j : Nat) : Shaper := SMap.getD s.core.shapers (16 * o + j) ⟨0, s.core.since, none⟩

/-- accrue of R139, to 1/256 B.
[DESIGN CHOICE, log entry 37] -/
def Shaper.accrue (x : Shaper) (rate burst now : Nat) : Shaper :=
  { x with debt := max (x.debt - (rate * (now - x.last) * 32 / 1000000 : Nat)) (-(256 * burst : Nat)), last := now }

/-- park of R139: the slot where the shaper is evaluated again. -/
def Shaper.park (x : Shaper) (rate now : Nat) : Shaper :=
  { x with slot := some (now / 10000 + min 4095 (max 1 ((x.debt.toNat * 25 + rate * 8 - 1) / (rate * 8)))) }

/-- A change of a shaper's rate and burst (R141): the debt accrues under the old rate and stays in bytes; a positive debt is parked again under
the new rate, a credit is clipped to the new burst. -/
def Shaper.change (x : Shaper) (old new : Nat × Nat) (now : Nat) : Shaper :=
  let y := x.accrue old.1 old.2 now
  if new.1 = 0 then { y with slot := none }
  else if 0 < y.debt then y.park new.1 now
  else { y with debt := max y.debt (-(256 * new.2 : Nat)) }

/-- on_send of R139.
[DESIGN CHOICE, log entry 37; DEDUCED, log entry 38] -/
def State.shaperSend (s : State) (o j len : Nat) : State :=
  let (rate, burst) := s.chart.shaper o j
  if rate = 0 then s
  else
    let x := (s.shaperOf o j).accrue rate burst s.now
    let y := { x with debt := x.debt + len }
    let z := if 0 < y.debt then y.park rate s.now else y
    { s with core := { s.core with shapers := SMap.put s.core.shapers (16 * o + j) z } }

/-- on_slot of R139. -/
def State.shaperSlot (s : State) (o j : Nat) : State :=
  let (rate, burst) := s.chart.shaper o j
  let x := (s.shaperOf o j).accrue rate burst s.now
  let z := if x.debt ≤ 0 ∨ rate = 0 then { x with slot := none } else x.park rate s.now
  { s with core := { s.core with shapers := SMap.put s.core.shapers (16 * o + j) z } }

/-- The shapers that gate a class and berth at an output (R138): the class's own and the berth's in TC0 to TC5. -/
def State.gating (s : State) (o t : Nat) (berth : Option Nat) : List Nat :=
  t :: (if t ≤ 5 then (List.range 8).filterMap fun i =>
    match (s.chart.egress o)[i]? with
    | some (k, r, _) => if berth = some k ∧ r ≠ 0 then some (8 + i) else none
    | none => none else [])

/-- A shaper holds (R139): it is in force and parked. -/
def State.held (s : State) (o j : Nat) : Bool := (s.chart.shaper o j).1 != 0 && (s.shaperOf o j).slot.isSome

/-- The berths with a queue of a class at an output, and the head of each queue, oldest first. -/
def State.queueHead (s : State) (o t : Nat) (b : Nat) : Option Msg :=
  s.core.bolt.find? fun m => m.out == o && !m.filled && s.chart.effClass o m.qcls == t && m.berth.getD 64 == b

/-- A head may start (R110): its first segment is in bolt memory under cut-through, its last under store-and-forward. -/
def Msg.canStart (m : Msg) : Bool := if m.cut then decide (1 ≤ m.inBolt) else decide (m.segs ≤ m.inBolt)

/-- A TC0 message admitted after an amendment disabled a class of its output waits until the messages of that class have gone
(R129). -/
def State.behindDisabled (s : State) (o : Nat) (m : Msg) : Bool :=
  m.qcls == 0 && s.core.bolt.any fun x => x.out == o && !x.filled && x.qcls != 0 && s.chart.effClass o x.qcls == 0
    && (SMap.find? s.core.disabledAt (8 * o + x.qcls)).any fun t => decide (t ≤ m.admitted)

/-- The queues of a class at an output whose heads may start, by berth. -/
def State.waitingQueues (s : State) (o t : Nat) : List Nat :=
  (List.range 65).filter fun b => (s.queueHead o t b).any fun m => m.canStart && !s.behindDisabled o m

/-- The ready queues of a class at an output, by berth (R130): no shaper that gates them holds. -/
def State.readyQueues (s : State) (o t : Nat) : List Nat :=
  (s.waitingQueues o t).filter fun b => (s.queueHead o t b).any fun m => (s.gating o t m.berth).all fun j => !s.held o j

/-- The weight of a cell arbiter's input: as refreshed, 1 where it reads 0 (R134). -/
def State.weightOf (s : State) (o t b : Nat) : Nat := max 1 (SMap.getD s.core.weights ((8 * o + t) * 65 + b) 0)

/-- acc saturates as a signed 24-bit figure (R135). -/
def sat24 (x : Int) : Int := max (-8388608) (min 8388607 x)

/-- The winner of grant (R135): the largest balance, on a tie the lowest index after the last. -/
def arbWinner (acc : Nat → Int) (last : Nat) (r : List Nat) : Option Nat :=
  r.foldl (fun best i => match best with
    | none => some i
    | some j => if acc j < acc i ∨ (acc i = acc j ∧ (i + 64 - last) % 65 < (j + 64 - last) % 65) then some i else some j) none

/-- grant of R135 over the requesting inputs r, with the winner named when a message is already open. -/
def Arb.grant (a : Arb) (weight : Nat → Nat) (r : List Nat) (forced : Option Nat) : Arb × Option Nat :=
  let total := sumOf (r.map weight)
  let acc1 := fun i => if r.contains i then sat24 (SMap.getD a.acc i 0 + weight i) else min (SMap.getD a.acc i 0) 0
  match (match forced with | some w => some w | none => arbWinner acc1 a.last r) with
  | none => (a, none)
  | some w =>
    (⟨((List.range 65).filterMap fun i =>
        let v := if i = w then sat24 (acc1 i - total) else acc1 i
        if v = 0 then none else some (i, v)), w⟩, some w)

def State.arbOf (s : State) (o t : Nat) : Arb := SMap.getD s.core.arbs (8 * o + t) ⟨[], 64⟩

/-- pick_queue of R130: the arbiter after the grant and the berth it grants. -/
def State.pickQueue (s : State) (o t : Nat) : Arb × Option Nat :=
  (s.arbOf o t).grant (s.weightOf o t) (s.readyQueues o t) none

/-! Arbiters of blocks, regions, seams and the Rose (R133, R135). -/

/-- Their numbers: a block towards a region, a region's admission and write slots, a region's seam towards a region, a plane of the Rose
towards a region. -/
def blockArb (n d : Nat) : Nat := 8 * n + d
def regionArb (g : Nat) : Nat := 1024 + g
def seamArb (g d : Nat) : Nat := 1040 + 8 * g + d
def roseArb (l d : Nat) : Nat := 1104 + 8 * l + d

/-- One slot of such an arbiter (R135): the input it grants among those that request, and its balances after. An input that its weight
reads 0 for weighs 1 (R134). -/
def State.slotGrant (s : State) (k : Nat) (weight : Nat → Nat) (r : List Nat) (forced : Option Nat) : Option Nat × State :=
  let x := (SMap.getD s.core.slots k ⟨[], 64⟩).grant (fun i => max 1 (weight i)) r forced
  (x.2, s.modCore fun u => { u with slots := SMap.put u.slots k x.1 })

/-- Where a block's input weights stand among CoreUnit.weights. -/
def blockWeight (n d c : Nat) : Nat := 600000 + 8 * blockArb n d + c

/-- A block's arbiter passes a segment of a staged message towards its region (R133, R135). -/
def State.blockSlot (s : State) (m : Msg) : State :=
  let n := m.src / 8
  let d := m.out / 128
  (s.slotGrant (blockArb n d) (fun c => SMap.getD s.core.weights (blockWeight n d c) 0)
    ((m.src % 8 :: (s.core.staged.filter fun x => x.src / 8 == n && s.destRegion x == d).map (·.src % 8)).eraseDups) (some (m.src % 8))).2

/-- The seam and the Rose pass a segment towards its region (R133, R135). -/
def State.crossSlots (s : State) (m : Msg) (l : Nat) : State :=
  let a := m.src / 128
  let d := m.out / 128
  let there := s.core.staged.filter fun x => x.granted && x.out / 128 == d
  let s1 := (s.slotGrant (seamArb a d) (fun i => s.get (F.rgnArbwSeamW a i))
    ((m.src / 8 % 16 :: (there.filter fun x => x.src / 128 == a).map (·.src / 8 % 16)).eraseDups) (some (m.src / 8 % 16))).2
  (s1.slotGrant (roseArb l d) (fun i => s.get (F.hubArbw (8 * i + d))) ((a :: there.map (·.src / 128)).eraseDups) (some a)).2

/-- A region has a working copy of its sash (R101, R125). -/
def State.sashUp (s : State) (g : Nat) : Bool := (s.get F.hubXbarstatSashUp).testBit g

/-- The message the arbiter of a class would send next. -/
def State.pickMsg (s : State) (o t : Nat) : Option Msg := (s.pickQueue o t).2.bind (s.queueHead o t)

/-- DWRR (R131): from the class whose turn it is, the class that sends next and the arbiter then. A class that empties loses its
deficit; one held by its shaper is skipped with its deficit kept; a ready class adds its quantum once on its turn and sends while
its head is within the deficit. -/
def State.dwrrNext (s : State) (o : Nat) : Nat → Dwrr → Option (Nat × Dwrr)
  | 0, _ => none
  | n + 1, d =>
    let t := d.turn
    let pass : Dwrr := { d with turn := (t + 1) % 5, begun := false }
    if (List.range 65).all fun b => (s.queueHead o t b).isNone then
      s.dwrrNext o n { pass with deficits := SMap.del d.deficits t }
    else match s.pickMsg o t with
      | none => s.dwrrNext o n pass
      | some m =>
        let have_ := SMap.getD d.deficits t 0 + (if d.begun then 0 else s.chart.classWeight o t * 512 * 256)
        if s.charged o m ≤ have_ then
          some (t, { d with begun := true, deficits := SMap.put d.deficits t (have_ - s.charged o m) })
        else s.dwrrNext o n { pass with deficits := SMap.put d.deficits t have_ }

def State.dwrrOf (s : State) (o : Nat) : Dwrr := SMap.getD s.core.dwrr o ⟨0, false, []⟩

/-- next_message of R130: the class served and the bulk arbiter then; 120 visits of the bulk classes reach the largest message
at the smallest quantum. -/
def State.nextClass (s : State) (o : Nat) : Option (Nat × Dwrr) :=
  match [7, 6, 5].find? fun t => !(s.readyQueues o t).isEmpty with
  | some t => some (t, s.dwrrOf o)
  | none => if (List.range 5).any fun t => !(s.readyQueues o t).isEmpty then s.dwrrNext o 120 (s.dwrrOf o) else none

/-- A lane of the pleat sends or receives a quiet window now (R132). -/
def State.quietNow (s : State) (o : Nat) : Bool :=
  (SMap.find? s.lan.windows o).any fun u => decide (s.now < u)

/-- The berth and the Pilot hear of a stale or unbound message (R77). -/
def State.raiseBinding (s : State) (berth : Option Nat) : State := s.raise atBinding (berth.toList ++ [audPilot])

/-- A message is turned away at a binding point because its tack is stale or its target unbound (R77): the sender's answer, the
counter, BINDING to the berth and to the Pilot.
[DEDUCED, log entry 42] -/
def State.turnAway (s : State) (m : Msg) : State :=
  let s1 := if isResponse m.kind then s.bump (F.celStaleRspDiscard (pointLead m.point)) 1
    else (s.bump (F.celStaleReqUnbound (pointLead m.point)) 1).emit (.answer m.src m.id (answerOf m.kind stUnbound))
  s1.raiseBinding m.berth

/-- The message meets its binding point as it was when it was stamped (R77), and a DSP's is bound. -/
def State.deliverable (s : State) (m : Msg) : Bool :=
  s.tack m.point == m.tack && (isResponse m.kind || m.kind == .management || !s.chart.isDsp (pointLead m.point) || s.pointBound m.point)

/-- The open message of an output. -/
def State.openMsg (s : State) (o : Nat) : Option Msg :=
  (SMap.find? s.core.sending o).bind fun id => s.core.bolt.find? fun m => m.out == o && m.id == id

/-- A message has left its output: the output is free, and a request that wants an answer leaves its record at the binding point (R77), but
for a TLP that was nullified (R112). -/
def State.closeMsg (s : State) (o : Nat) (m : Msg) (poisoned : Bool) : State :=
  (s.modCore fun u => { u with
    sending := SMap.del u.sending o
    gaps := SMap.del u.gaps o
    records := if nonPosted m.kind && !(m.filled && ioClass m.fc && !s.chart.isFnl o) then
        u.records ++ [⟨m.id, m.kind, m.point, m.tack, m.cls, m.berth, m.src, s.now, m.denied⟩] else u.records
    spoiled := u.spoiled.filter (· != (m.src, m.id)) }).emit
    (.delivered o m.id (poisoned || s.core.spoiled.contains (m.src, m.id)))

/-- A message ends at its output: its charges are credited back (R106). -/
def State.endMsg (s : State) (o : Nat) (m : Msg) (poisoned : Bool) : State := (s.dropBolt m).closeMsg o m poisoned

/-! The FNL link layer's replay buffer, which an output's segments go into (R280, R287). -/

/-- An FNL link layer before any training. -/
def newFnl : FnlLink :=
  { buffer := [], oldReplays := 0, nakOut := false, nakAt := 0, badRun := 0, lockRun := 0, credits := [0, 0, 0, 0, 0, 0],
    lastCredit := [0, 0, 0, 0, 0, 0], returned := [0, 0, 0, 0, 0, 0], given := [0, 0, 0, 0, 0, 0], csyncAt := none, openData := 0,
    stage := 1, rate := 1, good := 0, width := 0, high := false, retiring := false, noResume := false, peerPhase := 0, peerZalhel := false,
    peerRates := 0, peerGood := 0, peerRx := 0, peerResume := false, peerCredits := [0, 0, 0, 0, 0, 0] }

def State.fnl (s : State) (p : Nat) : FnlLink := SMap.getD s.lnk.fnl p newFnl

def State.setFnl (s : State) (p : Nat) (f : FnlLink) : State := s.modLnk fun u => { u with fnl := SMap.put u.fnl p f }

/-- FNL.SEQ and its outstanding count (R287), with the replay buffer given. -/
def State.setBuffer (s : State) (p : Nat) (l : List SentCw) : State :=
  (s.setFnl p { s.fnl p with buffer := l }).set (F.fnlSeqOutstanding p) l.length

/-- The replay pool of a pleat in codewords (R287). -/
def State.pool (s : State) (p : Nat) : Nat := 128 * s.chart.cells p

/-- The data slots of a message. -/
def dataSlots (m : Msg) : Nat := (m.bytes + 63) / 64

/-- A codeword closes with its fourth slot or the message's last (R275, R280): the header slot and data slots follow one another.
[DEDUCED, log entry 44] -/
def closesCw (m : Msg) : Bool := dataSlots m == 0 || (m.sent + 1) % 4 == 3 || m.sent + 1 == dataSlots m

/-- An FNL output may hand over its next segment: the replay pool has room for a codeword (R287). -/
def State.cwRoom (s : State) (o : Nat) : Bool :=
  !s.chart.isFnl o || decide ((s.fnl o).buffer.length < min 1024 (s.pool o))

/-- A sequenced codeword leaves an FNL pleat and stays in its replay buffer (R280): it carries the colour its message was admitted with
(R143), and filler slots are poisoned (R112).
[DEDUCED, log entry 44] -/
def State.sendCw (s : State) (o : Nat) (m : Msg) : State :=
  if s.chart.isFnl o && closesCw m then
    let n := s.get (F.fnlSeqTxNext o)
    ((s.setBuffer o ((s.fnl o).buffer ++ [⟨n, s.now, m.id, m.sent, m.colour, decide (m.inBolt ≤ m.sent)⟩])).set (F.fnlSeqTxNext o)
      ((n + 1) % 4096)).emit (.codeword o n m.id m.sent m.colour (decide (m.inBolt ≤ m.sent)))
  else s

/-- A message filled to its end leaves its output (R112): segments that still come are released as they come, and the last of them gives
its charges back. -/
def State.endFilled (s : State) (o : Nat) (m : Msg) : State :=
  if m.got = m.segs then s.endMsg o m true
  else (s.modCore fun u => { u with bolt := u.bolt.map fun x => if x = m then { m with sent := m.segs } else x }).closeMsg o m true

/-- An output goes on with the filler of its open message (R112): on FNL as the replay pool has room, the rest as codewords are
acknowledged. -/
def State.fillOn (s : State) (o : Nat) : Nat → State
  | 0 => s
  | n + 1 =>
    match s.openMsg o with
    | none => s
    | some m =>
      if m.filled && s.cwRoom o && !s.quietNow o then
        let s1 := s.sendCw o m
        if m.sent + 1 = m.segs then s1.endFilled o m
        else (s1.modCore fun u => { u with bolt := u.bolt.map fun x => if x = m then { m with sent := m.sent + 1 } else x }).fillOn o n
      else s

/-- A message is completed with poisoned filler (R112): the fill is counted, POISON is raised to the Pilot and the message's berth,
and its input cell and class are demoted in the output's region; a CXL or PCIe output poisons its data, or nullifies a TLP. -/
def State.fillMsg (s : State) (o : Nat) (m : Msg) : State :=
  let g := o / 128
  let s0 := s.modCore fun u => { u with gaps := SMap.del u.gaps o, bolt := u.bolt.map fun x =>
    if x = m then { m with filled := true, left := m.inBolt } else x }
  let s1 := ((if s.chart.isFnl o then s0 else s0.emit (.filler o m.id (m.segs - m.inBolt) (ioClass m.fc))).bump
    (F.rgnCtstatPoisonFills g) 1).raise atPoison (m.berth.toList ++ [audPilot])
  let s2 := if s.get (F.rgnCtctlDemote g) = 0 then s1
    else (s1.set (F.rgnCtstatDemoted g) 1).modCore fun u => { u with
      demoted := SMap.put u.demoted (8192 * g + 8 * m.src + m.cls) (s.now + usec (100 * s.get (F.rgnCtctlDemote g))) }
  s2.fillOn o 64

/-- A requester's LINK_DOWN reply (R297): its answer, counted at the pleat that gave it, and LINK raised to its berth. -/
def State.linkDownReply (s : State) (src id : Nat) (kind : MsgKind) (berth : Option Nat) : State :=
  if nonPosted kind then
    let s1 := s.emit (.answer src id (answerOf kind stLinkDown))
    match berth with | some k => s1.raise atLink [k] | none => s1
  else s

/-- A policer after its tokens have come in (R143, RFC 2697 and 2698).
[DEDUCED, log entry 39] -/
def State.policer (s : State) (p k : Nat) : Policer :=
  let cbs := 8000000 * s.chart.policeCbs p k
  let ebs := 8000000 * s.chart.policeEbs p k
  let x := SMap.getD s.core.policers (64 * p + k) ⟨cbs, ebs, s.now⟩
  let c := s.chart.policeCir p k * (s.now - x.last)
  if s.chart.policeMode p k = 1 then
    ⟨min cbs (x.tc + c), min ebs (x.tx + (x.tc + c - cbs)), s.now⟩
  else ⟨min cbs (x.tc + c), min ebs (x.tx + s.chart.policePir p k * (s.now - x.last)), s.now⟩

/-- The class of a request by its kind (R127): the berth's class map on CXL, the header's class on FNL. -/
def Chart.classMap (c : Chart) (k : Nat) (kind : MsgKind) (addr : Nat) : Nat :=
  if c.inAperture addr then bitsOf (c.berthWord k 0) 20 3
  else match kind with
    | .memRead => bitsOf (c.berthWord k 0) 11 3
    | .memWrite => bitsOf (c.berthWord k 0) 14 3
    | .cacheRead | .cacheWrite => bitsOf (c.berthWord k 0) 17 3
    | _ => bitsOf (c.berthWord k 0) 8 3

/-- An FNL header's class is corrected at ingress (R127). -/
def classFixup (fc : FcClass) (cls : Nat) : Bool := (cls == 6 && fc != .snp) || (cls == 7 && fc != .mgt)

/-- The meters of RFC 2697 and RFC 2698 with a pre-colour (green where the meter is colour-blind): the colour and the buckets. -/
def meter (mode pre b : Nat) (x : Policer) : Nat × Policer :=
  if mode = 1 then
    if pre = 0 ∧ b ≤ x.tc then (0, { x with tc := x.tc - b })
    else if pre ≤ 1 ∧ b ≤ x.tx then (1, { x with tx := x.tx - b })
    else (2, x)
  else if 2 ≤ pre ∨ x.tx < b then (2, x)
  else if pre = 1 ∨ x.tc < b then (1, { x with tx := x.tx - b })
  else (0, { x with tc := x.tc - b, tx := x.tx - b })

/-- The colour of a message (R142, R143), with its policer's buckets and counters moved on.
[DEDUCED, log entry 39] -/
def State.colour (s : State) (p : Nat) (kind : MsgKind) (cls : Nat) (berth : Option Nat) (pre segs : Nat) : Nat × State :=
  match berth with
  | none => (0, s)
  | some k =>
    if isResponse kind || decide (6 ≤ cls) || s.chart.policeMode p k == 0 then (0, s)
    else
      let r := meter (s.chart.policeMode p k) (if s.chart.isFnl p then min pre 2 else 0) (64 * segs * 8000000) (s.policer p k)
      let s1 : State := { s with core := { s.core with policers := SMap.put s.core.policers (64 * p + k) r.2 } }
      (r.1, if r.1 = 1 then s1.bump (F.celPoliceYellow p k) 1 else if r.1 = 2 then s1.bump (F.celPoliceRed p k) 1 else s1)

/-- The data plane takes new messages in: not while it quiesces, is quiesced or has stopped in the safe state (R45, R323).
[DEDUCED, log entry 41] -/
def State.takesIn (s : State) (p : Nat) : Bool :=
  s.flag (F.celLinkstatUp p) && s.get F.chtStatusState != 5 && s.get F.chtStatusState != 6 && s.get F.fltSafeState != 2

/-- The port IDs this module holds, which it advertises (R71). -/
def State.localIds (s : State) : List Nat := (List.range 4096).filter fun i => s.chart.pbrValid i && s.chart.pbrLocal i

/-- The berth of a request that comes in at a pleat (R128): in its header on FNL, otherwise that of the virtual switch of the USP, of the
DSP, or of the logical device that sent it. -/
def State.ingressBerth (s : State) (p : Nat) (ld : Option Nat) (hberth : Nat) : Option Nat :=
  if s.chart.isFnl p then some hberth
  else s.pointBerth (pointOf p (if s.chart.isUsp p then none else if s.flag (F.celBindMld p) then ld else none))

/-- A request that gets no berth is refused where it comes in (R472): answered as one to an unbound vPPB, counted, BINDING raised to the
Pilot. -/
def State.refuseBerthless (s : State) (p id : Nat) (kind : MsgKind) : State :=
  ((s.bump (F.celStaleReqUnbound p) 1).raise atBinding [audPilot]).emit (.answer p id (answerOf kind stUnbound))

/-- The class and colour of a request of berth k (R127, R142, R143): one correction of an FNL header is counted, whatever it corrects
(R156), and the policer of the berth meters it. -/
def State.ingressClass (s : State) (p k : Nat) (kind : MsgKind) (fc : FcClass) (addr hclass hcolour bytes : Nat) : Nat × Nat × State :=
  let fnl := s.chart.isFnl p
  let fix := fnl && classFixup fc hclass
  let cls := if kind = .management then 7 else if kind = .snoop then 6
    else if fnl then (if fix then 0 else hclass) else s.chart.classMap k kind addr
  let s1 := if fix || (fnl && hcolour == 3) then s.bump (F.celSchedstatFixups p) 1 else s
  let r := s1.colour p kind cls (some k) hcolour (stgSegs bytes)
  (cls, r.1, r.2)

end Sys2Proof.Machine
end

