-- ==== Sys2Proof/Machine/GateOps.lean ====
section
/-! DEFINITION. Access gates (R236 to R246): the verdict on a line, transitions (R48), parts, the violation record, and the gates'
own commands. -/
namespace Sys2Proof.Machine

/-- The gates by number (R236). -/
def gateHome (n : Nat) : Nat := 0x400 + n
def gateLds : Nat := 0x448
def gateMgt : Nat := 0x449

/-- The permissions an access kind needs (R240): R 1, W 2, A 4, C 8. -/
def kindNeeds (kind : Nat) : Nat :=
  match kind with
  | 1 => 1
  | 2 => 2
  | 3 => 9
  | 4 => 11
  | 5 => 7
  | 6 => 4
  | 7 => 4
  | 8 => 10
  | _ => 0

/-- The matching window of a line at a gate (R240): the lowest-numbered enabled one that contains it. -/
def Chart.matchWindow (c : Chart) (n line : Nat) : Option Nat :=
  (c.filterMap fun e => if e.1 / 2 ^ 24 = 11 * 16 ∧ e.1 % 2 ^ 24 / 64 = n then some (e.1 % 64) else none).find? fun i =>
    c.gateEn n i && decide (c.gateStart n i ≤ line ∧ line ≤ c.gateEnd n i)

/-- Why a gate denies a line (R240, R245): the window that matches, or 0x40, and the reason; none where it permits the line. -/
def Chart.verdict (c : Chart) (n line berth kind : Nat) : Option (Nat × Nat) :=
  match c.matchWindow n line with
  | none => some (0x40, 0)
  | some i =>
    if !(c.gateMask n i).testBit berth then some (i, 1)
    else if c.gatePerm n i &&& kindNeeds kind = kindNeeds kind then none
    else some (i, 2)

/-- The verdict in force (R48): in a transition the old windows and the new must both permit the line; the new windows' reason comes
first. -/
def State.verdict (s : State) (n line berth kind : Nat) : Option (Nat × Nat) :=
  if s.chtu.inTransition.contains n then
    (match s.chart.verdict n line berth kind with
      | some d => some d
      | none => s.chtu.oldGates.verdict n line berth kind)
  else s.chart.verdict n line berth kind

/-- The lines an access covers. -/
def linesOf (addr len : Nat) : List Nat := (List.range ((addr + max 1 len - 1) / 64 + 1 - addr / 64)).map (addr / 64 + ·)

/-- The denied lines among some lines. -/
def State.deniedLines (s : State) (n : Nat) (lines : List Nat) (berth kind : Nat) : List Nat :=
  lines.filter fun l => (s.verdict n l berth kind).isSome

/-- A violation (R243, R245): the first is recorded, each is counted, and ACCESS is raised to the berth and the Pilot. -/
def State.violation (s : State) (n line berth kind source : Nat) (parts : Bool) : State :=
  let (w, r) := (s.verdict n line berth kind).getD ((s.chart.matchWindow n line).getD 0x40, 2)
  let s1 := if s.flag (F.gatViolValid n) then s else s.setAll [
    (F.gatViolAddrLo n, line % 2 ^ 32), (F.gatViolAddrHi n, line / 2 ^ 32), (F.gatViolBerth n, berth), (F.gatViolWindow n, w),
    (F.gatViolReason n, r), (F.gatViolKind n, kind), (F.gatViolSource n, source), (F.gatViolParts n, if parts then 1 else 0),
    (F.gatViolValid n, 1)]
  (s1.bump (F.gatViolCount n) 1).raise atAccess [berth, audPilot]

/-- A gate checks a request (R240, R242, R245): the denied lines, and the state with the violation where there is one. -/
def State.gateCheck (s : State) (n : Nat) (lines : List Nat) (berth kind source : Nat) : List Nat × State :=
  match s.deniedLines n lines berth kind with
  | [] => ([], s)
  | l :: r => (l :: r, s.violation n l berth kind source (decide ((l :: r).length < lines.length)))

/-- The gate that a line of a request meets before an output (R236, R237): the home-slice gate of its slot in a shared window, otherwise the
egress gate of a DSP or FNL pleat. -/
def State.lineGate (s : State) (o line : Nat) : Option Nat :=
  if s.chart.isDsp o || s.chart.isFnl o then
    (if (s.chart.sharedWindow line).isSome then some (gateHome (s.chart.slotHome (slotOf line))) else some o)
  else none

/-- The gates before an output judge a message that addresses memory (R236, R237, R242). -/
def State.egressCheck (s : State) (o : Nat) (m : Msg) : List Nat × State :=
  match m.berth with
  | some k =>
    if m.access ≠ 0 then
      let lines := linesOf m.addr m.len
      ((lines.filterMap (s.lineGate o)).eraseDups).foldl (fun r n =>
        let x := r.2.gateCheck n (lines.filter fun l => s.lineGate o l == some n) k m.access m.src
        (r.1 ++ x.1, x.2)) ([], s)
    else ([], s)
  | none => ([], s)

/-- A write of 1 to GAT.VIOL.VALID (R246); a violation of the same CK_MGT cycle stays recorded. -/
def clearViolation (n : Nat) (s : State) : State := if s.freshBits (F.gatViolValid n) = 0 then s.set (F.gatViolValid n) 0 else s

def execViolClear (src : Sess) (n : Fin 1098) (s : State) : Host.Outcome State Fault Refusal :=
  .next (s.regCommandAt src (F.gatViolValid n.val).addr Principal.isPilot fun _ s => (clearViolation n.val s, stOk))

/-- A write of 1 to GAT.CTL.CLR_COUNT (R246). -/
def clearViolations (n : Nat) (s : State) : State := s.set (F.gatViolCount n) 0

def execViolCountClear (src : Sess) (n : Fin 1098) (s : State) : Host.Outcome State Fault Refusal :=
  .next (s.regCommandAt src (F.gatViolValid n.val).addr Principal.isPilot fun _ s => (clearViolations n.val s, stOk))

end Sys2Proof.Machine
end

