-- ==== Sys2Proof/Machine/HomeOps.lean ====
section
/-! DEFINITION. The coherence homes (R160 to R201): slots, agents, directory entries, the owned-line store and filter, snoops,
pool accesses, and how a transaction moves from one wait to the next. -/
namespace Sys2Proof.Machine

/-- The slots of a stretch of lines: any 64 lines that begin at a multiple of 64 cover all slots. -/
def someSlot (lo hi : Nat) (f : Nat → Bool) : Bool :=
  (List.range (min 128 (hi + 1 - lo))).any fun i => f (slotOf (lo + i))

/-- The agent index of an edge port (R161), and the agent that is the host of a USP. -/
def Chart.agentOfPort (c : Chart) (port : Nat) : Option Nat :=
  (List.range 64).find? fun a => c.agentValid a && c.agentPort a == port
def Chart.agentOfUsp (c : Chart) (p : Nat) : Option Nat :=
  (List.range 64).find? fun a => c.agentValid a && c.pbrLocal (c.agentPort a) && c.pbrCell (c.agentPort a) == p

/-- An agent of another module, or the lead cell of its USP here. -/
def Chart.agentCell (c : Chart) (a : Nat) : Option Nat :=
  if c.pbrLocal (c.agentPort a) then some (c.pbrCell (c.agentPort a)) else none

/-- The berth of an agent of this module. -/
def State.agentBerth (s : State) (a : Nat) : Option Nat :=
  (s.chart.agentCell a).bind fun p => s.pointBerth (pointOf p none)

/-- The link an agent's snoops leave by: its USP, or the FNL pleat towards its module. -/
def Chart.agentLink (c : Chart) (a : Nat) : Nat := c.pbrCell (c.agentPort a)

/-- The binding point whose tack its snoops carry (R77). -/
def Chart.agentPoint (c : Chart) (a : Nat) : Nat := pointOf (c.agentLink a) none

def State.agentDead (s : State) (a : Nat) : Bool := s.flag (F.hubAgentDead a)

/-- Bits of a mask of agents. -/
def agentsIn (mask : Nat) : List Nat := (List.range 64).filter fun a => mask.testBit a
def maskOf (l : List Nat) : Nat := l.foldl (fun m a => m ||| 2 ^ a) 0
def dropAgent (mask a : Nat) : Nat := if mask.testBit a then mask - 2 ^ a else mask

/-- A window's lines permit a berth to read to share at the gates that check them (R161, R240, R244): between the ends of a gate's
windows its verdict does not change. -/
def Chart.mayShare (c : Chart) (w k : Nat) : Bool :=
  (c.homeSet.any fun n =>
    let ws := (c.listed 11 0).filter fun i => i / 64 == gateHome n
    let cuts := (c.winStart w :: (ws.map fun i => c.gateStart (i / 64) (i % 64)) ++ ws.map fun i => c.gateEnd (i / 64) (i % 64) + 1).filter
      fun x => decide (c.winStart w ≤ x ∧ x ≤ c.winEnd w)
    cuts.any fun x =>
      let hi := (cuts.filter (x < ·)).foldl (fun m y => min m (y - 1)) (c.winEnd w)
      (c.verdict (gateHome n) x k 3).isNone && someSlot x hi fun v => c.slotHome v == n)

/-- The possible-sharer mask of a window (R161). -/
def State.possibleSharers (s : State) (w : Nat) : List Nat :=
  (List.range 64).filter fun a => s.chart.agentValid a && (match s.chart.agentCell a with
    | none => true
    | some p => match s.pointBerth (pointOf p none) with
      | some k => s.chart.mayShare w k
      | none => false)

/-! Directory entries. -/

def DirEntry.empty (home way : Nat) : DirEntry := ⟨home, way, 0, 0, 0, false, 0, 0, 0, 0⟩

/-- The set of a line (R167). -/
def setOf (line : Nat) : Nat := line % 2 ^ 22

def State.entry (s : State) (line : Nat) : Option DirEntry := SMap.find? s.home.dir line

/-- The entries in use of a line's set at a slice. -/
def State.setEntries (s : State) (home line : Nat) : SMap DirEntry :=
  s.home.dir.filter fun e => e.2.home == home && setOf e.1 == setOf line

/-- A transaction evicts a line. -/
def Txn.evicts (t : Txn) (line : Nat) : Bool := t.victim == line && (t.stage == .evict || t.stage == .evictWrite)

/-- The way for a line's entry (R167, R170): the one its transaction holds, or the lowest that no entry is in and no transaction
holds. -/
def State.freeWay (s : State) (home line : Nat) : Option Nat :=
  match (s.home.txns.find? fun t => t.line == line && t.way.isSome).bind (·.way) with
  | some w => some w
  | none => (List.range 16).find? fun w => !((s.setEntries home line).any fun e => e.2.way == w)
      && !(s.home.txns.any fun t => t.home == home && setOf t.line == setOf line && t.way == some w)

/-- A line has a transaction active or waiting in its queue, or is being evicted. -/
def State.lineBusy (s : State) (line : Nat) : Bool := s.home.txns.any fun t => t.line == line || t.evicts line

/-- The order of eviction among equal ages (R170). -/
def evictRank (e : DirEntry) : Nat := if e.st = 0 then 0 else if e.st = 1 then 1 else if e.st = 2 then 2 else 3

/-- The victim of a full set (R170): among lines with no transaction, the greatest age; then poisoned I, S, O, M or E; then the
lowest way. -/
def State.victim (s : State) (home line : Nat) : Option Nat :=
  ((((s.setEntries home line).filter fun e => !s.lineBusy e.1).foldl (fun (b : Option (Nat × DirEntry)) e => match b with
    | none => some e
    | some x =>
      if x.2.age < e.2.age ∨ (x.2.age = e.2.age ∧ (evictRank e.2 < evictRank x.2 ∨
        (evictRank e.2 = evictRank x.2 ∧ e.2.way < x.2.way))) then some e else some x) none)).map (·.1)

/-- A transaction reads or writes an entry (R170): its age becomes 0 and those of the others in use in the set rise. -/
def State.useEntry (s : State) (line : Nat) : State :=
  match s.entry line with
  | none => s
  | some x => s.modHome fun u => { u with dir := u.dir.map (fun e =>
      if e.1 = line then (e.1, { e.2 with age := 0 })
      else if e.2.home = x.home ∧ setOf e.1 = setOf line then (e.1, { e.2 with age := min 15 (e.2.age + 1) }) else e) }

/-- The owned filter's index of a line (R180), at the chart's slice of its slot.
[DEDUCED, log entry 64] -/
def filterIndex (line : Nat) : Nat := (bitsOf line 0 20) ^^^ (bitsOf line 20 20) ^^^ (bitsOf line 40 6)
/-- [DEDUCED, log entry 64] -/
def State.filterKey (s : State) (line : Nat) : Nat := s.chart.slotHome (slotOf line) * 2 ^ 20 + filterIndex line
def State.presumedO (s : State) (line : Nat) : Bool := (SMap.find? s.home.filter (s.filterKey line)).isSome

/-- A line enters O or leaves it (R180): its counter rises, to stay at 15 once there, or falls. -/
def State.filterUp (s : State) (line : Nat) : State :=
  s.modHome fun u => { u with filter := SMap.put u.filter (s.filterKey line) (min 15 (SMap.getD u.filter (s.filterKey line) 0 + 1)) }
def State.filterDown (s : State) (line : Nat) : State :=
  let n := SMap.getD s.home.filter (s.filterKey line) 0
  s.modHome fun u => { u with filter :=
    if n = 15 then u.filter else if n ≤ 1 then SMap.del u.filter (s.filterKey line) else SMap.put u.filter (s.filterKey line) (n - 1) }

/-- The owned filter of a chart slice is clear once no entry of its lines is left (R180) and no slot of it is in unknown mode, where the
filter names lines that were lost.
[DEDUCED, log entry 64] -/
def State.freeFilter (s : State) (n : Nat) : State :=
  if (s.home.dir.any fun e => s.chart.slotHome (slotOf e.1) == n)
      || (List.range 64).any fun v => s.chart.slotHome v == n && s.flag (F.hubHomemapUnknown v) then s
  else s.modHome fun u => { u with filter := u.filter.filter fun e => e.1 / 2 ^ 20 != n }

/-- Write an entry (R167, R169): one that is in I without poison is freed; the filter follows O. -/
def State.putEntry (s : State) (line : Nat) (x : DirEntry) : State :=
  let was := (s.entry line).any fun e => e.st == 2
  let s1 := s.modHome fun u => { u with dir := if x.st = 0 ∧ x.poison = false then SMap.del u.dir line else SMap.put u.dir line x }
  let s2 := if was && x.st != 2 then s1.filterDown line
    else if !was && x.st == 2 then ((s1.filterUp line).count (ctrHom x.home) 0x47 anySub none 1).count (ctrEcc (x.home / 9)) 0x51 (subOf 2 0) none 1 else s1
  if x.st = 0 ∧ x.poison = false then s2.freeFilter (s.chart.slotHome (slotOf line)) else s2.useEntry line

/-- A line is poisoned (R174): its entry goes to I with POISON set, and its store entry is freed. -/
def State.poisonEntry (s : State) (home line : Nat) : State :=
  let x := (s.entry line).getD (DirEntry.empty home ((s.freeWay home line).getD 0))
  s.putEntry line { x with st := 0, sharers := 0, owner := 0, poison := true, store := 0, value := 0 }

/-- The home poisons a line (R185, R187, R193, R195), and counts it (R200). -/
def State.poisonLine (s : State) (home line : Nat) : State := (s.poisonEntry home line).bump (F.homErrstatPoisoned home) 1

/-- Dead agents at a lookup (R187): their sharer bits are taken as clear, and a line one owns in M or E is poisoned.
[DESIGN CHOICE, log entry 57; DEDUCED, log entry 63] -/
def State.lookup (s : State) (home line : Nat) : State :=
  match s.entry line with
  | none => s
  | some x =>
    if decide (3 ≤ x.st) && s.agentDead x.owner then s.poisonLine home line
    else
      let l := (agentsIn x.sharers).filter fun a => !s.agentDead a
      if maskOf l = x.sharers then s
      else s.putEntry line { x with sharers := maskOf l, st := if x.st = 1 ∧ l = [] then 0 else x.st }

/-- Lines in O: of a window, and of a slice. -/
def State.windowOwned (s : State) (w : Nat) : Nat :=
  (s.home.dir.filter fun e => e.2.st == 2 && decide (s.chart.winStart w ≤ e.1 ∧ e.1 ≤ s.chart.winEnd w)).length
def State.sliceOwned (s : State) (n : Nat) : Nat := (s.home.dir.filter fun e => e.2.st == 2 && e.2.home == n).length

/-- A slice's share of its region's owned-line store, in lines (R176): equal among the region's active slices. -/
def State.storeShare (s : State) (n : Nat) : Nat :=
  2 ^ 26 / max 1 (s.chart.homeSet.filter fun m => m / 9 == n / 9).length

/-- A slice has a share of the store for a slot (R176): it serves the partition of the slot's slice under the chart, its own or one it
adopted. -/
def State.hasShare (s : State) (n v : Nat) : Bool :=
  s.get (F.dirPartStack n) == s.chart.slotHome v / 9 && s.get (F.dirPartIndex n) == s.chart.slotHome v % 9

/-- A line may enter O (R172, R176, R178): its window is native and under its budget, and the slice has a share for the slot with room
in it. -/
def State.roomO (s : State) (w line : Nat) : Bool :=
  let n := s.lineHome line
  !s.chart.winCompat w && decide (s.windowOwned w < s.chart.winBudget w) && s.hasShare n (slotOf line) && decide (s.sliceOwned n < s.storeShare n)

/-- The lowest free index of a slice's share of the store.
[DESIGN CHOICE, log entry 59] -/
def State.storeIndex (s : State) (n : Nat) : Nat :=
  let used := (s.home.dir.filter fun e => e.2.st == 2 && e.2.home == n).map (·.2.store)
  ((List.range (used.length + 1)).find? fun i => !used.contains i).getD 0

/-! Memory. -/

/-- The pool behind a line's window. -/
def State.poolOf (s : State) (line : Nat) : Nat := ((s.chart.sharedWindow line).map s.chart.winPool).getD 0

/-- A cache of so many lines takes one more (R169, R181): one that is full gives up a line first, a free value among those it
holds.
[DESIGN CHOICE, log entry 58] -/
def State.makeRoom (s : State) (size : Nat) (held : List Nat) (line : Nat) : Option Nat × State :=
  if held.contains line ∨ held.length < size then (none, s)
  else (some (held.getD (Sys2Proof.Config.displaced s.home.draws % max 1 held.length) 0), s.modHome fun u => { u with draws := u.draws + 1 })

/-- The memory-side cache of a line's region, 22 GiB (R181, R182), takes a line.
[DESIGN CHOICE, log entry 58] -/
def State.cachePut (s : State) (line data : Nat) (poison : Bool) : State :=
  let g := s.lineHome line / 9
  let r := s.makeRoom 360710144 ((s.home.cache.filter fun e => s.lineHome e.1 / 9 == g).map (·.1)) line
  (r.2.modHome fun u => { u with cache := SMap.put (match r.1 with | some v => SMap.del u.cache v | none => u.cache) line (data, poison) }).count
    (ctrEcc g) 0x51 (subOf 3 0) none 1

/-- A slice's on-die directory cache, 65,536 entries (R169), takes a line's entry.
[DESIGN CHOICE, log entry 58] -/
def State.dirCache (s : State) (home line : Nat) : State :=
  let r := s.makeRoom 65536 ((s.home.dcache.filter fun e => e.2 == home).map (·.1)) line
  r.2.modHome fun u => { u with dcache := SMap.put (match r.1 with | some v => SMap.del u.dcache v | none => u.dcache) line home }

/-! Snoops. -/

def State.txn (s : State) (id : Nat) : Option Txn := s.home.txns.find? fun t => t.id == id
def State.setTxn (s : State) (t : Txn) : State :=
  s.modHome fun u => { u with txns := u.txns.map fun x => if x.id = t.id then t else x }

/-- A transaction writes a line to the pool (R181), which acknowledges it (R169).
[DEDUCED, log entry 55] -/
def State.poolWrite (s : State) (id line data : Nat) (poison : Bool) : State :=
  match s.txn id with
  | some t => (s.setTxn { t with wrote := some (data, poison) }).emit (.poolWrite (s.poolOf line) line data poison)
  | none => s

/-- Trackers in use at a slice (R164): by requests and by home-originated work; those that wait in a queue hold theirs. -/
def Txn.isReq (t : Txn) : Bool := match t.job with | .req _ => true | _ => false
def State.homeWork (s : State) (n : Nat) : Nat := (s.home.txns.filter fun t => t.home == n && !t.isReq).length

/-- Snoops of a berth outstanding in a slice (R166). -/
def State.snpUse (s : State) (n k : Nat) : Nat :=
  (s.home.snoops.filter fun x => x.home == n && x.berth == some k).length

/-- The snoop budget permits one more (R166); home-originated work has none. -/
def State.snoopFits (s : State) (t : Txn) : Bool :=
  match t.berth with
  | some k => !t.isReq || decide (s.snpUse t.home k < s.chart.snoops k)
  | none => true

/-- Send one snoop, to one agent or as a broadcast (R172, R195), stamped with the tack of each agent's binding point (R77).
[DEDUCED, log entry 55] -/
def State.sendSnoop (s : State) (t : Txn) (line : Nat) (agents : List Nat) (op : SnpOp) : State :=
  let s1 := s.modHome fun u => { u with snoops := u.snoops ++
    [⟨t.id, t.home, line, agents, op, if t.isReq then t.berth else none, agents.map fun a => (a, s.now), agents.map fun a => (a, s.tack (s.chart.agentPoint a))⟩] }
  agents.foldl (fun s a => (s.emit (.homeSnoop a op line)).count (ctrHom t.home) 0x41 anySub t.berth 1) s1

/-- Send a transaction's snoops, those beyond its budget kept for later (R166); none goes to a dead agent (R187). -/
def State.sendSnoops (s : State) (t : Txn) (line : Nat) (l : List (Nat × SnpOp)) : State :=
  (l.filter fun x => !s.agentDead x.1).foldl (fun s x =>
    match s.txn t.id with
    | none => s
    | some t1 => if s.snoopFits t1 then s.sendSnoop t1 line [x.1] x.2 else s.setTxn { t1 with todo := t1.todo ++ [x] }) s

/-- A transaction still waits for a snoop. -/
def State.awaits (s : State) (t : Txn) : Bool := t.todo != [] || s.home.snoops.any fun x => x.txn == t.id

/-! The transition tables (R172, R173). -/

def holders (x : DirEntry) : List Nat := agentsIn x.sharers ++ (if 3 ≤ x.st then [x.owner] else [])

/-- The agent holds the line. -/
def holdsLine (x : DirEntry) (a : Option Nat) : Bool := a.any fun i => (holders x).contains i

/-- The agent owns the line in M or E. -/
def ownsLine (x : DirEntry) (a : Option Nat) : Bool := decide (3 ≤ x.st) && a == some x.owner

/-- On CXL a full write is WR_BACK or WR_CLEAN from the owner, and WR_FULL from anyone else (R183).
[DEDUCED, log entry 56] -/
def resolveOp (op : CohOp) (x : DirEntry) (a : Option Nat) : CohOp :=
  match op with
  | .memWr => if ownsLine x a then .wrBack else .wrFull
  | .memWrS => if ownsLine x a then .wrClean else .wrFull
  | o => o

/-- The tables list this request in this state (R171). -/
def listed (op : CohOp) (x : DirEntry) (a : Option Nat) (compat : Bool) : Bool :=
  match op with
  | .rdS | .rdOwn | .rdCur => !ownsLine x a
  | .upg => !ownsLine x a || (compat && x.st == 4)
  | .wrBack | .wrClean => ownsLine x a
  | .evictS => ((x.st == 1 || x.st == 2) && holdsLine x a) || (x.st == 4 && ownsLine x a)
  | .wrFull | .wrPart => true
  | .memWr | .memWrS | .specRd | .other => false

/-- UPG takes its own row (R172, R173): the agent shares the line, or holds it in E. -/
def upgHeld (x : DirEntry) (a : Option Nat) : Bool := ((x.st == 1 || x.st == 2) && holdsLine x a) || (x.st == 4 && ownsLine x a)

/-- The snoops a row sends. -/
def rowSnoops (j : Job) (x : DirEntry) (a : Option Nat) : List (Nat × SnpOp) :=
  match j with
  | .req .rdS => if 3 ≤ x.st then [(x.owner, .data)] else []
  | .req .rdCur => if 3 ≤ x.st then [(x.owner, .cur)] else []
  | .req .rdOwn | .req .upg => ((holders x).filter fun b => a != some b).map fun b => (b, .inv)
  | .req .wrFull | .req .wrPart | .flush => (holders x).map fun b => (b, .inv)
  | _ => []

/-- A row needs the line's current value (R172): reads other than an upgrade in place, and partial writes. -/
def needsValue (j : Job) (x : DirEntry) (a : Option Nat) : Bool :=
  match j with
  | .req .rdS | .req .rdOwn | .req .rdCur | .req .wrPart => true
  | .req .upg => !upgHeld x a
  | _ => false

/-- The bytes of a partial write over the current value (R172): bit i of the mask names byte i. -/
def mergeBytes (old new mask : Nat) : Nat :=
  (List.range 64).foldl (fun v i => v + (if mask.testBit i then new else old) / 256 ^ i % 256 * 256 ^ i) 0

/-- The value a row has before memory is asked: what a snoop returned, or the store. -/
def Txn.held (t : Txn) (x : DirEntry) : Option (Nat × Bool) :=
  match t.got with
  | some d => some (d, false)
  | none => if x.st = 2 then some (x.value, false) else t.value

/-- What a row writes to the pool, with its poison.
[DEDUCED, log entry 60] -/
def rowWrite (j : Job) (t : Txn) (x : DirEntry) (roomO : Bool) : Option (Nat × Bool) :=
  match j with
  | .req .rdS => if x.st = 3 ∧ roomO = true then none else t.got.map fun d => (d, false)
  | .req .rdOwn | .req .upg => t.got.map fun d => (d, false)
  | .req .rdCur => if t.down = 0 then none else t.got.map fun d => (d, false)
  | .req .wrBack | .req .wrClean | .req .wrFull => some (t.data % 2 ^ 512, false)
  | .req .wrPart => some (mergeBytes ((t.held x).getD (0, false)).1 t.data t.mask, x.poison || ((t.held x).getD (0, false)).2)
  | .writeBehind => some (x.value, false)
  | .flush => if x.poison then some (0, true) else if x.st = 2 then some (x.value, false) else t.got.map fun d => (d, false)
  | _ => none

/-- The entry after a row. -/
def rowEntry (j : Job) (t : Txn) (x : DirEntry) (compat roomO : Bool) (store now : Nat) (bad : Bool) : DirEntry :=
  let a := t.agent.getD 0
  let none_ := { x with st := 0, sharers := 0, owner := 0, store := 0, value := 0 }
  let shared m := { x with st := if m = 0 then 0 else 1, sharers := m, owner := 0, store := 0, value := 0 }
  match j with
  | .req .rdS =>
    if 3 ≤ x.st then
      let m := (if t.down = 2 then 0 else 2 ^ x.owner) ||| (if bad then 0 else 2 ^ a)
      match t.got with
      | some d => if x.st = 3 ∧ roomO = true then { x with st := 2, sharers := m, owner := 0, store := store, value := d, since := now } else shared m
      | none => shared m
    else if bad then x
    else if x.st = 0 ∧ compat = true then { x with st := 4, owner := a }
    else { x with st := if x.st = 0 then 1 else x.st, sharers := x.sharers ||| 2 ^ a }
  | .req .rdOwn | .req .upg => if bad then none_ else { none_ with st := 3, owner := a }
  | .req .rdCur =>
    if 3 ≤ x.st then (if t.down = 0 then x else if t.down = 1 then shared (2 ^ x.owner) else none_) else x
  | .req .wrBack | .flush => { none_ with poison := false }
  | .req .wrClean => shared (2 ^ a)
  | .req .evictS => if x.st = 2 then { x with sharers := dropAgent x.sharers a } else if x.st = 1 then shared (dropAgent x.sharers a) else none_
  | .req .wrFull => { none_ with poison := false }
  | .req .wrPart => none_
  | .writeBehind => shared x.sharers
  | .sweep => x
  | .req _ => x

/-- The reply of a row (R172 to R174). -/
def rowReply (op : CohOp) (wasI compat : Bool) : HomeReply :=
  match op with
  | .rdS => if wasI && compat then .grantE else .grantS
  | .rdOwn | .upg => .grantM
  | _ => .done

/-- Free the shadow of a request that has been answered (R189). -/
def State.freeShadow (s : State) (cell tag : Nat) : State :=
  s.modHome fun u => { u with shadows := u.shadows.filter fun x => !(x.cell == cell && x.tag == tag) }

/-- A reply leaves the home (R184): poisoned data raises POISON to the requester's berth (R174); a copy engine takes its replies itself.
[DEDUCED, log entry 55] -/
def State.homeReply (s : State) (cell tag : Nat) (berth : Option Nat) (what : HomeReply) (status : Nat) (data : Option Nat)
    (poison : Bool) : State :=
  let s1 := if poison then s.raise atPoison berth.toList else s
  if cell < 1024 then
    s1.emit (.homeReply cell tag what status (match berth with | some k => s1.shown k | none => 0) data poison)
  else s1.modHome fun u => { u with engine := u.engine ++ [(cell - 1024, tag, data.getD 0, poison || status != stOk)] }

/-- Take a transaction out of its tracker. -/
def State.dropTxn (s : State) (t : Txn) : State :=
  s.modHome fun u => { u with txns := u.txns.filter (fun x => x.id != t.id), snoops := u.snoops.filter fun x => x.txn != t.id }

/-- A request ends with its reply. -/
def State.answerTxn (s : State) (t : Txn) (what : HomeReply) (status : Nat) (data : Option Nat) (poison : Bool) : State :=
  ((s.homeReply t.cell t.tag t.berth what status data poison).freeShadow t.cell t.tag).dropTxn t

/-- The status of a reply: a failed pool access, POISON, or OK. -/
def replyStatus (t : Txn) (poison : Bool) : Nat := if t.status ≠ 0 then t.status else if poison then stPoison else stOk

/-- A request whose access kind is checked at the gate (R240, R241): none for a write-back or an eviction by the line's holder. -/
def accessKind (op : CohOp) (x : DirEntry) (a : Option Nat) : Option Nat :=
  match op with
  | .rdS => some 3
  | .rdOwn | .upg => some 4
  | .evictS => if holdsLine x a then none else some 3
  | .wrBack | .wrClean => if holdsLine x a then none else some 8
  | .wrFull | .wrPart => some 2
  | _ => some 1

/-- A cacheable request (R162). -/
def cacheable (op : CohOp) : Bool := op == .rdS || op == .rdOwn || op == .upg

/-- REPLAY makes the line's value unknowable (R193). -/
def replayPoisons (op : CohOp) (x : DirEntry) : Bool :=
  !x.poison && (decide (3 ≤ x.st) || (match op with
    | .rdOwn | .upg | .wrBack | .wrClean | .wrFull | .wrPart => true
    | _ => false))

/-- What a request does first when it becomes active (R162, R244): refused at its gate or for want of an agent index, it is answered
DENIED (R243); none where it may go on.
[DEDUCED, log entry 62] -/
def State.refuseRequest (s : State) (t : Txn) (op : CohOp) (x : DirEntry) : Option State :=
  if 1024 ≤ t.cell then none
  else
    let noAgent := cacheable op && !(t.agent.any fun a => !s.agentDead a)
    let due := op == .rdS || op == .rdOwn || (op == .upg && !upgHeld x t.agent) || op == .rdCur
    let reply (s : State) := s.answerTxn t (rowReply op (x.st == 0) false) stDenied (if due then some 0 else none) due
    if noAgent then some (reply (s.raise atAccess (t.berth.toList ++ [audPilot])))
    else match t.berth, accessKind op x t.agent with
      | some k, some kind =>
        let r := s.gateCheck (gateHome (s.chart.slotHome (slotOf t.line))) [t.line] k kind t.cell
        if r.1 = [] then none else some (reply r.2)
      | _, _ => none

/-- The next stage of a transaction, given room for its steps; `fuel` bounds the steps taken without a wait. -/
def State.proceed : Nat → Nat → State → State
  | 0, _, s => s
  | fuel + 1, id, s =>
    match s.txn id with
    | none => s
    | some t =>
      let w := (s.chart.sharedWindow t.line).getD 0
      let compat := s.chart.winCompat w
      let x := (s.entry t.line).getD (DirEntry.empty t.home ((s.freeWay t.home t.line).getD 0))
      let op := match t.job with | .req o => resolveOp o x t.agent | _ => .other
      let go (st : Stage) (s : State) : State := State.proceed fuel id (match s.txn id with
        | some t => s.setTxn { t with stage := st }
        | none => s)
      let unknown := s.flag (F.hubHomemapUnknown (slotOf t.line)) && (s.entry t.line).isNone && (SMap.find? s.home.known t.line).isNone
      let needEntry := (cacheable op || t.due || (unknown && !compat && s.presumedO t.line) || (t.replay && !t.replayed && replayPoisons op x))
        && (s.entry t.line).isNone && t.way.isNone
      let again (s : State) : State := go .start (match s.txn id with
        | some t => s.setTxn { t with lost := false, got := none, down := 0, replayed := true }
        | none => s)
      match t.stage with
      | .queued => s
      | .start =>
        if needEntry then
          match s.freeWay t.home t.line with
          | some n => go .start (s.setTxn { t with way := some n })
          | none =>
            match s.victim t.home t.line with
            | none => s
            | some v =>
              let s1 := s.lookup t.home v
              match s1.entry v with
              | none => go .start s1
              | some y => go .evict ((s1.setTxn { t with victim := v, stage := .evict, got := none }).sendSnoops t v ((holders y).map fun b => (b, .inv)))
        else if t.due then go .start ((s.setTxn { t with due := false }).poisonLine t.home t.line)
        else if unknown then
          let l := (s.possibleSharers w).filter fun a => !s.agentDead a
          if l = [] then go .unknown s
          else if s.snoopFits t then (s.setTxn { t with stage := .unknown }).sendSnoop t t.line l .inv
          else s
        else if t.replay && !t.replayed && replayPoisons op x then
          go .replay ((s.setTxn { t with stage := .replay, got := none }).sendSnoops t t.line ((holders x).map fun b => (b, .inv)))
        else if t.isReq && x.poison then
          if op = .wrFull ∨ op = .wrPart then go .snoop s
          else if op = .rdS ∨ op = .rdOwn ∨ op = .upg ∨ op = .rdCur then
            s.answerTxn t (rowReply op false compat) stPoison (some 0) true
          else if t.replayed && (op == .wrBack || op == .wrClean) then s.answerTxn t .done stPoison none false
          else (s.bump (F.homErrstatProto t.home) 1).answerTxn t .done stOk none false
        else if t.isReq && !listed op x t.agent compat then
          let s1 := if t.proto then s else (s.bump (F.homErrstatProto t.home) 1).setTxn { t with proto := true }
          if holdsLine x t.agent && !t.proto then
            go .proto (((s1.setTxn { t with proto := true, stage := .proto })).sendSnoops t t.line [(t.agent.getD 0, .inv)])
          else s1.answerTxn t .done stOk none false
        else go .snoop ((s.setTxn { t with stage := .snoop, got := none, down := 0 }).sendSnoops t t.line
          (rowSnoops (match t.job with | .req _ => .req op | j => j) x t.agent))
      | .evict =>
        if s.awaits t then s
        else match s.entry t.victim with
          | none => go .start s
          | some y =>
            let out : Option (Nat × Bool) := if y.poison then some (0, true) else if y.st = 2 then some (y.value, false)
              else t.got.map fun d => (d, false)
            match out with
            | some d => (s.setTxn { t with stage := .evictWrite, got := none }).poolWrite id t.victim d.1 d.2
            | none => go .evictWrite s
      | .evictWrite =>
        let y := (s.entry t.victim).getD (DirEntry.empty t.home 0)
        go .start (((((s.setTxn { t with way := some y.way, got := none, lost := false }).putEntry t.victim (DirEntry.empty y.home y.way)).bump
          (F.dirEvict t.home) 1)).count (ctrHom t.home) 0x46 anySub none 1)
      | .unknown =>
        if s.awaits t then s
        else if t.lost then again s
        else
          let s1 := (s.modHome fun u => { u with known := SMap.put u.known t.line 1 }).setTxn { t with got := none, down := 0 }
          match t.got with
          | some d => (s1.setTxn { t with got := none, down := 0, stage := .unknownWrite }).poolWrite id t.line d false
          | none => go .start (if !compat && s.presumedO t.line then s1.poisonLine t.home t.line else s1)
      | .unknownWrite => go .start s
      | .proto =>
        if s.awaits t then s
        else if t.lost then again s
        else
          let y := { x with sharers := dropAgent x.sharers (t.agent.getD 0) }
          let z := if ownsLine x t.agent then { y with st := 0, owner := 0 }
            else if y.st = 1 ∧ y.sharers = 0 then { y with st := 0 } else y
          let s1 := (s.setTxn { t with got := none, down := 0 }).putEntry t.line z
          match t.got with
          | some d => (s1.setTxn { t with got := none, down := 0, stage := .protoWrite }).poolWrite id t.line d false
          | none => go .start s1
      | .protoWrite => go .start s
      | .replay =>
        if s.awaits t then s
        else if t.lost then again s
        else go .start ((s.setTxn { t with replayed := true, got := none, down := 0 }).poisonLine t.home t.line)
      | .snoop =>
        if s.awaits t then s
        else if t.lost then again s
        else
          let j : Job := match t.job with | .req _ => .req op | k => k
          if needsValue j x t.agent && (t.held x).isNone then
            match SMap.find? s.home.cache t.line with
            | some v => go .read (((s.setTxn { t with value := some v, stage := .read }).count (ctrEcc (t.home / 9)) 0x52 anySub none 1).count
                (ctrEcc (t.home / 9)) 0x50 (subOf 3 0) none 1)
            | none => ((s.setTxn { t with stage := .read }).count (ctrEcc (t.home / 9)) 0x53 anySub none 1).emit (.poolRead (s.poolOf t.line) t.line)
          else go .read (if needsValue j x t.agent && x.st == 2 then s.count (ctrEcc (t.home / 9)) 0x50 (subOf 2 0) none 1 else s)
      | .read =>
        let j : Job := match t.job with | .req _ => .req op | k => k
        if needsValue j x t.agent && (t.held x).isNone then s
        else match rowWrite j t x (s.roomO w t.line) with
          | some d => (s.setTxn { t with stage := .write, got := none, value := (match t.got with
              | some g => some (g, false)
              | none => t.value) }).poolWrite id t.line d.1 d.2
          | none => go .write s
      | .write =>
        let j : Job := match t.job with | .req _ => .req op | k => k
        let v := t.held x
        let bad := needsValue j x t.agent && (v.any (·.2) || t.status != 0) && op != .wrPart
        let y := rowEntry j t x compat (s.roomO w t.line) (s.storeIndex t.home) s.now bad
        let s1 := if j = .writeBehind ∧ t.status ≠ 0 then s else s.putEntry t.line y
        if t.isReq then
          s1.answerTxn t (rowReply op (x.st == 0) compat) (replyStatus t bad)
            (if needsValue j x t.agent && op != .wrPart then some (if bad then 0 else (v.getD (0, false)).1) else none) bad
        else (if j = .flush then s1.wrapAdd F.hubWflushstatLines 1 else s1).dropTxn t

/-- The oldest transaction of a line (R165); none while the line is being evicted (R170, R175). -/
def State.queueFront (s : State) (line : Nat) : Option Txn :=
  if s.home.txns.any fun t => t.evicts line then none
  else s.home.txns.find? fun t => t.line == line

/-- Start a transaction that has become its line's oldest: the entry is looked up (R169, R187), requests are refused or served, with the
row a CXL write takes (R183) fixed now. A write-behind whose line has left O since, and a flush whose line has no entry left, find nothing
to do (R177, R197); a sweep does no more than the lookup (R188). -/
def State.startTxn (s : State) (t : Txn) : State :=
  let hit := SMap.find? s.home.dcache t.line == some t.home
  let s1 := (((s.dirCache t.home t.line).count (ctrHom t.home)
    (if hit then 0x44 else 0x45) anySub none 1).count (ctrEcc (t.home / 9)) 0x51 (subOf 1 0) none 1)
  let s2 := if hit then s1 else s1.count (ctrEcc (t.home / 9)) 0x50 (subOf 1 0) none 1
  let s3 := (s2.lookup t.home t.line).useEntry t.line
  let x := (s3.entry t.line).getD (DirEntry.empty t.home 0)
  match t.job with
  | .req o => match s3.refuseRequest t (resolveOp o x t.agent) x with
    | some s4 => s4
    | none => (s3.setTxn { t with stage := .start, job := .req (resolveOp o x t.agent) }).proceed 32 t.id
  | .sweep => s3.dropTxn t
  | .writeBehind => if x.st = 2 then (s3.setTxn { t with stage := .start }).proceed 32 t.id else s3.dropTxn t
  | .flush => if (s3.entry t.line).isSome then (s3.setTxn { t with stage := .start }).proceed 32 t.id else s3.dropTxn t

/-- Home-originated work, and requests of no row of the table, start by themselves when they are their line's oldest. -/
def startsAlone (j : Job) : Bool :=
  match j with
  | .req .other => true
  | .req _ => false
  | _ => true

/-! Home-originated work. -/

/-- A transaction of home-originated work on a line (R164): it joins the line's queue. -/
def State.originate (s : State) (line : Nat) (j : Job) : State :=
  let berth := (s.chart.sharedWindow line).map s.chart.winBerth
  let n := s.lineHome line
  (s.set (F.homTrkPeak n) (max (s.get (F.homTrkPeak n)) (s.trkUse n none + 1))).modHome fun u => { u with next := u.next + 1, txns := u.txns ++
    [⟨u.next, n, line, j, 0, 0, none, false, berth, 0, 0, false, .queued, [], none, 0, 0, false, false, none, 0, none, false, false, none⟩] }

/-- Home-originated work may begin on a line at its slice (R164, R473): one of the 64 trackers kept for it is free, and no restart is due
there. -/
def State.mayOriginate (s : State) (n : Nat) : Bool := decide (s.homeWork n < 64) && !s.home.restarts.contains n

/-- The slices take the lines of the flushed window and those of a sweep to their queues, at most 64 at a time in each slice (R164, R188,
R197). -/
def State.scanWork (s : State) : State :=
  let s1 := s.home.flushTodo.foldl (fun s l =>
    let s1 := s.modHome fun u => { u with flushTodo := u.flushTodo.filter (· != l) }
    match s.entry l with
    | none => s1
    | some x => if s.mayOriginate x.home then s1.originate l .flush else s) s
  s1.home.sweepTodo.foldl (fun s l =>
    let s1 := s.modHome fun u => { u with sweepTodo := u.sweepTodo.filter (· != l) }
    match s.entry l with
    | none => s1
    | some x => if s.mayOriginate x.home then s1.originate l .sweep else s) s1

/-! Admission (R164). -/

/-- Trackers at a slice that requests hold. -/
def State.reqTrackers (s : State) (n : Nat) : Nat := (s.home.txns.filter fun t => t.home == n && t.isReq).length

/-- A slot is held while re-issues to its new home are outstanding (R192). -/
def State.slotHeld (s : State) (v : Nat) : Bool := s.home.shadows.any fun x => x.slot == v && x.moved

/-- The home answers GRANT (R164 to R166). -/
def State.homeGrants (s : State) (n line : Nat) (berth : Option Nat) : Bool :=
  decide (s.reqTrackers n < 1984) && (berth.any fun k => decide (s.trkUse n (some k) < s.chart.trackers k))
    && decide ((s.home.txns.filter fun t => t.line == line && t.isReq).length < 16) && !s.slotHeld (slotOf line)

/-- A transaction for a request that has a tracker. -/
def State.addTxn (s : State) (n : Nat) (x : Shadow) (replay : Bool) : State :=
  let s1 := s.modHome fun u => { u with next := u.next + 1, txns := u.txns ++
    [⟨u.next, n, x.line, .req x.op, x.cell, x.tag, x.agent, x.fnl, x.berth, x.data, x.mask, replay, .queued, [], none, 0, 0,
      false, false, none, 0, none, false, false, none⟩] }
  (s1.set (F.homTrkPeak n) (max (s.get (F.homTrkPeak n)) (s1.trkUse n none))).count (ctrHom n) 0x40 anySub x.berth 1

/-- A request is admitted to its home (R189, R190): its shadow is kept, the payload of a write in a segment of the home's region. -/
def State.keepShadow (s : State) (n : Nat) (x : Shadow) : State :=
  let y : Shadow := { x with
    region := n / 9, payload := hasPayload x.op, seg := if hasPayload x.op then s.segPlace (n / 9) none else 0 }
  ((s.modHome fun u => { u with shadows := u.shadows ++ [y] }).modCore fun u => { u with
    draws := if hasPayload x.op then u.draws + 2 else u.draws }).addTxn n y false

/-- The copy engines' requests that wait are admitted, oldest first, as their homes grant (R164, R227). -/
def State.admitEngines (s : State) : State :=
  s.home.engineWait.foldl (fun s x =>
    if s.homeGrants (s.lineHome x.line) x.line x.berth then
      (s.modHome fun u => { u with engineWait := u.engineWait.filter (· != x) }).keepShadow (s.lineHome x.line) x
    else s) s

/-- After a change: deferred snoops go out as the budget permits, oldest transaction first (R166); transactions that waited for a way
or a budget go on (R170, R195); home-originated work starts (R165, R197). -/
def State.settleOnce (s : State) : State :=
  let s1 := s.home.txns.foldl (fun s t =>
    match s.txn t.id with
    | none => s
    | some u => match u.todo with
      | [] => s
      | x :: r =>
        if s.agentDead x.1 then (s.setTxn { u with todo := r }).proceed 32 u.id
        else if s.snoopFits u then (s.setTxn { u with todo := r }).sendSnoop u (if u.stage = .evict then u.victim else u.line) [x.1] x.2 else s) s
  s1.scanWork.home.txns.foldl (fun s t =>
    match s.txn t.id with
    | none => s
    | some u =>
      if u.stage = .start then s.proceed 32 u.id
      else if u.stage = .queued ∧ startsAlone u.job = true ∧ (s.queueFront u.line).map (·.id) = some u.id then s.startTxn u
      else s) s1.scanWork

/-- Settle until nothing more moves by itself; each round ends or moves at least one transaction. -/
def State.settleHomes : Nat → State → State
  | 0, s => s
  | n + 1, s => if s.settleOnce.home = s.home then s else State.settleHomes n s.settleOnce

/-- OVERQ of trackers and snoop budgets clears when use falls strictly below the limit (R115). -/
def State.clearHomeOver (s : State) : State :=
  s.modHome fun u => { u with
    overTrk := u.overTrk.filter fun e => decide (s.chart.trackers (e % 64) ≤ s.trkUse (e / 64) (some (e % 64)))
    overSnp := u.overSnp.filter fun e => decide (s.chart.snoops (e % 64) ≤ s.snpUse (e / 64) (e % 64)) }

/-- The homes go as far as they can by themselves, and what the requests that ended leave free is given out. -/
def State.settle (s : State) : State := ((s.settleHomes 64).clearHomeOver).admitEngines

/-- An agent dies (R187, R188): DEAD, HOME to the Pilot and its berth, and a sweep is wanted. -/
def State.killAgent (s : State) (a : Nat) : State :=
  ((s.setAll [(F.hubAgentDead a, 1), (F.hubAgentSwept a, 0)]).modHome fun u => { u with
    sweeps := u.sweeps ++ [a] }).raise atHome (audPilot :: (s.agentBerth a).toList)

/-- An agent is off a snoop, which ends with its last agent. -/
def State.endSnoop (s : State) (x : Snoop) (a : Nat) : State :=
  let y := { x with agents := x.agents.filter (· != a) }
  s.modHome fun u => { u with snoops :=
    if y.agents = [] then u.snoops.filter (· != x) else u.snoops.map (fun z => if z = x then y else z) }

/-- A snoop to an agent ends without an answer (R185, R186): the line is poisoned, the transaction goes on as R174 gives once its other
snoops have ended, the miss is counted, and at the third the agent is dead.
[DEDUCED, log entry 61] -/
def State.expireSnoop (s : State) (x : Snoop) (a : Nat) : State :=
  match s.txn x.txn with
  | none => s
  | some t =>
    let wait := (s.entry x.line).isNone && (s.freeWay x.home x.line).isNone
    let s0 := (s.endSnoop x a).setTxn { t with todo := [], lost := true, due := wait }
    let s1 := if wait then s0 else s0.poisonLine x.home x.line
    let s2 := (s1.bump (F.homErrstatTimeouts x.home) 1).notify atPoison
    let n := min 3 (s2.get (F.hubAgentMisses a) + 1)
    let s3 := s2.set (F.hubAgentMisses a) n
    let s4 := if n = 3 ∧ s3.agentDead a = false then s3.killAgent a else s3
    ((s4.modHome fun u => { u with known := SMap.put u.known x.line 1 }).proceed 32 x.txn).settle

/-- The snoops towards the agents behind a link expire when its grace period ends in a flush (R186). -/
def State.expireSnoops (s : State) (p : Nat) : State :=
  (s.home.snoops.flatMap fun x => (x.agents.filter fun a => s.chart.agentLink a == p).map fun a => (x.txn, x.line, a)).foldl
    (fun s e => match s.home.snoops.find? fun y => y.txn == e.1 && y.line == e.2.1 && y.agents.contains e.2.2 with
      | some x => s.expireSnoop x e.2.2
      | none => s) s

/-- The timers of the snoops towards the agents behind a link stood still while it was down (R186). -/
def State.resumeSnoops (s : State) (p since : Nat) : State :=
  s.modHome fun u => { u with snoops := u.snoops.map fun x => { x with sent := x.sent.map fun e =>
    (e.1, if s.chart.agentLink e.1 = p then e.2 + (s.now - max e.2 since) else e.2) } }

end Sys2Proof.Machine
end

