-- ==== Sys2Proof/Machine/LeaveOps.lean ====
section
/-! DEFINITION. The Leave Controller's procedure (R377 to R380): what each heavy operation is charged, the decision, grants,
refusals, the deferred queue, renewals and the end of slips. -/
namespace Sys2Proof.Machine

/-- Reasons of LVC.RESP.REASON (R386). -/
def reasonNeverFits : Nat := 1
def reasonSafe : Nat := 2
def reasonShed : Nat := 3
def reasonEnergy : Nat := 4
def reasonThermal : Nat := 5
def reasonInput : Nat := 6
def reasonRail : Nat := 7
def reasonBandwidth : Nat := 8
def reasonSlots : Nat := 9
def reasonRide : Nat := 10

/-- A rail's voltage in mV for the Leave Controller (R377): its set voltage, or the bottom of its range for a rail set by AVS;
rail 26 is the LDO at its 3.3 V input.
[DESIGN CHOICE, log entry 14] -/
def railMv (r : Nat) : Nat :=
  if r < 24 then (if r % 3 = 0 then 700 else if r % 3 = 1 then 850 else 1100)
  else if r = 24 then 700 else if r = 25 then 850 else 3300

/-- A rail's limit in µA (R372); the LDO's full-mode limit (R377). -/
def railLimit (r : Nat) : Nat := if r < 26 then railIlimit r * 100000 else 400000

/-- The current in µA of a share in mW on a rail.
[DESIGN CHOICE, log entry 23] -/
def railShare (r mw : Nat) : Nat := mw * 1000000 / railMv r

def onRails (l : List (Nat × Nat)) : SMap Nat :=
  l.foldl (fun m e => SMap.put m e.1 ((SMap.find? m e.1).getD 0 + railShare e.1 e.2)) []

/-- The lanes a bulk sweep names (R270), numbered 2p + l. -/
def State.sweepLanes (s : State) : List Nat :=
  ((List.range (s.get F.hubSweepCount)).map (s.get F.hubSweepFirst + ·)).filter (· < 2048)

/-- The longest lane sweep of a bulk sweep, in µs (R270). -/
def State.sweepUs (s : State) : Nat :=
  (s.sweepLanes.map fun l =>
    s.laneEyes (l / 2) * 28 * 2 ^ (13 + s.get F.hubSweepDwell) * s.laneUiFs (l / 2)).foldl max 0 / 1000000000 + 1

/-- The figures of R377 for an operation, at the settings in force. -/
def State.leaveFigures (s : State) (q : Purpose) : LeaveReq :=
  match q with
  | .regionPower g => ⟨1, q, 0, g.val, 180000, 25000,
      onRails [(3 * g.val, 75000), (3 * g.val + 1, 85000), (3 * g.val + 2, 20000)], [], [], s.now⟩
  | .bulkSweep => ⟨2, q, 0, 15, 25 * s.get F.hubSweepCount, s.sweepUs,
      onRails ((List.range 8).map fun g => (3 * g + 1, 25 * (s.sweepLanes.filter fun l => l / 256 == g).length)), [], [], s.now⟩
  | .chartResets =>
    let cells := match s.chtu.op with | some o => o.resets | none => []
    ⟨3, q, 0, 15, 1000 * cells.length, 25000,
      onRails ((List.range 8).map fun g => (3 * g + 1, 1000 * (cells.filter fun p => p / 128 == g).length)), [], [], s.now⟩
  | .copyEngine g => ⟨4, q, 0, g.val, 45000, 2000, onRails [(3 * g.val, 45000)], [], [(g.val, 5)], s.now⟩
  | .scrub u =>
    if u.val < 8 ∧ s.get (F.eccScrubTarget (0x500000 + 0x4000 * u.val)) = 0x3F then
      ⟨5, q, 0, u.val, 300 * s.get (F.eccScrubRate (0x500000 + 0x4000 * u.val)), 2000,
        onRails [(3 * u.val + 2, 300 * s.get (F.eccScrubRate (0x500000 + 0x4000 * u.val)))],
        [(u.val, 8 * s.get (F.eccScrubRate (0x500000 + 0x4000 * u.val)))], [], s.now⟩
    else ⟨6, q, 0, if u.val < 8 then u.val else 15, 1000, 5000,
      onRails [(if u.val < 8 then 3 * u.val else 24, 1000)], [], [], s.now⟩
  | .windowFlush => ⟨7, q, 0, 15, 16000, 25000, onRails ((List.range 8).map fun g => (3 * g, 2000)),
      (List.range 8).map fun g => (g, 410), [], s.now⟩
  | .deadSweep _ => ⟨8, q, 0, 15, 4000, 1000000, onRails ((List.range 8).map fun g => (3 * g, 500)),
      (List.range 8).map fun g => (g, 64), [], s.now⟩
  | .chartCommit => ⟨9, q, 0, 15, 10000, 400000, onRails [(25, 10000)], [], [], s.now⟩
  | .almanacSave => ⟨10, q, 0, 15, 45000, 8000, onRails [(25, 30000), (26, 1300)], [], [], s.now⟩
  | .ldoFull => ⟨11, q, 1, 15, 1300, 1000 * s.get F.lvcReqDuration, onRails [(26, 1300)], [], [], s.now⟩
  | .otherMgt h => ⟨12, q, if h then 1 else 2, 15, 100 * s.get F.lvcReqPower, 1000 * s.get F.lvcReqDuration,
      onRails [(25, 100 * s.get F.lvcReqPower)], [], [], s.now⟩

/-- Data-plane operations are kinds 0x1 to 0x8 (R377). -/
def dataPlane (kind : Nat) : Bool := decide (1 ≤ kind ∧ kind ≤ 8)

/-- The slips in force, the save's own included.
[DEDUCED, log entry 31] -/
def State.slipsInForce (s : State) : List Slip := s.lvc.slips.map (·.2) ++ s.lvc.saveSlip.toList

/-- New slips: granted less than 5 ms ago (R378).
[DEDUCED, log entry 31] -/
def State.newSlips (s : State) : List Slip := s.slipsInForce.filter fun x => s.now < x.grant + msec 5

/-- P_MEAS (R378): the highest 100 µs average of the last 10 ms, in W. -/
def State.pMeas (s : State) : Nat :=
  ((s.pwr.samples.filter fun e => s.now ≤ e.1 + msec 10).map (·.2)).foldl max 0

/-- T_MAX in 0.125 °C, from the register's two's complement (R468). -/
def State.tMax (s : State) : Int :=
  if s.get F.hubTmax < 2048 then (s.get F.hubTmax : Int) else (s.get F.hubTmax : Int) - 4096

/-- The data plane has been shed since the last reset (R369). -/
def State.shed (s : State) : Bool := s.pwr.shedPhase != 0

def State.riding (s : State) : Bool := s.flag F.pwrRideRiding

/-- The reckoning in nJ (R367): half of C times V squared, above 30 V. -/
def State.reckonNj (s : State) : Nat :=
  s.get F.pwrBulkCapMeas * (s.get F.pwrBusVbus ^ 2 - 90000) * 5

/-- Time until the shed in µs (R378). -/
def State.timeToShedUs (s : State) : Nat :=
  (s.pwr.rideStart + usec (s.get F.pwrRideShedDelay) - s.now) / 1000000

/-- energy_ok of R378, in nJ: the store above the floor carries the operation. -/
def State.energyOk (s : State) (power dur : Nat) (others : List Slip) : Bool :=
  let draw := s.get F.pwrInputPNow * 1000 * s.timeToShedUs
  let floor := s.get F.pwrReckonFloor * 1000000
  let held := ((others.filter fun x => !dataPlane x.kind).map fun x =>
    (x.power + 45000) * ((x.expiry - s.now) / 1000000)).foldl (· + ·) 0
  decide ((power + 45000) * dur + draw + floor + held ≤ s.reckonNj)

/-- The outcome of a decision (R378). -/
inductive Leave where
  | grant
  | defer (reason : Nat)
  | refuse (reason : Nat)
  deriving DecidableEq, Repr

/-- The current a set of slips draws on a rail, in µA. -/
def railSum (l : List Slip) (r : Nat) : Nat := (l.map fun x => SMap.getD x.rails r 0).foldl (· + ·) 0

/-- Measured current of a rail, in µA. -/
def State.railMeas (s : State) (r : Nat) : Nat :=
  if r < 26 then s.get (F.pwrRailImeas r) * 100000 else s.get F.pwrLdoIAon * 1000

/-- The bandwidth a set of slips is charged at a stack or in a region. -/
def bwSum (l : List Slip) (f : Slip → SMap Nat) (g : Nat) : Nat := (l.map fun x => SMap.getD (f x) g 0).foldl (· + ·) 0

/-- A region with a frozen rail is refused power-up (R373).
[DESIGN CHOICE, log entry 22] -/
def State.frozenRegion (s : State) (q : Purpose) : Bool :=
  match q with
  | .regionPower g => [0, 1, 2].any fun k => s.flag (F.pwrRailFrozen (3 * g.val + k))
  | _ => false

/-- q alone exceeds the input budget, a rail limit or a bandwidth budget (R378). -/
def State.neverFits (s : State) (q : LeaveReq) : Bool :=
  decide (s.get F.lvcBudgetInputW * 1000 < q.power)
  || q.rails.any (fun e => decide (railLimit e.1 < e.2))
  || q.hbm.any (fun e => decide (8 * s.get F.lvcBwHbm < e.2))
  || q.bolt.any (fun e => decide (2 * s.get F.lvcBwBolt < e.2))

/-- The decision procedure of R378 over the slips other than `mine` (a renewal does not count its own slip twice).
[DEDUCED, log entry 21; DESIGN CHOICE, log entry 22] -/
def State.decideLeave (s : State) (q : LeaveReq) (mine : Option Nat) : Leave :=
  let others := ((s.lvc.slips.filter fun e => some e.1 != mine).map (·.2)) ++ s.lvc.saveSlip.toList
  let fresh := others.filter fun x => s.now < x.grant + msec 5
  let common : Leave :=
    if decide (800 ≤ s.tMax) && q.kind != 11 then .refuse reasonThermal
    else if decide (800 - 8 * (s.get F.lvcBudgetThermMargin : Int) ≤ s.tMax) && decide (10000 ≤ q.power) then .defer reasonThermal
    else if s.pMeas * 1000 + (fresh.map (·.power)).foldl (· + ·) 0 + q.power > s.get F.lvcBudgetInputW * 1000 then
      .defer reasonInput
    else if q.rails.any fun e => decide (s.railMeas e.1 + railSum fresh e.1 + e.2 > railLimit e.1) then .defer reasonRail
    else if q.hbm.any fun e => decide (bwSum others (·.hbm) e.1 + e.2 > 8 * s.get F.lvcBwHbm) then .defer reasonBandwidth
    else if q.bolt.any fun e => decide (bwSum others (·.bolt) e.1 + e.2 > 2 * s.get F.lvcBwBolt) then .defer reasonBandwidth
    else if mine.isNone && decide (32 ≤ s.lvc.slips.length) then .defer reasonSlots
    else .grant
  if s.safeOn && q.kind != 10 && q.kind != 11 then .refuse reasonSafe
  else if q.kind = 10 then .grant
  else if s.neverFits q then .refuse reasonNeverFits
  else if s.frozenRegion q.purpose then .refuse reasonRail
  else if s.shed then
    (if dataPlane q.kind then .refuse reasonShed
     else if s.energyOk q.power q.dur others then .grant else .refuse reasonEnergy)
  else if s.riding then
    (if dataPlane q.kind then .defer reasonRide
     else if !s.energyOk q.power q.dur others then .refuse reasonEnergy else common)
  else common

/-- The lowest free slip. -/
def State.freeSlip (s : State) : Nat := ((List.range 32).find? fun i => (SMap.find? s.lvc.slips i).isNone).getD 0

/-- The slip a request is granted. -/
def LeaveReq.slip (q : LeaveReq) (now : Nat) : Slip :=
  ⟨q.kind, q.purpose, q.owner, q.target, q.power, q.dur, now, now + usec q.dur, false, q.rails, q.hbm, q.bolt⟩

/-- What the holder does at a grant: its own operation moves on. -/
def State.onGrant (s : State) (q : LeaveReq) (i : Nat) : State :=
  match q.purpose with
  | .regionPower g => { s with pwr := { s.pwr with
      powerWait := s.pwr.powerWait.filter (· != g.val), powering := s.pwr.powering ++ [g.val] } }
  | .bulkSweep => { s with lan := { s.lan with sweepOn := true } }
  | .chartResets | .chartCommit => s.set F.chtStatusState 3
  | .copyEngine g => s.set (F.cpeStatPaused g.val) 0
  | .scrub u => { s.set (F.eccScrubPaused (eccBase u.val)) 0 with
      ecc := { s.ecc with scrubs := SMap.alter s.ecc.scrubs u.val fun j => { j with granted := true } } }
  | .windowFlush => (s.modHome fun u => { u with flushOn := true, flushTodo := match u.flushWin with
      | none => []
      | some w => (u.dir.filter fun e => decide (s.chart.winStart w ≤ e.1 ∧ e.1 ≤ s.chart.winEnd w)).map (·.1) }).settle
  | .deadSweep a => ((s.setAll [(F.hubDeadsweepAgent, a.val), (F.hubDeadsweepBusy, 1)]).modHome fun u => { u with
      sweepTodo := u.dir.map (·.1) }).settle
  | .almanacSave => { s.set F.pwrLdoMode 1 with pwr := { s.pwr with saveStart := some s.now } }
  | .ldoFull | .otherMgt _ => s.setAll [(F.lvcRespResult, 1), (F.lvcRespSlip, i), (F.lvcRespReason, 0)]

/-- What the requester does when its request is refused, withdrawn or cannot wait. -/
def State.onRefuse (s : State) (q : Purpose) (reason : Nat) : State :=
  match q with
  | .regionPower g => { s with pwr := { s.pwr with powerWait := s.pwr.powerWait.filter (· != g.val) } }
  | .bulkSweep => (s.modLan fun u => { u with sweeping := [] }).setAll [(F.hubSweepLeaveRefused, 1), (F.hubSweepBusy, 0)]
  | .chartResets | .chartCommit => s.endChart 0x0F 0 0
  | .copyEngine _ => s
  | .scrub u =>
    if (SMap.find? s.ecc.scrubs u.val).any (·.begun) then s
    else { (s.setAll [(F.eccScrubLeaveRefused (eccBase u.val), 1), (F.eccScrubBusy (eccBase u.val), 0)]) with
      ecc := { s.ecc with scrubs := SMap.del s.ecc.scrubs u.val } }
  | .windowFlush => { s.setAll [(F.hubWflushLeaveRefused, 1), (F.hubWflushBusy, 0)] with
      home := { s.home with flushOn := false, flushWin := none, flushTodo := [] } }
  | .deadSweep _ => s
  | .almanacSave => s
  | .ldoFull | .otherMgt _ => s.setAll [(F.lvcRespResult, 3), (F.lvcRespReason, reason)]

/-- Grant a request (R377, R378). -/
def State.grantLeave (s : State) (q : LeaveReq) : State :=
  if q.kind = 10 then ({ s with lvc := { s.lvc with saveSlip := some (q.slip s.now) } } : State).onGrant q 0
  else ({ s with lvc := { s.lvc with slips := SMap.put s.lvc.slips s.freeSlip (q.slip s.now) } } : State).onGrant q s.freeSlip

/-- Refuse a request, counted (R386). -/
def State.refuseLeave (s : State) (q : Purpose) (reason : Nat) : State := (s.bump F.lvcCountRefused 1).onRefuse q reason

/-- A request arrives (R378, R379): granted, refused, or deferred where the queue has room; a request the decision would defer
with 32 waiting is refused SLOTS. -/
def State.askLeave (s : State) (q : LeaveReq) : State :=
  match s.decideLeave q none with
  | .grant => s.grantLeave q
  | .refuse r => s.refuseLeave q.purpose r
  | .defer r =>
    if s.lvc.queue.length < 32 then
      let s1 := ({ s with lvc := { s.lvc with queue := s.lvc.queue ++ [q] } } : State).bump F.lvcCountDeferred 1
      match q.purpose with
      | .ldoFull | .otherMgt _ => s1.setAll [(F.lvcRespResult, 2), (F.lvcRespReason, r)]
      | _ => s1
    else s.refuseLeave q.purpose reasonSlots

/-- Request leave for an operation at the figures in force. -/
def State.requestLeave (s : State) (q : Purpose) : State := s.askLeave (s.leaveFigures q)

/-- The order of re-decision (R379): the Almanac save, then region power-up, then arrival. -/
def redecideOrder (l : List LeaveReq) : List LeaveReq :=
  (l.filter fun q => q.kind == 10) ++ (l.filter fun q => q.kind == 1) ++ l.filter fun q => q.kind != 10 && q.kind != 1

/-- One pass over the deferred requests in order (R379): each is granted, refused or kept; once one that has waited 100 ms is
passed over, nothing after it is granted. -/
def State.redecideList (s : State) (stop : Bool) : List LeaveReq → State
  | [] => s
  | q :: r =>
    match s.decideLeave q none with
    | .grant =>
      if stop then s.redecideList stop r
      else (({ s with lvc := { s.lvc with queue := s.lvc.queue.filter (· != q) } } : State).grantLeave q).redecideList stop r
    | .refuse reason =>
      (({ s with lvc := { s.lvc with queue := s.lvc.queue.filter (· != q) } } : State).refuseLeave q.purpose reason).redecideList stop r
    | .defer _ => s.redecideList (stop || decide (q.arrived + msec 100 ≤ s.now)) r

/-- Re-decide the deferred requests (R379). -/
def State.redecide (s : State) : State := s.redecideList false (redecideOrder s.lvc.queue)

/-- A slip ends: its place is free again, and the deferred requests are decided anew (R379). -/
def State.endSlip (s : State) (i : Nat) : State :=
  ({ s with lvc := { s.lvc with slips := SMap.del s.lvc.slips i } } : State).redecide

/-- End every slip an operation holds. -/
def State.releaseFor (s : State) (q : Purpose) : State :=
  ({ s with lvc := { s.lvc with slips := s.lvc.slips.filter fun e => e.2.purpose != q } } : State).redecide

/-- An operation holds a slip. -/
def State.holds (s : State) (q : Purpose) : Bool := s.lvc.slips.any fun e => e.2.purpose == q

/-- An operation already holds or waits for leave. -/
def State.hasLeave (s : State) (q : Purpose) : Bool :=
  s.holds q || s.lvc.queue.any (fun r => r.purpose == q) || s.lvc.saveSlip.any (fun x => x.purpose == q)

/-- The next dead-agent sweep asks for leave (R188): one runs at a time. -/
def State.askSweep (s : State) : State :=
  match s.home.sweeps with
  | [] => s
  | a :: _ =>
    if s.flag F.hubDeadsweepBusy then s
    else if h : a < 64 then (if s.hasLeave (.deadSweep ⟨a, h⟩) then s else s.requestLeave (.deadSweep ⟨a, h⟩))
    else s

/-- Withdraw an operation's deferred requests (R379): each counts as a refusal. -/
def State.withdrawFor (s : State) (q : Purpose) : State :=
  if s.lvc.queue.any (fun r => r.purpose == q) then
    ({ s with lvc := { s.lvc with queue := s.lvc.queue.filter fun r => r.purpose != q } } : State).bump F.lvcCountRefused 1
  else s

/-- Renew a slip (R378): decided as a request, at once; a renewal that is not granted is refused with its reason and counted,
and the slip keeps its expiry. -/
def State.renewSlip (s : State) (i : Nat) : State × Option Nat :=
  match SMap.find? s.lvc.slips i with
  | none => (s, some 0)
  | some x =>
    match s.decideLeave ⟨x.kind, x.purpose, x.owner, x.target, x.power, x.dur, x.rails, x.hbm, x.bolt, s.now⟩ (some i) with
    | .grant => ({ s with lvc := { s.lvc with slips := SMap.put s.lvc.slips i { x with expiry := s.now + usec x.dur } } }, none)
    | .refuse r => (s.bump F.lvcCountRefused 1, some r)
    | .defer r => (s.bump F.lvcCountRefused 1, some r)

/-- The slips and deferred requests of the data plane end (R369, R380): at a shed or the safe state, with the reason named. -/
def State.endDataLeave (s : State) (reason : Nat) : State :=
  let gone := s.lvc.queue.filter fun q => dataPlane q.kind
  gone.foldl (fun s q => s.refuseLeave q.purpose reason)
    { s with lvc := { s.lvc with slips := s.lvc.slips.filter (fun e => !dataPlane e.2.kind),
                                 queue := s.lvc.queue.filter fun q => !dataPlane q.kind } }

end Sys2Proof.Machine
end

