-- ==== Sys2Proof/Machine/LodOps.lean ====
section
/-! DEFINITION. Lodestar (R202 to R224): records, objects, parking, wakes, hand-overs and wait groups. -/
namespace Sys2Proof.Machine

/-- Detail codes (R211). -/
def dtFormat : Nat := 1
def dtType : Nat := 2
def dtNotOwner : Nat := 3
def dtNotMember : Nat := 4
def dtQuota : Nat := 5
def dtNoObject : Nat := 6
def dtWaitersFull : Nat := 7
def dtGroupFull : Nat := 8
def dtGroupBusy : Nat := 9
def dtNotEqual : Nat := 10
def dtLost : Nat := 11
def dtLeave : Nat := 12
def dtVerify : Nat := 13
def dtGate : Nat := 14
def dtShed : Nat := 15

/-- A little-endian field of a record. -/
def leField (bytes : List Nat) (off n : Nat) : Nat := (List.range n).foldl (fun v i => v + bytes.getD (off + i) 0 * 256 ^ i) 0

/-- The bytes of a number, lowest first. -/
def leBytes (v n : Nat) : List Nat := (List.range n).map fun i => v / 256 ^ i % 256

/-- An empty record, and one whose slice was lost (R222). -/
def emptyRec : LRec := ⟨0, false, false, 0, 0, 0, 0, 0, 0, 0⟩
def lostRec : LRec := ⟨2, false, false, stUnknownOutcome, 0, 0, 0xFFFF, 0, 0, 0⟩

/-- A record's 64 bytes (R210) at a read: the reader's code, and the status while STATE reads DONE. -/
def recBytes (r : LRec) (attn : Nat) : List Nat :=
  [16 * attn + (if r.state = 2 then r.status else 0), r.state + (if r.overrun then 4 else 0) + (if r.flag then 8 else 0), r.detail, r.opc]
    ++ leBytes r.ticket 2 ++ [0, 0] ++ leBytes r.value 8 ++ leBytes r.aux 8 ++ leBytes r.elapsed 4 ++ List.replicate 36 0

/-- The record of a result slot (R210, R222). -/
def State.lrec (s : State) (key : Nat) : LRec :=
  (SMap.find? s.lod.records key).getD (if s.lod.lostSlots.contains (key / 64 % 64) then lostRec else emptyRec)
def State.setLrec (s : State) (key : Nat) (r : LRec) : State := s.modLod fun u => { u with records := SMap.put u.records key r }

def LCmd.key (c : LCmd) : Nat := 64 * c.chan + c.slot

/-- The slice where a channel is homed (R203), and the one that executes a command (R205, R213, R218): its object's, its group's, or
its channel's for an allocation. -/
def State.chanHome (s : State) (ch : Nat) : Nat := s.slotSlice (ch % 64)
def isGroupOp (opc : Nat) : Bool := decide (0x10 ≤ opc ∧ opc ≤ 0x13)
def State.cmdSlice (s : State) (c : LCmd) : Nat :=
  if isGroupOp c.opc then s.slotSlice (c.group % 64) else if c.opc = 0x18 then s.chanHome c.chan else s.slotSlice (c.obj % 64)

/-- A slot has object storage (R205): it is among the 8 lowest that its region homes under the chart. -/
def Chart.slotStored (c : Chart) (v : Nat) : Bool :=
  decide (((List.range v).filter fun u => c.slotHome u / 9 == c.slotHome v / 9).length < 8)

/-- A berth's live objects (R225). -/
def State.objUse (s : State) (k : Nat) : Nat := (s.lod.objects.filter fun o => o.2.berth == k).length

/-- Parked commands at a slice (R212, R234). -/
def State.waiters (s : State) (n : Nat) : Nat := (s.lod.parked.filter fun p => p.slice == n).length

/-- A command completes (R210, R213): its result sets out for its record; a RETRY is counted (R234). -/
def State.sendResult (s : State) (c : LCmd) (status detail value aux : Nat) (flag : Bool) (elapsed : Nat) : State :=
  let s1 := if status = stRetry then s.bump (F.ldsErrstatRetry (s.cmdSlice c)) 1 else s
  s1.modLod fun u => { u with
    pend := u.pend.filter fun x => x.key != c.key
    results := u.results ++ [(c.key, ⟨2, false, flag, status, detail, c.opc, c.ticket, value, aux, min elapsed (2 ^ 32 - 1)⟩)] }

/-- The two values a parked command completes with (R212): the word; the generation and parties; the lock's holders.
[DESIGN CHOICE, log entry 78] -/
def parkedValue (o : LObj) (c : LCmd) : Nat × Nat :=
  if c.opc = 0x08 then (o.words.getD c.word 0, 0)
  else if c.opc = 0x0A then (o.gen, o.parties)
  else (o.holder.getD 0xFFFF, o.shared)

/-- A parked command ends (R214 to R216, R220). -/
def State.endParked (s : State) (p : Parked) (status detail value aux : Nat) : State :=
  let s1 := s.modLod fun u => { u with parked := u.parked.filter (· != p) }
  s1.sendResult p.cmd status detail value aux false ((s.now - p.since) / 1000000)

/-- A parked command ends with the values of its object as it stands. -/
def State.leaveParked (s : State) (p : Parked) (status : Nat) : State :=
  match SMap.find? s.lod.objects p.cmd.obj with
  | some o => s.endParked p status 0 (parkedValue o p.cmd).1 (parkedValue o p.cmd).2
  | none => s.endParked p status 0 0 0

/-- A group's member set and parked commands satisfy the conditions of R220.
[DESIGN CHOICE, log entry 137] -/
def State.allWaiting (s : State) (gid : Nat) (g : Grp) : Bool :=
  !g.lost && !g.members.isEmpty && g.members.all fun m => s.lod.parked.any fun p => p.group == some gid && p.cmd.chan == m

/-- The conditions of R220 are looked at again: the interval starts when they come to hold.
[DESIGN CHOICE, log entry 137] -/
def State.noteGroups (s : State) : State :=
  s.modLod fun u => { u with groups := u.groups.map fun e =>
    (e.1, { e.2 with since := if s.allWaiting e.1 e.2 then (match e.2.since with | some x => some x | none => some s.now) else none }) }

/-- A member joined or left (R220): the interval starts again. -/
def State.restartGroup (s : State) (gid : Nat) : State :=
  (s.modLod fun u => { u with groups := SMap.alter u.groups gid fun g => { g with since := none } }).noteGroups

/-- Park a command (R212, R214, R219), where the slice's waiter table has room. -/
def State.park (s : State) (c : LCmd) : State :=
  let n := s.cmdSlice c
  if 16384 ≤ s.waiters n then s.sendResult c stRetry dtWaitersFull 0 0 false 0
  else
    let top := 1000 * s.get (F.ldsCtlMaxWait n)
    let s1 := s.modLod fun u => { u with
      pend := u.pend.filter fun x => x.key != c.key
      parked := u.parked ++ [⟨c, s.now, if c.timeout = 0 then top else min c.timeout top, n, if c.flags.testBit 2 then some c.group else none, false⟩] }
    (s1.set (F.ldsStatPeak n) (max (s.get (F.ldsStatPeak n)) (s1.waiters n))).noteGroups

/-- NOTIFY on a word (R214): the oldest WAIT parked on it, or all; the state and how many were woken. -/
def State.wake (s : State) (obj word : Nat) (all : Bool) : State × Nat :=
  let l := s.lod.parked.filter fun p => p.cmd.opc == 0x08 && p.cmd.obj == obj && p.cmd.word == word
  let l1 := if all then l else l.take 1
  (l1.foldl (fun s p => s.leaveParked p stOk) s, l1.length)

/-- The waiters of a lock that a hand-over grants (R215): the oldest, and every consecutive shared one behind a shared one. -/
def handed (l : List Parked) : List Parked :=
  match l with
  | [] => []
  | p :: r => if p.cmd.flags.testBit 3 then p :: r.takeWhile (fun q => q.cmd.flags.testBit 3) else [p]

/-- The last hold of a lock has been released (R215): the state and how many waiters were granted.
[DEDUCED, log entry 69] -/
def State.handOver (s : State) (obj : Nat) : State × Nat :=
  let l := handed (s.lod.parked.filter fun p => p.cmd.opc == 0x0B && p.cmd.obj == obj)
  let sharedN := (l.filter fun p => p.cmd.flags.testBit 3).length
  let s1 := s.modLod fun u => { u with objects := SMap.alter u.objects obj fun o => { o with
    holder := (l.find? fun p => !p.cmd.flags.testBit 3).map (·.cmd.chan), shared := sharedN } }
  (l.foldl (fun s p => s.leaveParked p stOk) s1, l.length)

def State.setObj (s : State) (n : Nat) (o : LObj) : State := s.modLod fun u => { u with objects := SMap.put u.objects n o }

/-- An atomic (R212): the new word, and a NOTIFY on it under WAKE when it took effect. -/
def State.atomic (s : State) (c : LCmd) (o : LObj) (new : Nat) (took : Bool) (flag : Bool) : State :=
  let s1 := if took then s.setObj c.obj { o with words := o.words.set c.word (new % 2 ^ 64) } else s
  let r := if took && c.flags.testBit 0 then s1.wake c.obj c.word (c.flags.testBit 1) else (s1, 0)
  r.1.sendResult c stOk 0 (o.words.getD c.word 0) r.2 flag 0

def opFetchAdd (s : State) (c : LCmd) (o : LObj) : State := s.atomic c o (o.words.getD c.word 0 + c.a) true false
def opCompareSwap (s : State) (c : LCmd) (o : LObj) : State :=
  s.atomic c o c.b (o.words.getD c.word 0 == c.a) (o.words.getD c.word 0 == c.a)
def opSwap (s : State) (c : LCmd) (o : LObj) : State := s.atomic c o c.a true false

def opWait (s : State) (c : LCmd) (o : LObj) : State :=
  if o.words.getD c.word 0 ≠ c.a then s.sendResult c stOk dtNotEqual (o.words.getD c.word 0) 0 false 0 else s.park c

def opNotify (s : State) (c : LCmd) (_o : LObj) : State :=
  let r := s.wake c.obj c.word (c.flags.testBit 1)
  r.1.sendResult c stOk 0 r.2 0 false 0

/-- BARRIER (R216).
[DESIGN CHOICE, log entry 78] -/
def opBarrier (s : State) (c : LCmd) (o : LObj) : State :=
  let l := s.lod.parked.filter fun p => p.cmd.opc == 0x0A && p.cmd.obj == c.obj
  if l.length + 1 < o.parties then s.park c
  else
    let s1 := l.foldl (fun s p => s.leaveParked p stOk) s
    (s1.setObj c.obj { o with gen := (o.gen + 1) % 2 ^ 32 }).sendResult c stOk 0 o.gen o.parties true 0

/-- LOCK (R215).
[DEDUCED, log entry 69] -/
def opLock (s : State) (c : LCmd) (o : LObj) : State :=
  let waiter := s.lod.parked.any fun p => p.cmd.opc == 0x0B && p.cmd.obj == c.obj
  let shared := c.flags.testBit 3
  if shared && o.holder.isNone && !waiter then
    (s.setObj c.obj { o with shared := o.shared + 1 }).sendResult c stOk 0 0xFFFF (o.shared + 1) true 0
  else if !shared && o.holder.isNone && o.shared == 0 && !waiter then
    (s.setObj c.obj { o with holder := some c.chan }).sendResult c stOk 0 c.chan 0 true 0
  else s.park c

/-- UNLOCK (R215). -/
def opUnlock (s : State) (c : LCmd) (o : LObj) : State :=
  if c.flags.testBit 3 then
    if o.shared = 0 then s.sendResult c stDenied dtNotOwner 0 0 false 0
    else
      let s1 := s.setObj c.obj { o with shared := o.shared - 1 }
      let r := if o.shared = 1 then s1.handOver c.obj else (s1, 0)
      r.1.sendResult c stOk 0 r.2 0 false 0
  else if o.holder ≠ some c.chan then s.sendResult c stDenied dtNotOwner 0 0 false 0
  else
    let r := (s.setObj c.obj { o with holder := none }).handOver c.obj
    r.1.sendResult c stOk 0 r.2 0 false 0

/-- A detection interval in µs: as asked, or the slice's default, clamped to 5 µs to 10 ms (R220). -/
def State.groupInterval (s : State) (n a : Nat) : Nat := max 5 (min 10000 (if a = 0 then 5 * s.get (F.ldsCtlDetect n) else a))

/-- [DEDUCED, log entry 79] -/
def opGroupCreate (s : State) (c : LCmd) : State :=
  if ¬(s.chart.grpFirst c.berth ≤ c.group ∧ c.group ≤ s.chart.grpLast c.berth) then s.sendResult c stDenied dtNotOwner 0 0 false 0
  else if (SMap.find? s.lod.groups c.group).any fun g => !g.lost then s.sendResult c stDenied dtGroupBusy 0 0 false 0
  else
    let i := s.groupInterval (s.cmdSlice c) c.a
    (s.modLod fun u => { u with groups := SMap.put u.groups c.group ⟨[], i, none, [], false, c.berth, false⟩ }).sendResult
      c stOk 0 c.group i false 0

def opGroupJoin (s : State) (c : LCmd) : State :=
  match SMap.find? s.lod.groups c.group with
  | none => s.sendResult c stDenied dtNoObject 0 0 false 0
  | some g =>
    if g.lost then s.sendResult c stDenied dtLost 0 0 false 0
    else if g.members.contains c.chan then s.sendResult c stOk 0 g.members.length 0 false 0
    else if 56 ≤ g.members.length then s.sendResult c stDenied dtGroupFull 0 0 false 0
    else ((s.modLod fun u => { u with groups := SMap.put u.groups c.group { g with members := g.members ++ [c.chan] } }).sendResult
      c stOk 0 (g.members.length + 1) 0 false 0).restartGroup c.group

/-- [DEDUCED, log entry 79] -/
def opGroupLeave (s : State) (c : LCmd) : State :=
  match SMap.find? s.lod.groups c.group with
  | none => s.sendResult c stDenied dtNotMember 0 0 false 0
  | some g =>
    if g.lost then s.sendResult c stDenied dtLost 0 0 false 0
    else if !g.members.contains c.chan then s.sendResult c stDenied dtNotMember 0 0 false 0
    else ((s.modLod fun u => { u with groups := SMap.put u.groups c.group { g with members := g.members.filter (· != c.chan) } }).sendResult
      c stOk 0 (g.members.length - 1) 0 false 0).restartGroup c.group

/-- A group's commands are frozen no more (R220). -/
def State.unfreeze (s : State) (gid : Nat) : State :=
  s.modLod fun u => { u with parked := u.parked.map (fun p => if p.group = some gid then { p with frozen := false } else p) }

/-- A group that is destroyed while it freezes thaws (R220).
[DEDUCED, log entry 79] -/
def opGroupDestroy (s : State) (c : LCmd) : State :=
  match SMap.find? s.lod.groups c.group with
  | none => s.sendResult c stDenied dtNoObject 0 0 false 0
  | some g =>
    if g.lost then s.sendResult c stDenied dtLost 0 0 false 0
    else if !g.members.isEmpty then s.sendResult c stDenied dtGroupBusy 0 0 false 0
    else ((s.unfreeze c.group).modLod fun u => { u with groups := SMap.del u.groups c.group }).sendResult c stOk 0 c.group 0 false 0

/-- A slot has object storage on a stack that is not lost (R205, R223). -/
def State.slotUsable (s : State) (v : Nat) : Bool :=
  s.chart.slotStored v && !s.home.lostStacks.contains (s.chart.slotHome v / 9)

/-- The slot an allocation on a channel takes from (R205, R223): the channel's own; for one whose stack is lost, the new home's own;
else, and for one without storage, the lowest one with storage that a slice of the same region homes. -/
def State.allocSlot (s : State) (ch : Nat) : Option Nat :=
  let near := (List.range 64).find? fun v => s.slotUsable v && s.slotSlice v / 9 == s.chanHome ch / 9
  if s.slotUsable (ch % 64) then some (ch % 64)
  else if s.chart.slotStored (ch % 64) then
    match (List.range 64).find? fun v => s.slotUsable v && s.chart.slotHome v == s.chanHome ch with
    | some v => some v
    | none => near
  else near

/-- The lowest free object of a slot (R207), while it has one. -/
def State.freeObject (s : State) (v : Nat) : Option Nat :=
  let used := (s.lod.objects.filter fun e => e.1 % 64 == v).map (·.1)
  ((List.range (min 1048576 (used.length + 1))).map fun i => 64 * i + v).find? fun n => !used.contains n

/-- OBJ_ALLOC (R205, R207, R225). A type above 2, or a BARRIER of no parties or more than 65,535, is malformed.
[DEDUCED, log entry 79] -/
def opObjAlloc (s : State) (c : LCmd) : State :=
  if 2 < c.a ∨ (c.a = 2 ∧ ¬(1 ≤ c.b ∧ c.b ≤ 65535)) then s.sendResult c stDenied dtFormat 0 0 false 0
  else if s.chart.objQuota c.berth ≤ s.objUse c.berth then s.sendResult c stDenied dtQuota 0 0 false 0
  else match (s.allocSlot c.chan).bind s.freeObject with
    | none => s.sendResult c stRetry 0 0 0 false 0
    | some n => (s.setObj n ⟨c.a, List.replicate 8 0, none, 0, if c.a = 2 then c.b else 0, 0, c.berth, false⟩).sendResult
        c stOk 0 n 0 false 0

/-- OBJ_FREE (R212): the object's parked commands complete DENIED NO_OBJECT. -/
def opObjFree (s : State) (c : LCmd) (_o : LObj) : State :=
  let l := s.lod.parked.filter fun p => p.cmd.obj == c.obj
  let s1 := l.foldl (fun s p => s.endParked p stDenied dtNoObject 0 0) s
  (s1.modLod fun u => { u with objects := SMap.del u.objects c.obj }).sendResult c stOk 0 c.obj 0 false 0

/-- The object type an operation acts on (R212); any for OBJ_FREE. -/
def opType (opc : Nat) : Option Nat :=
  if opc = 0x0A then some 2 else if opc = 0x0B ∨ opc = 0x0C then some 1 else if opc = 0x19 then none else some 0

/-- A parking command's group admits it (R219): none, or the detail it is denied with. -/
def State.groupDenies (s : State) (c : LCmd) : Option Nat :=
  if c.flags.testBit 2 && [0x08, 0x0A, 0x0B].contains c.opc then
    match SMap.find? s.lod.groups c.group with
    | none => some dtNotMember
    | some g => if g.lost then some dtLost else if g.members.contains c.chan then none else some dtNotMember
  else none

/-- Execute a command on its object, when the object is live, of the right type and not lost (R206, R219, R223). -/
def State.onObject (s : State) (c : LCmd) (op : State → LCmd → LObj → State) : State :=
  match SMap.find? s.lod.objects c.obj with
  | none => s.sendResult c stDenied dtNoObject 0 0 false 0
  | some o =>
    if o.lost ∧ c.opc ≠ 0x19 then s.sendResult c stPoison dtLost 0 0 false 0
    else if (opType c.opc).any (· != o.type) then s.sendResult c stDenied dtType 0 0 false 0
    else match s.groupDenies c with
      | some d => s.sendResult c stDenied d 0 0 false 0
      | none => op s c o

/-- The operations by opcode (R212). -/
def State.execute (s : State) (c : LCmd) : State :=
  match c.opc with
  | 0x01 => s.onObject c opFetchAdd
  | 0x02 => s.onObject c opCompareSwap
  | 0x03 => s.onObject c opSwap
  | 0x08 => s.onObject c opWait
  | 0x09 => s.onObject c opNotify
  | 0x0A => s.onObject c opBarrier
  | 0x0B => s.onObject c opLock
  | 0x0C => s.onObject c opUnlock
  | 0x10 => opGroupCreate s c
  | 0x11 => opGroupJoin s c
  | 0x12 => opGroupLeave s c
  | 0x13 => opGroupDestroy s c
  | 0x18 => opObjAlloc s c
  | 0x19 => s.onObject c opObjFree
  | _ => s

/-- Any other OPC completes DENIED FORMAT (R212). -/
def knownOpc (opc : Nat) : Bool := [1, 2, 3, 8, 9, 10, 11, 12, 16, 17, 18, 19, 24, 25].contains opc

/-- A parked command of a frozen group has ended between two states. -/
def thawedBy (s t : State) : Bool := s.lod.parked.any fun p => p.frozen && !t.lod.parked.contains p

/-- A command executes (R213, R217, R220): one that would end a frozen command is held instead; OBJ_FREE is not. -/
def State.runCmd (s : State) (c : LCmd) : State :=
  let t := s.execute c
  if thawedBy s t && c.opc != 0x19 then
    s.modLod fun u => { u with pend := u.pend.map fun x => if x = c then { x with held := true } else x }
  else (t.count (ctrHom (s.cmdSlice c)) 0x48 anySub (some c.berth) 1).noteGroups

/-- The command waiting in a channel's slot, when it is the oldest for its object and no freeze holds it. -/
def State.readyCmd (s : State) (ch k opc : Nat) : Option LCmd :=
  (s.lod.pend.find? fun c => c.key == 64 * ch + k && c.opc == opc && !c.held).filter fun c =>
    isGroupOp c.opc || c.opc == 0x18 ||
      (s.lod.pend.find? fun d => d.obj == c.obj && !isGroupOp d.opc && d.opc != 0x18) == some c

/-- The commands a freeze held execute, in order of arrival (R220). -/
def State.runHeld (s : State) : State :=
  (s.lod.pend.filter (·.held)).foldl (fun s c =>
    (s.modLod fun u => { u with pend := u.pend.map fun x => if x = c then { x with held := false } else x }).runCmd { c with held := false }) s

/-- A record reads DONE with UNKNOWN_OUTCOME and its ticket (R221), for a command that is gone with its slice: written and counted at slice
`n`, the failed slice's new home, with the time the command had been parked (R210). -/
def State.unknownRec (s : State) (key n elapsed : Nat) : State :=
  let r := s.lrec key
  if r.state = 1 then
    (s.setLrec key { r with state := 2, status := stUnknownOutcome, detail := 0, value := 0, aux := 0, flag := false,
                            elapsed := min elapsed (2 ^ 32 - 1) }).bump (F.ldsErrstatUnknown n) 1
  else s

/-- Lodestar at a home failover (R221 to R223), once HOMEMAP has moved: `slots` moved from slice `n`, whose first slot was `first`; with
the stack of region `n / 9` lost, its objects, groups and every record of the moved slots are lost too. -/
def State.lodFailover (s : State) (n first : Nat) (slots : List Nat) (stack : Bool) : State :=
  let goneP := s.lod.parked.filter fun p => p.slice == n
  let goneC := s.lod.pend.filter fun c => if isGroupOp c.opc then slots.contains (c.group % 64)
    else if c.opc = 0x18 then slots.contains (c.chan % 64) else slots.contains (c.obj % 64)
  let keys := goneP.map (fun p => (p.cmd.key, s.cmdSlice p.cmd, (s.now - p.since) / 1000000)) ++ goneC.map (fun c => (c.key, s.cmdSlice c, 0)) ++
    (s.lod.records.filter fun e => slots.contains (e.1 / 64 % 64) && e.2.state == 1).map fun e => (e.1, s.chanHome (e.1 / 64), 0)
  let wiped := if stack then slots else if slots.contains first then [first] else []
  let s1 := s.modLod fun u => { u with
    parked := u.parked.filter fun p => p.slice != n
    pend := u.pend.filter fun c => !goneC.contains c
    records := u.records.filter fun e => !wiped.contains (e.1 / 64 % 64)
    lostSlots := (wiped ++ u.lostSlots).eraseDups
    results := u.results.filter fun e => !wiped.contains (e.1 / 64 % 64)
    objects := if stack then u.objects.map (fun e => if s.chart.slotHome (e.1 % 64) / 9 = n / 9 then (e.1, { e.2 with lost := true }) else e) else u.objects
    groups := u.groups.map (fun e => if slots.contains (e.1 % 64) then (e.1, { e.2 with lost := e.2.lost || stack, freezing := false, frozen := [] }) else e) }
  let s2 := s1.modLod fun u => { u with parked := u.parked.map (fun p => if p.group.any (fun g => slots.contains (g % 64)) then { p with group := none, frozen := false } else p) }
  let s3 := keys.foldl (fun s k => s.unknownRec k.1 k.2.1 k.2.2) s2
  ((wiped.foldl (fun s v => s.bump (F.ldsErrstatUnknown (s.slotSlice v)) 4096) s3).runHeld).noteGroups

/-- Entry to the safe state (R224): every parked command completes with status SAFE. -/
def State.safeLodestar (s : State) : State :=
  s.lod.parked.foldl (fun s p =>
    (s.modLod fun u => { u with parked := u.parked.filter (· != p) }).setLrec p.cmd.key
      { s.lrec p.cmd.key with state := 2, status := stSafe, detail := 0, elapsed := min ((s.now - p.since) / 1000000) (2 ^ 32 - 1) }) s

end Sys2Proof.Machine
end

