-- ==== Sys2Proof/Machine/CopyOps.lean ====
section
/-! DEFINITION. The copy engines (R226 to R231): descriptors, jobs, accesses to private and to shared memory, completions. -/
namespace Sys2Proof.Machine

/-- The record of a copy channel's slot. -/
def State.crec (s : State) (key : Nat) : LRec := (SMap.find? s.cpy.records key).getD emptyRec
def State.setCrec (s : State) (key : Nat) (r : LRec) : State := s.modCpy fun u => { u with records := SMap.put u.records key r }

/-- The words of a management completion record (R231). -/
def State.setMgtDone (s : State) (g : Nat) (r : LRec) : State :=
  (List.range 16).foldl (fun s i => s.set (F.cpeMgtdone g i) (leField (recBytes r 0) (4 * i) 4)) (s.set (F.cpeMgtsubmitBusy g) 0)

/-- A job's record is written (R226, R231). -/
def State.completeRec (s : State) (j : CopyJob) (status detail : Nat) : State :=
  let r : LRec := ⟨2, (s.crec (64 * j.chan + j.slot)).overrun, j.done == j.lines, status, detail, j.opc, j.ticket, j.done, j.bad.getD 0,
    if j.running then min ((s.now - j.since) / 1000000) (2 ^ 32 - 1) else 0⟩
  if j.chan = 256 then s.setMgtDone j.g r else s.setCrec (64 * j.chan + j.slot) r

/-- Jobs of a berth that run in an engine, the management job apart (R228, R231). -/
def State.copyUse (s : State) (g k : Nat) : Nat :=
  (s.cpy.jobs.filter fun j => j.g == g && j.running && j.chan != 256 && j.berth == k).length

/-- A job ends: its record is written, and an engine with no running job gives its slip back (R229). -/
def State.endJob (s : State) (j : CopyJob) (status detail : Nat) : State :=
  let s0 := ((s.completeRec j status detail).modCpy fun u => { u with jobs := u.jobs.filter fun x => x.id != j.id }).modHome fun u => { u with
    engineWait := u.engineWait.filter fun x => x.tag / 2 ^ 28 != j.id }
  let s1 := s0.modCpy fun u => { u with
    overShare := u.overShare.filter fun e => decide (s.chart.copyShare (e % 64) ≤ s0.copyUse (e / 64) (e % 64)) }
  if s1.cpy.jobs.any fun x => x.g == j.g && x.running then s1
  else if h : j.g < 8 then s1.releaseFor (.copyEngine ⟨j.g, h⟩) else s1

/-- End every job that a test picks. -/
def State.endJobs (s : State) (f : CopyJob → Bool) (status detail : Nat) : State :=
  (s.cpy.jobs.filter f).foldl (fun s j => s.endJob j status detail) s

/-- Entry to the safe state (R224): running jobs complete SAFE. -/
def State.safeCopies (s : State) : State := s.endJobs (·.running) stSafe 0

/-- The data plane is shed (R229): running jobs complete UNKNOWN_OUTCOME with detail SHED. -/
def State.shedCopies (s : State) : State := s.endJobs (·.running) stUnknownOutcome dtShed

/-- An engine is out of service (R230): its jobs complete UNKNOWN_OUTCOME.
[DEDUCED, log entry 80] -/
def State.failEngine (s : State) (g : Nat) : State :=
  let s1 := (s.endJobs (fun j => j.g == g) stUnknownOutcome 0).modCpy fun u => { u with
    failed := if u.failed.contains g then u.failed else u.failed ++ [g], asked := SMap.del u.asked g }
  (if h : g < 8 then (s1.withdrawFor (.copyEngine ⟨g, h⟩)).releaseFor (.copyEngine ⟨g, h⟩) else s1).set (F.cpeStatPaused g) 0

/-- The engine serves its channels (R230): it works and its region is powered. -/
def State.engineUp (s : State) (g : Nat) : Bool := !s.cpy.failed.contains g && (s.get F.hubTopoRegionPowered).testBit g

/-- A request to the copy parts with offset bits [23:20] not 0, or to an engine out of service, is a denied access (R203, R230). -/
def State.copyDenied (s : State) (off : Nat) : Bool :=
  decide (2 ^ 25 ≤ off) && (off / 2 ^ 20 % 16 != 0 || !s.engineUp (off / 2 ^ 12 % 256 % 8))

/-- A read of the Lodestar aperture (R202 to R204, R210, R243): a record with the code the reading berth shows, zeros and a count from a
command or descriptor slot; a cacheable request is denied at the gate.
[DESIGN CHOICE, log entry 81] -/
def State.apertureRead (s : State) (p id k addr access : Nat) (kind : MsgKind) (cached : Bool) : State :=
  let off := addr - s.chart.ldsBase
  let r := s.gateCheck gateLds [addr / 64] k 7 p
  if cached then (s.violation gateLds (addr / 64) k access p false).emit (.answer p id (answerOf kind stDenied))
  else if r.1 ≠ [] ∨ s.copyDenied off = true then
    (if r.1 = [] then s.raise atAccess [k, audPilot] else r.2).emit (.answer p id (answerOf kind stDenied))
  else match off / 2 ^ 24 with
    | 0 => (s.bump (F.ldsErrstatFormat (s.chanHome (off / 2 ^ 12 % 4096))) 1).emit (.apertureData p id (List.replicate 64 0))
    | 1 => s.emit (.apertureData p id (recBytes (s.lrec (64 * (off / 2 ^ 12 % 4096) + off / 64 % 64)) (s.shown k)))
    | 2 => (s.bump (F.cpeStatFormat (off / 2 ^ 12 % 256 % 8)) 1).emit (.apertureData p id (List.replicate 64 0))
    | _ => s.emit (.apertureData p id (recBytes (s.crec (64 * (off / 2 ^ 12 % 256) + off / 64 % 64)) (s.shown k)))

/-- The bytes of a descriptor obey R226; the berth byte is for management submissions. -/
def descOk (b : List Nat) (mgt : Bool) : Bool :=
  let opc := b.getD 0 0
  (opc == 0x40 || opc == 0x41 || opc == 0x42) && decide (b.getD 1 0 ≤ 1) && decide (1 ≤ leField b 4 4 ∧ leField b 4 4 ≤ 16777216)
    && leField b 8 8 % 64 == 0 && decide (leField b 8 8 < 2 ^ 52) && leField b 16 8 % 64 == 0 && decide (leField b 16 8 < 2 ^ 52)
    && (opc == 0x40 || leField b 8 8 == 0) && (if mgt then decide (b.getD 24 0 < 64) else b.getD 24 0 == 0)
    && (List.range 39).all fun i => b.getD (25 + i) 0 == 0

/-- A descriptor is accepted (R228): queued behind the jobs accepted before it. -/
def State.queueJob (s : State) (g chan slot berth : Nat) (b : List Nat) : State :=
  s.modCpy fun u => { u with next := u.next + 1, jobs := u.jobs ++
    [⟨g, u.next, chan, slot, leField b 2 2, b.getD 0 0, (b.getD 1 0).testBit 0, leField b 4 4, leField b 8 8, leField b 16 8, berth,
      false, 0, [], 0, none, false, false, false, 0, []⟩] }

/-- A queued job may start (R228): its berth under its share, its FENCE met. -/
def State.jobMayStart (s : State) (j : CopyJob) : Bool :=
  (j.chan == 256 || decide (s.copyUse j.g j.berth < s.chart.copyShare j.berth))
    && (!j.fence || !(s.cpy.jobs.any fun x => x.g == j.g && x.chan == j.chan && decide (x.id < j.id)))

def State.setJob (s : State) (j : CopyJob) : State :=
  s.modCpy fun u => { u with jobs := u.jobs.map fun x => if x.id = j.id then j else x }
def State.job (s : State) (id : Nat) : Option CopyJob := s.cpy.jobs.find? fun j => j.id == id

/-- The gate that checks a line of memory (R236): the home-slice gate of a shared window, the egress gate before a private one's pool;
none where no window holds it.
[DEDUCED, log entry 65] -/
def State.memGate (s : State) (line : Nat) : Option Nat :=
  match s.chart.windowOf line with
  | none => none
  | some w => some (if s.chart.winShared w then gateHome (s.chart.slotHome (slotOf line)) else s.chart.winPool w)

/-- The denied lines of an access over several gates, each gate's violation recorded once (R227, R242, R245). A line that no window
holds reaches no memory and counts as denied.
[DEDUCED, log entry 65] -/
def State.copyCheck (s : State) (g berth kind : Nat) (lines : List Nat) : List Nat × State :=
  let r := ((lines.filterMap s.memGate).eraseDups).foldl (fun (acc : List Nat × State) n =>
    let x := acc.2.gateCheck n (lines.filter fun l => s.memGate l == some n) berth kind g
    (acc.1 ++ x.1, x.2)) ([], s)
  (r.1 ++ lines.filter fun l => (s.memGate l).isNone, r.2)

/-- A copy engine's request to a home (R227): RD_CUR or WR_FULL, charged to the job's berth. It asks for admission as any request does
(R164), and one that its home does not grant counts as waiting and is asked for again as trackers come free.
[DEDUCED, log entry 65] -/
def State.engineRequest (s : State) (j : CopyJob) (op : CohOp) (line i phase data : Nat) : State :=
  let x : Shadow := ⟨1024 + j.g, j.id * 2 ^ 28 + 16 * i + phase, op, line, slotOf line, 17408, 0, none, false, some j.berth, data, 0, 0, 0,
    false, 0, false⟩
  let s1 := s.setJob { j with waits := j.waits ++ [16 * i + phase] }
  if s1.homeGrants (s1.lineHome line) line (some j.berth) then s1.keepShadow (s1.lineHome line) x
  else (s1.modHome fun u => { u with engineWait := u.engineWait ++ [x] }).count (ctrHom (s1.lineHome line)) 0x42 anySub (some j.berth) 1

/-- The addresses of line i of a job (R227): descending when the ranges overlap with DST above SRC. -/
def CopyJob.index (j : CopyJob) (i : Nat) : Nat :=
  if j.opc = 0x40 ∧ j.src < j.dst ∧ j.dst < j.src + 64 * j.lines then j.lines - 1 - i else i
def CopyJob.srcLine (j : CopyJob) (i : Nat) : Nat := j.src / 64 + j.index i
def CopyJob.dstLine (j : CopyJob) (i : Nat) : Nat := j.dst / 64 + j.index i

/-- The first denied or failing address (R226).
[DESIGN CHOICE, log entry 66] -/
def CopyJob.fault (j : CopyJob) (addr : Nat) : CopyJob := { j with bad := some (j.bad.getD addr) }

def State.lineShared (s : State) (line : Nat) : Bool := (s.chart.sharedWindow line).isSome

/-- Write a line of the destination: through its home, or to its pool at once. -/
def State.copyWrite (s : State) (id i phase data : Nat) : State :=
  match s.job id with
  | none => s
  | some j =>
    if s.lineShared (j.dstLine i) then s.engineRequest j .wrFull (j.dstLine i) i phase data
    else
      let s1 := s.emit (.poolWrite (((s.chart.windowOf (j.dstLine i)).map s.chart.winPool).getD 0) (j.dstLine i) data false)
      s1.setJob { j with done := j.done + 1 }

/-- The patterns of SANITIZE (R227). -/
def pattern (b : Nat) : Nat := (List.range 64).foldl (fun v i => v + b * 256 ^ i) 0

/-- One line of a chunk begins (R227): a source line is read, by the home or from `data`; a ZERO line is written; a SANITIZE line takes
its three writes and its read-back, `dirty` naming private lines that do not read zero.
[DESIGN CHOICE, log entry 66] -/
def State.copyLine (s : State) (id i : Nat) (data : List Nat) (pos : Nat) (dirty : List Nat) : State :=
  match s.job id with
  | none => s
  | some j =>
    if j.opc = 0x40 then
      if s.lineShared (j.srcLine i) then s.engineRequest j .rdCur (j.srcLine i) i 0 0
      else
        let s1 := s.emit (.poolRead (((s.chart.windowOf (j.srcLine i)).map s.chart.winPool).getD 0) (j.srcLine i))
        s1.copyWrite id i 1 (data.getD pos 0 % 2 ^ 512)
    else if j.opc = 0x41 then s.copyWrite id i 1 0
    else if s.lineShared (j.dstLine i) then s.engineRequest j .wrFull (j.dstLine i) i 2 (pattern 0x55)
    else
      let pool := ((s.chart.windowOf (j.dstLine i)).map s.chart.winPool).getD 0
      let s1 := [pattern 0x55, pattern 0xAA, 0].foldl (fun s v => s.emit (.poolWrite pool (j.dstLine i) v false)) s
      if j.blind.contains i then s1
      else (s1.emit (.poolRead pool (j.dstLine i))).setJob
        (if dirty.contains i then { j.fault (64 * j.dstLine i) with verify := true } else { j with done := j.done + 1 })

/-- A home's reply to a copy engine (R227): the line goes on to its next access. -/
def State.copyReply (s : State) (tag data : Nat) (bad : Bool) : State :=
  let key := tag % 2 ^ 28
  let i := key / 16
  match s.job (tag / 2 ^ 28) with
  | none => s
  | some j0 =>
    let j := { j0 with waits := j0.waits.filter (· != key) }
    let s1 := s.setJob j
    if bad ∧ key % 16 ≠ 5 then s1.setJob { j.fault (64 * (if key % 16 = 0 then j.srcLine i else j.dstLine i)) with failed := true }
    else match key % 16 with
      | 0 => s1.copyWrite j.id i 1 data
      | 1 => s1.setJob { j with done := j.done + 1 }
      | 2 => s1.engineRequest j .wrFull (j.dstLine i) i 3 (pattern 0xAA)
      | 3 => s1.engineRequest j .wrFull (j.dstLine i) i 4 0
      | 4 => if j.blind.contains i then s1 else s1.engineRequest j .rdCur (j.dstLine i) i 5 0
      | _ => if bad ∨ data ≠ 0 then s1.setJob { j.fault (64 * j.dstLine i) with verify := true } else s1.setJob { j with done := j.done + 1 }

/-- The replies of the homes reach an engine. -/
def State.takeReplies (s : State) (g : Nat) : State :=
  (s.home.engine.filter fun r => r.1 == g).foldl (fun s r => s.copyReply r.2.1 r.2.2.1 r.2.2.2)
    (s.modHome fun u => { u with engine := u.engine.filter fun r => r.1 != g })

/-- The next 4 KiB of a job (R227): the gates are asked once for the sources, once for the destinations of the lines whose source may be
read, and once for SANITIZE's read-back of the lines it may write; the permitted parts begin. -/
def State.beginChunk (s : State) (j : CopyJob) (data dirty : List Nat) : State :=
  let is := (List.range (min 64 (j.lines - j.next))).map (j.next + ·)
  let rs := if j.opc = 0x40 then s.copyCheck j.g j.berth 1 (is.map j.srcLine) else ([], s)
  let noRead := is.filter fun i => j.opc == 0x40 && rs.1.contains (j.srcLine i)
  let rd := rs.2.copyCheck j.g j.berth 2 ((is.filter fun i => !noRead.contains i).map j.dstLine)
  let shut := is.filter fun i => noRead.contains i || rd.1.contains (j.dstLine i)
  let rb := if j.opc = 0x42 then rd.2.copyCheck j.g j.berth 1 ((is.filter fun i => !shut.contains i).map j.dstLine) else ([], rd.2)
  let blind := is.filter fun i => rb.1.contains (j.dstLine i)
  let j1 : CopyJob := { j with next := j.next + is.length, denied := j.denied || !shut.isEmpty || !blind.isEmpty, blind := j.blind ++ blind }
  let j2 := match is.filter fun i => shut.contains i || blind.contains i with
    | [] => j1
    | i :: _ => j1.fault (64 * (if j.opc = 0x40 ∧ rs.1.contains (j.srcLine i) then j.srcLine i else j.dstLine i))
  (List.range is.length).foldl (fun s n =>
    let i := is.getD n 0
    if shut.contains i then s else s.copyLine j.id i data n dirty) (rb.2.setJob j2)

/-- A job whose chunk has finished: it completes, or takes its next turn after the others (R227, R228).
[DESIGN CHOICE, log entry 67] -/
def State.endChunk (s : State) (j : CopyJob) : State :=
  if j.verify then s.endJob j stPoison dtVerify
  else if j.next < j.lines then s.modCpy fun u => { u with jobs :=
    (u.jobs.filter fun x => x.running && x.id != j.id) ++ [j] ++ u.jobs.filter fun x => !x.running }
  else if j.denied then s.endJob j stDenied dtGate
  else if j.failed then s.endJob j stPoison 0
  else s.endJob j stOk 0

end Sys2Proof.Machine
end

