-- ==== Sys2Proof/Machine/ParkOps.lean ====
section
/-! DEFINITION. What completes on entry to the safe state (R224). -/
namespace Sys2Proof.Machine

/-- Every parked Lodestar command and every running copy job completes with status SAFE (R224). -/
def State.safeParked (s : State) : State := (s.safeLodestar).safeCopies

end Sys2Proof.Machine
end

