-- ==== Sys2Proof/Machine/FaultOps.lean ====
section
/-! DEFINITION. The collector tree and the safe state (R312 to R325): how an event is taken, counted, recorded and repeated
upward, what the chip collector does with it, and how the safe state is entered. -/
namespace Sys2Proof.Machine

/-- Collectors by one number: cells 0–1023, blocks 1024–1151, regions 1152–1159, the chip 1160. -/
def hubCol : Nat := 1160

def colNum : Collector → Nat
  | .cell p => p.val
  | .block n => 1024 + n.val
  | .region g => 1152 + g.val
  | .hub => 1160

/-- The base address of a collector's instance (R335, R447). -/
def colBase (c : Nat) : Nat :=
  if c < 1024 then 0x2000000 + 0x1000 * c
  else if c < 1152 then 0x800000 + 0x1000 * (c - 1024)
  else if c < 1160 then 0x1000000 + 0x100000 * (c - 1152)
  else 0x100000

/-- A collector's level and instance as FLT.LASTFATAL names them (R336). -/
def colLevel (c : Nat) : Nat := if c < 1024 then 0 else if c < 1152 then 1 else if c < 1160 then 2 else 3
def colInstance (c : Nat) : Nat := if c < 1024 then c else if c < 1152 then c - 1024 else if c < 1160 then c - 1152 else 0

/-- The parent of a collector and the parent's input it drives (R314). -/
def colParent (c : Nat) : Nat × Nat :=
  if c < 1024 then (1024 + c / 8, c % 8) else if c < 1152 then (1152 + (c - 1024) / 16, (c - 1024) % 16) else (1160, c - 1152)

/-- The inputs of a collector that have a source (R314). -/
def colInputs (c : Nat) : Nat := if c < 1024 then 9 else if c < 1152 then 10 else if c < 1160 then 32 else 20

/-- Fault classes as numbers. -/
def clsNum : FaultClass → Nat
  | .c0 => 0
  | .c1 => 1
  | .c2 => 2
  | .c3 => 3

/-- The mode of an input (R318): 0 STARTUP, 1 TEST, 2 RECOVERY, 3 SERVICE. -/
def State.inputMode (s : State) (c i : Nat) : Nat := SMap.getD s.flt.modes (32 * c + i) 0

def State.setMode (s : State) (c i m : Nat) : State :=
  { s with flt := { s.flt with modes := if m = 0 then SMap.del s.flt.modes (32 * c + i) else SMap.put s.flt.modes (32 * c + i) m } }

/-- End every session that a test picks (R437): their background commands run on, and the answer to a burn
under way will be discarded.
[DESIGN CHOICE, log entry 125] -/
def State.endSessions (s : State) (f : Nat → SessionRec → Bool) : State :=
  { s with
    sessions := s.sessions.filter fun e => !f e.1 e.2
    bgs := s.bgs.map fun b => { b with live := b.live && !((SMap.find? s.sessions b.sess).any fun r => f b.sess r) }
    mgt := { s.mgt with
      burns := s.mgt.burns.map fun b => { b with live := b.live && !((SMap.find? s.sessions b.sess).any fun r => f b.sess r) }
      limits := s.mgt.limits.filter fun e => !((SMap.find? s.sessions e.1).any fun r => f e.1 r) } }

/-- End a session (R437). -/
def State.endSession (s : State) (n : Nat) : State := s.endSessions fun m _ => m == n

def Path.inBand : Path → Bool
  | .inband _ => true
  | .mailbox _ => true
  | _ => false

/-- A running scrub stops with ABORTED (R344). -/
def State.abortScrubs (s : State) : State :=
  { s.ecc.scrubs.foldl (fun s e => s.setAll [(F.eccScrubBusy (eccBase e.1), 0), (F.eccScrubPaused (eccBase e.1), 0),
      (F.eccScrubAborted (eccBase e.1), 1)]) s with ecc := { s.ecc with scrubs := [] } }

/-- Enter the safe state (R323): the cause and the record of its source, SAFE to every audience, parked Lodestar commands and
running copy jobs completed SAFE, data-plane leave ended (R380), scrubs stopped (R344), in-band and mailbox sessions ended
(R444), a power-state entry stopped (R406). In the safe state a further cause is only counted (R324).
[DEDUCED, log entry 30] -/
def State.enterSafe (s : State) (cause c src : Nat) : State :=
  if s.safeOn then s.bump F.fltSafeLater 1
  else
    let s1 := s.setAll [(F.fltSafeState, 1), (F.fltSafeCause, cause), (F.fltLastfatalLevel, colLevel c),
      (F.fltLastfatalInstance, colInstance c), (F.fltLastfatalSrc, src), (F.fltLastfatalCause, cause),
      (F.fltLastfatalValid, 1), (F.rstPstateBusy, 0)]
    let s2 := (List.range 66).foldl (fun s a => s.raiseOne atSafe a) s1
    let s3 := ((s2.safeParked).endDataLeave reasonSafe).abortScrubs
    { s3.endSessions (fun _ r => r.path.inBand) with
      flt := { s3.flt with safeAt := s.now }, pwr := { s3.pwr with entry := if s3.pwr.entry = 1 then 1 else 0 } }

/-- The chip collector acts on an event (R315, R323, R328): C0 counts in the 1 s window and raises CORRECTED once when it reaches
C0_ATTN; C2 waits for its sequencer; C3 enters the safe state.
[DEDUCED, log entry 19] -/
def State.hubAct (s : State) (cls origin input cause : Nat) : State :=
  if cls = 0 then
    let s1 := s.bump F.fltC0win 1
    if s.get F.fltCtlC0Attn ≠ 0 ∧ s.get F.fltCtlC0Attn ≤ s1.get F.fltC0win ∧ s.flt.c0Raised = false then
      ({ s1 with flt := { s1.flt with c0Raised := true } } : State).raise atCorrected [audPilot]
    else s1
  else if cls = 1 then s
  else if cls = 2 then { s with flt := { s.flt with reactions := s.flt.reactions ++ [(origin, input)] } }
  else s.enterSafe cause origin input

/-- A collector takes an event (R320): it counts it, and a C1 to C3 event fills the first-source record or sets OVERFLOW and
PENDING. -/
def State.takeEvent (s : State) (c i cls : Nat) : State :=
  let b := colBase c
  let s1 := if cls = 0 then s.bump (F.colCountC0 b) 1
    else if cls = 1 then s.bump (F.colCountC1 b) 1 else s.bump (F.colCountC2 b) 1
  if cls = 0 then s1
  else if s.flag (F.colFirstValid b) then (s1.set (F.colFirstOverflow b) 1).setBit (F.colPending b) i
  else s1.setAll [(F.colFirstSrc b, i), (F.colFirstClass b, cls), (F.colFirstTime b, s.usSinceReset), (F.colFirstValid b, 1)]

/-- An event on an input's line (R314, R316 to R318): outside SERVICE it latches the start-up status bit and nothing more; a masked
line is not read; otherwise the collector takes it and repeats it to its parent, up to the chip collector. `levels` is how many
collectors stand above; `cause` is the safe-state cause a C3 event gives. -/
def State.lineEvent (s : State) (levels c i cls origin input cause : Nat) : State :=
  if s.inputMode c i ≠ 3 then s.setBit (F.colSsw (colBase c)) i
  else if (s.get (F.colWiring (colBase c))).testBit i then s
  else if c = hubCol then (s.takeEvent c i cls).hubAct cls origin input cause
  else match levels with
    | 0 => s.takeEvent c i cls
    | l + 1 => (s.takeEvent c i cls).lineEvent l (colParent c).1 (colParent c).2 cls origin input cause

/-- A unit reports a fault on its collector input; an event of a region's clock regenerator is the loss of its lock (R35). -/
def State.report (s : State) (c i cls : Nat) : State :=
  (if 1152 ≤ c ∧ c < 1160 ∧ i = 30 then s.set (F.seamStatRegenLock (c - 1152)) 0 else s).lineEvent 4 c i cls c i 1

/-- The event of a masked input found by the poll (R317): handled as though it had arrived on the line. -/
def State.polledEvent (s : State) (c i cls : Nat) : State :=
  if c = hubCol then (s.takeEvent c i cls).hubAct cls c i 1
  else (s.takeEvent c i cls).lineEvent 3 (colParent c).1 (colParent c).2 cls c i 1

/-- The collector's order within one cycle (R315): higher class first, then lower input. -/
def eventBefore (a b : Nat × Nat) : Bool := decide (b.2 < a.2 ∨ (a.2 = b.2 ∧ a.1 ≤ b.1))

def insertEvent (e : Nat × Nat) : List (Nat × Nat) → List (Nat × Nat)
  | [] => [e]
  | x :: r => if eventBefore e x then e :: x :: r else x :: insertEvent e r

def sortEvents (l : List (Nat × Nat)) : List (Nat × Nat) := l.foldl (fun r e => insertEvent e r) []

/-- A C2 reaction begins (R315): the event is reported when it has not come over the collector tree already, and is no longer
waiting for its sequencer.
[DEDUCED, log entry 19] -/
def State.takeReaction (s : State) (c i : Nat) : State :=
  let s1 := if s.flt.reactions.contains (c, i) then s else s.report c i 2
  { s1 with flt := { s1.flt with reactions := s1.flt.reactions.filter (· != (c, i)) } }

/-- Collector inputs by unit (R314). -/
def inLane (l : Nat) : Nat × Nat := (l / 2, l % 2)
def inPhy (p : Nat) : Nat × Nat := (p, 2)
def inLink (p : Nat) : Nat × Nat := (p, 3)
def inSlice (n : Nat) : Nat × Nat := (1152 + n / 9, 16 + n % 9)
def inHbm (g : Nat) : Nat × Nat := (1152 + g, 25)
def inCopy (g : Nat) : Nat × Nat := (1152 + g, 26)
def inSeam (g l : Nat) : Nat × Nat := (1152 + g, 27 + l)
def inRegen (g : Nat) : Nat × Nat := (1152 + g, 30)
def inBolt (g : Nat) : Nat × Nat := (1152 + g, 31)

def State.reportAt (s : State) (u : Nat × Nat) (cls : Nat) : State := s.report u.1 u.2 cls

/-- Set the mode of every input of a unit's collectors when the unit goes into reset or loses power (R318, R390). -/
def State.setModes (s : State) (l : List (Nat × Nat)) (m : Nat) : State := l.foldl (fun s e => s.setMode e.1 e.2 m) s

/-- Both planes of the Rose carry traffic (R301, R307).
[DEDUCED, log entry 108] -/
def State.roseUp (s : State) : State :=
  s.setAll [(F.hubXbarstatMode, 3), (F.hubXbarstatSpeedup, 229), (F.hubTopoPlaneAUp, 1), (F.hubTopoPlaneBUp, 1)]

/-- The reset's power-up begins (R404 step 4), the Rose's planes with it.
[DESIGN CHOICE, log entry 99] -/
def State.startUp (s : State) : State := (s.set F.rstStatPhase 1).roseUp

end Sys2Proof.Machine
end

