-- ==== Sys2Proof/Machine/LinkOps.lean ====
section
/-! DEFINITION. Links (R61, R287 to R301): up, down, the grace period, the flush, full resets and retirement. -/
namespace Sys2Proof.Machine

/-- The vPPB a binding point is bound to. -/
def State.pointVppb (s : State) (pt : Nat) : Nat :=
  match pointLd pt with
  | none => s.get (F.celBindVppb (pointLead pt))
  | some k => s.get (F.celLdbindVppb (pointLead pt) k)

/-- The bound vPPBs of a DSP pleat, as virtual switch and vPPB (R67). -/
def State.boundVppbs (s : State) (p : Nat) : List (Nat × Nat) :=
  if s.chart.isDsp p then
    (((pointOf p none) :: (List.range 16).map fun k => pointOf p (some k)).filter s.pointBound).map fun pt =>
      (s.pointVcs pt, s.pointVppb pt)
  else []

/-- The binding point a vPPB is bound to. -/
def State.vppbPoint (s : State) (v i : Nat) : Option Nat :=
  ((List.range 1024).filter s.chart.isDsp).findSome? fun p =>
    ((pointOf p none) :: (List.range 16).map fun k => pointOf p (some k)).find? fun pt =>
      s.pointBound pt && s.pointVcs pt == v && s.pointVppb pt == i

/-- A vPPB's slot (R76); one of which nothing is known shows nothing. -/
def State.slot (s : State) (k : Nat) : Slot := SMap.getD s.bnd.slots k ⟨false, false, false, false, false⟩

/-- Events at a vPPB's slot (R73, R74, R76, R83, R84): its presence and its active data link layer follow those of the pleat it is bound to,
the events stay set until the host clears them, and the host is told. -/
def State.slotEvent (s : State) (v i : Nat) (presence dll attention : Bool) : State :=
  let x := s.slot (256 * v + i)
  let p := (s.vppbPoint v i).map pointLead
  (s.modBnd fun u => { u with slots := SMap.put u.slots (256 * v + i) (Slot.mk
    (p.any fun q => s.flag (F.celHotplugPresent q)) (p.any fun q => s.flag (F.celLinkstatUp q)) (x.button || attention)
    (x.presenceChg || presence) (x.activeChg || dll)) }).emit (.slotEvent v i presence dll attention)

/-- The bound vPPBs of a DSP pleat hear that its data link layer has become active or inactive (R76). -/
def State.dllEvent (s : State) (p : Nat) : State := (s.boundVppbs p).foldl (fun s b => s.slotEvent b.1 b.2 false true false) s

/-- A pleat's virtual switch's berth, as the audience of its lanes (R257). -/
def State.pleatBerth (s : State) (p : Nat) : List Nat := (s.pointBerth (pointOf p none)).toList

/-- An FNL link layer that has just come up fresh (R292): credits as the partner advertised them. -/
def freshFnl (f : FnlLink) : FnlLink :=
  { f with buffer := [], oldReplays := 0, nakOut := false, badRun := 0, lockRun := 0, credits := f.peerCredits,
           lastCredit := [0, 0, 0, 0, 0, 0], returned := [0, 0, 0, 0, 0, 0], csyncAt := none, openData := 0,
           noResume := false }

/-- What an FNL pleat advertises at a link-up (R285): its dedicated partitions less what is in use, in CREDIT field order. -/
def State.advertised (s : State) (p : Nat) : List Nat :=
  [FcClass.req, .snp, .rsp, .data, .sync, .mgt].map fun fc => s.chart.cells p * stgPart 3 fc - s.stgDedicated p fc

/-- The cells of a pleat show a link field (R87 to R91: pleat-wide fields stand at the lead cell), and BLK.FWDRATE each cell's
forwarding rate (R120), for 68 B flits too by the factor 16/17 that the shapers use (R137).
[DESIGN CHOICE, log entry 154] -/
def State.setForward (s : State) (p : Nat) : State :=
  (s.chart.pleat p).foldl (fun s c => s.setAll [
    (F.blkFwdrateRate (c / 8) (c % 8), (s.forwarding p).1 / (s.forwarding p).2 / 1000),
    (F.blkFwdrateCtOk (c / 8) (c % 8), if s.flag (F.celLinkstatUp p) ∧ s.ctFraming p = true then 1 else 0)]) s

/-- The lanes of a pleat by link-lane number (R60). -/
def Chart.linkLane (p i : Nat) : Nat := 2 * (p + i / 2) + i % 2

/-- Calibration in hand is discarded (R271): pending steps and trials, and a sweeping lane reads VALID 0 (R270). -/
def State.dropCalibration (s : State) (p : Nat) : State :=
  let ls := (List.range (2 * s.chart.cells p)).map fun i => Chart.linkLane p i
  let s1 := s.modLan fun u => { u with
    lanes := u.lanes.map fun e => if ls.contains e.1 then (e.1, { e.2 with step := none, trial := none, goodSince := none }) else e
    windows := SMap.del u.windows p, asked := SMap.del u.asked p, suspect := SMap.del u.suspect p }
  ls.foldl (fun s l =>
      let s1 := s.setAll [(F.lanModeActive l, 0), (F.lanRxeqStepPending l, 0), (F.lanRxeqEndStop l, 0)]
      if s.lan.sweeping.contains l then s1.set (F.sxtSweepresValid l) 0 else s1)
    (s1.setAll [(F.lanQwstatReqOut (2 * p), 0), (F.lanQwstatReqIn (2 * p), 0)])

/-- The flush of a pleat (R297): messages held for it are released and its delivered requests dropped, each requester answered
LINK_DOWN with LINK raised to its berth; the replay buffer is emptied; a message open at an output that it has not sent whole is filled (R113); FLUSHED is set; the snoops towards its agents expire (R186).
[DEDUCED, log entry 42] -/
def State.flush (s : State) (p : Nat) : State :=
  let held := s.core.bolt.filter fun m => m.out == p
  let recs := s.core.records.filter fun r => pointLead r.point == p
  let s1 := held.foldl (fun s m => if m.filled then s.dropBolt m else (s.dropBolt m).linkDownReply m.src m.id m.kind m.berth) s
  let s2 := recs.foldl (fun s r => s.linkDownReply r.src r.id r.kind r.berth)
    (s1.modCore fun u => { u with
      records := u.records.filter fun r => pointLead r.point != p, sending := SMap.del u.sending p, gaps := SMap.del u.gaps p })
  let s3 := (((s2.bump (F.fnlFlushMsgs p) held.length).bump (F.fnlFlushReplies p)
    ((held.filter fun m => nonPosted m.kind).length + recs.length)).setBuffer p []).setAll
    [(F.fnlLinkstatFlushed p, 1), (F.fnlLinkstatGraceOn p, 0)]
  ((((s3.core.sending.filterMap fun e => (s3.openMsg e.1).bind fun m =>
      if m.src = p ∧ m.inBolt < m.segs ∧ m.filled = false then some (e.1, m) else none).foldl
    (fun s e => s.fillMsg e.1 e.2) s3).modLnk fun u => { u with graceAt := SMap.del u.graceAt p }).expireSnoops p).askSweep

/-- The lanes a pleat last trained have valid presets for its personality and rate (R268, R291). -/
def State.presetsHold (s : State) (p : Nat) : Bool :=
  let ls := SMap.getD s.lnk.lanes p []
  !ls.isEmpty && ls.all fun l => match SMap.find? s.nv.presets l with
    | some r => r.getD 0 0 == s.chart.personality p && r.getD 1 0 == s.get (F.celLinkstatRateNow p)
    | none => false

/-- A full reset of a pleat begins (R88, R291, R295): a preset reset on FNL where every lane has its preset, otherwise a cold
train. -/
def State.beginReset (s : State) (p : Nat) : State :=
  let preset := s.chart.isFnl p && s.presetsHold p && !s.flag (F.fnlRetirectlCold p)
  ((s.bump (F.celLinkstatLinkResets p) 1).set (F.fnlLinkstatState p) (if preset then 2 else 1)).modLnk fun u => { u with
    resetAt := SMap.put u.resetAt p s.now
    fnl := SMap.put u.fnl p { s.fnl p with stage := if preset then 3 else 1, peerPhase := 0, openData := 0 } }

/-- The link stops carrying traffic; bound vPPBs show it (R76).
[DESIGN CHOICE, log entry 49] -/
def State.dropLink (s : State) (p : Nat) : State :=
  let was := s.flag (F.celLinkstatUp p)
  let s1 := (((s.setAll [(F.celLinkstatUp p, 0), (F.celLinkstatWidthNow p, 0), (F.celLinkstatDegraded p, 0)]).setForward p).dropCalibration
    p).modLnk fun u => { u with watchAt := SMap.del u.watchAt p, retries := SMap.del u.retries p }
  if was then s1.dllEvent p else s1

/-- Causes 0x9, 0xA, 0xB and 0xD do not count towards retirement, and the last three have no grace period (R294). -/
def countsDown (cause : Nat) : Bool := !([0x9, 0xA, 0xB, 0xD].contains cause)
def hasGrace (cause : Nat) : Bool := !([0xA, 0xB, 0xD].contains cause)

/-- The counted link-downs of the last RETIRE_WINDOW (R299). -/
def State.recentDowns (s : State) (p : Nat) : List Nat :=
  (SMap.getD s.lnk.downs p []).filter fun t => decide (s.now < t + msec (100 * s.get (F.fnlRetirectlRetireWindow p)))

/-- A link is retired (R299): RETIRE where codewords still flow, a flush at once, its cells held in reset, RETIRED to the Pilot, a
C2 fault on the pleat's link input, and a record that no reset clears (R300). -/
def State.retire (s : State) (p : Nat) (carries : Bool) : State :=
  let s1 := if carries then s.emit (.control p 5 []) else s
  let s2 := ((s1.flush p).set (F.fnlLinkstatState p) 4).raise atRetired [audPilot]
  { s2.takeReaction (inLink p).1 (inLink p).2 with nv := { s2.nv with
    linkRetired := if s2.nv.linkRetired.contains p then s2.nv.linkRetired else s2.nv.linkRetired ++ [p] } }

/-- A link goes down (R294, R295): RESET_REQ where codewords still flow, the cause recorded, a full reset begun, and a grace period
or a flush; the link-down that reaches RETIRE_COUNT retires the link instead; it is a C1 event (R313). A cause while no link is up changes nothing
(R298). -/
def State.linkDown (s : State) (p cause : Nat) : State :=
  if !s.flag (F.celLinkstatUp p) then s
  else
    let s := s.reportAt (inLink p) 1
    let carries := s.chart.isFnl p && cause != 6 && cause != 8
    let s1 := if carries then (List.range 4).foldl (fun s _ => s.emit (.control p 2 [])) s else s
    let s2 := (s1.set (F.fnlLinkstatLastCause p) cause).dropLink p
    let s3 := if countsDown cause then s2.modLnk fun u => { u with downs := SMap.put u.downs p (s.recentDowns p ++ [s.now]) } else s2
    let s4 := s3.set (F.fnlLinkstatLinkdowns p) (min 15 (s3.recentDowns p).length)
    let s5 := if cause = 0xD then s4 else s4.raise atLink [audPilot]
    if countsDown cause ∧ s.get (F.fnlRetirectlRetireCount p) ≤ (s4.recentDowns p).length then
      (s5.bump (F.celLinkstatLinkResets p) 1).retire p carries
    else if hasGrace cause ∧ s.get (F.fnlLinkctlGrace p) ≠ 0 then
      ((s5.beginReset p).set (F.fnlLinkstatGraceOn p) 1).modLnk fun u => { u with graceAt := SMap.put u.graceAt p s.now }
    else (s5.beginReset p).flush p

/-- A full reset of a pleat whose link is up or not, flushed at once (R81, R84, R85, R402): causes 0xA, 0xB and 0xD. -/
def State.fullReset (s : State) (p cause : Nat) : State :=
  if s.flag (F.celLinkstatUp p) then s.linkDown p cause
  else if s.get (F.fnlLinkstatState p) = 4 then s.flush p
  else (s.beginReset p).flush p

/-- A pleat may train (R83, R76, R85, R79): its links are not held or disabled, it is not retired, its slot is on, nobody asserts
PERST, a partner is seated, its region is powered and in service (R308), and no tack advance stalls. -/
def State.mayTrain (s : State) (p : Nat) : Bool :=
  !s.lnk.held && !s.lnk.disabled && s.chart.isLead p && !s.chart.isOff p && s.get (F.fnlLinkstatState p) != 4
    && !s.lnk.slotOff.contains p && !s.lnk.fmPerst.contains p && !s.flag (F.celHotplugPerstIn p)
    && !s.pwr.regionReset.contains (p / 128) && !s.flag (F.blkSwresetBusy (p / 8))
    && !s.seam.out.contains (p / 128) && (s.get F.hubTopoRegionPowered).testBit (p / 128) && s.flag (F.celHotplugPresent p)
    && (s.chart.pleat p).all fun c => !s.flag (F.celTackstatStall c) && (List.range 16).all fun k => !s.flag (F.celLdtackStall c k)

/-- A pleat is in full reset (R76, R81, R85): its link is down, and it neither trains nor may train.
[DESIGN CHOICE, log entry 88] -/
def State.inFullReset (s : State) (p : Nat) : Bool :=
  !s.flag (F.celLinkstatUp p) && (s.get (F.fnlLinkstatState p) == 0 || s.get (F.fnlLinkstatState p) == 4 || !s.mayTrain p)

/-- Training begins where it may: COLD (R295).
[DEDUCED, log entry 102] -/
def State.startTraining (s : State) (p : Nat) : State :=
  if s.mayTrain p && !s.flag (F.celLinkstatUp p) && s.get (F.fnlLinkstatState p) == 0 then
    (s.set (F.fnlLinkstatState p) 1).modLnk fun u => { u with
      resetAt := SMap.put u.resetAt p s.now
      fnl := if s.chart.isFnl p then SMap.put u.fnl p { s.fnl p with stage := 1, peerPhase := 0, openData := 0 } else u.fnl }
  else s

/-- The width code of a number of lanes (R88), and the link lanes from one end of the pleat (R61). -/
def widthCode (lanes : Nat) : Nat := if lanes = 0 then 0 else Nat.log2 lanes + 1
def Chart.trainedLanes (c : Chart) (p lanes : Nat) (high : Bool) : List Nat :=
  (List.range lanes).map fun i => Chart.linkLane p (if high then 2 * c.cells p - 1 - i else i)

/-- A lane with nothing measured yet: every probe point counts as passing until its first dwell (log entry 16).
[DESIGN CHOICE, log entry 16] -/
def newLane : LaneRec := ⟨[], 0, none, none, true, false, none, none⟩

def State.lane (s : State) (l : Nat) : LaneRec := SMap.getD s.lan.lanes l newLane
def State.setLane (s : State) (l : Nat) (r : LaneRec) : State := s.modLan fun u => { u with lanes := SMap.put u.lanes l r }

/-- The lead cell of the pleat a lane belongs to. -/
def State.lanePleat (s : State) (l : Nat) : Nat := s.chart.lead (l / 2)

/-- An edge (R255): 8 times the largest offset up to which every point passes. -/
def laneEdge (failing : List Nat) (eye dir : Nat) : Nat :=
  8 * ((List.range 16).takeWhile fun k => !failing.contains (64 * eye + 16 * dir + k)).length

/-- min(255, ⌊√n⌋) (R255). -/
def fomRoot (n : Nat) : Nat := (List.range 256).foldl (fun a k => if k * k ≤ n then k else a) 0

/-- An eye's FOM from its failing points (R255). -/
def eyeFom (failing : List Nat) (eye : Nat) : Nat :=
  fomRoot ((laneEdge failing eye 0 + laneEdge failing eye 1) * (laneEdge failing eye 2 + laneEdge failing eye 3))

/-- The worst eye of a lane (R255): the least FOM, the lowest eye of equals. -/
def worstEye (failing : List Nat) (eyes : Nat) : Nat :=
  (List.range eyes).foldl (fun w e => if eyeFom failing e < eyeFom failing w then e else w) 0

/-- A lane's FOM is recomputed and shown (R256, R273). -/
def State.showFom (s : State) (l : Nat) : State :=
  let f := (s.lane l).failing
  let w := worstEye f (s.laneEyes (l / 2))
  s.setAll [(F.sxtFom l, eyeFom f w), (F.sxtFomHo l, laneEdge f w 0 + laneEdge f w 1), (F.sxtFomVo l, laneEdge f w 2 + laneEdge f w 3),
    (F.sxtFomWorstEye l, w), (F.sxtEdgeLeft l, laneEdge f w 0), (F.sxtEdgeRight l, laneEdge f w 1), (F.sxtEdgeUp l, laneEdge f w 2),
    (F.sxtEdgeDown l, laneEdge f w 3)]

/-- The lanes of a trained link carry it (R272): their modes, positions and FOMs. -/
def State.activateLanes (s : State) (ls : List Nat) (pam4 : Bool) : State :=
  (List.range ls.length).foldl (fun s i => (s.setAll
    [(F.lanModeActive (ls.getD i 0), 1), (F.lanModePam4 (ls.getD i 0), if pam4 then 1 else 0),
     (F.lanModeLinkLane (ls.getD i 0), i)]).showFom (ls.getD i 0)) s

/-- The link of a pleat is up (R61, R88, R120): its width, rate and framing show, its lanes carry it, watches begin, bound vPPBs
show it (R76).
[DESIGN CHOICE, log entry 49] -/
def State.raiseLink (s : State) (p lanes rate flit : Nat) (cxl peer high : Bool) : State :=
  let pam4 := s.chart.isFnl p || rate == 5
  let s1 := s.setAll [(F.celLinkstatUp p, 1), (F.celLinkstatWidthNow p, widthCode lanes),
    (F.celLinkstatDegraded p, if lanes < 2 * s.chart.cells p then 1 else 0), (F.celLinkstatRateNow p, rate),
    (F.celLinkstatFlitNow p, flit), (F.celLinkstatCxl p, if cxl then 1 else 0), (F.celLinkstatPeerModule p, if peer then 1 else 0),
    (F.fnlLinkstatState p, 3), (F.fnlLinkstatFlushed p, 0), (F.fnlLinkstatGraceOn p, 0), (F.fnlWatchcntUncor p, 0),
    (F.fnlWatchcntLowfom p, 0)]
  let s2 := (s1.modCore fun u => { u with framing := SMap.put u.framing p (framingOf (s.chart.isFnl p) flit rate) }).modLnk fun u =>
    { u with graceAt := SMap.del u.graceAt p, resetAt := SMap.del u.resetAt p, watchAt := SMap.put u.watchAt p s.now,
             lanes := SMap.put u.lanes p (s.chart.trainedLanes p lanes high) }
  let s3 := match SMap.find? s.lnk.graceAt p, SMap.find? s.lnk.resetAt p with
    | some t, _ | none, some t => s2.resumeSnoops p t
    | none, none => s2
  ((s3.activateLanes (s.chart.trainedLanes p lanes high) pam4).setForward p).dllEvent p

/-- Every non-posted request delivered through a pleat before its link-down is answered LINK_DOWN when a CXL link comes up within a
grace period (R301). -/
def State.dropRecords (s : State) (p : Nat) : State :=
  let recs := s.core.records.filter fun r => pointLead r.point == p
  (recs.foldl (fun s r => s.linkDownReply r.src r.id r.kind r.berth)
    (s.modCore fun u => { u with records := u.records.filter fun r => pointLead r.point != p })).bump (F.fnlFlushReplies p) recs.length

end Sys2Proof.Machine
end

