-- ==== Sys2Proof/Machine/FailOps.lean ====
section
/-! DEFINITION. Home failover (R191 to R196, R223, R473): how slots move, what is lost with a slice or a stack, re-issue. -/
namespace Sys2Proof.Machine

def State.regionPowered (s : State) (g : Nat) : Bool := (s.get F.hubTopoRegionPowered).testBit g

/-- A region's die and stack have power, in reset or out of it (R401). -/
def State.regionOn (s : State) (g : Nat) : Bool := s.regionPowered g || s.pwr.regionReset.contains g

/-- Idle spares and active slices of powered regions, in ascending flat order. -/
def State.slicesOf (s : State) (role : Nat) (f : Nat → Bool) : List Nat :=
  (List.range 72).filter fun n => s.get (F.homRole n) == role && s.regionPowered (n / 9) && f (n / 9)

/-- The slots a slice serves. -/
def State.slotsOf (s : State) (n : Nat) : List Nat := (List.range 64).filter fun v => s.slotSlice v == n

/-- A slot moves to a new home (R191, R194): HOMEMAP, the roles, unknown mode where the directory is not known, the shadows of its
requests, and home-originated work to restart there (R473). -/
def State.moveSlot (s : State) (failed v n : Nat) (unknown : Bool) : State :=
  let s1 := s.setAll [(F.hubHomemapSlice v, n), (F.hubHomemapMoved v, if n = s.chart.slotHome v then 0 else 1), (F.homRole n, 1),
    (F.homRoleServesFor n, failed), (F.dirPartValid n, 1)]
  let s2 := if unknown then s1.setAll [(F.hubHomemapUnknown v, 1), (F.homRoleUnknown n, 1)] else s1
  s2.modHome fun u => { u with
    shadows := u.shadows.map (fun x => if x.slot = v then { x with moved := true } else x)
    known := if unknown then u.known.filter (fun e => slotOf e.1 != v) else u.known
    flushedWins := if unknown then SMap.put u.flushedWins v [] else u.flushedWins
    restarts := if u.restarts.contains n then u.restarts else u.restarts ++ [n]
    cache := if n / 9 = failed / 9 then u.cache else u.cache.filter fun e => slotOf e.1 != v }

/-- A slice's trackers and snoops are gone with it (R192). -/
def State.dropSlice (s : State) (n : Nat) : State :=
  s.modHome fun u => { u with txns := u.txns.filter (·.home != n), snoops := u.snoops.filter (·.home != n),
                              dcache := u.dcache.filter (·.2 != n), restarts := u.restarts.filter (· != n) }

/-- A slice's directory partition and owned-line values are out of reach (R191, R194): nothing of it is known at the new homes; the owned
filters go on with their slots. -/
def State.dropPartition (s : State) (n : Nat) : State := s.modHome fun u => { u with dir := u.dir.filter (·.2.home != n) }

/-- Slots are dealt out: one to each of `first`, the rest to `rest` in turn. -/
def deal (slots first rest : List Nat) : List (Nat × Nat) :=
  (List.range slots.length).filterMap fun i =>
    match first[i]? with
    | some n => some (slots.getD i 0, n)
    | none => if rest = [] then none else some (slots.getD i 0, rest.getD ((i - first.length) % rest.length) 0)

/-- Lodestar's records and commands follow the slots that moved (R221, R222). -/
def State.afterMove (s : State) (n : Nat) (slots : List Nat) (stack : Bool) : State :=
  s.lodFailover n (slots.headD 64) slots stack

/-- A slice's logic is retired (R191, R192). -/
def State.failSlice (s : State) (n : Nat) : State :=
  let slots := s.slotsOf n
  let s1 := (s.dropSlice n).setAll [(F.homRole n, 2), (F.homRoleUnknown n, 0), (F.dirPartValid n, 0)]
  let s2 : State := match s1.slicesOf 0 (· == n / 9) with
    | m :: _ =>
      if slots = [] then s1
      else
        let s2 : State := s1.modHome fun u => { u with
          dir := u.dir.map (fun e => if e.2.home = n then (e.1, { e.2 with home := m }) else e) }
        let s3 := slots.foldl (fun s v => s.moveSlot n v m (s.flag (F.hubHomemapUnknown v))) s2
        s3.setAll [(F.homRoleAdopted m, 1), (F.dirPartStack m, s.get (F.dirPartStack n)), (F.dirPartIndex m, s.get (F.dirPartIndex n))]
    | [] =>
      let s2 := s1.dropPartition n
      match s2.slicesOf 0 (· != n / 9) with
      | m :: _ => slots.foldl (fun s v => s.moveSlot n v m true) s2
      | [] => (deal slots [] (s2.slicesOf 1 (· != n / 9))).foldl (fun s e => s.moveSlot n e.1 e.2 true) s2
  (s2.afterMove n slots false).modHome fun u => { u with failover := some ⟨slots, [], false⟩ }

/-- A lost stack's scrub stops with ABORTED, and its queued repairs read NO_SPARE (R353). -/
def State.stopStack (s : State) (g : Nat) : State :=
  let b := eccBase g
  let s1 := (List.range 16).foldl (fun s e =>
    if s.get (F.eccRepairqKind b e) = 2 ∧ s.get (F.eccRepairqState b e) ≠ 0 then s.set (F.eccRepairqState b e) 4 else s) s
  if (SMap.find? s.ecc.scrubs g).any fun j => j.target == 0x3F then
    (s1.setAll [(F.eccScrubBusy b, 0), (F.eccScrubPaused b, 0), (F.eccScrubAborted b, 1)]).modEcc fun u => { u with scrubs := SMap.del u.scrubs g }
  else s1

/-- A stack is lost (R194, R223): every slot of the region's slices moves in unknown mode, its objects are lost. The slots left over by the
spares are dealt to the slices that were active before the dealing, the spares not among them.
[DESIGN CHOICE, log entry 156] -/
def State.failStack (s : State) (g : Nat) : State :=
  let mine := (List.range 9).map (9 * g + ·)
  let slots := (List.range 64).filter fun v => s.slotSlice v / 9 == g
  let s1 := mine.foldl (fun s n => (((s.dropSlice n).dropPartition n).setAll [(F.homRole n, 2), (F.homRoleUnknown n, 0), (F.dirPartValid n, 0)])) s
  let s2 := s1.modHome fun u => { u with lostStacks := if u.lostStacks.contains g then u.lostStacks else u.lostStacks ++ [g]
                                         cache := u.cache.filter fun e => s.lineHome e.1 / 9 != g }
  let s3 := (deal slots (s2.slicesOf 0 (· != g)) (s2.slicesOf 1 (· != g))).foldl (fun x e => x.moveSlot (s.slotSlice e.1) e.1 e.2 true) s2
  ((mine.foldl (fun x n => x.afterMove n (s.slotsOf n) true) s3).stopStack g).modHome fun u => { u with failover := some ⟨slots, [], true⟩ }

/-- A failover begins, or waits until the one that runs ends (R196): a slice, or 72 + g for a stack. -/
def State.beginFailover (s : State) (k : Nat) : State :=
  if s.home.failover.isSome then s.modHome fun u => { u with waiting := u.waiting ++ [k] }
  else if k < 72 then s.failSlice k else s.failStack (k - 72)

/-- The stack of a region is lost, or the region goes out of service (R194, R308). -/
def State.stackLoss (s : State) (g : Nat) : State :=
  if s.home.lostStacks.contains g then s else s.beginFailover (72 + g)

/-- A shadow is re-issued (R192): its COUNT rises and the request carries REPLAY; beyond three it is completed with POISON. -/
def State.reissue (s : State) (x : Shadow) : State :=
  if 3 ≤ x.count then
    (s.homeReply x.cell x.tag x.berth (rowReply x.op false false) stPoison
      (if hasPayload x.op || x.op == .evictS then none else some 0) (!hasPayload x.op && x.op != .evictS)).freeShadow x.cell x.tag
  else
    (s.modHome fun u => { u with
      shadows := u.shadows.map (fun y => if y = x then { x with count := x.count + 1, moved := false } else y)
      failover := u.failover.map fun f => { f with berths := (f.berths ++ x.berth.toList).eraseDups } }).addTxn (s.slotSlice x.slot) x true

end Sys2Proof.Machine
end

