-- ==== Sys2Proof/Machine/SeamOps.lean ====
section
/-! DEFINITION. Seams (R302 to R308): parity, segment order, wire failures, plane resets, a region out of service. -/
namespace Sys2Proof.Machine

def planeNum : Plane → Nat
  | .a => 0
  | .b => 1

/-- A plane's state and working slots at a seam (R311). -/
def seamState (g l : Nat) : Fld := if l = 0 then F.seamStatStateA g else F.seamStatStateB g
def seamSlots (g l : Nat) : Fld := if l = 0 then F.seamStatSlotsA g else F.seamStatSlotsB g

/-- A plane of a seam carries traffic: it is up, and so is its plane of the Rose. -/
def State.seamUp (s : State) (g l : Nat) : Bool := s.get (seamState g l) == 2 && (s.get F.hubXbarstatMode).testBit l

/-- Parity of some wires in a UI (R302, R303): bit 8w + u of the segment travels on wire w in UI u. -/
def wireParity (data u lo n : Nat) : Bool :=
  ((List.range n).filter fun i => data.testBit (8 * (lo + i) + u)).length % 2 == 1

/-- A slot's parity holds under its wire group's mode (R303): over both halves, or over all 64 wires on the spare that replaces none. -/
def State.parityHolds (s : State) (g n data sp0 sp1 : Nat) : Bool :=
  (List.range 8).all fun u =>
    if s.flag (F.seamSparemapSpare0Used g n) then sp1.testBit u == wireParity data u 0 64
    else if s.flag (F.seamSparemapSpare1Used g n) then sp0.testBit u == wireParity data u 0 64
    else sp0.testBit u == wireParity data u 0 32 && sp1.testBit u == wireParity data u 32 32

/-- The slots a plane still works in one direction. -/
def State.workingSlots (s : State) (g d l : Nat) : Nat :=
  ((List.range 40).filter fun h => s.get (F.seamSparemapParityMode g (80 * d + 40 * l + h)) != 2).length

/-- A region's slots of a plane in its retry ring: those sent in the last 160 ns are sent again (R304, R306, R307). -/
def State.resendRing (s : State) (g l : Nat) : State :=
  let mine := s.seam.rings.filter fun e => e.1 / 2 == g && e.1 % 2 == l && decide (s.now < e.2.1 + nsec 160)
  (s.bump (F.seamErrResends g) mine.length).count (ctrRgn g) 0x27 (subOf l 0xF) none mine.length

/-- A reset of one plane of a seam begins, or waits for the other plane's (R306); a lost plane is not reset. -/
def State.resetPlane (s : State) (g l : Nat) : State :=
  if s.get (seamState g l) = 3 ∨ s.seam.waiting.contains (2 * g + l) = true then s
  else if s.get (seamState g (1 - l)) = 1 ∨ s.get (seamState g l) = 1 then
    s.modSeam fun u => { u with waiting := u.waiting ++ [2 * g + l] }
  else ((s.resendRing g l).set (seamState g l) 1).setMode (inSeam g l).1 (inSeam g l).2 2

/-- A region goes out of service (R308): its links go down with no grace period and are flushed, its homes and stack go as at a stack
loss, DEGRADED is raised; it stays out until a module reset.
[DEDUCED, log entry 80] -/
def State.regionOut (s : State) (g : Nat) : State :=
  if s.seam.out.contains g then s
  else
    let s1 := s.modSeam fun u => { u with out := u.out ++ [g] }
    let s2 := ((List.range 128).map (128 * g + ·)).foldl (fun s p =>
      if s.chart.isLead p && !s.chart.isOff p then (((s.dropLink p).setAll [(F.fnlLinkstatState p, 0), (F.fnlLinkstatGraceOn p, 0)]).flush p)
      else s) s1
    ((s2.failEngine g).stackLoss g).raise atDegraded [audPilot]

/-- Both planes of a seam are down or lost. -/
def State.seamLost (s : State) (g : Nat) : Bool := [0, 1].all fun l => s.get (seamState g l) == 3 || s.get (seamState g l) == 0

/-- A wire fails (R305): the first in its group waits for a remap, the second retires the slot; a plane left with fewer than 32 slots in
a direction is lost. -/
def State.wireFail (s0 : State) (g n w : Nat) : State :=
  let l := n % 80 / 40
  let s := s0.takeReaction (inSeam g l).1 (inSeam g l).2
  let used := s.flag (F.seamSparemapPending g n) || s.flag (F.seamSparemapSpare0Used g n) || s.flag (F.seamSparemapSpare1Used g n)
  if s.get (F.seamSparemapParityMode g n) = 2 ∨ (s.flag (F.seamSparemapPending g n) = true ∧ s.get (F.seamSparemapPendingWire g n) = w) then s
  else if !used then (s.setAll [(F.seamSparemapPending g n, 1), (F.seamSparemapPendingWire g n, w)]).resetPlane g l
  else
    let s1 := s.set (F.seamSparemapParityMode g n) 2
    let k := min (s1.workingSlots g 0 l) (s1.workingSlots g 1 l)
    let s2 := s1.set (seamSlots g l) k
    if k < 32 then
      let s3 := (s2.resendRing g l).set (seamState g l) 3
      if s3.seamLost g then s3.regionOut g else s3
    else s2.resetPlane g l

/-- A wire's error is counted, once for an event (R304, R305): the count within WIRE_WINDOW that reaches WIRE_ERR_MAX fails it. -/
def State.wireError (s : State) (g n w : Nat) : State :=
  let key := 16384 * g + 64 * n + w
  let recent := (SMap.getD s.seam.errors key []).filter fun t => decide (s.now < t + msec (s.get (F.seamCtlWireWindow g)))
  let s1 := s.modSeam fun u => { u with errors := SMap.put u.errors key (recent ++ [s.now]) }
  if s.get (F.seamCtlWireErrMax g) ≤ recent.length + 1 then
    (s1.modSeam fun u => { u with errors := SMap.del u.errors key }).wireFail g n w
  else s1

/-- The wires on which two copies of a slot differ (R304). -/
def diffWires (a b : Nat) : List Nat :=
  (List.range 64).filter fun w => a / 2 ^ (8 * w) % 256 != b / 2 ^ (8 * w) % 256

/-- The segments of a message that follow in order leave the reorder buffer for bolt memory (R16), and an arrival closes a gap (R113);
those of a message that has been filled are released at once (R112). -/
def State.drainReorder (s : State) (o id : Nat) : Nat → State
  | 0 => s
  | n + 1 =>
    match s.core.bolt.find? fun m => m.out == o && m.id == id with
    | none => s
    | some m =>
      if s.seam.reorder.contains ⟨o, id, m.got⟩ then
        let s1 := s.modSeam fun u => { u with reorder := u.reorder.filter (· != ⟨o, id, m.got⟩) }
        if m.filled then
          let m1 := { m with left := m.left + 1 }
          let s2 := s1.modCore fun u => { u with bolt := u.bolt.map fun x => if x = m then m1 else x }
          (if m1.left = m.segs ∧ m.sent = m.segs then s2.dropBolt m1 else s2).drainReorder o id n
        else
          ((((s1.writeSeg m m.inBolt).modCore fun u => { u with
            bolt := u.bolt.map (fun x => if x = m then { m with inBolt := m.inBolt + 1 } else x)
            gaps := if SMap.find? u.sending o = some id then SMap.del u.gaps o else u.gaps }).count (ctrRgn (o / 128)) 0x20 anySub
            m.berth 1).drainReorder o id n)
      else s

/-- A good segment arrives at its egress region (R16, R304): one held already is discarded.
[DESIGN CHOICE, log entry 35] -/
def State.segmentIn (s : State) (m : Msg) (idx : Nat) : State :=
  if idx < m.got ∨ m.segs ≤ idx ∨ s.seam.reorder.contains ⟨m.out, m.id, idx⟩ = true then s
  else (s.modSeam fun u => { u with reorder := u.reorder ++ [⟨m.out, m.id, idx⟩] }).drainReorder m.out m.id 64

/-- A slot with a parity error is discarded and asked for again (R303, R304): found at the Rose it lies on the wires towards it, of the
ingress region's seam, otherwise on those towards the egress region. -/
def State.segmentBad (s : State) (m : Msg) (idx l h data : Nat) (rose : Bool) : State :=
  let seam := if rose then m.src / 128 else m.out / 128
  let s1 := (s.bump (F.seamErrParity seam) 1).reportAt (inSeam seam l) 1
  ((s1.bump (F.seamErrResends (m.src / 128)) 1).count (ctrRgn (m.src / 128)) 0x27 (subOf l 0xF) none 1).modSeam fun u => { u with
    bad := u.bad ++ [⟨⟨m.out, m.id, idx⟩, seam, 80 * (if rose then 0 else 1) + 40 * l + h, data⟩] }

/-- The message in bolt memory that a slot belongs to: it came from another region, and both ends carry the plane. -/
def State.crossing (s : State) (o id l : Nat) : Option Msg :=
  (s.core.bolt.find? fun m => m.out == o && m.id == id && m.src / 128 != o / 128).filter fun m =>
    s.seamUp (m.src / 128) l && s.seamUp (o / 128) l

/-- The plane a segment is sent on (R16): the planes alternate through each message, A first, while both carry traffic at both of its
seams; with one plane lost every segment goes to the other.
[DEDUCED, log entry 142] -/
def State.planeOf (s : State) (m : Msg) (idx : Nat) : Nat :=
  let up := fun l => s.seamUp (m.src / 128) l && s.seamUp (m.out / 128) l
  if up 0 && up 1 then idx % 2 else if up 0 then 0 else 1

/-- A slot crosses (R101, R304, R413): the block's, the seam's and the Rose's arbiters pass it, it leaves staging, is counted at both seams
and at the Rose, and stands in the retry ring. -/
def State.crossed (s : State) (m : Msg) (idx l : Nat) : State :=
  let a := m.src / 128
  let b := m.out / 128
  let s := ((s.blockSlot m).crossSlots m l).leaveStaging m idx
  let s1 := ((s.count (ctrRgn a) 0x22 (subOf l 0xF) m.berth 1).count (ctrRgn b) 0x23 (subOf l 0xF) m.berth 1).count ctrHub 0x30
    (subOf (8 * a + b) 0xFF) m.berth 1
  let s2 := if l = 1 then s1.count ctrHub 0x31 (subOf (8 * a + b) 0xFF) m.berth 1 else s1
  s2.modSeam fun u => { u with rings := (u.rings.filter fun e => decide (s.now < e.2.1 + nsec 160)) ++ [(2 * a + l, s.now, ⟨m.out, m.id, idx⟩)] }

end Sys2Proof.Machine
end

