-- ==== Sys2Proof/Machine/EccOps.lean ====
section
/-! DEFINITION. Stored-data protection (R338 to R353): where an error stands, its logbook entry, column keys, faults declared and repairs
scheduled, and what an uncorrectable error does. -/
namespace Sys2Proof.Machine

/-- The macro group of an error's place, 63 for the HBM stack.
[DESIGN CHOICE, log entry 113] -/
def placeGroup : ErrPlace → Nat
  | .hbm .. => 63
  | .sram g .. => g.val

/-- Word 0 of the log entry of a place (R355): its line, or its macro, row, word position and bit.
[DESIGN CHOICE, log entry 113] -/
def placeWord : ErrPlace → Nat
  | .hbm line .. => line.val
  | .sram _ m row w b _ _ => m.val + 2 ^ 8 * row.val + 2 ^ 20 * w.val + 2 ^ 22 * b.val

def placeSymbol : ErrPlace → Nat
  | .hbm _ s .. => s.val
  | .sram .. => 0

/-- The column key of a place (R347): macro or bank, and physical column or column address and symbol bit; and its row. -/
def placeColumn : ErrPlace → Nat × Nat
  | .hbm _ _ bank _ col bit => (bank.val, 16 * col.val + bit.val)
  | .sram _ m _ w b _ _ => (m.val, 4 * b.val + w.val)
def placeRow : ErrPlace → Nat
  | .hbm _ _ _ row _ _ => row
  | .sram _ _ row _ _ _ _ => row.val
def placeKey (p : ErrPlace) : Nat := 2 ^ 13 * (placeColumn p).1 + (placeColumn p).2

/-- The collector input of a memory (R314), by the unit (8: the Rose) and place.
[DESIGN CHOICE, log entry 113] -/
def placeInput (u : Nat) : ErrPlace → Nat × Nat
  | .hbm .. => inHbm u
  | .sram g _ _ _ _ cell part =>
    if u = 8 then (hubCol, if g.val = 0 then 19 else if g.val = 3 then 18 else 10)
    else if g.val < 16 then inBolt u
    else if g.val < 32 then (128 * u + 8 * (g.val - 16) + cell.val, 4 + part.val)
    else if g.val < 41 then inSlice (9 * u + (g.val - 32))
    else if g.val = 41 then inBolt u else inCopy u

/-- The fields of entry e of a logbook (R355). -/
def logValid (b m e : Nat) : Fld := if m = 63 then F.eccLogValid b e else F.eccGlogValid b m e
def logRepeat (b m e : Nat) : Fld := if m = 63 then F.eccLogRepeat b e else F.eccGlogRepeat b m e
def logUncorr (b m e : Nat) : Fld := if m = 63 then F.eccLogUncorr b e else F.eccGlogUncorr b m e
def logCell (b m e : Nat) : Fld := if m = 63 then F.eccLogCell b e else F.eccGlogCell b m e
def logColumn (b m e : Nat) : Fld := if m = 63 then F.eccLogColumn b e else F.eccGlogColumn b m e

/-- The place a valid entry holds, as word 0 and symbol. -/
def State.logPlace (s : State) (b m e : Nat) : Nat × Nat :=
  if m = 63 then (s.get (F.eccLogLine b e), s.get (F.eccLogSymbol b e))
  else (s.get (F.eccGlogMacro b m e) + 2 ^ 8 * s.get (F.eccGlogRow b m e) + 2 ^ 20 * s.get (F.eccGlogWordpos b m e)
    + 2 ^ 22 * s.get (F.eccGlogBit b m e), s.get (F.eccGlogSymbol b m e))

/-- Fill an entry (R342): REPEAT 0; it is now the newest. -/
def State.fillLog (s : State) (u m e : Nat) (p : ErrPlace) (unc : Bool) : State :=
  let b := eccBase u
  let w := placeWord p
  let s1 := if m = 63 then s.setAll [(F.eccLogLine b e, w), (F.eccLogSymbol b e, placeSymbol p)]
    else s.setAll [(F.eccGlogMacro b m e, bitsOf w 0 8), (F.eccGlogRow b m e, bitsOf w 8 12), (F.eccGlogWordpos b m e, bitsOf w 20 2),
      (F.eccGlogBit b m e, bitsOf w 22 7), (F.eccGlogSymbol b m e, 0)]
  (s1.setAll [(logRepeat b m e, 0), (logUncorr b m e, if unc then 1 else 0), (logCell b m e, 0), (logColumn b m e, 0), (logValid b m e, 1)]).modEcc
    fun x => { x with order := SMap.put x.order (64 * u + m) ((SMap.getD x.order (64 * u + m) []).filter (· != e) ++ [e]) }

/-- The entry an error displaces (R342): the lowest REPEAT, the oldest among equals. -/
def State.displaced (s : State) (u m : Nat) : Nat :=
  let l := SMap.getD s.ecc.order (64 * u + m) []
  let r := fun e => s.get (logRepeat (eccBase u) m e)
  l.foldl (fun best e => if r e < r best then e else best) (l.headD 0)

/-- Log an error (R342): the entry it stands in, and whether its REPEAT has just reached 1.
[DESIGN CHOICE, log entry 114] -/
def State.logError (s : State) (u : Nat) (p : ErrPlace) (unc after : Bool) : State × Nat × Bool :=
  let b := eccBase u
  let m := placeGroup p
  let valid := (List.range 16).filter fun e => s.flag (logValid b m e)
  match valid.find? (fun e => after && s.logPlace b m e == (placeWord p, placeSymbol p)) with
  | some e => (((s.bump (logRepeat b m e) 1).set (logUncorr b m e) (if unc then 1 else s.get (logUncorr b m e))), e,
      s.get (logRepeat b m e) == 0)
  | none => match (List.range 16).find? (fun e => !valid.contains e) with
    | some e => (s.fillLog u m e p unc, e, false)
    | none =>
      let s1 := if m = 63 then s else s.bump (F.eccGrpLost b m) 1
      (s1.fillLog u m (s.displaced u m) p unc, s.displaced u m, false)

/-- Spares of a kind in use in a macro or bank (R350, R352), soft and hard. -/
def State.sparesUsed (s : State) (key : Nat) : Nat :=
  (s.nv.softRepairs.filter fun e => e.1 / 8192 == key / 8192).length + (s.nv.fuseMap.filter fun e => e.1 / 8192 == key / 8192).length

/-- Spares a macro or bank has (R350, R352): 4 rows, 2 columns, and what an HBM bank offers.
[DESIGN CHOICE, log entries 15, 114] -/
def spares (kind : Nat) : Nat := if kind = 0 then 4 else if kind = 1 then 2 else Config.pprRows

/-- Schedule a repair (R349 to R352): a soft repair at once where a spare is left.
[DESIGN CHOICE, log entry 114] -/
def State.scheduleRepair (s : State) (u kind group mac index line : Nat) : State :=
  let b := eccBase u
  let key := repairKey u kind group mac index
  let used := (List.range 16).filter fun e => s.get (F.eccRepairqState b e) != 0
  if used.any fun e => s.get (F.eccRepairqKind b e) == kind && s.get (F.eccRepairqGroup b e) == group
      && s.get (F.eccRepairqMacro b e) == mac && s.get (F.eccRepairqIndex b e) == index % 8192 then s
  else match (List.range 16).find? (fun e => !used.contains e) with
    | none => s.set (F.eccStatRqFull b) 1
    | some e =>
      let s1 := (s.setAll [(F.eccRepairqKind b e, kind), (F.eccRepairqGroup b e, group), (F.eccRepairqMacro b e, mac),
        (F.eccRepairqIndex b e, index % 8192), (F.eccRepairqLine b e, line)]).notify atNotice
      if s.sparesUsed key < spares kind then
        (s1.set (F.eccRepairqState b e) 2).modNv fun n => { n with softRepairs := SMap.put n.softRepairs key [line] }
      else (s1.set (F.eccRepairqState b e) 4).notify atDegraded

/-- The scrub in progress counts an error's column key (R347): the state, and whether this error has just made a column fault.
[DESIGN CHOICE, log entry 114] -/
def State.countKey (s : State) (u : Nat) (p : ErrPlace) : State × Bool :=
  match SMap.find? s.ecc.scrubs u with
  | none => (s, false)
  | some j =>
    let rows := SMap.getD j.keys (placeKey p) []
    if rows.contains (placeRow p) || decide (4 ≤ rows.length) then (s, false)
    else if rows = [] ∧ 64 ≤ j.keys.length then (s.set (F.eccScrubsumKeysFull (eccBase u)) 1, false)
    else
      let keys := SMap.put j.keys (placeKey p) (rows ++ [placeRow p])
      let best := keys.foldl (fun a e => if a.2.length < e.2.length then e else a) (0, [])
      ((s.modEcc fun x => { x with scrubs := SMap.put x.scrubs u { j with keys := keys } }).setAll
        [(F.eccScrubsumColkeyMacro (eccBase u), best.1 / 2 ^ 13), (F.eccScrubsumColkeyCol (eccBase u), best.1 % 2 ^ 13),
         (F.eccScrubsumColkeyRows (eccBase u), best.2.length)], rows.length == 3)

/-- The running scrub has declared a column fault at a place's column (R348). -/
def State.columnFault (s : State) (u : Nat) (p : ErrPlace) : Bool :=
  (SMap.find? s.ecc.scrubs u).any fun j => (SMap.getD j.keys (placeKey p) []).length == 4

/-- Poison is told to a requester's berth (R343). -/
def State.tellPoison (s : State) (berth : Option Nat) : State := s.raise atPoison berth.toList

/-- A result record completes UNKNOWN_OUTCOME with ticket 0xFFFF (R222, R343). -/
def State.loseRecord (s : State) (key : Nat) : State :=
  (s.setLrec key lostRec).bump (F.ldsErrstatUnknown (s.chanHome (key / 64))) 1

/-- What an uncorrectable error does to what it spoiled (R343). -/
def State.spoil (s : State) (u : Nat) (w : Spoiled) : State :=
  match w with
  | .message src id =>
    let m := (s.core.staged ++ s.core.bolt).find? fun m => m.src == src.val && m.id == id
    match m with
    | some m => (s.modCore fun c => { c with spoiled := (src.val, id) :: c.spoiled }).tellPoison m.berth
    | none => s
  | .replayData p seq =>
    match (s.fnl p.val).buffer.find? (fun c => c.seq == seq.val) with
    | some c => s.tellPoison ((s.core.records.find? fun r => pointLead r.point == p.val && r.id == c.msg).bind (·.berth))
    | none => s
  | .replayHeader p => (s.setFnl p.val { s.fnl p.val with noResume := true }).linkDown p.val 0xC
  | .shadow cell tag both => if both then s.freeShadow cell.val tag else s
  | .descriptor both => if both && decide (u < 8) then s.regionOut u else s
  | .directoryCache => s
  | .partition n set =>
    let slots := s.slotsOf n.val
    (slots.foldl (fun s v => (s.set (F.hubHomemapUnknown v) 1).set (F.homRoleUnknown n.val) 1) s).modHome fun h => { h with
      dir := h.dir.filter (fun e => !(e.2.home == n.val && setOf e.1 == set.val))
      known := h.known.filter (fun e => !slots.contains (slotOf e.1))
      flushedWins := slots.foldl (fun m v => SMap.put m v []) h.flushedWins }
  | .ownedFilter n i => s.modHome fun h => { h with filter := (List.range 16).foldl (fun f k =>
      SMap.put f (n.val * 2 ^ 20 + (i.val / 16 * 16 + k)) 15) h.filter }
  | .ownedStore line => (match s.entry line.val with
      | some x => if x.st = 2 then (s.poisonEntry x.home line.val).notify atPoison else s
      | none => s)
  | .memoryCache line => s.modHome fun h => { h with cache := SMap.del h.cache line.val }
  | .lodestarObject obj ch k =>
    let s1 := s.modLod fun l => { l with objects := SMap.alter l.objects obj.val fun o => { o with lost := true } }
    match s1.lod.pend.find? (fun c => c.key == 64 * ch.val + k.val && c.obj == obj.val) with
    | some c => (s1.sendResult c stPoison dtLost 0 0 false 0).tellPoison (some c.berth)
    | none => s1
  | .tracker id => (match s.txn id with
      | some t => ((s.poisonEntry t.home t.line).answerTxn t .done stPoison none false).tellPoison t.berth
      | none => s)
  | .waiter ch k =>
    let key := 64 * ch.val + k.val
    if s.lod.parked.any fun p => p.cmd.key == key then
      (s.modLod fun l => { l with parked := l.parked.filter fun p => p.cmd.key != key }).loseRecord key
    else s
  | .resultRecord ch k => if (SMap.find? s.lod.records (64 * ch.val + k.val)).isSome then s.loseRecord (64 * ch.val + k.val) else s
  | .roseTable fromChart => if fromChart then s else s.report hubCol 10 3
  | .freeSpace => s

/-- An error is handled (R341 to R349), by a read or by a scrub: counted, logged, its column key and its place looked at, and what it spoiled
dealt with. -/
def State.handleError (s : State) (u : Nat) (e : MemError) (scrub : Bool) : State :=
  let b := eccBase u
  let m := placeGroup e.place
  let unc := e.spoiled.isSome
  let s1 := if m = 63 then (if unc then s.bump (F.eccStatHbmUe b) 1 else (s.bump (F.eccStatHbmCe b) 1).count (ctrEcc u) 0x55 anySub none 1)
    else if unc then s.bump (F.eccGrpUe b m) 1 else s.bump (F.eccGrpCe b m) 1
  let s2 := (s1.reportAt (placeInput u e.place) (if unc then 1 else 0))
  let s3 := if scrub then
      let w := placeWord e.place
      let s4 := if s2.get (F.eccScrubsumCe b) = 0 ∧ s2.get (F.eccScrubsumUe b) = 0 then s2.set (F.eccScrubsumFirst b) w else s2
      (if unc then s4.bump (F.eccScrubsumUe b) 1 else s4.bump (F.eccScrubsumCe b) 1).set (F.eccScrubsumLast b) w
    else s2
  let k := if scrub then s3.countKey u e.place else (s3, false)
  let s4 := if k.2 then
      let s5 := k.1.set (F.eccScrubsumColumn b) 1
      if m = 63 then s5 else s5.scheduleRepair u 1 m (placeColumn e.place).1 (placeColumn e.place).2 0
    else k.1
  let g := s4.logError u e.place unc e.after
  let s5 := if s4.columnFault u e.place then g.1.set (logColumn b m g.2.1) 1
    else if g.2.2 then
      let s6 := g.1.set (logCell b m g.2.1) 1
      let s7 := if scrub then s6.set (F.eccScrubsumCell b) 1 else s6
      if m = 63 then s7.scheduleRepair u 2 0x3F (placeColumn e.place).1 (placeRow e.place) (placeWord e.place)
      else s7.scheduleRepair u 0 m (placeColumn e.place).1 (placeRow e.place) 0
    else g.1
  match e.spoiled with
  | some w => s5.spoil u w
  | none => s5

end Sys2Proof.Machine
end

