-- ==== Sys2Proof/Machine/Ecc.lean ====
section
/-! DEFINITION. Errors, scrubs and repairs (R341 to R352). -/
namespace Sys2Proof.Machine

/-- The unit of an ECC instance holds the place (R340): HBM only in a region, 43 groups in a region and 4 in the Rose. -/
def placeIn (u : Nat) (p : ErrPlace) : Bool :=
  match p with
  | .hbm .. => decide (u < 8)
  | .sram g .. => decide (u < 8 ∨ g.val < 4)

/-- A unit can meet an error: its region is powered. -/
def State.unitOn (s : State) (u : Nat) : Bool := u == 8 || s.regionPowered u

/-- A read finds a correctable error (R341, R342). -/
def doCorrectableError (u : Nat) (p : ErrPlace) (after : Bool) (t : Nat) (s0 : State) : State :=
  let s := s0.at t
  if placeIn u p && s.unitOn u then s.handleError u ⟨p, none, after⟩ false else s

def execCorrectableError (u : Fin 9) (p : ErrPlace) (after : Bool) (t : Nat) (s : State) : Host.Outcome State Fault Refusal :=
  .next (doCorrectableError u.val p after t s)

/-- A read finds an uncorrectable error (R343). -/
def doUncorrectableError (u : Nat) (p : ErrPlace) (w : Spoiled) (after : Bool) (t : Nat) (s0 : State) : State :=
  let s := s0.at t
  if placeIn u p && s.unitOn u then s.handleError u ⟨p, some w, after⟩ false else s

def execUncorrectableError (u : Fin 9) (p : ErrPlace) (w : Spoiled) (after : Bool) (t : Nat) (s : State) : Host.Outcome State Fault Refusal :=
  .next (doUncorrectableError u.val p w after t s)

/-- ECC.SCRUB.START or ECC.ROSESCRUB (R344, R346): the summary starts anew and leave is asked for; ignored while a scrub runs and for a
stack that is lost. -/
def startScrub (u : Fin 9) (s : State) : State :=
  let b := eccBase u.val
  let target := s.get (F.eccScrubTarget b)
  if s.flag (F.eccScrubBusy b) || (target == 0x3F && (u.val == 8 || s.home.lostStacks.contains u.val)) || !s.unitOn u.val then s
  else
    let s1 := s.setAll [(F.eccScrubsumCe b, 0), (F.eccScrubsumUe b, 0), (F.eccScrubsumColumn b, 0), (F.eccScrubsumCell b, 0),
      (F.eccScrubsumKeysFull b, 0), (F.eccScrubsumFirst b, 0), (F.eccScrubsumLast b, 0), (F.eccScrubsumColkeyMacro b, 0),
      (F.eccScrubsumColkeyCol b, 0), (F.eccScrubsumColkeyRows b, 0), (F.eccScrubBusy b, 1)]
    (s1.modEcc fun x => { x with scrubs := SMap.put x.scrubs u.val ⟨false, false, target, s.get (F.eccScrubrangeFirst b),
      s.get (F.eccScrubrangeLast b), [], s.now⟩ }).requestLeave (.scrub u)

def execScrubStart (src : Sess) (u : Fin 9) (s : State) : Host.Outcome State Fault Refusal :=
  .next (s.regCommandAt src (eccBase u.val) Principal.isOwner fun _ s => (startScrub u s, stOk))

/-- A scrub reads the next word or line under its slip (R345), and every error it finds there is handled. -/
def doScrubRead (u : Nat) (found : List MemError) (t : Nat) (s0 : State) : State :=
  let s := s0.at t
  match SMap.find? s.ecc.scrubs u with
  | none => s
  | some j =>
    if j.granted = false ∨ s.flag (F.eccScrubPaused (eccBase u)) ∨ (j.target = 0x3F ∧ j.last < j.next) then s
    else
      let mine := found.filter fun e => placeIn u e.place && placeGroup e.place == j.target && (j.target != 0x3F || placeWord e.place == j.next)
      mine.foldl (fun s e => s.handleError u e true) (s.modEcc fun x => { x with
        scrubs := SMap.put x.scrubs u { j with begun := true, next := j.next + 1 } })

def execScrubRead (u : Fin 9) (found : List MemError) (t : Nat) (s : State) : Host.Outcome State Fault Refusal :=
  .next (doScrubRead u.val found t s)

/-- The 1 ms renewal of a scrub's slip (R344): a refusal pauses it; leave granted again lets it go on. -/
def doScrubLeaveRenew (u : Fin 9) (t : Nat) (s0 : State) : State :=
  let s := s0.at t
  if (SMap.find? s.ecc.scrubs u.val).any (·.granted) then
    match (s.lvc.slips.filter fun e => e.2.purpose == .scrub u).head? with
    | some e => (s.renewSlip e.1).1.set (F.eccScrubPaused (eccBase u.val)) (if (s.renewSlip e.1).2.isNone then 0 else 1)
    | none => if s.hasLeave (.scrub u) then s else (s.set (F.eccScrubPaused (eccBase u.val)) 1).requestLeave (.scrub u)
  else s

def execScrubLeaveRenew (u : Fin 9) (t : Nat) (s : State) : Host.Outcome State Fault Refusal := .next (doScrubLeaveRenew u t s)

/-- A scrub ends (R345, R346): the HBM range is read to its last line, or the macro group is read whole. -/
def doScrubDone (u : Fin 9) (t : Nat) (s0 : State) : State :=
  let s := s0.at t
  match SMap.find? s.ecc.scrubs u.val with
  | none => s
  | some j =>
    if j.granted = true ∧ (j.target ≠ 0x3F ∨ j.last < j.next) then
      (((s.modEcc fun x => { x with scrubs := SMap.del x.scrubs u.val }).setAll [(F.eccScrubBusy (eccBase u.val), 0),
        (F.eccScrubPaused (eccBase u.val), 0), (F.eccScrubDone (eccBase u.val), 1)]).withdrawFor (.scrub u)).releaseFor (.scrub u)
    else s

def execScrubDone (u : Fin 9) (t : Nat) (s : State) : Host.Outcome State Fault Refusal := .next (doScrubDone u t s)

/-- ECC.FUSECMD.BURN (R350, R356): ignored while a burn runs, and unless the entry named is a soft repair. -/
def startBurn (s : State) : State :=
  let u := s.get F.eccFusecmdInstance
  let e := s.get F.eccFusecmdEntry
  let b := eccBase u
  if s.flag F.eccFusecmdBusy ∨ 8 < u ∨ s.get (F.eccRepairqState b e) ≠ 2 then s
  else (s.set F.eccFusecmdBusy 1).modEcc fun x => { x with burning := some (u, e, repairKey u (s.get (F.eccRepairqKind b e))
    (s.get (F.eccRepairqGroup b e)) (s.get (F.eccRepairqMacro b e)) (s.get (F.eccRepairqIndex b e))) }

def execFuseBurn (src : Sess) (s : State) : Host.Outcome State Fault Refusal :=
  .next (s.regCommand src Principal.isHelm fun _ s => (startBurn s, stOk))

/-- A repair burn ends (R350, R353, R356): verified, the repair is hard and the Almanac record is dropped; otherwise FAILED. -/
def doFuseBurnDone (ok : Bool) (t : Nat) (s0 : State) : State :=
  let s := s0.at t
  match s.ecc.burning with
  | none => s
  | some (u, e, key) =>
    let s1 := (s.setAll [(F.eccFusecmdBusy, 0), (F.eccFusecmdDone, 1), (F.eccFusecmdFailed, if ok then s.get F.eccFusecmdFailed else 1)]).modEcc
      fun x => { x with burning := none }
    if ok then
      (if s.get (F.eccRepairqState (eccBase u) e) = 2 then s1.set (F.eccRepairqState (eccBase u) e) 3 else s1).modNv fun n => { n with
        softRepairs := SMap.del n.softRepairs key, fuseMap := SMap.put n.fuseMap key 1 }
    else s1

def execFuseBurnDone (ok : Bool) (t : Nat) (s : State) : Host.Outcome State Fault Refusal := .next (doFuseBurnDone ok t s)

/-- A bolt row with no spare leaves service (R351): both its segments are free and the pool holds 2. -/
def doBoltRowRetire (g e t : Nat) (s0 : State) : State :=
  let s := s0.at t
  let b := eccBase g
  let key := repairKey g (s.get (F.eccRepairqKind b e)) (s.get (F.eccRepairqGroup b e)) (s.get (F.eccRepairqMacro b e)) (s.get (F.eccRepairqIndex b e))
  if s.get (F.eccRepairqState b e) = 4 ∧ s.get (F.eccRepairqKind b e) = 0 ∧ s.get (F.eccRepairqGroup b e) < 16 ∧ 2 ≤ s.freePool g
      ∧ s.rowFree g (s.get (F.eccRepairqGroup b e)) (s.get (F.eccRepairqMacro b e)) (s.get (F.eccRepairqIndex b e)) = true
      ∧ s.ecc.rowsOut.contains key = false then
    (s.set (F.rgnBoltcapCapacity g) (s.get (F.rgnBoltcapCapacity g) - 2)).modEcc fun x => { x with rowsOut := x.rowsOut ++ [key] }
  else s

def execBoltRowRetire (g : Fin 8) (e : Fin 16) (t : Nat) (s : State) : Host.Outcome State Fault Refusal :=
  .next (doBoltRowRetire g.val e.val t s)

end Sys2Proof.Machine
end

