-- ==== Sys2Proof/Machine/Faults.lean ====
section
/-! DEFINITION. Collector events, wiring faults, start-up modes, first-source records, entry to the safe state, the C0 window,
acknowledging attention codes and injecting faults (R312 to R337). -/
namespace Sys2Proof.Machine

/-- A C2 event of a region's sash is the loss of one of its two copies, which costs nothing (R101, R326); with the second the region's admission
is lost, which has the reach of a seam fault (R101, R308).
[DESIGN CHOICE, log entry 143] -/
def State.sashFault (s : State) (c : Nat) : State :=
  if 1152 ≤ c ∧ c < 1160 ∧ s.flt.reactions.contains (c, 29) = true then
    let g := c - 1152
    let s1 := s.modFlt fun u => { u with reactions := u.reactions.filter (· != (c, 29)) }
    if s.seam.sash.contains g then
      (s1.set F.hubXbarstatSashUp (if s.sashUp g then s.get F.hubXbarstatSashUp - 2 ^ g else s.get F.hubXbarstatSashUp)).regionOut g
    else s1.modSeam fun u => { u with sash := u.sash ++ [g] }
  else s

/-- The events of one cycle at one collector, in the order of its arbiter (R315). -/
def doErrorLineEvent (c : Nat) (events : List (Nat × Nat)) (s : State) : State :=
  (sortEvents (events.filter fun e => decide (e.1 < colInputs c))).foldl (fun s e => (s.report c e.1 e.2).sashFault c) s

def execErrorLineEvent (c : Collector) (events : List (Fin 32 × FaultClass)) (s : State) : Host.Outcome State Fault Refusal :=
  .next (doErrorLineEvent (colNum c) (events.map fun e => (e.1.val, clsNum e.2)) s)

/-- A wiring fault is declared (R317): the line is masked and NOTICE is raised to the Helm and the Pilot. -/
def State.wiringFault (s : State) (c i : Nat) : State :=
  ((s.setBit (F.colWiring (colBase c)) i).modFlt fun u => { u with quiet := SMap.del u.quiet (32 * c + i) }).raise
    atNotice [audHelm, audPilot]

def doWiringFault (c i : Nat) (s : State) : State :=
  if i < colInputs c ∧ s.inputMode c i = 3 ∧ (s.get (F.colWiring (colBase c))).testBit i = false then s.wiringFault c i else s

def execWiringFault (c : Collector) (i : Fin 32) (s : State) : Host.Outcome State Fault Refusal :=
  .next (doWiringFault (colNum c) i.val s)

/-- The 10 µs poll of a masked input (R317): the events its source has recorded are handled, and the line is watched for quiet.
[DESIGN CHOICE, log entry 28] -/
def doWiringPoll (c i : Nat) (found : List Nat) (quiet : Bool) (t : Nat) (s0 : State) : State :=
  let s := s0.at t
  if (s.get (F.colWiring (colBase c))).testBit i then
    let kept := if (SMap.find? s.flt.quiet (32 * c + i)).isSome then s.flt.quiet else SMap.put s.flt.quiet (32 * c + i) s.now
    let q := if quiet then kept else SMap.del s.flt.quiet (32 * c + i)
    let s1 := s.modFlt fun u => { u with quiet := q }
    found.foldl (fun s k => (s.polledEvent c i k).sashFault c) s1
  else s

def execWiringPoll (c : Collector) (i : Fin 32) (found : List FaultClass) (quiet : Bool) (t : Nat) (s : State) :
    Host.Outcome State Fault Refusal :=
  .next (doWiringPoll (colNum c) i.val (found.map clsNum) quiet t s)

/-- A write of 1 to a WIRING bit (R317): re-arms the line once it has read quiet for 1 ms, otherwise it is ignored.
[DESIGN CHOICE, log entry 28] -/
def rearmLine (c i : Nat) (s : State) : State :=
  if (SMap.find? s.flt.quiet (32 * c + i)).any fun q => decide (q + msec 1 ≤ s.now) then
    (s.clearBit (F.colWiring (colBase c)) i).modFlt fun u => { u with quiet := SMap.del u.quiet (32 * c + i) }
  else s

def execWiringRearm (src : Sess) (c : Collector) (i : Fin 32) (s : State) : Host.Outcome State Fault Refusal :=
  .next (s.regCommandAt src (colBase (colNum c)) Principal.isPilot fun _ s => (rearmLine (colNum c) i.val s, stOk))

/-- The chip's inputs for which a latched start-up bit holds the module in reset (R319): the C3 sources of R313 and 11 to 13.
[DEDUCED, log entry 136] -/
def holdsReset (i : Nat) : Bool := [8, 9, 11, 12, 13, 16].contains i

/-- An input enters SERVICE (R319): a latched start-up bit retires the unit by a C2 fault, or holds the module in reset.
[DEDUCED, log entry 136] -/
def doInputServiceEntry (c i : Nat) (s : State) : State :=
  if i < colInputs c ∧ s.inputMode c i ≠ 3 then
    if (s.get (F.colSsw (colBase c))).testBit i then
      (if c = hubCol ∧ holdsReset i then (s.setMode c i 3).modFlt fun u => { u with holdReset := true }
       else (s.setMode c i 3).report c i 2)
    else s.setMode c i 3
  else s

def execInputServiceEntry (c : Collector) (i : Fin 32) (s : State) : Host.Outcome State Fault Refusal :=
  .next (doInputServiceEntry (colNum c) i.val s)

/-- A line not quiet 1 ms after its unit left reset (R319). -/
def doInputServiceTimeout (c i : Nat) (s : State) : State :=
  if i < colInputs c ∧ s.inputMode c i ≠ 3 then (s.setMode c i 3).wiringFault c i else s

def execInputServiceTimeout (c : Collector) (i : Fin 32) (s : State) : Host.Outcome State Fault Refusal :=
  .next (doInputServiceTimeout (colNum c) i.val s)

/-- A write of 1 to FIRST.VALID (R321): VALID, OVERFLOW and PENDING clear together, with the record they held. -/
def clearFirst (b : Nat) (s : State) : State :=
  s.setAll [(F.colFirstValid b, 0), (F.colFirstOverflow b, 0), (F.colPending b, 0), (F.colFirstSrc b, 0),
    (F.colFirstClass b, 0), (F.colFirstTime b, 0)]

def execFirstRecordClear (src : Sess) (c : Collector) (s : State) : Host.Outcome State Fault Refusal :=
  .next (s.regCommandAt src (colBase (colNum c)) Principal.isPilot fun _ s => (clearFirst (colBase (colNum c)) s, stOk))

/-- A collector's self-fault (R322, R323): its fatal line enters the safe state; the record names it with input 0x1F.
[DESIGN CHOICE, log entry 27] -/
def doCollectorSelfFault (c : Nat) (lasting : Bool) (s : State) : State :=
  let s1 := (s.set (F.colColstatSelfFault (colBase c)) 1).enterSafe 2 c 0x1F
  if lasting then { s1 with flt := { s1.flt with selfLive := c :: s1.flt.selfLive } } else s1

def execCollectorSelfFault (c : Collector) (lasting : Bool) (s : State) : Host.Outcome State Fault Refusal :=
  .next (doCollectorSelfFault (colNum c) lasting s)

/-- FLT.SAFE.ENTER (R323): entry by the Helm's command, recorded at the chip with input 0x1E. -/
def safeCommand (s : State) : State := s.enterSafe 3 hubCol 0x1E

def execSafeEnter (src : Sess) (s : State) : Host.Outcome State Fault Refusal :=
  .next (s.regCommand src Principal.isHelm fun _ s => (safeCommand s, stOk))

/-- The 1 s C0 window ends (R328). -/
def doC0WindowEnd (t : Nat) (s0 : State) : State :=
  let s := s0.at t
  if s.flt.c0Start + sec 1 ≤ s.now then
    (s.set F.fltC0win 0).modFlt fun u => { u with c0Raised := false, c0Start := s.now }
  else s

def execC0WindowEnd (t : Nat) (s : State) : Host.Outcome State Fault Refusal := .next (doC0WindowEnd t s)

/-- The codes of a mask that an acknowledgement clears (R331): SAFE stays pending while the module is in the safe state. -/
def State.ackable (s : State) (mask : Nat) : Nat := if s.safeOn then mask % 2 ^ 15 else mask

/-- A write of ACK_MASK (R331, R332): with ACK_SEQ equal to SEQ the masked codes stop being pending, otherwise STALE is set. -/
def ackMask (a mask : Nat) (s : State) : State :=
  if s.get (F.fltAttnAckSeq a) = s.get (F.fltAttnSeq a) then
    s.setAll [(F.fltAttnPend a, s.get (F.fltAttnPend a) - (s.get (F.fltAttnPend a) &&& s.ackable mask)), (F.fltAttnStale a, 0)]
  else s.set (F.fltAttnStale a) 1

/-- Each principal acknowledges in its own audience only (R331). -/
def execAttentionAck (src : Sess) (a : Fin 66) (mask : Fin 65536) (s : State) : Host.Outcome State Fault Refusal :=
  .next (s.regCommand src (fun p => p != .unclaimed && p.audience == a.val) fun _ s => (ackMask a.val mask.val s, stOk))

/-- FLT.INJECT.GO (R335): one event on the input named, handled as a real one; a C3 names the collector and input as injected. -/
def injectFault (c i cls : Nat) (s : State) : State :=
  if i < colInputs c then (s.lineEvent 4 c i cls c i 4).sashFault c else s

def execFaultInject (src : Sess) (c : Collector) (i : Fin 32) (cls : FaultClass) (s : State) :
    Host.Outcome State Fault Refusal :=
  .next (s.regCommandAt src (colBase (colNum c)) Principal.isHelm fun _ s => (injectFault (colNum c) i.val (clsNum cls) s, stOk))

/-- The region a collector stands in, none for the chip's. -/
def colRegion (c : Nat) : Option Nat :=
  if c < 1024 then some (c / 128) else if c < 1152 then some ((c - 1024) / 16) else if c < 1160 then some (c - 1152) else none

/-- The unit behind an input may be tested (R318): the chart does not attach its region, or it is held in reset. -/
def State.testable (s : State) (c i : Nat) : Bool :=
  (colRegion c).any (fun g => !s.chart.attached.testBit g) || s.inputMode c i != 3

/-- Built-in self-test (R318): the Helm starts it on a unit the chart does not attach or that is held in reset; the input is in
TEST until the test ends, and a failed test is latched into the start-up status word. -/
def execBuiltInSelfTest (src : Sess) (c : Collector) (i : Fin 32) (failed ends : Bool) (s : State) :
    Host.Outcome State Fault Refusal :=
  .next (if ends then
      (if s.inputMode (colNum c) i.val = 1 then
        (if failed then s.setBit (F.colSsw (colBase (colNum c))) i.val else s).setMode (colNum c) i.val
          (if (colRegion (colNum c)).any (fun g => !s.chart.attached.testBit g) then 0 else 2)
       else s)
    else s.regCommand src Principal.isHelm fun _ s =>
      if s.testable (colNum c) i.val && decide (i.val < colInputs (colNum c)) then (s.setMode (colNum c) i.val 1, stOk)
      else (s, stDenied))

end Sys2Proof.Machine
end

