-- ==== Sys2Proof/Machine/Codec.lean ====
section
/-! DEFINITION. The FNL codeword's checks (R276, R277): RS(288,272) as two interleaved shortened codes over GF(2^8), and the CRC-64. -/
namespace Sys2Proof.Machine

/-- Times x in GF(2^8) with x^8 + x^4 + x^3 + x^2 + 1. -/
def gfDouble (a : Nat) : Nat := if a < 128 then 2 * a else (2 * a) ^^^ 0x11D

/-- The product in GF(2^8): b's bits from the highest. -/
def gfMul (a b : Nat) : Nat :=
  [7, 6, 5, 4, 3, 2, 1, 0].foldl (fun r i => if b.testBit i then gfDouble r ^^^ a else gfDouble r) 0

/-- α to a power, and the inverse. -/
def gfExp : Nat → Nat
  | 0 => 1
  | n + 1 => gfDouble (gfExp n)
def gfPow (a : Nat) : Nat → Nat
  | 0 => 1
  | n + 1 => gfMul a (gfPow a n)
def gfInv (a : Nat) : Nat := gfPow a 254

/-- The value of a polynomial, its highest coefficient first, and of one with its lowest coefficient first. -/
def gfEval (l : List Nat) (x : Nat) : Nat := l.foldl (fun r c => gfMul r x ^^^ c) 0
def gfEvalLow (l : List Nat) (x : Nat) : Nat := gfEval l.reverse x

/-- A polynomial, lowest coefficient first, plus a multiple of another shifted up. -/
def gfAxpy (c b : List Nat) (k m : Nat) : List Nat :=
  (List.range (max c.length (b.length + m))).map fun i => c.getD i 0 ^^^ (if m ≤ i then gfMul k (b.getD (i - m) 0) else 0)

/-- The error locator and its degree from the eight syndromes (Berlekamp and Massey). -/
def rsLocator (syn : List Nat) : List Nat × Nat :=
  let r := (List.range 8).foldl (fun (st : List Nat × List Nat × Nat × Nat × Nat) n =>
    let (c, b, len, m, bd) := st
    let d := (List.range (len + 1)).foldl (fun a i => a ^^^ gfMul (c.getD i 0) (if i ≤ n then syn.getD (n - i) 0 else 0)) 0
    if d = 0 then (c, b, len, m + 1, bd)
    else if 2 * len ≤ n then (gfAxpy c b (gfMul d (gfInv bd)) m, c, n + 1 - len, 1, d)
    else (gfAxpy c b (gfMul d (gfInv bd)) m, b, len, m + 1, bd)) ([1], [1], 0, 1, 1)
  (r.1, r.2.2.1)

/-- One interleave of 144 symbols, corrected where at most 4 are wrong (R276), with how many were; none where it fails to decode. -/
def rsDecode (l : List Nat) : Option (List Nat × Nat) :=
  let syn := (List.range 8).map fun i => gfEval l (gfExp i)
  if syn.all (· == 0) then some (l, 0)
  else
    let (loc, deg) := rsLocator syn
    let omega := (List.range 8).map fun i => (List.range (i + 1)).foldl (fun a j => a ^^^ gfMul (loc.getD j 0) (syn.getD (i - j) 0)) 0
    let deriv := (List.range loc.length).map fun i => if i % 2 = 0 then loc.getD (i + 1) 0 else 0
    let bad := (List.range 144).filter fun j => gfEvalLow loc (gfInv (gfExp (143 - j))) == 0
    if 4 < deg ∨ bad.length ≠ deg then none
    else
      let fixed := bad.foldl (fun l j =>
        let x := gfExp (143 - j)
        let e := gfMul x (gfMul (gfEvalLow omega (gfInv x)) (gfInv (gfEvalLow deriv (gfInv x))))
        l.set j (l.getD j 0 ^^^ e)) l
      if (List.range 8).all (fun i => gfEval fixed (gfExp i) == 0) then some (fixed, deg) else none

/-- The CRC-64 of R277 over a byte string. -/
def crc64 (l : List Nat) : Nat :=
  (l.foldl (fun c b => [7, 6, 5, 4, 3, 2, 1, 0].foldl (fun c i =>
    let top := c.testBit 63 != b.testBit i
    (2 * c % 2 ^ 64) ^^^ (if top then 0x42F0E1EBA9EA3693 else 0)) c) (2 ^ 64 - 1)) ^^^ (2 ^ 64 - 1)

/-- A codeword of 288 bytes, corrected, with the number of corrected symbols; none where it is uncorrectable (R277). -/
def decodeCodeword (cw : List Nat) : Option (List Nat × Nat) :=
  if cw.length ≠ 288 then none
  else
    match rsDecode ((List.range 144).map fun j => cw.getD (2 * j) 0), rsDecode ((List.range 144).map fun j => cw.getD (2 * j + 1) 0) with
    | some (x, n), some (y, m) =>
      let out := (List.range 288).map fun i => if i % 2 = 0 then x.getD (i / 2) 0 else y.getD (i / 2) 0
      if crc64 (out.take 264) = ((out.drop 264).take 8).foldl (fun a b => a * 256 + b) 0 then some (out, n + m) else none
    | _, _ => none

end Sys2Proof.Machine
end

