-- ==== Sys2Proof/Machine/FnlOps.lean ====
section
/-! DEFINITION. The FNL link layer's operations (R279 to R292): sending, acknowledging, replaying, credits, and the procedure that
receives a codeword. -/
namespace Sys2Proof.Machine

/-- The virtual channel a message takes on an FNL output (R283, R284). -/
def outVc (m : Msg) : Nat :=
  if isResponse m.kind then 2 else if m.kind = .snoop then 1 else if m.kind = .management then 5
  else if m.fc = .sync then 4 else 0

/-- An FNL output holds the credits to start a message (R285). -/
def State.hasCredits (s : State) (o : Nat) (m : Msg) : Bool :=
  !s.chart.isFnl o || (decide (1 ≤ (s.fnl o).credits.getD (outVc m) 0) && decide (dataSlots m ≤ (s.fnl o).credits.getD 3 0))

/-- The credits a message spends at its header slot (R285). -/
def State.spendCredits (s : State) (o : Nat) (m : Msg) : State :=
  if s.chart.isFnl o then
    let f := s.fnl o
    let c := f.credits.set (outVc m) (f.credits.getD (outVc m) 0 - 1)
    s.setFnl o { f with credits := c.set 3 (c.getD 3 0 - dataSlots m) }
  else s

/-- The replay of a pleat's buffer (R289), or the link-down that REPLAY_MAX brings. -/
def State.replay (s : State) (p : Nat) : State :=
  let f := s.fnl p
  if f.buffer.isEmpty then s
  else if s.get (F.fnlReplayctlReplayMax p) ≤ f.oldReplays then s.linkDown p 3
  else
    let s1 := f.buffer.foldl (fun s c => s.emit (.codeword p c.seq c.msg c.seg c.colour c.poison))
      (s.setFnl p { f with buffer := f.buffer.map (fun c => { c with sentAt := s.now }), oldReplays := f.oldReplays + 1 })
    (s1.bump (F.fnlEvtReplays p) 1).countCell p 0x17 none f.buffer.length

/-- An ACK or NAK names n (R289): invalid beyond the outstanding count; otherwise the codewords up to n are freed. -/
def State.acked (s : State) (p n : Nat) (nak : Bool) : State :=
  let f := s.fnl p
  let d := (n + 4096 - s.get (F.fnlSeqAcked p)) % 4096
  if f.buffer.length < d then s.linkDown p 4
  else
    let s1 := ((s.setBuffer p (f.buffer.drop d)).setFnl p { f with buffer := f.buffer.drop d, oldReplays := if d = 0 then f.oldReplays else 0 }).set
      (F.fnlSeqAcked p) n
    if nak then (s1.bump (F.fnlEvtNakRx p) 1).replay p else s1

/-- nak() of R288. -/
def State.nakNow (s : State) (p : Nat) : State :=
  ((s.setFnl p { s.fnl p with nakOut := true, nakAt := s.now }).bump (F.fnlEvtNakTx p) 1).emit
    (.nak p ((s.get (F.fnlSeqRxNext p) + 4095) % 4096))
def State.nakIf (s : State) (p : Nat) : State := if (s.fnl p).nakOut then s else s.nakNow p

/-- CREDIT_SYNC is sent (R286). -/
def State.sendCsync (s : State) (p : Nat) : State :=
  ((s.setFnl p { s.fnl p with csyncAt := some s.now }).bump (F.fnlEvtCsync p) 1).emit (.control p 3 [])

/-- CREDIT_TOTALS goes out in the next codeword (R286). -/
def State.sendTotals (s : State) (p : Nat) : State := s.emit (.control p 4 (s.fnl p).returned)

/-- Credits grow by how far each cumulative counter has moved, modulo its width (R285, R286). -/
def takeCredits (f : FnlLink) (new : List Nat) (width : Nat) : FnlLink :=
  { f with
    credits := (List.range 6).map fun i => f.credits.getD i 0 + (new.getD i 0 + width - f.lastCredit.getD i 0 % width) % width
    lastCredit := (List.range 6).map fun i =>
      f.lastCredit.getD i 0 + (new.getD i 0 + width - f.lastCredit.getD i 0 % width) % width }

/-- Received totals set each channel's count (R286). -/
def State.takeTotals (s : State) (p : Nat) (totals : List Nat) : State :=
  s.setFnl p { takeCredits (s.fnl p) totals 65536 with csyncAt := none }

/-- A training block is taken in while the link trains (R290, R66). -/
def State.takeBlock (s : State) (p : Nat) (b : List Nat) (credits : List Nat) : State :=
  let f := s.fnl p
  (s.setFnl p { f with
    peerPhase := b.getD 0 0, peerZalhel := b.getD 1 0 == 1, peerRates := b.getD 3 0, peerGood := b.getD 5 0,
    peerRx := b.getD 6 0, peerResume := b.getD 7 0 == 1, peerCredits := credits }).set (F.fnlLinkstatPeerId p) (b.getD 2 0)

/-- A training block as slot 0 carries it (R290): phase, role, module, rates, width, good, RX_NEXT, RESUME_OK; and the credits. -/
def blockOf (slot : List Nat) : List Nat × List Nat :=
  let w := fun i => slot.getD i 0 + 256 * slot.getD (i + 1) 0
  ([slot.getD 0 0, slot.getD 1 0 % 2, bitsOf (slot.getD 1 0) 1 4, slot.getD 2 0 % 4, slot.getD 3 0 % 8, w 4, w 6 % 4096, w 6 / 32768],
   (List.range 6).map fun i => w (12 + 2 * i))

/-- The virtual channels an opcode may take (R184, R283, R284). -/
def opcVcs (opc : Nat) : List Nat :=
  if [1, 2, 3, 5, 6, 7, 9].contains opc then [0] else if opc = 4 ∨ opc = 8 then [0, 4]
  else if 0x10 ≤ opc ∧ opc ≤ 0x12 then [1]
  else if (0x20 ≤ opc ∧ opc ≤ 0x25) ∨ (0x28 ≤ opc ∧ opc ≤ 0x2A) ∨ opc = 0x2C then [2]
  else if opc = 0x2B then [2, 4]
  else if 0x30 ≤ opc ∧ opc ≤ 0x32 then [0, 2]
  else if opc = 0x3C ∨ opc = 0x3D then [5] else []

/-- One slot of a sequenced codeword (R282 to R285): none where it is a protocol error or a credit overrun, with its cause.
[DEDUCED, log entry 50] -/
def takeSlot (f : FnlLink) (kind : Nat) (slot : List Nat) : FnlLink × Option Nat :=
  if kind = 1 then
    let vc := slot.getD 1 0 % 8
    let len := slot.getD 3 0 % 128
    if f.openData ≠ 0 ∨ 64 < len ∨ !(opcVcs (slot.getD 0 0 % 64)).contains vc then (f, some 0xC)
    else if f.given.getD vc 0 = 0 ∨ f.given.getD 3 0 < len then (f, some 5)
    else
      let g := f.given.set vc (f.given.getD vc 0 - 1)
      ({ f with given := g.set 3 (g.getD 3 0 - len), openData := len }, none)
  else if kind = 2 then (if f.openData = 0 then (f, some 0xC) else ({ f with openData := f.openData - 1 }, none))
  else (f, none)

/-- accept of R288: the four slots in order, and the number expected next moves on.
[DESIGN CHOICE, log entry 45] -/
def State.acceptSlots (s : State) (p : Nat) (h : Nat) (cw : List Nat) : State :=
  let r := [0, 1, 2, 3].foldl (fun (st : FnlLink × Option Nat) i =>
    if st.2.isSome then st else takeSlot st.1 (bitsOf h (12 + 2 * i) 2) ((cw.drop (8 + 64 * i)).take 64)) (s.fnl p, none)
  match r.2 with
  | some cause => s.linkDown p cause
  | none => (s.setFnl p { r.1 with nakOut := false }).set (F.fnlSeqRxNext p) ((s.get (F.fnlSeqRxNext p) + 1) % 4096)

/-- A control code (R281); a code not in the table is a protocol error. -/
def State.control (s : State) (p code : Nat) (slot : List Nat) : State :=
  match code with
  | 1 => if s.flag (F.celLinkstatUp p) then s else s.takeBlock p (blockOf slot).1 (blockOf slot).2
  | 2 => s.linkDown p 7
  | 3 => s.sendTotals p
  | 4 => s.takeTotals p ((List.range 6).map fun i => slot.getD (2 * i) 0 + 256 * slot.getD (2 * i + 1) 0)
  | 5 => s.setFnl p { s.fnl p with retiring := true }
  | _ => s.linkDown p 0xC

/-- The header's acknowledgement or control code (R288). -/
def State.takeAck (s : State) (p h : Nat) (slot0 : List Nat) : State :=
  let n := bitsOf h 24 12
  match bitsOf h 36 2 with
  | 1 => s.acked p n false
  | 2 => s.acked p n true
  | 3 => s.control p n slot0
  | _ => s

/-- The header's quiet-window bits (R259, R260): a request waits for budget; a window granted lets every pending step be made.
[DEDUCED, log entry 47] -/
def State.takeQuiet (s : State) (p h : Nat) : State :=
  let s1 := if bitsOf h 62 1 = 1 then s.set (F.lanQwstatReqIn (2 * p)) 1 else s
  if bitsOf h 63 1 = 1 then
    ((s1.set (F.lanQwstatReqOut (2 * p)) 0).bump (F.lanQwrcvd (2 * p)) 1).modLan fun u => { u with
      asked := SMap.put u.asked p (s.now + s.get (F.lanQwctlLen (2 * p)) * 1000) }
  else s1

/-- The phase step of a reference switch-over (R21): it lasts at most one reference period of 10 ns. -/
def State.inStep (s : State) : Bool := s.clk.switchedAt.any fun t => decide (s.now ≤ t + nsec 10)

/-- An uncorrectable codeword (R278, R286, R288, R293): a C1 event, C0 where a reference switch-over has corrupted it (R21, R313). -/
def State.badCw (s : State) (p : Nat) : State :=
  let f := s.fnl p
  let s0 := s.setFnl p { f with lockRun := f.lockRun + 1 }
  let s1 := if (SMap.find? s.lan.asked p).any (fun u => decide (s.now < u)) then s0.bump (F.fnlQwloss p) 1
    else
      let s2 := ((s0.bump (F.fnlUncor p) 1).bump (F.fnlWatchcntUncor p) 1).setFnl p { f with lockRun := f.lockRun + 1, badRun := f.badRun + 1 }
      (if f.badRun + 1 = 2 then s2.sendCsync p else s2).reportAt (inPhy p) (if s.inStep then 0 else 1)
  let s3 := s1.nakIf p
  if s.get (F.fnlLinkctlUncorMax p) ≤ s3.get (F.fnlWatchcntUncor p) then s3.linkDown p 1
  else if 8 ≤ f.lockRun + 1 then s3.linkDown p 6 else s3

/-- receive(cw) of R288 for a codeword that decodes. -/
def State.goodCw (s : State) (p : Nat) (cw : List Nat) : State :=
  let h := (cw.take 8).foldr (fun b a => b + 256 * a) 0
  let f := s.fnl p
  let s1 := s.setFnl p (takeCredits { f with badRun := 0, lockRun := 0 } ((List.range 6).map fun i => bitsOf h (38 + 4 * i) 4) 16)
  let s2 := (s1.takeAck p h ((cw.drop 8).take 64)).takeQuiet p h
  if !s2.flag (F.celLinkstatUp p) then s2
  else
    let seq := bitsOf h 0 12
    let d := (seq + 4096 - s2.get (F.fnlSeqRxNext p)) % 4096
    if [0, 1, 2, 3].all (fun i => bitsOf h (12 + 2 * i) 2 == 0 || bitsOf h (12 + 2 * i) 2 == 3) then
      (if d = 0 then s2 else s2.nakIf p)
    else if d = 0 then s2.acceptSlots p h cw
    else if 3072 ≤ d then s2
    else if d < 1024 then s2.nakIf p
    else s2.linkDown p 4

/-- The widths a pleat may train at, widest first (R61): x1 only for a single cell. -/
def Chart.widths (c : Chart) (p : Nat) : List Nat :=
  [16, 8, 4, 2].filter (· ≤ 2 * c.cells p) ++ (if c.cells p = 1 then [1] else [])

/-- The widest width whose lanes are all good and contiguous from either end (R61), and from which end. -/
def Chart.widest (c : Chart) (p : Nat) (good : Nat → Bool) : Option (Nat × Bool) :=
  (((c.widths p).map fun w => [(w, false), (w, true)]).flatten).find? fun e =>
    (List.range e.1).all fun i => good (if e.2 then 2 * c.cells p - 1 - i else i)

end Sys2Proof.Machine
end

