-- ==== Sys2Proof/Machine/Lanes.lean ====
section
/-! DEFINITION. The lanes' commands (R250 to R274): Sextant points, FOM ticks, range changes, trials, steps in windows, gaps or with
suspect marking, presets, thresholds, bulk sweeps. -/
namespace Sys2Proof.Machine

/-- What a FOM reading does (R257, R268): CALIBRATION once below ATTN until it has been at TARGET again; the tick and the preset
timer are kept. -/
def State.noteFom (s : State) (l : Nat) : State :=
  let r := s.lane l
  let fom := s.get (F.sxtFom l)
  let fire := r.armed && decide (fom < s.get (F.sxtThreshAttn l))
  let good := decide (s.get (F.sxtThreshTarget l) ≤ fom)
  let s1 := s.setLane l { r with
    armed := if fire then false else r.armed || good
    reached := r.reached || decide (s.get (F.sxtThreshLow l) ≤ fom)
    goodSince := if good then some (r.goodSince.getD s.now) else none }
  if fire then s1.raise atCalibration (s1.pleatBerth (s1.lanePleat l) ++ [audPilot]) else s1

/-- The module makes no step but a forced one while the pleat is down, in training or in a grace period (R264). -/
def State.mayStep (s : State) (p : Nat) : Bool := s.flag (F.celLinkstatUp p)

/-- A step waits (R260): one at a time per lane; an FNL receiver asks its partner for a window. -/
def State.pendStep (s : State) (l kind target : Nat) : State :=
  let p := s.lanePleat l
  if (s.lane l).step.isSome then s
  else
    let s1 := (s.setLane l { s.lane l with step := some ⟨kind, target, s.now⟩ }).set (F.lanRxeqStepPending l) 1
    if s.chart.isFnl p then
      if s.flag (F.lanQwstatReqOut (2 * p)) then s1 else (s1.set (F.lanQwstatReqOut (2 * p)) 1).emit (.quietRequest p)
    else s1

/-- A lane makes its step (R252): the range with the nearest equivalent code, or the re-centring offset.
[DESIGN CHOICE, log entry 13; DEDUCED, log entry 53] -/
def State.makeStep (s : State) (l : Nat) (x : LaneStep) : State :=
  let s1 := (s.setLane l { s.lane l with step := none }).set (F.lanRxeqStepPending l) 0
  if x.kind = 0 then
    (s1.setAll [(F.lanRxeqCtlePeak l, Config.nearestCode 0 (s.get (F.lanRxeqCtleRange l)) x.to_ (s.get (F.lanRxeqCtlePeak l))),
      (F.lanRxeqCtleRange l, x.to_)]).bump (F.lanCalcntRangeSteps l) 1
  else if x.kind = 1 then
    (s1.setAll [(F.lanRxeqVgaGain l, Config.nearestCode 1 (s.get (F.lanRxeqVgaRange l)) x.to_ (s.get (F.lanRxeqVgaGain l))),
      (F.lanRxeqVgaRange l, x.to_), (F.lanRxeqEndStop l, 0)]).bump (F.lanCalcntRangeSteps l) 1
  else (s1.set (F.lanRxeqCdrPhase l) x.to_).bump (F.lanCalcntRecentres l) 1

/-- Every lane of a pleat with a step pending makes it (R260, R262); a lane in a bulk sweep waits (R270). -/
def State.makeSteps (s : State) (p : Nat) : State :=
  (List.range (2 * s.chart.cells p)).foldl (fun s i =>
    let l := Chart.linkLane p i
    match (s.lane l).step with
    | some x => if s.lan.sweeping.contains l then s else s.makeStep l x
    | none => s) s

/-- The next codewords or flits are suspect (R263): two before the step and two after it; steps within four share them (R271).
[DEDUCED, log entry 46] -/
def State.markSuspect (s : State) (p : Nat) : State :=
  if (SMap.find? s.lan.suspect p).isSome then s else s.modLan fun u => { u with suspect := SMap.put u.suspect p 4 }

/-- A range change goes on trial (R265) unless a step or a trial is already in hand (R254). -/
def State.startTrial (s : State) (l kind old new : Nat) : State :=
  if (s.lane l).step.isSome || (s.lane l).trial.isSome then s
  else (s.setLane l { s.lane l with trial := some ⟨kind, old, new, s.now, s.now, false, true⟩ }).setAll
    [(F.sxtTrialKind l, kind), (F.sxtTrialFrom l, old), (F.sxtTrialTo l, new)]

/-- The end of a full pass (R254 rules 3 and 4): re-centring when the worst eye's centre is 8 units or more off, otherwise a trial of
the adjacent CTLE range when the FOM is below TARGET.
[DEDUCED, log entries 52, 53] -/
def State.passEnd (s : State) (l : Nat) : State :=
  let left := s.get (F.sxtEdgeLeft l)
  let right := s.get (F.sxtEdgeRight l)
  let off := (max left right - min left right) / 2
  if 8 ≤ off ∧ (s.lane l).step.isNone = true then
    s.pendStep l 2 ((s.get (F.lanRxeqCdrPhase l) + (if left ≤ right then off / 4 else 64 - off / 4)) % 64)
  else if s.get (F.sxtFom l) < s.get (F.sxtThreshTarget l) then
    let r := s.get (F.lanRxeqCtleRange l)
    if s.get (F.lanRxeqCtlePeak l) < 8 then (if r = 0 then s else s.startTrial l 0 r (r - 1))
    else if r = 3 then s else s.startTrial l 0 r (r + 1)
  else s

/-- A probe point's dwell ends (R255, R256): no pass runs during a trial or a sweep of the lane. -/
def doSextantPointDone (l mismatches t : Nat) (s0 : State) : State :=
  let s := s0.at t
  let r := s.lane l
  if s.flag (F.lanModeActive l) && !(r.trial.any (·.running)) && !s.lan.sweeping.contains l then
    let eyes := s.laneEyes (l / 2)
    let n := r.next % (64 * eyes)
    let f := if mismatches ≤ s.get (F.sxtCfgTol l) then r.failing.filter (· != n)
      else if r.failing.contains n then r.failing else r.failing ++ [n]
    let s1 := ((s.setLane l { r with failing := f, next := (n + 1) % (64 * eyes) }).showFom l).noteFom l
    if n + 1 = 64 * eyes then s1.passEnd l else s1
  else s

def execSextantPointDone (l : Fin 2048) (mismatches t : Nat) (s : State) : Host.Outcome State Fault Refusal :=
  .next (doSextantPointDone l.val mismatches t s)

/-- One low-FOM event of a lane (R257), a C0 event (R313). -/
def State.lowEvent (s : State) (p l : Nat) : State :=
  ((s.bump (F.sxtTrialcntLowticks l) 1).bump (F.fnlWatchcntLowfom p) 1).reportAt (inLane l) 0

/-- A FOM tick ends (R257): each lane whose readings stayed below LOW counts an event; at LOWFOM_MAX an FNL link goes down with cause
2 and a CXL link is directed into Recovery. -/
def doFomTick (p t : Nat) (s0 : State) : State :=
  let s := s0.at t
  if s.flag (F.celLinkstatUp p) then
    let ls := (SMap.getD s.lnk.lanes p []).filter fun l => !s.lan.sweeping.contains l
    let s1 := ls.foldl (fun s l =>
      let low := !(s.lane l).reached && decide (s.get (F.sxtFom l) < s.get (F.sxtThreshLow l))
      (if low then s.lowEvent p l else s).setLane l { s.lane l with reached := false }) s
    if s.get (F.fnlLinkctlLowfomMax p) ≤ s1.get (F.fnlWatchcntLowfom p) ∧ s.get (F.fnlWatchcntLowfom p) < s1.get (F.fnlWatchcntLowfom p) then
      (if s.chart.isFnl p then s1.linkDown p 2 else (s1.bump (F.celLlcxlRetrains p) 1).emit (.recovery p))
    else s1
  else s

def execFomTick (p : Fin 1024) (t : Nat) (s : State) : Host.Outcome State Fault Refusal := .next (doFomTick p.val t s)

/-- A fine code has stood at the end of its range for 1 µs with the adaptation pushing beyond it (R254 rule 2).
[DEDUCED, log entry 48] -/
def doRangeChangeRequest (l : Nat) (vga up : Bool) (t : Nat) (s0 : State) : State :=
  let s := s0.at t
  let r := if vga then s.get (F.lanRxeqVgaRange l) else s.get (F.lanRxeqCtleRange l)
  let top := if vga then 2 else 3
  if s.flag (F.lanModeActive l) then
    let s1 := if vga then s.setAll [(F.lanRxeqVgaGain l, if up then 63 else 0)]
      else s.set (F.lanRxeqCtlePeak l) (if up then 15 else 0)
    if (up && r == top) || (!up && r == 0) then s1
    else
      let s2 := s1.startTrial l (if vga then 1 else 0) r (if up then r + 1 else r - 1)
      if vga && (s2.lane l).trial.any (fun x => x.kind == 1) then s2.set (F.lanRxeqEndStop l) 1 else s2
  else s

def execRangeChangeRequest (l : Fin 2048) (vga up : Bool) (t : Nat) (s : State) : Host.Outcome State Fault Refusal :=
  .next (doRangeChangeRequest l.val vga up t s)

/-- A deferred trial runs again, 8 µs after its end (R266); not while the lane sweeps (R271). -/
def doTrialRetry (l t : Nat) (s0 : State) : State :=
  let s := s0.at t
  match (s.lane l).trial with
  | some x =>
    if !x.running && decide (x.start + usec 8 ≤ s.now) && !s.lan.sweeping.contains l then
      s.setLane l { s.lane l with trial := some { x with start := s.now, running := true } }
    else s
  | none => s

def execTrialRetry (l : Fin 2048) (t : Nat) (s : State) : Host.Outcome State Fault Refusal := .next (doTrialRetry l.val t s)

/-- A trial's outcome is recorded and the range change leaves the lane's hands (R266, R273). -/
def State.settleTrial (s : State) (l outcome : Nat) : State :=
  (s.setLane l { s.lane l with trial := none }).setAll [(F.sxtTrialOutcome l, outcome), (F.lanRxeqEndStop l, 0)]

def State.applyTrial (s : State) (l outcome : Nat) (x : LaneTrial) : State := (s.settleTrial l outcome).pendStep l x.kind x.to_

def State.rejectTrial (s : State) (l outcome : Nat) : State := (s.settleTrial l outcome).bump (F.sxtTrialcntRejects l) 1

/-- A forced change (R267): the step is made at once, in a window or gap that is open, otherwise with suspect marking. -/
def State.forceTrial (s : State) (l : Nat) (x : LaneTrial) : State :=
  let p := s.lanePleat l
  let s1 := ((s.settleTrial l 3).bump (F.lanCalcntForced l) 1).makeStep l ⟨x.kind, x.to_, s.now⟩
  if (SMap.find? s.lan.asked p).any (fun u => decide (s.now < u)) then s1
  else (s1.bump (F.lanCalcntSuspectSteps l) 1).markSuspect p

/-- A trial is put off (R266): it is repeated 8 µs after its end. -/
def State.deferTrial (s : State) (l : Nat) (x : LaneTrial) : State :=
  let s1 := s.setLane l { s.lane l with trial := some { x with start := s.now, deferred := true, running := false } }
  if x.deferred then s1 else s1.bump (F.sxtTrialcntDeferrals l) 1

/-- A trial ends (R265 to R267). -/
def doTrialEnd (l t1 t2 : Nat) (pushing : Bool) (t : Nat) (s0 : State) : State :=
  let s := s0.at t
  match (s.lane l).trial with
  | some x =>
    if !x.running then s
    else
      let s1 := (s.setAll [(F.sxtTrialT1 l, t1), (F.sxtTrialT2 l, t2)]).bump (F.sxtTrialcntTrials l) 1
      let fom := s.get (F.sxtFom l)
      let slope := max t1 t2 - min t1 t2
      let atEnd := pushing && x.kind == 1 && (s.get (F.lanRxeqVgaGain l) == 63 || s.get (F.lanRxeqVgaGain l) == 0)
      if slope ≤ s.get (F.sxtRangectlSlopeMax l) then
        if fom + s.get (F.sxtRangectlGainMin l) ≤ t2 then s1.applyTrial l (if x.deferred then 4 else 1) x else s1.rejectTrial l 2
      else if atEnd then s1.forceTrial l x
      else if x.first + usec (s.get (F.sxtRangectlDeferMax l)) ≤ s.now then
        (if fom < t2 then s1.applyTrial l 4 x else s1.rejectTrial l 5)
      else s1.deferTrial l x
  | none => s

def execTrialEnd (l : Fin 2048) (t1 t2 : Fin 256) (pushing : Bool) (t : Nat) (s : State) : Host.Outcome State Fault Refusal :=
  .next (doTrialEnd l.val t1.val t2.val pushing t s)

/-- A sender's quiet budget (R261): 0.84 ns per µs, capped at 160 ns, in 1/1,000,000 ps. -/
def State.budget (s : State) (p : Nat) : Nat :=
  match SMap.find? s.lan.budgets p with
  | some (b, last) => min 160000000000 (b + (s.now - last) * 840)
  | none => 160000000000

/-- The sender grants its partner's request (R260, R261): the window begins at its next codeword boundary, LEN leaves the budget, and
its arbiter sends nothing meanwhile (R132).
[DEDUCED, log entry 47] -/
def State.openWindow (s : State) (p : Nat) : State :=
  let len := s.get (F.lanQwctlLen (2 * p)) * 1000
  let left := s.budget p - len * 1000000
  (((s.modLan fun u => { u with budgets := SMap.put u.budgets p (left, s.now), windows := SMap.put u.windows p (s.now + len) }).setAll
    [(F.lanQwstatReqIn (2 * p), 0), (F.lanQwstatBudget (2 * p), left / 1000000000)]).bump (F.lanQwsent (2 * p)) 1).emit (.quietWindow p)

def doQuietWindowGrant (p t : Nat) (s0 : State) : State :=
  let s := s0.at t
  if s.mayStep p && s.flag (F.lanQwstatReqIn (2 * p)) && decide (s.get (F.lanQwctlLen (2 * p)) * 1000000000 ≤ s.budget p) then s.openWindow p
  else s

def execQuietWindowGrant (p : Fin 1024) (t : Nat) (s : State) : Host.Outcome State Fault Refusal :=
  .next (doQuietWindowGrant p.val t s)

/-- A natural gap on a CXL pleat (R262). -/
def doNaturalGap (p t : Nat) (s0 : State) : State :=
  let s := s0.at t
  if s.mayStep p && !s.chart.isFnl p then s.makeSteps p else s

def execNaturalGap (p : Fin 1024) (t : Nat) (s : State) : Host.Outcome State Fault Refusal := .next (doNaturalGap p.val t s)

/-- A step has waited GAP_WAIT (R263): it is made with suspect marking. -/
def doSuspectStep (l t : Nat) (s0 : State) : State :=
  let s := s0.at t
  let p := s.lanePleat l
  match (s.lane l).step with
  | some x =>
    if s.mayStep p && decide (x.since + usec (10 * s.get (F.lanQwctlGapWait (2 * p))) ≤ s.now) && !s.lan.sweeping.contains l then
      ((s.makeStep l x).bump (F.lanCalcntSuspectSteps l) 1).markSuspect p
    else s
  | none => s

def execSuspectStep (l : Fin 2048) (t : Nat) (s : State) : Host.Outcome State Fault Refusal := .next (doSuspectStep l.val t s)

/-- The DFE tap fields of a lane (R272). -/
def dfeTaps (l : Nat) : List Fld :=
  [F.lanDfeTap1 l, F.lanDfeTap2 l, F.lanDfeTap3 l, F.lanDfeTap4 l, F.lanDfeTap5 l, F.lanDfeTap6 l, F.lanDfeTap7 l, F.lanDfeTap8 l,
   F.lanDfeTap9 l, F.lanDfeTap10 l, F.lanDfeTap11 l, F.lanDfeTap12 l]

/-- A lane's settings as its preset record holds them (R269): personality, rate, the four transmit taps, CTLE range and peak, VGA range
and gain, CDR phase, the twelve DFE taps. -/
def State.presetNow (s : State) (l : Nat) : List Nat :=
  [s.chart.personality (l / 2), s.get (F.celLinkstatRateNow (s.lanePleat l)), s.get (F.lanTxeqCm2 l), s.get (F.lanTxeqCm1 l),
   s.get (F.lanTxeqC0 l), s.get (F.lanTxeqCp1 l), s.get (F.lanRxeqCtleRange l), s.get (F.lanRxeqCtlePeak l),
   s.get (F.lanRxeqVgaRange l), s.get (F.lanRxeqVgaGain l), s.get (F.lanRxeqCdrPhase l)] ++ (dfeTaps l).map s.get

/-- The distance of two signed codes of a width. -/
def codeDistance (w a b : Nat) : Nat :=
  let x := if a < 2 ^ (w - 1) then (a : Int) else (a : Int) - 2 ^ w
  let y := if b < 2 ^ (w - 1) then (b : Int) else (b : Int) - 2 ^ w
  (x - y).natAbs

/-- A record differs enough to be written again (R268): in personality, rate or a range code, a CDR position of 2 or more, or more than
4 codes in a DFE tap. -/
def presetDiffers (a b : List Nat) : Bool :=
  [0, 1, 6, 8].any (fun i => a.getD i 0 != b.getD i 0)
    || decide (2 ≤ min ((a.getD 10 0 + 64 - b.getD 10 0) % 64) ((b.getD 10 0 + 64 - a.getD 10 0) % 64))
    || decide (4 < codeDistance 7 (a.getD 11 0) (b.getD 11 0))
    || (List.range 11).any fun i => decide (4 < codeDistance 5 (a.getD (12 + i) 0) (b.getD (12 + i) 0))

/-- A lane writes its preset record (R268). -/
def doPresetWrite (l : Nat) (peak gain : Nat) (taps : List Nat) (t : Nat) (s0 : State) : State :=
  let s := (s0.at t).setAll ([(F.lanRxeqCtlePeak l, peak), (F.lanRxeqVgaGain l, gain)] ++ (dfeTaps l).zip taps)
  let r := s.lane l
  let long := fun (x : Option Nat) (d : Nat) => x.any fun u => decide (u + d ≤ s.now)
  let upFor := long (SMap.find? s.lnk.watchAt (s.lanePleat l)) 0
  if s.flag (F.lanModeActive l) && upFor && long r.goodSince (sec 1)
      && (r.wrote.isNone || long r.wrote (sec 10))
      && ((SMap.find? s.nv.presets l).isNone || (SMap.find? s.nv.presets l).any fun x => presetDiffers x (s.presetNow l)) then
    (s.setLane l { r with wrote := some s.now }).modNv fun u => { u with presets := SMap.put u.presets l (s.presetNow l) }
  else s

def execPresetWrite (l : Fin 2048) (a : LaneSettings) (t : Nat) (s : State) : Host.Outcome State Fault Refusal :=
  .next (doPresetWrite l.val a.peak.val a.gain.val (a.taps.map (·.val)) t s)

/-- A write to SXT.THRESH (R258): the order 8 ≤ LOW < ATTN ≤ TARGET ≤ 200 holds or the write is refused. -/
def writeThresh (l target attn low : Nat) (s : State) : State × Nat :=
  if 8 ≤ low ∧ low < attn ∧ attn ≤ target ∧ target ≤ 200 then
    (s.setAll [(F.sxtThreshTarget l, target), (F.sxtThreshAttn l, attn), (F.sxtThreshLow l, low)], stOk)
  else (s, stDenied)

def execThreshWrite (src : Sess) (l : Fin 2048) (target attn low : Fin 256) (s : State) : Host.Outcome State Fault Refusal :=
  .next (s.regCommandAt src (F.sxtThreshLow l.val).addr Principal.isPilot fun _ s => writeThresh l.val target.val attn.val low.val s)

/-- A bulk sweep ends when no named lane still sweeps (R270). -/
def State.endSweep (s : State) : State :=
  if s.lan.sweeping.isEmpty then
    ((s.modLan fun u => { u with sweepOn := false }).setAll [(F.hubSweepBusy, 0), (F.hubSweepDone, 1)]).releaseFor .bulkSweep
  else s

/-- A bulk sweep starts (R270): lanes whose link is up sweep, the others read VALID 0 and count as finished; more than 64 lanes need
leave. START is ignored while a sweep runs. -/
def startSweep (s : State) : State :=
  if s.flag F.hubSweepBusy then s
  else
    let ls := s.sweepLanes
    let up := ls.filter fun l => s.flag (F.lanModeActive l)
    let s1 := ls.foldl (fun s l => s.set (F.sxtSweepresValid l) 0) s
    let s2 := (s1.modLan fun u => { u with sweeping := up }).setAll
      [(F.hubSweepBusy, 1), (F.hubSweepstatLanesDone, ls.length - up.length)]
    if 64 < s.get F.hubSweepCount then s2.requestLeave .bulkSweep
    else (s2.modLan fun u => { u with sweepOn := true }).endSweep

def execSweepStart (src : Sess) (s : State) : Host.Outcome State Fault Refusal :=
  .next (s.regCommand src Principal.isPilot fun _ s => (startSweep s, stOk))

/-- A lane finishes its sweep (R270, R273). -/
def doSweepLaneDone (l ho vo eye t : Nat) (s0 : State) : State :=
  let s := s0.at t
  if s.lan.sweepOn && s.lan.sweeping.contains l then
    let up := s.flag (F.lanModeActive l)
    let s1 := if up then s.setAll [(F.sxtSweepresHo l, ho), (F.sxtSweepresVo l, vo), (F.sxtSweepresFom l, fomRoot (ho * vo)),
      (F.sxtSweepresEye l, eye), (F.sxtSweepresValid l, 1)] else s.set (F.sxtSweepresValid l) 0
    ((s1.modLan fun u => { u with sweeping := u.sweeping.filter (· != l) }).set F.hubSweepstatLanesDone
      (s.get F.hubSweepstatLanesDone + 1)).endSweep
  else s

def execSweepLaneDone (l : Fin 2048) (ho vo : Fin 257) (eye : Fin 3) (t : Nat) (s : State) : Host.Outcome State Fault Refusal :=
  .next (doSweepLaneDone l.val ho.val vo.val eye.val t s)

end Sys2Proof.Machine
end

