-- ==== Sys2Proof/Machine/Fnl.lean ====
section
/-! DEFINITION. The commands of links (R275 to R301): codewords, control codewords, timers, training, watches, link-downs, grace
periods, retirement, and the CXL link layers. -/
namespace Sys2Proof.Machine

/-- A codeword comes out of the receive pipeline (R288): suspect ones are discarded and NAKed (R263); a window it opens lets pending
steps be made (R260).
[DESIGN CHOICE, log entry 45] -/
def doCodewordReceive (p : Nat) (cw : List Nat) (t : Nat) (s0 : State) : State :=
  let s := s0.at t
  if s.chart.isFnl p && s.flag (F.celLinkstatUp p) then
    match SMap.find? s.lan.suspect p with
    | some n =>
      (s.modLan fun u => { u with suspect := if n ≤ 1 then SMap.del u.suspect p else SMap.put u.suspect p (n - 1) }).nakIf p
    | none =>
      match decodeCodeword cw with
      | none => s.badCw p
      | some (w, fixed) =>
        let s1 := (if fixed = 0 then s else (s.bump (F.fnlCorr p) 1).reportAt (inPhy p) 0).goodCw p w
        if s1.get (F.lanQwrcvd (2 * p)) ≠ s.get (F.lanQwrcvd (2 * p)) ∧ s1.mayStep p = true then
          (s1.countCell p 0x18 none 1).makeSteps p
        else s1
  else s

def execCodewordReceive (p : Fin 1024) (cw : List (Fin 256)) (t : Nat) (s : State) : Host.Outcome State Fault Refusal :=
  .next (doCodewordReceive p.val (cw.map (·.val)) t s)

/-- A control codeword reaches an FNL pleat (R281). -/
def onFnl (p : Nat) (act : State → State) (s : State) : State := if s.chart.isFnl p then act s else s

/-- TRAIN (R290): a training block, taken in while the link trains. -/
def doTrain (p : Nat) (b : TrainBlock) (s : State) : State :=
  onFnl p (fun s => if s.flag (F.celLinkstatUp p) then s else
    s.takeBlock p [b.phase.val, if b.role then 1 else 0, b.moduleId.val, b.rates.val, b.width.val, b.good.val, b.rxNext.val,
      if b.resumeOk then 1 else 0] (b.credits.map (·.val))) s

def execTrain (p : Fin 1024) (b : TrainBlock) (s : State) : Host.Outcome State Fault Refusal := .next (doTrain p.val b s)

/-- RESET_REQ (R281, R294): the link goes down with cause 7. -/
def execResetReq (p : Fin 1024) (s : State) : Host.Outcome State Fault Refusal := .next (onFnl p.val (·.linkDown p.val 7) s)

/-- CREDIT_SYNC (R286): answered with CREDIT_TOTALS. -/
def execCreditSync (p : Fin 1024) (s : State) : Host.Outcome State Fault Refusal := .next (onFnl p.val (·.sendTotals p.val) s)

/-- CREDIT_TOTALS (R286). -/
def execCreditTotals (p : Fin 1024) (totals : List (Fin 65536)) (s : State) : Host.Outcome State Fault Refusal :=
  .next (onFnl p.val (·.takeTotals p.val (totals.map (·.val))) s)

/-- RETIRE (R281): the partner is retiring the link.
[DEDUCED, log entry 51] -/
def execRetire (p : Fin 1024) (s : State) : Host.Outcome State Fault Refusal :=
  .next (onFnl p.val (fun s => s.setFnl p.val { s.fnl p.val with retiring := true }) s)

/-- No CREDIT_TOTALS within 1 µs (R286). -/
def doCreditSyncTimeout (p t : Nat) (s0 : State) : State :=
  let s := s0.at t
  if (s.fnl p).csyncAt.any (fun u => decide (u + usec 1 ≤ s.now)) && s.flag (F.celLinkstatUp p) then s.sendCsync p else s

def execCreditSyncTimeout (p : Fin 1024) (t : Nat) (s : State) : Host.Outcome State Fault Refusal :=
  .next (doCreditSyncTimeout p.val t s)

/-- FNL.REPLAYCTL.TIMEOUT in ps (R309). -/
def State.replayTimeout (s : State) (p : Nat) : Nat := nsec (100 * s.get (F.fnlReplayctlTimeout p))

/-- A NAK has stayed outstanding for TIMEOUT (R288). -/
def doNakTimeout (p t : Nat) (s0 : State) : State :=
  let s := s0.at t
  if (s.fnl p).nakOut && decide ((s.fnl p).nakAt + s.replayTimeout p ≤ s.now) && s.flag (F.celLinkstatUp p) then s.nakNow p else s

def execNakTimeout (p : Fin 1024) (t : Nat) (s : State) : Host.Outcome State Fault Refusal := .next (doNakTimeout p.val t s)

/-- The oldest outstanding codeword has gone TIMEOUT unacknowledged (R289). -/
def doReplayTimeout (p t : Nat) (s0 : State) : State :=
  let s := s0.at t
  match (s.fnl p).buffer with
  | [] => s
  | c :: _ => if c.sentAt + s.replayTimeout p ≤ s.now ∧ s.flag (F.celLinkstatUp p) = true then s.replay p else s

def execReplayTimeout (p : Fin 1024) (t : Nat) (s : State) : Host.Outcome State Fault Refusal := .next (doReplayTimeout p.val t s)

/-- The rate an FNL pleat starts training at (R290): the highest at or below RATE_MAX that both sides offer. -/
def State.startRate (s : State) (p : Nat) : Nat :=
  if 1 ≤ s.chart.rateMax p ∧ (s.fnl p).peerRates.testBit 1 then 1 else 0

/-- A phase of a cold train completes (R290): Detect, equalisation, adaptation with the lanes found good, then the width over the
lanes good on both sides; with none the link tries 56 Gbit/s, and with none there training has failed: the link is retired when a
partner is present (R295). -/
def doFnlTrainingPhase (p good t : Nat) (s0 : State) : State :=
  let s := s0.at t
  let f := s.fnl p
  if s.chart.isFnl p && s.get (F.fnlLinkstatState p) == 1 then
    if f.stage ≤ 1 then s.setFnl p { f with stage := 2, rate := s.startRate p }
    else if f.stage = 2 then s.setFnl p { f with stage := 3 }
    else if f.stage = 3 then s.setFnl p { f with stage := 4, good := good }
    else if f.stage = 4 then
      match s.chart.widest p fun i => f.good.testBit i && f.peerGood.testBit i with
      | some (w, h) => s.setFnl p { f with stage := 5, width := w, high := h }
      | none =>
        if f.rate = 1 then s.setFnl p { f with stage := 2, rate := 0 }
        else if s.flag (F.celHotplugPresent p) then s.retire p false
        else (s.setFnl p { f with stage := 1 }).set (F.fnlLinkstatState p) 0
    else s
  else s

def execFnlTrainingPhase (p : Fin 1024) (good : Fin 65536) (t : Nat) (s : State) : Host.Outcome State Fault Refusal :=
  .next (doFnlTrainingPhase p.val good.val t s)

/-- Both sides hold their link state and the partner's RX_NEXT lies in the window (R292). -/
def State.resumes (s : State) (p : Nat) : Bool :=
  s.flag (F.fnlLinkstatGraceOn p) && (s.fnl p).peerResume && !(s.fnl p).noResume
    && decide (((s.fnl p).peerRx + 4096 - (s.get (F.fnlSeqAcked p) + 1) % 4096) % 4096
      ≤ (s.get (F.fnlSeqTxNext p) + 4096 - (s.get (F.fnlSeqAcked p) + 1) % 4096) % 4096)

/-- The link resumes (R292): it frees what the partner has, takes the partner's credits and replays the rest. -/
def State.resume (s : State) (p : Nat) : State :=
  let f := s.fnl p
  let k := (f.peerRx + 4096 - (s.get (F.fnlSeqAcked p) + 1) % 4096) % 4096
  let s1 := ((s.setBuffer p (f.buffer.drop k)).setAll [(F.fnlSeqAcked p, (f.peerRx + 4095) % 4096), (F.fnlLinkstatResumed p, 1)])
  (s1.setFnl p { f with buffer := f.buffer.drop k, oldReplays := 0, credits := f.peerCredits, lastCredit := [0, 0, 0, 0, 0, 0],
                        returned := [0, 0, 0, 0, 0, 0], given := s.advertised p, nakOut := false, badRun := 0, lockRun := 0 }).replay p

/-- The link comes up fresh (R292). -/
def State.freshUp (s : State) (p : Nat) : State :=
  let s1 := if s.flag (F.fnlLinkstatGraceOn p) then s.flush p else s
  (s1.setFnl p { freshFnl (s1.fnl p) with given := s.advertised p }).setAll
    [(F.fnlSeqTxNext p, 0), (F.fnlSeqAcked p, 0xFFF), (F.fnlSeqRxNext p, 0), (F.fnlSeqOutstanding p, 0), (F.fnlLinkstatResumed p, 0)]

/-- The link of an FNL pleat comes up (R290 phase 5, R292, R295): a cold train at the width and rate agreed, a preset reset at those it
had. To a fabric neighbour the module advertises its port IDs (R71). -/
def doFnlLinkUp (p t : Nat) (s0 : State) : State :=
  let s := s0.at t
  let f := s.fnl p
  let st := s.get (F.fnlLinkstatState p)
  if s.chart.isFnl p && s.mayTrain p && f.peerPhase == 4 && ((st == 1 && f.stage == 5) || st == 2) then
    let old := SMap.getD s.lnk.lanes p []
    let width := if st = 2 then old.length else f.width
    let rate := if st = 2 then s.get (F.celLinkstatRateNow p) else f.rate
    let high := if st = 2 then old.getD 0 (2 * p) != 2 * p else f.high
    let s1 := if s.resumes p then s.resume p else s.freshUp p
    let s2 := (s1.raiseLink p width rate 0 false f.peerZalhel high).set (F.fnlSeqDepth p) (s.chart.cells p)
    let s3 := s2.setFnl p { s2.fnl p with retiring := false }
    if f.peerZalhel then s3.emit (.pbrAdv p s3.localIds) else s3
  else s

def execFnlLinkUp (p : Fin 1024) (t : Nat) (s : State) : Host.Outcome State Fault Refusal := .next (doFnlLinkUp p.val t s)

/-- A lane is not good within a preset reset's limit (R291): the reset becomes a cold train.
[DESIGN CHOICE, log entry 54] -/
def doPresetResetTimeout (p t : Nat) (s0 : State) : State :=
  let s := s0.at t
  if s.get (F.fnlLinkstatState p) = 2 ∧ (SMap.find? s.lnk.resetAt p).any (fun u => decide (u + usec 25 ≤ s.now)) = true then
    (s.setFnl p { s.fnl p with stage := 1 }).set (F.fnlLinkstatState p) 1
  else s

def execPresetResetTimeout (p : Fin 1024) (t : Nat) (s : State) : Host.Outcome State Fault Refusal :=
  .next (doPresetResetTimeout p.val t s)

/-- A watch ends (R293): the highest counts are kept, and both counts return to 0. -/
def doWatchEnd (p t : Nat) (s0 : State) : State :=
  let s := s0.at t
  if (SMap.find? s.lnk.watchAt p).any (fun u => decide (u + usec (100 * s.get (F.fnlLinkctlWatch p)) ≤ s.now)) then
    (s.setAll [(F.fnlWatchcntMaxuncor p, max (s.get (F.fnlWatchcntMaxuncor p)) (s.get (F.fnlWatchcntUncor p))),
      (F.fnlWatchcntMaxlow p, max (s.get (F.fnlWatchcntMaxlow p)) (s.get (F.fnlWatchcntLowfom p))),
      (F.fnlWatchcntUncor p, 0), (F.fnlWatchcntLowfom p, 0)]).modLnk fun u => { u with watchAt := SMap.put u.watchAt p s.now }
  else s

def execWatchEnd (p : Fin 1024) (t : Nat) (s : State) : Host.Outcome State Fault Refusal := .next (doWatchEnd p.val t s)

/-- Loss of signal on every lane for 1 µs (R294 cause 8). -/
def doLossOfSignal (p t : Nat) (s : State) : State := onFnl p (·.linkDown p 8) (s.at t)

def execLossOfSignal (p : Fin 1024) (t : Nat) (s : State) : Host.Outcome State Fault Refusal := .next (doLossOfSignal p.val t s)

/-- A grace period expires (R296, R297). -/
def doGraceExpired (p t : Nat) (s0 : State) : State :=
  let s := s0.at t
  if (SMap.find? s.lnk.graceAt p).any fun u => decide (u + usec (100 * s.get (F.fnlLinkctlGrace p)) ≤ s.now) then s.flush p else s

def execGraceExpired (p : Fin 1024) (t : Nat) (s : State) : Host.Outcome State Fault Refusal := .next (doGraceExpired p.val t s)

/-- A write of 1 to FNL.RETIRECTL.RESET (R294 cause 9, R298). -/
def resetLink (p : Nat) (s : State) : State × Nat :=
  if s.get (F.fnlLinkstatState (s.chart.lead p)) = 4 then (s, stDenied) else (s.linkDown (s.chart.lead p) 9, stOk)

def execLinkResetCommand (src : Sess) (p : Fin 1024) (s : State) : Host.Outcome State Fault Refusal :=
  .next (s.regCommandAt src (F.fnlRetirectlReset p.val).addr Principal.isPilot fun _ s => resetLink p.val s)

/-- Retirement is cleared (R300, R295): the pleat is DOWN, and trains at once when its partner is present.
[DEDUCED, log entry 91] -/
def State.unretire (s : State) (p : Nat) : State :=
  if s.get (F.fnlLinkstatState p) = 4 then
    (({ s.setAll [(F.fnlLinkstatState p, 0), (F.fnlLinkstatLinkdowns p, 0)] with
      nv := { s.nv with linkRetired := s.nv.linkRetired.filter (· != p) } } : State).modLnk fun u => { u with
        downs := SMap.del u.downs p }).startTraining p
  else s

def execLinkUnretire (src : Sess) (p : Fin 1024) (s : State) : Host.Outcome State Fault Refusal :=
  .next (s.regCommandAt src (F.fnlRetirectlReset p.val).addr Principal.isPilot fun _ s => (s.unretire (s.chart.lead p.val), stOk))

/-- A CXL or PCIe replay or retry timer expires (R301, a C1 event of R313): four replays of one flit, then Recovery; in 68 B mode four retries, then
reinitialisation, and after three of those link down. -/
def doCxlReplayTimeout (p : Nat) (again : Bool) (t : Nat) (s0 : State) : State :=
  let s := s0.at t
  if s.flag (F.celLinkstatUp p) && !s.chart.isFnl p then
    let n := if again then SMap.getD s.lnk.retries p 0 else 0
    let put := fun (s : State) (k : Nat) => s.modLnk fun u => { u with retries := SMap.put u.retries p k }
    let s := s.reportAt (inLink p) 1
    if n % 16 < 4 then ((put s (n + 1)).bump (F.celLlcxlReplays p) 1).emit (.cxlReplay p)
    else if s.get (F.celLinkstatFlitNow p) = 1 ∧ 3 ≤ n / 16 then s.linkDown p 0xE
    else ((put s (16 * (n / 16 + 1))).bump (F.celLlcxlRetrains p) 1).emit (.recovery p)
  else s

def execCxlReplayTimeout (p : Fin 1024) (again : Bool) (t : Nat) (s : State) : Host.Outcome State Fault Refusal :=
  .next (doCxlReplayTimeout p.val again t s)

/-- A counted link-down passes out of RETIRE_WINDOW (R299). -/
def doLinkDownLeavesWindow (p t : Nat) (s0 : State) : State :=
  let s := s0.at t
  (s.modLnk fun u => { u with downs := SMap.put u.downs p (s.recentDowns p) }).set (F.fnlLinkstatLinkdowns p)
    (min 15 (s.recentDowns p).length)

def execLinkDownLeavesWindow (p : Fin 1024) (t : Nat) (s : State) : Host.Outcome State Fault Refusal :=
  .next (doLinkDownLeavesWindow p.val t s)

/-- A USP or DSP link's data link layer goes down (R294 cause 0xE). -/
def doCxlDataLinkDown (p t : Nat) (s0 : State) : State :=
  let s := s0.at t
  if s.chart.isUsp p || s.chart.isDsp p then s.linkDown p 0xE else s

def execCxlDataLinkDown (p : Fin 1024) (t : Nat) (s : State) : Host.Outcome State Fault Refusal := .next (doCxlDataLinkDown p.val t s)

end Sys2Proof.Machine
end

