-- ==== Sys2Proof/Machine/Homes.lean ====
section
/-! DEFINITION. The homes' commands (R160 to R201, failover apart): admission, requests becoming active, snoops and their answers,
pool responses, timeouts, dead agents, write-behind and window flushes. -/
namespace Sys2Proof.Machine

/-- A coherent request asks its home (R164, R189): nothing is asked in the safe state or while the pleat's shadows are full. -/
def doHomeAdmission (p : Nat) (fc : FcClass) (g t : Nat) (s0 : State) : State :=
  let s := s0.at t
  match s.stagingHead p fc g with
  | none => s
  | some m => match m.coh with
    | none => s
    | some q =>
      let line := m.addr / 64
      let n := s.lineHome line
      let fnl := s.chart.isFnl p
      if s.safeOn || decide (512 * s.chart.cells p ≤ (s.home.shadows.filter fun x => x.cell == p).length) then s
      else if s.homeGrants n line m.berth then
        let agent := match q.port with | some i => s.chart.agentOfPort i.val | none => s.chart.agentOfUsp p
        let x : Shadow := ⟨p, m.id, q.op, line, slotOf line, m.point, m.tack, agent, fnl, m.berth, q.data, q.mask, n / 9, 0, false, 0, false⟩
        (s.dropStaged m).keepShadow n x
      else
        let s1 := s.count (ctrHom n) 0x42 anySub m.berth 1
        if fnl then (s1.dropStaged m).homeReply p m.id m.berth .retry stRetry none false else s1

def execHomeAdmission (p : Fin 1024) (fc : FcClass) (g : Fin 8) (t : Nat) (s : State) : Host.Outcome State Fault Refusal :=
  .next (doHomeAdmission p.val fc g.val t s)

/-- The opcode a waiting request is taken as now (R183).
[DEDUCED, log entry 56] -/
def State.opNow (s : State) (t : Txn) : Option CohOp :=
  match t.job with
  | .req o => some (resolveOp o ((s.entry t.line).getD (DirEntry.empty t.home 0)) t.agent)
  | _ => none

/-- A snoop that is out to an agent for a line. -/
def State.snoopTo (s : State) (a line : Nat) : Option Snoop := s.home.snoops.find? fun x => x.line == line && x.agents.contains a

/-- A write-back that arrives while a snoop to its agent is out (R175): the home takes its data as the snoop's and completes it. -/
def State.captureWrite (s : State) (t : Txn) (x : Snoop) : State :=
  let s1 := match s.txn x.txn with
    | some u => s.setTxn { u with got := some (t.data % 2 ^ 512) }
    | none => s
  s1.answerTxn t .done stOk none false

/-- A request becomes active at its line (R165, R172): the line's oldest, or a write-back that meets a snoop (R175). -/
def doActivate (op : CohOp) (line t : Nat) (s0 : State) : State :=
  let s := s0.at t
  match (s.home.txns.filter fun x => x.line == line && x.stage == .queued && s.opNow x == some op).find? fun x =>
      ((op == .wrBack || op == .wrClean) && x.agent.any (fun a => (s.snoopTo a line).isSome))
        || (s.queueFront line).map (·.id) == some x.id with
  | none => s
  | some x => match (if op = .wrBack ∨ op = .wrClean then x.agent.bind fun a => s.snoopTo a line else none) with
    | some y => (s.captureWrite x y).settle
    | none => (s.startTxn x).settle

def execRdS (line : Fin (2 ^ 46)) (t : Nat) (s : State) : Host.Outcome State Fault Refusal := .next (doActivate .rdS line.val t s)
def execRdOwn (line : Fin (2 ^ 46)) (t : Nat) (s : State) : Host.Outcome State Fault Refusal := .next (doActivate .rdOwn line.val t s)
def execUpg (line : Fin (2 ^ 46)) (t : Nat) (s : State) : Host.Outcome State Fault Refusal := .next (doActivate .upg line.val t s)
def execRdCur (line : Fin (2 ^ 46)) (t : Nat) (s : State) : Host.Outcome State Fault Refusal := .next (doActivate .rdCur line.val t s)
def execEvictS (line : Fin (2 ^ 46)) (t : Nat) (s : State) : Host.Outcome State Fault Refusal := .next (doActivate .evictS line.val t s)
def execWrBack (line : Fin (2 ^ 46)) (t : Nat) (s : State) : Host.Outcome State Fault Refusal := .next (doActivate .wrBack line.val t s)
def execWrClean (line : Fin (2 ^ 46)) (t : Nat) (s : State) : Host.Outcome State Fault Refusal := .next (doActivate .wrClean line.val t s)
def execWrFull (line : Fin (2 ^ 46)) (t : Nat) (s : State) : Host.Outcome State Fault Refusal := .next (doActivate .wrFull line.val t s)
def execWrPart (line : Fin (2 ^ 46)) (t : Nat) (s : State) : Host.Outcome State Fault Refusal := .next (doActivate .wrPart line.val t s)

/-- The USP of this module that an edge port names. -/
def Chart.uspOfPort (c : Chart) (port : Nat) : Option Nat :=
  if c.pbrValid port && c.pbrLocal port && c.isUsp (c.pbrCell port) then some (c.pbrCell port) else none

/-- A snoop from another module's home (R183): passed to the host of the USP it names, or answered UNBOUND. -/
def doSnoopIn (p tag : Nat) (op : SnpOp) (port line t : Nat) (s0 : State) : State :=
  let s := s0.at t
  if s.flag (F.celLinkstatUp p) then match s.chart.uspOfPort port with
    | some u => (s.modHome fun h => { h with forwarded := h.forwarded ++ [(p, tag, u, line)] }).emit (.hostSnoop u op line)
    | none => (s.bump (F.celStaleReqUnbound p) 1).emit (.answer p tag (.fnlStatus stUnbound))
  else s

def execSnData (p : Fin 1024) (tag : Nat) (port : Fin 4096) (line : Fin (2 ^ 46)) (t : Nat) (s : State) :
    Host.Outcome State Fault Refusal := .next (doSnoopIn p.val tag .data port.val line.val t s)
def execSnInv (p : Fin 1024) (tag : Nat) (port : Fin 4096) (line : Fin (2 ^ 46)) (t : Nat) (s : State) :
    Host.Outcome State Fault Refusal := .next (doSnoopIn p.val tag .inv port.val line.val t s)
def execSnCur (p : Fin 1024) (tag : Nat) (port : Fin 4096) (line : Fin (2 ^ 46)) (t : Nat) (s : State) :
    Host.Outcome State Fault Refusal := .next (doSnoopIn p.val tag .cur port.val line.val t s)

/-- BIConflicts of a USP for a line are answered once the host's response is recorded (R183). -/
def State.ackConflicts (s : State) (p line : Nat) : State :=
  (s.home.conflicts.filter fun c => c.1 == p && c.2.2 == line).foldl (fun s c => s.emit (.biConflictAck p c.2.1))
    (s.modHome fun u => { u with conflicts := u.conflicts.filter fun c => !(c.1 == p && c.2.2 == line) })

/-- An agent answers a snoop (R172, R175, R185): its MISSES read 0, the snoop ends with its last answer, and the transaction goes on. -/
def State.answerSnoop (s : State) (x : Snoop) (a down : Nat) (data : Option Nat) : State :=
  let s1 := (s.set (F.hubAgentMisses a) 0).endSnoop x a
  let s2 := match s1.txn x.txn with
    | some t => s1.setTxn { t with down := down, got := match data with | some d => some (d % 2 ^ 512) | none => t.got }
    | none => s1
  let s3 := match s.chart.agentCell a with | some p => s2.ackConflicts p x.line | none => s2
  (s3.proceed 32 x.txn).settle

/-- A snoop to an agent is stale (R77): the tack of the agent's binding point has advanced since it was sent. -/
def State.staleSnoop (s : State) (x : Snoop) (a : Nat) : Bool := s.tack (s.chart.agentPoint a) != SMap.getD x.tacks a 0

/-- A snoop response (R172, R175, R183): to this module's home, or passed back to another's; one whose snoop has gone stale is discarded
(R77); one that nothing waits for is discarded
and counted. `down` is 0 for a holder that keeps its state, 1 for S, 2 for I. -/
def doSnoopResponse (port line down : Nat) (data : Option Nat) (t : Nat) (s0 : State) : State :=
  let s := s0.at t
  match (s.chart.agentOfPort port).bind fun a => (s.snoopTo a line).map fun x => (a, x) with
  | some (a, x) =>
    if s.staleSnoop x a then (s.bump (F.celStaleRspDiscard (s.chart.agentLink a)) 1).raiseBinding x.berth
    else s.answerSnoop x a down data
  | none => match (s.chart.uspOfPort port).bind fun u => s.home.forwarded.find? fun f => f.2.2.1 == u && f.2.2.2 == line with
    | some f => ((s.modHome fun h => { h with forwarded := h.forwarded.filter (· != f) }).emit
        (.snoopReturn f.1 f.2.1 down (down == 0) data)).ackConflicts f.2.2.1 line
    | none => if (s.chart.sharedWindow line).isSome then s.bump (F.homErrstatLateRsp (s.lineHome line)) 1 else s

def execSrI (port : Fin 4096) (line : Fin (2 ^ 46)) (t : Nat) (s : State) : Host.Outcome State Fault Refusal :=
  .next (doSnoopResponse port.val line.val 2 none t s)
def execSrS (port : Fin 4096) (line : Fin (2 ^ 46)) (t : Nat) (s : State) : Host.Outcome State Fault Refusal :=
  .next (doSnoopResponse port.val line.val 1 none t s)
def execSrIData (port : Fin 4096) (line : Fin (2 ^ 46)) (data t : Nat) (s : State) : Host.Outcome State Fault Refusal :=
  .next (doSnoopResponse port.val line.val 2 (some data) t s)
def execSrSData (port : Fin 4096) (line : Fin (2 ^ 46)) (data t : Nat) (s : State) : Host.Outcome State Fault Refusal :=
  .next (doSnoopResponse port.val line.val 1 (some data) t s)
def execSrCurData (port : Fin 4096) (line : Fin (2 ^ 46)) (data t : Nat) (s : State) : Host.Outcome State Fault Refusal :=
  .next (doSnoopResponse port.val line.val 0 (some data) t s)
def execSrCur (port : Fin 4096) (line : Fin (2 ^ 46)) (t : Nat) (s : State) : Host.Outcome State Fault Refusal :=
  .next (doSnoopResponse port.val line.val 0 none t s)

/-- A host's BIConflict (R183): answered at once unless a snoop to the host for the line is out. -/
def doBiconflict (p tag line t : Nat) (s0 : State) : State :=
  let s := s0.at t
  if ((s.chart.agentOfUsp p).any fun a => (s.snoopTo a line).isSome) || s.home.forwarded.any fun f => f.2.2.1 == p && f.2.2.2 == line then
    s.modHome fun u => { u with conflicts := u.conflicts ++ [(p, tag, line)] }
  else s.emit (.biConflictAck p tag)

def execBiconflict (p : Fin 1024) (tag : Nat) (line : Fin (2 ^ 46)) (t : Nat) (s : State) : Host.Outcome State Fault Refusal :=
  .next (doBiconflict p.val tag line.val t s)

/-- A pool read returns (R181): the line goes into the memory-side cache with its poison.
[DEDUCED, log entry 60] -/
def State.poolReadDone (s : State) (line data : Nat) (poison : Bool) (status : Nat) : State :=
  match s.home.txns.find? fun t => t.line == line && t.stage == .read && t.value.isNone with
  | none => s
  | some t =>
    let s1 := if status = 0 then s.cachePut line (data % 2 ^ 512) poison else s
    ((s1.setTxn { t with value := some (if status = 0 then (data % 2 ^ 512, poison) else (0, true)), status := status }).proceed 32 t.id).settle

/-- A pool write is acknowledged (R169, R181): the cache takes the line; an eviction's or a snoop's data that the pool did not take is
written again.
[DEDUCED, log entry 60] -/
def State.poolWriteDone (s : State) (line status : Nat) : State :=
  match s.home.txns.find? fun t => t.wrote.isSome && ((t.line == line && (t.stage == .write || t.stage == .unknownWrite || t.stage == .protoWrite))
      || (t.victim == line && t.stage == .evictWrite)) with
  | none => s
  | some t =>
    let v := t.wrote.getD (0, true)
    if status ≠ 0 ∧ t.stage ≠ .write then s.emit (.poolWrite (s.poolOf line) line v.1 v.2)
    else (((if status = 0 then s.cachePut line v.1 v.2 else s).setTxn { t with status := status, wrote := none }).proceed 32 t.id).settle

def doPoolResponse (line : Nat) (write : Bool) (data : Nat) (poison : Bool) (status t : Nat) (s0 : State) : State :=
  if write then (s0.at t).poolWriteDone line status else (s0.at t).poolReadDone line data poison status

def execPoolResponse (line : Fin (2 ^ 46)) (write : Bool) (data : Nat) (poison : Bool) (status : Fin 11) (t : Nat) (s : State) :
    Host.Outcome State Fault Refusal := .next (doPoolResponse line.val write data poison status.val t s)

/-- The timer of a snoop runs (R186): the link towards its agent is up. -/
def State.snoopRuns (s : State) (a : Nat) : Bool := s.flag (F.celLinkstatUp (s.chart.agentLink a))

/-- A snoop ends without a response (R185 to R188); a timeout is a C1 event of its slice (R313); the egress answers UNBOUND for one whose
tack is stale, counts it and raises BINDING (R77).
[DEDUCED, log entry 61] -/
def doSnoopTimeout (line a : Nat) (why : SnoopEnd) (t : Nat) (s0 : State) : State :=
  let s := s0.at t
  match s.snoopTo a line with
  | none => s
  | some x =>
    let due := match why with
      | .timeout => s.snoopRuns a && decide (SMap.getD x.sent a 0 + usec (s.get (F.homSnpctlTimeout x.home)) ≤ s.now)
      | .unbound => s.staleSnoop x a
      | .flushed => !s.snoopRuns a && s.flag (F.fnlLinkstatFlushed (s.chart.agentLink a))
    if due then (((match why with
      | .timeout => s.reportAt (inSlice x.home) 1
      | .unbound => (s.bump (F.celStaleReqUnbound (s.chart.agentLink a)) 1).raiseBinding x.berth
      | .flushed => s)).expireSnoop x a).askSweep else s

def execSnoopTimeout (line : Fin (2 ^ 46)) (a : Fin 64) (why : SnoopEnd) (t : Nat) (s : State) : Host.Outcome State Fault Refusal :=
  .next (doSnoopTimeout line.val a.val why t s)

/-- A dead-agent sweep ends (R188, R473) once it has visited every entry it found, at new homes too: SWEPT is set, the slip goes back, the
next sweep asks.
[DEDUCED, log entry 63] -/
def doDeadAgentSweepDone (t : Nat) (s0 : State) : State :=
  let s := (s0.at t).settle
  let a := s.get F.hubDeadsweepAgent
  if s.flag F.hubDeadsweepBusy && s.home.sweepTodo.isEmpty && !(s.home.txns.any fun x => x.job == .sweep) && s.home.restarts.isEmpty then
    let s2 := (s.setAll [(F.hubAgentSwept a, 1), (F.hubDeadsweepBusy, 0), (F.hubDeadsweepDone, 1)]).modHome fun u => { u with
      sweeps := u.sweeps.filter (· != a) }
    (if h : a < 64 then s2.releaseFor (.deadSweep ⟨a, h⟩) else s2).askSweep
  else s

def execDeadAgentSweepDone (t : Nat) (s : State) : Host.Outcome State Fault Refusal := .next (doDeadAgentSweepDone t s)

/-- HUB.AGENT[a].REVIVE (R188). -/
def reviveAgent (a : Nat) (s : State) : State × Nat :=
  if !s.agentDead a then (s, stOk)
  else if s.flag (F.hubAgentSwept a) then (s.setAll [(F.hubAgentDead a, 0), (F.hubAgentMisses a, 0)], stOk)
  else (s, stDenied)

def execAgentRevive (src : Sess) (a : Fin 64) (s : State) : Host.Outcome State Fault Refusal :=
  .next (s.regCommand src Principal.isPilot fun _ s => reviveAgent a.val s)

/-- An O line wants write-behind (R177): its horizon has come, or its window is over budget and it is the oldest. -/
def State.behindWanted (s : State) (line : Nat) : Bool :=
  match s.entry line, s.chart.sharedWindow line with
  | some x, some w => x.st == 2 && (decide (x.since + usec (10 * s.chart.winHorizon w) ≤ s.now)
      || (decide (s.chart.winBudget w < s.windowOwned w) && (s.home.dir.all fun e =>
        e.2.st != 2 || s.chart.sharedWindow e.1 != some w || decide (x.since ≤ e.2.since))))
  | _, _ => false

/-- A line's write-behind has begun. -/
def State.behindRuns (s : State) (line : Nat) : Bool := s.home.txns.any fun x => x.line == line && x.job == .writeBehind

/-- An O line is due for write-behind (R177): it wants it, and no older line of its slice waits for it. -/
def State.behindDue (s : State) (line : Nat) : Bool :=
  s.behindWanted line && (s.entry line).any fun x => s.home.dir.all fun e =>
    e.2.home != x.home || decide (x.since ≤ e.2.since) || !s.behindWanted e.1 || s.behindRuns e.1

/-- Write-behind (R177): it takes the line's queue through a reserved tracker. -/
def doWriteBehind (line t : Nat) (s0 : State) : State :=
  let s := s0.at t
  if s.behindDue line && !s.behindRuns line && s.mayOriginate (s.lineHome line) then
    (s.originate line .writeBehind).settle
  else s

def execWriteBehind (line : Fin (2 ^ 46)) (t : Nat) (s : State) : Host.Outcome State Fault Refusal := .next (doWriteBehind line.val t s)

/-- HUB.WFLUSH.START (R197): ignored while a flush runs. -/
def startWindowFlush (s : State) : State :=
  if s.flag F.hubWflushBusy then s
  else ((s.setAll [(F.hubWflushBusy, 1), (F.hubWflushstatLines, 0)]).modHome fun u => { u with
    flushOn := false, flushWin := some (s.get F.hubWflushWindow), flushTodo := [] }).requestLeave .windowFlush

def execWindowFlushStart (src : Sess) (s : State) : Host.Outcome State Fault Refusal :=
  .next (s.regCommand src Principal.isPilot fun _ s => (startWindowFlush s, stOk))

/-- The shared windows with a line in a slot. -/
def Chart.windowsIn (c : Chart) (v : Nat) : List Nat :=
  (c.listed 6 0).filter fun w => c.winValid w && c.winShared w && someSlot (c.winStart w) (c.winEnd w) fun u => u == v

/-- A slot leaves unknown mode (R195).
[DESIGN CHOICE, log entry 57] -/
def State.leaveUnknown (s : State) (v : Nat) : State :=
  let s1 := ((s.set (F.hubHomemapUnknown v) 0).modHome fun u => { u with flushedWins := SMap.del u.flushedWins v }).freeFilter (s.chart.slotHome v)
  let n := s.slotSlice v
  if (List.range 64).any fun u => s1.slotSlice u == n && s1.flag (F.hubHomemapUnknown u) then s1 else s1.set (F.homRoleUnknown n) 0

/-- Every slice has finished the flush, new homes included (R195, R197, R473).
[DESIGN CHOICE, log entry 57] -/
def doWindowFlushDone (t : Nat) (s0 : State) : State :=
  let s := s0.at t
  match s.home.flushWin with
  | none => s
  | some w =>
    if s.home.flushOn && s.home.flushTodo.isEmpty && s.home.restarts.isEmpty && !(s.home.txns.any fun x => x.job == .flush) then
      let s1 := ((s.setAll [(F.hubWflushBusy, 0), (F.hubWflushDone, 1)]).modHome fun u => { u with
        flushOn := false, flushWin := none
        flushedWins := u.flushedWins.map fun e => (e.1, w :: e.2) }).releaseFor .windowFlush
      (List.range 64).foldl (fun s v =>
        if s.flag (F.hubHomemapUnknown v) && (s.chart.windowsIn v).all fun x => (SMap.getD s.home.flushedWins v []).contains x then
          s.leaveUnknown v
        else s) s1
    else s

def execWindowFlushDone (t : Nat) (s : State) : Host.Outcome State Fault Refusal := .next (doWindowFlushDone t s)

/-- HOM.TRK.CLR_PEAK (R200).
[DESIGN CHOICE, log entry 29] -/
def clearTrkPeak (n : Nat) (s : State) : State := s.set (F.homTrkPeak n) 0

def execTrkPeakClear (src : Sess) (n : Fin 72) (s : State) : Host.Outcome State Fault Refusal :=
  .next (s.regCommandAt src (F.homTrkPeak n.val).addr Principal.isPilot fun _ s => (clearTrkPeak n.val s, stOk))

end Sys2Proof.Machine
end

