-- ==== Sys2Proof/Machine/Crypto.lean ====
section
/-! DEFINITION. SHA-384 and the ECDSA P-384 check that R38, R39 and R53 name; the spec names both and leaves their definitions to the
standards (PRESUMED: log entry 9). -/
namespace Sys2Proof.Machine

/-- Bytes, big-endian, as a number. -/
def beNat (l : List Nat) : Nat := l.foldl (fun a b => a * 256 + b % 256) 0

/-- A number as n bytes, big-endian. -/
def beBytes (n v : Nat) : List Nat := (List.range n).map fun i => v / 256 ^ (n - 1 - i) % 256

/-- The round constants of SHA-384. -/
def shaK : List Nat :=
  [0x428A2F98D728AE22, 0x7137449123EF65CD, 0xB5C0FBCFEC4D3B2F, 0xE9B5DBA58189DBBC, 0x3956C25BF348B538,
   0x59F111F1B605D019, 0x923F82A4AF194F9B, 0xAB1C5ED5DA6D8118, 0xD807AA98A3030242, 0x12835B0145706FBE,
   0x243185BE4EE4B28C, 0x550C7DC3D5FFB4E2, 0x72BE5D74F27B896F, 0x80DEB1FE3B1696B1, 0x9BDC06A725C71235,
   0xC19BF174CF692694, 0xE49B69C19EF14AD2, 0xEFBE4786384F25E3, 0x0FC19DC68B8CD5B5, 0x240CA1CC77AC9C65] ++
  [0x2DE92C6F592B0275, 0x4A7484AA6EA6E483, 0x5CB0A9DCBD41FBD4, 0x76F988DA831153B5, 0x983E5152EE66DFAB,
   0xA831C66D2DB43210, 0xB00327C898FB213F, 0xBF597FC7BEEF0EE4, 0xC6E00BF33DA88FC2, 0xD5A79147930AA725,
   0x06CA6351E003826F, 0x142929670A0E6E70, 0x27B70A8546D22FFC, 0x2E1B21385C26C926, 0x4D2C6DFC5AC42AED,
   0x53380D139D95B3DF, 0x650A73548BAF63DE, 0x766A0ABB3C77B2A8, 0x81C2C92E47EDAEE6, 0x92722C851482353B] ++
  [0xA2BFE8A14CF10364, 0xA81A664BBC423001, 0xC24B8B70D0F89791, 0xC76C51A30654BE30, 0xD192E819D6EF5218,
   0xD69906245565A910, 0xF40E35855771202A, 0x106AA07032BBD1B8, 0x19A4C116B8D2D0C8, 0x1E376C085141AB53,
   0x2748774CDF8EEB99, 0x34B0BCB5E19B48A8, 0x391C0CB3C5C95A63, 0x4ED8AA4AE3418ACB, 0x5B9CCA4F7763E373,
   0x682E6FF3D6B2B8A3, 0x748F82EE5DEFB2FC, 0x78A5636F43172F60, 0x84C87814A1F0AB72, 0x8CC702081A6439EC] ++
  [0x90BEFFFA23631E28, 0xA4506CEBDE82BDE9, 0xBEF9A3F7B2C67915, 0xC67178F2E372532B, 0xCA273ECEEA26619C,
   0xD186B8C721C0C207, 0xEADA7DD6CDE0EB1E, 0xF57D4F7FEE6ED178, 0x06F067AA72176FBA, 0x0A637DC5A2C898A6,
   0x113F9804BEF90DAE, 0x1B710B35131C471B, 0x28DB77F523047D84, 0x32CAAB7B40C72493, 0x3C9EBE0A15C9BEBC,
   0x431D67C49C100D4C, 0x4CC5D4BECB3E42B6, 0x597F299CFC657E2A, 0x5FCB6FAB3AD6FAEC, 0x6C44198C4A475817]

/-- The initial hash value of SHA-384. -/
def shaInit : List Nat :=
  [0xCBBB9D5DC1059ED8, 0x629A292A367CD507, 0x9159015A3070DD17, 0x152FECD8F70E5939, 0x67332667FFC00B31,
   0x8EB44A8768581511, 0xDB0C2E0D64F98FA7, 0x47B5481DBEFA4FA4]

def rotr (x n : Nat) : Nat := (x / 2 ^ n + x * 2 ^ (64 - n)) % 2 ^ 64

/-- The message schedule: 16 words, then one word at a time. -/
def shaSchedule : Nat → List Nat → List Nat
  | 0, w => w
  | n + 1, w =>
    let x := w.getD (w.length - 15) 0
    let y := w.getD (w.length - 2) 0
    let s0 := rotr x 1 ^^^ rotr x 8 ^^^ (x / 2 ^ 7)
    let s1 := rotr y 19 ^^^ rotr y 61 ^^^ (y / 2 ^ 6)
    shaSchedule n (w ++ [(w.getD (w.length - 16) 0 + s0 + w.getD (w.length - 7) 0 + s1) % 2 ^ 64])

/-- One round over the eight working words. -/
def shaRound (v : List Nat) (kw : Nat) : List Nat :=
  let e := v.getD 4 0
  let a := v.getD 0 0
  let b := v.getD 1 0
  let c := v.getD 2 0
  let ch := (e &&& v.getD 5 0) ^^^ ((2 ^ 64 - 1 - e) &&& v.getD 6 0)
  let t1 := v.getD 7 0 + (rotr e 14 ^^^ rotr e 18 ^^^ rotr e 41) + ch + kw
  let t2 := (rotr a 28 ^^^ rotr a 34 ^^^ rotr a 39) + ((a &&& b) ^^^ (a &&& c) ^^^ (b &&& c))
  [(t1 + t2) % 2 ^ 64, a, b, c, (v.getD 3 0 + t1) % 2 ^ 64, e, v.getD 5 0, v.getD 6 0]

/-- One block of 128 bytes. -/
def shaBlock (h : List Nat) (block : List Nat) : List Nat :=
  let w := shaSchedule 64 ((List.range 16).map fun i => beNat ((block.drop (8 * i)).take 8))
  let v := (List.zipWith (fun k x => k + x) shaK w).foldl shaRound h
  List.zipWith (fun a b => (a + b) % 2 ^ 64) h v

/-- The blocks of a padded message, the number of blocks given. -/
def shaBlocks : Nat → List Nat → List Nat → List Nat
  | 0, _, h => h
  | n + 1, m, h => shaBlocks n (m.drop 128) (shaBlock h (m.take 128))

/-- The SHA-384 digest of a byte string, as 48 bytes.
[PRESUMED, log entry 9] -/
def sha384 (m : List Nat) : List Nat :=
  let pad := 128 - (m.length + 17) % 128
  let full := m ++ [128] ++ List.replicate (if pad = 128 then 0 else pad) 0 ++ beBytes 16 (8 * m.length)
  (((shaBlocks (full.length / 128) full shaInit).take 6).map (beBytes 8)).flatten

/-- The field prime, the order and the base point of P-384. -/
def ecP : Nat := 2 ^ 384 - 2 ^ 128 - 2 ^ 96 + 2 ^ 32 - 1
def ecN : Nat := 0xffffffffffffffffffffffffffffffffffffffffffffffffc7634d81f4372ddf581a0db248b0a77aecec196accc52973
def ecB : Nat := 0xb3312fa7e23ee7e4988e056be3f82d19181d9c6efe8141120314088f5013875ac656398d8a2ed19d2a85c8edd3ec2aef
def ecG : Option (Nat × Nat) :=
  some (0xaa87ca22be8b05378eb1c71ef320ad746e1d3b628ba79b9859f741e082542a385502f25dbf55296c3a545e3872760ab7,
    0x3617de4a96262c6f5d9e98bf9292dc29f8f41dbd289a147ce9da3113b5f0b8c00a60b1ce1d7e819d7a431d7c90ea0e5f)

/-- A power modulo m, of an exponent below 2^384. -/
def modPow (b e m : Nat) : Nat :=
  (List.range 384).foldr (fun i acc => if e.testBit i then acc * acc % m * b % m else acc * acc % m) 1

/-- The inverse modulo a prime. -/
def modInv (a m : Nat) : Nat := modPow (a % m) (m - 2) m

/-- The sum of two points of P-384 (none is the point at infinity). -/
def ecAdd (a b : Option (Nat × Nat)) : Option (Nat × Nat) :=
  match a, b with
  | none, q => q
  | p, none => p
  | some (x1, y1), some (x2, y2) =>
    if x1 = x2 ∧ (y1 + y2) % ecP = 0 then none
    else
      let l := if x1 = x2 then (3 * x1 * x1 + ecP - 3) * modInv (2 * y1) ecP % ecP
        else (y2 + ecP - y1) * modInv (x2 + ecP - x1) ecP % ecP
      let x3 := (l * l + 2 * ecP - x1 - x2) % ecP
      some (x3, (l * (x1 + ecP - x3) + ecP - y1) % ecP)

/-- A multiple of a point. -/
def ecMul (k : Nat) (q : Option (Nat × Nat)) : Option (Nat × Nat) :=
  (List.range 384).foldr (fun i acc =>
    if k.testBit i then ecAdd (ecAdd acc acc) q else ecAdd acc acc) none

/-- An uncompressed P-384 public key: 97 bytes that name a point of the curve.
[PRESUMED, log entry 9] -/
def isPublicKey (key : List Nat) : Bool :=
  let x := beNat ((key.drop 1).take 48)
  let y := beNat ((key.drop 49).take 48)
  decide (key.length = 97 ∧ key.getD 0 0 = 4 ∧ x < ecP ∧ y < ecP ∧ y * y % ecP = (x * x * x + (ecP - 3) * x + ecB) % ecP)

/-- An ECDSA P-384 signature (r, s) on a digest under a public key.
[PRESUMED, log entry 9] -/
def ecdsaVerify (digest key : List Nat) (r s : Nat) : Bool :=
  let x := beNat ((key.drop 1).take 48)
  let y := beNat ((key.drop 49).take 48)
  if isPublicKey key = true ∧ 0 < r ∧ r < ecN ∧ 0 < s ∧ s < ecN then
    let w := modInv s ecN
    match ecAdd (ecMul (beNat digest * w % ecN) ecG) (ecMul (r * w % ecN) (some (x, y))) with
    | some (v, _) => v % ecN == r
    | none => false
  else false

end Sys2Proof.Machine
end

