-- ==== Sys2Proof/Machine/ChartParse.lean ====
section
/-! DEFINITION. Chart images (R36 to R38, R51, R52, R470, R471): header, directory, sections and signature, what makes one break the
FORMAT rules, what an image makes of a configuration, and the canonical form and digest of a configuration (R53). -/
namespace Sys2Proof.Machine

/-- Why an image is refused (R43): the result code, the failing section's TYPE, the byte offset of the failing entry or field. -/
abbrev Bad := Nat × Nat × Nat

/-- One check. -/
def ensure (ok : Bool) (bad : Bad) : Except Bad Unit := if ok then .ok () else .error bad

/-- Result codes (R57). -/
def rcFormat : Nat := 2
def rcSignature : Nat := 3
def rcKeyRevoked : Nat := 4
def rcWrongModule : Nat := 5
def rcGeneration : Nat := 6
def rcScope : Nat := 7
def rcConsistency : Nat := 8
def rcResource : Nat := 9
def rcQuotaBelowUse : Nat := 0x0A
def rcNotQuiesced : Nat := 0x0B
def rcDirectory : Nat := 0x0C
def rcInUse : Nat := 0x0D
def rcSelfCut : Nat := 0x0E
def rcLeaveRefused : Nat := 0x0F
def rcJournalFull : Nat := 0x10
def rcRebaseMismatch : Nat := 0x11
def rcSafeState : Nat := 0x12
def rcAborted : Nat := 0x13

/-- A little-endian number of n bytes. -/
def leAt (l : List Nat) (off n : Nat) : Nat := ((l.drop off).take n).foldr (fun b a => b + 256 * a) 0

/-- Every byte of a range is 0. -/
def zeroAt (l : List Nat) (off n : Nat) : Bool := ((l.drop off).take n).all (· == 0)

/-- A directory entry (R36): type, flags, place, length, count, and where the entry itself stands. -/
structure Section where
  ty : Nat
  flags : Nat
  off : Nat
  len : Nat
  count : Nat
  at_ : Nat
  deriving DecidableEq, Repr

/-- A section entry (R471): type, kind, index, content words, byte offset. -/
structure Entry where
  ty : Nat
  kind : Nat
  idx : Nat
  words : List Nat
  off : Nat
  deriving DecidableEq, Repr

/-- A parsed image: its bytes, header fields, sections, entries in image order, and signature. -/
structure Image where
  bytes : List Nat
  kind : Nat
  gen : Nat
  base : Nat
  serial : Nat
  sections : List Section
  entries : List Entry
  slot : Nat
  key : List Nat
  r : Nat
  s : Nat
  deriving DecidableEq, Repr

/-- The most entries a section may hold (R37), all its kinds together. -/
def maxEntries (ty : Nat) : Nat :=
  match ty with
  | 1 | 7 | 0xFF => 1
  | 2 | 3 => 1024
  | 4 => 64 + 4096 + 256
  | 5 => 64 + 4096
  | 6 => 4096 + 64
  | 8 | 10 => 8192
  | 9 => 32768 + 512 + 8
  | 11 => 64 * 1098
  | 12 => 65536
  | _ => 0

/-- The index space of an entry kind and the bits that may be set in each content word (R471). -/
def entryForm (ty kind : Nat) : Option (Nat × List Nat) :=
  match ty, kind with
  | 2, 0 => some (1024, [0xFFF])
  | 3, 0 => some (1024, [0x777000])
  | 4, 0 => some (64, [0x3FFFFFF, 0, 0])
  | 4, 1 => some (4096, [0xFFFF])
  | 4, 2 => some (256, [0x7FF])
  | 5, 0 => some (64, [0x7FFF1F, 0x7FFFFFF, 0xFFFFFFFF, 0xFFF7FF, 0x1F, 0, 0])
  | 5, 1 => some (4096, [0x7FF, 0x1FFFFF, 0x3FFFFF])
  | 6, 0 => some (4096, [0xFFFFFFFF, 0x7FFFFF, 0xFFFFFFFF, 0x3FFF, 0x3FFFFFFF, 0x3FFF, 0x7FFF])
  | 6, 1 => some (64, [0x1FFF])
  | 8, 0 => some (8192, [0x3FF, 0x1FFFFF, 0x3FFFFF])
  | 9, 0 => some (32768, [0x3FFFF, 0xFFFFF, 0])
  | 9, 1 => some (512, [0xFFFFF])
  | 9, 2 => some (8, [0xF, 0xFFFFF, 0])
  | 10, 0 => some (8192, [1])
  | 12, 0 => some (65536, [3, 0x1FFFFF, 0x3FFFFF, 0x1FFFFF, 0x3FFFFF])
  | _, _ => none

/-- The single records of TOPOLOGY and HOMESET. -/
def recordForm (ty : Nat) : List Nat :=
  if ty = 1 then [0xFFF, 0xFC000001, 0xFFFFF] ++ List.replicate 13 0 ++ List.replicate 16 0x1F
  else [0xFFFFFFFF, 0xFFFFFFFF, 0xFF, 0]

/-- The content words of a gate window, and its last word: gate [10:0] and window [21:16] (R239, R249).
[DEDUCED, log entry 92] -/
def gateForm : List Nat := [0xFFFFFFFF, 0x3FFF, 0xFFFFFFFF, 0x3FFF, 0xFFFFFFFF, 0xFFFFFFFF, 0x1F]

/-- The entry kinds of a type. -/
def kindsOf (ty : Nat) : List Nat :=
  match ty with
  | 4 | 9 => [0, 1, 2]
  | 5 | 6 => [0, 1]
  | _ => [0]

/-- Only permitted bits are set. -/
def maskOk (w mask : Nat) : Bool := w &&& mask == w

/-- Words of an image. -/
def wordsAt (l : List Nat) (off n : Nat) : List Nat := (List.range n).map fun i => leAt l (off + 4 * i) 4

/-- Read one entry and its size (R471). -/
def readEntry (l : List Nat) (ty off : Nat) : Except Bad (Entry × Nat) :=
  if ty = 1 ∨ ty = 7 then
    let form := recordForm ty
    let ws := wordsAt l off form.length
    if (ws.zip form).all fun e => maskOk e.1 e.2 then .ok (⟨ty, 0, 0, ws, off⟩, 4 * form.length) else .error (rcFormat, ty, off)
  else if ty = 11 then
    let ws := wordsAt l off 7
    let last := leAt l (off + 28) 4
    if ((ws.zip gateForm).all fun e => maskOk e.1 e.2) && maskOk last 0x3F07FF && decide (last % 2048 < 1098) then
      .ok (⟨ty, 0, 64 * (last % 2048) + last / 65536, ws, off⟩, 32)
    else .error (rcFormat, ty, off)
  else
    let head := leAt l off 4
    let kind := head / 2 ^ 24
    let idx := head % 2 ^ 24
    match entryForm ty kind with
    | none => .error (rcFormat, ty, off)
    | some (n, form) =>
      let ws := wordsAt l (off + 4) form.length
      if decide (idx < n) && ((ws.zip form).all fun e => maskOk e.1 e.2)
          && !(ty == 8 && idx % 8 == 7 && (ws.getD 1 0 != 0 || ws.getD 2 0 != 0)) then
        .ok (⟨ty, kind, idx, ws, off⟩, 4 + 4 * form.length)
      else .error (rcFormat, ty, off)

/-- Read the entries of a section in strictly ascending order of kind and index, up to its end (R470). -/
def readEntries (l : List Nat) (sec : Section) : Nat → Nat → Option Nat → Except Bad (List Entry)
  | 0, off, _ => if off = sec.off + sec.len then .ok [] else .error (rcFormat, sec.ty, sec.at_ + 8)
  | n + 1, off, prev =>
    match readEntry l sec.ty off with
    | .error b => .error b
    | .ok (e, size) =>
      if sec.off + sec.len < off + size then .error (rcFormat, sec.ty, sec.at_ + 8)
      else if prev.all (fun k => decide (k < e.kind * 2 ^ 24 + e.idx)) then
        match readEntries l sec n (off + size) (some (e.kind * 2 ^ 24 + e.idx)) with
        | .error b => .error b
        | .ok r => .ok (e :: r)
      else .error (rcFormat, sec.ty, off)

/-- Read one directory entry: types ascend, the signature is last, sections stand in order without overlap inside the image, each on a 64 B
boundary, REPLACE_WHOLE only in an amendment (R36, R37). -/
def readSection (l : List Nat) (kind length i n prevType prevEnd : Nat) : Except Bad Section :=
  let a := 0x40 + 16 * i
  let s : Section := ⟨leAt l a 1, leAt l (a + 2) 2, leAt l (a + 4) 4, leAt l (a + 8) 4, leAt l (a + 12) 4, a⟩
  let bad := fun (d : Nat) => ((rcFormat, s.ty, a + d) : Bad)
  if !((decide (1 ≤ s.ty ∧ s.ty ≤ 12) || s.ty == 0xFF) && decide (prevType < s.ty) && ((s.ty == 0xFF) == (i + 1 == n))) then
    .error (bad 0)
  else if leAt l (a + 1) 1 != 1 then .error (bad 1)
  else if !(s.flags == 0 || (s.flags == 1 && kind == 2)) then .error (bad 2)
  else if s.off % 64 != 0 || decide (s.off < prevEnd) then .error (bad 4)
  else if decide (length < s.off + s.len) then .error (bad 8)
  else if decide (maxEntries s.ty < s.count) then .error (bad 12)
  else if s.ty == 0xFF && !(s.off + 256 == length && s.len == 256 && s.count == 1) then .error (bad 4)
  else .ok s

/-- Read the directory. -/
def readDirectory (l : List Nat) (kind length n : Nat) : Nat → Nat → Nat → Except Bad (List Section)
  | 0, _, _ => .ok []
  | k + 1, prevType, prevEnd =>
    match readSection l kind length (n - (k + 1)) n prevType prevEnd with
    | .error b => .error b
    | .ok s => match readDirectory l kind length n k s.ty (s.off + s.len) with
      | .error b => .error b
      | .ok r => .ok (s :: r)

/-- Read every section's entries, in image order. -/
def readSections (l : List Nat) : List Section → Except Bad (List Entry)
  | [] => .ok []
  | s :: r =>
    match (if s.ty = 0xFF then .ok [] else readEntries l s s.count s.off none) with
    | .error b => .error b
    | .ok es => match readSections l r with
      | .error b => .error b
      | .ok more => .ok (es ++ more)

/-- Step 1 of R43: the format of an image read from a buffer, for a command that takes one kind (R58).
[DEDUCED, log entry 93] -/
def parseImage (buf : Nat → Nat) (want : Nat) : Except Bad Image :=
  let head := (List.range 64).map buf
  let length := leAt head 0x10 4
  let kind := leAt head 0x14 2
  let n := leAt head 0x16 2
  let gen := leAt head 0x08 4
  let base := leAt head 0x0C 4
  let bad := fun (d : Nat) => ((rcFormat, 0, d) : Bad)
  if head.take 4 ≠ [0x51, 0x43, 0x48, 0x54] then .error (bad 0)
  else if leAt head 4 2 ≠ 1 then .error (bad 4)
  else if leAt head 6 2 ≠ 0x1024 then .error (bad 6)
  else if (kind = 1 ∧ base ≠ 0) ∨ (kind = 3 ∧ base ≠ gen) then .error (bad 0x0C)
  else if length % 64 ≠ 0 ∨ 0x2000000 < length ∨ (kind = 2 ∧ 65536 < length) then .error (bad 0x10)
  else if kind ≠ want then .error (bad 0x14)
  else if n < 1 ∨ 32 < n ∨ length < 0x40 + 16 * n + 256 then .error (bad 0x16)
  else if zeroAt head 0x28 24 = false then .error (bad 0x28)
  else
    let l := (List.range length).map buf
    match readDirectory l kind length n n 0 (0x40 + 16 * n) with
    | .error b => .error b
    | .ok secs =>
      if kind ≠ 2 ∧ secs.map (·.ty) ≠ [1, 2, 3, 4, 5, 6, 7, 8, 9, 10, 11, 12, 0xFF] then .error (bad 0x16)
      else if secs.getLast?.map (·.ty) ≠ some 0xFF then .error (bad 0x16)
      else match readSections l secs with
        | .error b => .error b
        | .ok es =>
          let g := length - 256
          let slot := leAt l g 1
          if 3 < slot then .error (rcFormat, 0xFF, g)
          else if zeroAt l (g + 1) 15 = false then .error (rcFormat, 0xFF, g + 1)
          else if leAt l (g + 0x10) 1 ≠ 4 then .error (rcFormat, 0xFF, g + 0x10)
          else if zeroAt l (g + 0x71) 15 = false then .error (rcFormat, 0xFF, g + 0x71)
          else if zeroAt l (g + 0xE0) 32 = false then .error (rcFormat, 0xFF, g + 0xE0)
          else .ok ⟨l, kind, gen, base, leAt head 0x18 4, secs, es, slot, (l.drop (g + 0x10)).take 97,
            beNat ((l.drop (g + 0x80)).take 48), beNat ((l.drop (g + 0xB0)).take 48)⟩

/-- The configuration an image describes (R470): from nothing for a full load or a rebase, from the chart in force for an amendment, whose
sections with REPLACE_WHOLE start from nothing too. -/
def Image.applyTo (i : Image) (c : Chart) : Chart :=
  let start : Chart := if i.kind = 2 then
      c.filter fun e => !(i.sections.any fun s => s.flags == 1 && s.ty == e.1 / 2 ^ 28)
    else []
  i.entries.foldl (fun c e => chartPut c e.ty e.kind e.idx e.words) start

/-- A cell that no longer leads a pleat keeps no PERSONALITIES entry: its personality is its lead cell's (R59).
[DEDUCED, log entry 94] -/
def Chart.tidy (c : Chart) : Chart := c.filter fun e => !(e.1 / 2 ^ 24 == 3 * 16 && !c.isLead (e.1 % 2 ^ 24))

/-- A 32-bit word as bytes, lowest first. -/
def le32 (w : Nat) : List Nat := [w % 256, w / 256 % 256, w / 65536 % 256, w / 16777216 % 256]

/-- One entry in the layout of R471. -/
def entryBytes (ty kind idx : Nat) (ws : List Nat) : List Nat :=
  if ty = 1 ∨ ty = 7 then (ws.map le32).flatten
  else if ty = 11 then ((ws ++ [idx / 64 + 65536 * (idx % 64)]).map le32).flatten
  else (((idx + kind * 2 ^ 24) :: ws).map le32).flatten

/-- The index space of a type's kind. -/
def indexSpace (ty kind : Nat) : Nat :=
  if ty = 1 ∨ ty = 7 then 1 else if ty = 11 then 70272 else match entryForm ty kind with | some (n, _) => n | none => 0

/-- The canonical form of a configuration (R53). -/
def Chart.canonical (c : Chart) : List Nat :=
  ((List.range 12).map fun t => le32 (t + 1) ++ ((kindsOf (t + 1)).map fun kind =>
    ((List.range (indexSpace (t + 1) kind)).map fun i => entryBytes (t + 1) kind i (chartEntry c (t + 1) kind i)).flatten).flatten).flatten

/-- CHT.EFFDIGEST (R53). -/
def Chart.effDigest (c : Chart) : List Nat := sha384 c.canonical

/-- The digest of a body that a journal entry keeps (R51): its first 48 bits. -/
def bodyDigest (body : List Nat) : List Nat := (sha384 body).take 6

/-- The indices of a type's kind at which two charts differ. -/
def chartDiff (a b : Chart) (ty kind : Nat) : List Nat :=
  ((a.listed ty kind ++ b.listed ty kind).eraseDups).filter fun i => chartEntry a ty kind i != chartEntry b ty kind i

end Sys2Proof.Machine
end

