-- ==== Sys2Proof/Machine/BindOps.lean ====
section
/-! DEFINITION. Binding's shared operations (R61, R62, R69 to R86): the choice of width, rate and framing, tacks and what drains
under them, records of bindings, slots, surprise removals, and how a bind or unbind ends. -/
namespace Sys2Proof.Machine

/-- Put a number into a list of numbers, or take it out. -/
def setIn (l : List Nat) (k : Nat) (on : Bool) : List Nat :=
  if on then (if l.contains k then l else l ++ [k]) else l.filter (· != k)

/-- The widest width that a pleat can train at and the end it starts from (R61): all lanes good and contiguous from either end; x1
only on a single cell.
[DESIGN CHOICE, log entry 90] -/
def Chart.trainWidth (c : Chart) (p good : Nat) : Option (Nat × Bool) :=
  let n := 2 * c.cells p
  let fits := fun w high => (List.range w).all fun i => good.testBit (if high then n - 1 - i else i)
  match [16, 8, 4, 2].find? fun w => decide (w ≤ n) && (fits w false || fits w true) with
  | some w => some (w, !fits w false)
  | none => if c.cells p = 1 ∧ good % 4 ≠ 0 then some (1, !good.testBit 0) else none

/-- The framings that exist at a rate (R62): 68 B flits at 8 to 32 GT/s, 256 B flits at 8 to 64 GT/s. -/
def flitExists (mode rate : Nat) : Bool := if mode = 1 then decide (2 ≤ rate ∧ rate ≤ 4) else decide (2 ≤ rate ∧ rate ≤ 5)

/-- The flit mode at a rate (R62): latency-optimised 256 B, standard 256 B, 68 B, in this order, where both sides support it and the
chart enables it; non-flit PCIe with a partner that does not negotiate CXL, up to 32 GT/s. -/
def Chart.trainFlit (c : Chart) (p rate flits : Nat) (cxl : Bool) : Option Nat :=
  match [3, 2, 1].find? fun m => flitExists m rate && flits.testBit (m - 1) && (c.flitModes p).testBit (m - 1) with
  | some m => some m
  | none => if !cxl && decide (rate ≤ 4) then some 0 else none

/-- The rate and flit mode a pleat trains at (R62): the highest shared rate up to RATE_MAX at which a framing is usable. -/
def Chart.trainRate (c : Chart) (p rates flits : Nat) (cxl : Bool) : Option (Nat × Nat) :=
  ((List.range (c.rateMax p + 1)).reverse.filterMap fun r =>
    if rates.testBit r then (c.trainFlit p r flits cxl).map fun m => (r, m) else none).head?

/-- The tacks that drain at a binding point, oldest first (R79, R90). -/
def State.draining (s : State) (pt : Nat) : List Nat :=
  let p := pointLead pt
  match pointLd pt with
  | none => [s.get (F.celTackDrain1 p), s.get (F.celTackDrain2 p), s.get (F.celTackDrain3 p)].take (s.get (F.celTackstatDraining p))
  | some k => [s.get (F.celLdtackDrain1 p k), s.get (F.celLdtackDrain2 p k), s.get (F.celLdtackDrain3 p k)].take
      (s.get (F.celLdtackDraining p k))

/-- The current tack and the draining tacks of a binding point with the times these stopped being current. -/
def State.setTacks (s : State) (pt cur : Nat) (l : List (Nat × Nat)) : State :=
  let p := pointLead pt
  let d := fun i => ((l[i]?).map (·.1)).getD 0
  let s1 := s.modBnd fun u => { u with
    drains := if l = [] then SMap.del u.drains pt else SMap.put u.drains pt (l.map (·.2)) }
  match pointLd pt with
  | none => s1.setAll [(F.celTackCurrent p, cur), (F.celTackDrain1 p, d 0), (F.celTackDrain2 p, d 1), (F.celTackDrain3 p, d 2),
      (F.celTackstatDraining p, l.length)]
  | some k => s1.setAll [(F.celLdbindTack p k, cur), (F.celLdtackDrain1 p k, d 0), (F.celLdtackDrain2 p k, d 1),
      (F.celLdtackDrain3 p k, d 2), (F.celLdtackDraining p k, l.length)]

/-- The draining tacks with their times. -/
def State.drainTimes (s : State) (pt : Nat) : List (Nat × Nat) := (s.draining pt).zip (SMap.getD s.bnd.drains pt [])

/-- The next tack (R79): one more modulo 256, skipping any value that still drains. -/
def State.nextTack (s : State) (pt : Nat) : Nat :=
  (((List.range 4).map fun i => (s.tack pt + 1 + i) % 256).find? fun v => !(s.draining pt).contains v).getD 0

/-- A binding point's tack can advance: fewer than three tacks drain (R79). -/
def State.canAdvance (s : State) (pt : Nat) : Bool := decide ((s.draining pt).length < 3)

/-- A tack advances by one step (R78, R79); a request stamped in the same CK_CORE cycle carries the new tack (R86). -/
def State.advanceTack (s : State) (pt : Nat) : State :=
  let stamp (m : Msg) : Msg := if m.point = pt ∧ atCycle m.arrived = atCycle s.now ∧ isResponse m.kind = false then
    { m with tack := s.nextTack pt } else m
  (s.setTacks pt (s.nextTack pt) (s.drainTimes pt ++ [(s.tack pt, s.now)])).modCore fun u => { u with
    staged := u.staged.map stamp, bolt := u.bolt.map stamp }

/-- STALL of a binding point (R79). -/
def stallFld (pt : Nat) : Fld :=
  match pointLd pt with
  | none => F.celTackstatStall (pointLead pt)
  | some k => F.celLdtackStall (pointLead pt) k

/-- An advance that waits without limit (R79): made at once when a slot is free, otherwise STALL is set; one that comes while another stalls
is owed beside it (R78). -/
def State.mustAdvance (s : State) (pt : Nat) : State :=
  if s.flag (stallFld pt) then s.modBnd fun u => { u with owed := SMap.put u.owed pt (SMap.getD u.owed pt 0 + 1) }
  else if s.canAdvance pt then s.advanceTack pt
  else s.set (stallFld pt) 1

/-- The outstanding count under a tack (R80): messages held in staging, bolt memory, and home trackers, and delivered requests and snoops
whose response has not returned.
[DEDUCED, log entry 55] -/
def State.outstanding (s : State) (pt tack : Nat) : Nat :=
  (s.heldMsgs.filter fun m => m.point == pt && m.tack == tack).length
    + (s.core.records.filter fun r => r.point == pt && r.tack == tack).length
    + (s.home.shadows.filter fun x => x.point == pt && x.tack == tack).length
    + sumOf (s.home.snoops.map fun x => (x.agents.filter fun a =>
        s.chart.agentPoint a == pt && SMap.getD x.tacks a 0 == tack).length)

/-- The binding points of a pleat: itself, and each logical device it offers (R77). -/
def State.pointsOf (s : State) (p : Nat) : List Nat :=
  pointOf p none :: (List.range (s.get (F.celBindLdCount p))).map fun k => pointOf p (some k)

/-- Record a binding, or its absence, in CEL.BIND or CEL.LDBIND (R73, R74, R89). -/
def State.recordBinding (s : State) (pt bound v i : Nat) : State :=
  let p := pointLead pt
  match pointLd pt with
  | none => s.setAll [(F.celBindBound p, bound), (F.celBindVcs p, v), (F.celBindVppb p, i)]
  | some k => s.setAll [(F.celLdbindBound p k, bound), (F.celLdbindVcs p k, v), (F.celLdbindVppb p k, i)]

/-- What a vPPB's Power Controller says of the pleat it is bound to (R76): Off holds its link in reset and asserts PERST, On releases
both. -/
def State.holdUpdate (s : State) (p : Nat) : State :=
  let off := (s.boundVppbs p).any fun b => s.bnd.slotsOff.contains (256 * b.1 + b.2)
  if off == s.lnk.slotOff.contains p then s
  else if off then ((s.modLnk fun u => { u with slotOff := u.slotOff ++ [p] }).fullReset p 0xD)
  else (s.modLnk fun u => { u with slotOff := u.slotOff.filter (· != p) }).startTraining p

/-- A slot's power controller is switched (R76).
[DESIGN CHOICE, log entry 88] -/
def State.slotPower (s : State) (k : Nat) (on : Bool) : State :=
  let s1 := s.modBnd fun u => { u with slotsOff := setIn u.slotsOff k (!on) }
  match s.vppbPoint (k / 256) (k % 256) with
  | some pt => s1.holdUpdate (pointLead pt)
  | none => s1

/-- A surprise removal of a pleat (R84), after SURPRISE: the tacks of the pleat and its logical devices advance, its traffic is flushed,
its link is down and its bound vPPBs show it. -/
def State.removePleat (s : State) (p : Nat) : State :=
  let s1 := ((s.pointsOf p).foldl (fun s pt => s.mustAdvance pt) s).fullReset p 0xB
  let s2 := if s1.get (F.fnlLinkstatState p) = 4 then s1 else s1.set (F.fnlLinkstatState p) 0
  (s2.boundVppbs p).foldl (fun s b => s.slotEvent b.1 b.2 true true false) s2

/-- A surprise removal falls between two commands (R86): it waits while a bind or unbind advances its tack or an amendment is applied;
it ends the wait of an unbind of the same pleat, which goes on as option 2.
[DEDUCED, log entry 87] -/
def State.surprise (s : State) (p : Nat) : State :=
  match s.bnd.work with
  | some w =>
    if w.waiting then
      (if pointLead w.point = p then s.modBnd fun u => { u with work := some { w with waiting := false, option := 2, since := s.now } }
        else s).removePleat p
    else s.modBnd fun u => { u with removals := u.removals ++ [p] }
  | none => if s.get F.chtStatusState = 4 then s.modBnd fun u => { u with removals := u.removals ++ [p] } else s.removePleat p

/-- The surprise removals that waited for a command happen (R86).
[DEDUCED, log entry 87] -/
def State.serveRemovals (s : State) : State :=
  s.bnd.removals.foldl (fun s p => s.removePleat p) (s.modBnd fun u => { u with removals := [] })

/-- The COLLISION bits follow what the neighbours advertise (R71): an ID held locally that any of them advertises collides.
[DESIGN CHOICE, log entry 89] -/
def State.showCollisions (s : State) (ids : List Nat) : State :=
  ids.foldl (fun s i => s.setFlag (F.hubPbrCollision i)
    (s.chart.pbrValid i && s.chart.pbrLocal i && s.bnd.advs.any fun e => e.2.contains i)) s

/-- What neighbours advertised is forgotten with their links (R71): IDs that only they duplicated collide no more. -/
def State.dropAdvs (s : State) (f : Nat → Bool) : State :=
  let gone := s.bnd.advs.filter fun e => f e.1
  if gone.isEmpty then s
  else (s.modBnd fun u => { u with advs := u.advs.filter fun e => !f e.1 }).showCollisions (gone.flatMap (·.2)).eraseDups

/-- A chart operation is under way (R49): STATE is neither IDLE nor QUIESCED. -/
def State.chartBusy (s : State) : Bool := s.get F.chtStatusState != 0 && s.get F.chtStatusState != 6

/-- A command's turn has come (R49, R86): no bind, unbind or chart operation is under way. -/
def State.turnFree (s : State) : Bool := s.bnd.work.isNone && !s.chartBusy

/-- A bind or unbind takes its turn in order of arrival (R49, R75, R86): SAFE in the safe state; RETRY while its session's own background
command runs; behind another command or operation it waits.
[DESIGN CHOICE, log entry 82] -/
def State.takeTurn (s : State) (src : Sess) (w : Waiting) (act : State → State) : State :=
  if s.safeOn then s.respond src .internalError stSafe 0 []
  else if s.bgBusy (sessNum src) then s.respond src .busy stRetry 0 []
  else if s.turnFree && s.bnd.waits.isEmpty then act s
  else s.modBnd fun u => { u with waits := u.waits ++ [w] }

/-- The checks of R73 step 1, on a lead cell and an LD-ID: the binding point, where the bind may go on. -/
def State.bindPoint (s : State) (v i p ld : Nat) : Option Nat :=
  let pt := if s.flag (F.celBindMld p) then (if ld < s.get (F.celBindLdCount p) then some (pointOf p (some ld)) else none)
    else if ld = 0xFFFF then some (pointOf p none) else none
  match pt with
  | none => none
  | some pt =>
    if v < 64 && s.chart.vsValid v && decide (i < s.chart.vsPpbs v) && s.chart.isLead p && s.chart.isDsp p && !s.pointBound pt
      && (s.vppbPoint v i).isNone then some pt else none

/-- Bind vPPB (R73): the checks, Background Command Started, and an advance of the binding point's tack is due. -/
def bindNow (src : Sess) (who : Principal) (opcode v i : Nat) (lead : Option Nat) (ld : Nat) (s : State) : State :=
    match lead.bind fun p => s.bindPoint v i p ld with
    | none => s.respond src .invalidInput stDenied 0 []
    | some pt => s.startBg src who opcode 0 fun s => s.modBnd fun u => { u with
        work := some ⟨true, pt, v, i, sessNum src, opcode, 0, s.now, false⟩ }

/-- Unbind vPPB (R74): of a binding point found bound, by the option named; the attention button is pressed under option 1, and a wait
begins under options 0 and 1. -/
def unbindNow (src : Sess) (who : Principal) (opcode option : Nat) (pt : Option Nat) (s : State) : State :=
    match pt with
    | none => s.respond src .invalidInput stDenied 0 []
    | some pt =>
      if 2 < option then s.respond src .invalidInput stDenied 0 []
      else s.startBg src who opcode 0 fun s =>
        let s1 := if option = 1 then s.slotEvent (s.pointVcs pt) (s.pointVppb pt) false false true else s
        s1.modBnd fun u => { u with work := some ⟨false, pt, s.pointVcs pt, s.pointVppb pt, sessNum src, opcode, option, s.now,
          option == 1 || (option == 0 && s.flag (F.celLinkstatUp (pointLead pt)))⟩ }

/-- Unbind Pleat (R72): the binding point is named by its lead cell and LD-ID.
[DESIGN CHOICE, log entry 85] -/
def State.namedPoint (s : State) (p ld : Nat) : Option Nat :=
  let pt := if ld = 0xFFFF then pointOf p none else pointOf p (some (ld % 16))
  if s.chart.isDsp p && (ld == 0xFFFF || decide (ld < 16)) && s.pointBound pt then some pt else none

/-- A chart command that does not start (R49, R57): its result, with nothing else touched.
[DESIGN CHOICE, log entry 82] -/
def State.chartTurnedAway (s : State) (code : Nat) : State :=
  s.setAll [(F.chtResultCode, code), (F.chtResultSection, 0), (F.chtErrlocOffset, 0), (F.chtResultDone, 1)]

/-- LOAD, AMEND, REBASE or QUIESCE arrives (R43, R45, R49): refused in the safe state or while another operation is under way; otherwise it
begins, behind the binds and unbinds that came before it.
[DESIGN CHOICE, log entry 82] -/
def State.startChart (s : State) (kind : ChartKind) (via asker : Option Nat) : State × Nat :=
  if s.safeOn then (s.chartTurnedAway rcSafeState, stDenied)
  else if s.chartBusy then (s.chartTurnedAway 1, stRetry)
  else if s.bnd.work.isSome || !s.bnd.waits.isEmpty then (s.modBnd fun u => { u with waits := u.waits ++ [.chart kind via asker] }, stOk)
  else ((s.set F.chtStatusState (if kind = .quiesce then 5 else 1)).modChtu fun u => { u with
    op := some ⟨kind, 0, [], [], via, asker, [], [], 0, 0, s.now⟩
    quiesceStart := if kind = .quiesce then s.now else u.quiesceStart }, stOk)

/-- The session of a waiting command is still the one that sent it (R437). -/
def State.sameSession (s : State) (src : Sess) (who : Principal) : Bool := s.principal src == some who

/-- A command that has waited is served (R86); one whose session has ended is not. -/
def State.serve (s : State) : Waiting → State
  | .bind src who opcode v i lead ld =>
    if s.sameSession src who then (if s.safeOn then s.respond src .internalError stSafe 0 [] else bindNow src who opcode v i lead ld s) else s
  | .unbindVppb src who v i option =>
    if s.sameSession src who then
      (if s.safeOn then s.respond src .internalError stSafe 0 [] else unbindNow src who 0x5202 option (s.vppbPoint v i) s) else s
  | .unbindPleat src who p ld option =>
    if s.sameSession src who then
      (if s.safeOn then s.respond src .internalError stSafe 0 [] else unbindNow src who 0xC102 option (s.namedPoint p ld) s) else s
  | .chart kind via asker =>
    let r := s.startChart kind via asker
    match asker with
    | some n => if r.2 = stOk then r.1 else r.1.endBg n 0xC040 (cciOf r.2) r.2 (r.1.get F.chtResultCode)
    | none => r.1

/-- The commands that wait are served in order of arrival as their turns come (R49, R86). -/
def State.serveList : List Waiting → State → State
  | [], s => s
  | w :: r, s => if s.turnFree then State.serveList r (s.serve w) else s.modBnd fun u => { u with waits := w :: r }

def State.serveWaiting (s : State) : State :=
  match s.bnd.waits with
  | [] => s
  | l => State.serveList l (s.modBnd fun u => { u with waits := [] })

/-- A bind or unbind ends (R73 to R75, R86): its background command completes, Power Controller writes that waited take effect, then
surprise removals, then the commands that wait for their turn. -/
def State.endBind (s : State) (w : BindWork) (code : Cci) (status : Nat) : State :=
  let s1 := (s.modBnd fun u => { u with work := none, powerLater := [] }).endBg w.sess w.opcode code status 0
  ((s.bnd.powerLater.foldl (fun s e => s.slotPower e.1 e.2) s1).serveRemovals).serveWaiting

/-- The tack of a bind or unbind has advanced: the binding is recorded or cleared, the vPPB shows it, and the command completes with
Success (R73, R74). -/
def State.finishBind (s : State) (w : BindWork) : State :=
  let p := pointLead w.point
  let s1 := (s.advanceTack w.point).recordBinding w.point (if w.bind then 1 else 0) (if w.bind then w.vcs else 0)
    (if w.bind then w.vppb else 0)
  ((s1.holdUpdate p).slotEvent w.vcs w.vppb true (s.flag (F.celLinkstatUp p)) false).endBind w .success stOk

/-- What a quarter's presence input reports (R392): its latched level while the pads are held. -/
def State.quarterSeated (s : State) (q : Nat) : Bool :=
  if s.flag F.rstPadrelHeld then SMap.getD s.nv.padLatch (256 + q) 0 == 1 else s.bnd.quarters.contains q

/-- The presence of a pleat (R82): every quarter that holds one of its cells reports presence.
[DESIGN CHOICE, log entry 86] -/
def State.seated (s : State) (p : Nat) : Bool := (s.chart.pleat p).all fun c => s.quarterSeated (c / 4)

/-- Its undebounced presence (R91): every quarter that holds one of its cells reports a cable end now.
[DESIGN CHOICE, log entry 86] -/
def State.rawSeated (s : State) (p : Nat) : Bool := (s.chart.pleat p).all fun c => s.bnd.raw.contains (c / 4)

/-- A host holds PERST_L low at a quarter whose direction a USP pleat decides, by its cell 16n + 4k (R85). -/
def State.perstLow (s : State) (p : Nat) : Bool := s.bnd.lows.any fun q => s.chart.lead (4 * q) == p

end Sys2Proof.Machine
end

