-- ==== Sys2Proof/Machine/ChartCheck.lean ====
section
/-! DEFINITION. The checks of a chart image after its format (R39, R42 to R44, R47, R470): key and signature, generation, scope and
prerequisites, consistency, resources. Each check names the entries it relates, and the failing offset is that of the last of them in
image order. -/
namespace Sys2Proof.Machine

/-- Where the last of some entries stands in an image: its section and offset, or none where the image lists none of them.
[DEDUCED, log entry 95] -/
def Image.whereLast (i : Image) (keys : List (Nat × Nat × Nat)) : Nat × Nat :=
  i.entries.foldl (fun a e => if keys.contains (e.ty, e.kind, e.idx) then (e.ty, e.off) else a) (0, 0)

/-- A rule over some entries. -/
structure Rule where
  ok : Bool
  code : Nat
  keys : List (Nat × Nat × Nat)
  deriving DecidableEq, Repr

/-- The first rule that an image breaks. -/
def Image.judge (i : Image) (rules : List Rule) : Except Bad Unit :=
  match rules.find? fun r => !r.ok with
  | none => .ok ()
  | some r => .error (r.code, (i.whereLast r.keys).1, (i.whereLast r.keys).2)

/-- Step 2 (R39): the key slot, its digest, the signature, the module serial.
[DEDUCED, log entry 95] -/
def State.checkKey (s : State) (i : Image) : Except Bad Unit :=
  let g := i.bytes.length - 256
  if (s.get F.chtKeyslotRevoked).testBit i.slot then .error (rcKeyRevoked, 0xFF, g)
  else if !(s.get F.chtKeyslotProgrammed).testBit i.slot || SMap.getD s.nv.chartKeys i.slot [] != sha384 i.key then
    .error (rcSignature, 0xFF, g + 0x10)
  else if !ecdsaVerify (sha384 (i.bytes.take g)) i.key i.r i.s then .error (rcSignature, 0xFF, g + 0x80)
  else if i.serial ≠ 0 ∧ i.serial ≠ s.get F.mgtSerialLo then .error (rcWrongModule, 0, 0x18)
  else .ok ()

/-- The effective generation (R42): 0 under the null chart.
[DEDUCED, log entry 133] -/
def State.effGen (s : State) : Nat := if s.flag F.chtStatusNullChart then 0 else s.nv.gen

/-- Step 3 (R42). -/
def State.checkGeneration (s : State) (i : Image) : Except Bad Unit :=
  let live := !s.flag F.chtStatusNullChart
  let ok := if i.kind = 1 then decide (s.nv.floor < i.gen)
    else if i.kind = 2 then live && i.base == s.nv.gen && i.gen == s.nv.gen + 1 && decide (s.nv.gen < 2 ^ 32 - 1)
    else live && i.gen == s.nv.gen && i.base == s.nv.gen
  ensure ok (rcGeneration, 0, 8)

/-- The personality of the pleat a cell belongs to, as CEL.PERSONA shows it. -/
def layoutOf (c : Chart) (p : Nat) : Nat × Nat := (c.lead p, c.widthCode p)

/-- The cells that an amendment resets (R47, R81): those of the old and new pleats of every cell whose layout changes, and of every pleat
whose personality changes. -/
def resetCells (a b : Chart) : List Nat :=
  let cells := (chartDiff a b 2 0 ++ (chartDiff a b 3 0).flatMap fun p => a.pleat p ++ b.pleat p).eraseDups
  (((cells.filter fun p => layoutOf a p != layoutOf b p || a.personality p != b.personality p).flatMap fun p =>
    a.pleat p ++ b.pleat p).eraseDups)

/-- The entries of directory lines not in I within a window, poisoned ones included, and slots it has in unknown mode (R44, R47, R199).
[DEDUCED, log entry 147] -/
def State.windowLive (s : State) (c : Chart) (w : Nat) : Bool :=
  (s.home.dir.any fun e => decide (c.winStart w ≤ e.1 ∧ e.1 ≤ c.winEnd w))
    || someSlot (c.winStart w) (c.winEnd w) fun v => s.flag (F.hubHomemapUnknown v)

/-- Live objects of a berth (R225). -/
def State.liveObjects (s : State) (k : Nat) : Nat := (s.lod.objects.filter fun e => e.2.berth == k).length

/-- The prerequisites of an amendment's changes (R47). What a removed berth still has is judged on the configuration the amendment would give,
so that a berth and its last window or USP may go together.
[DESIGN CHOICE, log entry 148] -/
def State.prerequisites (s : State) (b : Chart) (via : Option Nat) : List Rule :=
  let a := s.chart
  let bound := fun (p : Nat) => !(s.boundVppbs (a.lead p)).isEmpty
  let keysOf := fun (p : Nat) => [(2, 0, p), (3, 0, a.lead p), (3, 0, b.lead p)]
  let mine := fun (p : Nat) => via.any fun q => a.lead p == q || b.lead p == q
  ((resetCells a b).map fun p => Rule.mk (!bound p) rcInUse (keysOf p)) ++
  ((chartDiff a b 3 0).map fun p => Rule.mk (!((a.pleat p ++ b.pleat p).any fun c => a.personality c != b.personality c && mine c))
    rcSelfCut [(3, 0, p)]) ++
  ((chartDiff a b 3 0).map fun p => Rule.mk (!(a.personality p == b.personality p && a.fmPort p && !b.fmPort p && mine p))
    rcSelfCut [(3, 0, p)]) ++
  ((chartDiff a b 4 0).map fun v =>
    let n := if b.vsValid v then b.vsPpbs v else 0
    Rule.mk (!((List.range (a.vsPpbs v)).any fun i => a.vsValid v && decide (n ≤ i) && (s.vppbPoint v i).isSome)) rcInUse [(4, 0, v)]) ++
  ((chartDiff a b 5 0).map fun k =>
    Rule.mk (!(a.berthValid k && !b.berthValid k && (((List.range 64).any fun v => b.vsValid v && b.vsBerth v == k)
      || ((b.listed 6 0).any fun w => b.winValid w && b.winBerth w == k) || decide (0 < s.liveObjects k)))) rcInUse [(5, 0, k)]) ++
  ((chartDiff a b 6 0).map fun w =>
    let same := b.winValid w && a.winShared w == b.winShared w && a.winCompat w == b.winCompat w && a.winStart w == b.winStart w
      && a.winEnd w == b.winEnd w && a.winWord w 6 == b.winWord w 6
    Rule.mk (!(a.winValid w && a.winShared w && !same && s.windowLive a w)) rcDirectory [(6, 0, w)])

/-- Step 4 (R37, R44, R47, R53): sections only a full load carries, a full load's quiesce and empty directory, a rebase's digest, an
amendment's prerequisites and the room in the journal and its log (R51). A poisoned entry counts as one not in I, as LIVE counts it (R199); a
slot in unknown mode does not, since a full load ends that mode (R195).
[DEDUCED, log entries 95, 147] -/
def State.checkScope (s : State) (i : Image) (next : Chart) (via : Option Nat) : Except Bad Unit :=
  if i.kind = 1 then
    if s.flag F.chtStatusNullChart then .ok ()
    else if s.chtu.quiesced = false then .error (rcNotQuiesced, 0, 0)
    else if (s.home.dir.any fun e => (s.chart.sharedWindow e.1).isSome) = true then .error (rcDirectory, 0, 0)
    else .ok ()
  else if i.kind = 3 then ensure (next.effDigest == s.chart.effDigest) (rcRebaseMismatch, 0, 0)
  else match i.sections.find? fun x => x.ty == 1 || x.ty == 7 with
    | some x => .error (rcScope, x.ty, x.at_)
    | none => match i.judge (s.prerequisites next via) with
      | .error b => .error b
      | .ok _ => ensure (decide (s.nv.journal.length < 4096 ∧ s.nv.log.length + i.bytes.length ≤ 2 ^ 28)) (rcJournalFull, 0, 0)

/-- The raw rate of a pleat at its nominal width and RATE_MAX, in Mbit/s (R43). -/
def Chart.nominalRate (c : Chart) (p : Nat) : Nat := 2 * c.cells p * laneRate (c.isFnl p) (c.rateMax p)

/-- The fields of one entry lie in the values and ranges the manual defines for them (R470). -/
def entryRules (c : Chart) (e : Entry) : List Rule :=
  let w := fun n => e.words.getD n 0
  let rule := fun (ok : Bool) => Rule.mk ok rcConsistency [(e.ty, e.kind, e.idx)]
  if e.ty = 3 then [rule (c.isLead e.idx), rule (decide (bitsOf (w 0) 16 3 ≤ (if bitsOf (w 0) 12 2 = 3 then 1 else 5))),
    rule (bitsOf (w 0) 14 1 == 0 || bitsOf (w 0) 12 2 == 1)]
  else if e.ty = 5 ∧ e.kind = 0 then [rule (bitsOf (w 0) 4 1 == 0 || bitsOf (w 0) 0 4 != 0),
    rule ([8, 11, 14, 17, 20].all fun b => decide (bitsOf (w 0) b 3 ≤ 5)), rule (decide (w 1 ≤ 67108864)),
    rule (decide (bitsOf (w 3) 0 11 ≤ 1984)), rule (decide (1 ≤ bitsOf (w 3) 12 12)), rule (decide (w 4 ≤ 16))]
  else if e.ty = 5 then [rule (decide (w 1 ≤ 1792000)), rule (decide (w 2 ≤ 2097152))]
  else if e.ty = 6 ∧ e.kind = 0 then [rule (decide (w 4 ≤ 536870912)), rule (decide (1 ≤ w 5 ∧ w 5 ≤ 10000)),
    rule (bitsOf (w 6) 14 1 == 0 || bitsOf (w 6) 10 4 != c.moduleId
      || (c.isLead (bitsOf (w 6) 0 10) && (c.isDsp (bitsOf (w 6) 0 10) || c.isFnl (bitsOf (w 6) 0 10))))]
  else if e.ty = 6 then [rule (bitsOf (w 0) 12 1 == 0 || (c.pbrValid (bitsOf (w 0) 0 12)
      && (!c.pbrLocal (bitsOf (w 0) 0 12) || c.isUsp (c.pbrCell (bitsOf (w 0) 0 12)))))]
  else if e.ty = 8 then
    let d := bitsOf (w 0) 0 2
    [rule (d == 0 || (if e.idx % 8 ≤ 4 then d == 2 && bitsOf (w 0) 2 8 != 0 else d == 1 && bitsOf (w 0) 2 8 == 0)),
     rule (decide (w 1 ≤ 1792000 ∧ w 2 ≤ 2097152)), rule (e.idx % 8 != 6 || w 1 != 0), rule (e.idx % 8 != 5 || d == 0 || w 1 != 0),
     rule (e.idx % 8 != 7 || (w 1 == 0 && w 2 == 0))]
  else if e.ty = 9 ∧ e.kind = 2 then [rule (decide (w 0 ≤ 9))]
  else if e.ty = 11 then [rule (bitsOf (w 6) 0 1 == 0 ||
      decide (w 0 + bitsOf (w 1) 0 14 * 2 ^ 32 ≤ w 2 + bitsOf (w 3) 0 14 * 2 ^ 32))]
  else if e.ty = 12 then [rule (w 0 == 0 || (decide (w 0 ≤ 2) && decide (1 ≤ w 1 ∧ w 1 ≤ 1792000)
      && (if w 0 == 1 then w 3 == 0 else decide (w 1 ≤ w 3 ∧ w 3 ≤ 1792000)) && decide (4160 ≤ w 2 ∧ w 2 ≤ 2097152)
      && decide (4160 ≤ w 4 ∧ w 4 ≤ 2097152)))]
  else []

/-- A cell's pleat is 1, 2, 4 or 8 cells, naturally aligned, and every cell of it says so (R43, R60). -/
def Chart.pleatOk (c : Chart) (p : Nat) : Bool :=
  let q := c.lead p
  let n := c.cells p
  q % n == 0 && decide (q ≤ p ∧ p < q + n) && (List.range n).all fun i => c.lead (q + i) == q && c.widthCode (q + i) == c.widthCode p

/-- Lead cells of pleats that are not OFF. -/
def Chart.livePleats (c : Chart) : List Nat := ((c.listed 3 0).filter c.isLead).filter fun p => !c.isOff p

/-- The selector of a hem entry (R103). -/
def Chart.hemSelector (c : Chart) (g i : Nat) : Nat × Nat × Bool × Nat :=
  (c.hemPleat g i, c.hemClass g i, c.hemAny g i, if c.hemAny g i then 0 else c.hemBerth g i)

/-- The USPs of a berth (R67). -/
def Chart.berthUsps (c : Chart) (k : Nat) : List Nat :=
  (List.range 64).filterMap fun v => if c.vsValid v && c.vsBerth v == k then some (c.vsUsp v) else none

/-- The USP is on the agent list (R161).
[DEDUCED, log entry 96] -/
def Chart.listedUsp (c : Chart) (p : Nat) : Bool :=
  (List.range 64).any fun a => c.agentValid a && c.pbrValid (c.agentPort a) && c.pbrLocal (c.agentPort a) && c.pbrCell (c.agentPort a) == p

/-- The rules that relate entries (R43, R59, R67, R103, R129, R161, R218).
[DEDUCED, log entry 96] -/
def Chart.relations (c : Chart) : List Rule :=
  let rule := fun (ok : Bool) (keys : List (Nat × Nat × Nat)) => Rule.mk ok rcConsistency keys
  let wins := (c.listed 6 0).filter c.winValid
  let gates := c.listed 11 0
  ((List.range 1024).map fun p => rule (c.pleatOk p) (((p :: c.pleat p).map fun q => (2, 0, q)))) ++
  ((List.range 64).map fun v => rule (!c.vsValid v || (c.isLead (c.vsUsp v) && c.isUsp (c.vsUsp v))) [(4, 0, v), (3, 0, c.vsUsp v)]) ++
  ((List.range 64).map fun v => rule (!c.vsValid v || (List.range v).all fun u => !(c.vsValid u && c.vsUsp u == c.vsUsp v))
    (((List.range 64).filter fun u => c.vsValid u && c.vsUsp u == c.vsUsp v).map fun u => (4, 0, u))) ++
  ((c.listed 4 1).map fun i => rule (!(c.pbrValid i && c.pbrLocal i) || (c.isLead (c.pbrCell i)
    && (c.isUsp (c.pbrCell i) || c.isDsp (c.pbrCell i)))) [(4, 1, i), (3, 0, c.pbrCell i)]) ++
  ((c.listed 4 2).map fun n => rule (match c.dirCell n with
    | some p => c.isLead p && (c.isUsp p || c.isDsp p)
    | none => true) [(4, 2, n), (3, 0, (c.dirCell n).getD 0)]) ++
  ((wins.filter c.winShared).map fun w =>
    let clash := (wins.filter c.winShared).filter fun x => x != w && !decide (c.winEnd x < c.winStart w ∨ c.winEnd w < c.winStart x)
    rule clash.isEmpty ((w :: clash).map fun x => (6, 0, x))) ++
  ((List.range 64).map fun v => rule (!c.vsValid v || c.berthValid (c.vsBerth v)) [(4, 0, v), (5, 0, c.vsBerth v)]) ++
  (wins.map fun w => rule (c.berthValid (c.winBerth w)) [(6, 0, w), (5, 0, c.winBerth w)]) ++
  ((List.range 64).map fun k =>
    let clash := (List.range 64).filter fun j => j != k && !decide (c.grpLast k < c.grpFirst k ∨ c.grpLast j < c.grpFirst j
      ∨ c.grpLast k < c.grpFirst j ∨ c.grpLast j < c.grpFirst k)
    rule clash.isEmpty ((k :: clash).map fun j => (5, 0, j))) ++
  (gates.map fun n =>
    let none_ := (List.range 64).filter fun k => (c.gateMask (n / 64) (n % 64)).testBit k && !c.berthValid k
    rule none_.isEmpty ((11, 0, n) :: none_.map fun k => (5, 0, k))) ++
  ((gates.filter fun n => decide (0x400 ≤ n / 64 ∧ n / 64 < 0x448)).map fun n =>
    let g := n / 64
    let i := n % 64
    rule (!(c.gateEn g i && (c.gatePerm g i).testBit 3 && wins.any fun w => c.winShared w
        && decide (c.winStart w ≤ c.gateEnd g i ∧ c.gateStart g i ≤ c.winEnd w))
      || (List.range 64).all fun k => !(c.gateMask g i).testBit k || (c.berthUsps k).all c.listedUsp)
      ((11, 0, n) :: (List.range 64).map fun a => (6, 1, a))) ++
  (c.livePleats.flatMap fun p => [5, 6].map fun t =>
    rule (decide (c.shaperRate p t ≤ c.nominalRate p)) [(8, 0, 8 * p + t), (3, 0, p), (2, 0, p)]) ++
  (((c.listed 8 0).filter fun n => (n % 8 == 5 || n % 8 == 6) && c.isOff (n / 8)).map fun n =>
    rule (decide (c.shaperRate (n / 8) (n % 8) ≤ c.nominalRate (n / 8))) [(8, 0, n), (3, 0, n / 8), (2, 0, n / 8)]) ++
  (c.livePleats.flatMap fun p => [0, 6, 7].map fun t => rule (c.classDisc p t != 0) [(8, 0, 8 * p + t), (3, 0, p)]) ++
  (c.livePleats.flatMap fun p => [5, 6].map fun t => rule (c.classDisc p t == 0 || c.shaperRate p t != 0) [(8, 0, 8 * p + t), (3, 0, p)]) ++
  ((List.range 8).flatMap fun g =>
    let es := (c.hems g).filter (c.hemValid g)
    es.map fun i =>
      let same := es.filter fun j => j != i && c.hemSelector g j == c.hemSelector g i
      rule same.isEmpty ((i :: same).map fun j => (9, 0, 4096 * g + j))) ++
  (c.livePleats.flatMap fun p => (List.range 8).map fun t => rule (c.classDisc p t == 0 || ((c.hemOf p t none).any fun i =>
    decide (64 ≤ c.hemSize (p / 128) i))) [(8, 0, 8 * p + t), (3, 0, p)])

/-- The resource limits (R43, R138, R163). A vPPB count above 256 is refused with RESOURCE, as the table of R43 lists it, though it is also a
field outside its range (R470).
[DESIGN CHOICE, log entry 149] -/
def State.resources (s : State) (c : Chart) : List Rule :=
  let rule := fun (ok : Bool) (keys : List (Nat × Nat × Nat)) => Rule.mk ok rcResource keys
  ((List.range 64).map fun v => rule (decide (c.vsPpbs v ≤ 256)) [(4, 0, v)]) ++
  ((List.range 8).map fun g =>
    let es := (c.hems g).filter (c.hemValid g)
    rule (decide (sumOf (es.map (c.hemSize g)) ≤ s.get (F.rgnBoltcapCapacity g))) (es.map fun i => (9, 0, 4096 * g + i))) ++
  [rule (decide (sumOf ((List.range 64).map c.objQuota) ≤ 67108864)) ((List.range 64).map fun k => (5, 0, k)),
   rule (decide (sumOf (((c.listed 6 0).filter c.winValid).map c.winBudget) ≤ 536870912)) ((c.listed 6 0).map fun w => (6, 0, w)),
   rule (decide (1 ≤ c.homeSet.length ∧ c.homeSet.length ≤ 64)) [(7, 0, 0)],
   rule (c.homeSet.all fun n => s.get (F.homRole n) != 2) [(7, 0, 0)],
   rule ((List.range 8).all fun g => !(c.attached.testBit g && s.seam.out.contains g)) [(1, 0, 0)]] ++
  (((c.listed 5 1).map fun n => bitsOf (chartWord c 5 1 n 0) 0 10).eraseDups.map fun o =>
    rule (decide ((c.egress o).length ≤ 8)) (((c.listed 5 1).filter fun n => bitsOf (chartWord c 5 1 n 0) 0 10 = o).map fun n => (5, 1, n))) ++
  ((List.range 64).map fun k => Rule.mk (decide (s.liveObjects k ≤ c.objQuota k)) rcQuotaBelowUse [(5, 0, k)])

/-- Steps 2 to 6 of R43 on an image whose format is right, with the configuration it would produce. -/
def State.checkImage (s : State) (i : Image) (via : Option Nat) : Except Bad Chart :=
  let next := (i.applyTo s.chart).tidy
  match s.checkKey i with
  | .error b => .error b
  | .ok _ => match s.checkGeneration i with
    | .error b => .error b
    | .ok _ => match s.checkScope i next via with
      | .error b => .error b
      | .ok _ => match i.judge (i.entries.flatMap (entryRules (i.applyTo s.chart))) with
        | .error b => .error b
        | .ok _ => match i.judge next.relations with
          | .error b => .error b
          | .ok _ => match i.judge (s.resources next) with
            | .error b => .error b
            | .ok _ => .ok next

end Sys2Proof.Machine
end

