-- ==== Sys2Proof/Machine/Clock.lean ====
section
/-! DEFINITION. The references, the selector and the root PLL (R18 to R35, R313, R404). -/
namespace Sys2Proof.Machine

def refNum : RefIn → Nat
  | .a => 0
  | .b => 1

def goodFld (n : Nat) : Fld := if n = 0 then F.hubRefstatAGood else F.hubRefstatBGood
def failFld (n : Nat) : Fld := if n = 0 then F.hubRefstatAFail else F.hubRefstatBFail

/-- The reference counts as good (R20). -/
def State.refGood (s : State) (n : Nat) : Bool := s.flag (goodFld n)

/-- Since when a reference has been good. -/
def State.refSince (s : State) (n : Nat) : Option Nat := if n = 0 then s.clk.aSince else s.clk.bSince

def State.setSince (s : State) (n : Nat) (v : Option Nat) : State :=
  { s with clk := if n = 0 then { s.clk with aSince := v } else { s.clk with bSince := v } }

/-- Switch over to a reference (R21, R34): the selection and the count of switch-overs change, and the phase step begins; nothing is
reset, aborted or restarted. -/
def State.switchTo (s : State) (n : Nat) : State :=
  if s.get F.hubRefstatSel = n then s
  else { (s.set F.hubRefstatSel n).bump F.hubRefstatSwitches 1 with clk := { s.clk with switchedAt := some s.now } }

/-- The reference that FORCE names and that is not ignored (R23). -/
def State.forced (s : State) : Option Nat :=
  if s.get F.hubRefctlForce = 0 ∨ s.flag F.hubRefstatForceIgnored then none else some (s.get F.hubRefctlForce - 1)

/-- FORCE and PREF act on the selector (R23): a force of a good reference selects it, a force of a failed one is ignored and
shown, a new force of a good one or no force ends the show.
[DEDUCED, log entry 20] -/
def State.applyForce (s : State) : State :=
  if s.get F.hubRefctlForce = 0 then s.set F.hubRefstatForceIgnored 0
  else if s.refGood (s.get F.hubRefctlForce - 1) then (s.set F.hubRefstatForceIgnored 0).switchTo (s.get F.hubRefctlForce - 1)
  else s.set F.hubRefstatForceIgnored 1

/-- A reference is declared failed (R20 to R22, R24): its FAIL bit, a C1 event, FORCE_IGNORED when the force names it; the
one in use gives way to the other with DEGRADED, or holdover begins when the other has failed too; before a reference has been taken the
selector stays as it is.
[DEDUCED, log entry 20] -/
def doReferenceFailure (r : RefIn) (t : Nat) (s0 : State) : State :=
  let n := refNum r
  let s := ((s0.at t).setAll [(goodFld n, 0), (failFld n, 1)]).setSince n none
  let s1 := (if s.get F.hubRefctlForce = n + 1 then s.set F.hubRefstatForceIgnored 1 else s).report hubCol 12 1
  if s.clk.taken && s.get F.hubRefstatSel == n then
    if s.refGood (1 - n) then (s1.switchTo (1 - n)).notify atDegraded
    else { s1.set F.hubRefstatHoldover 1 with clk := { s1.clk with
      holdStart := s.now, heldSel := n, heldSwitches := s.get F.hubRefstatSwitches } }
  else s1

def execReferenceFailure (r : RefIn) (t : Nat) (s : State) : Host.Outcome State Fault Refusal :=
  .next (doReferenceFailure r t s)

/-- A reference has stayed in the band for 10 ms (R20, R22): it counts as good, and holdover ends with it selected; when both
return together the preferred one is taken, and the count of switch-overs is the one of that single choice. -/
def doReferenceRecovered (r : RefIn) (t : Nat) (s0 : State) : State :=
  let n := refNum r
  let s := ((s0.at t).set (goodFld n) 1).setSince n (some (max s0.now t))
  if s.flag F.hubRefstatHoldover then
    { (s.set F.hubRefstatHoldover 0).switchTo n with clk := { s.clk with takenAt := s.now } }
  else if s.clk.takenAt = s.now ∧ s.clk.holdStart < s.now ∧ s.get F.hubRefctlPref = n ∧ s.forced = none then
    (s.setAll [(F.hubRefstatSel, s.clk.heldSel), (F.hubRefstatSwitches, s.clk.heldSwitches)]).switchTo n
  else s

def execReferenceRecovered (r : RefIn) (t : Nat) (s : State) : Host.Outcome State Fault Refusal :=
  .next (doReferenceRecovered r t s)

/-- The holdover limit (R22): with both references still failed after it, a C3 fault of the reference monitor's input. -/
def doHoldoverExpired (t : Nat) (s0 : State) : State :=
  let s := s0.at t
  if s.flag F.hubRefstatHoldover ∧ s.clk.holdStart + usec (10 * s.get F.hubRefctlHoldover) ≤ s.now then s.report hubCol 12 3
  else s

def execHoldoverExpired (t : Nat) (s : State) : Host.Outcome State Fault Refusal := .next (doHoldoverExpired t s)

/-- Automatic return to the preferred reference (R23). -/
def doReferenceRevert (t : Nat) (s0 : State) : State :=
  let s := s0.at t
  let p := s.get F.hubRefctlPref
  if s.flag F.hubRefctlRevert ∧ s.get F.hubRefctlForce = 0 ∧ s.refGood p ∧
      (s.refSince p).any (fun a => decide (a + msec (10 * s.get F.hubRefctlRevertHold) ≤ s.now)) then s.switchTo p
  else s

def execReferenceRevert (t : Nat) (s : State) : Host.Outcome State Fault Refusal := .next (doReferenceRevert t s)

/-- The Helm writes FORCE (R23, R25, R33); 0b11 leaves the field as it was. -/
def writeForce (v : Nat) (s : State) : State := if v = 3 then s else (s.set F.hubRefctlForce v).applyForce

def execReferenceForce (src : Sess) (force : Fin 4) (s : State) : Host.Outcome State Fault Refusal :=
  .next (s.regCommand src Principal.isHelm fun _ s => (writeForce force.val s, stOk))

/-- A reference good for 100 µs is taken at start-up (R24): the preferred one, or the other once the 2 ms fallback has passed; the other counts as
good until then and waits for REFERENCE_START_TIMEOUT. A module that the reference fault holds in reset stays there. -/
def doReferenceTakeAtStart (r : RefIn) (t : Nat) (s0 : State) : State :=
  let n := refNum r
  let s := s0.at t
  if s.flt.holdReset then s
  else if s.clk.taken = false ∧ (s.get F.hubRefctlPref = n ∨ s.clk.psGood + msec 2 ≤ s.now) then
    { (s.setAll [(goodFld n, 1), (F.hubRefstatSel, n)]).setSince n (some s.now) with
      clk := { (s.setSince n (some s.now)).clk with taken := true, takenAt := s.now } }
  else if s.clk.taken = false then (s.set (goodFld n) 1).setSince n (some s.now)
  else s

def execReferenceTakeAtStart (r : RefIn) (t : Nat) (s : State) : Host.Outcome State Fault Refusal :=
  .next (doReferenceTakeAtStart r t s)

/-- The start-up limits of R24: after 2 ms the other reference is taken when it is good; after 20 ms with neither good the module
stays in reset with the reference fault bit of the start-up status word set. -/
def doReferenceStartTimeout (t : Nat) (s0 : State) : State :=
  let s := s0.at t
  if s.clk.taken || s.flt.holdReset then s
  else if s.clk.psGood + msec 20 ≤ s.now ∧ s.refGood 0 = false ∧ s.refGood 1 = false then
    { s.setBit (F.colSsw (colBase hubCol)) 12 with flt := { s.flt with holdReset := true } }
  else if s.clk.psGood + msec 2 ≤ s.now ∧ s.refGood (1 - s.get F.hubRefctlPref) then
    { s.set F.hubRefstatSel (1 - s.get F.hubRefctlPref) with clk := { s.clk with taken := true, takenAt := s.now } }
  else s

def execReferenceStartTimeout (t : Nat) (s : State) : Host.Outcome State Fault Refusal := .next (doReferenceStartTimeout t s)

/-- The 1 ms spread measurement (R27, R35), in 10 ppm and 0.1 kHz: beyond 5,500 ppm SSC_OOR, a C0 event and NOTICE. -/
def doSscMeasurement (spread modfreq : Nat) (s : State) : State :=
  if s.clk.taken then
    let s1 := s.setAll [(F.hubSscmeasSpread, spread), (F.hubSscmeasModfreq, modfreq)]
    if 550 < spread then ((s1.set F.hubRefstatSscOor 1).report hubCol 12 0).notify atNotice else s1
  else s

def execSscMeasurement (spread modfreq : Fin 1024) (s : State) : Host.Outcome State Fault Refusal :=
  .next (doSscMeasurement spread.val modfreq.val s)

/-- The root PLL has been out of lock for 1 µs (R313): a C3 fault. -/
def doRootPllUnlock (s : State) : State := (s.set F.hubRefstatRootLock 0).report hubCol 11 3

def execRootPllUnlock (s : State) : Host.Outcome State Fault Refusal := .next (doRootPllUnlock s)

/-- The root PLL locks after a reference is taken (R404, step 5), and the management complex boots; when it has not locked 5 ms
after, bit 11 of the chip's start-up status word is set (R319). -/
def doRootPllLock (t : Nat) (locked : Bool) (s0 : State) : State :=
  let s := s0.at t
  if s.clk.taken = false ∨ s.flt.holdReset = true then s
  else if locked then
    (if s.flag F.hubRefstatRootLock then s
     else if s.ready then s.set F.hubRefstatRootLock 1
     else s.setAll [(F.hubRefstatRootLock, 1), (F.rstStatPhase, 2)])
  else if s.flag F.hubRefstatRootLock = false ∧ s.clk.takenAt + msec 5 ≤ s.now then
    s.setBit (F.colSsw (colBase hubCol)) 11
  else s

def execRootPllLock (t : Nat) (locked : Bool) (s : State) : Host.Outcome State Fault Refusal := .next (doRootPllLock t locked s)

end Sys2Proof.Machine
end

