-- ==== Sys2Proof/Machine/ResetOps.lean ====
section
/-! DEFINITION. What resets and power changes do (R12, R387 to R404): the reach of a reset in the management space and in the units, the
saved set, regions off and on, the homes and bindings under a chart that comes into force, and the resets that reach the management
complex. -/
namespace Sys2Proof.Machine

/-- What a reset of a region or block leaves alone (R67, R78, R83, R300, R398): presence and the host's PERST_L, which are pins;
bindings and tacks; counts since module reset; the seams' remaps; the collector of the region, and of the block unless the region is
reset.
[DEDUCED, log entry 97] -/
def keptOver (region : Bool) (k : Nat) : Bool :=
  let a := k / 32
  let b := k % 32
  let o := a % 0x1000
  if 0x2000000 ≤ a ∧ a < 0x2400000 then
    (o == 4 && b == 16) || o == 8 || o == 0xC || o == 0x10 || (o == 0x1C && (b == 0 || b == 1 || b == 4)) || decide (0x40 ≤ o ∧ o < 0x100)
  else if 0x800000 ≤ a ∧ a < 0x880000 then o == 0x60 || (!region && decide (0x600 ≤ o ∧ o < 0x620))
  else if 0x1000000 ≤ a ∧ a < 0x1800000 then decide (0x600 ≤ a % 0x100000 ∧ a % 0x100000 < 0x620)
  else if 0x410000 ≤ a ∧ a < 0x418000 then (o == 4 && b == 19) || decide (0x100 ≤ o)
  else false

/-- What a loss of a region's power leaves: the pins. -/
def keptPins (k : Nat) : Bool :=
  decide (0x2000000 ≤ k / 32 ∧ k / 32 < 0x2400000) && k / 32 % 0x1000 == 0x1C && (k % 32 == 0 || k % 32 == 1 || k % 32 == 4)

/-- Messages whose segments were lost with the staging of some cells: one open at an output is completed with filler (R112, R113), the others
are dropped, and no segment of theirs comes any more. -/
def State.dropLost (s : State) (f : Nat → Bool) : State :=
  (s.core.bolt.filter fun m => f m.src && decide (m.got < m.segs)).foldl (fun s m =>
    if !m.filled && (s.openMsg m.out).any (fun x => x = m) then
      ((s.fillMsg m.out m).modCore fun u => { u with bolt := (u.bolt.filter fun x =>
        !(x.out == m.out && x.id == m.id && x.filled && x.sent == x.segs)).map fun x =>
          if x.out = m.out ∧ x.id = m.id ∧ x.filled = true then { x with left := x.segs } else x })
    else s.dropBolt m) s

/-- The cells' units of some cells are reset: lanes, links, staging and the arbiters and shapers of their outputs, the shadows they
hold. -/
def State.clearCells (s : State) (f : Nat → Bool) : State :=
  (((((s.modLan fun u => { u with
      lanes := u.lanes.filter (fun e => !f (e.1 / 2))
      windows := u.windows.filter (fun e => !f e.1)
      asked := u.asked.filter (fun e => !f e.1)
      budgets := u.budgets.filter (fun e => !f e.1)
      suspect := u.suspect.filter (fun e => !f e.1) }).modLnk fun u => { u with
      downs := u.downs.filter (fun e => !f e.1)
      graceAt := u.graceAt.filter (fun e => !f e.1)
      resetAt := u.resetAt.filter (fun e => !f e.1)
      watchAt := u.watchAt.filter (fun e => !f e.1)
      lanes := u.lanes.filter (fun e => !f e.1)
      fnl := u.fnl.filter (fun e => !f e.1)
      retries := u.retries.filter (fun e => !f e.1) }).modCore fun u => { u with
      staged := u.staged.filter (fun m => !f m.src)
      records := u.records.filter (fun r => !f (pointLead r.point))
      sending := u.sending.filter (fun e => !f e.1)
      gaps := u.gaps.filter (fun e => !f e.1)
      shapers := u.shapers.filter (fun e => !f (e.1 / 16))
      policers := u.policers.filter (fun e => !f (e.1 / 64))
      dwrr := u.dwrr.filter (fun e => !f e.1)
      arbs := u.arbs.filter (fun e => !f (e.1 / 8))
      slots := u.slots.filter (fun e => !(decide (e.1 < regionArb 0) && f (e.1 / 8 * 8)))
      turns := u.turns.filter (fun e => !f e.2.1)
      weights := u.weights.filter (fun e => !f (e.1 / 520)) }).modHome fun u => { u with
      shadows := u.shadows.filter (fun x => !f x.cell)
      forwarded := u.forwarded.filter (fun e => !f e.1)
      conflicts := u.conflicts.filter (fun e => !f e.1) }).dropAdvs f).dropLost f

/-- Retired links stay retired through every reset (R300, R402). -/
def State.markRetired (s : State) (f : Nat → Bool) : State :=
  (s.nv.linkRetired.filter f).foldl (fun s p => s.set (F.fnlLinkstatState p) 4) s

/-- The region of a counter outside the Rose (R410). -/
def ctrRegion (k : Nat) : Nat :=
  let pl := ctrPlace k
  if pl.1 = 0 then pl.2.1 / 16 else if pl.1 = 3 then pl.2.1 / 9 else if pl.1 = 2 then 8 else pl.2.1

/-- A location is reset or loses power while a snapshot is in progress (R422): its counters read 0 with UNPOWERED; bins of a region not
yet copied read 0. -/
def State.dropLatch (s : State) (loc : Nat) (counters : Nat → Bool) : State :=
  s.modTal fun u => { u with
    latch := u.latch.map fun b => { b with
      ctrs := b.ctrs.filter (fun e => !counters e.1)
      bins := if loc < 8 && s.copyingBins loc then
          b.bins.filter (fun e => !decide (0x1000000 + 0x100000 * loc ≤ e.1 / 32 ∧ e.1 / 32 < 0x1100000 + 0x100000 * loc)) else b.bins
      unpowered := if b.unpowered.contains loc then b.unpowered else b.unpowered ++ [loc] } }

/-- A region's logic is reset, or its power is lost: its registers read their reset values but for those kept, its cells, bolt memory,
home slices, copy engine, seam and counters hold nothing, and its collector inputs are in STARTUP (R318, R390).
[DEDUCED, log entry 97] -/
def State.wipeRegion (s : State) (g : Nat) (kept : Nat → Bool) : State :=
  let s1 : State := { s with
    regs := s.regs.filter (fun e => !inReach regionRanges g (e.1 / 32) || kept e.1)
    ctrs := s.ctrs.filter (fun e => ctrRegion e.1 != g) }
  let s2 := (s1.clearCells fun p => p / 128 == g).modCore fun u => { u with
    bolt := u.bolt.filter (fun m => m.out / 128 != g)
    places := u.places.filter (fun e => e.2.1 / 128 != g)
    reads := u.reads.filter (fun e => e.1 / 256 != g)
    slots := u.slots.filter (fun e => e.1 != regionArb g && !(decide (seamArb g 0 ≤ e.1 ∧ e.1 < seamArb (g + 1) 0)))
    turns := u.turns.filter (fun e => e.2.2.2.1 != g)
    demoted := u.demoted.filter (fun e => e.1 / 8192 != g) }
  let s3 := s2.modHome fun u => { u with
    dir := u.dir.filter (fun e => e.2.home / 9 != g)
    cache := u.cache.filter (fun e => s.lineHome e.1 / 9 != g)
    dcache := u.dcache.filter (fun e => e.2 / 9 != g)
    txns := u.txns.filter (fun t => t.home / 9 != g)
    snoops := u.snoops.filter (fun x => x.home / 9 != g)
    restarts := u.restarts.filter (fun n => n / 9 != g)
    engineWait := u.engineWait.filter (fun x => x.cell != 1024 + g)
    engine := u.engine.filter (fun e => e.1 != g)
    overTrk := u.overTrk.filter (fun k => k / 576 != g)
    overSnp := u.overSnp.filter (fun k => k / 576 != g) }
  let s3 := ((List.range 9).map (9 * g + ·)).foldl (fun s n => s.freeFilter n) s3
  let s4 := (s3.modCpy fun u => { u with
    jobs := u.jobs.filter (fun j => j.g != g)
    asked := SMap.del u.asked g
    overShare := u.overShare.filter (fun k => k / 64 != g) }).modSeam fun u => { u with
    bad := u.bad.filter (fun b => b.seam != g && b.seg.out / 128 != g)
    reorder := u.reorder.filter (fun x => x.out / 128 != g)
    rings := u.rings.filter (fun e => e.1 / 2 != g)
    errors := u.errors.filter (fun e => e.1 / 16384 != g)
    waiting := u.waiting.filter (fun k => k / 2 != g) }
  let s5 := (s4.modFlt fun u => { u with
    modes := u.modes.filter (fun e => !(let c := e.1 / 32; decide ((c < 1024 ∧ c / 128 = g) ∨ (1024 ≤ c ∧ c < 1152 ∧ (c - 1024) / 16 = g) ∨ c = 1152 + g)))
    quiet := u.quiet.filter (fun e => !(let c := e.1 / 32; decide ((c < 1024 ∧ c / 128 = g) ∨ (1024 ≤ c ∧ c < 1152 ∧ (c - 1024) / 16 = g) ∨ c = 1152 + g))) }).modEcc
    fun u => { u with scrubs := SMap.del u.scrubs g, order := u.order.filter (fun e => e.1 / 64 != g), rowsOut := u.rowsOut.filter (fun k => k / 2 ^ 29 != g) }
  (s5.markRetired fun p => p / 128 == g).dropLatch g fun k => ctrRegion k == g

/-- A region's slices under the chart in force: active or idle spare (R163), each serving its own partition (R165). -/
def State.loadSlices (s : State) (g : Nat) : State :=
  ((List.range 9).map (9 * g + ·)).foldl (fun s n => s.setAll [
    (F.homRole n, if s.get (F.homRole n) = 2 then 2 else if s.chart.homeActive n then 1 else 0), (F.homRoleUnknown n, 0),
    (F.homRoleServesFor n, n), (F.homRoleAdopted n, 0), (F.dirPartStack n, n / 9), (F.dirPartIndex n, n % 9),
    (F.dirPartValid n, if s.chart.homeActive n then 1 else 0)]) s

def setFlagBit (v i : Nat) (on : Bool) : Nat := if on then v ||| 2 ^ i else if v.testBit i then v - 2 ^ i else v

/-- The readings of a clamped die's sensors are excluded (R390, R460). -/
def State.blindSensors (s : State) (g : Nat) : State :=
  (s.setAll [(F.hubTempValid (2 * g), 0), (F.hubTempValid (2 * g + 1), 0), (F.hubTempValid (18 + g), 0)]).modThm fun u =>
    { u with blind := u.blind.filter (· != g) }

/-- A region is powered off (R387, R369, R390): its links are down, what it held is lost, its slices read unpowered, and its engine's jobs
complete UNKNOWN_OUTCOME (R230). -/
def State.regionOff (s : State) (g : Nat) : State :=
  let s1 := ((s.endJobs (fun j => j.g == g) stUnknownOutcome 0).wipeRegion g keptPins).setAll [(F.hubTopoRegionPowered, setFlagBit (s.get F.hubTopoRegionPowered) g false),
    (F.hubXbarstatSashUp, setFlagBit (s.get F.hubXbarstatSashUp) g false)]
  let s1 := s1.modPwr fun u => { u with regionReset := u.regionReset.filter (· != g) }
  (((List.range 9).map (9 * g + ·)).foldl (fun s n => s.set (F.homRole n) 3) s1).blindSensors g

/-- The presence of every pleat of some cells as its quarters report it (R82), without a change event.
[DEDUCED, log entry 102] -/
def State.showPresence (s : State) (f : Nat → Bool) : State :=
  ((List.range 1024).filter fun p => f p && s.chart.isLead p).foldl (fun s p =>
    s.setAll [(F.celHotplugPresent p, if s.seated p then 1 else 0), (F.celHotplugPrsntRaw p, if s.rawSeated p then 1 else 0),
      (F.celHotplugPerstIn p, if s.chart.isUsp p && s.perstLow p then 1 else 0)]) s

/-- The links of some cells are released to train. -/
def State.startLinks (s : State) (f : Nat → Bool) : State :=
  ((s.chart.listed 3 0).filter fun p => f p && s.chart.isLead p).foldl (fun s p => s.startTraining p) s

/-- A region's die, stack and seams are up (R404 step 8a, R306, R319): its CL registers are loaded from the chart in force, its slices take
their roles, its seams carry traffic, its slip ends, and its links are released once the chart's start-up has passed. -/
def State.regionUp (s : State) (g : Nat) : State :=
  let s1 := (s.modPwr fun u => { u with powering := u.powering.filter (· != g) }).setAll [
    (F.hubTopoRegionPowered, setFlagBit (s.get F.hubTopoRegionPowered) g true),
    (F.hubXbarstatSashUp, setFlagBit (s.get F.hubXbarstatSashUp) g true),
    (F.seamStatStateA g, if (s.get F.hubXbarstatMode).testBit 0 then 2 else 3),
    (F.seamStatStateB g, if (s.get F.hubXbarstatMode).testBit 1 then 2 else 3), (F.seamStatRegenLock g, 1)]
  let s2 := ((s1.loadSlices g).markRetired fun p => p / 128 == g).showPresence fun p => p / 128 == g
  let s2 := s2.modCpy fun u => { u with failed := u.failed.filter (· != g) }
  let s2 := s2.modThm fun u => { u with lastValid := SMap.put (SMap.put u.lastValid (2 * g) s.now) (2 * g + 1) s.now }
  (if 5 ≤ s.get F.rstStatPhase then s2.startLinks fun p => p / 128 == g else s2).releaseFor (.regionPower (Fin.ofNat 8 g))

/-- The Rose datapath is off. -/
def State.roseOff (s : State) : State :=
  s.setAll [(F.hubXbarstatMode, 0), (F.hubXbarstatSpeedup, 0), (F.hubTopoPlaneAUp, 0), (F.hubTopoPlaneBUp, 0), (F.hubXbarstatSashUp, 0)]

/-- Regions wait for their power-up slips (R377 kind 0x1, R389, R404); after a thermal cut none does until a reset
(R462).
[DEDUCED, log entry 117] -/
def State.askRegions (s : State) (mask : Nat) : State :=
  if s.get F.hubThermState = 3 then s
  else ((List.range 8).filter fun g => mask.testBit g && !s.regionOn g && !s.seam.out.contains g
    && !s.pwr.powerWait.contains g && !s.pwr.powering.contains g).foldl (fun s g =>
      (s.modPwr fun u => { u with powerWait := u.powerWait ++ [g] }).requestLeave (.regionPower (Fin.ofNat 8 g))) s

/-- The regions follow the chart's attachment (R46 step 4, R404 step 9): one it attaches is powered up under leave, one it does not is
powered off.
[DESIGN CHOICE, log entry 99] -/
def State.attachRegions (s : State) : State :=
  let s1 := ((List.range 8).filter fun g => s.regionOn g && !s.chart.attached.testBit g).foldl (fun s g => s.regionOff g)
    (s.modPwr fun u => { u with powerWait := u.powerWait.filter (s.chart.attached.testBit ·) })
  if s1.get F.rstPstateCur = 2 then s1 else s1.askRegions s1.chart.attached

/-- Every vPPB is unbound and every tack reads 0 (R67, R78): the binding registers of every cell and logical device. -/
def bindingKey (k : Nat) : Bool :=
  let o := k / 32 % 0x1000
  decide (0x2000000 ≤ k / 32 ∧ k / 32 < 0x2400000) && (o == 8 || o == 0xC || o == 0x10 || decide (0x40 ≤ o ∧ o < 0x100))

/-- The members of the virtual switches (R89): a USP shows the switch it belongs to. -/
def State.showMembers (s : State) : State :=
  ((List.range 64).filter s.chart.vsValid).foldl (fun s v =>
    s.setAll [(F.celBindBound (s.chart.vsUsp v), 1), (F.celBindVcs (s.chart.vsUsp v), v), (F.celBindVppb (s.chart.vsUsp v), 0)]) s

/-- A chart comes into force anew (R46 step 4, R54, R67, R163, R325, R389): no binding, every tack 0x00, the switch core, homes and copy
engines empty, the slot map as the chart gives it, presence as it stands, every link held by nothing but its own state.
[DEDUCED, log entry 97] -/
def State.bringUp (s : State) : State :=
  let s1 : State := { s with regs := s.regs.filter (fun e => !bindingKey e.1 && !(decide (0x110000 ≤ e.1 / 32 ∧ e.1 / 32 < 0x114000))) }
  let s2 := ((((s1.modBnd fun u => { State.reset.bnd with
      quarters := u.quarters, fell := u.fell, waits := u.waits, raw := u.raw, lows := u.lows }).modCore fun u =>
      { State.reset.core with framing := u.framing, since := s.now }).modHome fun u =>
      ⟨[], [], [], [], [], [], [], [], [], u.flushOn, u.flushWin, [], u.sweeps, none, [], [], [], [], u.lostStacks, [], [], u.next, [], [], [], u.draws⟩).modCpy fun u =>
      { u with jobs := [], asked := [], overShare := [] }).modSeam fun u => { u with bad := [], reorder := [], rings := [] }
  let s3 := (List.range 64).foldl (fun s v => s.setAll [(F.hubHomemapSlice v, s.chart.slotHome v), (F.hubHomemapChartSlice v, s.chart.slotHome v),
    (F.hubHomemapUnknown v, 0), (F.hubHomemapMoved v, 0)]) s2
  let s4 := ((List.range 8).filter s3.regionPowered).foldl (fun s g => s.loadSlices g) s3
  let s5 := (List.range 8).foldl (fun s g => s.set (F.rgnCtstatDemoted g) 0) s4
  (s5.showMembers.showPresence fun _ => true).modLnk fun u => { u with held := false, slotOff := [] }

/-- The counter and word at an address of the counters (R410, R423). -/
def ctrOf (a : Nat) : Option (Nat × Nat) :=
  let f := fun (base stride first n j : Nat) =>
    let i := (a - base) / stride
    let o := (a - base) % stride
    if base ≤ a ∧ i < n ∧ 0x700 ≤ o ∧ o < 0x700 + 16 * j ∧ a % 4 = 0 then some (first + j * i + (o - 0x700) / 16, o % 16 / 4) else none
  (f 0x800000 0x1000 0 128 8) <|> (f 0x1000000 0x100000 1024 8 16) <|> (f 0x100000 0x100000 1152 1 32) <|> (f 0x300000 0x1000 1184 72 8)
    <|> (f 0x500000 0x4000 1760 8 8)

/-- The address of a counter's SEL. -/
def ctrAddr (k : Nat) : Nat :=
  let pl := ctrPlace k
  (if pl.1 = 0 then 0x800000 + 0x1000 * pl.2.1 else if pl.1 = 1 then 0x1000000 + 0x100000 * pl.2.1 else if pl.1 = 2 then 0x100000
    else if pl.1 = 3 then 0x300000 + 0x1000 * pl.2.1 else 0x500000 + 0x4000 * pl.2.1) + 0x700 + 16 * pl.2.2

/-- A counter that selects nothing. -/
def newCtr : Ctr := ⟨0, 0, 0, 0, false, false, false, 0, 0, false⟩

def State.ctr (s : State) (k : Nat) : Ctr := SMap.getD s.ctrs k newCtr

/-- A counter's selection as CTR.SEL holds it, without CLR and BAD (R423). -/
def Ctr.selWord (c : Ctr) : Nat :=
  c.event + 2 ^ 8 * c.mode + 2 ^ 10 * c.sub + 2 ^ 18 * c.berth + (if c.berthEn then 2 ^ 24 else 0) + (if c.chain then 2 ^ 25 else 0)
    + (if c.en then 2 ^ 26 else 0)

/-- A counter holds a value; one at its reset values has no entry. -/
def State.setCtr (s : State) (k : Nat) (c : Ctr) : State :=
  s.modCtrs fun m => if c = newCtr then SMap.del m k else SMap.put m k c

/-- A counter is cleared with its OVF; an even one clears a chained odd partner with it (R415). -/
def State.clearCtr (s : State) (k : Nat) : State :=
  let s1 := s.setCtr k { s.ctr k with val := 0, ovf := false }
  if k % 2 = 0 ∧ (s1.ctr (k + 1)).chain = true then s1.setCtr (k + 1) { s1.ctr (k + 1) with val := 0, ovf := false } else s1

/-- A write of CTR.SEL (R414, R415): the selection, and the counter cleared. -/
def State.selectCtr (s : State) (k v : Nat) : State :=
  (s.setCtr k { s.ctr k with
    event := bitsOf v 0 8, mode := bitsOf v 8 2, sub := bitsOf v 10 8, berth := bitsOf v 18 6, berthEn := v.testBit 24,
    chain := v.testBit 25 && k % 2 == 1, en := v.testBit 26 }).clearCtr k

/-- The saved set (R394), as addresses: module and Rose, regions, cell link settings, counter selections outside blocks. -/
def savedModule : List Nat :=
  [0x100010, 0x100020, 0x100034, 0x14008, 0x13000, 0x13004, 0x12000, 0x12010, 0x12048, 0x12070, 0x4000000, 0x1000C]
def savedRegion (g : Nat) : List Nat :=
  [0x1000120 + 0x100000 * g, 0x410000 + 0x1000 * g, 0x400000 + 0x1000 * g, 0x500004 + 0x4000 * g, 0x500008 + 0x4000 * g, 0x50000C + 0x4000 * g]
    ++ (List.range 9).flatMap fun i => [0x300004 + 0x1000 * (9 * g + i), 0x210000 + 0x100 * (9 * g + i)]
def savedCell (p : Nat) : List Nat := [0x600000 + 0x100 * p, 0x2000018 + 0x1000 * p]
def savedCtrs : List Nat := (List.range 800).map fun i => ctrAddr (1024 + i)
def savedSet : List Nat :=
  savedModule ++ (List.range 8).flatMap savedRegion ++ (List.range 1024).flatMap savedCell ++ savedCtrs

/-- The RW fields of a register, which a save keeps and a restore writes (R394). -/
def rwFields (a : Nat) : List Fld :=
  match wordAt a with
  | some w => (w.fields.filter fun d => match d.access with | .rw => true | _ => false).map (·.fld)
  | none => []

def State.readSaved (s : State) (a : Nat) : Nat :=
  match ctrOf a with
  | some (k, _) => (s.ctr k).selWord
  | none => sumOf ((rwFields a).map fun f => s.get f * 2 ^ f.lsb)

/-- A saved register comes back (R394): its RW fields; a FORCE that comes back acts on the selector (R23). -/
def State.writeSaved (s : State) (e : Nat × Nat) : State :=
  match ctrOf e.1 with
  | some (k, _) => s.selectCtr k e.2
  | none =>
    let s1 := (rwFields e.1).foldl (fun s f => s.set f (bitsOf e.2 f.lsb f.width)) s
    if e.1 = 0x100010 then s1.applyForce else s1

/-- Copy registers out, and write copies back (R394, R398). -/
def State.copyOut (s : State) (l : List Nat) : List (Nat × Nat) := l.map fun a => (a, s.readSaved a)
def State.writeBack (s : State) (l : List (Nat × Nat)) : State := l.foldl State.writeSaved s

/-- Fields kept in the Almanac or in fuses (R393, R403, R435, and the register tables): they read the same after every reset.
[DESIGN CHOICE, log entry 5] -/
def persists (k : Nat) : Bool :=
  let a := k / 32
  let b := k % 32
  a == 0x14004 || (a == 0x12044 && (b == 0 || b == 15)) || (a == 0x12048 && (b == 7 || b == 8 || b == 24)) || (a == 0x12060 && b == 17)
    || (a == 0x10004 && b == 16) || (a == 0x11000 && (b == 0 || b == 1 || b == 2 || b == 5)) || a == 0x11004 || (a == 0x11008 && b == 0)
    || decide (0x11100 ≤ a ∧ a < 0x11180) || (a == 0x10010 && b != 1) || decide (0x10020 ≤ a ∧ a < 0x1004C) || (a == 0x4000020 && b != 8)
    || k == F.mgtCredHelmProg.key || k == F.mgtCredHelmRev.key || k == F.mgtSerialLo.key || k == F.mgtSerialHi.key
    || k == F.mgtIdentVendor.key || k == F.hubIdentStepping.key

/-- The power stage's registers show the feeds, the bulk node and the rails through every reset; its settings and counts since reset stand
only where the reset does not reach it.
[DEDUCED, log entry 98] -/
def powerKey (whole : Bool) (k : Nat) : Bool :=
  let a := k / 32
  let b := k % 32
  decide (0x12000 ≤ a ∧ a < 0x13000) && (!whole || a == 0x12004 || a == 0x12008 || a == 0x12014 || a == 0x12018 || a == 0x12040
    || (a == 0x12044) || a == 0x1204C || (a == 0x12050 && b == 0) || (a == 0x12060 && b == 7)
    || (decide (0x12100 ≤ a) && a % 8 == 4 && b != 26 && b != 25 && b != 27))

/-- A reset that reaches the management complex (R398, R403): everything in its reach reads its reset values; the Almanac, the flash, the
fuses and the pins stay; sessions, leave and the queues of work are gone; the cause is recorded and counted.
[DEDUCED, log entries 98, 109] -/
def State.moduleReset (s : State) (source : Nat) (whole : Bool) : State :=
  let s1 : State := { State.reset with
    pending := s.pending
    now := s.now
    resetAt := s.now
    sent := s.sent
    nv := s.nv
    regs := s.regs.filter (fun e => persists e.1 || powerKey whole e.1 || keptPins e.1)
    bnd := { State.reset.bnd with quarters := s.bnd.quarters, fell := s.bnd.fell, raw := s.bnd.raw, lows := s.bnd.lows }
    pwr := { State.reset.pwr with
      feedA := s.pwr.feedA
      feedB := s.pwr.feedB
      oringOff := s.pwr.oringOff
      rideStart := s.pwr.rideStart
      samples := if whole then [] else s.pwr.samples
      kicked := s.now
      laterWake := s.pwr.laterWake
      goodAt := s.now }
    clk := { State.reset.clk with psGood := s.now }
    mgt := { State.reset.mgt with burns := s.mgt.burns.map fun b => { b with live := false } } }
  (s1.setAll [(F.pwrLdoMode, 0), (F.pwrLdoOverstay, 0), (F.rstCauseSource, source)]).bump F.rstCauseCount 1

/-- A feed enters standby (R363): any but a retired or latched one, its FETs off. -/
def State.standbyFeed (s : State) (f : Nat) : State :=
  let st := s.get (F.pwrFeedstatState f)
  if st = 6 ∨ st = 7 then s
  else s.setAll [(F.pwrFeedstatOringOn f, 0), (F.pwrFeedstatGateOk f, 0), (F.pwrFeedstatPg f, 0), (F.pwrFeedmeasIin f, 0), (F.pwrFeedstatState f, 8)]

/-- The module enters standby (R369 step 4, R388 step 5): everything but the wake comparators is off; the held pads keep their latch. -/
def State.standby (s : State) (phase : Nat) : State :=
  let s1 := s.moduleReset (s.get F.rstCauseSource) true
  let s2 := (s1.setAll [(F.rstCauseCount, s.get F.rstCauseCount), (F.pwrRideRiding, 0), (F.pwrBusVbus, 0), (F.pwrReckonEnergy, 0)]).modPwr fun u =>
    { u with shedPhase := phase }
  (s2.standbyFeed 0).standbyFeed 1

/-- Standby, or power not yet up: nothing but the feeds and the wake comparators acts. -/
def State.unpowered (s : State) : Bool := s.get F.rstStatPhase == 0

/-- What the held pads latch (R392): the level of each quarter's PERST_L (1 asserted), its presence (256 + q), its attention LED (512 + q);
the Ethernet reset pin and configuration are in service.
[DESIGN CHOICE, log entry 88] -/
def State.perstOut (s : State) (q : Nat) : Bool :=
  let p := s.chart.lead (4 * q)
  if s.flag F.rstPadrelHeld then SMap.getD s.nv.padLatch q 1 == 1
  else if !s.ready then !(s.get (F.rstPinfusePerst (q / 32))).testBit (q % 32)
  else s.chart.isDsp p && (s.lnk.slotOff.contains p || s.lnk.fmPerst.contains p || s.inFullReset p)

/-- The attention fuse of a quarter is burnt (R403): RST.PINFUSE.ATTN shows those of quarters 0 to 63.
[DESIGN CHOICE, log entry 74] -/
def State.attnFuse (s : State) (q : Nat) : Bool :=
  if q < 64 then (s.get (F.rstPinfuseAttn (q / 32))).testBit (q % 32) else s.nv.attnFuses.contains q

/-- A quarter's attention LED is lit (R76, R82, R403).
[DESIGN CHOICE, log entry 135] -/
def State.ledOn (s : State) (q : Nat) : Bool :=
  if s.flag F.rstPadrelHeld then SMap.getD s.nv.padLatch (512 + q) 0 == 1
  else if !s.ready then s.attnFuse q
  else ([0, 1, 2, 3].map fun c => s.chart.lead (4 * q + c)).any fun p => (s.boundVppbs p).any fun b => s.bnd.attnOn.contains (256 * b.1 + b.2)

/-- The held pads latch their present state (R388 step 4, R392).
[DESIGN CHOICE, log entry 100] -/
def State.latchPads (s : State) : State :=
  ((s.modNv fun n => { n with padLatch := (List.range 256).flatMap (fun q => if s.perstOut q then [(q, 1)] else [(q, 0)])
      ++ (List.range 256).flatMap (fun q => if s.quarterSeated q then [(256 + q, 1)] else [])
      ++ (List.range 256).flatMap (fun q => if s.ledOn q then [(512 + q, 1)] else []) }).setAll
    [(F.rstPadrelHeld, 1), (F.rstPadrelPrsntChg, 0)])

/-- A save begins for an event (R394, R395): its slip is granted, and the registers are those of this moment.
[DEDUCED, log entry 106] -/
def State.beginSave (s : State) (event : Nat) (regs : List (Nat × Nat)) : State :=
  (s.requestLeave .almanacSave).modPwr fun u => { u with saveEvent := event, saveRegs := regs }

/-- A running bulk sweep ends, its unfinished lanes VALID 0 (R388 step 2).
[DEDUCED, log entry 112] -/
def State.stopSweep (s : State) : State :=
  if s.flag F.hubSweepBusy then
    ((s.lan.sweeping.foldl (fun s l => s.set (F.sxtSweepresValid l) 0) s).modLan fun u => { u with sweeping := [], sweepOn := false }).set
      F.hubSweepBusy 0
  else s

/-- What a power-state entry does once the data plane is quiesced (R388 steps 2 and 3).
[DEDUCED, log entry 112] -/
def State.entryWork (s : State) : State :=
  if s.pwr.entry = 2 ∨ s.pwr.entry = 3 then
    let s1 := ((s.abortScrubs).stopSweep.modLvc fun u => { u with slips := u.slips.filter fun e => !dataPlane e.2.kind }).redecide
    if s.pwr.entry = 3 then s1.beginSave 1 (s1.copyOut savedSet) else s1
  else s

end Sys2Proof.Machine
end

