-- ==== Sys2Proof/Machine/ChartOps.lean ====
section
/-! DEFINITION. What chart operations do (R43 to R55): how one starts and ends, the outcome of the checks, the commit, the apply of a full
load and of an amendment, quiesce and start-up. -/
namespace Sys2Proof.Machine

/-- RESUME (R45, R57): in QUIESCED state the links are released under the chart in force; with nothing to resume it ends with OK, and while an
operation runs with BUSY.
[DEDUCED, log entry 103] -/
def State.resumeChart (s : State) : State :=
  if s.get F.chtStatusState = 0 then s.chartTurnedAway 0
  else if s.get F.chtStatusState ≠ 6 then s.chartTurnedAway 1
  else
    let s1 := ((s.modChtu fun u => { u with quiesced := false }).modLnk fun u => { u with held := false }).setAll
      [(F.chtStatusState, 0), (F.chtResultCode, 0), (F.chtResultSection, 0), (F.chtErrlocOffset, 0), (F.chtResultDone, 1)]
    s1.startLinks fun _ => true

/-- ABORT (R50, R57): before its commit an operation on an image stops with ABORTED; there is no commit to a quiesce. With nothing to stop it
ends with OK.
[DEDUCED, log entries 103, 134] -/
def State.abortChart (s : State) : State :=
  match s.chtu.op with
  | some o =>
    if o.kind ≠ .quiesce ∧ s.get F.chtStatusState ≤ 3 then
      (((((s.withdrawFor .chartResets).withdrawFor .chartCommit).releaseFor .chartResets).releaseFor .chartCommit).endChart rcAborted 0
        0).serveWaiting
    else s
  | none => if s.chartBusy then s else s.chartTurnedAway 0

/-- The status that ABORT is answered with (R57): that of ABORTED where it stops an operation. -/
def State.abortStatus (s : State) : Nat :=
  if (s.chtu.op.any fun o => o.kind != .quiesce) && decide (s.get F.chtStatusState ≤ 3) then chartStatus rcAborted else stOk

/-- A command of CHT.CTRL.CMD (R58); other values are ignored. -/
def State.chartCmd (s : State) (cmd : Nat) (via asker : Option Nat) : State × Nat :=
  if cmd = 1 then s.startChart .load via asker
  else if cmd = 2 then s.startChart .amend via asker
  else if cmd = 3 then s.startChart .quiesce via asker
  else if cmd = 4 then (if s.safeOn then (s.chartTurnedAway rcSafeState, stDenied)
    else (s.resumeChart, if s.get F.chtStatusState = 0 ∨ s.get F.chtStatusState = 6 then stOk else stRetry))
  else if cmd = 5 then s.startChart .rebase via asker
  else if cmd = 6 then (s.abortChart, s.abortStatus)
  else (s, stOk)

/-- The pleat an in-band session comes through (R47, SELF_CUT). -/
def State.inbandPleat (s : State) (src : Sess) : Option Nat :=
  match s.session src with
  | some ⟨_, .inband p, _, _, _⟩ => some p
  | _ => none

/-- An amendment changes a quota of R114: a hem entry, a bolt-pool cap, home trackers, a snoop budget, a copy share, Lodestar objects, or the
vPPBs declared for a berth's virtual switches. -/
def quotaChange (a b : Chart) : Bool :=
  !(chartDiff a b 9 0).isEmpty || !(chartDiff a b 9 1).isEmpty
    || (chartDiff a b 5 0).any (fun k => [1, 3, 4].any fun n => a.berthWord k n != b.berthWord k n)
    || (chartDiff a b 4 0).any (fun v => a.vsValid v != b.vsValid v || a.vsPpbs v != b.vsPpbs v || a.vsBerth v != b.vsBerth v)

/-- The journal's CHANGE byte (R51). -/
def changeByte (a b : Chart) (resets gates : List Nat) : Nat :=
  (if resets = [] then 0 else 1) + (if gates = [] then 0 else 2) + (if quotaChange a b then 4 else 0)
    + (if (chartDiff a b 6 0).isEmpty then 0 else 8)

/-- The KIND that a command takes (R58). -/
def ChartKind.number : ChartKind → Nat
  | .load => 1
  | .amend => 2
  | .rebase => 3
  | .quiesce => 0

/-- An image has passed its checks (R46 step 2, R48 step 2, R53): it waits for leave where its change needs leave, and commits
otherwise. -/
def State.chartPassed (s : State) (o : ChartOp) (i : Image) (next : Chart) : State :=
  let resets := if o.kind = .amend then resetCells s.chart next else []
  let gates := if o.kind = .amend then ((chartDiff s.chart next 11 0).map (· / 64)).eraseDups else []
  let s1 := s.modChtu fun u => { u with
    op := some { o with gen := i.gen, next := next, image := i.bytes, resets := resets, gates := gates,
                        change := changeByte s.chart next resets gates, keySlot := i.slot, waitFrom := s.now } }
  if o.kind ≠ .amend then (s1.set F.chtStatusState 2).requestLeave .chartCommit
  else if resets ≠ [] then (s1.set F.chtStatusState 2).requestLeave .chartResets
  else s1.set F.chtStatusState 3

/-- The checks of R43 end. -/
def State.chartChecked (s : State) (o : ChartOp) : State :=
  match parseImage (fun n => SMap.getD s.chtu.buf n 0) o.kind.number with
  | .error b => s.endChart b.1 b.2.1 b.2.2
  | .ok i => match s.checkImage i o.via with
    | .error b => s.endChart b.1 b.2.1 b.2.2
    | .ok next => s.chartPassed o i next

/-- The commit of a full load or rebase (R46 step 3, R53): the image in the other flash slot, one Almanac write.
[DEDUCED, log entry 133] -/
def State.commitImage (s : State) (o : ChartOp) : State :=
  let slot := 1 - s.nv.activeSlot
  (s.modNv fun n => { n with
    slot0 := if slot = 0 then o.image else n.slot0, slot1 := if slot = 0 then n.slot1 else o.image
    activeSlot := slot, gen := o.gen, baseGen := o.gen, floor := max n.floor o.gen, journal := [], log := [] }).setAll
    [(F.chtKeyslotLastUsed, o.keySlot)]

/-- The commit of an amendment (R48 step 3, R51, R52). -/
def State.commitAmendment (s : State) (o : ChartOp) : State :=
  (s.modNv fun n => { n with
    journal := n.journal ++ [⟨o.gen, n.log.length / 64, o.image.length / 64, bodyDigest o.image, o.change⟩]
    log := n.log ++ o.image, gen := o.gen, floor := max n.floor o.gen }).set F.chtKeyslotLastUsed o.keySlot

/-- The peaks and flags of hem entries and pools say nothing under a new chart. -/
def hemKey (k : Nat) : Bool :=
  let a := k / 32
  decide (0x1000000 ≤ a ∧ a < 0x1800000 ∧ 0x1000 ≤ a % 0x100000 ∧ a % 0x100000 < 0x20000)

/-- Retirement ends for pleats whose personality or layout changes (R300): their links start from DOWN. -/
def State.unretireCells (s : State) (cells : List Nat) : State :=
  let s1 := s.modNv fun n => { n with linkRetired := n.linkRetired.filter fun p => !cells.contains p }
  (cells.filter fun p => s.get (F.fnlLinkstatState p) == 4).foldl (fun s p =>
    s.setAll [(F.fnlLinkstatState p, 0), (F.fnlLinkstatLinkdowns p, 0)]) s1

/-- Cells that are no lead cells hold no histogram (R152). -/
def State.quietBins (s : State) (cells : List Nat) : State :=
  (cells.filter fun p => !s.chart.isLead p).foldl (fun s p =>
    s.resetRange (0x1080000 + 0x100000 * (p / 128) + 1024 * (p % 128)) (0x1080000 + 0x100000 * (p / 128) + 1024 * (p % 128) + 1024)) s

/-- A full load comes into force (R46 step 4). -/
def State.applyFull (s : State) (o : ChartOp) : State :=
  let changed := resetCells s.chart o.next
  let s1 : State := { s with
    chart := o.next
    regs := s.regs.filter (fun e => !hemKey e.1)
    nv := { s.nv with attached := o.next.attached }
    chtu := { s.chtu with quiesced := false }
    core := { s.core with framing := s.core.framing.filter fun e => s.chart.personality e.1 == o.next.personality e.1 } }
  let s2 := (((((s1.set F.chtStatusNullChart 0).quietBins changed).unretireCells changed).attachRegions).bringUp).startLinks fun _ => true
  s2.endChart 0 0 0

/-- The cells that an amendment resets keep their pleats until their reset (R48 step 4). -/
def Chart.keepCells (old next : Chart) (cells : List Nat) : Chart :=
  cells.foldl (fun c p => chartPut (chartPut c 2 0 p (chartEntry old 2 0 p)) 3 0 p (chartEntry old 3 0 p)) next

/-- A quota of a berth is cut below its use (R115): its flag, QUOTA to the berth and to the Pilot; an ANY entry has no berth, and QUOTA goes
to the Pilot alone.
[DESIGN CHOICE, log entry 155] -/
def State.quotaCut (s : State) (k : Option Nat) : State := s.raise atQuota (k.toList ++ [audPilot])

/-- Holders that an amendment leaves over their quotas (R115): hem entries, berth pools, trackers, snoop budgets, copy shares.
[DESIGN CHOICE, log entry 155] -/
def State.overQuotas (s : State) : State :=
  let s1 := (List.range 8).foldl (fun s g =>
    let s2 := (s.chart.hems g).foldl (fun s i =>
      if s.chart.hemSize g i < s.hemUse g i ∧ s.flag (F.rgnHemOverq g i) = false then
        (s.set (F.rgnHemOverq g i) 1).quotaCut (if s.chart.hemAny g i then none else some (s.chart.hemBerth g i))
      else s) s
    ((List.range 64).foldl (fun s k =>
      if s.chart.poolCap g k < s.poolUse g k ∧ s.flag (F.rgnBerthpoolOverq g k) = false then
        (s.set (F.rgnBerthpoolOverq g k) 1).quotaCut (some k)
      else s) s2).noteFree g) s
  let pairs := (List.range 72).flatMap fun n => (List.range 64).map fun k => 64 * n + k
  let trk := pairs.filter fun e => decide (s.chart.trackers (e % 64) < s.trkUse (e / 64) (some (e % 64))) && !s.home.overTrk.contains e
  let snp := pairs.filter fun e => decide (s.chart.snoops (e % 64) < s.snpUse (e / 64) (e % 64)) && !s.home.overSnp.contains e
  let cpy := (pairs.filter fun e => decide (e < 512)).filter fun e =>
    decide (s.chart.copyShare (e % 64) < s.copyUse (e / 64) (e % 64)) && !s.cpy.overShare.contains e
  let s3 := (s1.modHome fun u => { u with overTrk := u.overTrk ++ trk, overSnp := u.overSnp ++ snp }).modCpy fun u => { u with
    overShare := u.overShare ++ cpy }
  (trk ++ snp ++ cpy).foldl (fun s e => s.quotaCut (some (e % 64))) s3

/-- Quota flags end where an amendment lifts the limit above use (R115, R123, R124, R200, R235). -/
def State.liftQuotas (s : State) : State :=
  (((List.range 8).foldl (fun s g => s.clearOverq g) s).clearHomeOver).modCpy fun u => { u with
    overShare := u.overShare.filter fun e => decide (s.chart.copyShare (e % 64) ≤ s.copyUse (e / 64) (e % 64)) }

/-- Policers under an amendment (R47, R143): a changed mode starts with full buckets, changed rates and bursts clip the fill; `old` is the
state before the change. -/
def State.repolice (s old : State) : State :=
  (chartDiff old.chart s.chart 12 0).foldl (fun s n =>
    if old.chart.policeMode (n / 64) (n % 64) ≠ s.chart.policeMode (n / 64) (n % 64) then
      s.modCore fun u => { u with policers := SMap.del u.policers n }
    else if s.chart.policeMode (n / 64) (n % 64) = 0 then s
    else
      let x := old.policer (n / 64) (n % 64)
      s.modCore fun u => { u with policers := SMap.put u.policers n (Policer.mk
        (min (8000000 * s.chart.policeCbs (n / 64) (n % 64)) x.tc) (min (8000000 * s.chart.policeEbs (n / 64) (n % 64)) x.tx) s.now) }) s

/-- The egress limits that name an output (R138), by entry, in the order of its shapers 8 to 15. -/
def Chart.egressEntries (c : Chart) (o : Nat) : List Nat :=
  (c.listed 5 1).filter fun n => bitsOf (chartWord c 5 1 n 0) 10 1 == 1 && bitsOf (chartWord c 5 1 n 0) 0 10 == o

/-- The berth shapers of an output under an amendment (R138, R141): each follows its egress limit; a new one starts with no debt. -/
def State.reshapeBerths (s old : State) (m : SMap Shaper) (o : Nat) : SMap Shaper :=
  (List.range 8).foldl (fun m i =>
    match (s.chart.egressEntries o)[i]? with
    | none => SMap.del m (16 * o + 8 + i)
    | some n => SMap.put m (16 * o + 8 + i) (match (old.chart.egressEntries o).findIdx? (· == n) with
      | some j => (old.shaperOf o (8 + j)).change (old.chart.shaper o (8 + j)) (s.chart.shaper o (8 + i)) s.now
      | none => ⟨0, s.now, none⟩)) m

/-- Shapers under an amendment (R141); `old` is the state before the change. -/
def State.reshape (s old : State) : State :=
  let classes := (chartDiff old.chart s.chart 8 0).filter fun n => old.chart.shaper (n / 8) (n % 8) != s.chart.shaper (n / 8) (n % 8)
  let m := classes.foldl (fun m n => SMap.put m (16 * (n / 8) + n % 8) ((old.shaperOf (n / 8) (n % 8)).change
    (old.chart.shaper (n / 8) (n % 8)) (s.chart.shaper (n / 8) (n % 8)) s.now)) s.core.shapers
  let outs := ((chartDiff old.chart s.chart 5 1).flatMap fun n =>
    [bitsOf (chartWord old.chart 5 1 n 0) 0 10, bitsOf (chartWord s.chart 5 1 n 0) 0 10]).eraseDups
  s.modCore fun u => { u with shapers := outs.foldl (s.reshapeBerths old) m }

/-- Port IDs under an amendment (R71): collisions are looked at again, and the neighbours hear of the change. -/
def State.reannounce (s : State) (ids : List Nat) : State :=
  if ids = [] then s
  else ((List.range 1024).filter fun p => s.chart.isLead p && s.chart.isFnl p && s.flag (F.celLinkstatUp p)
    && s.flag (F.celLinkstatPeerModule p)).foldl (fun s p => s.emit (.pbrAdv p s.localIds)) (s.showCollisions ids)

/-- Sessions through pleats end (R47, R432). -/
def State.endInband (s : State) (f : Nat → Bool) : State :=
  s.endSessions fun _ r => match r.path with
    | .inband p => f p
    | _ => false

/-- USPs show the virtual switches they belong to, and one that has left its switch shows none (R81, R89). -/
def State.memberChange (s : State) (old : Chart) : State :=
  (((List.range 64).filter fun v => old.vsValid v).foldl (fun s v =>
    s.recordBinding (pointOf (old.vsUsp v) none) 0 0 0) s).showMembers

/-- Hem entries that an amendment removes, or gives another selector, leave their charges behind (R106): a charge stays counted in F until its
message is released. -/
def State.orphanHems (s : State) (old : Chart) (changed : List Nat) : State :=
  let gone := changed.filter fun n => bitsOf (chartWord old 9 0 n 0) 0 18 != bitsOf (chartWord s.chart 9 0 n 0) 0 18
  let was (m : Msg) (e : Option Nat) : Bool := e.any fun i => gone.contains (4096 * (m.out / 128) + i)
  gone.foldl (fun s n => s.set (F.rgnHemOverq (n / 4096) (n % 4096)) 0) (s.modCore fun u => { u with bolt := u.bolt.map (fun m =>
    let m1 : Msg := if was m m.own then { m with own := none, tb := 0, orphan := m.orphan + m.tb } else m
    if was m m.any then { m1 with any := none, ta := 0, orphan := m1.orphan + m.ta } else m1) })

/-- The peak of a hem entry counts from the load of the entry (R124). -/
def State.reloadPeaks (s : State) (changed : List Nat) : State :=
  changed.foldl (fun s n => s.set (F.rgnHemPeak (n / 4096) (n % 4096)) (s.hemUse (n / 4096) (n % 4096))) s

/-- Classes that an amendment disables at their outputs, from its apply point (R129). -/
def State.disableClasses (s : State) (old : Chart) : State :=
  (chartDiff old s.chart 8 0).foldl (fun s n =>
    if s.chart.classDisc (n / 8) (n % 8) = 0 then
      (if old.classDisc (n / 8) (n % 8) = 0 then s else s.modCore fun u => { u with disabledAt := SMap.put u.disabledAt n s.now })
    else s.modCore fun u => { u with disabledAt := SMap.del u.disabledAt n }) s

/-- A USP that an amendment moves to another virtual switch or takes out of its own advances its tack (R78); one that has no free slot stays
down until it has (R79). Those that the amendment resets advance with their reset. -/
def State.advanceMoved (s : State) (old : Chart) (resets : List Nat) : State :=
  ((((List.range 64).filter old.vsValid).map old.vsUsp).filter fun p =>
    !resets.contains p && old.vsOf p != s.chart.vsOf p).foldl (fun s p =>
      let s1 := s.mustAdvance (pointOf p none)
      if s1.flag (stallFld (pointOf p none)) then s1.fullReset p 0xA else s1) s

/-- An amendment's apply point (R48 steps 3 and 4): changed gates enter their transition, every other table changes, the cells to be reset
wait for the third stage.
[DEDUCED, log entry 104] -/
def State.beginApply (s : State) (o : ChartOp) : State :=
  let s1 := (((s.modChart fun c => c.keepCells o.next o.resets).modChtu fun u => { u with
    oldGates := s.chart, inTransition := o.gates }).set F.chtStatusState 4)
  ((((((((((s1.repolice s).reshape s).disableClasses s.chart).orphanHems s.chart (chartDiff s.chart o.next 9 0)).reloadPeaks
    (chartDiff s.chart o.next 9 0)).overQuotas).liftQuotas).reannounce (chartDiff s.chart o.next 4 1)).endInband fun p =>
    s.chart.fmPort p && !o.next.fmPort p).memberChange s.chart).advanceMoved s.chart o.resets

/-- The link registers of a pleat that is no longer what it was. -/
def State.forgetLink (s : State) (p : Nat) : State :=
  ((((s.setAll [(F.fnlLinkstatState p, 0), (F.fnlLinkstatLinkdowns p, 0), (F.fnlLinkstatGraceOn p, 0), (F.fnlLinkstatPeerId p, 0),
      (F.celLinkstatRateNow p, 0), (F.celLinkstatFlitNow p, 0), (F.celLinkstatCxl p, 0), (F.celLinkstatPeerModule p, 0),
      (F.celBindMld p, 0), (F.celBindLdCount p, 0), (F.celBindLdExcess p, 0)]).modLnk fun u => { u with
    downs := SMap.del u.downs p, graceAt := SMap.del u.graceAt p, resetAt := SMap.del u.resetAt p, lanes := SMap.del u.lanes p
    fnl := SMap.del u.fnl p, slotOff := u.slotOff.filter (· != p), fmPerst := u.fmPerst.filter (· != p) }).modCore fun u => { u with
    framing := SMap.del u.framing p }).modBnd fun u => { u with fell := u.fell.filter (· != p) }).dropAdvs (· == p)

/-- The rate for which the Almanac holds valid presets of a personality on some lanes (R268, R291). -/
def State.presetRate (s : State) (personality : Nat) (ls : List Nat) : Option Nat :=
  match (ls.head?.bind fun l => SMap.find? s.nv.presets l).map fun r => r.getD 1 0 with
  | none => none
  | some rate => if ls.all fun l => (SMap.find? s.nv.presets l).any fun r => r.getD 0 0 == personality && r.getD 1 0 == rate
      then some rate else none

/-- The lanes and rate a pleat of a new chart resets with, where the Almanac holds presets for its personality on its lanes (R81 step 4,
R291): those it last trained when it stays an FNL pleat, otherwise all of them. Only FNL has a preset reset.
[DEDUCED, log entry 102] -/
def State.newPresets (s : State) (next : Chart) (p : Nat) : Option (List Nat × Nat) :=
  let last := SMap.getD s.lnk.lanes p []
  if !next.isFnl p || s.flag (F.fnlRetirectlCold p) then none
  else if s.chart.isLead p && s.chart.isFnl p && !last.isEmpty && last.all fun l => next.lead (l / 2) == p then
    (if s.presetsHold p then some (last, s.get (F.celLinkstatRateNow p)) else none)
  else
    let ls := next.trainedLanes p (2 * next.cells p) false
    (s.presetRate 3 ls).bind fun r => if r ≤ next.rateMax p then some (ls, r) else none

/-- A pleat trains under its new personality (R81 step 4). -/
def State.trainAnew (s : State) (presets : List (Nat × List Nat × Nat)) (p : Nat) : State :=
  match SMap.find? presets p with
  | none => s.startTraining p
  | some (lanes, rate) =>
    if s.mayTrain p then
      (s.setAll [(F.fnlLinkstatState p, 2), (F.celLinkstatRateNow p, rate)]).modLnk fun u => { u with
        resetAt := SMap.put u.resetAt p s.now, lanes := SMap.put u.lanes p lanes
        fnl := SMap.put u.fnl p { newFnl with stage := 3 } }
    else s

/-- The cell resets of an amendment (R47, R81): tacks advance, the old pleats go into full reset, the new ones train. -/
def State.resetPleats (s : State) (o : ChartOp) : State :=
  let leads := o.resets.filter fun p => s.chart.isLead p && !s.chart.isOff p
  let kept := (o.resets.filter o.next.isLead).filterMap fun p => (s.newPresets o.next p).map fun e => (p, e.1, e.2)
  let s1 := leads.foldl (fun s p => ((s.pointsOf p).foldl (fun s pt => s.mustAdvance pt) s).fullReset p 0xA) s
  let s2 := (o.resets.foldl (fun s p => s.forgetLink p) ((s1.endInband o.resets.contains).modChart fun _ => o.next)).unretireCells o.resets
  let s3 := ((s2.memberChange s.chart).showPresence o.resets.contains).quietBins o.resets
  (o.resets.filter fun p => o.next.isLead p && !o.next.isOff p).foldl (fun s p => s.trainAnew kept p) s3

/-- An amendment's last stage (R48 steps 4 and 5): gates leave their transition, the cell resets follow, RESULT reads OK; a surprise removal
that waited for it happens (R86).
[DEDUCED, log entry 104] -/
def State.endApply (s : State) (o : ChartOp) : State :=
  let s1 := s.modChtu fun u => { u with oldGates := [], inTransition := [] }
  let s2 := if o.resets = [] then s1.modChart fun _ => o.next else s1.resetPleats o
  ((s2.releaseFor .chartResets).endChart 0 0 0).serveRemovals

/-- Nothing is held (R45 step 2): bolt memory, staging, home trackers, copy jobs. -/
def State.drained (s : State) : Bool :=
  s.core.staged.isEmpty && s.core.bolt.isEmpty && s.home.txns.isEmpty && s.home.shadows.isEmpty && s.cpy.jobs.isEmpty

/-- Every link is held in reset (R45 step 3).
[DEDUCED, log entry 104] -/
def State.holdLinks (s : State) : State :=
  ((List.range 1024).filter fun p => s.chart.isLead p && !s.chart.isOff p).foldl (fun s p =>
    let s1 := (s.dropLink p).set (F.fnlLinkstatGraceOn p) 0
    if s.get (F.fnlLinkstatState p) = 4 then s1 else s1.set (F.fnlLinkstatState p) 0)
    ((s.modLnk fun u => { u with held := true, graceAt := [], resetAt := [] }).modCore fun u => { u with records := [] })

/-- The data plane is quiesced (R45 step 4), for the command that asked or for a power-state entry. -/
def State.quiesceEnd (s : State) : State :=
  let s1 := (s.holdLinks).modChtu fun u => { u with quiesced := true }
  (if s.chtu.op.isSome then s1.endChart 0 0 0 else s1.set F.chtStatusState 6).entryWork

/-- Every message held is flushed, its requester answered LINK_DOWN (R45 step 2): staging, bolt memory, delivered requests, home trackers,
copy jobs. -/
def State.flushAll (s : State) : State :=
  let answered := s.heldMsgs.foldl (fun s m => s.linkDownReply m.src m.id m.kind m.berth) s
  let s1 := s.core.records.foldl (fun s r => s.linkDownReply r.src r.id r.kind r.berth) answered
  let s2 := s.home.shadows.foldl (fun s x => if x.cell < 1024 then
      s.emit (.homeReply x.cell x.tag .done stLinkDown (match x.berth with | some k => s.shown k | none => 0) none false)
    else s) s1
  ((s2.endJobs (fun _ => true) stLinkDown 0).emptyCore.modHome fun u => { u with
    txns := [], snoops := [], shadows := [], forwarded := [], conflicts := [], engine := [], engineWait := [] }).clearHomeOver

/-- Start a quiesce for a power-state entry (R388 step 1); a data plane already quiesced goes on at once. -/
def State.startQuiesce (s : State) : State :=
  if s.get F.chtStatusState = 6 then s.entryWork
  else (s.set F.chtStatusState 5).modChtu fun u => { u with quiesceStart := s.now, op := none }

/-- Replay the journal (R54 step 3): each body's length and digest, then its image. -/
def replayJournal (log : List Nat) : List JournalEntry → Chart → Option Chart
  | [], c => some c
  | e :: r, c =>
    let body := (log.drop (64 * e.loc)).take (64 * e.len)
    if body.length = 64 * e.len ∧ bodyDigest body = e.digest then
      match parseImage (fun n => body.getD n 0) 2 with
      | .ok i => replayJournal log r (i.applyTo c).tidy
      | .error _ => none
    else none

/-- The base chart (R54 step 2): the active slot's image, by R36 to R39, of the base generation. -/
def State.baseChart (s : State) : Option Chart :=
  let bytes := if s.nv.activeSlot = 0 then s.nv.slot0 else s.nv.slot1
  match parseImage (fun n => bytes.getD n 0) (leAt bytes 0x14 2) with
  | .error _ => none
  | .ok i => match s.checkKey i with
    | .error _ => none
    | .ok _ => if (i.kind = 1 ∨ i.kind = 3) ∧ i.gen = s.nv.baseGen then some (i.applyTo []).tidy else none

/-- The chart comes up at a reset (R54, R55): a module that never received one, or one whose chart fails its checks, runs the null
chart.
[DEDUCED, log entry 103] -/
def State.startChartUp (s : State) : State :=
  let null := fun (f : List (Fld × Nat)) => ((s.modChart fun _ => []).setAll ((F.chtStatusNullChart, 1) :: f))
  let fresh := (if s.nv.activeSlot = 0 then s.nv.slot0 else s.nv.slot1).isEmpty
  if fresh then null []
  else match s.baseChart with
    | none => (null [(F.chtStatusBaseFail, 1)]).notify atDegraded
    | some c => match replayJournal s.nv.log s.nv.journal c with
      | none => (null [(F.chtStatusReplayFail, 1)]).notify atDegraded
      | some c => (s.modChart fun _ => c).setAll [(F.chtStatusNullChart, 0)]

end Sys2Proof.Machine
end

