-- ==== Sys2Proof/Machine/Chart.lean ====
section
/-! DEFINITION. The chart's commands and steps (R36 to R58). -/
namespace Sys2Proof.Machine

/-- A write of CHT.CTRL.CMD by the Pilot (R58). -/
def chartCommand (cmd : Nat) (src : Sess) (s : State) : State :=
  s.regCommand src Principal.isPilot fun _ s => s.chartCmd cmd (s.inbandPleat src) none

def execChartLoad (src : Sess) (s : State) : Host.Outcome State Fault Refusal := .next (chartCommand 1 src s)

def execChartAmend (src : Sess) (s : State) : Host.Outcome State Fault Refusal := .next (chartCommand 2 src s)

def execChartQuiesce (src : Sess) (s : State) : Host.Outcome State Fault Refusal := .next (chartCommand 3 src s)

def execChartResume (src : Sess) (s : State) : Host.Outcome State Fault Refusal := .next (chartCommand 4 src s)

def execChartRebase (src : Sess) (s : State) : Host.Outcome State Fault Refusal := .next (chartCommand 5 src s)

def execChartAbort (src : Sess) (s : State) : Host.Outcome State Fault Refusal := .next (chartCommand 6 src s)

/-- The data plane has drained (R45). -/
def doQuiesceDrained (t : Nat) (s0 : State) : State :=
  let s := s0.at t
  if s.get F.chtStatusState = 5 ∧ s.drained = true then s.quiesceEnd else s

def execQuiesceDrained (t : Nat) (s : State) : Host.Outcome State Fault Refusal := .next (doQuiesceDrained t s).serveWaiting

/-- QUIESCE_WAIT runs out (R45 step 2): every message still held is flushed, and the quiesce completes. -/
def doQuiesceWaitExpired (t : Nat) (s0 : State) : State :=
  let s := s0.at t
  if s.get F.chtStatusState = 5 ∧ s.chtu.quiesceStart + msec (s.get F.chtCtrlQuiesceWait) ≤ s.now then s.flushAll.quiesceEnd else s

def execQuiesceWaitExpired (t : Nat) (s : State) : Host.Outcome State Fault Refusal := .next (doQuiesceWaitExpired t s).serveWaiting

/-- The checks of an image end (R43). -/
def doChartChecksDone (t : Nat) (s0 : State) : State :=
  let s := s0.at t
  match s.chtu.op with
  | some o => if s.get F.chtStatusState = 1 ∧ o.kind ≠ .quiesce then s.chartChecked o else s
  | none => s

def execChartChecksDone (t : Nat) (s : State) : Host.Outcome State Fault Refusal := .next (doChartChecksDone t s).serveWaiting

/-- LEAVE_WAIT runs out without a slip (R46 step 2). -/
def doChartLeaveWaitExpired (t : Nat) (s0 : State) : State :=
  let s := s0.at t
  match s.chtu.op with
  | some o =>
    if s.get F.chtStatusState = 2 ∧ o.waitFrom + msec (10 * s.get F.chtCtrlLeaveWait) ≤ s.now then
      ((s.withdrawFor .chartResets).withdrawFor .chartCommit).endChart rcLeaveRefused 0 0
    else s
  | none => s

def execChartLeaveWaitExpired (t : Nat) (s : State) : Host.Outcome State Fault Refusal := .next (doChartLeaveWaitExpired t s).serveWaiting

/-- The flash and Almanac writes end (R46 steps 3 and 4, R48 step 3, R53): an amendment's commit waits for a failover in progress (R49). -/
def doChartCommitDone (t : Nat) (s0 : State) : State :=
  let s := s0.at t
  match s.chtu.op with
  | some o =>
    if s.get F.chtStatusState ≠ 3 ∨ (o.kind = .amend ∧ s.home.failover.isSome = true) then s
    else match o.kind with
      | .load => ((s.commitImage o).releaseFor .chartCommit).applyFull o
      | .rebase => ((s.commitImage o).releaseFor .chartCommit).endChart 0 0 0
      | .amend => (s.commitAmendment o).beginApply o
      | .quiesce => s
  | none => s

def execChartCommitDone (t : Nat) (s : State) : Host.Outcome State Fault Refusal := .next (doChartCommitDone t s).serveWaiting

/-- Every unit has changed (R48 steps 4 and 5). -/
def doAmendmentApplyDone (t : Nat) (s0 : State) : State :=
  let s := s0.at t
  match s.chtu.op with
  | some o => if s.get F.chtStatusState = 4 then s.endApply o else s
  | none => s

def execAmendmentApplyDone (t : Nat) (s : State) : Host.Outcome State Fault Refusal := .next (doAmendmentApplyDone t s).serveWaiting

/-- A word of CHT.BUF is written (R58): refused with RETRY while an operation runs. -/
def writeBuf (off w : Nat) (s : State) : State × Nat :=
  if s.chartBusy then (s, stRetry)
  else (s.modChtu fun u => { u with buf := (List.range 4).foldl (fun m i => SMap.put m (off + i) (w / 256 ^ i % 256)) u.buf }, stOk)

def execChartBufWrite (src : Sess) (word : Fin (2 ^ 23)) (w : Fin (2 ^ 32)) (s : State) : Host.Outcome State Fault Refusal :=
  .next (s.regCommand src Principal.isPilot fun _ s => writeBuf (4 * word.val) w.val s)

/-- The next 4 bytes of the amendment log, and the pointer moved on (R58).
[DEDUCED, log entry 103] -/
def readLog (s : State) : Nat × State :=
  let at_ := 64 * s.get F.chtLogreadOffset + s.chtu.logByte
  (leAt s.nv.log at_ 4, (s.set F.chtLogreadOffset ((at_ + 4) / 64)).modChtu fun u => { u with logByte := (at_ + 4) % 64 })

def execLogreadDataRead (src : Sess) (s : State) : Host.Outcome State Fault Refusal :=
  .next (s.command src Principal.isOwner fun _ s => (readLog s).2.respond src .success stOk 0 [(readLog s).1])

/-- The chart's part of start-up (R54, R404): it comes into force, and the links are released to train. -/
def doChartStartup (t : Nat) (s0 : State) : State :=
  let s := s0.at t
  if s.get F.rstStatPhase = 4 then (((s.startChartUp.attachRegions).bringUp).set F.rstStatPhase 5).startLinks fun _ => true else s

def execChartStartup (t : Nat) (s : State) : Host.Outcome State Fault Refusal := .next (doChartStartup t s)

end Sys2Proof.Machine
end

