-- ==== Sys2Proof/Machine/Binding.lean ====
section
/-! DEFINITION. Ports and binding (R61 to R86): link training of USP and DSP pleats, port-ID advertisements, the FM API commands,
tacks, slots, presence and PERST. -/
namespace Sys2Proof.Machine

/-- The classes of a CXL or PCIe link, as its partner sends them (R97). -/
def cxlClasses : List FcClass :=
  [.ioPosted, .ioNonPosted, .ioCompletion, .m2sReq, .m2sRwd, .h2dReq, .h2dRsp, .h2dData, .s2mNdr, .s2mDrs, .d2hReq, .d2hRsp, .d2hData]

/-- A CXL or PCIe link that comes up advertises its credits (R97): those of each class's dedicated partition less what is in use. -/
def State.advertise (s : State) (p : Nat) : State :=
  (cxlClasses.filter fun fc => stgPart (s.chart.personality p) fc != 0).foldl (fun x fc =>
    x.emit (.initFc p fc (s.chart.cells p * fcHeaders fc - (s.fcHeld p fc).1) (s.chart.cells p * fcData fc - (s.fcHeld p fc).2))) s

/-- A USP or DSP pleat finishes training (R61, R62, R69, R301): at the width, rate and framing it chooses, its grace period ends, the
requests delivered before are answered, a multi-logical device offers its logical devices, and the pleat advertises its credits. A binding of
the whole pleat, or of a logical device, stays recorded whatever the partner reports itself as now (R84); while the partner is of the other
kind the registers do not show it (R89).
[DESIGN CHOICE, log entry 145] -/
def doCxlLinkUp (p : Nat) (a : CxlTraining) (t : Nat) (s0 : State) : State :=
  let s := s0.at t
  if s.mayTrain p && (s.chart.isUsp p || s.chart.isDsp p) && !s.flag (F.celLinkstatUp p) then
    match s.chart.trainWidth p a.good.val, s.chart.trainRate p a.rates.val a.flits.val a.cxl with
    | some w, some r =>
      let s1 := if (SMap.find? s.lnk.graceAt p).isSome then s.dropRecords p else s
      let s2 := s1.raiseLink p w.1 r.1 r.2 a.cxl false w.2
      (if s.chart.isDsp p then s2.setAll [(F.celBindMld p, if a.lds = 0 then 0 else 1), (F.celBindLdCount p, min 16 a.lds),
        (F.celBindLdExcess p, min 255 (a.lds - 16))] else s2).advertise p
    | _, _ => s
  else s

def execCxlLinkUp (p : Fin 1024) (a : CxlTraining) (t : Nat) (s : State) : Host.Outcome State Fault Refusal :=
  .next (doCxlLinkUp p.val a t s)

/-- No rate is usable, or no width forms (R61, R62): the link stays down and tries again from Detect.
[DESIGN CHOICE, log entry 90] -/
def doCxlTrainingFailed (p t : Nat) (s0 : State) : State :=
  let s := s0.at t
  if s.mayTrain p && (s.chart.isUsp p || s.chart.isDsp p) && !s.flag (F.celLinkstatUp p) then
    (s.set (F.fnlLinkstatState p) 1).modLnk fun u => { u with resetAt := SMap.put u.resetAt p s.now }
  else s

def execCxlTrainingFailed (p : Fin 1024) (t : Nat) (s : State) : Host.Outcome State Fault Refusal :=
  .next (doCxlTrainingFailed p.val t s)

/-- A partner starts a rate or width change in Recovery (R63): the pleat keeps its own width and rate, or the link goes down. -/
def doPartnerRecoveryChange (p : Nat) (retrains : Bool) (t : Nat) (s0 : State) : State :=
  let s := s0.at t
  if s.flag (F.celLinkstatUp p) && !s.chart.isFnl p then (if retrains then s.emit (.recovery p) else s.linkDown p 0xE) else s

def execPartnerRecoveryChange (p : Fin 1024) (retrains : Bool) (t : Nat) (s : State) : Host.Outcome State Fault Refusal :=
  .next (doPartnerRecoveryChange p.val retrains t s)

/-- A port-ID advertisement of a neighbour (R71): each ID that a local pleat holds sets COLLISION, is counted and raises BINDING; one it
no longer names collides no more.
[DESIGN CHOICE, log entry 89] -/
def doPbrAdv (p : Nat) (ids : List Nat) (s : State) : State :=
  if s.chart.isFnl p && s.flag (F.celLinkstatUp p) && s.flag (F.celLinkstatPeerModule p) then
    let old := SMap.getD s.bnd.advs p []
    let bad := ids.eraseDups.filter fun i => s.chart.pbrValid i && s.chart.pbrLocal i
    let s1 := (s.modBnd fun u => { u with advs := SMap.put u.advs p ids }).showCollisions (old ++ ids)
    bad.foldl (fun s _ => (s.bump F.hubPbrstatCollisions 1).raise atBinding [audPilot]) s1
  else s

def execPbrAdv (p : Fin 1024) (ids : List (Fin 4096)) (s : State) : Host.Outcome State Fault Refusal :=
  .next (doPbrAdv p.val (ids.map (·.val)) s)

/-- Identify Switch Device (R72): the FM port numbers of the port directory with their lead cells, and 64 virtual switches.
[DESIGN CHOICE, log entry 83] -/
def execIdentifySwitchDevice (src : Sess) (s : State) : Host.Outcome State Fault Refusal :=
  .next (s.command src Principal.isPilot fun _ s => s.respond src .success stOk 0
    (64 :: ((List.range 256).filterMap fun n => (s.chart.dirCell n).map fun c => [n, c]).flatten))

/-- What Get Physical Port State says of a pleat: lead cell, personality, link, width, rate, framing, presence.
[DESIGN CHOICE, log entry 83] -/
def State.portState (s : State) (p : Nat) : List Nat :=
  [p, s.chart.personality p, s.get (F.celLinkstatUp p), s.get (F.celLinkstatWidthNow p), s.get (F.celLinkstatRateNow p),
   s.get (F.celLinkstatFlitNow p), s.get (F.celHotplugPresent p)]

/-- Get Physical Port State (R72): a port missing from the directory is Invalid Input. -/
def execGetPhysicalPortState (src : Sess) (ports : List (Fin 256)) (s : State) : Host.Outcome State Fault Refusal :=
  .next (s.command src Principal.isPilot fun _ s =>
    if ports.any fun n => (s.chart.dirCell n.val).isNone then s.respond src .invalidInput stDenied 0 []
    else s.respond src .success stOk 0 ((ports.filterMap fun n => (s.chart.dirCell n.val).map fun c => n.val :: s.portState c).flatten))

/-- A command on the DSP pleat that a directory port names (R72); Invalid Input where there is none. -/
def State.onDsp (s : State) (src : Sess) (port : Nat) (act : Nat → State → State) : State :=
  match s.chart.dirCell port with
  | none => s.respond src .invalidInput stDenied 0 []
  | some p => if s.chart.isDsp p then act p s else s.respond src .invalidInput stDenied 0 []

/-- Physical Port Control (R72, R85, R294): PERST asserted or the PPB reset takes the link down with cause 0xD; PERST deasserted lets it
train. -/
def portControl (p : Nat) (act : PortAct) (s : State) : State :=
  match act with
  | .assertPerst => (s.modLnk fun u => { u with fmPerst := setIn u.fmPerst p true }).fullReset p 0xD
  | .deassertPerst => (s.modLnk fun u => { u with fmPerst := setIn u.fmPerst p false }).startTraining p
  | .resetPpb => s.fullReset p 0xD

def execPhysicalPortControl (src : Sess) (port : Fin 256) (act : PortAct) (s : State) : Host.Outcome State Fault Refusal :=
  .next (s.command src Principal.isPilot fun _ s => s.onDsp src port.val fun p s =>
    (portControl p act s).respond src .success stOk 0 [])

/-- The Pilot's request to a pleat's partner (R72): delivered over a link that is up, the partner's answer returned.
[DESIGN CHOICE, log entry 84] -/
def State.throughPleat (s : State) (src : Sess) (p : Nat) (what : Emit) (answer : Option (List (Fin 256))) : State :=
  if !s.flag (F.celLinkstatUp p) then s.respond src (cciOf stLinkDown) stLinkDown 0 []
  else match answer with
    | none => (s.emit what).respond src (cciOf stTimeout) stTimeout 0 []
    | some d => (s.emit what).respond src .success stOk 0 (d.map (·.val))

def execSendPpbCxlioConfigRequest (src : Sess) (port : Fin 256) (q : FmRequest) (answer : Option (List (Fin 256))) (s : State) :
    Host.Outcome State Fault Refusal :=
  .next (s.command src Principal.isPilot fun _ s => s.onDsp src port.val fun p s =>
    s.throughPleat src p (.fmRequest p none q.write q.addr.val (q.data.map (·.val))) answer)

/-- A request to a logical device of a multi-logical device, the FM-owned one included (R69, R72). -/
def sendLd (src : Sess) (port ld : Nat) (q : FmRequest) (answer : Option (List (Fin 256))) (s : State) : State :=
  s.onDsp src port fun p s =>
    if s.flag (F.celBindMld p) && (ld == 0xFFFF || decide (ld < s.get (F.celBindLdCount p))) then
      s.throughPleat src p (.fmRequest p (some ld) q.write q.addr.val (q.data.map (·.val))) answer
    else s.respond src .invalidInput stDenied 0 []

def execSendLdCxlioConfigRequest (src : Sess) (port : Fin 256) (ld : Fin 65536) (q : FmRequest)
    (answer : Option (List (Fin 256))) (s : State) : Host.Outcome State Fault Refusal :=
  .next (s.command src Principal.isPilot fun _ s => sendLd src port.val ld.val q answer s)

def execSendLdCxlioMemoryRequest (src : Sess) (port : Fin 256) (ld : Fin 65536) (q : FmRequest)
    (answer : Option (List (Fin 256))) (s : State) : Host.Outcome State Fault Refusal :=
  .next (s.command src Principal.isPilot fun _ s => sendLd src port.val ld.val q answer s)

/-- Tunnel Management Command (R69, R72): to the FM-owned logical device of a multi-logical device. -/
def execTunnelManagementCommand (src : Sess) (port : Fin 256) (q : List (Fin 256)) (answer : Option (List (Fin 256))) (s : State) :
    Host.Outcome State Fault Refusal :=
  .next (s.command src Principal.isPilot fun _ s => s.onDsp src port.val fun p s =>
    if s.flag (F.celBindMld p) then s.throughPleat src p (.fmTunnel p (q.map (·.val))) answer
    else s.respond src .invalidInput stDenied 0 [])

/-- What Get Virtual CXL Switch Info says of a virtual switch: VALID, its USP, its number of vPPBs, and those bound with their lead cells
and logical devices (255: the pleat itself).
[DESIGN CHOICE, log entry 83] -/
def State.vcsInfo (s : State) (v : Nat) : List Nat :=
  [v, if s.chart.vsValid v then 1 else 0, s.chart.vsUsp v, s.chart.vsPpbs v] ++
    ((List.range (s.chart.vsPpbs v)).filterMap fun i => (s.vppbPoint v i).map fun pt =>
      [i, pointLead pt, (pointLd pt).getD 255]).flatten

def execGetVirtualCxlSwitchInfo (src : Sess) (s : State) : Host.Outcome State Fault Refusal :=
  .next (s.command src Principal.isPilot fun _ s => s.respond src .success stOk 0 ((List.range 64).map s.vcsInfo).flatten)

/-- Generate AER Event (R72): at any bound vPPB. -/
def execGenerateAerEvent (src : Sess) (v i : Fin 256) (err : Fin (2 ^ 32)) (s : State) : Host.Outcome State Fault Refusal :=
  .next (s.command src Principal.isPilot fun _ s =>
    if (s.vppbPoint v.val i.val).isSome then (s.emit (.aerEvent v.val i.val err.val)).respond src .success stOk 0 []
    else s.respond src .invalidInput stDenied 0 [])

/-- Bind vPPB or Bind Pleat arrives (R72, R73, R86). -/
def bindTo (src : Sess) (who : Principal) (opcode v i : Nat) (lead : Option Nat) (ld : Nat) (s : State) : State :=
  s.takeTurn src (.bind src who opcode v i lead ld) (bindNow src who opcode v i lead ld)

def execBindVppb (src : Sess) (v i port : Fin 256) (ld : Fin 65536) (s : State) : Host.Outcome State Fault Refusal :=
  .next (s.command src Principal.isPilot fun who s => bindTo src who 0x5201 v.val i.val (s.chart.dirCell port.val) ld.val s)

def execBindPleat (src : Sess) (v i : Fin 256) (p : Fin 1024) (ld : Fin 65536) (s : State) : Host.Outcome State Fault Refusal :=
  .next (s.command src Principal.isPilot fun who s => bindTo src who 0xC101 v.val i.val (some p.val) ld.val s)

def execUnbindVppb (src : Sess) (v i : Fin 256) (option : Fin 16) (s : State) : Host.Outcome State Fault Refusal :=
  .next (s.command src Principal.isPilot fun who s => s.takeTurn src
    (.unbindVppb src who v.val i.val option.val) (unbindNow src who 0x5202 option.val (s.vppbPoint v.val i.val)))

/-- [DESIGN CHOICE, log entry 85] -/
def execUnbindPleat (src : Sess) (p : Fin 1024) (ld : Fin 65536) (option : Fin 16) (s : State) : Host.Outcome State Fault Refusal :=
  .next (s.command src Principal.isPilot fun who s => s.takeTurn src
    (.unbindPleat src who p.val ld.val option.val) (unbindNow src who 0xC102 option.val (s.namedPoint p.val ld.val)))

/-- A binding point's tack advances once a slot is free (R79): one that stalls without limit, after which, when no further advance is owed
(R78), its pleat may train (R81, R84);
or that of the bind or unbind in progress, which ends with it. -/
def doTackAdvance (pt t : Nat) (s0 : State) : State :=
  let s := s0.at t
  if !s.canAdvance pt then s
  else if s.flag (stallFld pt) then
    let s1 := s.advanceTack pt
    match SMap.getD s.bnd.owed pt 0 with
    | 0 => (s1.set (stallFld pt) 0).startTraining (s.chart.lead (pointLead pt))
    | n + 1 => s1.modBnd fun u => { u with owed := if n = 0 then SMap.del u.owed pt else SMap.put u.owed pt n }
  else match s.bnd.work with
    | some w => if w.point = pt ∧ w.waiting = false then s.finishBind w else s
    | none => s

def execTackAdvance (p : Fin 1024) (ld : Fin 17) (t : Nat) (s : State) : Host.Outcome State Fault Refusal :=
  .next (doTackAdvance (17 * p.val + ld.val) t s)

/-- SLOT_WAIT expires with no free tack slot (R75, R79): the command fails, and nothing changes.
[DESIGN CHOICE, log entry 140] -/
def doTackSlotWaitExpired (t : Nat) (s0 : State) : State :=
  let s := s0.at t
  match s.bnd.work with
  | some w =>
    if w.waiting = false ∧ s.canAdvance w.point = false ∧
        w.since + msec (s.get (F.celTackctlSlotWait (pointLead w.point))) ≤ s.now then s.endBind w .retryRequired stRetry
    else s
  | none => s

def execTackSlotWaitExpired (t : Nat) (s : State) : Host.Outcome State Fault Refusal := .next (doTackSlotWaitExpired t s)

/-- A draining tack retires (R79): nothing is outstanding under it, and 1 ms has passed since it stopped being current.
[DESIGN CHOICE, log entry 140] -/
def doTackRetire (pt tack t : Nat) (s0 : State) : State :=
  let s := s0.at t
  if (s.drainTimes pt).any (fun e => e.1 == tack && decide (e.2 + msec 1 ≤ s.now)) && s.outstanding pt tack == 0 then
    s.setTacks pt (s.tack pt) ((s.drainTimes pt).filter fun e => e.1 != tack)
  else s

def execTackRetire (p : Fin 1024) (ld : Fin 17) (tack : Fin 256) (t : Nat) (s : State) : Host.Outcome State Fault Refusal :=
  .next (doTackRetire (17 * p.val + ld.val) tack.val t s)

/-- RSP_WAIT expires for a delivered request (R80): its record is dropped. -/
def doResponseWaitExpired (p id t : Nat) (s0 : State) : State :=
  let s := s0.at t
  s.modCore fun u => { u with records := u.records.filter fun r =>
    !(pointLead r.point == p && r.id == id && decide (r.since + msec (s.get (F.celTackctlRspWait p)) ≤ s.now)) }

def execResponseWaitExpired (p : Fin 1024) (id t : Nat) (s : State) : Host.Outcome State Fault Refusal :=
  .next (doResponseWaitExpired p.val id t s)

/-- The wait of unbind option 0 or 1 is met (R74): the link is down, or the host has written Power Controller Off, before the unbind or
since.
[DESIGN CHOICE, log entry 153] -/
def doUnbindWaitSatisfied (t : Nat) (s0 : State) : State :=
  let s := s0.at t
  match s.bnd.work with
  | some w =>
    if w.waiting && (if w.option = 0 then !s.flag (F.celLinkstatUp (pointLead w.point))
        else s.bnd.slotsOff.contains (256 * w.vcs + w.vppb)) then
      s.modBnd fun u => { u with work := some { w with waiting := false, since := s.now } }
    else s
  | none => s

def execUnbindWaitSatisfied (t : Nat) (s : State) : Host.Outcome State Fault Refusal := .next (doUnbindWaitSatisfied t s)

/-- UNBIND_WAIT expires (R74, R75): the binding stays.
[DESIGN CHOICE, log entry 140] -/
def doUnbindWaitExpired (t : Nat) (s0 : State) : State :=
  let s := s0.at t
  match s.bnd.work with
  | some w =>
    if w.waiting = true ∧ w.since + sec (s.get F.hubBindctlUnbindWait) ≤ s.now then s.endBind w .retryRequired stTimeout else s
  | none => s

def execUnbindWaitExpired (t : Nat) (s : State) : Host.Outcome State Fault Refusal := .next (doUnbindWaitExpired t s)

/-- A host writes an emulated slot's control (R76, R86): Power Controller Off or On, which waits while a bind of that vPPB is in progress;
the attention indicator of a bound vPPB lights the LEDs of its pleat's quarters; an event of its status that the host clears, by its bit of
Slot Status, is gone.
[PRESUMED, log entry 144] -/
def doSlotControlWrite (v i : Nat) (act : SlotAct) (s : State) : State :=
  let k := 256 * v + i
  match act with
  | .power on =>
    if s.bnd.work.any fun w => w.bind && w.vcs == v && w.vppb == i then
      s.modBnd fun u => { u with powerLater := u.powerLater ++ [(k, on)] }
    else s.slotPower k on
  | .attention on =>
    let s1 := s.modBnd fun u => { u with attnOn := setIn u.attnOn k on }
    match s.vppbPoint v i with
    | some pt => (((s.chart.pleat (pointLead pt)).map (· / 4)).eraseDups).foldl (fun s q => s.emit (.attentionLed q on)) s1
    | none => s1
  | .clearStatus mask =>
    let x := s.slot k
    s.modBnd fun u => { u with slots := SMap.put u.slots k { x with
      button := x.button && !mask.val.testBit 0, presenceChg := x.presenceChg && !mask.val.testBit 3
      activeChg := x.activeChg && !mask.val.testBit 8 } }

def execSlotControlWrite (v : Fin 64) (i : Fin 256) (act : SlotAct) (s : State) : Host.Outcome State Fault Refusal :=
  .next (doSlotControlWrite v.val i.val act s)

/-- A pleat's debounced presence changes (R83, R84, R295, R300): PRESENT and PRESENCE_CHG follow; a fall while the link is up, a grace
period runs or the pleat is bound is a surprise removal, which in the safe state is only recorded; otherwise bound vPPBs show the
change, and a new presence clears a retirement that saw a fall and starts training.
[DEDUCED, log entry 91] -/
def State.presence (s : State) (p : Nat) (now_ : Bool) : State :=
  let s1 := s.setAll [(F.celHotplugPresent p, if now_ then 1 else 0), (F.celHotplugPresenceChg p, 1)]
  let bound := s.boundVppbs p
  if !now_ then
    let s2 := if s.get (F.fnlLinkstatState p) = 4 then s1.modBnd fun u => { u with fell := u.fell ++ [p] } else s1
    if s.flag (F.celLinkstatUp p) || !bound.isEmpty || (SMap.find? s.lnk.graceAt p).isSome then
      let s3 := s2.set (F.celHotplugSurprise p) 1
      if s.safeOn then s3 else s3.surprise p
    else if s.get (F.fnlLinkstatState p) = 4 then s2 else s2.set (F.fnlLinkstatState p) 0
  else
    let s2 := bound.foldl (fun s b => s.slotEvent b.1 b.2 true false false) s1
    let s3 := if s.bnd.fell.contains p && s.get (F.fnlLinkstatState p) == 4 then
        (({ s2.setAll [(F.fnlLinkstatState p, 0), (F.fnlLinkstatLinkdowns p, 0)] with
          nv := { s2.nv with linkRetired := s2.nv.linkRetired.filter (· != p) } } : State).modLnk fun u => { u with
            downs := SMap.del u.downs p }).modBnd fun u => { u with fell := u.fell.filter (· != p) }
      else s2
    s3.startTraining p

/-- PRESENT of every pleat that holds a cell of a quarter follows the quarters (R82, R83).
[DESIGN CHOICE, log entry 86] -/
def State.quarterChange (s : State) (q : Nat) : State :=
  ((([0, 1, 2, 3].map fun c => s.chart.lead (4 * q + c)).eraseDups).filter fun p =>
    s.seated p != s.flag (F.celHotplugPresent p)).foldl (fun s p => s.presence p (s.seated p)) s

/-- The undebounced presence of the pleats that hold a cell of a quarter shows (R82, R91).
[DESIGN CHOICE, log entry 86] -/
def State.showRaw (s : State) (q : Nat) : State :=
  (([0, 1, 2, 3].map fun c => s.chart.lead (4 * q + c)).eraseDups).foldl (fun s p =>
    s.set (F.celHotplugPrsntRaw p) (if s.rawSeated p then 1 else 0)) s

/-- A quarter's presence input has changed, or has stayed stable (R83, R91). Before READY, and while the pads are held (R392), a stable one is
only recorded.
[DESIGN CHOICE, log entry 86] -/
def doPresenceDebounced (q : Nat) (seated stable : Bool) (t : Nat) (s0 : State) : State :=
  let s := ((s0.at t).modBnd fun u => { u with raw := setIn u.raw q seated }).showRaw q
  let s1 := s.modBnd fun u => { u with quarters := setIn u.quarters q seated }
  if !stable then s
  else if s.flag F.rstPadrelHeld then s1.set F.rstPadrelPrsntChg 1
  else if s.ready then s1.quarterChange q else s1

def execPresenceDebounced (q : Fin 256) (level : PresenceLevel) (t : Nat) (s : State) : Host.Outcome State Fault Refusal :=
  .next (doPresenceDebounced q.val level.seated level.stable t s)

/-- A host drives PERST_L of a quarter low or releases it (R85): at the quarters of a USP pleat, a low one holds it in full reset, until all of
them are released. -/
def doPerstInChange (q : Nat) (low : Bool) (s0 : State) : State :=
  let s := s0.modBnd fun u => { u with lows := setIn u.lows q low }
  let p := s.chart.lead (4 * q)
  if s.chart.isUsp p && s.flag (F.celHotplugPerstIn p) != s.perstLow p then
    if s.perstLow p then (s.set (F.celHotplugPerstIn p) 1).fullReset p 0xD else (s.set (F.celHotplugPerstIn p) 0).startTraining p
  else s

def execPerstInChange (q : Fin 256) (low : Bool) (s : State) : Host.Outcome State Fault Refusal :=
  .next (doPerstInChange q.val low s)

end Sys2Proof.Machine
end

