-- ==== Sys2Proof/Machine/Power.lean ====
section
/-! DEFINITION. The input stage: feeds, trips and retries, the store and ride-through, rails and the always-on LDO (R357 to R376). -/
namespace Sys2Proof.Machine

/-- The feed states of PWR.FEEDSTAT.STATE (R383). -/
def fsAbsent : Nat := 0
def fsQualify : Nat := 1
def fsStart : Nat := 2
def fsOn : Nat := 3
def fsLimit : Nat := 4
def fsWaitRetry : Nat := 5
def fsLatched : Nat := 6
def fsRetired : Nat := 7
def fsStandby : Nat := 8

def State.feed (s : State) (f : Nat) : Nat := s.get (F.pwrFeedstatState f)

def State.feedTimer (s : State) (f : Nat) : FeedTimer := if f = 0 then s.pwr.feedA else s.pwr.feedB

def State.setTimer (s : State) (f : Nat) (x : FeedTimer) : State :=
  s.modPwr fun u => if f = 0 then { u with feedA := x } else { u with feedB := x }

/-- A feed enters a state, at this moment. -/
def State.toFeed (s : State) (f st : Nat) : State := (s.set (F.pwrFeedstatState f) st).setTimer f ⟨s.now, false⟩

/-- An ORing FET stops conducting (R358); when neither conducts any more, the time is kept for R368. -/
def State.oringOff (s : State) (f : Nat) : State :=
  let s1 := s.set (F.pwrFeedstatOringOn f) 0
  if s1.get (F.pwrFeedstatOringOn (1 - f)) = 0 ∧ s.flag (F.pwrFeedstatOringOn f) then s1.modPwr fun u => { u with oringOff := s.now }
  else s1

/-- A feed's hot-swap FET turns off. -/
def State.feedOff (s : State) (f : Nat) : State :=
  (s.oringOff f).setAll [(F.pwrFeedstatGateOk f, 0), (F.pwrFeedstatPg f, 0), (F.pwrFeedmeasIin f, 0)]

/-- A feed that is ABSENT with its voltage above 35.0 V qualifies (R363, "then by voltage"). -/
def State.settleFeed (s : State) (f : Nat) : State :=
  if s.feed f = fsAbsent ∧ 350 < s.get (F.pwrFeedmeasVin f) then s.toFeed f fsQualify else s

/-- A feed starts (R360): its gate is enabled and the start is counted. -/
def State.startFeed (s : State) (f : Nat) : State := (s.toFeed f fsStart).bump (F.pwrFeedcntStarts f) 1

/-- A qualified feed may start now (R360): it is enabled, the other one is not starting, and feed A goes first when both qualify
in one cycle. -/
def State.mayStart (s : State) (f : Nat) : Bool :=
  s.flag (F.pwrFeedctlEn f) && s.feed (1 - f) != fsStart
    && !(f == 1 && s.feed 0 == fsQualify && s.flag (F.pwrFeedctlEn 0)
      && decide (s.pwr.feedA.since + msec (10 * s.get (F.pwrFeedctlQual 0)) ≤ s.now))

/-- Start a feed, or let it wait for the other's power-good. -/
def State.tryStart (s : State) (f : Nat) : State :=
  if s.mayStart f then s.startFeed f else s.setTimer f ⟨(s.feedTimer f).since, true⟩

/-- The collector input of the power stage (R314). -/
def inPower : Nat × Nat := (hubCol, 15)

/-- A feed trips (R361, R362): counted, a C1 event and POWER; it waits for its retry, or after its last retry latches off with a C2
event and DEGRADED.
[DESIGN CHOICE, log entry 25] -/
def State.tripFeed (s : State) (f cause : Nat) : State :=
  let last := decide (s.get (F.pwrFeedctlRetries f) ≤ s.get (F.pwrFeedstatRetryCount f))
  let s1 := ((((s.feedOff f).setAll [(F.pwrFeedstatLastTrip f, cause), (F.pwrFeedstatTripped f, 1)]).bump
    (F.pwrFeedcntTrips f) 1).bump (F.pwrFeedstatRetryCount f) 1)
  let s2 := (s1.reportAt inPower 1).notify atPower
  if last then (((s2.toFeed f fsLatched).set (F.pwrFeedstatLatchEv f) 1).reportAt inPower 2).notify atDegraded
  else s2.toFeed f fsWaitRetry

def State.setVin (s : State) (f v : Nat) : State := s.set (F.pwrFeedmeasVin f) v

def State.feedIn (s : State) (f : Nat) (l : List Nat) : Bool := l.contains (s.feed f)

/-- The ORing FET cuts reverse current (R358). -/
def doOringReverse (f t : Nat) (s : State) : State := (s.at t).oringOff f

def execOringReverse (f : Fin 2) (t : Nat) (s : State) : Host.Outcome State Fault Refusal := .next (doOringReverse f.val t s)

/-- A feed rises through 35.0 V (R359, R363); in the standby after a shed this is a feed's return (R369). -/
def doFeedPresent (f v t : Nat) (s0 : State) : State :=
  let s := (s0.at t).setVin f v
  (if s.feed f = fsStandby ∧ s.pwr.shedPhase = 4 then s.toFeed f fsAbsent else s).settleFeed f

def execFeedPresent (f : Fin 2) (v : Fin 1001) (t : Nat) (s : State) : Host.Outcome State Fault Refusal :=
  .next (doFeedPresent f.val v.val t s)

/-- A feed has stayed in range for QUAL (R359): it starts, or waits for the other feed's power-good (R360). -/
def doFeedQualified (f t : Nat) (s0 : State) : State :=
  let s := s0.at t
  if s.feed f = fsQualify ∧ (s.feedTimer f).since + msec (10 * s.get (F.pwrFeedctlQual f)) ≤ s.now then s.tryStart f else s

def execFeedQualified (f : Fin 2) (t : Nat) (s : State) : Host.Outcome State Fault Refusal := .next (doFeedQualified f.val t s)

/-- The first start measures C (R366). -/
def doBulkCapMeasure (c : Nat) (s : State) : State :=
  let s1 := s.setAll [(F.pwrBulkCapMeas, c), (F.pwrBulkMeasured, 1), (F.pwrBulkCapLow, if c < 5600 then 1 else 0)]
  if c < 5600 then s1.notify atPower else s1

def execBulkCapMeasure (c : Fin 16384) (s : State) : Host.Outcome State Fault Refusal := .next (doBulkCapMeasure c.val s)

/-- The first power-good after a wake starts the wake reset's power-up (R389, R398, R404). -/
def State.wakeUp (s : State) : State :=
  if s.get F.rstStatPhase = 0 ∧ s.get F.rstCauseSource = 3 ∧ s.pwr.shedPhase = 0 then
    ({ s with clk := { s.clk with psGood := s.now } }.modPwr fun u => { u with goodAt := s.now }).startUp
  else s

/-- The bulk node reaches power-good (R360, R363): the feed is ON and the other one, if it waits, starts. -/
def doFeedPowerGood (f t : Nat) (s0 : State) : State :=
  let s := s0.at t
  if s.feed f = fsStart then
    let s1 := ((s.toFeed f fsOn).setAll [(F.pwrFeedstatPg f, 1), (F.pwrFeedstatGateOk f, 1), (F.pwrFeedstatOringOn f, 1)]).wakeUp
    if (s1.feedTimer (1 - f)).qualified && s1.feedIn (1 - f) [fsQualify, fsWaitRetry] && s1.mayStart (1 - f) then
      s1.startFeed (1 - f)
    else s1
  else s

def execFeedPowerGood (f : Fin 2) (t : Nat) (s : State) : Host.Outcome State Fault Refusal := .next (doFeedPowerGood f.val t s)

/-- START_TIME without power-good (R360): a trip of cause START. -/
def doFeedStartTimeout (f t : Nat) (s0 : State) : State :=
  let s := s0.at t
  if s.feed f = fsStart ∧ (s.feedTimer f).since + msec (10 * s.get (F.pwrFeedctlStartTime f)) ≤ s.now then s.tripFeed f 3 else s

def execFeedStartTimeout (f : Fin 2) (t : Nat) (s : State) : Host.Outcome State Fault Refusal :=
  .next (doFeedStartTimeout f.val t s)

/-- The gate has not risen within 2 ms (R364): the FET is damaged, the feed is RETIRED and the Almanac keeps it. -/
def doGateCheckFailure (f t : Nat) (s0 : State) : State :=
  let s := s0.at t
  if s.feed f = fsStart ∧ (s.feedTimer f).since + msec 2 ≤ s.now then
    ((((s.feedOff f).toFeed f fsRetired).set (F.pwrFeedstatLastTrip f) 7).modNv fun n =>
      { n with feedRetired := if n.feedRetired.contains f then n.feedRetired else f :: n.feedRetired }).reportAt inPower 2
      |>.notify atDegraded
  else s

def execGateCheckFailure (f : Fin 2) (t : Nat) (s : State) : Host.Outcome State Fault Refusal :=
  .next (doGateCheckFailure f.val t s)

/-- A feed below 33.0 V for 10 µs (R359): FET off and ABSENT, except during ride-through (R368). -/
def doFeedUndervoltage (f v t : Nat) (s0 : State) : State :=
  let s := (s0.at t).setVin f v
  if s.feedIn f [fsStart, fsOn, fsLimit] && !s.riding then
    ((s.feedOff f).toFeed f fsAbsent).set (F.pwrFeedstatLastTrip f) 6
  else s

def execFeedUndervoltage (f : Fin 2) (v : Fin 330) (t : Nat) (s : State) : Host.Outcome State Fault Refusal :=
  .next (doFeedUndervoltage f.val v.val t s)

/-- Overvoltage trips a feed that is starting or on (R359, R361, R363): 5 OV_LONG, 4 OV_FAST. -/
def doFeedOvervoltage (f t cause : Nat) (s0 : State) : State :=
  let s := s0.at t
  if s.feedIn f [fsStart, fsOn, fsLimit] then s.tripFeed f cause else s

def execFeedOvervoltageLong (f : Fin 2) (t : Nat) (s : State) : Host.Outcome State Fault Refusal :=
  .next (doFeedOvervoltage f.val t 5 s)

def execFeedOvervoltageFast (f : Fin 2) (t : Nat) (s : State) : Host.Outcome State Fault Refusal :=
  .next (doFeedOvervoltage f.val t 4 s)

/-- The current reaches its limit (R361, R363). -/
def doFeedLimitEnter (f t : Nat) (s0 : State) : State :=
  if (s0.at t).feed f = fsOn then (s0.at t).toFeed f fsLimit else s0.at t

def execFeedLimitEnter (f : Fin 2) (t : Nat) (s : State) : Host.Outcome State Fault Refusal := .next (doFeedLimitEnter f.val t s)

/-- The current has stayed below 57 A for 10 µs (R363). -/
def doFeedLimitExit (f t : Nat) (s0 : State) : State :=
  if (s0.at t).feed f = fsLimit then (s0.at t).toFeed f fsOn else s0.at t

def execFeedLimitExit (f : Fin 2) (t : Nat) (s : State) : Host.Outcome State Fault Refusal := .next (doFeedLimitExit f.val t s)

/-- OC_TIME in the limit (R361): a trip of cause OC. -/
def doFeedOcTrip (f t : Nat) (s0 : State) : State :=
  let s := s0.at t
  if s.feed f = fsLimit ∧ (s.feedTimer f).since + usec (100 * s.get (F.pwrFeedctlOcTime f)) ≤ s.now then s.tripFeed f 1 else s

def execFeedOcTrip (f : Fin 2) (t : Nat) (s : State) : Host.Outcome State Fault Refusal := .next (doFeedOcTrip f.val t s)

/-- 120 A (R361): a trip of cause FAST. -/
def doFeedFastTrip (f t : Nat) (s0 : State) : State :=
  let s := s0.at t
  if s.feedIn f [fsStart, fsOn, fsLimit] then s.tripFeed f 2 else s

def execFeedFastTrip (f : Fin 2) (t : Nat) (s : State) : Host.Outcome State Fault Refusal := .next (doFeedFastTrip f.val t s)

/-- RETRY_INT after a trip (R362): the feed starts again under R360. -/
def doFeedRetry (f t : Nat) (s0 : State) : State :=
  let s := s0.at t
  if s.feed f = fsWaitRetry ∧ (s.feedTimer f).since + msec (100 * s.get (F.pwrFeedctlRetryInt f)) ≤ s.now then s.tryStart f else s

def execFeedRetry (f : Fin 2) (t : Nat) (s : State) : Host.Outcome State Fault Refusal := .next (doFeedRetry f.val t s)

/-- 60 s ON without a trip (R362). -/
def doFeedTripCountClear (f t : Nat) (s0 : State) : State :=
  let s := s0.at t
  if s.feed f = fsOn ∧ (s.feedTimer f).since + sec 60 ≤ s.now then s.set (F.pwrFeedstatRetryCount f) 0 else s

def execFeedTripCountClear (f : Fin 2) (t : Nat) (s : State) : Host.Outcome State Fault Refusal :=
  .next (doFeedTripCountClear f.val t s)

/-- A latched feed is released (R362, R382): ABSENT, its trip count 0, then by voltage. -/
def releaseFeed (f : Nat) (s : State) : State :=
  if s.feed f = fsLatched then ((s.toFeed f fsAbsent).set (F.pwrFeedstatRetryCount f) 0).settleFeed f else s

def execFeedRelease (src : Sess) (f : Fin 2) (s : State) : Host.Outcome State Fault Refusal :=
  .next (s.regCommand src Principal.isHelm fun _ s => (releaseFeed f.val s, stOk))

/-- A retirement is cleared (R363, R364): ABSENT, then by voltage. -/
def unretireFeed (f : Nat) (s : State) : State :=
  if s.feed f = fsRetired then
    ((s.toFeed f fsAbsent).modNv fun n => { n with feedRetired := n.feedRetired.filter (· != f) }).settleFeed f
  else s

def execFeedUnretire (src : Sess) (f : Fin 2) (s : State) : Host.Outcome State Fault Refusal :=
  .next (s.regCommand src Principal.isHelm fun _ s => (unretireFeed f.val s, stOk))

/-- A write of FEEDCTL.EN (R383): 0 turns the FET off and holds the feed off.
[DESIGN CHOICE, log entry 24] -/
def enableFeed (f v : Nat) (s : State) : State :=
  let s1 := s.set (F.pwrFeedctlEn f) v
  if v = 0 ∧ s.feedIn f [fsStart, fsOn, fsLimit] then (s1.feedOff f).toFeed f fsAbsent else s1

/-- A feed leaves 35.0–75.0 V while it qualifies (R363). -/
def doFeedLeavesRange (f v t : Nat) (s0 : State) : State :=
  let s := (s0.at t).setVin f v
  if s.feed f = fsQualify then
    (if v ≤ 350 then s.toFeed f fsAbsent else if 750 ≤ v then s.toFeed f fsQualify else s)
  else s

def execFeedLeavesRange (f : Fin 2) (v : Fin 1001) (t : Nat) (s : State) : Host.Outcome State Fault Refusal :=
  .next (doFeedLeavesRange f.val v.val t s)

/-- The bulk voltage, and the reckoning it gives in mJ (R367). -/
def State.setVbus (s : State) (v : Nat) : State :=
  (s.set F.pwrBusVbus v).set F.pwrReckonEnergy (min 65535 (s.get F.pwrBulkCapMeas * (v ^ 2 - 90000) / 200000))

/-- Neither ORing FET has conducted for 2 µs (R368). -/
def doRideThroughStart (vbus t : Nat) (s0 : State) : State :=
  let s := s0.at t
  if s.get (F.pwrFeedstatOringOn 0) = 0 ∧ s.get (F.pwrFeedstatOringOn 1) = 0 ∧ s.pwr.oringOff + usec 2 ≤ s.now
      ∧ s.riding = false ∧ s.shed = false then
    ((((s.setVbus vbus).set F.pwrRideRiding 1).bump F.pwrRideRides 1).modPwr fun u => { u with rideStart := s.now })
  else s

def execRideThroughStart (vbus : Fin 1001) (t : Nat) (s : State) : Host.Outcome State Fault Refusal :=
  .next (doRideThroughStart vbus.val t s)

/-- The shed delay in force (R368); with the data plane already off in P2 the shed is immediate (R406). -/
def State.shedDelay (s : State) : Nat := if s.get F.rstPstateCur = 2 then 0 else usec (s.get F.pwrRideShedDelay)

/-- A feed conducts again (R368, R382): within SHED_DELAY, its last cycle included, ride-through ends with POWER and nothing is shed. -/
def doRideThroughEnd (f t : Nat) (s0 : State) : State :=
  let s := (s0.at t).set (F.pwrFeedstatOringOn f) 1
  if s.riding ∧ s.shed = false ∧ s.now ≤ s.pwr.rideStart + s.shedDelay then
    ((s.set F.pwrRideRiding 0).notify atPower).redecide
  else s

def execRideThroughEnd (f : Fin 2) (t : Nat) (s : State) : Host.Outcome State Fault Refusal := .next (doRideThroughEnd f.val t s)

/-- Management slips that cannot finish on the store end at the shed (R370). -/
def State.endUnfit (s : State) : State :=
  (s.lvc.slips.filter fun e => !dataPlane e.2.kind).foldl (fun s e =>
    if s.energyOk e.2.power ((e.2.expiry - s.now) / 1000000) ((s.lvc.slips.filter fun x => x.1 != e.1).map (·.2)) then s
    else
      let s1 := s.modLvc fun u => { u with slips := SMap.del u.slips e.1 }
      match e.2.purpose with
      | .chartCommit => s1.endChart 0x0F 0 0
      | _ => s1) s

/-- SHED_DELAY passes with no feed (R368, R369 step 1): admission stops, data-plane slips end, deferred data-plane requests are
refused SHED, scrubs stop, and the shed is recorded. -/
def doDataPlaneShed (t : Nat) (s0 : State) : State :=
  let s := s0.at t
  if s.riding ∧ s.shed = false ∧ s.get (F.pwrFeedstatOringOn 0) = 0 ∧ s.get (F.pwrFeedstatOringOn 1) = 0
      ∧ s.pwr.rideStart + s.shedDelay ≤ s.now then
    (((((s.setAll [(F.pwrRideShed, 1), (F.pwrRideSaveDone, 0)]).modPwr fun u => { u with shedPhase := 1 }).endDataLeave
      reasonShed).abortScrubs).endUnfit).shedCopies
  else s

def execDataPlaneShed (t : Nat) (s : State) : Host.Outcome State Fault Refusal := .next (doDataPlaneShed t s)

/-- An AVSBus or PMBus request went unacknowledged (R373): a C1 event and one more try, or after FAIL_MAX in a row the rail is
frozen with a C2 event and DEGRADED. A frozen rail is sent nothing. -/
def doAvsAckTimeout (r : Nat) (s : State) : State :=
  if s.flag (F.pwrRailFrozen r) then s
  else
    let s1 := (s.bump (F.pwrRailTimeouts r) 1).reportAt inPower 1
    if s.get F.pwrAvsctlFailMax ≤ s1.get (F.pwrRailTimeouts r) then
      ((s1.set (F.pwrRailFrozen r) 1).reportAt inPower 2).notify atDegraded
    else s1.emit (.avsResend r)

def execAvsAckTimeout (r : Fin 26) (s : State) : Host.Outcome State Fault Refusal := .next (doAvsAckTimeout r.val s)

/-- One rail's reading (R373, R385); a reading is an acknowledgement.
[DESIGN CHOICE, log entry 26] -/
def State.readRail (s : State) (x : RailReading) : State :=
  if s.flag (F.pwrRailFrozen x.rail.val) then s
  else s.setAll [(F.pwrRailVmeas x.rail.val, min x.mv 4095), (F.pwrRailImeas x.rail.val, min x.da 4095),
    (F.pwrRailPg x.rail.val, if x.pg then 1 else 0), (F.pwrRailTimeouts x.rail.val, 0)]

/-- The power stage's readings (R359, R367, R378, R384).
[DESIGN CHOICE, log entry 26] -/
def State.readInput (s : State) (m : InputMeas) : State :=
  let s1 := (s.setVbus (min m.vbus 2047)).setAll [(F.pwrFeedmeasVin 0, min m.vinA 2047), (F.pwrFeedmeasVin 1, min m.vinB 2047),
    (F.pwrFeedmeasIin 0, min m.iinA 2047), (F.pwrFeedmeasIin 1, min m.iinB 2047), (F.pwrInputPNow, min m.pNow 4095),
    (F.pwrInputPPeak, max (s.get F.pwrInputPPeak) (min m.pNow 4095)), (F.pwrLdoIAon, min m.iAon 511)]
  s1.modPwr fun u => { u with samples := (s.now, min m.pNow 4095) :: u.samples.filter fun e => decide (s.now ≤ e.1 + msec 10) }

/-- The 1 ms poll of every rail (R373).
[DESIGN CHOICE, log entry 26] -/
def doRailPoll (readings : List RailReading) (m : InputMeas) (t : Nat) (s : State) : State :=
  (readings.foldl State.readRail (s.at t)).readInput m

def execRailPoll (readings : List RailReading) (m : InputMeas) (t : Nat) (s : State) : Host.Outcome State Fault Refusal :=
  .next (doRailPoll readings m t s)

/-- PWR.INPUT.CLR_PEAK (R384).
[DESIGN CHOICE, log entry 29] -/
def clearInputPeak (s : State) : State := s.set F.pwrInputPPeak 0

def execInputPeakClear (src : Sess) (s : State) : Host.Outcome State Fault Refusal :=
  .next (s.regCommand src Principal.isHelm fun _ s => (clearInputPeak s, stOk))

/-- PWR.LDO.GO_FULL (R376): full mode only under a slip of kind LDO_FULL or ALMANAC_SAVE in force. -/
def State.ldoSlipOk (s : State) (i : Nat) : Bool := (SMap.find? s.lvc.slips i).any fun x => x.kind == 11 || x.kind == 10

def ldoGoFull (s : State) : State × Nat :=
  if s.ldoSlipOk (s.get F.pwrLdoSlip) then (s.set F.pwrLdoMode 1, stOk) else (s, stDenied)

def execLdoGoFull (src : Sess) (s : State) : Host.Outcome State Fault Refusal :=
  .next (s.regCommand src Principal.isHelm fun _ s => ldoGoFull s)

/-- The always-on current has stayed below 36 mA for 100 µs (R376): an extended slip ends and the LDO returns to low-power mode,
unless a slip still holds it in full mode. -/
def doLdoReturnLow (t : Nat) (s0 : State) : State :=
  let s := s0.at t
  if s.lvc.saveSlip.isSome || s.lvc.slips.any (fun e => e.2.kind == 11 && !e.2.extended) then s
  else ((s.setAll [(F.pwrLdoMode, 0), (F.pwrLdoOverstay, 0)]).modLvc fun u =>
    { u with slips := u.slips.filter fun e => !(e.2.kind == 11) }).redecide

def execLdoReturnLow (t : Nat) (s : State) : Host.Outcome State Fault Refusal := .next (doLdoReturnLow t s)

end Sys2Proof.Machine
end

