-- ==== Sys2Proof/Machine/PowerStates.lean ====
section
/-! DEFINITION. Power states, the Almanac and the resets (R362, R369, R374, R375, R387 to R409), and the way out of the safe state (R323,
R325). -/
namespace Sys2Proof.Machine

/-- A register instance's region is lost from service when its rail fails (R374): C3 on VDD_ROSE or VDD_MGT. A rail that is off has no
fault.
[DESIGN CHOICE, log entry 110] -/
def doRailFault (r : Nat) (s : State) : State :=
  if r < 24 then (if s.regionPowered (r / 3) then (s.set (F.pwrRailFault r) 1).regionOut (r / 3) else s)
  else (s.set (F.pwrRailFault r) 1).reportAt inPower 3

def execRailFault (r : Fin 26) (s : State) : Host.Outcome State Fault Refusal := .next (doRailFault r.val s)

/-- The always-on domain browns out and is restored from the Almanac (R375, R398): low-power mode, unless a save holds full mode.
[DESIGN CHOICE, log entry 110] -/
def doBrownOut (s : State) : State :=
  ((s.setAll [(F.pwrLdoMode, if s.pwr.saveStart.isSome then 1 else 0), (F.pwrLdoOverstay, 0)]).bump F.pwrLdoBrownouts 1).notify atPower

def execBrownOut (s : State) : Host.Outcome State Fault Refusal := .next (doBrownOut s)

/-- A reset without a reach of its own: times since the last reset run from now. -/
def State.noteReset (s : State) : State := { s with resetAt := s.now }

/-- The feeds in standby start as from a fresh application (R389). -/
def State.restartFeeds (s : State) : State :=
  [0, 1].foldl (fun s f => if s.feed f = fsStandby then (s.toFeed f fsAbsent).settleFeed f else s) s

/-- A wake from standby (R389, R398): the cause is recorded and the feeds start as from a fresh application; WAKE_L is named when both wake
conditions fall in one interval. During a P3 entry the wake follows the entry (R406). -/
def State.leaveStandby (s : State) (src : Nat) : State :=
  if s.pwr.entry = 3 then s.modPwr fun u => { u with laterWake := if u.laterWake = 1 then 1 else src }
  else if s.unpowered && s.pwr.shedPhase == 0 then
    if [0, 1].any fun f => s.feed f == fsStandby then
      let s1 := (((s.setAll [(F.rstCauseSource, 3), (F.rstCauseWakeSrc, src)]).bump F.rstCauseCount 1).modPwr fun u =>
        { u with laterWake := 0 })
      s1.noteReset.restartFeeds
    else if s.get F.rstCauseSource = 3 ∧ src = 1 then s.set F.rstCauseWakeSrc 1
    else s
  else s

def execWake (wakeL : Bool) (t : Nat) (s : State) : Host.Outcome State Fault Refusal := .next ((s.at t).leaveStandby (if wakeL then 1 else 2))

/-- A feed below 33.0 V for 100 ms qualifies again (R362, R369, R389): a latch-off is released, a module in standby wakes or sees its feed
return. -/
def doFeedCycled (f v t : Nat) (s0 : State) : State :=
  let s := (s0.at t).setVin f v
  if s.feed f = fsLatched then releaseFeed f s
  else if s.feed f = fsStandby then
    (if s.pwr.shedPhase = 4 then (s.toFeed f fsAbsent).settleFeed f else s.leaveStandby 2)
  else s

def execFeedCycled (f : Fin 2) (v : Fin 1001) (t : Nat) (s : State) : Host.Outcome State Fault Refusal :=
  .next (doFeedCycled f.val v.val t s)

/-- The regulators of the regions and of the Rose datapath are off (R369 steps 2 and 3): what they held is lost, copy jobs and scrubs have
ended, and the save is granted against the floor.
[DEDUCED, log entry 106] -/
def doShedPlaneOff (t : Nat) (s0 : State) : State :=
  let s := s0.at t
  if s.pwr.shedPhase = 1 then
    let regs := s.copyOut savedSet
    let s1 := ((List.range 8).filter s.regionOn).foldl (fun s g => s.regionOff g) (s.endJobs (fun _ => true) stUnknownOutcome dtShed)
    let s2 := s1.roseOff
    let s3 := s2.modPwr fun u => { u with shedPhase := 2, powerWait := [], powering := [] }
    if s.pwr.saveStart.isSome then s3.modPwr fun u => { u with saveEvent := 2 } else s3.beginSave 2 regs
  else s

def execShedPlaneOff (t : Nat) (s : State) : Host.Outcome State Fault Refusal := .next (doShedPlaneOff t s)

/-- The registers of a save go to the slot that does not hold the newest valid image (R395).
[DEDUCED, log entry 106] -/
def State.writeImage (s : State) : State :=
  let one := s.flag F.almStatSlot0Valid && (!s.flag F.almStatSlot1Valid || decide (s.nv.image1Seq ≤ s.nv.image0Seq))
  let seq := max (if s.flag F.almStatSlot0Valid then s.nv.image0Seq else 0) (if s.flag F.almStatSlot1Valid then s.nv.image1Seq else 0) + 1
  let e := s.pwr.saveEvent
  let s1 := if one then s.modNv fun n => { n with image1 := s.pwr.saveRegs, image1Seq := seq % 2 ^ 32, image1Event := e }
    else s.modNv fun n => { n with image0 := s.pwr.saveRegs, image0Seq := seq % 2 ^ 32, image0Event := e }
  s1.setAll [(if one then F.almStatSlot1Valid else F.almStatSlot0Valid, 1), (F.almStatPending, 1), (F.almStatLastEvent, e),
    (F.almSaveSeq, seq), (F.almSaveRegs, s.pwr.saveRegs.length)]

/-- A reset that leaves the power stage, the always-on domain and the Almanac alone (R398): it waits for a save, and of two the lower cause
is recorded (R406). -/
def State.softReset (s : State) (source : Nat) : State :=
  if s.pwr.saveStart.isSome then s.modPwr fun u => { u with laterReset := if u.laterReset = 0 then source else min u.laterReset source }
  else (s.moduleReset source false).startUp

/-- A save ends (R369 step 4, R395, R406): its image is the newest and awaits restore; after a shed the module goes to standby, and a reset
that waited follows.
[DESIGN CHOICE, log entry 110] -/
def doAlmanacSaveDone (t : Nat) (s0 : State) : State :=
  let s := s0.at t
  match s.pwr.saveStart with
  | none => s
  | some a =>
    let s1 := ((s.writeImage.setAll [(F.almTimesSave, min 65535 ((s.now - a) / 10000000)), (F.pwrLdoMode, 0)]).modLvc fun u =>
      { u with saveSlip := none }).modPwr fun u => { u with saveStart := none, saveRegs := [] }
    if s.pwr.saveEvent = 2 then
      let s2 := (s1.set F.pwrRideSaveDone 1).standby 4
      [0, 1].foldl (fun s f => if s.feed f = fsStandby ∧ 350 < s.get (F.pwrFeedmeasVin f) then (s.toFeed f fsAbsent).settleFeed f else s) s2
    else if s1.pwr.laterReset ≠ 0 then s1.softReset s1.pwr.laterReset
    else s1

def execAlmanacSaveDone (t : Nat) (s : State) : Host.Outcome State Fault Refusal := .next (doAlmanacSaveDone t s)

/-- Why a write of RST.PSTATE.REQ is refused (R388): the first of the conditions that holds; 0 when none does.
[DEDUCED, log entry 105] -/
def State.pstateRefusal (s : State) (req : Nat) : Nat :=
  if !s.home.dir.isEmpty || (List.range 64).any fun v => s.flag (F.hubHomemapUnknown v) then 1
  else if !s.lod.objects.isEmpty then 2
  else if s.pwr.entry ≠ 0 then 6
  else if s.chartBusy then 3
  else if s.riding then 4
  else if s.safeOn then 5
  else if (req = 2 ∧ s.get F.rstPstateCur = 2) ∨ (req = 0 ∧ s.get F.rstPstateCur ≠ 2) then 6
  else if !s.lod.groups.isEmpty then 7
  else 0

/-- P2 is left (R389): the regions the chart attaches ask for their slips, and the chart in force comes up anew on them. -/
def State.leaveP2 (s : State) : State :=
  let s1 := ((s.modPwr fun u => { u with entry := 1 }).modChtu fun u => { u with quiesced := false }).setAll
    [(F.rstPstateBusy, 1), (F.chtStatusState, 0)]
  let s2 := (s1.roseUp.bringUp).askRegions s.chart.attached
  if s2.pwr.powering = [] ∧ s2.pwr.powerWait = [] then
    (s2.setAll [(F.rstPstateCur, 0), (F.rstPstateBusy, 0)]).modPwr fun u => { u with entry := 0 }
  else s2

/-- A write of RST.PSTATE.REQ (R388, R389); 0b01 is ignored.
[DEDUCED, log entry 105] -/
def writePstate (req : Nat) (s : State) : State × Nat :=
  if req = 1 then (s, stOk)
  else if s.pstateRefusal req ≠ 0 then (s.set F.rstPstateRefuse (s.pstateRefusal req), stDenied)
  else if req = 0 then (s.leaveP2, stOk)
  else (((s.set F.rstPstateBusy 1).modPwr fun u => { u with entry := req }).startQuiesce, stOk)

def execEnterP2 (src : Sess) (s : State) : Host.Outcome State Fault Refusal :=
  .next (s.regCommand src Principal.isHelm fun _ s => writePstate 2 s)

def execEnterP3 (src : Sess) (s : State) : Host.Outcome State Fault Refusal :=
  .next (s.regCommand src Principal.isHelm fun _ s => writePstate 3 s)

def execExitP2 (src : Sess) (s : State) : Host.Outcome State Fault Refusal :=
  .next (s.regCommand src Principal.isHelm fun _ s => writePstate 0 s)

/-- The last steps of an entry (R388 steps 4 and 5, R406): the pads latch, the regulators switch off; P3 goes on to standby, and a wake that
came meanwhile follows at once. -/
def doPstateEntryComplete (t : Nat) (s0 : State) : State :=
  let s := s0.at t
  if s.chtu.quiesced = true ∧ s.pwr.saveStart = none ∧ (s.pwr.entry = 2 ∨ s.pwr.entry = 3) then
    let s1 := (((List.range 8).filter s.regionOn).foldl (fun s g => s.regionOff g) s.latchPads).roseOff
    if s.pwr.entry = 2 then (s1.setAll [(F.rstPstateCur, 2), (F.rstPstateBusy, 0)]).modPwr fun u => { u with entry := 0 }
    else
      let s2 := s1.standby 0
      if s.pwr.laterWake ≠ 0 then s2.leaveStandby s.pwr.laterWake else s2
  else s

def execPstateEntryComplete (t : Nat) (s : State) : Host.Outcome State Fault Refusal := .next (doPstateEntryComplete t s)

/-- The held pads are released (R392): each follows its rule again, and presence changes recorded meanwhile are acted on.
[DESIGN CHOICE, log entry 100; DEDUCED, log entry 109] -/
def releasePads (s : State) : State :=
  if s.flag F.rstPadrelHeld then
    (List.range 256).foldl (fun s q => s.quarterChange q) (s.set F.rstPadrelHeld 0)
  else s

def execPadRelease (src : Sess) (s : State) : Host.Outcome State Fault Refusal :=
  .next (s.regCommand src Principal.isHelm fun _ s => (releasePads s, stOk))

/-- Power is up for the first time with no image pending (R398). -/
def doPowerOnReset (t : Nat) (s0 : State) : State :=
  let s := s0.at t
  if s.unpowered && s.pwr.shedPhase == 0 && !s.flag F.almStatPending && ([0, 1].any fun f => s.feedIn f [fsOn, fsLimit]) then
    (s.moduleReset 1 true).startUp
  else s

def execPowerOnReset (t : Nat) (s : State) : Host.Outcome State Fault Refusal := .next (doPowerOnReset t s)

/-- Power returns after a shed (R369, R398): POWER tells of the shed.
[DESIGN CHOICE, log entry 110] -/
def doFeedReturnReset (t : Nat) (s0 : State) : State :=
  let s := s0.at t
  if s.unpowered && s.pwr.shedPhase == 4 && ([0, 1].any fun f => s.feedIn f [fsOn, fsLimit]) then
    ((s.moduleReset 2 true).startUp).notify atPower
  else s

def execFeedReturnReset (t : Nat) (s : State) : Host.Outcome State Fault Refusal := .next (doFeedReturnReset t s)

/-- RESET_L has been low for a time in ns and rises (R398, R399): a pulse of 2 µs or more resets; without power it has no effect.
[DESIGN CHOICE, log entry 101] -/
def doResetL (ns t : Nat) (s0 : State) : State :=
  let s := s0.at t
  if ns < 2000 ∨ s.unpowered = true then s else s.softReset 4

def execResetL (ns t : Nat) (s : State) : Host.Outcome State Fault Refusal := .next (doResetL ns t s)

/-- The watchdog expires (R400). -/
def doWatchdogExpiry (t : Nat) (s0 : State) : State :=
  let s := s0.at t
  if s.flag F.rstWdogEn ∧ 3 ≤ s.get F.rstStatPhase ∧ s.pwr.kicked + msec (100 * s.get F.rstWdogTimeout) ≤ s.now then s.softReset 5 else s

def execWatchdogExpiry (t : Nat) (s : State) : Host.Outcome State Fault Refusal := .next (doWatchdogExpiry t s)

/-- The firmware kicks the watchdog (R400). -/
def doWatchdogKick (t : Nat) (s : State) : State := (s.at t).modPwr fun u => { u with kicked := max s.now t }

def execWatchdogKick (t : Nat) (s : State) : Host.Outcome State Fault Refusal := .next (doWatchdogKick t s)

/-- A restore that is due (R396): the newest valid image, or its failure with NOTICE.
[DEDUCED, log entry 106] -/
def State.restore (s : State) (took : Nat) : State :=
  let fail := fun (s : State) => ((s.setAll [(F.almStatPending, 0), (F.almStatRestoreFail, 1)]).notify atNotice)
  if s.get F.rstCauseSource = 2 ∧ s.flag F.pwrRideShed ∧ s.flag F.pwrRideSaveDone = false then fail s
  else if s.flag F.almStatPending = false then s
  else
    let one := s.flag F.almStatSlot1Valid && (!s.flag F.almStatSlot0Valid || decide (s.nv.image0Seq < s.nv.image1Seq))
    if !s.flag F.almStatSlot0Valid && !s.flag F.almStatSlot1Valid then fail s
    else (s.writeBack (if one then s.nv.image1 else s.nv.image0)).setAll
      [(F.almStatPending, 0), (F.almStatRestored, 1), (F.almTimesRestore, took)]

/-- The firmware runs (R396, R404 steps 6 to 8a): the saved set is restored where the reset asks for it, and the regions that the Almanac
names ask for their power-up slips.
[DESIGN CHOICE, log entry 107] -/
def doManagementBootDone (took t : Nat) (s0 : State) : State :=
  let s := s0.at t
  if s.get F.rstStatPhase = 2 ∧ s.flt.holdReset = false then
    let s1 := if s.get F.rstCauseSource = 2 ∨ s.get F.rstCauseSource = 3 then s.restore took else s
    ((s1.set F.rstStatPhase 4).modPwr fun u => { u with kicked := s.now }).askRegions s.nv.attached
  else s

def execManagementBootDone (took : Fin 501) (t : Nat) (s : State) : Host.Outcome State Fault Refusal :=
  .next (doManagementBootDone took.val t s)

/-- A region's power-up ends (R404 step 8a); the last one of an exit from P2 ends the exit (R389). -/
def doRegionPowerUpDone (g t : Nat) (s0 : State) : State :=
  let s := s0.at t
  if s.pwr.powering.contains g then
    let s1 := s.regionUp g
    if s1.pwr.entry = 1 ∧ s1.pwr.powering = [] ∧ s1.pwr.powerWait = [] then
      (s1.setAll [(F.rstPstateCur, 0), (F.rstPstateBusy, 0)]).modPwr fun u => { u with entry := 0 }
    else s1
  else s

def execRegionPowerUpDone (g : Fin 8) (t : Nat) (s : State) : Host.Outcome State Fault Refusal := .next (doRegionPowerUpDone g.val t s)

/-- READY (R404 step 9): every attached region is powered and the chart is in force; presence is acted on from now.
[DEDUCED, log entries 102, 136] -/
def doReady (t : Nat) (s0 : State) : State :=
  let s := s0.at t
  if s.get F.rstStatPhase = 5 ∧ s.flt.holdReset = false ∧ ((List.range 8).all fun g =>
      !s.chart.attached.testBit g || s.regionPowered g || s.seam.out.contains g) = true then
    let s1 := (s.setAll [(F.rstStatReady, 1), (F.rstStatPhase, 6), (F.rstStatReadyMs, min 65535 ((s.now - s.pwr.goodAt) / 1000000000))]).startLinks
      fun _ => true
    if s1.flag F.rstPadrelHeld then s1 else (List.range 256).foldl (fun s q => s.quarterChange q) s1
  else s

def execReady (t : Nat) (s : State) : Host.Outcome State Fault Refusal := .next (doReady t s)

/-- The links of some cells go down without a grace period and are flushed (R401, R402). -/
def State.flushCells (s : State) (f : Nat → Bool) : State :=
  ((List.range 1024).filter fun p => f p && s.chart.isLead p && !s.chart.isOff p).foldl (fun s p =>
    (((s.dropLink p).setAll [(F.fnlLinkstatState p, if s.get (F.fnlLinkstatState p) = 4 then 4 else 0), (F.fnlLinkstatGraceOn p, 0)]).flush p)) s

/-- A block reset begins (R398, R402): its links are flushed, its crossbar and cells read their reset values but for the cell group of the
saved set, and its inputs are in RECOVERY.
[DEDUCED, log entry 111] -/
def startBlockReset (n : Nat) (s : State) : State :=
  let cells := (List.range 8).map (8 * n + ·)
  let saved := s.copyOut (cells.flatMap savedCell)
  let s1 := s.flushCells fun p => p / 8 == n
  let s2 : State := { s1 with
    regs := s1.regs.filter (fun e => !inReach blockRanges n (e.1 / 32) || keptOver false e.1)
    ctrs := s1.ctrs.filter (fun e => !decide (8 * n ≤ e.1 ∧ e.1 < 8 * n + 8)) }
  (((((s2.clearCells fun p => p / 8 == n).setModes (cells.flatMap fun p => (List.range 9).map fun i => (p, i)) 2).markRetired fun p =>
    p / 8 == n).writeBack saved).set (F.blkSwresetBusy n) 1).dropLatch (8 + n) fun k => decide (8 * n ≤ k ∧ k < 8 * n + 8)

/-- BLK.SWRESET.GO or an MCTP block reset (R402, R408): refused when it came through a pleat of the block, ignored while one runs. -/
def resetBlock (src : Sess) (n : Nat) (s : State) : State × Nat :=
  if (s.inbandPleat src).any fun p => p / 8 == n then (s, stDenied)
  else if s.flag (F.blkSwresetBusy n) then (s, stOk)
  else (startBlockReset n s, stOk)

def execBlockSwreset (src : Sess) (n : Fin 128) (s : State) : Host.Outcome State Fault Refusal :=
  .next (s.regCommandAt src (F.blkSwresetGo n.val).addr Principal.isPilot fun _ s => resetBlock src n.val s)

/-- An MCTP reset as a background command (R438, R441): refused at once, or started and completed when the reset ends.
[DEDUCED, log entry 111] -/
def State.bgReset (s : State) (src : Sess) (p : Principal) (opcode target : Nat) (act : State → State × Nat) : State :=
  if s.bgBusy (sessNum src) then s.respond src .busy stRetry 0 []
  else if (act s).2 ≠ stOk then s.respond src (cciOf (act s).2) (act s).2 0 []
  else s.startBg src p opcode target fun s => (act s).1

def execBlockReset (src : Sess) (n : Fin 128) (s : State) : Host.Outcome State Fault Refusal :=
  .next (s.command src Principal.isPilot fun p s => s.bgReset src p 0xC032 n.val fun s =>
    if s.reach (F.blkSwresetGo n.val).addr then resetBlock src n.val s else (s, stDenied))

/-- A block reset ends (R402): its links are released.
[DEDUCED, log entry 111] -/
def doBlockResetDone (n t : Nat) (s0 : State) : State :=
  let s := (s0.at t).endBgOn 0xC032 n .success stOk
  if s.flag (F.blkSwresetBusy n) then
    (((s.set (F.blkSwresetBusy n) 0).bump (F.blkSwresetCount n) 1).showPresence fun p => p / 8 == n).startLinks fun p => p / 8 == n
  else s

def execBlockResetDone (n : Fin 128) (t : Nat) (s : State) : Host.Outcome State Fault Refusal := .next (doBlockResetDone n.val t s)

/-- An MCTP region reset begins (R401): refused while a slot is homed in the region; otherwise its links are flushed, its logic reads its
reset values but for the region group of the saved set, and its seam planes reset. -/
def resetRegion (g : Nat) (s : State) : State × Nat :=
  if (List.range 64).any fun v => s.slotSlice v / 9 == g then (s, stDenied)
  else if !s.regionPowered g then (s, stDenied)
  else if s.pwr.regionReset.contains g then (s, stOk)
  else
    let saved := s.copyOut (savedRegion g)
    let s1 := (((s.flushCells fun p => p / 128 == g).endJobs (fun j => j.g == g) stUnknownOutcome 0).wipeRegion g (keptOver true)).loadSlices g
    (((s1.writeBack saved).setAll [(F.seamStatStateA g, 1), (F.seamStatStateB g, 1), (F.seamStatRegenLock g, 0),
      (F.hubTopoRegionPowered, setFlagBit (s.get F.hubTopoRegionPowered) g false)]).modPwr fun u => { u with
      regionReset := u.regionReset ++ [g] }, stOk)

def execRegionReset (src : Sess) (g : Fin 8) (s : State) : Host.Outcome State Fault Refusal :=
  .next (s.command src Principal.isOwner fun p s => s.bgReset src p 0xC031 g.val (resetRegion g.val))

/-- A region reset ends (R401): its seam planes carry traffic and its links are released. -/
def doRegionResetDone (g t : Nat) (s0 : State) : State :=
  let s := (s0.at t).endBgOn 0xC031 g .success stOk
  if s.pwr.regionReset.contains g then
    ((((s.setAll [(F.seamStatStateA g, if (s.get F.hubXbarstatMode).testBit 0 then 2 else 3),
        (F.seamStatStateB g, if (s.get F.hubXbarstatMode).testBit 1 then 2 else 3), (F.seamStatRegenLock g, 1),
        (F.hubTopoRegionPowered, setFlagBit (s.get F.hubTopoRegionPowered) g true)]).modPwr fun u => { u with
      regionReset := u.regionReset.filter (· != g) }).modCpy fun u => { u with
      failed := u.failed.filter (· != g) }).showPresence fun p => p / 128 == g).startLinks fun p => p / 128 == g
  else s

def execRegionResetDone (g : Fin 8) (t : Nat) (s : State) : Host.Outcome State Fault Refusal := .next (doRegionResetDone g.val t s)

/-- A pleat's full link reset by its host or by FM Physical Port Control (R85, R398). -/
def doPortReset (p t : Nat) (s0 : State) : State :=
  let s := s0.at t
  if s.chart.isLead p && !s.chart.isOff p then s.fullReset p 0xD else s

def execPortReset (p : Fin 1024) (t : Nat) (s : State) : Host.Outcome State Fault Refusal := .next (doPortReset p.val t s)

/-- An access of the retained area (R397): a word is read, or written, at the pointer, which moves on by one word and wraps. -/
def retainAccess (w : Option Nat) (s : State) : Nat × State :=
  let i := s.get F.almRetainOffset
  let s1 := match w with
    | some v => s.modNv fun n => { n with retain := if v = 0 then SMap.del n.retain i else SMap.put n.retain i v }
    | none => s
  (SMap.getD s.nv.retain i 0, s1.wrapAdd F.almRetainOffset 1)

def execRetainDataAccess (src : Sess) (w : Option (Fin (2 ^ 32))) (s : State) : Host.Outcome State Fault Refusal :=
  .next (s.command src Principal.isHelm fun _ s =>
    (retainAccess (w.map (·.val)) s).2.respond src .success stOk 0 (if w.isSome then [] else [(retainAccess none s).1]))

/-- The safe-state drain ends (R323): what is still held is released with SAFE replies, and every link is disabled. -/
def doSafeDrainEnd (t : Nat) (s0 : State) : State :=
  let s := s0.at t
  if s.get F.fltSafeState = 1 ∧ s.flt.safeAt + usec 100 ≤ s.now then
    let answer := fun (s : State) (src id : Nat) (k : MsgKind) => if nonPosted k then s.emit (.answer src id (answerOf k stSafe)) else s
    let s1 := s.heldMsgs.foldl (fun s m => answer s m.src m.id m.kind) s
    let s2 := s.core.records.foldl (fun s r => answer s r.src r.id r.kind) s1
    let s3 := s.home.shadows.foldl (fun s x => if x.cell < 1024 then
      s.emit (.homeReply x.cell x.tag .done stSafe atSafe none false) else s) s2
    let s4 := ((s3.endJobs (fun _ => true) stSafe 0).emptyCore.modHome fun u => { u with
        txns := [], snoops := [], shadows := [], forwarded := [], conflicts := [], engine := [], engineWait := [] }).clearHomeOver
    let s5 := ((List.range 1024).filter fun p => s.chart.isLead p && !s.chart.isOff p).foldl (fun s p =>
      (s.dropLink p).setAll [(F.fnlLinkstatState p, if s.get (F.fnlLinkstatState p) = 4 then 4 else 0), (F.fnlLinkstatGraceOn p, 0)]) s4
    (s5.set F.fltSafeState 2).modLnk fun u => { u with disabled := true, graceAt := [], resetAt := [] }
  else s

def execSafeDrainEnd (t : Nat) (s : State) : Host.Outcome State Fault Refusal := .next (doSafeDrainEnd t s)

/-- The cause of the safe state persists (R325).
[DESIGN CHOICE, log entry 27] -/
def State.causePersists (s : State) : Bool :=
  !s.flt.selfLive.isEmpty || decide (760 ≤ s.tMax) || (!s.refGood 0 && !s.refGood 1) || !s.flag F.hubRefstatRootLock
    || s.get F.hubXbarstatMode == 0

/-- The safe-state exit reset (R325, R398): every region, the Rose datapath and the HBM contents; the saved set is copied out before it and
written back after it, and the chart in force is applied anew.
[DEDUCED, log entry 108] -/
def State.safeReset (s : State) : State :=
  let saved := s.copyOut savedSet
  let up := (List.range 8).filter s.regionPowered
  let s1 := (up.foldl (fun s g => s.wipeRegion g keptPins) s).modLnk fun u => { u with disabled := false }
  let s2 := ((s1.modLod fun _ => State.reset.lod).modHome fun u => { u with lostStacks := [] }).modCpy fun _ => State.reset.cpy
  let s3 := (s2.setAll [(F.fltSafeState, 0), (F.fltSafeCause, 0), (F.rstCauseSource, 7)]).bump F.rstCauseCount 1
  let s4 := (List.range 66).foldl (fun s a => s.clearBit (F.fltAttnPend a) atSafe) s3.roseUp
  let s5 := (up.foldl (fun s g => s.regionUp g) (s4.writeBack saved)).modChtu fun u => { u with quiesced := false }
  (((if s5.get F.chtStatusState = 6 then s5.set F.chtStatusState 0 else s5).bringUp).startLinks fun _ => true)

/-- FLT.SAFE.EXIT (R325): refused until the entry has ended and while the cause persists; outside the safe state it does nothing. -/
def exitSafe (s : State) : State × Nat :=
  if s.get F.fltSafeState = 0 then (s, stOk)
  else if s.get F.fltSafeState = 1 ∨ s.causePersists = true then (s, stDenied)
  else (s.safeReset, stOk)

def execSafeExit (src : Sess) (s : State) : Host.Outcome State Fault Refusal :=
  .next (s.regCommand src Principal.isHelm fun _ s => exitSafe s)

end Sys2Proof.Machine
end

