-- ==== Sys2Proof/Machine/Tally.lean ====
section
/-! DEFINITION. The counters' selections and the Tally (R410 to R427). -/
namespace Sys2Proof.Machine

/-- The word of CTR.SEL a selection writes (R426). -/
def selWordOf (event mode sub berth : Nat) (berthEn chain en : Bool) : Nat :=
  event + 2 ^ 8 * mode + 2 ^ 10 * sub + 2 ^ 18 * berth + (if berthEn then 2 ^ 24 else 0) + (if chain then 2 ^ 25 else 0)
    + (if en then 2 ^ 26 else 0)

/-- A write of CTR.SEL (R414, R415). -/
def execCounterSelect (src : Sess) (k : Fin 1824) (event : Fin 256) (mode : Fin 4) (sub : Fin 256) (berth : Fin 64)
    (berthEn chain en : Bool) (s : State) : Host.Outcome State Fault Refusal :=
  .next (s.regCommandAt src (ctrAddr k.val) Principal.isPilot fun _ s =>
    (s.selectCtr k.val (selWordOf event.val mode.val sub.val berth.val berthEn chain en), stOk))

/-- A write of 1 to CTR.SEL.CLR (R415). -/
def execCounterClear (src : Sess) (k : Fin 1824) (s : State) : Host.Outcome State Fault Refusal :=
  .next (s.regCommandAt src (ctrAddr k.val) Principal.isPilot fun _ s => (s.clearCtr k.val, stOk))

/-- TAL.CTL.FREEZE and its effect (R417): the model names the cycle of the write.
[DESIGN CHOICE, log entry 118] -/
def setFreeze (b : Bool) (s : State) : State := (s.setFlag F.talCtlFreeze b).setFlag F.talStatFrozen b

def execTallyFreeze (src : Sess) (s : State) : Host.Outcome State Fault Refusal :=
  .next (s.regCommand src Principal.isPilot fun _ s => (setFreeze true s, stOk))

def execTallyUnfreeze (src : Sess) (s : State) : Host.Outcome State Fault Refusal :=
  .next (s.regCommand src Principal.isPilot fun _ s => (setFreeze false s, stOk))

/-- Locations whose counters read UNPOWERED (R391, R420): regions, and blocks as 8 + n. -/
def State.unpoweredLocs (s : State) : List Nat :=
  ((List.range 8).filter fun g => !(s.get F.hubTopoRegionPowered).testBit g)
    ++ ((List.range 128).filter fun n => !(s.get F.hubTopoRegionPowered).testBit (n / 16)
      || (List.range 8).all fun i => s.chart.isOff (8 * n + i)).map (8 + ·)

/-- The histogram bins of every region (R159). -/
def State.histBins (s : State) : SMap Nat :=
  s.regs.filter fun e => decide (0x1080000 ≤ e.1 / 32 ∧ e.1 / 32 < 0x1800000) && decide (0x80000 ≤ e.1 / 32 % 0x100000 ∧ e.1 / 32 % 0x100000 < 0xA0000)

/-- A snapshot begins (R418): every counter and histogram as it stands. -/
def State.takeSnapshot (s : State) (byPeriod : Bool) : State :=
  (s.set F.talStatBusy 1).modTal fun u => { u with
    latch := some ⟨0, s.usSinceReset, s.flag F.talStatFrozen, s.ctrs, s.histBins, s.unpoweredLocs⟩
    trigger := s.now
    byPeriod := byPeriod }

/-- A trigger (R418, R422): dropped and counted while a snapshot is in progress, but for a write and a period in the same cycle.
[DESIGN CHOICE, log entry 118] -/
def State.trigger (s : State) (byPeriod : Bool) : State :=
  if s.flag F.talStatBusy then
    (if s.tal.trigger / coreCycle = s.now / coreCycle ∧ s.tal.byPeriod ≠ byPeriod then s else s.bump F.talStatMissed 1)
  else s.takeSnapshot byPeriod

def execTallySnap (src : Sess) (s : State) : Host.Outcome State Fault Refusal :=
  .next (s.regCommand src Principal.isPilot fun _ s => (s.trigger false, stOk))

/-- The snapshot period ends (R418).
[DEDUCED, log entry 120] -/
def doTallyPeriod (t : Nat) (s0 : State) : State :=
  let s := s0.at t
  if s.get F.talCtlPeriod ≠ 0 ∧ s.tal.periodAt + usec (100 * s.get F.talCtlPeriod) ≤ s.now then
    (s.trigger true).modTal fun u => { u with periodAt := s.now }
  else s

def execTallyPeriod (t : Nat) (s : State) : Host.Outcome State Fault Refusal := .next (doTallyPeriod t s)

/-- The outputs a berth's page shows (R425): the USPs of its virtual switches and the DSPs bound to their vPPBs, in ascending lead cell.
[DEDUCED, log entry 119] -/
def State.berthOutputs (s : State) (k : Nat) : List Nat :=
  (List.range 1024).filter fun p => s.chart.isLead p &&
    ((List.range 64).any fun v => s.chart.vsValid v && s.chart.vsBerth v == k && (s.chart.vsUsp v == p || (s.boundVppbs p).any fun b => b.1 == v))

/-- FRONT names the other buffer and SEQ rises (R418); the berths' pages change with it (R425).
[DEDUCED, log entry 119] -/
def State.flip (s : State) : State :=
  ((s.set F.talStatFront (1 - s.get F.talStatFront)).wrapAdd F.talSeq 1).modTal fun u => { u with
    waiting := false
    outputs := ((List.range 64).map fun k => (k, s.berthOutputs k)).filter fun e => !e.2.isEmpty }

/-- The snapshot in progress is whole in the back buffer (R418, R419): the Tally flips, or holds it for the release of HOLD. -/
def doTallyBufferFlip (t : Nat) (s0 : State) : State :=
  let s := s0.at t
  match s.tal.latch with
  | none => s
  | some b =>
    let b := { b with seq := (s.get F.talSeq + 1) % 2 ^ 32 }
    let s1 := (s.set F.talStatBusy 0).modTal fun u => { u with
      latch := none
      waiting := true
      buf0 := if s.get F.talStatFront = 0 then u.buf0 else b
      buf1 := if s.get F.talStatFront = 0 then b else u.buf1 }
    if s.flag F.talCtlHold then s1 else s1.flip

def execTallyBufferFlip (t : Nat) (s : State) : Host.Outcome State Fault Refusal := .next (doTallyBufferFlip t s)

/-- HOLD written 0 (R419): a complete snapshot that waits is shown at once.
[DEDUCED, log entry 119] -/
def releaseHold (s : State) : State :=
  let s1 := s.set F.talCtlHold 0
  if s1.tal.waiting then s1.flip else s1

def execTallyHoldRelease (src : Sess) (s : State) : Host.Outcome State Fault Refusal :=
  .next (s.regCommand src Principal.isPilot fun _ s => (releaseHold s, stOk))

/-- A write of TAL.CTL (R427): FREEZE, HOLD and PERIOD as written, SNAP where it is 1. A period starts with the write that sets it.
[DEDUCED, log entry 120] -/
def writeTalCtl (v : Nat) (s : State) : State × Nat :=
  let s1 := if (v.testBit 0) != s.flag F.talCtlFreeze then setFreeze (v.testBit 0) s else s
  let s2 := if v.testBit 2 then s1.set F.talCtlHold 1 else releaseHold s1
  let s3 := if bitsOf v 16 16 ≠ s.get F.talCtlPeriod then
      (s2.set F.talCtlPeriod (bitsOf v 16 16)).modTal fun u => { u with periodAt := s.now }
    else s2
  (if v.testBit 1 then s3.trigger false else s3, stOk)

end Sys2Proof.Machine
end

