-- ==== Sys2Proof/Machine/Thermal.lean ====
section
/-! DEFINITION. Temperature (R460 to R469): the sensors, T_MAX and what it drives, blind dies, throttling, the thermal cut. -/
namespace Sys2Proof.Machine

/-- Temperatures in 0.125 °C (R462, R463): THERMAL, its re-arming, throttling, its end, the C3 level, the cut. -/
def tThermal : Int := 760
def tRearm : Int := 720
def tThrottle : Int := 800
def tCool : Int := 776
def tFatal : Int := 864
def tCut : Int := 896

/-- The input of the temperature sensors at the chip collector (R314). -/
def inTemp : Nat × Nat := (hubCol, 16)

/-- The two's complement of a temperature in its 12-bit field, and back (R468, R469). -/
def tempWord (t : Int) : Nat := (t % 4096).toNat
def tempOf (w : Nat) : Int := if w < 2048 then (w : Int) else (w : Int) - 4096

/-- The die of a counting sensor (R460): regions 0–7, the Rose 8. -/
def dieOf (i : Nat) : Nat := i / 2

/-- A die is powered and its sensors are not clamped: the Rose's while the module runs. -/
def State.diePowered (s : State) (d : Nat) : Bool := if d < 8 then s.regionOn d else !s.unpowered

/-- The die a sensor stands on is powered; those of the stacks go with their regions, those of the coolant are always there. -/
def State.sensorLive (s : State) (i : Nat) : Bool :=
  if i < 18 then s.diePowered (dieOf i) else if i < 26 then s.diePowered (i - 18) else true

/-- A sensor reports (R460): a reading out of range, or of a clamped die, is invalid. -/
def State.takeReading (s : State) (r : TempReading) : State :=
  match r.value with
  | some v =>
    if s.sensorLive r.sensor.val then
      (s.setAll [(F.hubTemp r.sensor.val, tempWord ((v.val : Int) - 320)), (F.hubTempValid r.sensor.val, 1)]).modThm fun u =>
        { u with
          lastValid := SMap.put u.lastValid r.sensor.val s.now
          blind := if r.sensor.val < 18 then u.blind.filter (· != dieOf r.sensor.val) else u.blind }
    else s.set (F.hubTempValid r.sensor.val) 0
  | none => s.set (F.hubTempValid r.sensor.val) 0

/-- When a sensor last read valid; before its first reading, the end of the reset. -/
def State.validAt (s : State) (i : Nat) : Nat := SMap.getD s.thm.lastValid i s.resetAt

/-- Sensors that have not updated for 1 ms read invalid (R460).
[DEDUCED, log entry 116] -/
def State.staleSensors (s : State) : State :=
  (List.range 28).foldl (fun s i => if s.validAt i + msec 1 ≤ s.now then s.set (F.hubTempValid i) 0 else s) s

/-- The readings that count towards T_MAX, with their sensors (R460, R461): the valid ones of sensors 0–17, and 100 °C for a blind die. -/
def State.countingTemps (s : State) : List (Int × Nat) :=
  ((List.range 18).filter fun i => s.flag (F.hubTempValid i)).map (fun i => (tempOf (s.get (F.hubTemp i)), i))
    ++ s.thm.blind.map fun d => (tThrottle, 2 * d)

/-- The hottest of some readings, the first among equals.
[DEDUCED, log entry 115] -/
def hottest : List (Int × Nat) → Option (Int × Nat)
  | [] => none
  | e :: r => match hottest r with
    | none => some e
    | some m => if e.1 < m.1 then some m else some e

/-- T_MAX, its sensor and its peak (R460, R468); with no reading that counts it stands.
[DEDUCED, log entry 115] -/
def State.showTmax (s : State) : State :=
  match hottest s.countingTemps with
  | none => s
  | some (t, i) => s.setAll [(F.hubTmax, tempWord t), (F.hubTmaxSrc, i),
      (F.hubTmaxPeak, if tempOf (s.get F.hubTmaxPeak) < t then tempWord t else s.get F.hubTmaxPeak)]

/-- A stack's reading has reached 95 °C in this sample (R462). -/
def stackRise (before after : State) : Bool :=
  (List.range 8).any fun g => after.flag (F.hubTempValid (18 + g)) && decide (tThermal ≤ tempOf (after.get (F.hubTemp (18 + g))))
    && !(before.flag (F.hubTempValid (18 + g)) && decide (tThermal ≤ tempOf (before.get (F.hubTemp (18 + g)))))

/-- THERMAL is raised once per rise, and again only after T_MAX has fallen below 90 °C (R462).
[DEDUCED, log entry 115] -/
def State.raiseThermal (s : State) (stack : Bool) : State :=
  let s1 := if s.tMax < tRearm then s.modThm fun u => { u with armed := true } else s
  if s1.thm.armed && (decide (tThermal ≤ s1.tMax) || stack) then (s1.notify atThermal).modThm fun u => { u with armed := false }
  else s1

/-- Throttling begins at 100 °C (R463); the time below 97 °C is counted anew from each sample that is not below it. -/
def State.throttle (s : State) : State :=
  let s1 := if tThrottle ≤ s.tMax ∧ s.get F.hubThermState = 0 then (s.set F.hubThermState 1).bump F.hubThermThrottles 1 else s
  s1.modThm fun u => { u with coolSince := if s.tMax < tCool then some (u.coolSince.getD s.now) else none }

/-- T_MAX reaches 108 °C: a C3 event, and the safe state by temperature (R462). -/
def State.overheat (s : State) (was : Int) : State :=
  if tFatal ≤ s.tMax ∧ was < tFatal then
    let s1 := s.reportAt inTemp 3
    if s1.safeOn = true ∧ s1.get F.hubThermState ≠ 3 then s1.set F.hubThermState 2 else s1
  else s

/-- The thermal cut (R462): every regulator but VDD_MGT switches off, and no region is powered until a reset.
[DEDUCED, log entry 117] -/
def State.thermalCut (s : State) : State :=
  let s1 := (s.endJobs (fun _ => true) stUnknownOutcome dtShed).set F.hubThermState 3
  ((((List.range 8).filter s1.regionOn).foldl (fun s g => s.regionOff g) s1).roseOff.modPwr fun u =>
    { u with powerWait := [], powering := [] }).modLvc fun u => { u with queue := u.queue.filter (·.kind != 1) }

/-- Some counting sensor reads 112 °C (R462). -/
def State.cutDue (s : State) : Bool :=
  s.get F.hubThermState != 3 && (List.range 18).any fun i => s.flag (F.hubTempValid i) && decide (tCut ≤ tempOf (s.get (F.hubTemp i)))

/-- T_MAX is computed anew and drives the actions of R462. -/
def State.heat (s : State) (was : Int) (stack : Bool) : State :=
  let s1 := ((s.showTmax.raiseThermal stack).throttle).overheat was
  if s1.cutDue then s1.thermalCut else s1

/-- A sample of the sensors, every 100 µs (R460, R462); standby has none. -/
def doTempSample (readings : List TempReading) (t : Nat) (s0 : State) : State :=
  let s := s0.at t
  if s.unpowered then s
  else
    let s1 := (readings.foldl State.takeReading s).staleSensors
    s1.heat s.tMax (stackRise s s1)

def execTempSample (readings : List TempReading) (t : Nat) (s : State) : Host.Outcome State Fault Refusal :=
  .next (doTempSample readings t s)

/-- Both sensors of a powered die have read invalid for 1 ms (R461).
[DEDUCED, log entry 116] -/
def State.dieBlind (s : State) (d : Nat) : Bool :=
  s.diePowered d && !s.thm.blind.contains d && [2 * d, 2 * d + 1].all fun i =>
    decide (s.validAt i + msec 1 ≤ s.now)

/-- Such a die is taken to read 100 °C, with a C1 event and DEGRADED (R461). -/
def doSensorBlind (d t : Nat) (s0 : State) : State :=
  let s := s0.at t
  if s.dieBlind d then
    ((((s.setAll [(F.hubTempValid (2 * d), 0), (F.hubTempValid (2 * d + 1), 0)]).modThm fun u =>
      { u with blind := u.blind ++ [d] }).reportAt inTemp 1).notify atDegraded).heat s.tMax false
  else s

def execSensorBlind (die : Fin 9) (t : Nat) (s : State) : Host.Outcome State Fault Refusal := .next (doSensorBlind die.val t s)

/-- Throttling ends when T_MAX has stayed below 97 °C for 1 s (R463). -/
def doThrottleEnd (t : Nat) (s0 : State) : State :=
  let s := s0.at t
  if s.get F.hubThermState = 1 ∧ (s.thm.coolSince.any fun a => decide (a + sec 1 ≤ s.now)) = true then s.set F.hubThermState 0 else s

def execThrottleEnd (t : Nat) (s : State) : Host.Outcome State Fault Refusal := .next (doThrottleEnd t s)

/-- A write of 1 to HUB.TMAX.CLR_PEAK (R468): PEAK reads its reset value, until the next sample.
[DESIGN CHOICE, log entry 29] -/
def clearPeak (s : State) : State := s.set F.hubTmaxPeak 0

def execTmaxPeakClear (src : Sess) (s : State) : Host.Outcome State Fault Refusal :=
  .next (s.regCommand src Principal.isHelm fun _ s => (clearPeak s, stOk))

end Sys2Proof.Machine
end

