-- ==== Sys2Proof/Machine/View.lean ====
section
/-! DEFINITION. What a read of the management space returns (R5, R442, R447): every field as it is held, but for those that show other state
(derived, below), the write-only ones, which read 0, and the buffers. -/
namespace Sys2Proof.Machine

def b2n (b : Bool) : Nat := if b then 1 else 0

/-- A signed number in a field of w bits. -/
def twos (w : Nat) (x : Int) : Nat := (x % (2 ^ w : Nat)).toNat

/-- The address of a word that reads the same in every cell of a pleat (R87 to R91, R120), at the pleat's lead cell.
[DESIGN CHOICE, log entry 10] -/
def State.leadWord (s : State) (a : Nat) : Nat :=
  if 0x2000000 ≤ a ∧ a < 0x2400000 then
    let p := (a - 0x2000000) / 0x1000
    let o := a % 0x1000
    if o = 0x18 ∨ 0x100 ≤ o then a else 0x2000000 + 0x1000 * s.chart.lead p + o
  else if 0x800000 ≤ a ∧ a < 0x880000 ∧ 0x100 ≤ a % 0x1000 ∧ a % 0x1000 < 0x160 then
    let p := 8 * ((a - 0x800000) / 0x1000) + a % 0x20 / 4
    0x800000 + 0x1000 * (s.chart.lead p / 8) + a % 0x1000 / 0x20 * 0x20 + 4 * (s.chart.lead p % 8)
  else a

/-! Each of these gives the fields of a word that show other state, by their lowest bit. -/

/-- MGT.CRED.PILOTS, the Ethernet address in use, the sessions (R431, R449). -/
def State.viewMgt (s : State) (o : Nat) : List (Nat × Nat) :=
  if o = 0x10 then [(8, s.nv.pilotKeys.length)]
  else if o = 0x28 then
    [(0, if s.flag F.mgtEthcfgEn then s.get F.mgtEthstatLink else 0), (1, if s.flag F.mgtEthcfgStatic then 1 else s.get F.mgtEthstatAddrOk)]
  else if o = 0x30 then (if s.flag F.mgtEthcfgStatic then [(0, s.get F.mgtEthaddr)] else [])
  else if o = 0x34 ∨ o = 0x38 then
    [(0, sumOf ((List.range 32).map fun i => if (SMap.find? s.sessions (64 + 32 * ((o - 0x34) / 4) + i)).isSome then 2 ^ i else 0))]
  else if 0x100 ≤ o ∧ o < 0x140 then
    match SMap.find? s.sessions ((o - 0x100) / 8) with
    | none => []
    | some r =>
      if o % 8 = 4 then [(0, r.id)]
      else [(0, match r.who with | .helm => 1 | .pilot _ => 2 | .unclaimed => 3 | .berth _ => 0),
        (2, match r.path with | .i3c => 0 | .ethernet => 1 | .inband _ => 2 | .mailbox _ => 3),
        (4, match r.who with | .pilot n => n | _ => 0), (6, b2n (s.bgBusy ((o - 0x100) / 8)))]
  else []

/-- The Leave Controller's totals and slips (R386).
[DEDUCED, log entry 122] -/
def State.viewSlip (s : State) (x : Slip) (k : Nat) : List (Nat × Nat) :=
  if k = 0 then [(0, x.kind), (4, if x.extended then 2 else 1), (6, x.owner), (8, x.target)]
  else if k = 1 then [(0, min 65535 (x.power / 100)), (16, min 65535 ((x.expiry - s.now) / 1000000000))]
  else if k = 2 then [(0, min (2 ^ 20 - 1) (x.power * x.dur / 1000000))]
  else [(0, (x.grant - s.resetAt) / 1000000)]

def State.viewLvc (s : State) (o : Nat) : List (Nat × Nat) :=
  if o = 8 then [(0, min 4095 (s.pMeas + sumOf (s.newSlips.map (·.power)) / 1000)), (12, s.lvc.slips.length),
    (18, s.lvc.queue.length), (24, b2n (s.riding || s.shed))]
  else if 0x80 ≤ o ∧ o < 0x90 then (match s.lvc.saveSlip with | some x => s.viewSlip x ((o - 0x80) / 4) | none => [])
  else if 0x100 ≤ o ∧ o < 0x300 then
    (match SMap.find? s.lvc.slips ((o - 0x100) / 16) with | some x => s.viewSlip x (o % 16 / 4) | none => [])
  else []

/-- A rail's set voltage (R372, R385): 0 while it is off; the module's own choice within the range on a rail set by AVS.
[DESIGN CHOICE, log entry 14] -/
def State.railSet (s : State) (r : Nat) : Nat :=
  let on := if r < 24 then s.regionOn (r / 3) else !s.unpowered
  if !on then 0 else if r = 24 ∨ (r < 24 ∧ r % 3 = 0) then Sys2Proof.Config.avsMv r else railMv r

/-- COLSTAT.MODE (R335): the mode of the collector as a whole.
[DESIGN CHOICE, log entry 121] -/
def State.colMode (s : State) (c : Nat) : Nat :=
  let modes := (List.range (colInputs c)).map fun i => s.inputMode c i
  if modes.contains 1 then 1 else if modes.contains 2 then 2 else if modes.contains 0 then 0 else 3

/-- The collector page's status (R335), at the first word of the page.
[DESIGN CHOICE, log entry 121] -/
def State.viewCol (s : State) (c : Nat) : List (Nat × Nat) :=
  [(0, s.colMode c)] ++ (if 1152 ≤ c ∧ c < 1160 then [(2, s.get (F.seamStatRegenLock (c - 1152)))] else [])

/-- A window's row (R199). -/
def State.viewWin (s : State) (w k : Nat) : List (Nat × Nat) :=
  let c := s.chart
  if k = 0 then [(0, c.winWord w 0)] else if k = 1 then [(0, bitsOf (c.winWord w 1) 0 14), (14, b2n (c.winShared w)),
    (15, b2n (c.winCompat w)), (16, c.winBerth w), (22, b2n (c.winValid w))]
  else if k = 2 then [(0, c.winWord w 2)] else if k = 3 then [(0, bitsOf (c.winWord w 3) 0 14)]
  else if k = 4 then [(0, c.winBudget w)] else if k = 5 then [(0, c.winHorizon w)]
  else if !c.winValid w then []
  else if k = 6 then [(0, if someSlot (c.winStart w) (c.winEnd w) (fun v => s.flag (F.hubHomemapUnknown v)) then 2 ^ 32 - 1
    else (s.home.dir.filter fun e => decide (c.winStart w ≤ e.1 ∧ e.1 ≤ c.winEnd w) && (e.2.st != 0 || e.2.poison)).length)]
  else if k = 7 then [(0, s.windowOwned w)]
  else if k = 8 then [(0, maskOf (s.possibleSharers w) % 2 ^ 32)]
  else if k = 9 then [(0, maskOf (s.possibleSharers w) / 2 ^ 32)]
  else []

/-- The hub's words (R31, R32, R93, R153, R198, R199, R233). -/
def State.viewHub (s : State) (o : Nat) : List (Nat × Nat) :=
  let c := s.chart
  if o = 4 then [(0, c.moduleId), (4, c.attached)]
  else if o = 0x50 then [(0, b2n c.ldsValid), (26, c.ldsBase / 2 ^ 26 % 64)]
  else if o = 0x54 then [(0, c.ldsBase / 2 ^ 32)]
  else if o = 0x600 then s.viewCol hubCol
  else if 0x10000 ≤ o ∧ o < 0x14000 then
    let i := (o - 0x10000) / 4
    [(0, c.pbrCell i), (10, c.pbrModule i), (14, b2n (c.pbrLocal i)), (15, b2n (c.pbrValid i))]
  else if 0x20000 ≤ o ∧ o < 0x20100 then
    let w := c.berthWord ((o - 0x20000) / 4) 0
    [(0, bitsOf w 0 4), (4, bitsOf w 4 1), (8, bitsOf w 8 3), (11, bitsOf w 11 3), (14, bitsOf w 14 3), (17, bitsOf w 17 3), (20, bitsOf w 20 3)]
  else if 0x30100 ≤ o ∧ o < 0x30200 then [(0, c.agentPort ((o - 0x30100) / 4)), (12, b2n (c.agentValid ((o - 0x30100) / 4)))]
  else if 0x30200 ≤ o ∧ o < 0x30600 then
    let k := (o - 0x30200) / 16
    if o % 16 = 0 then [(0, c.objQuota k)] else if o % 16 = 4 then [(0, s.objUse k)]
    else if o % 16 = 8 then [(0, c.grpFirst k), (16, c.grpLast k)] else []
  else if 0x40000 ≤ o ∧ o < 0x80000 then s.viewWin ((o - 0x40000) / 64) (o % 64 / 4)
  else []

/-- A directory partition's totals (R201), its owned filter by the chart slices whose slots the slice serves (R180).
[DEDUCED, log entry 122] -/
def State.viewDir (s : State) (n o : Nat) : List (Nat × Nat) :=
  if o = 4 then [(0, (s.home.dir.filter fun e => e.2.home == n && (e.2.st != 0 || e.2.poison)).length)]
  else if o = 8 then [(0, s.sliceOwned n)]
  else if o = 0xC then
    let mine := s.home.filter.filter fun e => (List.range 64).any fun v => s.chart.slotHome v == e.1 / 2 ^ 20 && s.slotSlice v == n
    [(0, mine.length), (21, min 2047 (mine.filter fun e => e.2 == 15).length)]
  else []

/-- A slice's Lodestar unit (R234).
[DEDUCED, log entry 122] -/
def State.viewLds (s : State) (n o : Nat) : List (Nat × Nat) :=
  if o = 4 then [(0, s.waiters n)]
  else if o = 0x10 then
    let slots := (List.range 64).filter fun v => s.slotSlice v == n
    [(0, match slots with
      | v :: _ => 2 ^ 20 - (s.lod.objects.filter fun e => e.1 % 64 == v).length
      | [] => 2 ^ 20),
     (31, b2n (slots.any fun v => !s.chart.slotStored v))]
  else []

/-- A home slice (R200). -/
def State.viewHom (s : State) (n o : Nat) : List (Nat × Nat) :=
  if o = 8 then [(0, s.trkUse n none)]
  else if 0x100 ≤ o ∧ o < 0x300 then
    let k := (o - 0x100) / 8
    if o % 8 = 0 then [(0, s.chart.trackers k), (12, s.chart.snoops k)]
    else [(0, s.trkUse n (some k)), (12, min 4095 (s.snpUse n k)), (24, b2n (s.home.overTrk.contains (64 * n + k))),
      (25, b2n (s.home.overSnp.contains (64 * n + k)))]
  else []

/-- A copy engine (R235). -/
def State.viewCpe (s : State) (g o : Nat) : List (Nat × Nat) :=
  let mine := s.cpy.jobs.filter fun j => j.g == g
  if o = 4 then [(0, (mine.filter (·.running)).length), (5, (mine.filter fun j => !j.running).length)]
  else if 0x100 ≤ o ∧ o < 0x200 then
    let k := (o - 0x100) / 4
    [(0, s.chart.copyShare k), (5, s.copyUse g k), (10, b2n (s.cpy.overShare.contains (64 * g + k)))]
  else []

/-- A region (R121, R123, R124). -/
def State.viewRgn (s : State) (g o : Nat) : List (Nat × Nat) :=
  let c := s.chart
  if o = 0x100 then [(0, c.alpha g)]
  else if o = 0x104 then [(0, c.yellowFloor g)]
  else if o = 0x108 then [(0, twos 21 (s.freePool g))]
  else if o = 0x10C then [(0, sumOf (((c.hems g).filter (c.hemValid g)).map fun i => max (c.hemSize g i) (s.hemUse g i)))]
  else if o = 0x110 then [(0, s.boltUsed g)]
  else if o = 0x600 then s.viewCol (1152 + g)
  else if 0x1000 ≤ o ∧ o < 0x1200 then
    let k := (o - 0x1000) / 8
    if o % 8 = 0 then [(0, c.poolCap g k)] else [(0, s.poolUse g k)]
  else if 0x10000 ≤ o ∧ o < 0x20000 then
    let i := (o - 0x10000) / 16
    let w := c.hemWord g i 0
    if o % 16 = 0 then [(0, bitsOf w 0 7), (7, bitsOf w 7 3), (10, bitsOf w 10 6), (16, bitsOf w 16 1), (17, bitsOf w 17 1)]
    else if o % 16 = 4 then [(0, c.hemSize g i)] else if o % 16 = 8 then [(0, s.hemUse g i)] else []
  else []

/-- A block's staging (R120), the pleat's at every cell. -/
def State.viewBlk (s : State) (n o : Nat) : List (Nat × Nat) :=
  if o = 0x600 then s.viewCol (1024 + n)
  else if 0x100 ≤ o ∧ o < 0x140 then
    let p := s.chart.lead (8 * n + o % 0x20 / 4)
    if o < 0x120 then [(0, s.stgUsed p fun _ => true), (12, s.stgSharedUsed p)]
    else [(0, s.stgUsed p fun m => !m.shared && m.colour != 0)]
  else []

/-- A shaper at this moment (R155): DEBT is shown accrued to the moment of the read; one that is disabled keeps its debt as it stands (R141).
[DESIGN CHOICE, log entry 151] -/
def State.viewShaper (s : State) (p j k : Nat) : List (Nat × Nat) :=
  let (rate, burst) := s.chart.shaper p j
  if k = 0 then [(0, rate), (21, if j < 8 then 0 else match (s.chart.egress p)[j - 8]? with | some (b, _, _) => b | none => 0)]
  else if k = 1 then [(0, burst)]
  else if rate = 0 then (if k = 2 then [(0, twos 23 ((s.shaperOf p j).debt / 256))] else [])
  else if k = 2 then [(0, twos 23 (((s.shaperOf p j).accrue rate burst s.now).debt / 256)), (31, b2n (s.held p j))]
  else [(0, match (s.shaperOf p j).slot with | some n => min 4095 (n - s.now / 10000) | none => 0)]

/-- A policer at this moment (R157): only the lead cell's are used. -/
def State.viewPolice (s : State) (p k i : Nat) : List (Nat × Nat) :=
  let c := s.chart
  if i = 0 then [(0, c.policeMode p k)] else if i = 1 then [(0, c.policeCir p k)] else if i = 2 then [(0, c.policeCbs p k)]
  else if i = 3 then [(0, c.policePir p k)] else if i = 4 then [(0, c.policeEbs p k)]
  else if c.policeMode p k = 0 then []
  else if i = 5 then [(0, (s.policer p k).tc / 8000000)] else if i = 6 then [(0, (s.policer p k).tx / 8000000)]
  else []

/-- A cell (R87 to R91, R154, R155, R157): BIND.BOUND reads 0 on a multi-logical pleat, every LDBIND and LDTACK on a single-logical one
(R89, R90). -/
def State.viewCel (s : State) (p o : Nat) : List (Nat × Nat) :=
  let c := s.chart
  if o = 0 then [(0, c.lead p), (10, c.widthCode p), (12, c.personality p), (14, b2n (c.fmPort p)), (16, c.rateMax p), (20, c.flitModes p)]
  else if o = 8 then (if c.isDsp p && s.flag (F.celBindMld p) then [(0, 0)] else [])
  else if 0x40 ≤ o ∧ o < 0x100 ∧ s.flag (F.celBindMld p) = false then [(0, 0), (1, 0), (7, 0), (8, 0), (15, 0), (16, 0), (24, 0), (26, 0)]
  else if o = 0x10 then
    [(16, match s.drainTimes (pointOf p none) with | e :: _ => min 65535 (s.outstanding (pointOf p none) e.1) | [] => 0)]
  else if o = 0x1C then [(5, b2n (s.perstOut (p / 4)))]
  else if 0x80 ≤ o ∧ o < 0x100 ∧ o % 8 = 4 then
    let pt := pointOf p (some ((o - 0x80) / 8))
    [(0, match s.drainTimes pt with | e :: _ => min 65535 (s.outstanding pt e.1) | [] => 0)]
  else if 0x200 ≤ o ∧ o < 0x220 then
    let t := (o - 0x200) / 4
    [(0, c.classDisc p t), (2, c.classWeight p t), (10, b2n (c.shaperRate p t != 0))]
  else if 0x220 ≤ o ∧ o < 0x320 then s.viewShaper p ((o - 0x220) / 16) (o % 16 / 4)
  else if o = 0x600 then s.viewCol p
  else if 0x800 ≤ o ∧ o < 0x1000 then s.viewPolice p ((o - 0x800) / 32) (o % 32 / 4)
  else []

/-- A gate (R247, R249). -/
def State.viewGat (s : State) (n o : Nat) : List (Nat × Nat) :=
  if o = 0 then [(12, b2n (decide (0x400 ≤ n) || (s.chart.isLead n && (s.chart.isDsp n || s.chart.isFnl n))))]
  else if 0x100 ≤ o ∧ o < 0x900 then
    let w := s.chart.gateWord n ((o - 0x100) / 32)
    let k := o % 32 / 4
    if k = 1 ∨ k = 3 then [(0, bitsOf (w k) 0 14)]
    else if k = 6 then (List.range 5).map fun i => (i, bitsOf (w 6) i 1)
    else [(0, w k)]
  else []

/-- The chart's own registers (R58). -/
def State.viewCht (s : State) (o : Nat) : List (Nat × Nat) :=
  if o = 4 then [(6, s.nv.activeSlot)]
  else if o = 0x10 then [(0, s.effGen)]
  else if o = 0x14 then [(0, s.nv.baseGen)]
  else if o = 0x18 then [(0, s.nv.floor)]
  else if o = 0x1C then [(0, s.nv.journal.length), (16, (s.nv.log.length + 65535) / 65536)]
  else if 0x40 ≤ o ∧ o < 0x70 then [(0, leField s.chart.effDigest (o - 0x40) 4)]
  else []

/-- A counter's words (R426).
[DEDUCED, log entry 122] -/
def State.viewCtr (s : State) (k w : Nat) : List (Nat × Nat) :=
  let c := s.ctr k
  if w = 0 then [(0, c.event), (8, c.mode), (10, c.sub), (18, c.berth), (24, b2n c.berthEn), (25, b2n c.chain), (26, b2n c.en),
    (28, b2n (c.event != 0 && c.bad (ctrPlace k).1))]
  else if w = 1 then [(0, c.thresh)]
  else if w = 2 then [(0, c.val % 2 ^ 32)]
  else [(0, c.val / 2 ^ 32), (31, b2n c.ovf)]

/-- The fields of a word that show other state.
[DESIGN CHOICE, log entry 10] -/
def State.derived (s : State) (a : Nat) : List (Nat × Nat) :=
  match ctrOf a with
  | some (k, w) => s.viewCtr k w
  | none =>
    if a < 0x10000 then s.viewMgt a
    else if 0x12100 ≤ a ∧ a < 0x12200 then (if a % 8 = 0 then [(0, s.railSet ((a - 0x12100) / 8))] else [])
    else if 0x13000 ≤ a ∧ a < 0x14000 then s.viewLvc (a - 0x13000)
    else if 0x14100 ≤ a ∧ a < 0x14520 then (if a % 16 = 0 then [(16, s.shown ((a - 0x14100) / 16))] else [])
    else if 0x100000 ≤ a ∧ a < 0x200000 then s.viewHub (a - 0x100000)
    else if 0x200000 ≤ a ∧ a < 0x210000 then s.viewDir ((a - 0x200000) / 0x100) (a % 0x100)
    else if 0x210000 ≤ a ∧ a < 0x300000 then s.viewLds ((a - 0x210000) / 0x100) (a % 0x100)
    else if 0x300000 ≤ a ∧ a < 0x400000 then s.viewHom ((a - 0x300000) / 0x1000) (a % 0x1000)
    else if 0x400000 ≤ a ∧ a < 0x410000 then s.viewCpe ((a - 0x400000) / 0x1000) (a % 0x1000)
    else if 0x800000 ≤ a ∧ a < 0x1000000 then s.viewBlk ((a - 0x800000) / 0x1000) (a % 0x1000)
    else if 0x1000000 ≤ a ∧ a < 0x2000000 then s.viewRgn ((a - 0x1000000) / 0x100000) (a % 0x100000)
    else if 0x2000000 ≤ a ∧ a < 0x2800000 then s.viewCel ((a - 0x2000000) / 0x1000) (a % 0x1000)
    else if 0x2800000 ≤ a ∧ a < 0x3000000 then s.viewGat ((a - 0x2800000) / 0x1000) (a % 0x1000)
    else if 0x4000000 ≤ a ∧ a < 0x6000000 then s.viewCht (a - 0x4000000)
    else []

/-- A field as a read returns it (R5): what it shows, 0 when it is write-only. -/
def State.readField (s : State) (d : List (Nat × Nat)) (f : FieldDesc) : Nat :=
  match f.access with
  | .wo => 0
  | _ => (match d.find? (fun e => e.1 == f.fld.lsb) with
    | some e => e.2
    | none => s.get f.fld) % 2 ^ f.fld.width

/-- A counter's word in a buffer of the Tally (R420). -/
def TallyBuf.counter (b : TallyBuf) (k : Nat) : Nat :=
  let pl := ctrPlace k
  let off := b.unpowered.contains (ctrRegion k) || (pl.1 == 0 && b.unpowered.contains (8 + pl.2.1))
  let c := SMap.getD b.ctrs k newCtr
  if off then 2 ^ 50 else c.val + (if c.ovf then 2 ^ 48 else 0) + (if c.chain then 2 ^ 49 else 0)

/-- A word of a buffer of the Tally (R420). -/
def TallyBuf.word (b : TallyBuf) (o : Nat) : Nat :=
  if o = 0 then b.seq else if o = 8 then b.time % 2 ^ 32 else if o = 0xC then b.time / 2 ^ 32 % 2 ^ 32 else if o = 0x10 then b2n b.frozen
  else if 0x40 ≤ o ∧ o < 0x40 + 8 * 1824 then b.counter ((o - 0x40) / 8) / (if o % 8 = 0 then 1 else 2 ^ 32) % 2 ^ 32
  else if 0x4000 ≤ o ∧ o < 0x104000 then
    SMap.getD b.bins (32 * (0x1080000 + 0x100000 * ((o - 0x4000) / 0x20000) + (o - 0x4000) % 0x20000)) 0
  else 0

/-- The buffers of the management space, which are no registers (R58, R397, R427). -/
def bufferAt (a : Nat) : Bool :=
  a == 0x4000084 || a == 0x11204 || decide (0x6000000 ≤ a ∧ a < 0x8000000)
    || decide (0x3200000 ≤ a ∧ a < 0x3304000) || decide (0x3400000 ≤ a ∧ a < 0x3504000)

/-- The word an address is mapped to (R442, R448). -/
def mapped (a : Nat) : Bool := a % 4 == 0 && (bufferAt a || (wordAt a).isSome)

/-- A word of the image buffer (R58). -/
def State.bufWord (s : State) (o : Nat) : Nat :=
  sumOf ((List.range 4).map fun i => SMap.getD s.chtu.buf (o + i) 0 * 256 ^ i)

/-- The word at an address of the management space, but for LOGREAD.DATA and RETAIN.DATA, whose reads move a pointer. -/
def State.word (s : State) (a0 : Nat) : Nat :=
  let a := s.leadWord a0
  if 0x6000000 ≤ a then s.bufWord (a - 0x6000000)
  else if 0x3200000 ≤ a ∧ a < 0x3304000 then s.tal.buf0.word (a - 0x3200000)
  else if 0x3400000 ≤ a ∧ a < 0x3504000 then s.tal.buf1.word (a - 0x3400000)
  else match wordAt a with
    | none => 0
    | some w => sumOf (w.fields.map fun f => s.readField (s.derived a) f * 2 ^ f.fld.lsb)

/-- A read by a principal: the completion record of a management copy job carries the code its reader's audience shows (R210, R330). -/
def State.readWord (s : State) (p : Principal) (a : Nat) : Nat × State :=
  if a = 0x4000084 then ((readLog s).1, (readLog s).2)
  else if a = 0x11204 then ((retainAccess none s).1, (retainAccess none s).2)
  else
    let v := s.word a
    if 0x400000 ≤ a ∧ a < 0x408000 ∧ a % 0x1000 = 0x280 then (v - bitsOf v 4 4 * 16 + 16 * s.shown p.audience, s) else (v, s)

/-- The registers Get Binding State returns for a pleat (R72): CEL.BIND, LDBIND, TACK, TACKSTAT and every LDTACK. -/
def State.bindingState (s : State) (p : Nat) : List Nat :=
  let b := 0x2000000 + 0x1000 * p
  s.word (b + 8) :: ((List.range 16).map fun k => s.word (b + 0x40 + 4 * k)) ++ [s.word (b + 0xC), s.word (b + 0x10)]
    ++ (List.range 32).map fun k => s.word (b + 0x80 + 4 * k)

def execGetBindingState (src : Sess) (p : Fin 1024) (s : State) : Host.Outcome State Fault Refusal :=
  .next (s.command src Principal.isPilot fun _ s =>
    if s.reach (0x2000000 + 0x1000 * p.val) then s.respond src .success stOk 0 (s.bindingState p.val)
    else s.respond src .invalidInput stDenied 0 [])

/-- The counters of a berth's page (R425), in ascending number; a chained partner stands with its even counter. -/
def TallyBuf.pageCounters (b : TallyBuf) (k : Nat) : List Nat :=
  (b.ctrs.filter fun e => e.2.berthEn && e.2.berth == k && !e.2.follows e.1).map (·.1)

/-- A word of berth k's counter page (R424, R425), none where the Helm has not enabled the page: the read completes with Unsupported
Request.
[DEDUCED, log entry 119] -/
def State.pageWord (s : State) (k o : Nat) : Option Nat :=
  let b := if s.get F.talStatFront = 0 then s.tal.buf0 else s.tal.buf1
  let cs := b.pageCounters k
  let outs := SMap.getD s.tal.outputs k []
  let qs := (outs.take 28).flatMap fun p => (List.range 8).map fun t => 1024 * (p / 128) + 8 * (p % 128) + t
  if !(if k < 32 then s.get F.talBerthpageLo else s.get F.talBerthpageHi).testBit (k % 32) then none
  else if o = 0 then some b.seq
  else if o = 8 then some (b.time % 2 ^ 32)
  else if o = 0xC then some (b.time / 2 ^ 32 % 2 ^ 32)
  else if o = 0x10 then some (min 124 cs.length + 65536 * qs.length)
  else if o = 0x14 then some (b2n (decide (124 < cs.length)) + 2 * b2n (decide (28 < outs.length)))
  else if 0x40 ≤ o ∧ o < 0x800 then
    match (cs.take 124)[(o - 0x40) / 16]? with
    | none => some 0
    | some n =>
      let c := SMap.getD b.ctrs n newCtr
      let d := SMap.getD b.ctrs (n + 1) newCtr
      let chained := n % 2 == 0 && d.chain
      let v := c.val + (if chained then 2 ^ 48 * d.val else 0)
      if o % 16 = 0 then some (n + 2 ^ 16 * c.event + 2 ^ 24 * (b2n c.ovf + 2 * b2n chained))
      else some (v / 2 ^ (32 * (o % 16 / 4 - 1)) % 2 ^ 32)
  else if 0x800 ≤ o ∧ o < 0x1000 then some (qs.getD ((o - 0x800) / 2) 0 + 65536 * qs.getD ((o - 0x800) / 2 + 1) 0)
  else if 0x1000 ≤ o ∧ o < 0x8000 then
    match qs[(o - 0x1000) / 128]? with
    | none => some 0
    | some q => some (b.word (0x4000 + 0x20000 * (q / 1024) + 128 * (q % 1024) + (o - 0x1000) % 128))
  else some 0

end Sys2Proof.Machine
end

