-- ==== Sys2Proof/Machine/Sessions.lean ====
section
/-! DEFINITION. Management endpoints and sessions (R428 to R437): the paths, MCTP packets and control commands, the management Ethernet,
SPDM. -/
namespace Sys2Proof.Machine

/-- The path of a message as a session keeps it. -/
def pathOf : MgtPath → Path
  | .i3c => .i3c
  | .ethernet => .ethernet
  | .inband p => .inband p.val
  | .mailbox v => .mailbox v.val

/-- In-band management runs (R428): from READY, in P0 and P1, outside the safe state.
[DESIGN CHOICE, log entry 126] -/
def State.inbandUp (s : State) : Bool := s.ready && s.get F.fltSafeState == 0 && s.get F.rstPstateCur != 2

/-- A path is available (R428): I3C from step 6 of the power-up sequence, the Ethernet too while it is in service, in-band through the lead
cell of an FM-port USP whose link is up, a mailbox through its virtual switch's USP.
[DESIGN CHOICE, log entry 126] -/
def State.pathUp (s : State) : MgtPath → Bool
  | .i3c => decide (4 ≤ s.get F.rstStatPhase)
  | .ethernet => decide (4 ≤ s.get F.rstStatPhase) && s.flag F.mgtEthcfgEn
  | .inband p => s.inbandUp && s.chart.isLead p.val && s.chart.isUsp p.val && s.chart.fmPort p.val && s.flag (F.celLinkstatUp p.val)
  | .mailbox v => s.inbandUp && s.chart.vsValid v.val && s.flag (F.celLinkstatUp (s.chart.vsUsp v.val))

/-- A path that carries MCTP (R428): every one but a berth mailbox. -/
def carriesMctp : MgtPath → Bool
  | .mailbox _ => false
  | _ => true

/-- An MCTP control command acts where its path is available (R428, R429). -/
def State.mctpControl (s : State) (path : MgtPath) (act : State → State) : State :=
  if s.pathUp path && carriesMctp path then act s else s

/-- Set Endpoint ID (R429): the null and broadcast IDs are refused as invalid data.
[PRESUMED, log entry 70] -/
def doSetEndpointId (path : MgtPath) (eid : Nat) (s : State) : State :=
  s.mctpControl path fun s =>
    if eid = 0 ∨ eid = 0xFF then s.emit (.mctpControl (pathOf path) 2 [])
    else (s.set F.mgtEid eid).emit (.mctpControl (pathOf path) 0 [eid])

def execSetEndpointId (path : MgtPath) (eid : Fin 256) (s : State) : Host.Outcome State Fault Refusal :=
  .next (doSetEndpointId path eid.val s)

/-- Get Endpoint ID (R429). -/
def doGetEndpointId (path : MgtPath) (s : State) : State :=
  s.mctpControl path fun s => s.emit (.mctpControl (pathOf path) 0 [s.get F.mgtEid])

def execGetEndpointId (path : MgtPath) (s : State) : Host.Outcome State Fault Refusal := .next (doGetEndpointId path s)

/-- The message types the endpoint supports (R429). -/
def mctpTypes : List Nat := [0, 5, 6, 7]

/-- Get Version Support (R429): the versions of a supported type; invalid data for another.
[PRESUMED, log entry 70] -/
def doGetVersionSupport (path : MgtPath) (mtype : Nat) (s : State) : State :=
  s.mctpControl path fun s =>
    if mctpTypes.contains mtype || mtype == 0xFF then s.emit (.mctpControl (pathOf path) 0 (Sys2Proof.Config.mctpVersions mtype))
    else s.emit (.mctpControl (pathOf path) 2 [])

def execGetVersionSupport (path : MgtPath) (mtype : Fin 256) (s : State) : Host.Outcome State Fault Refusal :=
  .next (doGetVersionSupport path mtype.val s)

/-- Get Message Type Support (R429). -/
def doGetMessageTypeSupport (path : MgtPath) (s : State) : State :=
  s.mctpControl path fun s => s.emit (.mctpControl (pathOf path) 0 mctpTypes)

def execGetMessageTypeSupport (path : MgtPath) (s : State) : Host.Outcome State Fault Refusal :=
  .next (doGetMessageTypeSupport path s)

/-- Get Endpoint UUID (R429).
[PRESUMED, log entry 70] -/
def doGetEndpointUuid (path : MgtPath) (s : State) : State :=
  s.mctpControl path fun s => s.emit (.mctpControl (pathOf path) 0 Sys2Proof.Config.endpointUuid)

def execGetEndpointUuid (path : MgtPath) (s : State) : Host.Outcome State Fault Refusal := .next (doGetEndpointUuid path s)

/-- The number of a path among the messages being assembled. -/
def pathNumber : MgtPath → Nat
  | .i3c => 0
  | .ethernet => 1
  | .inband p => 2 + p.val
  | .mailbox v => 1026 + v.val

/-- The largest packet body of a path (R430, R431), in bytes; none is stated in-band.
[DESIGN CHOICE, log entry 71] -/
def bodyFits (path : MgtPath) (n : Nat) : Bool :=
  match path with
  | .i3c => decide (n ≤ 64)
  | .ethernet => decide (n ≤ 1024)
  | _ => true

/-- A whole message has arrived (R429, R434): an unsupported type, or a type 0x07 outside a session, is discarded and counted; the others act
as the commands they carry.
[DESIGN CHOICE, log entry 127] -/
def State.messageDone (s : State) (mtype : Nat) : State :=
  if !mctpTypes.contains mtype then s.bump F.mgtMctpstatBadtype 1
  else if mtype = 7 then s.bump F.mgtMctpstatUnsecured 1
  else s

/-- An MCTP packet (R428 to R432): a first packet begins its message anew, a later one without a first is discarded, a last one ends it.
[DESIGN CHOICE, log entry 127] -/
def takePacket (path : MgtPath) (pkt : MctpPacket) (s : State) : State :=
  if s.pathUp path && carriesMctp path && bodyFits path pkt.body.length then
    let k := 16 * pathNumber path + pkt.tag.val
    match (if pkt.som then some (pkt.mtype.val, []) else SMap.find? s.mgt.asm k) with
    | none => s
    | some (mtype, body) =>
      if pkt.eom then (s.modMgt fun u => { u with asm := SMap.del u.asm k }).messageDone mtype
      else s.modMgt fun u => { u with asm := SMap.put u.asm k (mtype, body ++ pkt.body.map (·.val)) }
  else s

/-- [DESIGN CHOICE, log entry 71] -/
def execMctpPacket (path : MgtPath) (pkt : MctpPacket) (s : State) : Host.Outcome State Fault Refusal :=
  .next (match path with
    | .ethernet => s
    | _ => takePacket path pkt s)

/-- An IPv4 address is held (R431).
[DESIGN CHOICE, log entry 71] -/
def State.hasIpv4 (s : State) : Bool := s.flag F.mgtEthcfgStatic || s.flag F.mgtEthstatAddrOk

/-- What a datagram does (R431).
[DESIGN CHOICE, log entry 71] -/
def State.takeDatagram (s : State) (d : Datagram) : State :=
  match d with
  | .mctp pkt => takePacket .ethernet pkt s
  | .icmpEcho v6 => if v6 || s.hasIpv4 then s.emit (.netAnswer d) else s
  | .arp => if s.hasIpv4 then s.emit (.netAnswer d) else s
  | .neighbour => s.emit (.netAnswer d)
  | .dhcpLease a => if s.flag F.mgtEthcfgStatic then s else s.setAll [(F.mgtEthipv4, a.val), (F.mgtEthstatAddrOk, 1)]
  | .other => s

/-- A datagram of the management Ethernet (R431): beyond 10,000 in one second it is discarded and counted.
[DESIGN CHOICE, log entry 71] -/
def doUdpDatagram (d : Datagram) (t : Nat) (s0 : State) : State :=
  let s := s0.at t
  if s.pathUp .ethernet then
    let n := if s.mgt.ethSecond = s.now / sec 1 then s.mgt.ethCount + 1 else 1
    let s1 := (s.set F.mgtEthstatLink 1).modMgt fun u => { u with ethSecond := s.now / sec 1, ethCount := n }
    if 10000 < n then s1.bump F.mgtEthstatDropped 1 else s1.takeDatagram d
  else s

def execUdpDatagram (d : Datagram) (t : Nat) (s : State) : Host.Outcome State Fault Refusal := .next (doUdpDatagram d t s)

/-- The static address (R430).
[DESIGN CHOICE, log entry 17] -/
def staticAddress : Nat := 0x38 + Sys2Proof.Config.straps.val

/-- ENTDAA, or SETDASA to a static address, gives the dynamic address (R430).
[PRESUMED, log entry 70] -/
def doI3cAddressAssign (fixed : Option Nat) (da : Nat) (s : State) : State :=
  if s.pathUp .i3c then
    match fixed with
    | none => if s.get F.mgtI3cstatDa = 0 then s.set F.mgtI3cstatDa da else s
    | some a => if a = staticAddress then s.set F.mgtI3cstatDa da else s
  else s

def execI3cAddressAssign (fixed : Option (Fin 128)) (da : Fin 128) (s : State) : Host.Outcome State Fault Refusal :=
  .next (doI3cAddressAssign (fixed.map (·.val)) da.val s)

/-- The Helm identity slot in force (R435): programmed and not revoked. -/
def State.helmSlot (s : State) : Option Nat :=
  (List.range 4).find? fun i => (s.get F.mgtCredHelmProg).testBit i && !(s.get F.mgtCredHelmRev).testBit i

/-- The principal a key's digest names on a path (R428, R435, R436): on a mailbox, the agent of its virtual switch's berth alone; elsewhere the
Helm, a Pilot, and anyone while no Helm identity slot is programmed.
[DESIGN CHOICE, log entry 128] -/
def State.whoHolds (s : State) (path : MgtPath) (digest : List Nat) : Option Principal :=
  match path with
  | .mailbox v => if SMap.find? s.nv.berthKeys (s.chart.vsBerth v.val) = some digest then some (.berth (s.chart.vsBerth v.val)) else none
  | _ =>
    if s.get F.mgtCredHelmProg = 0 then some .unclaimed
    else if s.helmSlot.any fun i => SMap.find? s.nv.helmKeys i == some digest then some .helm
    else ((List.range 4).find? fun n => SMap.find? s.nv.pilotKeys n == some digest).map .pilot

/-- Where a session of a path would stand (R437): the mailbox session of the berth, or the lowest free slot; none where the limit is reached.
[DESIGN CHOICE, log entry 72] -/
def State.freeSession (s : State) (path : MgtPath) : Option Nat :=
  match path with
  | .mailbox v => if (SMap.find? s.sessions (64 + s.chart.vsBerth v.val)).isSome then none else some (64 + s.chart.vsBerth v.val)
  | _ => (List.range 8).find? fun i => (SMap.find? s.sessions i).isNone

/-- KEY_EXCHANGE (R433 to R437): Busy at the limit; an SPDM error, counted, for a key that names no principal; otherwise a session opens.
[DESIGN CHOICE, log entries 72, 128] -/
def doKeyExchange (path : MgtPath) (key : List Nat) (id t : Nat) (s0 : State) : State :=
  let s := s0.at t
  if s.pathUp path then
    match s.freeSession path with
    | none => s.emit (.spdm (pathOf path) .busy)
    | some n =>
      match (if isPublicKey key then s.whoHolds path (sha384 key) else none) with
      | none => (s.bump F.mgtMctpstatAuthfail 1).emit (.spdm (pathOf path) .error)
      | some p => ({ s with sessions := SMap.put s.sessions n ⟨p, pathOf path, sha384 key, id, s.now⟩ } : State).emit
          (.spdm (pathOf path) (.opened id))
  else s

def execKeyExchange (path : MgtPath) (key : List (Fin 256)) (id : Fin (2 ^ 32)) (t : Nat) (s : State) : Host.Outcome State Fault Refusal :=
  .next (doKeyExchange path (key.map (·.val)) id.val t s)

/-- What the fuse map holds, for its measurement. -/
def State.fuseContents (s : State) : List (List Nat) :=
  [[s.get F.mgtCredHelmProg, s.get F.mgtCredHelmRev, s.get F.chtKeyslotProgrammed, s.get F.chtKeyslotRevoked],
    (List.range 8).map (fun i => s.get (F.rstPinfusePerst i)), [s.get (F.rstPinfuseAttn 0), s.get (F.rstPinfuseAttn 1), s.get F.rstPinfuseMgeRst],
    s.nv.attnFuses, s.nv.fuseMap.map (·.1)] ++ (s.nv.helmKeys.map fun e => e.1 :: e.2) ++ s.nv.chartKeys.map fun e => (4 + e.1) :: e.2

/-- What the credential store holds, for its measurement: the Pilots' keys and the berths'. -/
def State.credentials (s : State) : List (List Nat) :=
  (s.nv.pilotKeys.map fun e => e.1 :: e.2) ++ s.nv.berthKeys.map fun e => (4 + e.1) :: e.2

/-- GET_MEASUREMENTS (R433): each block's index, prefix and digest.
[DESIGN CHOICE, log entry 72] -/
def doGetMeasurements (path : MgtPath) (s : State) : State :=
  if s.pathUp path then
    s.emit (.spdm (pathOf path) (.measurements [(1, 0, Sys2Proof.Config.firmwareDigest),
      (2, 0, Sys2Proof.Config.fuseDigest s.fuseContents), (3, s.effGen, s.chart.effDigest),
      (4, 0, Sys2Proof.Config.credentialDigest s.credentials)]))
  else s

def execGetMeasurements (path : MgtPath) (s : State) : Host.Outcome State Fault Refusal := .next (doGetMeasurements path s)

/-- HEARTBEAT (R437): the session lives on. -/
def doHeartbeat (src : Sess) (t : Nat) (s0 : State) : State :=
  let s := s0.at t
  match s.session src with
  | none => s
  | some r => (s.touch src).emit (.spdm r.path .heartbeatAck)

def execHeartbeat (src : Sess) (t : Nat) (s : State) : Host.Outcome State Fault Refusal := .next (doHeartbeat src t s)

/-- END_SESSION (R437). -/
def doEndSession (src : Sess) (s : State) : State :=
  match s.session src with
  | none => s
  | some r => (s.endSession (sessNum src)).emit (.spdm r.path .ended)

def execEndSession (src : Sess) (s : State) : Host.Outcome State Fault Refusal := .next (doEndSession src s)

/-- No message for 10 s (R437): the session ends. -/
def doSessionHeartbeatTimeout (src : Sess) (t : Nat) (s0 : State) : State :=
  let s := s0.at t
  match s.session src with
  | none => s
  | some r => if r.last + sec 10 ≤ s.now then s.endSession (sessNum src) else s

def execSessionHeartbeatTimeout (src : Sess) (t : Nat) (s : State) : Host.Outcome State Fault Refusal :=
  .next (doSessionHeartbeatTimeout src t s)

end Sys2Proof.Machine
end

