-- ==== Sys2Proof/Machine/Mailbox.lean ====
section
/-! DEFINITION. The berth mailbox (R445, R446). -/
namespace Sys2Proof.Machine

/-- The mailbox of a virtual switch; after reset it holds nothing. -/
def State.mailbox (s : State) (v : Nat) : Mailbox := SMap.getD s.mgt.mail v ⟨false, false, false, 0, 0, 0, [], []⟩

def State.setMailbox (s : State) (v : Nat) (m : Mailbox) : State := s.modMgt fun u => { u with mail := SMap.put u.mail v m }

/-- A write that reaches BAR0 of a management function (R236, R445): the management gate permits it under its virtual switch's berth. -/
def State.mailWrite (s : State) (v : Fin 64) (line : Nat) (act : State → State) : State :=
  if s.pathUp (.mailbox v) then
    let g := s.gateCheck gateMgt [line] (s.chart.vsBerth v.val) 2 (s.chart.vsUsp v.val)
    if g.1 = [] then act g.2 else g.2
  else s

/-- GO (R445, R446): ignored while BUSY; READY clears; a length outside 1 to 12,288 is an error, otherwise the request is submitted.
[DESIGN CHOICE, log entry 76] -/
def doMailboxGo (v : Fin 64) (line : Nat) (s : State) : State :=
  s.mailWrite v line fun s =>
    let m := s.mailbox v.val
    if m.busy then s
    else if m.reqLen = 0 ∨ 12288 < m.reqLen then s.setMailbox v.val { m with ready := false, error := true }
    else s.setMailbox v.val { m with ready := false, error := false, busy := true, goAt := s.now }

def execMailboxGo (v : Fin 64) (line : Fin (2 ^ 46)) (s : State) : Host.Outcome State Fault Refusal := .next (doMailboxGo v line.val s)

/-- The request of a mailbox has been taken: the CK_MGT cycle after GO.
[DESIGN CHOICE, log entry 76] -/
def State.mailTaken (s : State) (m : Mailbox) : Bool := m.busy && decide (m.goAt + mgtCycle ≤ s.now)

/-- ABORT (R445, R446): a pending request not yet taken is discarded.
[DESIGN CHOICE, log entry 76] -/
def doMailboxAbort (v : Fin 64) (line : Nat) (s : State) : State :=
  s.mailWrite v line fun s =>
    let m := s.mailbox v.val
    if m.busy && !s.mailTaken m then s.setMailbox v.val { m with busy := false } else s

def execMailboxAbort (v : Fin 64) (line : Fin (2 ^ 46)) (s : State) : Host.Outcome State Fault Refusal :=
  .next (doMailboxAbort v line.val s)

/-- A write of MB.REQLEN or of MB.REQ (R445, R446), a naturally aligned word; an access of any other size or alignment has no effect
(R6), nor has a write of a word that is not RW; the buffer takes nothing while BUSY. -/
def doMailboxReqWrite (v : Fin 64) (line off size w : Nat) (s : State) : State :=
  s.mailWrite v line fun s =>
    let m := s.mailbox v.val
    if size ≠ 4 ∨ off % 4 ≠ 0 then s
    else if off = 8 then s.setMailbox v.val { m with reqLen := w % 2 ^ 14 }
    else if 0x1000 ≤ off ∧ off < 0x4000 ∧ m.busy = false then s.setMailbox v.val { m with req := SMap.put m.req off w }
    else s

def execMailboxReqWrite (v : Fin 64) (line : Fin (2 ^ 46)) (off : Fin 32768) (w : BarWrite) (s : State) :
    Host.Outcome State Fault Refusal := .next (doMailboxReqWrite v line.val off.val w.size.val w.word.val s)

/-- The words of a response, as they stand in MB.RSP.
[DESIGN CHOICE, log entry 76] -/
def rspWords (l : List Nat) : SMap Nat :=
  (List.range ((l.length + 3) / 4)).map fun i => (0x4000 + 4 * i, leField l (4 * i) 4)

/-- A response, or that the request was malformed (R445): READY is set and BUSY clears, or ERROR is set. -/
def doMailboxResponse (v : Nat) (rsp : Option (List Nat)) (t : Nat) (s0 : State) : State :=
  let s := s0.at t
  let m := s.mailbox v
  if s.mailTaken m then
    match rsp with
    | none => s.setMailbox v { m with busy := false, error := true }
    | some l =>
      if l.length ≤ 16384 then
        s.setMailbox v { m with busy := false, ready := true, rspLen := l.length, rsp := (rspWords l).foldl (fun b e => SMap.put b e.1 e.2) m.rsp }
      else s
  else s

def execMailboxResponse (v : Fin 64) (rsp : Option (List (Fin 256))) (t : Nat) (s : State) : Host.Outcome State Fault Refusal :=
  .next (doMailboxResponse v.val (rsp.map fun l => l.map (·.val)) t s)

/-- A word of the mailbox as a read of BAR0 returns it (R445): MB.ATTN carries the code shown to the berth. -/
def State.mailWord (s : State) (v off : Nat) : Nat :=
  let m := s.mailbox v
  if off = 4 then b2n m.busy + 2 * b2n m.ready + 4 * b2n m.error
  else if off = 8 then m.reqLen
  else if off = 0xC then m.rspLen
  else if off = 0x10 then 16 * s.shown (s.chart.vsBerth v)
  else if 0x1000 ≤ off ∧ off < 0x4000 then SMap.getD m.req off 0
  else if 0x4000 ≤ off ∧ off < 0x8000 then SMap.getD m.rsp off 0
  else 0

end Sys2Proof.Machine
end

