-- ==== Sys2Proof/Machine/Switch.lean ====
section
/-! DEFINITION. The switch core's commands (R95 to R159): a message arrives, asks for admission, is chosen and sent; gaps, filler and
demotion; weights, shapers' wheel slots, queue histograms. -/
namespace Sys2Proof.Machine

/-- A header's payload and header field as a message of this block, before its charge.
[DESIGN CHOICE, log entry 36] -/
def newMsg (p : Nat) (h : MsgHeader) (point tack cls : Nat) (berth : Option Nat) (colour now : Nat) : Msg :=
  { id := h.id, src := p, kind := h.kind, fc := h.fc, out := h.out.val, point := point, tack := tack, cls := cls, berth := berth,
    colour := colour, bytes := h.bytes.val, header := h.header.val, addr := h.addr.val, access := h.access.val, len := h.len.val,
    coh := h.coh, denied := [], shared := false, arrived := now, qcls := 0, own := none, any := none, tb := 0, ta := 0, pool := 0,
    cut := false, admitted := 0, inBolt := 0, sent := 0, granted := false, left := 0, filled := false, orphan := 0 }

/-- A message lies within the credits of a class beside what holds them (R97): on FNL in segments of its partition, elsewhere in headers and
16 B data credits, or in messages.
[DESIGN CHOICE, log entry 40] -/
def State.partFits (s : State) (m : Msg) (fc : FcClass) : Bool :=
  let n := s.chart.cells m.src
  if s.chart.isFnl m.src then
    decide (s.stgDedicated m.src fc + m.charge true fc ≤ n * stgPart (s.chart.personality m.src) fc)
  else m.fc != fc || (stgPart (s.chart.personality m.src) fc != 0 && decide ((s.fcHeld m.src fc).1 + 1 ≤ n * fcHeaders fc)
    && decide ((s.fcHeld m.src fc).2 + m.dataCredits ≤ n * fcData fc))

/-- Charge a message to staging (R98): to its class's dedicated partition, and when it is green and the shared area has room, on to
the shared area, its dedicated credits freed at once. A message beyond its class's partition is a receiver overflow (R97): CXL
and PCIe leave it to PCIe Base 6.0 and FNL to the credit rules of R285; it is not stored here. -/
def State.stage (s : State) (m : Msg) : State :=
  let n := s.chart.cells m.src
  if s.partFits m m.fc ∧ s.partFits m .data then
    let up := m.colour == 0 && decide (s.stgSharedUsed m.src + m.stg ≤ n * stgShared (s.chart.personality m.src))
    let s1 := ((s.modCore fun u => { u with staged := u.staged ++ [{ m with shared := up }] }).notePeak m.src).countCell
      m.src 0x10 m.berth m.stg
    if up then s1.returnCredits m else s1
  else s

/-- A response meets its request's record (R77), which leaves the outstanding count (R80). -/
def State.recordOf (s : State) (p id : Nat) : Option ReqRecord :=
  s.core.records.find? fun r => pointLead r.point == p && r.id == id

/-- A response arrives: with a record it takes the record's tack, class and berth; without one it is discarded as unexpected.
[DEDUCED, log entry 43] -/
def State.responseIn (s : State) (p : Nat) (h : MsgHeader) : State :=
  match s.recordOf p h.answers with
  | none => s.bump (F.celStaleRspDiscard p) 1
  | some r =>
    let s := if r.denied = [] then s else s.emit (.answerParts r.src r.id r.denied)
    (s.modCore fun u => { u with records := u.records.filter (· != r) }).stage
      (newMsg p h r.point r.tack (if h.kind = .snoopResponse then 6 else r.cls) r.berth 0 s.now)

/-- A message of an output queue is held there already (R109). -/
def State.queueHolds (s : State) (o t : Nat) (berth : Option Nat) : Bool :=
  s.core.bolt.any fun m => m.out == o && !m.filled && m.qcls == t && m.berth == berth

/-- The forwarding mode granted at admission (R109). -/
def State.grantsCut (s : State) (m : Msg) (qc : Nat) : Bool :=
  s.chart.cutThrough m.src m.cls && s.ctFraming m.src && s.ctFraming m.out
    && decide ((s.forwarding m.out).1 * (s.forwarding m.src).2 ≤ (s.forwarding m.src).1 * (s.forwarding m.out).2)
    && !s.queueHolds m.out qc m.berth && !s.held m.out qc
    && (SMap.find? s.core.demoted (8192 * (m.out / 128) + 8 * m.src + m.cls)).isNone

/-- The charges decide(m) of R105 would make: to the berth's own entry, to the ANY entry and to the pool; none where it answers
WAIT. -/
def State.decideAdmission (s : State) (m : Msg) : Option (Nat × Nat × Nat) :=
  let g := m.out / 128
  let qc := s.chart.effClass m.out m.cls
  let own := m.berth.bind fun k => s.chart.hemOf m.out qc (some k)
  let any := s.chart.hemOf m.out qc none
  let tb := min m.segs (s.hemRoom g own)
  let ta := min (m.segs - tb) (s.hemRoom g any)
  let p := m.segs - tb - ta
  let free := s.freePool g
  let refused := match m.berth with
    | none => true
    | some k => m.colour == 2 || s.flag (F.rgnBerthpoolOverq g k) || decide (s.chart.poolCap g k < s.poolUse g k + p)
      || decide (free - p < 0) || (m.colour == 1 && decide (free - p < s.chart.yellowFloor g))
      || decide (2 ^ s.chart.alpha g * free < ((s.queuePool m.out qc m.berth + p) * 64 : Nat))
  if 0 < p ∧ refused = true then none else some (tb, ta, p)

/-- GRANT of R105: the charges are recorded, the mode is fixed (R109), the message leaves staging for bolt memory; segments for
another region stay in staging until they cross the seams (R101).
[DESIGN CHOICE, log entry 35] -/
def State.takeToBolt (s : State) (m : Msg) (tb ta p : Nat) : State :=
  let qc := s.chart.effClass m.out m.cls
  let own := m.berth.bind fun k => s.chart.hemOf m.out qc (some k)
  let any := s.chart.hemOf m.out qc none
  let cut := s.grantsCut m qc
  let near := m.src / 128 == m.out / 128
  let m1 : Msg := { m with qcls := qc, own := own, any := any, tb := tb, ta := ta, pool := p, cut := cut, admitted := s.now,
                           inBolt := if near then m.segs else 0, sent := 0, granted := true }
  let s0 := if near then ((List.range m.segs).foldl (fun s i => s.writeSeg m i) (s.blockSlot m)).dropStaged m
    else s.modCore fun u => { u with staged := u.staged.map fun x => if x = m then { m with granted := true } else x }
  let s1 := s0.modCore fun u => { u with bolt := u.bolt ++ [m1] }
  let s2 := [own, any].foldl (fun s e => match e with
    | some i => s.set (F.rgnHemPeak (m.out / 128) i) (max (s.get (F.rgnHemPeak (m.out / 128) i)) (s.hemUse (m.out / 128) i))
    | none => s) s1
  let s3 := (s2.count (ctrRgn (m.out / 128)) 0x25 anySub m.berth 1).countCell m.src (if cut then 0x15 else 0x16) m.berth 1
  let s4 := if near then s3.count (ctrRgn (m.out / 128)) 0x20 anySub m.berth m.segs else s3
  if qc = m.cls then s4 else s4.bump (F.celSchedstatRemapped m.out) 1

/-- Each segment of an open message after its first counts as a grant to its queue (R135); the other queues go on accumulating. -/
def State.segmentGrant (s : State) (o : Nat) (m : Msg) : State :=
  let t := s.chart.effClass o m.qcls
  let b := m.berth.getD 64
  let r := ((s.arbOf o t).grant (s.weightOf o t) ((b :: s.waitingQueues o t).eraseDups) (some b)).1
  s.modCore fun u => { u with arbs := SMap.put u.arbs (8 * o + t) r }

/-- A segment's last byte has been handed to the link layer (R106); on FNL the replay pool must have room (R287). Nothing is sent in a quiet
window (R132); an open message that has been filled goes on with its filler (R112).
[DESIGN CHOICE, log entry 35] -/
def doSegmentRelease (o t : Nat) (s0 : State) : State :=
  let s := s0.at t
  match s.openMsg o with
  | none => s
  | some m =>
    if m.filled then s.fillOn o 64
    else if m.sent < m.inBolt ∧ s.cwRoom o = true ∧ s.quietNow o = false then
      let s0 := ((s.readSeg m).sendCw o m).countCell o 0x11 m.berth 1
      let s1 := if m.direct then s0 else s0.count (ctrRgn (o / 128)) 0x21 anySub m.berth 1
      if m.sent + 1 = m.segs then s1.endMsg o m false
      else
        let s2 := s1.modCore fun u => { u with
          bolt := u.bolt.map (fun x => if x = m then { m with sent := m.sent + 1 } else x), gaps := SMap.del u.gaps o }
        s2.segmentGrant o m
    else s

def execSegmentRelease (o : Fin 1024) (t : Nat) (s : State) : Host.Outcome State Fault Refusal := .next (doSegmentRelease o.val t s)

/-- The state that a decision sees (R102): segments released in this CK_CORE cycle are credited back before it, in whatever order their
commands wait. -/
def State.creditedFirst (s : State) : State :=
  s.pending.foldl (fun x c => match c with
    | .segmentRelease o t => if atCycle t = atCycle s.now then doSegmentRelease o.val t x else x
    | _ => x) s

/-- The heads of other requests to a region's admission unit in this CK_CORE cycle, whose commands still wait. -/
def State.sameCycle (s : State) (g : Nat) : List (Nat × FcClass) :=
  s.pending.filterMap fun c => match c with
    | .admissionRequest p fc h t => if h.val = g ∧ atCycle t = atCycle s.now then some (p.val, fc) else none
    | _ => none

/-- The input of a region's admission arbiter that a head asks through (R133): its block's crossbar, or the inbound seam. -/
def admInput (g p : Nat) : Nat := if p / 128 = g then p / 8 % 16 else 16

/-- The head that the region's arbiter lets the admission unit decide in this slot (R102, R135): requests of one CK_CORE cycle are decided in
the order it grants them. A head whose slot another takes is decided in a later slot of the cycle; none where the region has REQ_OUT
requests out towards the other already (R125). -/
def State.admissionTurn (s : State) (p : Nat) (fc : FcClass) (g : Nat) : Option (Nat × FcClass) × State :=
  let c := atCycle s.now
  let now_ := s.core.turns.filter fun e => e.1 == c
  let mine := now_.filter fun e => e.2.2.2.1 == g
  let served := mine.contains (c, p, fc, g, true)
  let rest := (mine.filter fun e => !e.2.2.2.2).map fun e => (e.2.1, e.2.2.1)
  let late := (s.sameCycle g).filter fun e => !mine.contains (c, e.1, e.2, g, true)
  let own := if served then [] else [(p, fc)]
  let cand := ((own ++ rest ++ late).eraseDups).filter fun e => (s.stagingHead e.1 e.2 g).any fun m => m.coh.isNone
  let base := if served then now_.erase (c, p, fc, g, true) else now_
  if !served && p / 128 != g && decide (s.get F.hubAdmctlReqOut ≤ (rest.filter fun e => e.1 / 128 == p / 128).length) then
    (none, s)
  else
    let r := s.slotGrant (regionArb g) (fun i => s.get (F.rgnArbwAdmitW g i)) ((cand.map fun e => admInput g e.1).eraseDups) none
    match r.1.bind fun w => cand.find? fun e => admInput g e.1 == w with
    | none => (none, s.modCore fun u => { u with turns := base })
    | some e =>
      let waits := if served || e = (p, fc) then [] else [(c, p, fc, g, false)]
      (some e, r.2.modCore fun u => { u with turns :=
        (if e = (p, fc) ∧ served = false then base
         else if rest.contains e then base.erase (c, e.1, e.2, g, false) else base ++ [(c, e.1, e.2, g, true)]) ++ waits })

/-- The admission unit decides a staging head (R99, R101, R105); a message for a flushed pleat is answered LINK_DOWN
and not held (R297). Nothing is admitted in the safe state (R323), nor across regions while no plane or no sash copy carries it (R101,
R306). -/
def State.decideHead (s : State) (p : Nat) (fc : FcClass) (g : Nat) : State :=
  match s.stagingHead p fc g with
  | none => s
  | some m =>
    let s1 := if p / 128 = g then s
      else s.count ctrHub 0x32 (subOf (8 * (p / 128) + g) 0xFF) m.berth 1
    if s.safeOn then s1
    else if p / 128 ≠ g ∧ (s.crosses (p / 128) && s.crosses g && s.sashUp (p / 128) && s.sashUp g) = false then s1
    else if s.flag (F.fnlLinkstatFlushed m.out) && !s.flag (F.celLinkstatUp m.out) then (s1.dropStaged m).linkDownReply m.src m.id m.kind m.berth
    else match s.creditedFirst.decideAdmission m with
      | none => s1.countCell p 0x13 m.berth 1
      | some (tb, ta, n) => s1.takeToBolt m tb ta n

/-- A staging head asks for admission (R99, R102): the region's arbiter chooses which of the cycle's requests this slot decides. -/
def doAdmissionRequest (p : Nat) (fc : FcClass) (g t : Nat) (s0 : State) : State :=
  let s := s0.at t
  match s.admissionTurn p fc g with
  | (none, s1) => s1
  | (some e, s1) => s1.decideHead e.1 e.2 g

def execAdmissionRequest (p : Fin 1024) (fc : FcClass) (g : Fin 8) (t : Nat) (s : State) : Host.Outcome State Fault Refusal :=
  .next (doAdmissionRequest p.val fc g.val t s)

/-- The output starts a message: its class's arbiter and DWRR move on, and every shaper that gates it is charged (R130, R138). -/
def State.startMsg (s : State) (o t : Nat) (d : Dwrr) (a : Arb) (m : Msg) : State :=
  let s1 := s.modCore fun u => { u with
    sending := SMap.put u.sending o m.id, dwrr := SMap.put u.dwrr o d, arbs := SMap.put u.arbs (8 * o + t) a }
  (s.gating o t m.berth).foldl (fun x j => x.shaperSend o j (s.charged o m)) s1

/-- The egress gate judges the chosen message (R238, R243): denied whole, it is answered in its target's place; denied in part, it goes
on with the permitted parts. -/
def State.sendChecked (s : State) (o t : Nat) (d : Dwrr) (a : Arb) (m : Msg) : State :=
  match s.egressCheck o m with
  | ([], s1) => (s1.startMsg o t d a m).spendCredits o m
  | (l, s1) =>
    if l.length = (linesOf m.addr m.len).length then (s1.dropBolt m).emit (.answer m.src m.id (answerOf m.kind stDenied))
    else
      let m1 : Msg := { m with denied := l }
      ((s1.modCore fun u => { u with bolt := u.bolt.map fun x => if x = m then m1 else x }).startMsg o t d a m1).spendCredits o m1

/-- The arbiter of an output chooses at a message boundary (R130); it sends nothing in a quiet window (R132). A message whose tack
is stale, or whose target is unbound, is turned away instead (R77); an FNL output starts a message only with its credits (R285). -/
def doOutputNextMessage (o t : Nat) (s0 : State) : State :=
  let s := s0.at t
  if s.flag (F.celLinkstatUp o) && (SMap.find? s.core.sending o).isNone && !s.quietNow o then
    match s.nextClass o with
    | none => s
    | some (c, d) =>
      match (s.pickQueue o c).2.bind (s.queueHead o c) with
      | none => s
      | some m =>
        if !s.deliverable m then (s.dropBolt m).turnAway m
        else if s.hasCredits o m then s.sendChecked o c d (s.pickQueue o c).1 m
        else s
  else s

def execOutputNextMessage (o : Fin 1024) (t : Nat) (s : State) : Host.Outcome State Fault Refusal :=
  .next (doOutputNextMessage o.val t s)

/-- The next segment of an open cut-through message is absent (R111): the gap opens; hold markers fill the slots of an FNL output, empty slots
those of a CXL one.
[DESIGN CHOICE, log entry 35] -/
def doCutThroughGap (o slots t : Nat) (s0 : State) : State :=
  let s := s0.at t
  match s.openMsg o with
  | none => s
  | some m =>
    if m.cut && !m.filled && decide (m.inBolt ≤ m.sent) then
      let g := o / 128
      let s1 := if (SMap.find? s.core.gaps o).isNone then
          ((s.bump (F.rgnCtstatUnderruns g) 1).count (ctrRgn g) 0x26 anySub none 1).modCore fun u =>
            { u with gaps := SMap.put u.gaps o s.now }
        else s
      if s.chart.isFnl o then (s1.bump (F.rgnCtholdSlots g) slots).emit (.holdSlots o slots) else s1.emit (.emptySlots o slots)
    else s

def execCutThroughGap (o : Fin 1024) (slots t : Nat) (s : State) : Host.Outcome State Fault Refusal :=
  .next (doCutThroughGap o.val slots t s)

/-- The next segment of a message arrives good in this CK_CORE cycle (R113). -/
def State.arrivesNow (s : State) (m : Msg) : Bool :=
  s.pending.any fun c => match c with
    | .seamSlotReceive o id idx pl h data sp0 sp1 rose t | .seamResendReceive o id idx pl h data sp0 sp1 rose t =>
      o.val == m.out && id == m.id && idx.val == m.inBolt && !rose && atCycle t == atCycle s.now
        && s.parityHolds (o.val / 128) (80 + 40 * planeNum pl + h.val) data sp0.val sp1.val
    | _ => false

/-- A gap has lasted STALL_MAX (R112); an arrival in the same cycle wins (R113). -/
def doPoisonFill (o t : Nat) (s0 : State) : State :=
  let s := s0.at t
  match s.openMsg o, SMap.find? s.core.gaps o with
  | some m, some since =>
    if since + usec (s.get (F.rgnCtctlStallMax (o / 128))) ≤ s.now ∧ m.inBolt ≤ m.sent ∧ s.arrivesNow m = false then s.fillMsg o m else s
  | _, _ => s

def execPoisonFill (o : Fin 1024) (t : Nat) (s : State) : Host.Outcome State Fault Refusal := .next (doPoisonFill o.val t s)

/-- A demotion runs out (R112). -/
def doDemotionEnd (g p cls t : Nat) (s0 : State) : State :=
  let s := s0.at t
  if (SMap.find? s.core.demoted (8192 * g + 8 * p + cls)).any fun u => decide (u ≤ s.now) then
    let s1 := s.modCore fun u => { u with demoted := SMap.del u.demoted (8192 * g + 8 * p + cls) }
    s1.setFlag (F.rgnCtstatDemoted g) (s1.core.demoted.any fun e => e.1 / 8192 == g)
  else s

def execDemotionEnd (g : Fin 8) (p : Fin 1024) (cls : Fin 8) (t : Nat) (s : State) : Host.Outcome State Fault Refusal :=
  .next (doDemotionEnd g.val p.val cls.val t s)

/-- The berth weight of a source (R134); a queue of no berth weighs 1 (R128). -/
def Chart.srcWeight (c : Chart) (b : Option Nat) : Nat := match b with | some k => c.berthWeight k | none => 1

/-- Σ BW over the distinct pairs of source cell and berth among some messages (R133, R134), saturating at 16,383.
[DESIGN CHOICE, log entry 36] -/
def State.sourceWeight (s : State) (l : List Msg) : Nat :=
  min 16383 (sumOf (((l.map fun m => (m.src, m.berth)).eraseDups).map fun e => s.chart.srcWeight e.2))

/-- A staged message is the head of its queue, or leaves already (R99, R101). -/
def State.atFront (s : State) (m : Msg) : Bool := m.granted || s.stagingHead m.src m.fc (s.destRegion m) == some m

/-- It requests admission to bolt memory: a head that is not bound for a home. -/
def State.asksAdmission (s : State) (m : Msg) : Bool := !m.granted && m.coh.isNone && s.atFront m

/-- The weights of the block arbiters' inputs (R133, R134): a cell, for the berths of its heads towards a region. -/
def State.blockWeights (s : State) : SMap Nat :=
  let heads := s.core.staged.filter s.atFront
  ((heads.map fun m => (m.src, s.destRegion m)).eraseDups).foldl (fun w e =>
    SMap.put w (blockWeight (e.1 / 8) e.2 (e.1 % 8)) (s.sourceWeight (heads.filter fun m => m.src == e.1 && s.destRegion m == e.2))) []

/-- Every arbiter input's weight is recomputed from its active sources (R134). -/
def doWeightRefresh (t : Nat) (s0 : State) : State :=
  let s := s0.at t
  let waiting := s.core.staged.filter s.asksAdmission
  let transit := s.core.bolt.filter fun m => !m.filled && decide (m.inBolt < m.segs)
  let s1 := (List.range 8).foldl (fun s g =>
      let s1 := (List.range 16).foldl (fun s i => s.setAll
        [(F.rgnArbwAdmitW g i, s.sourceWeight ((waiting ++ transit).filter fun m => m.src / 8 == 16 * g + i && m.out / 128 == g)),
         (F.rgnArbwSeamW g i, s.sourceWeight (transit.filter fun m => m.src / 8 == 16 * g + i))]) s
      s1.set (F.rgnArbwAdmitW g 16)
        (s.sourceWeight ((waiting ++ transit).filter fun m => m.src / 128 != g && m.out / 128 == g))) s
  let s2 := (List.range 64).foldl (fun s n =>
      s.set (F.hubArbw n) (s.sourceWeight (transit.filter fun m => m.src / 128 == n / 8 && m.out / 128 == n % 8))) s1
  s2.modCore fun u => { u with weights :=
    (u.bolt.map fun m => (m.out, s.chart.effClass m.out m.qcls, m.berth)).eraseDups.foldl (fun w e =>
      SMap.put w ((8 * e.1 + e.2.1) * 65 + e.2.2.getD 64)
        (s.sourceWeight (s.core.bolt.filter fun m => m.out == e.1 && s.chart.effClass m.out m.qcls == e.2.1 && m.berth == e.2.2))) s.blockWeights }

def execWeightRefresh (t : Nat) (s : State) : Host.Outcome State Fault Refusal := .next (doWeightRefresh t s)

/-- A parked shaper's wheel slot comes round (R139). -/
def doShaperSlot (o j t : Nat) (s0 : State) : State :=
  let s := s0.at t
  match (s.shaperOf o j).slot with
  | some n => if n ≤ s.now / 10000 then s.shaperSlot o j else s
  | none => s

def execShaperSlot (o : Fin 1024) (j : Fin 16) (t : Nat) (s : State) : Host.Outcome State Fault Refusal :=
  .next (doShaperSlot o.val j.val t s)

/-- The bin of a depth in segments and of a sojourn in ps (R151). -/
def depthBin (n : Nat) : Nat := if n = 0 then 0 else min 15 (Nat.log2 n + 1)
def sojournBin (t : Nat) : Nat := if t < 20000 then 1 else min 15 (Nat.log2 (t / 10000) + 1)

/-- One sample of a region's queues (R151): one depth bin and one sojourn bin of each; the instances of a pleat's other cells read
0 (R152). A sample during a clear is lost (R152), a freeze stops the sampling (R417), and a sample time missed while the Tally copies the
region is counted (R421). -/
def doQueueSample (g t : Nat) (s0 : State) : State :=
  let s := s0.at t
  if s.flag F.talStatFrozen || s.flag (F.rgnQhistctlClearing g) then s
  else if s.copyingBins g then s.bump F.talStatHistSkipped 1
  else (List.range 1024).foldl (fun x q =>
    let p := 128 * g + q / 8
    if s.chart.isLead p then
      let l := s.core.bolt.filter fun m => m.out == p && !(m.filled && m.sent == m.segs) && m.qcls == q % 8
      let x1 := x.bump (F.rgnQhistDepth g q (depthBin (sumOf (l.map Msg.held)))) 1
      x1.bump (F.rgnQhistSojourn g q (match l with | [] => 0 | m :: _ => sojournBin (s.now - m.admitted))) 1
    else x) s

def execQueueSample (g : Fin 8) (t : Nat) (s : State) : Host.Outcome State Fault Refusal := .next (doQueueSample g.val t s)

/-- A write of 1 to RGN.QHISTCTL.CLR (R152). -/
def clearHistograms (g : Nat) (s : State) : State := s.set (F.rgnQhistctlClearing g) 1

def execQhistClear (src : Sess) (g : Fin 8) (s : State) : Host.Outcome State Fault Refusal :=
  .next (s.regCommandAt src (F.rgnQhistctlClearing g.val).addr Principal.isPilot fun _ s => (clearHistograms g.val s, stOk))

/-- A region's histogram clear completes (R152): every bin of RGN.QHIST reads 0. It waits for the Tally's
copy of the region (R421). -/
def doHistogramClearDone (g t : Nat) (s0 : State) : State :=
  let s := s0.at t
  if s.flag (F.rgnQhistctlClearing g) && !s.copyingBins g then
    (s.resetRange (0x1000000 + 0x100000 * g + 0x80000) (0x1000000 + 0x100000 * g + 0xA0000)).set (F.rgnQhistctlClearing g) 0
  else s

def execHistogramClearDone (g : Fin 8) (t : Nat) (s : State) : Host.Outcome State Fault Refusal := .next (doHistogramClearDone g.val t s)

/-- A write of 1 to RGN.CTSTAT.CLR (R122). -/
def clearCtstat (g : Nat) (s : State) : State :=
  s.setAll [(F.rgnCtstatUnderruns g, 0), (F.rgnCtstatPoisonFills g, 0), (F.rgnCtholdSlots g, 0)]

def execCtstatClear (src : Sess) (g : Fin 8) (s : State) : Host.Outcome State Fault Refusal :=
  .next (s.regCommandAt src (F.rgnCtstatDemoted g.val).addr Principal.isPilot fun _ s => (clearCtstat g.val s, stOk))

/-- A write of 1 to BLK.STGHOLD.CLR_PEAK (R120); the pleat's peak stands at its lead cell.
[DESIGN CHOICE, log entry 29] -/
def clearStgPeak (p : Nat) (s : State) : State :=
  s.set (F.blkStgholdPeak (s.chart.lead p / 8) (s.chart.lead p % 8)) 0

def execStgPeakClear (src : Sess) (n : Fin 128) (c : Fin 8) (s : State) : Host.Outcome State Fault Refusal :=
  .next (s.regCommandAt src (F.blkStgholdPeak n.val c.val).addr Principal.isPilot fun _ s => (clearStgPeak (8 * n.val + c.val) s, stOk))

/-- A write of 1 to CEL.TACKCTL.CLR_COUNTS (R90): CEL.STALE of the pleat reads 0. -/
def clearStale (p : Nat) (s : State) : State :=
  s.setAll [(F.celStaleReqUnbound (s.chart.lead p), 0), (F.celStaleRspDiscard (s.chart.lead p), 0)]

def execTackCountsClear (src : Sess) (p : Fin 1024) (s : State) : Host.Outcome State Fault Refusal :=
  .next (s.regCommandAt src (F.celTackctlSlotWait p.val).addr Principal.isPilot fun _ s => (clearStale p.val s, stOk))

end Sys2Proof.Machine
end

