-- ==== Sys2Proof/Machine/Ingress.lean ====
section
/-! DEFINITION. A message comes in from a link (R65, R68, R70, R77, R97, R127, R128, R472). -/
namespace Sys2Proof.Machine

/-- The AER error of a malformed TLP, as bit 18 of the Uncorrectable Error Status register of PCIe.
[PRESUMED, log entry 144] -/
def aerMalformed : Nat := 2 ^ 18

/-- A request arrives: classed, berthed, coloured and stamped with the current tack of the binding point it is routed to (R77,
R127, R128, R142, R143); a MemSpecRd hint is discarded (R183); one with no berth is refused at ingress (R472); a read of the Lodestar aperture is
answered by its home (R202), a write to it is a command of its own; in the safe state's drain it is answered SAFE (R323). -/
def State.requestIn (s : State) (p : Nat) (h : MsgHeader) : State :=
  let point := pointOf h.out.val (h.ld.map (·.val))
  let berth := s.ingressBerth p (h.ld.map (·.val)) h.hberth.val
  if h.coh.any (fun q => q.op == .specRd) then s
  else if s.safeOn then s.emit (.answer p h.id (answerOf h.kind stSafe))
  else match berth, h.kind with
    | none, .management => s.stage (newMsg p h point (s.tack point) 7 none 0 s.now)
    | none, _ => s.refuseBerthless p h.id h.kind
    | some k, kind =>
      let r := s.ingressClass p k kind h.fc h.addr.val h.hclass.val h.hcolour.val h.bytes.val
      let cached := h.coh.any fun q => cacheable q.op
      if s.chart.inAperture h.addr.val && (cached || h.access.val == 1) && h.access.val != 0 then
        r.2.2.apertureRead p h.id k h.addr.val h.access.val kind cached
      else r.2.2.stage { newMsg p h point (s.tack point) r.1 (some k) r.2.1 s.now with
        coh := if (s.chart.sharedWindow (h.addr.val / 64)).isSome then h.coh else none }

/-- Port-based routing (R70, R71): the header with the lead cell that HUB.PBR names for its port ID; none where the ID is not
assigned, or collides and the message comes from the remote side. -/
def State.route (s : State) (p : Nat) (h : MsgHeader) : Option MsgHeader :=
  match h.port with
  | none => some h
  | some i =>
    if !s.chart.pbrValid i.val || (s.chart.isFnl p && s.flag (F.hubPbrCollision i.val)) then none
    else some { h with out := ⟨s.chart.pbrCell i.val % 1024, Nat.mod_lt _ (by decide)⟩ }

/-- A TLP that a USP or DSP pleat takes as malformed (R65, R97): it carries an IDE prefix, or more than 1,024 B of payload. -/
def State.malformed (s : State) (p : Nat) (h : MsgHeader) : Bool :=
  ioClass h.fc && !s.chart.isFnl p && (h.mark == .ide || decide (1024 < h.bytes.val))

/-- A malformed TLP is discarded and reported through AER (R64, R65): at the USP's upstream switch port, or at the vPPB that the DSP or the
logical device is bound to.
[PRESUMED, log entry 144] -/
def State.reportMalformed (s : State) (p : Nat) (h : MsgHeader) : State :=
  let pt := pointOf p (if s.flag (F.celBindMld p) then h.ld.map (·.val) else none)
  if s.chart.isUsp p then s.emit (.aerUpstream p aerMalformed)
  else if s.pointBound pt then s.emit (.aerEvent (s.pointVcs pt) (s.pointVppb pt) aerMalformed)
  else s

/-! The functions a virtual switch presents to its host (R68, R76). -/

/-- Where a configuration word that the spec gives no value stands among those of Config.configWord. -/
def cfgKey (v : Nat) (fn : CfgFn) (n : Nat) : Nat :=
  (1024 * v + (match fn with | .port => 0 | .mgt => 1 | .vppb i => 2 + i.val)) * 1024 + n

/-- Some bits of a word given, the others free. -/
def withBits (w mask value : Nat) : Nat := w % 2 ^ 32 - (w % 2 ^ 32 &&& mask) + value

/-- What a read of a configuration word returns (R64, R65, R68, R76): class code 0x0580 and a 64-bit memory BAR0 of 64 KiB on the management
function, a multi-function device of type 0 there and type 1 elsewhere, no ASPM in Link Capabilities, the slot's capabilities and status on
a vPPB; every other bit is free.
[PRESUMED, log entry 144] -/
def State.cfgRead (s : State) (v : Nat) (fn : CfgFn) (reg : CfgReg) : Nat :=
  let free := fun n => Sys2Proof.Config.configWord (cfgKey v fn n)
  let k := match fn with | .vppb i => 256 * v + i.val | _ => 0
  let x := s.slot k
  match fn, reg with
  | .mgt, .classCode => withBits (free 2) 0xFFFF0000 0x05800000
  | .mgt, .headerType => withBits (free 3) 0x7F0000 0
  | .port, .headerType => withBits (free 3) 0xFF0000 0x810000
  | .vppb _, .headerType => withBits (free 3) 0x7F0000 0x010000
  | _, .classCode => free 2 % 2 ^ 32
  | .mgt, .barLo => SMap.getD s.mgt.bars v 0 % 2 ^ 32 + 4
  | .mgt, .barHi => SMap.getD s.mgt.bars v 0 / 2 ^ 32
  | _, .barLo => free 4 % 2 ^ 32
  | _, .barHi => free 5 % 2 ^ 32
  | .mgt, .linkCaps => free 6 % 2 ^ 32
  | .port, .linkCaps => withBits (free 6) 0xC00 0
  | .vppb _, .linkCaps => withBits (free 6) 0x100C00 0x100000
  | .vppb _, .linkStatus => withBits (free 7) 0x2000 (if x.active then 0x2000 else 0)
  | _, .linkStatus => free 7 % 2 ^ 32
  | .vppb _, .slotCaps => withBits (free 8) 0x2007F 0x6B
  | _, .slotCaps => free 8 % 2 ^ 32
  | .vppb _, .slotStatus => withBits (free 9) 0x149 ((if x.button then 1 else 0) + (if x.presenceChg then 8 else 0)
      + (if x.present then 0x40 else 0) + (if x.activeChg then 0x100 else 0))
  | _, .slotStatus => free 9 % 2 ^ 32
  | _, .other n => free (16 + n.val) % 2 ^ 32

/-- A configuration access of a host to its virtual switch's own functions (R68): a read completes with the word, a write of BAR0 keeps its
upper bits, other writes change nothing the module holds; a vPPB or virtual switch that does not exist answers Unsupported Request. -/
def State.configure (s : State) (p : Nat) (h : MsgHeader) (c : CfgAccess) : State :=
  match s.chart.vsOf p with
  | none => s.emit (.answer p h.id .unsupportedRequest)
  | some v =>
    if (match c.fn with | .vppb i => decide (s.chart.vsPpbs v ≤ i.val) | _ => false) then s.emit (.answer p h.id .unsupportedRequest)
    else match c.write with
      | none => s.emit (.cfgData p h.id (s.cfgRead v c.fn c.reg))
      | some w =>
        let b := SMap.getD s.mgt.bars v 0
        let s1 := match c.fn, c.reg with
          | .mgt, .barLo => s.modMgt fun u => { u with bars := SMap.put u.bars v (b / 2 ^ 32 * 2 ^ 32 + w.val / 2 ^ 16 * 2 ^ 16) }
          | .mgt, .barHi => s.modMgt fun u => { u with bars := SMap.put u.bars v (w.val * 2 ^ 32 + b % 2 ^ 32) }
          | _, _ => s
        s1.emit (.cfgData p h.id 0)

/-- The virtual switch and offset of a request that falls in BAR0 of the management function behind a USP (R68). -/
def State.barOffset (s : State) (p addr : Nat) : Option (Nat × Nat) :=
  (s.chart.vsOf p).bind fun v => (SMap.find? s.mgt.bars v).bind fun b =>
    if b ≤ addr ∧ addr < b + 2 ^ 16 then some (v, addr - b) else none

/-- A read of BAR0 (R6, R68, R236, R243, R330, R424, R445): the management gate checks it; it returns a word of the mailbox or of the counter
page, with the code shown to the berth; one of another size or alignment, or of a page that is not enabled, completes with Unsupported
Request. The gate's windows name the 256 MiB management space, in which the spec gives BAR0 no place: a free line stands for it.
[DESIGN CHOICE, log entry 76] -/
def State.barRead (s : State) (p v off : Nat) (h : MsgHeader) : State :=
  let k := s.chart.vsBerth v
  let g := s.gateCheck gateMgt [Sys2Proof.Config.barLine v (off / 64)] k 1 p
  if g.1 ≠ [] ∨ h.len.val ≠ 4 ∨ off % 4 ≠ 0 then g.2.emit (.answer p h.id .unsupportedRequest)
  else match (if off < 0x8000 then some (g.2.mailWord v off) else g.2.pageWord k (off - 0x8000)) with
    | some w => g.2.emit (.barData p h.id w (g.2.shown k))
    | none => g.2.emit (.answer p h.id .unsupportedRequest)

/-- A request addressed to the module's own functions at a USP (R68): a configuration access, or a read of BAR0; none where it goes
further. Writes of BAR0 are commands of their own. -/
def State.ownRequest (s : State) (p : Nat) (h : MsgHeader) : Option State :=
  if !s.chart.isUsp p then none
  else match h.cfg with
    | some c => some (s.configure p h c)
    | none =>
      if h.kind = .ioNonPosted ∧ h.access.val = 1 then (s.barOffset p h.addr.val).map fun e => s.barRead p e.1 e.2 h else none

/-- A message comes in from a link (R45, R65, R70, R77, R97). A partner's request to enter L1 is rejected.
[DEDUCED, log entries 34, 41; DESIGN CHOICE, log entry 40] -/
def doMessageIngress (p : Nat) (h : MsgHeader) (t : Nat) (s0 : State) : State :=
  let s := s0.at t
  if !s.takesIn p then s
  else if h.mark = .l1Request then s.emit (.l1Reject p)
  else if s.malformed p h then s.reportMalformed p h
  else if isResponse h.kind then s.responseIn p h
  else match s.ownRequest p h with
    | some s1 => s1
    | none => match s.route p h with
      | some h1 => s.requestIn p h1
      | none => s.refuseBerthless p h.id h.kind

def execMessageIngress (p : Fin 1024) (m : MsgHeader) (t : Nat) (s : State) : Host.Outcome State Fault Refusal :=
  .next (doMessageIngress p.val m t s)

end Sys2Proof.Machine
end

