-- ==== Sys2Proof/Machine/Leave.lean ====
section
/-! DEFINITION. The Leave Controller's commands (R377 to R381): requests, renewals, expiries, releases, withdrawals and the requests of
LVC.REQ. -/
namespace Sys2Proof.Machine

/-- A heavy operation requests leave (R377, R378). -/
def doLeaveRequest (q : Purpose) (t : Nat) (s : State) : State :=
  if (s.at t).hasLeave q then s.at t else (s.at t).requestLeave q

def execLeaveRequest (q : Purpose) (t : Nat) (s : State) : Host.Outcome State Fault Refusal := .next (doLeaveRequest q t s)

/-- Requests that CHT.CTRL.LEAVE_WAIT limits without a command of their own: bulk sweeps, window flushes and scrubs that have not begun
(R157, R270, R344). -/
def State.limitedWait (s : State) (q : LeaveReq) : Bool :=
  (match q.purpose with
    | .bulkSweep | .windowFlush => true
    | .scrub u => !(SMap.find? s.ecc.scrubs u.val).any (·.begun)
    | _ => false) && decide (q.arrived + msec (10 * s.get F.chtCtrlLeaveWait) ≤ s.now)

/-- Such requests are withdrawn when their wait is over. -/
def State.expireWaits (s : State) : State :=
  (s.lvc.queue.filter s.limitedWait).foldl (fun s q => s.refuseLeave q.purpose 0)
    (s.modLvc fun u => { u with queue := u.queue.filter fun q => !s.limitedWait q })

/-- The deferred requests are decided again (R379), those whose wait is over withdrawn first. -/
def doLeaveRedecide (t : Nat) (s : State) : State := (s.at t).expireWaits.redecide

def execLeaveRedecide (t : Nat) (s : State) : Host.Outcome State Fault Refusal := .next (doLeaveRedecide t s)

/-- An operation pauses when its renewal is refused (R229, R344). -/
def State.pauseFor (s : State) (q : Purpose) : State :=
  match q with
  | .copyEngine g => s.set (F.cpeStatPaused g.val) 1
  | .scrub u => s.set (F.eccScrubPaused (eccBase u.val)) 1
  | _ => s

/-- A holder renews its slip (R378). -/
def doLeaveRenew (i t : Nat) (s0 : State) : State :=
  let s := s0.at t
  match SMap.find? s.lvc.slips i, (s.renewSlip i).2 with
  | some x, some _ => (s.renewSlip i).1.pauseFor x.purpose
  | _, _ => (s.renewSlip i).1

def execLeaveRenew (i : Fin 32) (t : Nat) (s : State) : Host.Outcome State Fault Refusal := .next (doLeaveRenew i.val t s)

/-- A slip of kind LDO_FULL ends (R376): with the always-on current at 36 mA or more it is extended as an overstay with POWER;
otherwise it ends and the LDO returns to low-power mode. -/
def State.endLdoSlip (s : State) (i : Nat) (x : Slip) : State :=
  if s.flag F.pwrLdoMode ∧ 36 ≤ s.get F.pwrLdoIAon then
    ((s.modLvc fun u => { u with slips := SMap.put u.slips i { x with extended := true } }).set F.pwrLdoOverstay 1).notify atPower
  else (s.set F.pwrLdoMode 0).endSlip i

/-- A slip's duration has run out (R377, R376, R378): its operation pauses under its own rules. -/
def doSlipExpiry (i t : Nat) (s0 : State) : State :=
  let s := s0.at t
  match SMap.find? s.lvc.slips i with
  | none => s
  | some x =>
    if s.now < x.expiry ∨ x.extended then s
    else if x.kind = 11 then s.endLdoSlip i x
    else (s.pauseFor x.purpose).endSlip i

def execSlipExpiry (i : Fin 32) (t : Nat) (s : State) : Host.Outcome State Fault Refusal := .next (doSlipExpiry i.val t s)

/-- The OWNER code of a principal (R386). -/
def ownerCode (p : Principal) : Nat := if p.isHelm then 1 else if p.isPilot then 2 else 3

/-- The slip LVC.CTL.SLIP names, when its OWNER is the writing principal (R381). -/
def State.ownSlip (s : State) (p : Principal) : Option Slip :=
  (SMap.find? s.lvc.slips (s.get F.lvcCtlSlip)).filter fun x => x.owner == ownerCode p

/-- LVC.CTL.RELEASE (R381). -/
def releaseSlip (p : Principal) (s : State) : State × Nat :=
  match s.ownSlip p with
  | none => (s, stDenied)
  | some x => (if x.kind = 11 then s.endLdoSlip (s.get F.lvcCtlSlip) x else s.endSlip (s.get F.lvcCtlSlip), stOk)

def execSlipRelease (src : Sess) (s : State) : Host.Outcome State Fault Refusal :=
  .next (s.regCommand src Principal.isOwner releaseSlip)

/-- LVC.CTL.RENEW (R381): the outcome shows in LVC.RESP.
[DEDUCED, log entry 21] -/
def renewOwn (p : Principal) (s : State) : State × Nat :=
  match s.ownSlip p with
  | none => (s, stDenied)
  | some _ =>
    ((s.renewSlip (s.get F.lvcCtlSlip)).1.setAll [
      (F.lvcRespResult, if (s.renewSlip (s.get F.lvcCtlSlip)).2.isNone then 1 else 3),
      (F.lvcRespSlip, s.get F.lvcCtlSlip), (F.lvcRespReason, ((s.renewSlip (s.get F.lvcCtlSlip)).2).getD 0)], stOk)

def execSlipRenew (src : Sess) (s : State) : Host.Outcome State Fault Refusal :=
  .next (s.regCommand src Principal.isOwner renewOwn)

/-- A request made through LVC.REQ by this principal. -/
def ownRequest (p : Principal) (q : LeaveReq) : Bool :=
  match q.purpose with
  | .ldoFull => p.isHelm
  | .otherMgt h => h == p.isHelm
  | _ => false

/-- LVC.CTL.WITHDRAW (R379, R381): the writer's own deferred requests are withdrawn, each counted as a refusal. -/
def withdrawOwn (p : Principal) (s : State) : State × Nat :=
  (((s.modLvc fun u => { u with queue := u.queue.filter fun q => !ownRequest p q }).bump F.lvcCountRefused
    (s.lvc.queue.filter (ownRequest p)).length), stOk)

def execLeaveWithdraw (src : Sess) (s : State) : Host.Outcome State Fault Refusal :=
  .next (s.regCommand src Principal.isOwner withdrawOwn)

/-- LVC.REQ.GO (R381): kind 0xB for the Helm, 0xC for either; any other kind is refused DENIED. -/
def lvcRequest (p : Principal) (s : State) : State × Nat :=
  if s.get F.lvcReqKind = 0xB ∧ p.isHelm then (s.requestLeave .ldoFull, stOk)
  else if s.get F.lvcReqKind = 0xC ∧ p.isOwner then (s.requestLeave (.otherMgt p.isHelm), stOk)
  else (s, stDenied)

def execLvcRequest (src : Sess) (s : State) : Host.Outcome State Fault Refusal :=
  .next (s.regCommand src Principal.isOwner lvcRequest)

end Sys2Proof.Machine
end

