-- ==== Sys2Proof/Machine/Lodestar.lean ====
section
/-! DEFINITION. The commands of Lodestar and the copy engines (R202 to R235). -/
namespace Sys2Proof.Machine

/-- The reply to a write to the aperture (R204, R243): a CXL write completes normally whatever became of it. -/
def State.apertureDone (s : State) (p id k status : Nat) : State :=
  s.homeReply p id (some k) .done (if s.chart.isFnl p then status else stOk) none false

/-- A write to a Lodestar command slot (R204, R209, R211).
[DESIGN CHOICE, log entry 68] -/
def State.commandSlot (s : State) (k off : Nat) (b : List Nat) : State :=
  let ch := off / 2 ^ 12 % 4096
  let key := 64 * ch + off / 64 % 64
  let n := s.chanHome ch
  let opc := b.getD 0 0
  let w := leField b 4 4
  let done d : LRec := { emptyRec with state := 2, status := stDenied, detail := d, opc := opc, ticket := leField b 2 2 }
  if (s.lrec key).state = 1 then (s.setLrec key { s.lrec key with overrun := true }).bump (F.ldsErrstatSlotBusy n) 1
  else if b.length ≠ 64 ∨ off % 64 ≠ 0 then (s.setLrec key (done dtFormat)).bump (F.ldsErrstatFormat n) 1
  else if 16 ≤ b.getD 1 0 ∨ 2 ^ 29 ≤ w ∨ (List.range 34).any (fun i => b.getD (30 + i) 0 != 0) ∨ knownOpc opc = false then
    s.setLrec key (done dtFormat)
  else (s.setLrec key { emptyRec with state := 1, opc := opc, ticket := leField b 2 2 }).modLod fun u => { u with pend := u.pend ++
    [⟨ch, off / 64 % 64, opc, b.getD 1 0, leField b 2 2, w % 2 ^ 26, w / 2 ^ 26 % 8, leField b 8 8, leField b 16 8, leField b 24 4,
      leField b 28 2, k, false⟩] }

/-- A write to a copy-engine descriptor slot (R204, R211, R226, R228).
[DESIGN CHOICE, log entry 68] -/
def State.descriptorSlot (s : State) (k off : Nat) (b : List Nat) : State :=
  let ch := off / 2 ^ 12 % 256
  let key := 64 * ch + off / 64 % 64
  let g := ch % 8
  if (s.crec key).state = 1 then s.setCrec key { s.crec key with overrun := true }
  else if b.length ≠ 64 ∨ off % 64 ≠ 0 ∨ descOk b false = false then
    (s.setCrec key { emptyRec with state := 2, status := stDenied, detail := dtFormat, opc := b.getD 0 0, ticket := leField b 2 2 }).bump
      (F.cpeStatFormat g) 1
  else (s.setCrec key { emptyRec with state := 1, opc := b.getD 0 0, ticket := leField b 2 2 }).queueJob g ch (off / 64 % 64) k b

/-- A write to the Lodestar aperture (R127, R128, R142, R202 to R204, R243, R472): it takes its berth, class and colour, the gate is asked,
then the part it falls in takes it.
[DESIGN CHOICE, log entry 81] -/
def doApertureWrite (p id : Nat) (h : SyncHeader) (off : Nat) (bytes : List (Fin 256)) (t : Nat) (s0 : State) : State :=
  let s := s0.at t
  let b := bytes.map (·.val)
  if s.chart.ldsValid = false ∨ s.takesIn p = false then s
  else match s.ingressBerth p (h.ld.map (·.val)) h.hberth.val with
  | none => s.refuseBerthless p id (if s.chart.isFnl p then .fnlRequest else .memWrite)
  | some k =>
  if s.safeOn then s.apertureDone p id k stSafe
  else
    let s := (s.ingressClass p k (if s.chart.isFnl p then .fnlRequest else .memWrite) .req (s.chart.ldsBase + off) h.hclass.val
      h.hcolour.val b.length).2.2
    let r := s.gateCheck gateLds [(s.chart.ldsBase + off) / 64] k 6 p
    if r.1 ≠ [] ∨ s.copyDenied off = true then
      (if r.1 = [] then s.raise atAccess [k, audPilot] else r.2).apertureDone p id k stDenied
    else (match off / 2 ^ 24 with
      | 0 => s.commandSlot k off b
      | 1 => s.bump (F.ldsErrstatFormat (s.chanHome (off / 2 ^ 12 % 4096))) 1
      | 2 => s.descriptorSlot k off b
      | _ => s.bump (F.cpeStatFormat (off / 2 ^ 12 % 256 % 8)) 1).apertureDone p id k stOk

def execLodestarCommandWrite (p : Fin 1024) (id : Nat) (h : SyncHeader) (off : Fin (2 ^ 26)) (bytes : List (Fin 256)) (t : Nat) (s : State) :
    Host.Outcome State Fault Refusal := .next (doApertureWrite p.val id h off.val bytes t s)

/-- A command executes at its object (R212); an object of a region in reset answers RETRY (R401). -/
def doLodestarOp (opc ch k t : Nat) (s0 : State) : State :=
  let s := s0.at t
  match s.readyCmd ch k opc with
  | none => s
  | some c =>
    if s.pwr.regionReset.contains (s.chart.slotHome (c.obj % 64) / 9) && !isGroupOp c.opc && c.opc != 0x18 then s.sendResult c stRetry 0 0 0 false 0
    else if opc = 0x13 then (s.runCmd c).runHeld else s.runCmd c

def execFetchAdd (ch : Fin 4096) (k : Fin 64) (t : Nat) (s : State) : Host.Outcome State Fault Refusal :=
  .next (doLodestarOp 0x01 ch.val k.val t s)
def execCompareSwap (ch : Fin 4096) (k : Fin 64) (t : Nat) (s : State) : Host.Outcome State Fault Refusal :=
  .next (doLodestarOp 0x02 ch.val k.val t s)
def execSwap (ch : Fin 4096) (k : Fin 64) (t : Nat) (s : State) : Host.Outcome State Fault Refusal :=
  .next (doLodestarOp 0x03 ch.val k.val t s)
def execWait (ch : Fin 4096) (k : Fin 64) (t : Nat) (s : State) : Host.Outcome State Fault Refusal :=
  .next (doLodestarOp 0x08 ch.val k.val t s)
def execNotify (ch : Fin 4096) (k : Fin 64) (t : Nat) (s : State) : Host.Outcome State Fault Refusal :=
  .next (doLodestarOp 0x09 ch.val k.val t s)
def execBarrier (ch : Fin 4096) (k : Fin 64) (t : Nat) (s : State) : Host.Outcome State Fault Refusal :=
  .next (doLodestarOp 0x0A ch.val k.val t s)
def execLock (ch : Fin 4096) (k : Fin 64) (t : Nat) (s : State) : Host.Outcome State Fault Refusal :=
  .next (doLodestarOp 0x0B ch.val k.val t s)
def execUnlock (ch : Fin 4096) (k : Fin 64) (t : Nat) (s : State) : Host.Outcome State Fault Refusal :=
  .next (doLodestarOp 0x0C ch.val k.val t s)
def execGroupCreate (ch : Fin 4096) (k : Fin 64) (t : Nat) (s : State) : Host.Outcome State Fault Refusal :=
  .next (doLodestarOp 0x10 ch.val k.val t s)
def execGroupJoin (ch : Fin 4096) (k : Fin 64) (t : Nat) (s : State) : Host.Outcome State Fault Refusal :=
  .next (doLodestarOp 0x11 ch.val k.val t s)
def execGroupLeave (ch : Fin 4096) (k : Fin 64) (t : Nat) (s : State) : Host.Outcome State Fault Refusal :=
  .next (doLodestarOp 0x12 ch.val k.val t s)
def execGroupDestroy (ch : Fin 4096) (k : Fin 64) (t : Nat) (s : State) : Host.Outcome State Fault Refusal :=
  .next (doLodestarOp 0x13 ch.val k.val t s)
def execObjAlloc (ch : Fin 4096) (k : Fin 64) (t : Nat) (s : State) : Host.Outcome State Fault Refusal :=
  .next (doLodestarOp 0x18 ch.val k.val t s)
def execObjFree (ch : Fin 4096) (k : Fin 64) (t : Nat) (s : State) : Host.Outcome State Fault Refusal :=
  .next (doLodestarOp 0x19 ch.val k.val t s)

/-- A result reaches its record (R210, R211, R213), which reads DONE and keeps its OVERRUN; a record that no longer waits is left. -/
def doLodestarResultReturn (ch k t : Nat) (s0 : State) : State :=
  let s := s0.at t
  let key := 64 * ch + k
  match s.lod.results.find? fun r => r.1 == key with
  | none => s
  | some r =>
    let s1 := s.modLod fun u => { u with results := u.results.filter (· != r) }
    if (s.lrec key).state = 1 then s1.setLrec key { r.2 with overrun := (s.lrec key).overrun } else s1

def execLodestarResultReturn (ch : Fin 4096) (k : Fin 64) (t : Nat) (s : State) : Host.Outcome State Fault Refusal :=
  .next (doLodestarResultReturn ch.val k.val t s)

/-- An operation that can end a parked command: its opcode, channel, slot and time. -/
def wakeOp : Instr → Option (Nat × Nat × Nat × Nat)
  | .fetchAdd ch k t => some (0x01, ch.val, k.val, t)
  | .compareSwap ch k t => some (0x02, ch.val, k.val, t)
  | .swap ch k t => some (0x03, ch.val, k.val, t)
  | .notify ch k t => some (0x09, ch.val, k.val, t)
  | .barrier ch k t => some (0x0A, ch.val, k.val, t)
  | .unlock ch k t => some (0x0C, ch.val, k.val, t)
  | _ => none

/-- An operation of the same cycle that waits behind ends the parked command, and wins over its timeout (R214, R215, R216). -/
def State.wokenNow (s : State) (p : Parked) : Bool :=
  s.pending.any fun i => (wakeOp i).any fun o =>
    decide (atCycle o.2.2.2 = atCycle s.now) && !(doLodestarOp o.1 o.2.1 o.2.2.1 o.2.2.2 s).lod.parked.contains p

/-- A parked command's limit has run out (R214 to R216); a frozen one does not time out (R220). -/
def doParkedTimeout (ch k t : Nat) (s0 : State) : State :=
  let s := s0.at t
  match s.lod.parked.find? fun p => p.cmd.key == 64 * ch + k with
  | none => s
  | some p => if !p.frozen && decide (p.since + usec p.limit ≤ s.now) && !s.wokenNow p then (s.leaveParked p stTimeout).noteGroups else s

def execParkedTimeout (ch : Fin 4096) (k : Fin 64) (t : Nat) (s : State) : Host.Outcome State Fault Refusal :=
  .next (doParkedTimeout ch.val k.val t s)

/-- The commands parked on a group. -/
def State.parkedOn (s : State) (gid : Nat) : List Parked := s.lod.parked.filter fun p => p.group == some gid

/-- All-waiting, first phase (R220): the group has been all-waiting for its interval, and its commands freeze. -/
def doAllWaitingFreeze (gid t : Nat) (s0 : State) : State :=
  let s := s0.at t
  match SMap.find? s.lod.groups gid with
  | none => s
  | some g => match g.since with
    | none => s
    | some x =>
      if !g.freezing && decide (x + usec g.interval ≤ s.now) then
        s.modLod fun u => { u with
          groups := SMap.put u.groups gid { g with freezing := true, frozen := (s.parkedOn gid).map (·.cmd.key) }
          parked := u.parked.map fun p => if p.group = some gid then { p with frozen := true } else p }
      else s

def execAllWaitingFreeze (grp : Fin 65536) (t : Nat) (s : State) : Host.Outcome State Fault Refusal :=
  .next (doAllWaitingFreeze grp.val t s)

/-- All-waiting, second phase (R220): when every frozen command is still parked the group commits ALL_WAITING and SYNC is raised to its
berth, otherwise it thaws and the interval starts again; then the held operations execute. -/
def doAllWaitingDecision (gid t : Nat) (s0 : State) : State :=
  let s := s0.at t
  match SMap.find? s.lod.groups gid with
  | none => s
  | some g =>
    let n := s.slotSlice (gid % 64)
    if !g.freezing then s
    else if g.frozen.all fun key => (s.parkedOn gid).any fun p => p.cmd.key == key then
      let s1 := (s.parkedOn gid).foldl (fun s p => s.leaveParked p stAllWaiting) s
      let s2 := (s1.modLod fun u => { u with groups := SMap.put u.groups gid { g with freezing := false, frozen := [], since := none } }).raise
        atSync [g.berth]
      ((s2.bump (F.ldsGrpstatAllwait n) 1).runHeld).noteGroups
    else
      let s1 := (s.unfreeze gid).modLod fun u => { u with
        groups := SMap.put u.groups gid { g with freezing := false, frozen := [], since := none } }
      ((s1.bump (F.ldsGrpstatThawed n) 1).runHeld).noteGroups

def execAllWaitingDecision (grp : Fin 65536) (t : Nat) (s : State) : Host.Outcome State Fault Refusal :=
  .next (doAllWaitingDecision grp.val t s)

/-- LDS.STAT.CLR_PEAK (R234).
[DESIGN CHOICE, log entry 29] -/
def clearLdsPeak (n : Nat) (s : State) : State := s.set (F.ldsStatPeak n) 0

def execLdsPeakClear (src : Sess) (n : Fin 72) (s : State) : Host.Outcome State Fault Refusal :=
  .next (s.regCommandAt src (F.ldsStatPeak n.val).addr Principal.isPilot fun _ s => (clearLdsPeak n.val s, stOk))

def execCopy (p : Fin 1024) (id : Nat) (h : SyncHeader) (off : Fin (2 ^ 26)) (bytes : List (Fin 256)) (t : Nat) (s : State) :
    Host.Outcome State Fault Refusal := .next (doApertureWrite p.val id h off.val bytes t s)
def execZero (p : Fin 1024) (id : Nat) (h : SyncHeader) (off : Fin (2 ^ 26)) (bytes : List (Fin 256)) (t : Nat) (s : State) :
    Host.Outcome State Fault Refusal := .next (doApertureWrite p.val id h off.val bytes t s)
def execSanitize (p : Fin 1024) (id : Nat) (h : SyncHeader) (off : Fin (2 ^ 26)) (bytes : List (Fin 256)) (t : Nat) (s : State) :
    Host.Outcome State Fault Refusal := .next (doApertureWrite p.val id h off.val bytes t s)

/-- The oldest queued job of an engine that may start (R228). -/
def State.nextJob (s : State) (g : Nat) : Option CopyJob := s.cpy.jobs.find? fun j => j.g == g && !j.running && s.jobMayStart j

/-- A job starts (R228, R229): an engine with no running job asks for leave first. -/
def doCopyJobStart (g : Fin 8) (t : Nat) (s0 : State) : State :=
  let s := s0.at t
  match s.nextJob g.val with
  | none => s
  | some _ =>
    let s1 := if s.hasLeave (.copyEngine g) || s.safeOn || !s.engineUp g.val then s
      else (s.modCpy fun u => { u with asked := SMap.put u.asked g.val (SMap.getD u.asked g.val s.now) }).requestLeave (.copyEngine g)
    if s1.holds (.copyEngine g) && decide ((s1.cpy.jobs.filter fun j => j.g == g.val && j.running).length < 16) then
      match s1.nextJob g.val with
      | none => s1
      | some j => s1.modCpy fun u => { u with asked := SMap.del u.asked g.val
                                              jobs := (u.jobs.filter (·.running)) ++ [{ j with running := true, since := s1.now }]
                                                ++ u.jobs.filter fun x => !x.running && x.id != j.id }
    else s1

def execCopyJobStart (g : Fin 8) (t : Nat) (s : State) : Host.Outcome State Fault Refusal := .next (doCopyJobStart g t s)

/-- The chunk whose turn it is (R227, R228): its accesses to private memory are made with the data named, those to shared lines go
through the homes; once nothing is outstanding the chunk has finished. A paused engine starts no chunk (R229).
[DESIGN CHOICE, log entry 67] -/
def doCopyChunkDone (g : Nat) (data dirty : List Nat) (t : Nat) (s0 : State) : State :=
  let s := (s0.at t).takeReplies g
  match s.cpy.jobs.find? fun j => j.g == g && j.running with
  | none => s
  | some j =>
    if j.waits ≠ [] then s
    else if s.flag (F.cpeStatPaused g) then s
    else
      let s1 := if j.next < j.lines ∧ j.verify = false then s.beginChunk j data dirty else s
      match s1.job j.id with
      | none => s1
      | some k => if k.waits = [] then s1.endChunk k else s1

def execCopyChunkDone (g : Fin 8) (data dirty : List Nat) (t : Nat) (s : State) : Host.Outcome State Fault Refusal :=
  .next (doCopyChunkDone g.val data dirty t s)

/-- The first grant has not come within CPE.CTL.LEAVE_WAIT (R229). -/
def doCopyLeaveWaitExpired (g : Fin 8) (t : Nat) (s0 : State) : State :=
  let s := s0.at t
  match SMap.find? s.cpy.asked g.val, s.cpy.jobs.find? fun j => j.g == g.val && !j.running with
  | some x, some j =>
    if !s.holds (.copyEngine g) && decide (x + msec (s.get (F.cpeCtlLeaveWait g.val)) ≤ s.now) then
      ((s.withdrawFor (.copyEngine g)).modCpy fun u => { u with asked := SMap.del u.asked g.val }).endJob j stRetry dtLeave
    else s
  | _, _ => s

def execCopyLeaveWaitExpired (g : Fin 8) (t : Nat) (s : State) : Host.Outcome State Fault Refusal :=
  .next (doCopyLeaveWaitExpired g t s)

/-- The engine renews its slip, or asks anew while it is paused without one (R229). -/
def doCopyLeaveRenew (g : Fin 8) (t : Nat) (s0 : State) : State :=
  let s := s0.at t
  if s.cpy.jobs.any fun j => j.g == g.val && j.running then
    match (s.lvc.slips.filter fun e => e.2.purpose == .copyEngine g).head? with
    | some e => (s.renewSlip e.1).1.set (F.cpeStatPaused g.val) (if (s.renewSlip e.1).2.isNone then 0 else 1)
    | none => if s.hasLeave (.copyEngine g) then s else (s.set (F.cpeStatPaused g.val) 1).requestLeave (.copyEngine g)
  else s

def execCopyLeaveRenew (g : Fin 8) (t : Nat) (s : State) : Host.Outcome State Fault Refusal := .next (doCopyLeaveRenew g t s)

/-- A copy engine fails (R230). -/
def doCopyEngineFailure (g t : Nat) (s0 : State) : State :=
  ((s0.at t).takeReaction (inCopy g).1 (inCopy g).2).failEngine g

def execCopyEngineFailure (g : Fin 8) (t : Nat) (s : State) : Host.Outcome State Fault Refusal := .next (doCopyEngineFailure g.val t s)

/-- CPE.MGTSUBMIT.GO (R231): one management job at a time, checked at the gates as the berth of byte 24. -/
def submitCopy (g : Nat) (s : State) : State :=
  let b := (List.range 16).flatMap fun i => leBytes (s.get (F.cpeMgtdesc g i)) 4
  if s.flag (F.cpeMgtsubmitBusy g) then s
  else if descOk b true then (s.set (F.cpeMgtsubmitBusy g) 1).queueJob g 256 0 (b.getD 24 0) b
  else (s.bump (F.cpeStatFormat g) 1).setMgtDone g
    { emptyRec with state := 2, status := stDenied, detail := dtFormat, opc := b.getD 0 0, ticket := leField b 2 2 }

def execMgtCopySubmit (src : Sess) (g : Fin 8) (s : State) : Host.Outcome State Fault Refusal :=
  .next (s.regCommandAt src (F.cpeStatPaused g.val).addr Principal.isPilot fun _ s => (submitCopy g.val s, stOk))

end Sys2Proof.Machine
end

