-- ==== Sys2Proof/Machine/Seams.lean ====
section
/-! DEFINITION. The seams' commands (R302 to R308). -/
namespace Sys2Proof.Machine

/-- A seam slot arrives (R303, R304). -/
def doSeamSlotReceive (o id idx l h data sp0 sp1 : Nat) (rose : Bool) (t : Nat) (s0 : State) : State :=
  let s := s0.at t
  match (s.crossing o id l).filter fun m => s.planeOf m idx == l with
  | none => s
  | some m =>
    let s1 := s.crossed m idx l
    if rose || !s1.parityHolds (o / 128) (80 + 40 * l + h) data sp0 sp1 then s1.segmentBad m idx l h data rose else s1.segmentIn m idx

def execSeamSlotReceive (o : Fin 1024) (id : Nat) (idx : Fin 64) (pl : Plane) (h : Fin 40) (data : Nat) (sp0 sp1 : Fin 256) (rose : Bool)
    (t : Nat) (s : State) : Host.Outcome State Fault Refusal :=
  .next (doSeamSlotReceive o.val id idx.val (planeNum pl) h.val data sp0.val sp1.val rose t s)

/-- A resent slot arrives (R304, R305): compared with the discarded copy, it names the wires that erred. -/
def doSeamResendReceive (o id idx l h data sp0 sp1 : Nat) (rose : Bool) (t : Nat) (s0 : State) : State :=
  let s := s0.at t
  match s.crossing o id l, s.seam.bad.find? fun b => b.seg == ⟨o, id, idx⟩ with
  | some m, some b =>
    if rose || !s.parityHolds (o / 128) (80 + 40 * l + h) data sp0 sp1 then s.segmentBad m idx l h data rose
    else
      let s1 := (s.modSeam fun u => { u with bad := u.bad.filter (·.seg != b.seg) }).segmentIn m idx
      (diffWires b.data data).foldl (fun s w => s.wireError b.seam b.entry w) s1
  | _, _ => s

def execSeamResendReceive (o : Fin 1024) (id : Nat) (idx : Fin 64) (pl : Plane) (h : Fin 40) (data : Nat) (sp0 sp1 : Fin 256) (rose : Bool)
    (t : Nat) (s : State) : Host.Outcome State Fault Refusal :=
  .next (doSeamResendReceive o.val id idx.val (planeNum pl) h.val data sp0.val sp1.val rose t s)

/-- SEAM.CTL.RESET_A and RESET_B (R306). -/
def commandReset (g l : Nat) (s : State) : State := if s.get (seamState g l) = 0 then s else s.resetPlane g l

def execSeamResetCommand (src : Sess) (g : Fin 8) (pl : Plane) (s : State) : Host.Outcome State Fault Refusal :=
  .next (s.regCommandAt src (F.seamErrResends g.val).addr Principal.isHelm fun _ s => (commandReset g.val (planeNum pl) s, stOk))

/-- The remaps a plane's reset puts into force (R305, R311). -/
def State.applySpares (s : State) (g l : Nat) : State :=
  ((List.range 160).filter fun n => n % 80 / 40 == l).foldl (fun s n =>
    if s.flag (F.seamSparemapPending g n) then
      let w := s.get (F.seamSparemapPendingWire g n)
      if s.get (F.seamSparemapParityMode g n) = 2 then s.set (F.seamSparemapPending g n) 0
      else if w < 32 then s.setAll [(F.seamSparemapSpare0Wire g n, w), (F.seamSparemapSpare0Used g n, 1), (F.seamSparemapPending g n, 0),
        (F.seamSparemapParityMode g n, 1)]
      else s.setAll [(F.seamSparemapSpare1Wire g n, w), (F.seamSparemapSpare1Used g n, 1), (F.seamSparemapPending g n, 0),
        (F.seamSparemapParityMode g n, 1)]
    else s) s

/-- A plane carries traffic again (R306): the spare map applied; a reset that waited begins. -/
def doSeamResetDone (g l t : Nat) (s0 : State) : State :=
  let s := s0.at t
  if s.get (seamState g l) = 1 then
    let s1 := (((s.applySpares g l).set (seamState g l) 2).bump (F.seamStatResets g) 1).setMode (inSeam g l).1 (inSeam g l).2 3
    match s1.seam.waiting.find? fun k => k / 2 == g with
    | none => s1
    | some k => (s1.modSeam fun u => { u with waiting := u.waiting.filter (· != k) }).resetPlane g (k % 2)
  else s

def execSeamResetDone (g : Fin 8) (pl : Plane) (t : Nat) (s : State) : Host.Outcome State Fault Refusal :=
  .next (doSeamResetDone g.val (planeNum pl) t s)

/-- A plane of the Rose is lost (R307); both planes lost is a C3 event (R324). -/
def doRosePlaneLoss (l t : Nat) (s0 : State) : State :=
  let s := (s0.at t).takeReaction hubCol (8 + l)
  let mode := s.get F.hubXbarstatMode
  if mode.testBit l then
    let s1 := (List.range 8).foldl (fun s g => s.resendRing g l) s
    let s2 := (s1.setAll [(F.hubXbarstatMode, mode - 2 ^ l), (F.hubXbarstatSpeedup, if mode = 3 then 115 else 0),
      (if l = 0 then F.hubTopoPlaneAUp else F.hubTopoPlaneBUp, 0)]).raise atDegraded [audPilot]
    if mode = 3 then s2 else s2.report hubCol (8 + l) 3
  else s

def execRosePlaneLoss (pl : Plane) (t : Nat) (s : State) : Host.Outcome State Fault Refusal := .next (doRosePlaneLoss (planeNum pl) t s)

/-- A region's clock regenerator cannot relock (R308). -/
def doRegenRelockTimeout (g t : Nat) (s0 : State) : State :=
  let s := s0.at t
  if s.flag (F.seamStatRegenLock g) then s else (s.takeReaction (inRegen g).1 (inRegen g).2).regionOut g

def execRegenRelockTimeout (g : Fin 8) (t : Nat) (s : State) : Host.Outcome State Fault Refusal := .next (doRegenRelockTimeout g.val t s)

/-- A regenerator relocks on a plane, which is then reset (R306). -/
def doRegeneratorRelock (g l t : Nat) (s0 : State) : State :=
  ((s0.at t).set (F.seamStatRegenLock g) 1).resetPlane g l

def execRegeneratorRelock (g : Fin 8) (pl : Plane) (t : Nat) (s : State) : Host.Outcome State Fault Refusal :=
  .next (doRegeneratorRelock g.val (planeNum pl) t s)

/-- A wire's delay trim reaches the end of its range (R305). -/
def execDelayTrimEnd (g : Fin 8) (n : Fin 160) (w : Fin 64) (t : Nat) (s : State) : Host.Outcome State Fault Refusal :=
  .next ((s.at t).wireFail g.val n.val w.val)

end Sys2Proof.Machine
end

