-- ==== Sys2Proof/Machine/Access.lean ====
section
/-! DEFINITION. Reads and writes of the management space by command (R5 to R8, R405, R442, R443, R448). -/
namespace Sys2Proof.Machine

/-- The words a berth agent reaches (R443): to read, or to write. -/
def State.berthMay (s : State) (k a : Nat) (write : Bool) : Bool :=
  let own := fun (p : Nat) => (s.berthOutputs k).any fun q => s.chart.lead p == q
  if write then a == 0x14108 + 16 * k || a == 0x1410C + 16 * k
  else a / 16 == (0x14100 + 16 * k) / 16
    || a == 0x120000 + 4 * k || a / 16 == (0x130200 + 16 * k) / 16
    || (decide (0x1000000 ≤ a ∧ a < 0x1800000) && a % 0x100000 / 8 == (0x1000 + 8 * k) / 8)
    || (decide (0x300000 ≤ a ∧ a < 0x348000) && a % 0x1000 / 8 == (0x100 + 8 * k) / 8)
    || (decide (0x400000 ≤ a ∧ a < 0x408000) && a % 0x1000 == 0x100 + 4 * k)
    || (decide (0x2000000 ≤ a ∧ a < 0x2400000) && own ((a - 0x2000000) / 0x1000)
        && (let o := a % 0x1000
            o == 4 || o == 8 || o == 0x14 || decide (0x40 ≤ o ∧ o < 0x80) || o / 32 == (0x800 + 32 * k) / 32))

/-- A principal may read a word (R2, R397, R443).
[DEDUCED, log entry 124] -/
def State.mayRead (s : State) (p : Principal) (a : Nat) : Bool :=
  match p with
  | .helm => true
  | .pilot _ => a != 0x11204
  | .berth k => s.berthMay k a false
  | .unclaimed => false

/-- A principal writes the fields of a word (R2, R331, R397, R442, R443).
[DEDUCED, log entry 124] -/
def State.writes (s : State) (p : Principal) (w : Writer) (a : Nat) : Bool :=
  match p with
  | .berth k => s.berthMay k a true
  | .unclaimed => false
  | _ => match w with
    | .helm => p.isHelm
    | .pilot => p.isPilot
    | .either => p.isOwner
    | .attn => p.audience == (a - 0x14100) / 16
    | .almBkp => if (a - 0x11100) / 4 < 16 then p.isHelm else p.isPilot

/-- The value that a write stores in an RW field (R5): as its description limits it. -/
def FieldDesc.stored (d : FieldDesc) (v : Nat) : Nat :=
  max d.lo (match d.hi with | some h => min h v | none => v)

/-- The value written gives a WO field an effect (R5): the ignored values of RST.PSTATE.REQ and CHT.CTRL.CMD give none; 0 gives one to
RST.PSTATE.REQ, whose 0 asks for P0, to FLT.ATTN.ACK_MASK and to CPE.MGTDESC; every other WO field acts with the values its
description names, 0 never.
[DEDUCED, log entry 123] -/
def woActs (f : Fld) (a x : Nat) : Bool :=
  if a = 0x10000 ∧ f.lsb = 2 then x != 1
  else if 0x14100 ≤ a ∧ a < 0x14520 ∧ a % 16 = 12 then true
  else if 0x400000 ≤ a ∧ a < 0x408000 ∧ 0x200 ≤ a % 0x1000 ∧ a % 0x1000 < 0x240 then true
  else if a = 0x4000000 then decide (1 ≤ x ∧ x ≤ 6)
  else x != 0

/-- The value written changes a field, or has an effect through it (R442).
[DEDUCED, log entry 123] -/
def State.touches (s : State) (a v : Nat) (d : FieldDesc) : Bool :=
  let x := bitsOf v d.fld.lsb d.fld.width
  match d.access with
  | .rw => s.readField (s.derived a) d != d.stored x
  | .w1c => (x &&& s.get d.fld) != 0
  | .wo => woActs d.fld a x
  | _ => false

/-- The rules of R381 for a write of LVC.REQ.GO and LVC.CTL: the kind that earlier words set, the owner of the slip named. -/
def State.leaveRule (s : State) (p : Principal) (kind a v : Nat) : Bool :=
  if a = 0x13014 ∧ v.testBit 16 = true then (kind == 0xB && p.isHelm) || (kind == 0xC && p.isOwner)
  else if a = 0x1301C ∧ (v.testBit 5 || v.testBit 6) = true then
    (SMap.find? s.lvc.slips (v % 32)).any fun x => x.owner == ownerCode p
  else true

/-- A field of the word that no principal writes (R400): RST.WDOG.KICK, which only the management firmware writes. -/
def firmwareOnly (a v : Nat) : Bool := a == 0x1000C && v.testBit 9

/-- A word that a berth agent may not write at all (R443), whatever the value.
[DEDUCED, log entry 124] -/
def State.outOfScope (s : State) (p : Principal) (a : Nat) : Bool :=
  match p with
  | .berth k => !s.berthMay k a true
  | _ => false

/-- Why a word of a command fails the check of R442: none, unmapped or unpowered (false), outside the principal's rights (true).
[DEDUCED, log entry 124] -/
def State.wordFails (s : State) (p : Principal) (a : Nat) (write : Option (Nat × Nat)) : Option Bool :=
  if !mapped a || !s.reach a then some false
  else match write with
    | none => if s.mayRead p a then none else some true
    | some (kind, v) =>
      if s.outOfScope p a then some true else
      match wordAt (s.leadWord a) with
      | some w =>
        let some_ := w.fields.any (s.touches (s.leadWord a) v)
        if (some_ && !s.writes p w.writer a) || firmwareOnly a v then some true else if s.leaveRule p kind a v then none else some true
      | none => if (if a = 0x11204 then p.isHelm else if 0x6000000 ≤ a then p.isPilot else p.isOwner) then none else some true

/-- The RW and W1C fields of a word take a write (R5); a W1C bit that the hardware has set in the same CK_MGT cycle stays 1 (R8). -/
def State.storeFields (s : State) (a v : Nat) : State :=
  match wordAt a with
  | none => s
  | some w => w.fields.foldl (fun s d =>
      let x := bitsOf v d.fld.lsb d.fld.width
      match d.access with
      | .rw => s.set d.fld (d.stored x)
      | .w1c => s.store d.fld (s.get d.fld - (x &&& (s.get d.fld - (s.freshBits d.fld &&& s.get d.fld))))
      | _ => s) s

/-- Carry out an effect when a bit of the word written is 1, after an earlier one. -/
def onBit (v i : Nat) (act : State → State × Nat) (r : State × Nat) : State × Nat :=
  if v.testBit i then (let x := act r.1; (x.1, if r.2 = stOk then x.2 else r.2)) else r

/-- An effect without a status of its own. -/
def quiet (act : State → State) (s : State) : State × Nat := (act s, stOk)

/-- A write of one cell's words (R84, R90, R335). -/
def writeCel (p o v : Nat) (a : Nat) (s : State) : State × Nat :=
  if o = 0x18 then onBit v 16 (quiet (clearStale p)) (s.storeFields a v, stOk) else (s.storeFields a v, stOk)

/-- A write of a collector page (R317, R321, R335). -/
def writeCol (c o v : Nat) (a : Nat) (s : State) : State × Nat :=
  if o = 0x604 then onBit v 31 (quiet (clearFirst (colBase c))) (s, stOk)
  else if o = 0x614 then ((List.range 32).foldl (fun s i => if v.testBit i then rearmLine c i s else s) s, stOk)
  else if o = 0x61C then onBit v 7 (quiet (injectFault c (v % 32) (bitsOf v 5 2))) (s, stOk)
  else (s.storeFields a v, stOk)

/-- A write of the module-wide blocks (R336, R337, R356, R383 to R386, R407, R409, R427, R449). -/
def writeModule (p : Principal) (a v : Nat) (s : State) : State × Nat :=
  let s0 := (s.storeFields a v, stOk)
  if a = 0x10000 then writePstate (bitsOf v 2 2) s
  else if a = 0x10010 then onBit v 1 (quiet releasePads) s0
  else if a = 0x11204 then ((retainAccess (some v) s).2, stOk)
  else if a = 0x12000 ∨ a = 0x12010 then
    let f := (a - 0x12000) / 16
    onBit v 26 (quiet (unretireFeed f)) (onBit v 25 (quiet (releaseFeed f))
      (if b2n (v.testBit 0) = s.get (F.pwrFeedctlEn f) then s0.1 else enableFeed f (b2n (v.testBit 0)) s0.1, stOk))
  else if a = 0x12050 then onBit v 24 (quiet clearInputPeak) s0
  else if a = 0x12060 then onBit v 6 ldoGoFull s0
  else if a = 0x13014 then onBit v 16 (lvcRequest p) s0
  else if a = 0x1301C then onBit v 7 (withdrawOwn p) (onBit v 6 (renewOwn p) (onBit v 5 (releaseSlip p) s0))
  else if a = 0x14000 then onBit v 3 exitSafe (onBit v 2 (quiet safeCommand) s0)
  else if 0x14100 ≤ a ∧ a < 0x14520 ∧ a % 16 = 12 then (ackMask ((a - 0x14100) / 16) (v % 65536) s, stOk)
  else if a = 0x18040 then onBit v 8 (quiet startBurn) s0
  else if a = 0x18004 then onBit v 14 (quiet (startScrub 8)) s0
  else s0

/-- A write of the hub's words (R33, R198, R274, R335, R468). -/
def writeHub (o v a : Nat) (s : State) : State × Nat :=
  let s0 := (s.storeFields a v, stOk)
  if o = 0x10 then (writeForce (bitsOf v 2 2) ((s.storeFields a v).set F.hubRefctlForce (s.get F.hubRefctlForce)), stOk)
  else if o = 0x40 then onBit v 12 (quiet startWindowFlush) s0
  else if o = 0x60 then onBit v 27 (quiet startSweep) s0
  else if o = 0x74 then onBit v 29 (quiet clearPeak) s0
  else if 0x600 ≤ o ∧ o < 0x620 then writeCol hubCol o v a s
  else if 0x30100 ≤ o ∧ o < 0x30200 then onBit v 16 (reviveAgent ((o - 0x30100) / 4)) s0
  else s0

/-- A write of a counter (R415, R426). -/
def writeCtr (k w v : Nat) (s : State) : State × Nat :=
  if w = 0 then (s.selectCtr k v, stOk)
  else if w = 1 then (s.setCtr k { s.ctr k with thresh := v % 2 ^ 24 }, stOk)
  else (s, stOk)

/-- A write of one word (R5, R442) by a principal, from a session: its RW and W1C fields and then its WO effects, with their reply status. -/
def State.writeWord (src : Sess) (p : Principal) (a0 v : Nat) (s : State) : State × Nat :=
  let a := s.leadWord a0
  let plain := (s.storeFields a v, stOk)
  match ctrOf a with
  | some (k, w) => writeCtr k w v s
  | none =>
    if a < 0x100000 then writeModule p a v s
    else if a < 0x200000 then writeHub (a - 0x100000) v a s
    else if 0x210000 ≤ a ∧ a < 0x300000 then
      (if a % 0x100 = 4 then onBit v 30 (quiet (clearLdsPeak ((a - 0x210000) / 0x100))) plain else plain)
    else if 0x300000 ≤ a ∧ a < 0x400000 then
      (if a % 0x1000 = 8 then onBit v 24 (quiet (clearTrkPeak ((a - 0x300000) / 0x1000))) plain else plain)
    else if 0x400000 ≤ a ∧ a < 0x410000 then
      let g := (a - 0x400000) / 0x1000
      let o := a % 0x1000
      if 0x200 ≤ o ∧ o < 0x240 then (s.set (F.cpeMgtdesc g ((o - 0x200) / 4)) v, stOk)
      else if o = 0x240 then onBit v 0 (quiet (submitCopy g)) plain
      else plain
    else if 0x410000 ≤ a ∧ a < 0x420000 then
      let g := (a - 0x410000) / 0x1000
      if a % 0x1000 = 0 then onBit v 1 (quiet (commandReset g 1)) (onBit v 0 (quiet (commandReset g 0)) plain) else plain
    else if 0x500000 ≤ a ∧ a < 0x600000 then
      (if a % 0x4000 = 4 then onBit v 14 (quiet (startScrub (Fin.ofNat 9 ((a - 0x500000) / 0x4000)))) plain else plain)
    else if 0x600000 ≤ a ∧ a < 0x700000 then
      let q := (a - 0x600000) / 0x100
      if a % 0x100 = 4 then onBit v 13 (resetLink q) (onBit v 12 (quiet fun s => s.unretire (s.chart.lead q)) plain) else plain
    else if 0x780000 ≤ a ∧ a < 0x800000 then
      (if a % 0x40 = 8 then writeThresh ((a - 0x780000) / 0x40) (v % 256) (bitsOf v 8 8) (bitsOf v 16 8) s else plain)
    else if 0x800000 ≤ a ∧ a < 0x1000000 then
      let n := (a - 0x800000) / 0x1000
      let o := a % 0x1000
      if o = 0x60 then onBit v 0 (resetBlock src n) plain
      else if 0x120 ≤ o ∧ o < 0x140 then onBit v 24 (quiet (clearStgPeak (8 * n + (o - 0x120) / 4))) plain
      else if 0x600 ≤ o ∧ o < 0x620 then writeCol (1024 + n) o v a s
      else plain
    else if 0x1000000 ≤ a ∧ a < 0x2000000 then
      let g := (a - 0x1000000) / 0x100000
      let o := a % 0x100000
      if o = 0x124 then onBit v 25 (quiet (clearCtstat g)) plain
      else if o = 0x130 then onBit v 0 (quiet (clearHistograms g)) plain
      else if 0x600 ≤ o ∧ o < 0x620 then writeCol (1152 + g) o v a s
      else plain
    else if 0x2000000 ≤ a ∧ a < 0x2800000 then
      let q := (a - 0x2000000) / 0x1000
      let o := a % 0x1000
      if 0x600 ≤ o ∧ o < 0x620 then writeCol q o v a s else writeCel q o v a s
    else if 0x2800000 ≤ a ∧ a < 0x3000000 then
      let n := (a - 0x2800000) / 0x1000
      let o := a % 0x1000
      if o = 0x18 then onBit v 31 (quiet (clearViolation n)) (s, stOk)
      else if o = 0x20 then onBit v 0 (quiet (clearViolations n)) (s, stOk)
      else plain
    else if a = 0x3000000 then writeTalCtl v s
    else if a = 0x4000000 then
      (if v % 16 = 0 then plain else plain.1.chartCmd (v % 16) (s.inbandPleat src) none)
    else if a = 0x4000080 then (plain.1.modChtu fun u => { u with logByte := 0 }, stOk)
    else if 0x6000000 ≤ a then writeBuf (a - 0x6000000) v s
    else plain

/-- The addresses of a command's words. -/
def wordAddrs (off count : Nat) : List Nat := (List.range count).map fun i => off + 4 * i

/-- The first word of a command that fails its check, with why (R442).
[DEDUCED, log entry 77] -/
def firstFailing (l : List (Option Bool)) : Option (Nat × Bool) :=
  (l.zipIdx.filterMap fun e => e.1.map fun b => (e.2, b)).head?

/-- A command whose word fails is refused as a whole (R440, R442). -/
def State.refuseWords (s : State) (src : Sess) (e : Nat × Bool) : State :=
  s.respond src (if e.2 then .invalidSecurity else .invalidInput) stDenied (min 255 e.1) []

/-- REG_READ's words read in ascending order. -/
def State.readWords (s : State) (p : Principal) : List Nat → List Nat × State
  | [] => ([], s)
  | a :: r => ((s.readWord p a).1 :: ((s.readWord p a).2.readWords p r).1, ((s.readWord p a).2.readWords p r).2)

/-- Status reads are served before READY (R405): RST, ALM, PWR and FLT. -/
def statusWord (a : Nat) : Bool := decide (0x10000 ≤ a ∧ a < 0x13000) || decide (0x14000 ≤ a ∧ a < 0x15000)

/-- REG_READ (R442). -/
def State.regRead (s : State) (src : Sess) (off count : Nat) : State :=
  s.commandWhen src ((wordAddrs off count).all statusWord) Principal.claimed fun p s =>
    if off % 4 ≠ 0 ∨ count = 0 ∨ 1024 < count then s.respond src .invalidInput stDenied 0 []
    else match firstFailing ((wordAddrs off count).map fun a => s.wordFails p a none) with
      | some e => s.refuseWords src e
      | none =>
        let r := s.readWords p (wordAddrs off count)
        r.2.respond src .success stOk 0 r.1

def execRegRead (src : Sess) (off : Fin (2 ^ 28)) (count : Fin 65536) (s : State) : Host.Outcome State Fault Refusal :=
  .next (s.regRead src off.val count.val)

/-- The kind of LVC.REQ that stands when a word is written (R442): the one an earlier word of the command sets, or the register's. -/
def State.stagedKind (s : State) (l : List (Nat × Nat)) (i : Nat) : Nat :=
  match ((l.take i).filter fun e => e.1 == 0x13010).getLast? with
  | some e => e.2 % 16
  | none => s.get F.lvcReqKind

/-- The checks of a command's words to be written. -/
def State.writeChecks (s : State) (p : Principal) (l : List (Nat × Nat)) : List (Option Bool) :=
  l.zipIdx.map fun e => s.wordFails p e.1.1 (some (s.stagedKind l e.2, e.1.2))

/-- Words written in ascending order (R442): the state, and the first status other than OK with the index of its word.
[DEDUCED, log entry 77] -/
def State.writeWords (src : Sess) (p : Principal) : List (Nat × Nat) → Nat → State → State × Option (Nat × Nat)
  | [], _, s => (s, none)
  | e :: r, i, s =>
    let x := s.writeWord src p e.1 e.2
    let y := State.writeWords src p r (i + 1) x.1
    (y.1, if x.2 = stOk then y.2 else some (i, x.2))

/-- REG_WRITE (R442).
[DEDUCED, log entry 77] -/
def State.regWrite (s : State) (src : Sess) (off : Nat) (words : List Nat) : State :=
  s.command src Principal.claimed fun p s =>
    if off % 4 ≠ 0 ∨ words.length = 0 ∨ 1024 < words.length then s.respond src .invalidInput stDenied 0 []
    else
      let l := (wordAddrs off words.length).zip words
      match firstFailing (s.writeChecks p l) with
      | some e => s.refuseWords src e
      | none =>
        let r := State.writeWords src p l 0 s
        match r.2 with
        | none => r.1.respond src .success stOk 0 []
        | some (i, st) => r.1.respond src (cciOf st) st (min 255 i) []

def execRegWrite (src : Sess) (off : Fin (2 ^ 28)) (words : List (Fin (2 ^ 32))) (s : State) : Host.Outcome State Fault Refusal :=
  .next (s.regWrite src off.val (words.map (·.val)))

/-- A write of one register (R5). -/
def execRegisterWrite (src : Sess) (off : Fin (2 ^ 28)) (w : Fin (2 ^ 32)) (s : State) : Host.Outcome State Fault Refusal :=
  .next (s.regWrite src off.val [w.val])

end Sys2Proof.Machine
end

