-- ==== Sys2Proof/Machine/Failover.lean ====
section
/-! DEFINITION. The commands of home failover (R191 to R196, R473). -/
namespace Sys2Proof.Machine

/-- A C2 fault retires a home slice's logic (R191, R192). -/
def doHomeSliceFailover (n t : Nat) (s0 : State) : State :=
  let s := (s0.at t).takeReaction (inSlice n).1 (inSlice n).2
  if s.get (F.homRole n) = 2 ∨ s.home.waiting.contains n = true then s else s.beginFailover n

def execHomeSliceFailover (n : Fin 72) (t : Nat) (s : State) : Host.Outcome State Fault Refusal := .next (doHomeSliceFailover n.val t s)

/-- A cell re-issues its shadows whose slot moved, oldest first (R192). -/
def doShadowReissue (p t : Nat) (s0 : State) : State :=
  let s := s0.at t
  (s.home.shadows.filter fun x => x.cell == p && x.moved).foldl (fun s x => s.reissue x) s

def execShadowReissue (p : Fin 1024) (t : Nat) (s : State) : Host.Outcome State Fault Refusal := .next (doShadowReissue p.val t s)

/-- The berths that own a shared window with a line in a moved slot (R192). -/
def State.ownersOf (s : State) (slots : List Nat) : List Nat :=
  ((slots.flatMap s.chart.windowsIn).map s.chart.winBerth).eraseDups

/-- Service is normal again (R192, R194): HOME to the Pilot, the berths whose requests were re-issued and the owners of the windows
concerned, or DEGRADED after a stack loss; the failover that waited longest runs next (R196). -/
def doHomeFailoverDone (t : Nat) (s0 : State) : State :=
  let s := s0.at t
  match s.home.failover with
  | none => s
  | some f =>
    if s.home.shadows.any fun x => x.moved && decide (x.cell < 1024) then s
    else
      let s1 := (s.home.shadows.filter (·.moved)).foldl (fun s x => s.reissue x) s
      let s2 := s1.raise (if f.stack then atDegraded else atHome)
        (audPilot :: (((s1.home.failover.map (·.berths)).getD []) ++ s.ownersOf f.slots))
      match s2.home.waiting with
      | [] => (s2.modHome fun u => { u with failover := none }).admitEngines
      | k :: r => (s2.modHome fun u => { u with failover := none, waiting := r }).beginFailover k

def execHomeFailoverDone (t : Nat) (s : State) : Host.Outcome State Fault Refusal := .next (doHomeFailoverDone t s)

/-- A C2 fault retires an HBM stack (R194). -/
def doHbmStackLoss (g t : Nat) (s0 : State) : State :=
  let s := (s0.at t).takeReaction (inHbm g).1 (inHbm g).2
  if s.home.waiting.contains (72 + g) then s else s.stackLoss g

def execHbmStackLoss (g : Fin 8) (t : Nat) (s : State) : Host.Outcome State Fault Refusal := .next (doHbmStackLoss g.val t s)

/-- Re-issued requests to a new home have all been admitted (R192 step 5). -/
def State.reissued (s : State) (n : Nat) : Bool := !(s.home.shadows.any fun x => x.moved && decide (x.cell < 1024) && s.slotSlice x.slot == n)

/-- Home-originated work restarts at a new home (R473), once the re-issued requests to it are admitted: a running window flush takes the
window's lines there again, a running sweep every line; write-behind goes on from the O lines it adopted, each with its horizon. -/
def doHomeWorkRestart (n t : Nat) (s0 : State) : State :=
  let s := s0.at t
  if s.home.restarts.contains n && s.reissued n then
    (s.modHome fun u => { u with
      restarts := u.restarts.filter (· != n)
      flushTodo := match u.flushOn, u.flushWin with
        | true, some w => u.flushTodo ++ (u.dir.filter fun e => e.2.home == n && !u.flushTodo.contains e.1
            && decide (s.chart.winStart w ≤ e.1 ∧ e.1 ≤ s.chart.winEnd w)).map (·.1)
        | _, _ => u.flushTodo
      sweepTodo := if s.flag F.hubDeadsweepBusy then
          u.sweepTodo ++ (u.dir.filter fun e => e.2.home == n && !u.sweepTodo.contains e.1).map (·.1)
        else u.sweepTodo }).settle
  else s

def execHomeWorkRestart (n : Fin 72) (t : Nat) (s : State) : Host.Outcome State Fault Refusal := .next (doHomeWorkRestart n.val t s)

end Sys2Proof.Machine
end

