-- ==== Sys2Proof/Machine/Vendor.lean ====
section
/-! DEFINITION. Generic CCI commands and Qorhado vendor commands (R40, R403, R435, R436, R438 to R441). -/
namespace Sys2Proof.Machine

/-- The words of Identify and GET_IDENT (R441). -/
def identWords : List Nat := [0x0, 0x4, 0x8, 0xC, 0x100000]

/-- Some words of the management space as they stand. -/
def State.wordsAt (s : State) (l : List Nat) : List Nat := l.map s.word

/-- Identify (R436, R441): served in every session. -/
def execIdentify (src : Sess) (s : State) : Host.Outcome State Fault Refusal :=
  .next (s.command src (fun _ => true) fun _ s => s.respond src .success stOk 0 (s.wordsAt [0x0, 0x4, 0x8]))

/-- GET_IDENT (R441). -/
def execGetIdent (src : Sess) (s : State) : Host.Outcome State Fault Refusal :=
  .next (s.command src Principal.claimed fun _ s => s.respond src .success stOk 0 (s.wordsAt identWords))

/-- The numbers of the return codes in a record of completion. -/
def Cci.number : Cci → Nat
  | .success => 0
  | .backgroundStarted => 1
  | .invalidInput => 2
  | .unsupported => 3
  | .internalError => 4
  | .retryRequired => 5
  | .busy => 6
  | .invalidSecurity => 23

/-- A background command's record (R437 to R439): its opcode, whether it runs, its return code and its status word. -/
def BgRec.record (b : BgRec) (attn : Nat) : List Nat :=
  [b.opcode, b2n b.running, b.code.number, b.status + 16 * attn + 256 * b.detail]

/-- Background Operation Status (R437, R438): the principal's newest background command.
[DESIGN CHOICE, log entry 73] -/
def execBackgroundOperationStatus (src : Sess) (s : State) : Host.Outcome State Fault Refusal :=
  .next (s.command src Principal.claimed fun p s => s.respond src .success stOk 0
    (match s.bgs.find? fun b => b.who == p with
      | some b => b.record (s.shown p.audience)
      | none => [0, 0, 0, 0]))

/-- The response limit of a session (R438), in bytes.
[DESIGN CHOICE, log entry 129] -/
def State.responseLimit (s : State) (n : Nat) : Nat := SMap.getD s.mgt.limits n 4104

/-- Get Response Message Limit (R438). -/
def execGetResponseMessageLimit (src : Sess) (s : State) : Host.Outcome State Fault Refusal :=
  .next (s.command src Principal.claimed fun _ s => s.respond src .success stOk 0 [s.responseLimit (sessNum src)])

/-- Set Response Message Limit (R438): 256 B to 4,104 B.
[DESIGN CHOICE, log entry 129] -/
def execSetResponseMessageLimit (src : Sess) (limit : Fin 65536) (s : State) : Host.Outcome State Fault Refusal :=
  .next (s.command src Principal.claimed fun _ s =>
    if 256 ≤ limit.val ∧ limit.val ≤ 4104 then
      (s.modMgt fun u => { u with limits := SMap.put u.limits (sessNum src) limit.val }).respond src .success stOk 0 [limit.val]
    else s.respond src .invalidInput stDenied 0 [])

/-- Request Abort Background Operation (R50, R438): only a chart operation has a rule that allows it.
[DESIGN CHOICE, log entry 73] -/
def execRequestAbortBackgroundOp (src : Sess) (s : State) : Host.Outcome State Fault Refusal :=
  .next (s.command src Principal.claimed fun _ s =>
    (if s.bgs.any fun b => b.sess == sessNum src && b.live && b.running && b.opcode == 0xC040 then s.abortChart else s).respond
      src .success stOk 0 [])

/-- CHART_CMD (R58, R441): a background command whose completion carries the result. A command that ends as it starts completes at once.
[DESIGN CHOICE, log entry 130] -/
def issueChart (src : Sess) (cmd : Nat) (s : State) : State :=
  let r := s.chartCmd cmd (s.inbandPleat src) (some (sessNum src))
  if r.2 ≠ stOk ∨ cmd = 4 ∨ cmd = 6 then
    r.1.endBg (sessNum src) 0xC040 (cciOf r.2) r.2 (r.1.get F.chtResultCode)
  else r.1

/-- [DESIGN CHOICE, log entry 130] -/
def execChartCmd (src : Sess) (cmd : Fin 256) (s : State) : Host.Outcome State Fault Refusal :=
  .next (s.command src Principal.isPilot fun p s =>
    if 1 ≤ cmd.val ∧ cmd.val ≤ 6 then s.startBg src p 0xC040 0 (issueChart src cmd.val)
    else s.respond src .invalidInput stDenied 0 [])

/-- MODULE_RESET (R398, R441): the response is sent before the reset. -/
def execModuleReset (src : Sess) (s : State) : Host.Outcome State Fault Refusal :=
  .next (s.command src Principal.isHelm fun _ s => (s.respond src .success stOk 0 []).softReset 6)

/-! Fuse burns (R441): answered when the burn has verified. -/

/-- A burn begins, or the command is refused with nothing burned. -/
def State.beginBurn (s : State) (src : Sess) (what : Option BurnWhat) : State :=
  match what with
  | none => s.respond src .invalidInput stDenied 0 []
  | some w => s.modMgt fun u => { u with burns := u.burns ++ [⟨sessNum src, true, w⟩] }

/-- A chart key slot may be programmed (R40). -/
def State.mayProgram (s : State) (slot : Nat) : Bool := decide (slot < 4) && !(s.get F.chtKeyslotProgrammed).testBit slot

/-- A chart key slot is usable (R40): programmed and not revoked. -/
def State.usableKey (s : State) (slot : Nat) : Bool :=
  (s.get F.chtKeyslotProgrammed).testBit slot && !(s.get F.chtKeyslotRevoked).testBit slot

/-- A chart key slot may be revoked (R40): it is usable, and another stays usable. A slot that is not programmed, or revoked already, is
refused.
[DESIGN CHOICE, log entry 152] -/
def State.mayRevoke (s : State) (slot : Nat) : Bool :=
  decide (slot < 4) && s.usableKey slot && (List.range 4).any fun i => i != slot && s.usableKey i

/-- KEY_PROGRAM (R40, R441). -/
def execKeyProgram (src : Sess) (slot : Fin 256) (key : List (Fin 256)) (s : State) : Host.Outcome State Fault Refusal :=
  .next (s.command src Principal.isHelm fun _ s => s.beginBurn src
    (if s.mayProgram slot.val && isPublicKey (key.map (·.val)) then some (.keyProgram slot.val (sha384 (key.map (·.val)))) else none))

/-- KEY_REVOKE (R40, R41, R441). -/
def execKeyRevoke (src : Sess) (slot : Fin 256) (s : State) : Host.Outcome State Fault Refusal :=
  .next (s.command src Principal.isHelm fun _ s => s.beginBurn src (if s.mayRevoke slot.val then some (.keyRevoke slot.val) else none))

/-- The state of a pin's fuse (R403), burnt or not: 0–255 the PERST_L of a quarter, 256–511 its ATTN_L, 512 MGE_RST_L; none for another number.
[DESIGN CHOICE, log entry 74] -/
def State.pinFuse (s : State) (pin : Nat) : Option Bool :=
  if pin < 256 then some ((s.get (F.rstPinfusePerst (pin / 32))).testBit (pin % 32))
  else if pin < 512 then some (s.attnFuse (pin - 256))
  else if pin = 512 then some (s.flag F.rstPinfuseMgeRst)
  else none

/-- A pin's fuse burns. -/
def State.burnPin (s : State) (pin : Nat) : State :=
  if pin < 256 then s.setBit (F.rstPinfusePerst (pin / 32)) (pin % 32)
  else if pin < 320 then s.setBit (F.rstPinfuseAttn ((pin - 256) / 32)) (pin % 32)
  else if pin < 512 then s.modNv fun n => { n with attnFuses := if n.attnFuses.contains (pin - 256) then n.attnFuses else (pin - 256) :: n.attnFuses }
  else s.set F.rstPinfuseMgeRst 1

/-- PINFUSE_SET (R403, R441): the value a pin has already needs no burn; a burnt fuse cannot be restored.
[DESIGN CHOICE, log entry 74] -/
def execPinfuseSet (src : Sess) (pin : Fin 65536) (value : Bool) (s : State) : Host.Outcome State Fault Refusal :=
  .next (s.command src Principal.isHelm fun _ s =>
    match s.pinFuse pin.val with
    | none => s.beginBurn src none
    | some b => if b = value then s.respond src .success stOk 0 [] else s.beginBurn src (if value then some (.pinFuse pin.val) else none))

/-- The unclaimed principal (R436). -/
def Principal.isUnclaimed : Principal → Bool
  | .unclaimed => true
  | _ => false

/-- HELM_CLAIM (R436): the session's key becomes the Helm's, the key it carries the first chart key. -/
def execHelmClaim (src : Sess) (key : List (Fin 256)) (s : State) : Host.Outcome State Fault Refusal :=
  .next (s.command src Principal.isUnclaimed fun _ s => s.beginBurn src
    (match s.session src with
      | some r => if s.get F.mgtCredHelmProg = 0 ∧ isPublicKey (key.map (·.val)) = true then
          some (.helmClaim r.key (sha384 (key.map (·.val)))) else none
      | none => none))

/-- HELM_ROTATE (R436): the next free identity slot, and the one it revokes. -/
def execHelmRotate (src : Sess) (key : List (Fin 256)) (s : State) : Host.Outcome State Fault Refusal :=
  .next (s.command src Principal.isHelm fun _ s => s.beginBurn src
    (match (List.range 4).find? (fun i => !(s.get F.mgtCredHelmProg).testBit i), s.helmSlot with
      | some n, some old => if isPublicKey (key.map (·.val)) then some (.helmRotate n (sha384 (key.map (·.val))) old) else none
      | _, _ => none))

/-- The fuses a burn sets. -/
def State.applyBurn (s : State) (w : BurnWhat) : State :=
  match w with
  | .keyProgram slot d =>
    (s.setBit F.chtKeyslotProgrammed slot).modNv fun n => { n with chartKeys := SMap.put n.chartKeys slot d }
  | .keyRevoke slot => s.setBit F.chtKeyslotRevoked slot
  | .pinFuse pin => s.burnPin pin
  | .helmClaim i c =>
    (((s.setBit F.mgtCredHelmProg 0).setBit F.chtKeyslotProgrammed 0).modNv fun n => { n with
      helmKeys := SMap.put n.helmKeys 0 i
      chartKeys := SMap.put n.chartKeys 0 c })
  | .helmRotate slot d old =>
    ((s.setBit F.mgtCredHelmProg slot).setBit F.mgtCredHelmRev old).modNv fun n => { n with helmKeys := SMap.put n.helmKeys slot d }

/-- A burn asked for earlier still has its place (R40, R436): its slot is free, and a revocation leaves another key.
[DESIGN CHOICE, log entry 131] -/
def State.burnStands (s : State) (w : BurnWhat) : Bool :=
  match w with
  | .keyProgram slot _ => s.mayProgram slot
  | .keyRevoke slot => s.mayRevoke slot
  | .pinFuse _ => true
  | .helmClaim _ _ => s.get F.mgtCredHelmProg == 0
  | .helmRotate slot _ old => !(s.get F.mgtCredHelmProg).testBit slot && s.helmSlot == some old

/-- The sessions that end with a verified burn (R436, R437): the claiming one, the Helm's whose key is revoked.
[DESIGN CHOICE, log entry 131] -/
def State.endBurnt (s : State) (j : BurnJob) : State :=
  match j.what with
  | .helmClaim _ _ => if j.live then s.endSession j.sess else s
  | .helmRotate _ _ _ => s.endSessions fun _ r => r.who.isHelm
  | _ => s

/-- Answer a burn's command in its session, where that is still open (R437). -/
def State.answerBurn (s : State) (src : Sess) (j : BurnJob) (ok : Bool) : State :=
  if j.live then (if ok then s.respond src .success stOk 0 [] else s.respond src .invalidInput stDenied 0 []) else s

/-- A burn ends (R441): verified, it takes effect and is answered; not verified, it is answered DENIED, and the fuses read as they stand.
[DESIGN CHOICE, log entry 131] -/
def doFuseBurnVerify (src : Sess) (ok burned : Bool) (t : Nat) (s0 : State) : State :=
  let s := s0.at t
  match s.mgt.burns.find? fun j => j.sess == sessNum src with
  | none => s
  | some j =>
    let s1 := s.modMgt fun u => { u with burns := u.burns.erase j }
    if ok && s.burnStands j.what then ((s1.applyBurn j.what).answerBurn src j true).endBurnt j
    else (if !ok && burned && s.burnStands j.what then s1.applyBurn j.what else s1).answerBurn src j false

def execFuseBurnVerify (src : Sess) (ok burned : Bool) (t : Nat) (s : State) : Host.Outcome State Fault Refusal :=
  .next (doFuseBurnVerify src ok burned t s)

/-! The credential store (R435). -/

/-- PILOT_ENROL (R435, R441).
[DESIGN CHOICE, log entry 75] -/
def enrolPilot (src : Sess) (key : List Nat) (s : State) : State :=
  match (List.range 4).find? (fun n => (SMap.find? s.nv.pilotKeys n).isNone) with
  | none => s.respond src .invalidInput stDenied 0 []
  | some n =>
    if isPublicKey key then (s.modNv fun v => { v with pilotKeys := SMap.put v.pilotKeys n (sha384 key) }).respond src .success stOk 0 []
    else s.respond src .invalidInput stDenied 0 []

def execPilotEnrol (src : Sess) (key : List (Fin 256)) (s : State) : Host.Outcome State Fault Refusal :=
  .next (s.command src Principal.isHelm fun _ s => enrolPilot src (key.map (·.val)) s)

/-- PILOT_REMOVE (R435, R437, R441): the sessions of that Pilot end. -/
def removePilot (src : Sess) (digest : List Nat) (s : State) : State :=
  match (List.range 4).find? (fun n => SMap.find? s.nv.pilotKeys n == some digest) with
  | none => s.respond src .invalidInput stDenied 0 []
  | some n => (((s.modNv fun v => { v with pilotKeys := SMap.del v.pilotKeys n }).endSessions fun _ r => r.who == .pilot n).respond
      src .success stOk 0 [])

def execPilotRemove (src : Sess) (digest : List (Fin 256)) (s : State) : Host.Outcome State Fault Refusal :=
  .next (s.command src Principal.isHelm fun _ s => removePilot src (digest.map (·.val)) s)

/-- BERTH_KEY_SET (R435, R437, R441): the berth's session ends. -/
def setBerthKey (src : Sess) (k : Nat) (key : Option (List Nat)) (s : State) : State :=
  if k < 64 ∧ key.all isPublicKey = true then
    ((s.modNv fun v => { v with berthKeys := match key with
      | none => SMap.del v.berthKeys k
      | some x => SMap.put v.berthKeys k (sha384 x) }).endSession (64 + k)).respond src .success stOk 0 []
  else s.respond src .invalidInput stDenied 0 []

def execBerthKeySet (src : Sess) (k : Fin 256) (key : Option (List (Fin 256))) (s : State) : Host.Outcome State Fault Refusal :=
  .next (s.command src Principal.isPilot fun _ s => setBerthKey src k.val (key.map fun l => l.map (·.val)) s)

end Sys2Proof.Machine
end

