-- ==== Sys2Proof/Machine/Dispatch.lean ====
section
/-! DEFINITION. One arm per command: the meaning of each, by one direct call. -/
namespace Sys2Proof.Machine

def exec (i : Instr) (s : State) : Host.Outcome State Fault Refusal :=
  match i with
  | .referenceFailure r t => Sys2Proof.Machine.execReferenceFailure r t s
  | .referenceRecovered r t => Sys2Proof.Machine.execReferenceRecovered r t s
  | .holdoverExpired t => Sys2Proof.Machine.execHoldoverExpired t s
  | .referenceRevert t => Sys2Proof.Machine.execReferenceRevert t s
  | .referenceForce src force => Sys2Proof.Machine.execReferenceForce src force s
  | .referenceTakeAtStart r t => Sys2Proof.Machine.execReferenceTakeAtStart r t s
  | .referenceStartTimeout t => Sys2Proof.Machine.execReferenceStartTimeout t s
  | .sscMeasurement spread modfreq => Sys2Proof.Machine.execSscMeasurement spread modfreq s
  | .rootPllUnlock => Sys2Proof.Machine.execRootPllUnlock s
  | .rootPllLock t locked => Sys2Proof.Machine.execRootPllLock t locked s
  | .chartLoad src => Sys2Proof.Machine.execChartLoad src s
  | .chartAmend src => Sys2Proof.Machine.execChartAmend src s
  | .chartQuiesce src => Sys2Proof.Machine.execChartQuiesce src s
  | .chartResume src => Sys2Proof.Machine.execChartResume src s
  | .chartRebase src => Sys2Proof.Machine.execChartRebase src s
  | .chartAbort src => Sys2Proof.Machine.execChartAbort src s
  | .quiesceDrained t => Sys2Proof.Machine.execQuiesceDrained t s
  | .quiesceWaitExpired t => Sys2Proof.Machine.execQuiesceWaitExpired t s
  | .chartChecksDone t => Sys2Proof.Machine.execChartChecksDone t s
  | .chartLeaveWaitExpired t => Sys2Proof.Machine.execChartLeaveWaitExpired t s
  | .chartCommitDone t => Sys2Proof.Machine.execChartCommitDone t s
  | .amendmentApplyDone t => Sys2Proof.Machine.execAmendmentApplyDone t s
  | .chartBufWrite src word w => Sys2Proof.Machine.execChartBufWrite src word w s
  | .logreadDataRead src => Sys2Proof.Machine.execLogreadDataRead src s
  | .chartStartup t => Sys2Proof.Machine.execChartStartup t s
  | .cxlLinkUp p a t => Sys2Proof.Machine.execCxlLinkUp p a t s
  | .cxlTrainingFailed p t => Sys2Proof.Machine.execCxlTrainingFailed p t s
  | .partnerRecoveryChange p retrains t => Sys2Proof.Machine.execPartnerRecoveryChange p retrains t s
  | .pbrAdv p ids => Sys2Proof.Machine.execPbrAdv p ids s
  | .identifySwitchDevice src => Sys2Proof.Machine.execIdentifySwitchDevice src s
  | .getPhysicalPortState src ports => Sys2Proof.Machine.execGetPhysicalPortState src ports s
  | .physicalPortControl src port act => Sys2Proof.Machine.execPhysicalPortControl src port act s
  | .sendPpbCxlioConfigRequest src port q answer => Sys2Proof.Machine.execSendPpbCxlioConfigRequest src port q answer s
  | .getVirtualCxlSwitchInfo src => Sys2Proof.Machine.execGetVirtualCxlSwitchInfo src s
  | .bindVppb src v idx port ld => Sys2Proof.Machine.execBindVppb src v idx port ld s
  | .unbindVppb src v idx option => Sys2Proof.Machine.execUnbindVppb src v idx option s
  | .generateAerEvent src v idx err => Sys2Proof.Machine.execGenerateAerEvent src v idx err s
  | .tunnelManagementCommand src port q answer => Sys2Proof.Machine.execTunnelManagementCommand src port q answer s
  | .sendLdCxlioConfigRequest src port ld q answer => Sys2Proof.Machine.execSendLdCxlioConfigRequest src port ld q answer s
  | .sendLdCxlioMemoryRequest src port ld q answer => Sys2Proof.Machine.execSendLdCxlioMemoryRequest src port ld q answer s
  | .bindPleat src v idx p ld => Sys2Proof.Machine.execBindPleat src v idx p ld s
  | .unbindPleat src p ld option => Sys2Proof.Machine.execUnbindPleat src p ld option s
  | .getBindingState src p => Sys2Proof.Machine.execGetBindingState src p s
  | .tackAdvance p ld t => Sys2Proof.Machine.execTackAdvance p ld t s
  | .tackSlotWaitExpired t => Sys2Proof.Machine.execTackSlotWaitExpired t s
  | .tackRetire p ld tack t => Sys2Proof.Machine.execTackRetire p ld tack t s
  | .responseWaitExpired p id t => Sys2Proof.Machine.execResponseWaitExpired p id t s
  | .unbindWaitSatisfied t => Sys2Proof.Machine.execUnbindWaitSatisfied t s
  | .unbindWaitExpired t => Sys2Proof.Machine.execUnbindWaitExpired t s
  | .slotControlWrite v idx act => Sys2Proof.Machine.execSlotControlWrite v idx act s
  | .presenceDebounced q level t => Sys2Proof.Machine.execPresenceDebounced q level t s
  | .perstInChange q low => Sys2Proof.Machine.execPerstInChange q low s
  | .messageIngress p m t => Sys2Proof.Machine.execMessageIngress p m t s
  | .admissionRequest p fc g t => Sys2Proof.Machine.execAdmissionRequest p fc g t s
  | .outputNextMessage o t => Sys2Proof.Machine.execOutputNextMessage o t s
  | .segmentRelease o t => Sys2Proof.Machine.execSegmentRelease o t s
  | .cutThroughGap o slots t => Sys2Proof.Machine.execCutThroughGap o slots t s
  | .poisonFill o t => Sys2Proof.Machine.execPoisonFill o t s
  | .demotionEnd g p cls t => Sys2Proof.Machine.execDemotionEnd g p cls t s
  | .seamSlotReceive o id idx pl h data sp0 sp1 rose t => Sys2Proof.Machine.execSeamSlotReceive o id idx pl h data sp0 sp1 rose t s
  | .seamResendReceive o id idx pl h data sp0 sp1 rose t => Sys2Proof.Machine.execSeamResendReceive o id idx pl h data sp0 sp1 rose t s
  | .seamResetCommand src g pl => Sys2Proof.Machine.execSeamResetCommand src g pl s
  | .seamResetDone g pl t => Sys2Proof.Machine.execSeamResetDone g pl t s
  | .rosePlaneLoss pl t => Sys2Proof.Machine.execRosePlaneLoss pl t s
  | .regenRelockTimeout g t => Sys2Proof.Machine.execRegenRelockTimeout g t s
  | .boltRowRetire g e t => Sys2Proof.Machine.execBoltRowRetire g e t s
  | .weightRefresh t => Sys2Proof.Machine.execWeightRefresh t s
  | .shaperSlot o j t => Sys2Proof.Machine.execShaperSlot o j t s
  | .queueSample g t => Sys2Proof.Machine.execQueueSample g t s
  | .qhistClear src g => Sys2Proof.Machine.execQhistClear src g s
  | .tackCountsClear src p => Sys2Proof.Machine.execTackCountsClear src p s
  | .ctstatClear src g => Sys2Proof.Machine.execCtstatClear src g s
  | .stgPeakClear src n c => Sys2Proof.Machine.execStgPeakClear src n c s
  | .homeAdmission p fc g t => Sys2Proof.Machine.execHomeAdmission p fc g t s
  | .rdS line t => Sys2Proof.Machine.execRdS line t s
  | .rdOwn line t => Sys2Proof.Machine.execRdOwn line t s
  | .upg line t => Sys2Proof.Machine.execUpg line t s
  | .rdCur line t => Sys2Proof.Machine.execRdCur line t s
  | .evictS line t => Sys2Proof.Machine.execEvictS line t s
  | .wrBack line t => Sys2Proof.Machine.execWrBack line t s
  | .wrClean line t => Sys2Proof.Machine.execWrClean line t s
  | .wrFull line t => Sys2Proof.Machine.execWrFull line t s
  | .wrPart line t => Sys2Proof.Machine.execWrPart line t s
  | .snData p tag port line t => Sys2Proof.Machine.execSnData p tag port line t s
  | .snInv p tag port line t => Sys2Proof.Machine.execSnInv p tag port line t s
  | .snCur p tag port line t => Sys2Proof.Machine.execSnCur p tag port line t s
  | .srI port line t => Sys2Proof.Machine.execSrI port line t s
  | .srS port line t => Sys2Proof.Machine.execSrS port line t s
  | .srIData port line data t => Sys2Proof.Machine.execSrIData port line data t s
  | .srSData port line data t => Sys2Proof.Machine.execSrSData port line data t s
  | .srCurData port line data t => Sys2Proof.Machine.execSrCurData port line data t s
  | .srCur port line t => Sys2Proof.Machine.execSrCur port line t s
  | .biconflict p tag line t => Sys2Proof.Machine.execBiconflict p tag line t s
  | .poolResponse line write data poison status t => Sys2Proof.Machine.execPoolResponse line write data poison status t s
  | .snoopTimeout line a why t => Sys2Proof.Machine.execSnoopTimeout line a why t s
  | .deadAgentSweepDone t => Sys2Proof.Machine.execDeadAgentSweepDone t s
  | .agentRevive src a => Sys2Proof.Machine.execAgentRevive src a s
  | .writeBehind line t => Sys2Proof.Machine.execWriteBehind line t s
  | .windowFlushStart src => Sys2Proof.Machine.execWindowFlushStart src s
  | .windowFlushDone t => Sys2Proof.Machine.execWindowFlushDone t s
  | .homeSliceFailover n t => Sys2Proof.Machine.execHomeSliceFailover n t s
  | .shadowReissue p t => Sys2Proof.Machine.execShadowReissue p t s
  | .homeFailoverDone t => Sys2Proof.Machine.execHomeFailoverDone t s
  | .hbmStackLoss g t => Sys2Proof.Machine.execHbmStackLoss g t s
  | .homeWorkRestart n t => Sys2Proof.Machine.execHomeWorkRestart n t s
  | .trkPeakClear src n => Sys2Proof.Machine.execTrkPeakClear src n s
  | .lodestarCommandWrite p id h off bytes t => Sys2Proof.Machine.execLodestarCommandWrite p id h off bytes t s
  | .fetchAdd ch k t => Sys2Proof.Machine.execFetchAdd ch k t s
  | .compareSwap ch k t => Sys2Proof.Machine.execCompareSwap ch k t s
  | .swap ch k t => Sys2Proof.Machine.execSwap ch k t s
  | .wait ch k t => Sys2Proof.Machine.execWait ch k t s
  | .notify ch k t => Sys2Proof.Machine.execNotify ch k t s
  | .barrier ch k t => Sys2Proof.Machine.execBarrier ch k t s
  | .lock ch k t => Sys2Proof.Machine.execLock ch k t s
  | .unlock ch k t => Sys2Proof.Machine.execUnlock ch k t s
  | .groupCreate ch k t => Sys2Proof.Machine.execGroupCreate ch k t s
  | .groupJoin ch k t => Sys2Proof.Machine.execGroupJoin ch k t s
  | .groupLeave ch k t => Sys2Proof.Machine.execGroupLeave ch k t s
  | .groupDestroy ch k t => Sys2Proof.Machine.execGroupDestroy ch k t s
  | .objAlloc ch k t => Sys2Proof.Machine.execObjAlloc ch k t s
  | .objFree ch k t => Sys2Proof.Machine.execObjFree ch k t s
  | .lodestarResultReturn ch k t => Sys2Proof.Machine.execLodestarResultReturn ch k t s
  | .parkedTimeout ch k t => Sys2Proof.Machine.execParkedTimeout ch k t s
  | .allWaitingFreeze grp t => Sys2Proof.Machine.execAllWaitingFreeze grp t s
  | .allWaitingDecision grp t => Sys2Proof.Machine.execAllWaitingDecision grp t s
  | .ldsPeakClear src n => Sys2Proof.Machine.execLdsPeakClear src n s
  | .copy p id h off bytes t => Sys2Proof.Machine.execCopy p id h off bytes t s
  | .zero p id h off bytes t => Sys2Proof.Machine.execZero p id h off bytes t s
  | .sanitize p id h off bytes t => Sys2Proof.Machine.execSanitize p id h off bytes t s
  | .copyJobStart g t => Sys2Proof.Machine.execCopyJobStart g t s
  | .copyChunkDone g data dirty t => Sys2Proof.Machine.execCopyChunkDone g data dirty t s
  | .copyLeaveWaitExpired g t => Sys2Proof.Machine.execCopyLeaveWaitExpired g t s
  | .copyLeaveRenew g t => Sys2Proof.Machine.execCopyLeaveRenew g t s
  | .copyEngineFailure g t => Sys2Proof.Machine.execCopyEngineFailure g t s
  | .mgtCopySubmit src g => Sys2Proof.Machine.execMgtCopySubmit src g s
  | .violClear src n => Sys2Proof.Machine.execViolClear src n s
  | .violCountClear src n => Sys2Proof.Machine.execViolCountClear src n s
  | .sextantPointDone l mismatches t => Sys2Proof.Machine.execSextantPointDone l mismatches t s
  | .fomTick p t => Sys2Proof.Machine.execFomTick p t s
  | .rangeChangeRequest l vga up t => Sys2Proof.Machine.execRangeChangeRequest l vga up t s
  | .trialRetry l t => Sys2Proof.Machine.execTrialRetry l t s
  | .trialEnd l t1 t2 pushing t => Sys2Proof.Machine.execTrialEnd l t1 t2 pushing t s
  | .quietWindowGrant p t => Sys2Proof.Machine.execQuietWindowGrant p t s
  | .naturalGap p t => Sys2Proof.Machine.execNaturalGap p t s
  | .suspectStep l t => Sys2Proof.Machine.execSuspectStep l t s
  | .presetWrite l a t => Sys2Proof.Machine.execPresetWrite l a t s
  | .threshWrite src l target attn low => Sys2Proof.Machine.execThreshWrite src l target attn low s
  | .sweepStart src => Sys2Proof.Machine.execSweepStart src s
  | .sweepLaneDone l ho vo eye t => Sys2Proof.Machine.execSweepLaneDone l ho vo eye t s
  | .codewordReceive p cw t => Sys2Proof.Machine.execCodewordReceive p cw t s
  | .train p b => Sys2Proof.Machine.execTrain p b s
  | .resetReq p => Sys2Proof.Machine.execResetReq p s
  | .creditSync p => Sys2Proof.Machine.execCreditSync p s
  | .creditTotals p totals => Sys2Proof.Machine.execCreditTotals p totals s
  | .retire p => Sys2Proof.Machine.execRetire p s
  | .creditSyncTimeout p t => Sys2Proof.Machine.execCreditSyncTimeout p t s
  | .nakTimeout p t => Sys2Proof.Machine.execNakTimeout p t s
  | .replayTimeout p t => Sys2Proof.Machine.execReplayTimeout p t s
  | .fnlTrainingPhase p good t => Sys2Proof.Machine.execFnlTrainingPhase p good t s
  | .fnlLinkUp p t => Sys2Proof.Machine.execFnlLinkUp p t s
  | .presetResetTimeout p t => Sys2Proof.Machine.execPresetResetTimeout p t s
  | .watchEnd p t => Sys2Proof.Machine.execWatchEnd p t s
  | .lossOfSignal p t => Sys2Proof.Machine.execLossOfSignal p t s
  | .graceExpired p t => Sys2Proof.Machine.execGraceExpired p t s
  | .linkResetCommand src p => Sys2Proof.Machine.execLinkResetCommand src p s
  | .linkUnretire src p => Sys2Proof.Machine.execLinkUnretire src p s
  | .cxlReplayTimeout p again t => Sys2Proof.Machine.execCxlReplayTimeout p again t s
  | .errorLineEvent c events => Sys2Proof.Machine.execErrorLineEvent c events s
  | .wiringFault c idx => Sys2Proof.Machine.execWiringFault c idx s
  | .wiringPoll c idx found quiet t => Sys2Proof.Machine.execWiringPoll c idx found quiet t s
  | .wiringRearm src c idx => Sys2Proof.Machine.execWiringRearm src c idx s
  | .inputServiceEntry c idx => Sys2Proof.Machine.execInputServiceEntry c idx s
  | .inputServiceTimeout c idx => Sys2Proof.Machine.execInputServiceTimeout c idx s
  | .firstRecordClear src c => Sys2Proof.Machine.execFirstRecordClear src c s
  | .collectorSelfFault c lasting => Sys2Proof.Machine.execCollectorSelfFault c lasting s
  | .safeEnter src => Sys2Proof.Machine.execSafeEnter src s
  | .safeDrainEnd t => Sys2Proof.Machine.execSafeDrainEnd t s
  | .safeExit src => Sys2Proof.Machine.execSafeExit src s
  | .c0WindowEnd t => Sys2Proof.Machine.execC0WindowEnd t s
  | .attentionAck src a mask => Sys2Proof.Machine.execAttentionAck src a mask s
  | .faultInject src c idx cls => Sys2Proof.Machine.execFaultInject src c idx cls s
  | .correctableError u p after t => Sys2Proof.Machine.execCorrectableError u p after t s
  | .uncorrectableError u p w after t => Sys2Proof.Machine.execUncorrectableError u p w after t s
  | .scrubStart src u => Sys2Proof.Machine.execScrubStart src u s
  | .scrubRead u found t => Sys2Proof.Machine.execScrubRead u found t s
  | .scrubLeaveRenew u t => Sys2Proof.Machine.execScrubLeaveRenew u t s
  | .scrubDone u t => Sys2Proof.Machine.execScrubDone u t s
  | .fuseBurn src => Sys2Proof.Machine.execFuseBurn src s
  | .fuseBurnDone ok t => Sys2Proof.Machine.execFuseBurnDone ok t s
  | .oringReverse f t => Sys2Proof.Machine.execOringReverse f t s
  | .feedPresent f v t => Sys2Proof.Machine.execFeedPresent f v t s
  | .feedQualified f t => Sys2Proof.Machine.execFeedQualified f t s
  | .bulkCapMeasure c => Sys2Proof.Machine.execBulkCapMeasure c s
  | .feedPowerGood f t => Sys2Proof.Machine.execFeedPowerGood f t s
  | .feedStartTimeout f t => Sys2Proof.Machine.execFeedStartTimeout f t s
  | .gateCheckFailure f t => Sys2Proof.Machine.execGateCheckFailure f t s
  | .feedUndervoltage f v t => Sys2Proof.Machine.execFeedUndervoltage f v t s
  | .feedOvervoltageLong f t => Sys2Proof.Machine.execFeedOvervoltageLong f t s
  | .feedOvervoltageFast f t => Sys2Proof.Machine.execFeedOvervoltageFast f t s
  | .feedLimitEnter f t => Sys2Proof.Machine.execFeedLimitEnter f t s
  | .feedLimitExit f t => Sys2Proof.Machine.execFeedLimitExit f t s
  | .feedOcTrip f t => Sys2Proof.Machine.execFeedOcTrip f t s
  | .feedFastTrip f t => Sys2Proof.Machine.execFeedFastTrip f t s
  | .feedRetry f t => Sys2Proof.Machine.execFeedRetry f t s
  | .feedTripCountClear f t => Sys2Proof.Machine.execFeedTripCountClear f t s
  | .feedCycled f v t => Sys2Proof.Machine.execFeedCycled f v t s
  | .feedRelease src f => Sys2Proof.Machine.execFeedRelease src f s
  | .feedUnretire src f => Sys2Proof.Machine.execFeedUnretire src f s
  | .rideThroughStart vbus t => Sys2Proof.Machine.execRideThroughStart vbus t s
  | .rideThroughEnd f t => Sys2Proof.Machine.execRideThroughEnd f t s
  | .dataPlaneShed t => Sys2Proof.Machine.execDataPlaneShed t s
  | .shedPlaneOff t => Sys2Proof.Machine.execShedPlaneOff t s
  | .almanacSaveDone t => Sys2Proof.Machine.execAlmanacSaveDone t s
  | .avsAckTimeout r => Sys2Proof.Machine.execAvsAckTimeout r s
  | .railPoll readings m t => Sys2Proof.Machine.execRailPoll readings m t s
  | .railFault r => Sys2Proof.Machine.execRailFault r s
  | .brownOut => Sys2Proof.Machine.execBrownOut s
  | .ldoGoFull src => Sys2Proof.Machine.execLdoGoFull src s
  | .ldoReturnLow t => Sys2Proof.Machine.execLdoReturnLow t s
  | .leaveRequest q t => Sys2Proof.Machine.execLeaveRequest q t s
  | .leaveRedecide t => Sys2Proof.Machine.execLeaveRedecide t s
  | .leaveRenew idx t => Sys2Proof.Machine.execLeaveRenew idx t s
  | .slipExpiry idx t => Sys2Proof.Machine.execSlipExpiry idx t s
  | .slipRelease src => Sys2Proof.Machine.execSlipRelease src s
  | .slipRenew src => Sys2Proof.Machine.execSlipRenew src s
  | .leaveWithdraw src => Sys2Proof.Machine.execLeaveWithdraw src s
  | .lvcRequest src => Sys2Proof.Machine.execLvcRequest src s
  | .inputPeakClear src => Sys2Proof.Machine.execInputPeakClear src s
  | .enterP2 src => Sys2Proof.Machine.execEnterP2 src s
  | .enterP3 src => Sys2Proof.Machine.execEnterP3 src s
  | .exitP2 src => Sys2Proof.Machine.execExitP2 src s
  | .pstateEntryComplete t => Sys2Proof.Machine.execPstateEntryComplete t s
  | .wake wakeL t => Sys2Proof.Machine.execWake wakeL t s
  | .padRelease src => Sys2Proof.Machine.execPadRelease src s
  | .powerOnReset t => Sys2Proof.Machine.execPowerOnReset t s
  | .feedReturnReset t => Sys2Proof.Machine.execFeedReturnReset t s
  | .resetL ns t => Sys2Proof.Machine.execResetL ns t s
  | .watchdogExpiry t => Sys2Proof.Machine.execWatchdogExpiry t s
  | .watchdogKick t => Sys2Proof.Machine.execWatchdogKick t s
  | .blockSwreset src n => Sys2Proof.Machine.execBlockSwreset src n s
  | .blockResetDone n t => Sys2Proof.Machine.execBlockResetDone n t s
  | .regionResetDone g t => Sys2Proof.Machine.execRegionResetDone g t s
  | .portReset p t => Sys2Proof.Machine.execPortReset p t s
  | .retainDataAccess src w => Sys2Proof.Machine.execRetainDataAccess src w s
  | .managementBootDone took t => Sys2Proof.Machine.execManagementBootDone took t s
  | .regionPowerUpDone g t => Sys2Proof.Machine.execRegionPowerUpDone g t s
  | .ready t => Sys2Proof.Machine.execReady t s
  | .counterSelect src k event mode sub berth berthEn chain en => Sys2Proof.Machine.execCounterSelect src k event mode sub berth berthEn chain en s
  | .counterClear src k => Sys2Proof.Machine.execCounterClear src k s
  | .tallyFreeze src => Sys2Proof.Machine.execTallyFreeze src s
  | .tallyUnfreeze src => Sys2Proof.Machine.execTallyUnfreeze src s
  | .tallySnap src => Sys2Proof.Machine.execTallySnap src s
  | .tallyPeriod t => Sys2Proof.Machine.execTallyPeriod t s
  | .tallyBufferFlip t => Sys2Proof.Machine.execTallyBufferFlip t s
  | .tallyHoldRelease src => Sys2Proof.Machine.execTallyHoldRelease src s
  | .setEndpointId path eid => Sys2Proof.Machine.execSetEndpointId path eid s
  | .getEndpointId path => Sys2Proof.Machine.execGetEndpointId path s
  | .getVersionSupport path mtype => Sys2Proof.Machine.execGetVersionSupport path mtype s
  | .getMessageTypeSupport path => Sys2Proof.Machine.execGetMessageTypeSupport path s
  | .getEndpointUuid path => Sys2Proof.Machine.execGetEndpointUuid path s
  | .keyExchange path key id t => Sys2Proof.Machine.execKeyExchange path key id t s
  | .getMeasurements path => Sys2Proof.Machine.execGetMeasurements path s
  | .heartbeat src t => Sys2Proof.Machine.execHeartbeat src t s
  | .endSession src => Sys2Proof.Machine.execEndSession src s
  | .sessionHeartbeatTimeout src t => Sys2Proof.Machine.execSessionHeartbeatTimeout src t s
  | .udpDatagram d t => Sys2Proof.Machine.execUdpDatagram d t s
  | .i3cAddressAssign fixed da => Sys2Proof.Machine.execI3cAddressAssign fixed da s
  | .identify src => Sys2Proof.Machine.execIdentify src s
  | .backgroundOperationStatus src => Sys2Proof.Machine.execBackgroundOperationStatus src s
  | .getResponseMessageLimit src => Sys2Proof.Machine.execGetResponseMessageLimit src s
  | .setResponseMessageLimit src limit => Sys2Proof.Machine.execSetResponseMessageLimit src limit s
  | .requestAbortBackgroundOp src => Sys2Proof.Machine.execRequestAbortBackgroundOp src s
  | .getIdent src => Sys2Proof.Machine.execGetIdent src s
  | .regRead src off count => Sys2Proof.Machine.execRegRead src off count s
  | .regWrite src off words => Sys2Proof.Machine.execRegWrite src off words s
  | .registerWrite src off w => Sys2Proof.Machine.execRegisterWrite src off w s
  | .keyProgram src slot key => Sys2Proof.Machine.execKeyProgram src slot key s
  | .keyRevoke src slot => Sys2Proof.Machine.execKeyRevoke src slot s
  | .pinfuseSet src pin value => Sys2Proof.Machine.execPinfuseSet src pin value s
  | .helmClaim src key => Sys2Proof.Machine.execHelmClaim src key s
  | .helmRotate src key => Sys2Proof.Machine.execHelmRotate src key s
  | .pilotEnrol src key => Sys2Proof.Machine.execPilotEnrol src key s
  | .pilotRemove src digest => Sys2Proof.Machine.execPilotRemove src digest s
  | .berthKeySet src k key => Sys2Proof.Machine.execBerthKeySet src k key s
  | .fuseBurnVerify src ok burned t => Sys2Proof.Machine.execFuseBurnVerify src ok burned t s
  | .moduleReset src => Sys2Proof.Machine.execModuleReset src s
  | .regionReset src g => Sys2Proof.Machine.execRegionReset src g s
  | .blockReset src n => Sys2Proof.Machine.execBlockReset src n s
  | .chartCmd src cmd => Sys2Proof.Machine.execChartCmd src cmd s
  | .mailboxGo v line => Sys2Proof.Machine.execMailboxGo v line s
  | .mailboxAbort v line => Sys2Proof.Machine.execMailboxAbort v line s
  | .mailboxReqWrite v line off w => Sys2Proof.Machine.execMailboxReqWrite v line off w s
  | .mailboxResponse v rsp t => Sys2Proof.Machine.execMailboxResponse v rsp t s
  | .tempSample readings t => Sys2Proof.Machine.execTempSample readings t s
  | .sensorBlind die t => Sys2Proof.Machine.execSensorBlind die t s
  | .throttleEnd t => Sys2Proof.Machine.execThrottleEnd t s
  | .tmaxPeakClear src => Sys2Proof.Machine.execTmaxPeakClear src s
  | .delayTrimEnd g n w t => Sys2Proof.Machine.execDelayTrimEnd g n w t s
  | .regeneratorRelock g pl t => Sys2Proof.Machine.execRegeneratorRelock g pl t s
  | .feedLeavesRange f v t => Sys2Proof.Machine.execFeedLeavesRange f v t s
  | .linkDownLeavesWindow p t => Sys2Proof.Machine.execLinkDownLeavesWindow p t s
  | .mctpPacket path pkt => Sys2Proof.Machine.execMctpPacket path pkt s
  | .cxlDataLinkDown p t => Sys2Proof.Machine.execCxlDataLinkDown p t s
  | .builtInSelfTest src c idx failed ends => Sys2Proof.Machine.execBuiltInSelfTest src c idx failed ends s
  | .histogramClearDone g t => Sys2Proof.Machine.execHistogramClearDone g t s

end Sys2Proof.Machine
end

