-- ==== Sys2Proof/Machine/Idle.lean ====
section
/-! DEFINITION. What an empty queue does: one CK_MGT cycle passes. -/
namespace Sys2Proof.Machine

/-- One CK_MGT cycle (R18) passes with no command (a DESIGN CHOICE of the model: log entry 3).
[DESIGN CHOICE, log entry 3] -/
def State.idle (s : State) : State := s.at (s.now + mgtCycle)

end Sys2Proof.Machine
end

