-- ==== Sys2Proof/Safety.lean ====
section
/-! DEFINITION. The words statements use: when a command is served, how it is answered, what a safe run is. -/
namespace Sys2Proof.Machine

/-- A command of a session is served (R405, R434, R438): the session is open for the principal, READY has been reached, no earlier
foreground command of it waits for a fuse burn. -/
abbrev State.serves (s : State) (src : Sess) (p : Principal) : Prop :=
  s.principal src = some p ∧ s.ready = true ∧ s.fgBusy (sessNum src) = false

/-- A command answered Success with status OK and no data (R439, R440). -/
def State.done (s : State) (src : Sess) : State := s.respond src .success stOk 0 []

/-- The session stays open and no region goes off for a command's answer: the state after an effect, answered. -/
def State.acts (s : State) (src : Sess) (act : State → State) : State := (act (s.touch src)).done src

/-- A run of n steps that never stops: it ends in a state. -/
def State.runs : Nat → State → Prop
  | 0, _ => True
  | n + 1, s => ∃ t, step s = .next t ∧ State.runs n t

/-- What every table of the state keeps (its keys rise), for the tables that registers, sessions and counters live in. -/
abbrev State.tidy (s : State) : Prop :=
  SMap.sorted s.regs = true ∧ SMap.sorted s.sessions = true ∧ SMap.sorted s.ctrs = true

/-- A directory entry names either one owner or sharers, as its state says (R168, R171). -/
abbrev DirEntry.coherent (x : DirEntry) : Prop :=
  x.st ≤ 4 ∧ (3 ≤ x.st → x.sharers = 0) ∧ (x.st = 1 → x.sharers ≠ 0) ∧ (x.st = 0 → x.sharers = 0)

/-- No command of a frozen group is parked (R220). -/
abbrev State.lodQuiet (s : State) : Prop := ∀ p ∈ s.lod.parked, p.frozen = false

/-- A Lodestar command waits in a channel's slot and is the oldest for its object, which is in a region out of reset (R209, R213,
R401). -/
abbrev State.lodTurn (s : State) (c : LCmd) (ch k : Nat) : Prop :=
  s.readyCmd ch k c.opc = some c ∧
    (isGroupOp c.opc = true ∨ c.opc = 0x18 ∨ s.pwr.regionReset.contains (s.chart.slotHome (c.obj % 64) / 9) = false)

/-- The command's object is live, of the type its opcode acts on, and its group admits it (R206, R219, R223). -/
abbrev State.onLive (s : State) (c : LCmd) (o : LObj) : Prop :=
  SMap.find? s.lod.objects c.obj = some o ∧ o.lost = false ∧ (opType c.opc).any (· != o.type) = false ∧ s.groupDenies c = none

/-- The result of a command that was never parked (R210). -/
def LCmd.answer (c : LCmd) (status detail value aux : Nat) (flag : Bool) : LRec :=
  ⟨2, false, flag, status, detail, c.opc, c.ticket, value, aux, 0⟩

/-- A state that differs in Lodestar alone, besides the Tally's counters, the time, and the note of which bits
were set in the running cycle. -/
abbrev State.onlyLod (s u : State) : Prop := { u with lod := s.lod, ctrs := s.ctrs, now := s.now, fresh := s.fresh } = s

/-- The WAITs a NOTIFY wakes (R214): the oldest on its word, or all of them. -/
def State.wakes (s : State) (c : LCmd) : List Parked :=
  let l := s.lod.parked.filter fun p => p.cmd.opc == 0x08 && p.cmd.obj == c.obj && p.cmd.word == c.word
  if c.flags.testBit 1 then l else l.take 1

/-- The 64 bytes of CPE.MGTDESC (R231). -/
def State.mgtDesc (s : State) (g : Nat) : List Nat := (List.range 16).flatMap fun i => leBytes (s.get (F.cpeMgtdesc g i)) 4

/-- The session of a command that R2, R441 and the owning chapters reserve to some principals, and who those are: the Helm, the Pilot,
either owner, every claimed principal, the unclaimed session, or the audience an acknowledgement names. -/
def Instr.reserved (c : Instr) : Option (Sess × (Principal → Bool)) :=
  match c with
  | .referenceForce src _ | .seamResetCommand src _ _ | .faultInject src _ _ _ | .safeEnter src | .safeExit src | .fuseBurn src
  | .feedRelease src _ | .feedUnretire src _ | .ldoGoFull src | .inputPeakClear src | .enterP2 src | .enterP3 src | .exitP2 src
  | .padRelease src | .retainDataAccess src _ | .keyProgram src _ _ | .keyRevoke src _ | .pinfuseSet src _ _ | .helmRotate src _
  | .pilotEnrol src _ | .pilotRemove src _ | .moduleReset src | .tmaxPeakClear src | .builtInSelfTest src _ _ _ false => some (src, Principal.isHelm)
  | .chartLoad src | .chartAmend src | .chartQuiesce src | .chartResume src | .chartRebase src | .chartAbort src
  | .chartBufWrite src _ _ | .identifySwitchDevice src | .getPhysicalPortState src _ | .physicalPortControl src _ _
  | .sendPpbCxlioConfigRequest src _ _ _ | .getVirtualCxlSwitchInfo src | .bindVppb src _ _ _ _ | .unbindVppb src _ _ _
  | .generateAerEvent src _ _ _ | .tunnelManagementCommand src _ _ _ | .sendLdCxlioConfigRequest src _ _ _ _
  | .sendLdCxlioMemoryRequest src _ _ _ _ | .bindPleat src _ _ _ _ | .unbindPleat src _ _ _ | .getBindingState src _
  | .agentRevive src _ | .windowFlushStart src | .sweepStart src | .counterSelect src _ _ _ _ _ _ _ _ | .counterClear src _
  | .tallyFreeze src | .tallyUnfreeze src | .tallySnap src | .tallyHoldRelease src | .berthKeySet src _ _ | .blockReset src _
  | .chartCmd src _ | .qhistClear src _ | .tackCountsClear src _ | .ctstatClear src _ | .stgPeakClear src _ _ | .trkPeakClear src _
  | .ldsPeakClear src _ | .mgtCopySubmit src _ | .violClear src _ | .violCountClear src _ | .threshWrite src _ _ _ _
  | .linkResetCommand src _ | .linkUnretire src _ | .wiringRearm src _ _ | .firstRecordClear src _ | .blockSwreset src _ => some (src, Principal.isPilot)
  | .logreadDataRead src | .scrubStart src _ | .slipRelease src | .slipRenew src | .leaveWithdraw src | .lvcRequest src
  | .regionReset src _ => some (src, Principal.isOwner)
  | .backgroundOperationStatus src | .getResponseMessageLimit src | .setResponseMessageLimit src _ | .requestAbortBackgroundOp src
  | .getIdent src => some (src, Principal.claimed)
  | .helmClaim src _ => some (src, Principal.isUnclaimed)
  | .attentionAck src a _ => some (src, fun p => p != .unclaimed && p.audience == a.val)
  | _ => none

/-- The session a command comes in: the reserved ones, and those served to every principal or by register scope. -/
def Instr.session (c : Instr) : Option Sess :=
  match c with
  | .identify src | .regRead src _ _ | .regWrite src _ _ | .registerWrite src _ _ | .endSession src => some src
  | _ => (Instr.reserved c).map (·.1)

end Sys2Proof.Machine
end

