-- ==== Sys2Proof/Certificates/Slice0/Obligations.lean ====
section
/-! DEFINITION. The statements for the provers: what the commands of each family do, what every step keeps, and what the principals
can and cannot do. A state here is any state, reached or not, unless a statement says otherwise. -/
open Sys2Proof Sys2Proof.Machine

/-- R20 to R24, R27, R313, R404: the effects of the reference monitor's events, and of the root PLL's. -/
def Obligations.ReferenceEventsComplete : Prop :=
  (∀ (s : State) (r : RefIn) (t : Nat), s.get F.hubRefstatSel = refNum r → s.refGood (1 - refNum r) = true → s.get F.hubRefctlForce = 0 →
    s.clk.taken = true → exec (.referenceFailure r t) s = .next (((((((s.at t).set (goodFld (refNum r)) 0).set (failFld (refNum r)) 1).setSince (refNum r)
      none).report hubCol 12 1).switchTo (1 - refNum r)).notify atDegraded)) ∧
  (∀ (s : State) (r : RefIn) (t : Nat), s.get F.hubRefstatSel = refNum r → s.refGood (1 - refNum r) = false → s.get F.hubRefctlForce = 0 →
    s.clk.taken = true →
    ∃ u : State, exec (.referenceFailure r t) s = .next u ∧ u.get F.hubRefstatHoldover = 1 ∧ u.get F.hubRefstatSel = refNum r ∧
      u.clk.holdStart = max s.now t) ∧
  (∀ (s : State) (r : RefIn) (t : Nat), s.flag F.hubRefstatHoldover = true →
    ∃ u : State, exec (.referenceRecovered r t) s = .next u ∧ u.get F.hubRefstatHoldover = 0 ∧ u.get F.hubRefstatSel = refNum r ∧
      u.refGood (refNum r) = true) ∧
  (∀ (s : State) (t : Nat), s.flag F.hubRefstatHoldover = true → s.clk.holdStart + usec (10 * s.get F.hubRefctlHoldover) ≤ (s.at t).now →
    exec (.holdoverExpired t) s = .next ((s.at t).report hubCol 12 3)) ∧
  (∀ (s : State) (t a : Nat), s.flag F.hubRefctlRevert = true → s.get F.hubRefctlForce = 0 → s.refGood (s.get F.hubRefctlPref) = true →
    s.refSince (s.get F.hubRefctlPref) = some a → a + msec (10 * s.get F.hubRefctlRevertHold) ≤ (s.at t).now →
    exec (.referenceRevert t) s = .next ((s.at t).switchTo (s.get F.hubRefctlPref))) ∧
  (∀ (s : State) (r : RefIn) (t : Nat), s.clk.taken = false → (s.get F.hubRefctlPref = refNum r ∨ s.clk.psGood + msec 2 ≤ (s.at t).now) →
    ∃ u : State, exec (.referenceTakeAtStart r t) s = .next u ∧ u.clk.taken = true ∧ u.get F.hubRefstatSel = refNum r ∧
      u.clk.takenAt = (s.at t).now) ∧
  (∀ (s : State) (t : Nat), s.clk.taken = false → s.clk.psGood + msec 20 ≤ (s.at t).now → s.refGood 0 = false → s.refGood 1 = false →
    ∃ u : State, exec (.referenceStartTimeout t) s = .next u ∧ u.flt.holdReset = true ∧ (u.get (F.colSsw (colBase hubCol))).testBit 12 = true ∧
      u.clk.taken = false) ∧
  (∀ (s : State) (spread modfreq : Fin 1024), s.clk.taken = true → 550 < spread.val →
    exec (.sscMeasurement spread modfreq) s = .next (((((s.set F.hubSscmeasSpread spread.val).set F.hubSscmeasModfreq modfreq.val).set
      F.hubRefstatSscOor 1).report hubCol 12 0).notify atNotice)) ∧
  (∀ (s : State) (spread modfreq : Fin 1024), s.clk.taken = true → spread.val ≤ 550 →
    exec (.sscMeasurement spread modfreq) s = .next ((s.set F.hubSscmeasSpread spread.val).set F.hubSscmeasModfreq modfreq.val)) ∧
  (∀ s : State, exec .rootPllUnlock s = .next ((s.set F.hubRefstatRootLock 0).report hubCol 11 3)) ∧
  (∀ (s : State) (t : Nat), s.clk.taken = true → s.flag F.hubRefstatRootLock = false → s.ready = false →
    exec (.rootPllLock t true) s = .next (((s.at t).set F.hubRefstatRootLock 1).set F.rstStatPhase 2))

/-- R25: only the Helm writes HUB.REFCTL. -/
def Obligations.OnlyTheHelmForces : Prop :=
  (∀ (s : State) (src : Sess) (p : Principal) (f : Fin 4), s.serves src p → p.isHelm = false →
    exec (.referenceForce src f) s = .next ((s.touch src).respond src .invalidSecurity stDenied 0 [])) ∧
  (∀ (s : State) (src : Sess) (p : Principal) (w : Fin (2 ^ 32)) (f : FieldDesc), s.serves src p → p.isHelm = false →
    f ∈ (match wordAt 0x100010 with | some x => x.fields | none => []) → s.touches 0x100010 w.val f = true →
    exec (.registerWrite src 0x100010 w) s = .next ((s.touch src).respond src .invalidSecurity stDenied 0 [])) ∧
  (∀ (s : State) (src : Sess) (p : Principal) (f : Fin 4), s.serves src p → p.isHelm = true → f.val ≠ 0 → f.val ≠ 3 →
    s.refGood (f.val - 1) = true →
    exec (.referenceForce src f) s = .next (s.acts src fun u => ((u.set F.hubRefctlForce f.val).set F.hubRefstatForceIgnored 0).switchTo (f.val - 1)))

/-- R45, R49, R50, R57, R58: how the chart commands begin, and how they are turned away. -/
def Obligations.ChartCommandsBegin : Prop :=
  (∀ (s : State) (src : Sess) (p : Principal), s.serves src p → p.isPilot = true → s.safeOn = false → s.chartBusy = false →
    s.bnd.work = none → s.bnd.waits = [] →
    exec (.chartLoad src) s = .next (s.acts src fun u => (u.set F.chtStatusState 1).modChtu fun h => { h with
      op := some ⟨.load, 0, [], [], s.inbandPleat src, none, [], [], 0, 0, s.now⟩, quiesceStart := h.quiesceStart }) ∧
    exec (.chartAmend src) s = .next (s.acts src fun u => (u.set F.chtStatusState 1).modChtu fun h => { h with
      op := some ⟨.amend, 0, [], [], s.inbandPleat src, none, [], [], 0, 0, s.now⟩, quiesceStart := h.quiesceStart }) ∧
    exec (.chartRebase src) s = .next (s.acts src fun u => (u.set F.chtStatusState 1).modChtu fun h => { h with
      op := some ⟨.rebase, 0, [], [], s.inbandPleat src, none, [], [], 0, 0, s.now⟩, quiesceStart := h.quiesceStart }) ∧
    exec (.chartQuiesce src) s = .next (s.acts src fun u => (u.set F.chtStatusState 5).modChtu fun h => { h with
      op := some ⟨.quiesce, 0, [], [], s.inbandPleat src, none, [], [], 0, 0, s.now⟩, quiesceStart := s.now })) ∧
  (∀ (s : State) (src : Sess) (p : Principal), s.serves src p → p.isPilot = true → s.safeOn = false → s.chartBusy = false →
    s.bnd.work.isSome = true ∨ s.bnd.waits ≠ [] →
    exec (.chartLoad src) s = .next (s.acts src fun u => u.modBnd fun b => { b with
      waits := b.waits ++ [.chart .load (s.inbandPleat src) none] }) ∧
    exec (.chartAmend src) s = .next (s.acts src fun u => u.modBnd fun b => { b with
      waits := b.waits ++ [.chart .amend (s.inbandPleat src) none] }) ∧
    exec (.chartRebase src) s = .next (s.acts src fun u => u.modBnd fun b => { b with
      waits := b.waits ++ [.chart .rebase (s.inbandPleat src) none] }) ∧
    exec (.chartQuiesce src) s = .next (s.acts src fun u => u.modBnd fun b => { b with
      waits := b.waits ++ [.chart .quiesce (s.inbandPleat src) none] })) ∧
  (∀ (s : State) (src : Sess) (p : Principal), s.serves src p → p.isPilot = true → s.safeOn = false → s.get F.chtStatusState = 6 →
    exec (.chartResume src) s = .next (s.acts src fun u => (((u.modChtu fun h => { h with quiesced := false }).modLnk fun l => { l with
      held := false }).setAll [(F.chtStatusState, 0), (F.chtResultCode, 0), (F.chtResultSection, 0), (F.chtErrlocOffset, 0),
      (F.chtResultDone, 1)]).startLinks fun _ => true)) ∧
  (∀ (s : State) (src : Sess) (p : Principal) (o : ChartOp), s.serves src p → p.isPilot = true → s.chtu.op = some o →
    o.kind ≠ .quiesce → s.get F.chtStatusState ≤ 3 → s.bnd.waits = [] →
    ∃ u : State, exec (.chartAbort src) s = .next u ∧ u.chtu.op = none ∧ u.get F.chtResultCode = rcAborted ∧
      u.get F.chtResultDone = 1 ∧ u.chart = s.chart ∧ u.nv.gen = s.nv.gen) ∧
  (∀ (s : State) (src : Sess) (p : Principal), s.serves src p → p.isPilot = true → s.chtu.op = none → s.chartBusy = false →
    exec (.chartAbort src) s = .next (s.acts src fun u => u.setAll [(F.chtResultCode, 0), (F.chtResultSection, 0),
      (F.chtErrlocOffset, 0), (F.chtResultDone, 1)])) ∧
  (∀ (s : State) (src : Sess) (p : Principal) (c : Instr), s.serves src p → p.isPilot = true →
    c = .chartLoad src ∨ c = .chartAmend src ∨ c = .chartRebase src ∨ c = .chartQuiesce src →
    (s.safeOn = true → exec c s = .next (((s.touch src).setAll [(F.chtResultCode, rcSafeState), (F.chtResultSection, 0),
      (F.chtErrlocOffset, 0), (F.chtResultDone, 1)]).respond src .invalidInput stDenied 0 [])) ∧
    (s.safeOn = false → s.chartBusy = true → exec c s = .next (((s.touch src).setAll [(F.chtResultCode, 1), (F.chtResultSection, 0),
      (F.chtErrlocOffset, 0), (F.chtResultDone, 1)]).respond src .busy stRetry 0 [])))

/-- R43, R45, R46, R48, R53, R54, R58: the steps of chart operations. -/
def Obligations.ChartStepsComplete : Prop :=
  (∀ (s : State) (t : Nat), s.get F.chtStatusState = 5 → (s.at t).drained = true → s.chtu.op.isSome = true → s.pwr.entry = 0 →
    ∃ u : State, exec (.quiesceDrained t) s = .next u.serveWaiting ∧ u.get F.chtStatusState = 6 ∧ u.chtu.quiesced = true ∧ u.chtu.op = none ∧
      u.lnk.held = true ∧ u.get F.chtResultCode = 0 ∧ u.get F.chtResultDone = 1 ∧ u.chart = s.chart) ∧
  (∀ (s : State) (t : Nat), s.get F.chtStatusState = 5 → s.chtu.quiesceStart + msec (s.get F.chtCtrlQuiesceWait) ≤ (s.at t).now →
    exec (.quiesceWaitExpired t) s = .next ((s.at t).flushAll.quiesceEnd).serveWaiting) ∧
  (∀ (s : State) (t : Nat) (o : ChartOp) (b : Nat × Nat × Nat), s.chtu.op = some o → o.kind ≠ .quiesce → s.get F.chtStatusState = 1 →
    parseImage (fun n => SMap.getD s.chtu.buf n 0) o.kind.number = .error b →
    exec (.chartChecksDone t) s = .next ((s.at t).endChart b.1 b.2.1 b.2.2).serveWaiting) ∧
  (∀ (s : State) (t : Nat) (o : ChartOp) (i : Image) (next : Chart), s.chtu.op = some o → o.kind ≠ .quiesce →
    s.get F.chtStatusState = 1 → parseImage (fun n => SMap.getD s.chtu.buf n 0) o.kind.number = .ok i →
    (s.at t).checkImage i o.via = .ok next → exec (.chartChecksDone t) s = .next ((s.at t).chartPassed o i next).serveWaiting) ∧
  (∀ (s : State) (t : Nat) (o : ChartOp), s.chtu.op = some o → s.get F.chtStatusState = 2 →
    o.waitFrom + msec (10 * s.get F.chtCtrlLeaveWait) ≤ (s.at t).now →
    exec (.chartLeaveWaitExpired t) s = .next ((((s.at t).withdrawFor .chartResets).withdrawFor .chartCommit).endChart rcLeaveRefused 0 0).serveWaiting) ∧
  (∀ (s : State) (t : Nat) (o : ChartOp), s.chtu.op = some o → s.get F.chtStatusState = 3 → s.home.failover = none →
    (o.kind = .load → exec (.chartCommitDone t) s = .next ((((s.at t).commitImage o).releaseFor .chartCommit).applyFull o).serveWaiting) ∧
    (o.kind = .rebase → exec (.chartCommitDone t) s = .next ((((s.at t).commitImage o).releaseFor .chartCommit).endChart 0 0 0).serveWaiting) ∧
    (o.kind = .amend → exec (.chartCommitDone t) s = .next (((s.at t).commitAmendment o).beginApply o).serveWaiting)) ∧
  (∀ (s : State) (t : Nat) (o : ChartOp), s.chtu.op = some o → s.get F.chtStatusState = 4 →
    exec (.amendmentApplyDone t) s = .next ((s.at t).endApply o).serveWaiting) ∧
  (∀ (s : State) (src : Sess) (p : Principal) (word : Fin (2 ^ 23)) (w : Fin (2 ^ 32)), s.serves src p → p.isPilot = true →
    s.chartBusy = false → exec (.chartBufWrite src word w) s = .next (s.acts src fun u => u.modChtu fun h => { h with
      buf := SMap.put (SMap.put (SMap.put (SMap.put h.buf (4 * word.val) (w.val % 256)) (4 * word.val + 1) (w.val / 256 % 256))
        (4 * word.val + 2) (w.val / 65536 % 256)) (4 * word.val + 3) (w.val / 16777216 % 256) })) ∧
  (∀ (s : State) (src : Sess) (p : Principal), s.serves src p → p.isOwner = true →
    ∃ u : State, exec (.logreadDataRead src) s = .next (u.respond src .success stOk 0
      [leAt s.nv.log (64 * s.get F.chtLogreadOffset + s.chtu.logByte) 4]) ∧ u.nv = s.nv ∧
      64 * u.get F.chtLogreadOffset + u.chtu.logByte =
        (64 * s.get F.chtLogreadOffset + s.chtu.logByte + 4) % 2 ^ (F.chtLogreadOffset.width + 6)) ∧
  (∀ (s : State) (t : Nat), s.get F.rstStatPhase = 4 →
    exec (.chartStartup t) s = .next (((((s.at t).startChartUp.attachRegions).bringUp).set F.rstStatPhase 5).startLinks fun _ => true))

/-- R50: ABORT stops an image operation before its commit and is ignored after it. -/
def Obligations.AbortActsBeforeTheCommit : Prop :=
  ∀ (s : State) (src : Sess) (p : Principal) (o : ChartOp), s.serves src p → p.isPilot = true → s.chtu.op = some o → o.kind ≠ .quiesce →
    (s.get F.chtStatusState ≤ 3 → ∃ u : State, exec (.chartAbort src) s = .next ((u.serveWaiting).respond src .invalidInput stDenied 0 []) ∧
      u.chtu.op = none ∧ u.get F.chtResultCode = rcAborted ∧ u.get F.chtResultDone = 1 ∧ u.chart = s.chart ∧ u.nv = s.nv) ∧
    (s.get F.chtStatusState = 4 → exec (.chartAbort src) s = .next (s.acts src id))

/-- R41: a revocation applies to later verifications alone. -/
def Obligations.RevocationLeavesTheChart : Prop :=
  ∀ (s : State) (src : Sess) (slot : Nat) (live : Bool) (rest : List BurnJob) (t : Nat), slot < 4 →
    s.mgt.burns = ⟨sessNum src, live, .keyRevoke slot⟩ :: rest → s.mayRevoke slot = true →
    ∃ u : State, exec (.fuseBurnVerify src true true t) s = .next u ∧ u.chart = s.chart ∧ u.nv = s.nv ∧
      (u.get F.chtKeyslotRevoked).testBit slot = true ∧
      ∀ i : Image, i.slot = slot → ∃ b, u.checkKey i = .error b

/-- R69, R72, R85: the queries and requests of the FM API. -/
def Obligations.PilotQueriesAnswer : Prop :=
  ∀ (s : State) (src : Sess) (who : Principal), s.serves src who → who.isPilot = true →
    exec (.identifySwitchDevice src) s = .next ((s.touch src).respond src .success stOk 0
      (64 :: ((List.range 256).filterMap fun n => (s.chart.dirCell n).map fun c => [n, c]).flatten)) ∧
    exec (.getVirtualCxlSwitchInfo src) s = .next ((s.touch src).respond src .success stOk 0 ((List.range 64).map s.vcsInfo).flatten) ∧
    (∀ (port : Fin 256) (p : Nat), s.chart.dirCell port.val = some p →
      exec (.getPhysicalPortState src [port]) s = .next ((s.touch src).respond src .success stOk 0 (port.val :: s.portState p))) ∧
    (∀ port : Fin 256, s.chart.dirCell port.val = none →
      exec (.getPhysicalPortState src [port]) s = .next ((s.touch src).respond src .invalidInput stDenied 0 [])) ∧
    (∀ (port : Fin 256) (p : Nat), s.chart.dirCell port.val = some p → s.chart.isDsp p = true →
      exec (.physicalPortControl src port .assertPerst) s = .next (s.acts src fun u =>
        (u.modLnk fun l => { l with fmPerst := setIn l.fmPerst p true }).fullReset p 0xD) ∧
      exec (.physicalPortControl src port .deassertPerst) s = .next (s.acts src fun u =>
        (u.modLnk fun l => { l with fmPerst := setIn l.fmPerst p false }).startTraining p) ∧
      exec (.physicalPortControl src port .resetPpb) s = .next (s.acts src fun u => u.fullReset p 0xD) ∧
      (s.flag (F.celLinkstatUp p) = true → ∀ (q : FmRequest) (d : List (Fin 256)),
        exec (.sendPpbCxlioConfigRequest src port q (some d)) s = .next (((s.touch src).emit (.fmRequest p none q.write q.addr.val
          (q.data.map (·.val)))).respond src .success stOk 0 (d.map (·.val))) ∧
        (s.flag (F.celBindMld p) = true →
          exec (.tunnelManagementCommand src port d (some d)) s = .next (((s.touch src).emit (.fmTunnel p (d.map (·.val)))).respond src
            .success stOk 0 (d.map (·.val))) ∧
          ∀ ld : Fin 65536, ld.val = 0xFFFF ∨ ld.val < s.get (F.celBindLdCount p) →
            exec (.sendLdCxlioConfigRequest src port ld q (some d)) s = .next (((s.touch src).emit (.fmRequest p (some ld.val) q.write
              q.addr.val (q.data.map (·.val)))).respond src .success stOk 0 (d.map (·.val))) ∧
            exec (.sendLdCxlioMemoryRequest src port ld q (some d)) s = .next (((s.touch src).emit (.fmRequest p (some ld.val) q.write
              q.addr.val (q.data.map (·.val)))).respond src .success stOk 0 (d.map (·.val)))))) ∧
    (∀ (v i : Fin 256) (err : Fin (2 ^ 32)), (s.vppbPoint v.val i.val).isSome = true →
      exec (.generateAerEvent src v i err) s = .next (((s.touch src).emit (.aerEvent v.val i.val err.val)).respond src .success stOk 0 []))

/-- R49, R73 to R75, R79, R86: bind, unbind and their waits. A slot that is Off already: log entry 153. -/
def Obligations.BindAndUnbind : Prop :=
  (∀ (s : State) (src : Sess) (who : Principal) (v i port : Fin 256) (p : Nat) (ld : Fin 65536) (pt : Nat), s.serves src who →
    who.isPilot = true → s.safeOn = false → s.bgBusy (sessNum src) = false → s.bnd.work = none → s.bnd.waits = [] → s.chartBusy = false →
    s.chart.dirCell port.val = some p → s.bindPoint v.val i.val p ld.val = some pt →
    exec (.bindVppb src v i port ld) s = .next ((s.touch src).startBg src who 0x5201 0 fun u => u.modBnd fun b => { b with
      work := some ⟨true, pt, v.val, i.val, sessNum src, 0x5201, 0, s.now, false⟩ })) ∧
  (∀ (s : State) (src : Sess) (who : Principal) (v i : Fin 256) (p : Fin 1024) (ld : Fin 65536) (pt : Nat), s.serves src who →
    who.isPilot = true → s.safeOn = false → s.bgBusy (sessNum src) = false → s.bnd.work = none → s.bnd.waits = [] → s.chartBusy = false →
    s.bindPoint v.val i.val p.val ld.val = some pt →
    exec (.bindPleat src v i p ld) s = .next ((s.touch src).startBg src who 0xC101 0 fun u => u.modBnd fun b => { b with
      work := some ⟨true, pt, v.val, i.val, sessNum src, 0xC101, 0, s.now, false⟩ })) ∧
  (∀ (s : State) (src : Sess) (who : Principal) (v i : Fin 256) (pt : Nat), s.serves src who → who.isPilot = true → s.safeOn = false →
    s.bgBusy (sessNum src) = false → s.bnd.work = none → s.bnd.waits = [] → s.chartBusy = false → s.vppbPoint v.val i.val = some pt →
    exec (.unbindVppb src v i 2) s = .next ((s.touch src).startBg src who 0x5202 0 fun u => u.modBnd fun b => { b with
      work := some ⟨false, pt, s.pointVcs pt, s.pointVppb pt, sessNum src, 0x5202, 2, s.now, false⟩ })) ∧
  (∀ (s : State) (src : Sess) (who : Principal) (p : Fin 1024) (ld : Fin 65536) (pt : Nat), s.serves src who → who.isPilot = true →
    s.safeOn = false → s.bgBusy (sessNum src) = false → s.bnd.work = none → s.bnd.waits = [] → s.chartBusy = false → s.namedPoint p.val ld.val = some pt →
    exec (.unbindPleat src p ld 0) s = .next ((s.touch src).startBg src who 0xC102 0 fun u => u.modBnd fun b => { b with
      work := some ⟨false, pt, s.pointVcs pt, s.pointVppb pt, sessNum src, 0xC102, 0, s.now,
        s.flag (F.celLinkstatUp (pointLead pt))⟩ })) ∧
  (∀ (s : State) (p : Fin 1024) (ld : Fin 17) (t : Nat) (w : BindWork), (s.at t).canAdvance (17 * p.val + ld.val) = true →
    s.flag (stallFld (17 * p.val + ld.val)) = false → s.bnd.work = some w → w.point = 17 * p.val + ld.val → w.waiting = false →
    exec (.tackAdvance p ld t) s = .next ((s.at t).finishBind w)) ∧
  (∀ (s : State) (p : Fin 1024) (ld : Fin 17) (t : Nat), (s.at t).canAdvance (17 * p.val + ld.val) = true →
    s.flag (stallFld (17 * p.val + ld.val)) = true →
    (SMap.getD s.bnd.owed (17 * p.val + ld.val) 0 = 0 → exec (.tackAdvance p ld t) s =
      .next ((((s.at t).advanceTack (17 * p.val + ld.val)).set (stallFld (17 * p.val + ld.val)) 0).startTraining
        (s.chart.lead (pointLead (17 * p.val + ld.val))))) ∧
    (SMap.getD s.bnd.owed (17 * p.val + ld.val) 0 = 1 → exec (.tackAdvance p ld t) s =
      .next (((s.at t).advanceTack (17 * p.val + ld.val)).modBnd fun b => { b with owed := SMap.del b.owed (17 * p.val + ld.val) }))) ∧
  (∀ (s : State) (t : Nat) (w : BindWork), s.bnd.work = some w → w.waiting = false → (s.at t).canAdvance w.point = false →
    w.since + msec (s.get (F.celTackctlSlotWait (pointLead w.point))) ≤ (s.at t).now →
    exec (.tackSlotWaitExpired t) s = .next ((s.at t).endBind w .retryRequired stRetry)) ∧
  (∀ (s : State) (t : Nat) (w : BindWork), s.bnd.work = some w → w.waiting = true → w.option = 0 →
    s.flag (F.celLinkstatUp (pointLead w.point)) = false →
    exec (.unbindWaitSatisfied t) s = .next ((s.at t).modBnd fun b => { b with
      work := some { w with waiting := false, since := (s.at t).now } })) ∧
  (∀ (s : State) (t : Nat) (w : BindWork), s.bnd.work = some w → w.waiting = true →
    w.since + sec (s.get F.hubBindctlUnbindWait) ≤ (s.at t).now →
    exec (.unbindWaitExpired t) s = .next ((s.at t).endBind w .retryRequired stTimeout)) ∧
  (∀ (s : State) (src : Sess) (who : Principal) (v i port : Fin 256) (ld : Fin 65536), s.serves src who → who.isPilot = true →
    (s.safeOn = true → exec (.bindVppb src v i port ld) s = .next ((s.touch src).respond src .internalError stSafe 0 []) ∧
      exec (.unbindVppb src v i 0) s = .next ((s.touch src).respond src .internalError stSafe 0 [])) ∧
    (s.safeOn = false → s.bgBusy (sessNum src) = false → s.bnd.work.isSome = true ∨ s.bnd.waits ≠ [] ∨ s.chartBusy = true →
      exec (.bindVppb src v i port ld) s = .next ((s.touch src).modBnd fun b => { b with
        waits := b.waits ++ [.bind src who 0x5201 v.val i.val (s.chart.dirCell port.val) ld.val] }) ∧
      exec (.unbindVppb src v i 2) s = .next ((s.touch src).modBnd fun b => { b with
        waits := b.waits ++ [.unbindVppb src who v.val i.val 2] })))

/-- R61 to R63, R71, R76, R79, R80, R83, R85, R301: the events of ports and slots. -/
def Obligations.PortEventsComplete : Prop :=
  (∀ (s : State) (p : Fin 1024) (a : CxlTraining) (t w r f : Nat) (e : Bool), (s.at t).mayTrain p.val = true → s.chart.isUsp p.val = true →
    s.flag (F.celLinkstatUp p.val) = false → s.chart.trainWidth p.val a.good.val = some (w, e) →
    s.chart.trainRate p.val a.rates.val a.flits.val a.cxl = some (r, f) → SMap.find? s.lnk.graceAt p.val = none →
    s.chart.isDsp p.val = false → exec (.cxlLinkUp p a t) s =
      .next (((s.at t).raiseLink p.val w r f a.cxl false e).advertise p.val)) ∧
  (∀ (s : State) (p : Fin 1024) (t : Nat), (s.at t).mayTrain p.val = true → s.chart.isDsp p.val = true →
    s.flag (F.celLinkstatUp p.val) = false → exec (.cxlTrainingFailed p t) s =
      .next (((s.at t).set (F.fnlLinkstatState p.val) 1).modLnk fun u => { u with resetAt := SMap.put u.resetAt p.val (s.at t).now })) ∧
  (∀ (s : State) (p : Fin 1024) (t : Nat), s.flag (F.celLinkstatUp p.val) = true → s.chart.isFnl p.val = false →
    exec (.partnerRecoveryChange p true t) s = .next ((s.at t).emit (.recovery p.val)) ∧
    exec (.partnerRecoveryChange p false t) s = .next ((s.at t).linkDown p.val 0xE)) ∧
  (∀ (s : State) (p : Fin 1024) (i : Fin 4096), s.chart.isFnl p.val = true → s.flag (F.celLinkstatUp p.val) = true →
    s.flag (F.celLinkstatPeerModule p.val) = true → s.chart.pbrValid i.val = true → s.chart.pbrLocal i.val = true →
    exec (.pbrAdv p [i]) s = .next ((((s.modBnd fun b => { b with advs := SMap.put b.advs p.val [i.val] }).showCollisions
      (SMap.getD s.bnd.advs p.val [] ++ [i.val])).bump F.hubPbrstatCollisions 1).raise atBinding [audPilot])) ∧
  (∀ (s : State) (p : Fin 1024) (ld : Fin 17) (tack : Fin 256) (t since : Nat),
    (tack.val, since) ∈ (s.at t).drainTimes (17 * p.val + ld.val) → since + msec 1 ≤ (s.at t).now →
    (s.at t).outstanding (17 * p.val + ld.val) tack.val = 0 →
    exec (.tackRetire p ld tack t) s = .next ((s.at t).setTacks (17 * p.val + ld.val) (s.tack (17 * p.val + ld.val))
      (((s.at t).drainTimes (17 * p.val + ld.val)).filter fun e => e.1 != tack.val))) ∧
  (∀ (s : State) (p : Fin 1024) (id t : Nat), ∃ u : State, exec (.responseWaitExpired p id t) s = .next u ∧
    (∀ r ∈ s.core.records, pointLead r.point = p.val → r.id = id → r.since + msec (s.get (F.celTackctlRspWait p.val)) ≤ (s.at t).now →
      r ∉ u.core.records) ∧
    (∀ r ∈ s.core.records, pointLead r.point ≠ p.val ∨ r.id ≠ id → r ∈ u.core.records) ∧ u.regs = s.regs ∧ u.sent = s.sent) ∧
  (∀ (s : State) (v : Fin 64) (i : Fin 256) (on : Bool), s.bnd.work = none →
    exec (.slotControlWrite v i (.power on)) s = .next (s.slotPower (256 * v.val + i.val) on)) ∧
  (∀ (s : State) (v : Fin 64) (i : Fin 256) (on : Bool), s.vppbPoint v.val i.val = none →
    exec (.slotControlWrite v i (.attention on)) s = .next (s.modBnd fun b => { b with
      attnOn := setIn b.attnOn (256 * v.val + i.val) on })) ∧
  (∀ (s : State) (v : Fin 64) (i : Fin 256) (mask : Fin 512), ∃ u : State, exec (.slotControlWrite v i (.clearStatus mask)) s = .next u ∧
    u.regs = s.regs ∧ u.sent = s.sent ∧ SMap.find? u.bnd.slots (256 * v.val + i.val) = some { s.slot (256 * v.val + i.val) with
      button := (s.slot (256 * v.val + i.val)).button && !mask.val.testBit 0
      presenceChg := (s.slot (256 * v.val + i.val)).presenceChg && !mask.val.testBit 3
      activeChg := (s.slot (256 * v.val + i.val)).activeChg && !mask.val.testBit 8 }) ∧
  (∀ (s : State) (q : Fin 256) (seated : Bool) (t : Nat), s.flag F.rstPadrelHeld = false → s.ready = true →
    exec (.presenceDebounced q ⟨seated, true⟩ t) s = .next (((((s.at t).modBnd fun b => { b with raw := setIn b.raw q.val seated }).showRaw
      q.val).modBnd fun b => { b with quarters := setIn b.quarters q.val seated }).quarterChange q.val)) ∧
  (∀ (s : State) (q : Fin 256) (seated : Bool) (t : Nat), exec (.presenceDebounced q ⟨seated, false⟩ t) s =
    .next (((s.at t).modBnd fun b => { b with raw := setIn b.raw q.val seated }).showRaw q.val)) ∧
  (∀ (s u : State) (q : Fin 256) (low : Bool), s.chart.isUsp (s.chart.lead (4 * q.val)) = true →
    u = (s.modBnd fun b => { b with lows := setIn b.lows q.val low }) →
    (s.flag (F.celHotplugPerstIn (s.chart.lead (4 * q.val))) = false → u.perstLow (s.chart.lead (4 * q.val)) = true →
      exec (.perstInChange q low) s =
        .next ((u.set (F.celHotplugPerstIn (s.chart.lead (4 * q.val))) 1).fullReset (s.chart.lead (4 * q.val)) 0xD)) ∧
    (s.flag (F.celHotplugPerstIn (s.chart.lead (4 * q.val))) = true → u.perstLow (s.chart.lead (4 * q.val)) = false →
      exec (.perstInChange q low) s =
        .next ((u.set (F.celHotplugPerstIn (s.chart.lead (4 * q.val))) 0).startTraining (s.chart.lead (4 * q.val)))) ∧
    (s.flag (F.celHotplugPerstIn (s.chart.lead (4 * q.val))) = u.perstLow (s.chart.lead (4 * q.val)) →
      exec (.perstInChange q low) s = .next u))

/-- R77, R97, R98, R105, R106, R111, R112, R130: the life of a message in the switch core. -/
def Obligations.SwitchCoreComplete : Prop :=
  (∀ (s : State) (p : Fin 1024) (m : MsgHeader) (t k : Nat) (r : Nat × Nat × State), (s.at t).takesIn p.val = true →
    m.mark ≠ .l1Request → (s.at t).malformed p.val m = false → isResponse m.kind = false → (s.at t).ownRequest p.val m = none →
    m.port = none → m.coh = none → (s.at t).safeOn = false →
    (s.at t).ingressBerth p.val (m.ld.map (·.val)) m.hberth.val = some k → (s.at t).chart.inAperture m.addr.val = false →
    r = (s.at t).ingressClass p.val k m.kind m.fc m.addr.val m.hclass.val m.hcolour.val m.bytes.val →
    exec (.messageIngress p m t) s = .next (r.2.2.stage { newMsg p.val m (pointOf m.out.val (m.ld.map (·.val)))
      ((s.at t).tack (pointOf m.out.val (m.ld.map (·.val)))) r.1 (some k) r.2.1 (s.at t).now with coh := none })) ∧
  (∀ (s : State) (m : Msg), s.partFits m m.fc = true → s.partFits m .data = true →
    ∃ u : State, s.stage m = u ∧ (∃ up : Bool, u.core.staged = s.core.staged ++ [{ m with shared := up }]) ∧ u.core.bolt = s.core.bolt ∧
      u.chart = s.chart ∧ u.nv = s.nv ∧ u.home = s.home) ∧
  (∀ (s : State) (p : Fin 1024) (fc : FcClass) (g : Fin 8) (t : Nat) (s1 : State),
    ((s.at t).admissionTurn p.val fc g.val = (none, s1) → exec (.admissionRequest p fc g t) s = .next s1) ∧
    (∀ q : Nat × FcClass, (s.at t).admissionTurn p.val fc g.val = (some q, s1) →
      exec (.admissionRequest p fc g t) s = .next (s1.decideHead q.1 q.2 g.val) ∧
      ∀ (m : Msg) (tb ta n : Nat), s1.stagingHead q.1 q.2 g.val = some m → s1.safeOn = false → q.1 / 128 = g.val →
        s1.flag (F.fnlLinkstatFlushed m.out) = false → s1.creditedFirst.decideAdmission m = some (tb, ta, n) →
        exec (.admissionRequest p fc g t) s = .next (s1.takeToBolt m tb ta n))) ∧
  (∀ (s : State) (m : Msg) (tb ta n : Nat), m ∈ s.core.staged → m.granted = false → ∃ x : Msg, x ∈ (s.takeToBolt m tb ta n).core.bolt ∧ x.id = m.id ∧ x.src = m.src ∧
    x.tb = tb ∧ x.ta = ta ∧ x.pool = n ∧ m ∉ (s.takeToBolt m tb ta n).core.staged) ∧
  (∀ (s : State) (o : Fin 1024) (t c : Nat) (d : Dwrr) (m : Msg), s.flag (F.celLinkstatUp o.val) = true →
    SMap.find? s.core.sending o.val = none → (s.at t).quietNow o.val = false → (s.at t).nextClass o.val = some (c, d) →
    ((s.at t).pickQueue o.val c).2.bind ((s.at t).queueHead o.val c) = some m → (s.at t).deliverable m = true →
    (s.at t).hasCredits o.val m = true → exec (.outputNextMessage o t) s =
      .next ((s.at t).sendChecked o.val c d ((s.at t).pickQueue o.val c).1 m)) ∧
  (∀ (s : State) (o : Fin 1024) (t : Nat) (m : Msg), (s.at t).openMsg o.val = some m → m.filled = false → m.sent < m.inBolt →
    (s.at t).cwRoom o.val = true → (s.at t).quietNow o.val = false → m.sent + 1 = m.segs →
    (m.direct = true → exec (.segmentRelease o t) s =
      .next (((((s.at t).readSeg m).sendCw o.val m).countCell o.val 0x11 m.berth 1).endMsg o.val m false)) ∧
    (m.direct = false → exec (.segmentRelease o t) s =
      .next ((((((s.at t).readSeg m).sendCw o.val m).countCell o.val 0x11 m.berth 1).count
        (ctrRgn (o.val / 128)) 0x21 anySub m.berth 1).endMsg o.val m false))) ∧
  (∀ (s : State) (o : Fin 1024) (slots t : Nat) (m : Msg), (s.at t).openMsg o.val = some m → m.cut = true →
    m.filled = false → m.inBolt ≤ m.sent → SMap.find? (s.at t).core.gaps o.val = none → s.chart.isFnl o.val = false →
    exec (.cutThroughGap o slots t) s = .next (((((s.at t).bump (F.rgnCtstatUnderruns (o.val / 128)) 1).count (ctrRgn (o.val / 128)) 0x26
      anySub none 1).modCore fun u => { u with gaps := SMap.put u.gaps o.val (s.at t).now }).emit (.emptySlots o.val slots))) ∧
  (∀ (s : State) (o : Fin 1024) (t since : Nat) (m : Msg), (s.at t).openMsg o.val = some m → SMap.find? (s.at t).core.gaps o.val = some since →
    since + usec ((s.at t).get (F.rgnCtctlStallMax (o.val / 128))) ≤ (s.at t).now → m.inBolt ≤ m.sent → (s.at t).arrivesNow m = false → exec (.poisonFill o t) s =
      .next ((s.at t).fillMsg o.val m)) ∧
  (∀ (s : State) (g : Fin 8) (p : Fin 1024) (cls : Fin 8) (t until_ : Nat),
    SMap.find? s.core.demoted (8192 * g.val + 8 * p.val + cls.val) = some until_ → until_ ≤ (s.at t).now →
    ∃ u : State, exec (.demotionEnd g p cls t) s = .next u ∧ u.core.demoted = SMap.del s.core.demoted (8192 * g.val + 8 * p.val + cls.val) ∧
      u.core.bolt = s.core.bolt ∧ u.core.staged = s.core.staged ∧ u.sent = s.sent)

/-- R77, R472: a request with no berth is answered UNBOUND in its kind's form, and nothing is stored. -/
def Obligations.UnboundRequestsTurnedAway : Prop :=
  ∀ (s : State) (p : Fin 1024) (m : MsgHeader) (t : Nat), (s.at t).takesIn p.val = true → isResponse m.kind = false →
    m.kind ≠ .management → m.mark ≠ .l1Request → (s.at t).malformed p.val m = false → m.cfg = none → m.port = none → m.coh = none →
    s.safeOn = false → s.chart.isUsp p.val = true → s.chart.isFnl p.val = false →
    s.chart.vsOf p.val = none →
    ∃ u : State, exec (.messageIngress p m t) s = .next u ∧ u.sent = .answer p.val m.id (answerOf m.kind stUnbound) :: s.sent ∧
      u.get (F.celStaleReqUnbound p.val) = min (s.get (F.celStaleReqUnbound p.val) + 1) (2 ^ (F.celStaleReqUnbound p.val).width - 1) ∧
      (u.get (F.fltAttnPend 64)).testBit 3 = true ∧ u.core = s.core ∧ u.home = s.home ∧ u.chart = s.chart ∧ u.nv = s.nv

/-- R90, R120, R122, R134, R139, R151, R152: scheduling's events, and the Pilot's clears. -/
def Obligations.SchedulingComplete : Prop :=
  (∀ (s : State) (t : Nat), ∃ u : State, exec (.weightRefresh t) s = .next u ∧ u.core.staged = s.core.staged ∧ u.core.bolt = s.core.bolt ∧
    u.core.sending = s.core.sending ∧ u.chart = s.chart ∧ u.sent = s.sent ∧
    ∀ (g : Fin 8) (i : Fin 16), u.get (F.rgnArbwAdmitW g.val i.val) = (s.at t).sourceWeight
      (((s.at t).core.staged.filter (s.at t).asksAdmission ++ (s.at t).core.bolt.filter fun m => !m.filled && decide (m.inBolt < m.segs)).filter
        fun m => m.src / 8 == 16 * g.val + i.val && m.out / 128 == g.val)) ∧
  (∀ (s : State) (o : Fin 1024) (j : Fin 16) (t n : Nat), (s.shaperOf o.val j.val).slot = some n → n ≤ (s.at t).now / 10000 →
    exec (.shaperSlot o j t) s = .next ((s.at t).shaperSlot o.val j.val)) ∧
  (∀ (s : State) (g : Fin 8) (t : Nat), s.flag F.talStatFrozen = false → s.flag (F.rgnQhistctlClearing g.val) = false →
    (s.at t).copyingBins g.val = false → ∃ u : State, exec (.queueSample g t) s = .next u ∧ u.core = s.core ∧ u.sent = s.sent ∧
      ∀ f : Fld, (f.addr < 0x1080000 + 0x100000 * g.val ∨ 0x10A0000 + 0x100000 * g.val ≤ f.addr) → f.lsb < 32 → u.get f = s.get f) ∧
  (∀ (s : State) (src : Sess) (who : Principal), s.serves src who → who.isPilot = true →
    (∀ g : Fin 8, s.reach (0x1000000 + 0x100000 * g.val + 0x130) = true →
      exec (.qhistClear src g) s = .next (s.acts src fun u => u.set (F.rgnQhistctlClearing g.val) 1)) ∧
    (∀ g : Fin 8, s.reach (F.rgnCtstatDemoted g.val).addr = true → exec (.ctstatClear src g) s = .next (s.acts src fun u =>
      ((u.set (F.rgnCtstatUnderruns g.val) 0).set (F.rgnCtstatPoisonFills g.val) 0).set (F.rgnCtholdSlots g.val) 0)) ∧
    (∀ (n : Fin 128) (c : Fin 8), s.reach (F.blkStgholdPeak n.val c.val).addr = true → exec (.stgPeakClear src n c) s =
      .next (s.acts src fun u => u.set (F.blkStgholdPeak (s.chart.lead (8 * n.val + c.val) / 8) (s.chart.lead (8 * n.val + c.val) % 8)) 0)) ∧
    (∀ p : Fin 1024, s.reach (F.celTackctlSlotWait p.val).addr = true → exec (.tackCountsClear src p) s = .next (s.acts src fun u =>
      (u.set (F.celStaleReqUnbound (s.chart.lead p.val)) 0).set (F.celStaleRspDiscard (s.chart.lead p.val)) 0))) ∧
  (∀ (s : State) (g : Fin 8) (t : Nat), s.flag (F.rgnQhistctlClearing g.val) = true → (s.at t).copyingBins g.val = false →
    ∃ u : State, exec (.histogramClearDone g t) s = .next u ∧ u.flag (F.rgnQhistctlClearing g.val) = false ∧
      ∀ (q : Fin 1024) (b : Fin 16), u.get (F.rgnQhistDepth g.val q.val b.val) = 0 ∧ u.get (F.rgnQhistSojourn g.val q.val b.val) = 0)

/-- R16, R303 to R308: the seams' events and the Helm's reset. The plane of a segment while one is lost: log entry 142. -/
def Obligations.SeamsComplete : Prop :=
  (∀ (s : State) (o : Fin 1024) (id : Nat) (idx : Fin 64) (pl : Plane) (h : Fin 40) (data t : Nat) (sp0 sp1 : Fin 256) (m : Msg),
    s.crossing o.val id (planeNum pl) = some m → s.planeOf m idx.val = planeNum pl →
    s.parityHolds (o.val / 128) (80 + 40 * planeNum pl + h.val) data sp0.val sp1.val = true →
    exec (.seamSlotReceive o id idx pl h data sp0 sp1 false t) s = .next (((s.at t).crossed m idx.val (planeNum pl)).segmentIn m idx.val)) ∧
  (∀ (s : State) (o : Fin 1024) (id : Nat) (idx : Fin 64) (pl : Plane) (h : Fin 40) (data t : Nat) (sp0 sp1 : Fin 256) (m : Msg),
    s.crossing o.val id (planeNum pl) = some m →
    (s.planeOf m idx.val = planeNum pl → exec (.seamSlotReceive o id idx pl h data sp0 sp1 true t) s =
      .next (((s.at t).crossed m idx.val (planeNum pl)).segmentBad m idx.val (planeNum pl) h.val data true)) ∧
    (s.planeOf m idx.val ≠ planeNum pl → exec (.seamSlotReceive o id idx pl h data sp0 sp1 true t) s = .next (s.at t))) ∧
  (∀ (s : State) (o : Fin 1024) (id : Nat) (idx : Fin 64) (pl : Plane) (h : Fin 40) (data t : Nat) (sp0 sp1 : Fin 256) (m : Msg) (b : BadSlot),
    s.crossing o.val id (planeNum pl) = some m → (s.seam.bad.find? fun b => b.seg == ⟨o.val, id, idx.val⟩) = some b →
    s.parityHolds (o.val / 128) (80 + 40 * planeNum pl + h.val) data sp0.val sp1.val = true →
    exec (.seamResendReceive o id idx pl h data sp0 sp1 false t) s = .next ((diffWires b.data data).foldl (fun u w =>
      u.wireError b.seam b.entry w) (((s.at t).modSeam fun u => { u with bad := u.bad.filter (·.seg != b.seg) }).segmentIn m idx.val))) ∧
  (∀ (s : State) (src : Sess) (who : Principal) (g : Fin 8) (pl : Plane), s.serves src who → who.isHelm = true →
    s.reach (F.seamErrResends g.val).addr = true → s.get (seamState g.val (planeNum pl)) = 2 →
    s.get (seamState g.val (1 - planeNum pl)) = 2 → s.seam.waiting = [] →
    ∃ u : State, exec (.seamResetCommand src g pl) s = .next (u.done src) ∧ u.get (seamState g.val (planeNum pl)) = 1 ∧
      u.get (seamState g.val (1 - planeNum pl)) = 2 ∧ u.core = s.core ∧ u.chart = s.chart) ∧
  (∀ (s : State) (g : Fin 8) (pl : Plane) (t : Nat), s.get (seamState g.val (planeNum pl)) = 1 → s.seam.waiting = [] →
    ∃ u : State, exec (.seamResetDone g pl t) s = .next u ∧ u.get (seamState g.val (planeNum pl)) = 2 ∧ u.core = s.core) ∧
  (∀ (s : State) (pl : Plane) (t : Nat), s.get F.hubXbarstatMode = 3 → s.flt.reactions = [(hubCol, 8 + planeNum pl)] →
    ∃ u : State, exec (.rosePlaneLoss pl t) s = .next u ∧ u.get F.hubXbarstatMode = 3 - 2 ^ planeNum pl ∧
      u.get F.hubXbarstatSpeedup = 115 ∧ (u.get (F.fltAttnPend 64)).testBit 14 = true ∧ u.core = s.core ∧ u.chart = s.chart) ∧
  (∀ (s : State) (g : Fin 8) (t : Nat), s.flag (F.seamStatRegenLock g.val) = false → exec (.regenRelockTimeout g t) s =
    .next (((s.at t).takeReaction (inRegen g.val).1 (inRegen g.val).2).regionOut g.val)) ∧
  (∀ (s : State) (g : Fin 8) (pl : Plane) (t : Nat), exec (.regeneratorRelock g pl t) s =
    .next (((s.at t).set (F.seamStatRegenLock g.val) 1).resetPlane g.val (planeNum pl))) ∧
  (∀ (s : State) (g : Fin 8) (n : Fin 160) (w : Fin 64) (t : Nat), exec (.delayTrimEnd g n w t) s =
    .next ((s.at t).wireFail g.val n.val w.val))

/-- R306: only one plane of a seam resets at a time. -/
def Obligations.OnePlaneOfASeamAtATime : Prop :=
  ∀ (s : State) (g : Fin 8) (l : Fin 2), ¬ (s.get (seamState g.val 0) = 1 ∧ s.get (seamState g.val 1) = 1) →
    ¬ ((s.resetPlane g.val l.val).get (seamState g.val 0) = 1 ∧ (s.resetPlane g.val l.val).get (seamState g.val 1) = 1)

/-- R164, R165, R172, R175, R181, R183, R185, R186, R189: the life of a request at its home. -/
def Obligations.HomeRequestsComplete : Prop :=
  (∀ (s r : State) (p : Fin 1024) (fc : FcClass) (g : Fin 8) (t : Nat) (m : Msg) (q : CohReq), r = s.at t →
    r.stagingHead p.val fc g.val = some m → m.coh = some q → r.safeOn = false →
    (r.home.shadows.filter fun x => x.cell == p.val).length < 512 * r.chart.cells p.val →
    (r.homeGrants (r.lineHome (m.addr / 64)) (m.addr / 64) m.berth = true →
      ∃ u : State, exec (.homeAdmission p fc g t) s = .next u ∧ m ∉ u.core.staged ∧
        (∃ x : Shadow, u.home.shadows = s.home.shadows ++ [x] ∧ x.cell = p.val ∧ x.tag = m.id ∧ x.op = q.op ∧ x.line = m.addr / 64 ∧
          x.count = 0 ∧ x.region = r.lineHome (m.addr / 64) / 9 ∧ x.payload = hasPayload q.op ∧ x.data = q.data ∧ x.mask = q.mask) ∧
        (∃ y : Txn, u.home.txns = s.home.txns ++ [y] ∧ y.home = s.lineHome (m.addr / 64) ∧ y.line = m.addr / 64 ∧ y.stage = .queued ∧
          y.job = .req q.op ∧ y.replay = false) ∧ u.home.dir = s.home.dir ∧ u.chart = s.chart ∧ u.nv = s.nv) ∧
    (r.homeGrants (r.lineHome (m.addr / 64)) (m.addr / 64) m.berth = false → r.chart.isFnl p.val = true →
      exec (.homeAdmission p fc g t) s = .next (((r.count (ctrHom (r.lineHome (m.addr / 64))) 0x42 anySub m.berth 1).dropStaged m).homeReply
        p.val m.id m.berth .retry stRetry none false))) ∧
  (∀ (s r : State) (line : Fin (2 ^ 46)) (t : Nat) (x : Txn), r = s.at t → r.queueFront line.val = some x → x.stage = .queued →
    (r.opNow x = some .rdS → exec (.rdS line t) s = .next (r.startTxn x).settle) ∧
    (r.opNow x = some .rdOwn → exec (.rdOwn line t) s = .next (r.startTxn x).settle) ∧
    (r.opNow x = some .upg → exec (.upg line t) s = .next (r.startTxn x).settle) ∧
    (r.opNow x = some .rdCur → exec (.rdCur line t) s = .next (r.startTxn x).settle) ∧
    (r.opNow x = some .evictS → exec (.evictS line t) s = .next (r.startTxn x).settle) ∧
    (r.opNow x = some .wrFull → exec (.wrFull line t) s = .next (r.startTxn x).settle) ∧
    (r.opNow x = some .wrPart → exec (.wrPart line t) s = .next (r.startTxn x).settle) ∧
    (r.opNow x = some .wrBack → (x.agent.bind fun a => r.snoopTo a line.val) = none →
      exec (.wrBack line t) s = .next (r.startTxn x).settle) ∧
    (r.opNow x = some .wrClean → (x.agent.bind fun a => r.snoopTo a line.val) = none →
      exec (.wrClean line t) s = .next (r.startTxn x).settle) ∧
    (∀ y : Snoop, (x.agent.bind fun a => r.snoopTo a line.val) = some y →
      (r.opNow x = some .wrBack → exec (.wrBack line t) s = .next (r.captureWrite x y).settle) ∧
      (r.opNow x = some .wrClean → exec (.wrClean line t) s = .next (r.captureWrite x y).settle))) ∧
  (∀ (s r : State) (p : Fin 1024) (tag : Nat) (port : Fin 4096) (line : Fin (2 ^ 46)) (t : Nat), r = s.at t →
    s.flag (F.celLinkstatUp p.val) = true →
    (s.chart.uspOfPort port.val = none →
      exec (.snData p tag port line t) s = .next ((r.bump (F.celStaleReqUnbound p.val) 1).emit (.answer p.val tag (.fnlStatus stUnbound))) ∧
      exec (.snInv p tag port line t) s = .next ((r.bump (F.celStaleReqUnbound p.val) 1).emit (.answer p.val tag (.fnlStatus stUnbound))) ∧
      exec (.snCur p tag port line t) s = .next ((r.bump (F.celStaleReqUnbound p.val) 1).emit (.answer p.val tag (.fnlStatus stUnbound)))) ∧
    ∀ h : Nat, s.chart.uspOfPort port.val = some h →
      (∃ u : State, exec (.snData p tag port line t) s = .next u ∧ u.sent = .hostSnoop h .data line.val :: s.sent ∧
        u.home.forwarded = s.home.forwarded ++ [(p.val, tag, h, line.val)] ∧ u.regs = s.regs) ∧
      (∃ u : State, exec (.snInv p tag port line t) s = .next u ∧ u.sent = .hostSnoop h .inv line.val :: s.sent ∧
        u.home.forwarded = s.home.forwarded ++ [(p.val, tag, h, line.val)] ∧ u.regs = s.regs) ∧
      (∃ u : State, exec (.snCur p tag port line t) s = .next u ∧ u.sent = .hostSnoop h .cur line.val :: s.sent ∧
        u.home.forwarded = s.home.forwarded ++ [(p.val, tag, h, line.val)] ∧ u.regs = s.regs)) ∧
  (∀ (s r : State) (port : Fin 4096) (line : Fin (2 ^ 46)) (d t a : Nat) (x : Snoop), r = s.at t →
    r.chart.agentOfPort port.val = some a → r.snoopTo a line.val = some x → r.staleSnoop x a = false →
    exec (.srI port line t) s = .next (r.answerSnoop x a 2 none) ∧ exec (.srS port line t) s = .next (r.answerSnoop x a 1 none) ∧
    exec (.srIData port line d t) s = .next (r.answerSnoop x a 2 (some d)) ∧
    exec (.srSData port line d t) s = .next (r.answerSnoop x a 1 (some d)) ∧
    exec (.srCurData port line d t) s = .next (r.answerSnoop x a 0 (some d)) ∧
    exec (.srCur port line t) s = .next (r.answerSnoop x a 0 none)) ∧
  (∀ (s r u : State) (port : Fin 4096) (line : Fin (2 ^ 46)) (d t a : Nat) (x : Snoop), r = s.at t →
    r.chart.agentOfPort port.val = some a → r.snoopTo a line.val = some x → r.staleSnoop x a = true →
    u = (r.bump (F.celStaleRspDiscard (r.chart.agentLink a)) 1).raiseBinding x.berth →
    exec (.srI port line t) s = .next u ∧ exec (.srS port line t) s = .next u ∧ exec (.srIData port line d t) s = .next u ∧
    exec (.srSData port line d t) s = .next u ∧ exec (.srCurData port line d t) s = .next u ∧ exec (.srCur port line t) s = .next u) ∧
  (∀ (s : State) (p : Fin 1024) (tag : Nat) (line : Fin (2 ^ 46)) (t : Nat),
    ((s.chart.agentOfUsp p.val).any fun a => (s.snoopTo a line.val).isSome) = false →
    (s.home.forwarded.any fun f => f.2.2.1 == p.val && f.2.2.2 == line.val) = false →
    exec (.biconflict p tag line t) s = .next ((s.at t).emit (.biConflictAck p.val tag))) ∧
  (∀ (s r : State) (line : Fin (2 ^ 46)) (data : Nat) (poison : Bool) (status : Fin 11) (t : Nat) (x : Txn), r = s.at t →
    r.home.txns.find? (fun y => y.line == line.val && y.stage == .read && y.value.isNone) = some x → status.val = 0 →
    exec (.poolResponse line false data poison status t) s = .next ((((r.cachePut line.val (data % 2 ^ 512) poison).setTxn { x with
      value := some (data % 2 ^ 512, poison), status := 0 }).proceed 32 x.id).settle)) ∧
  (∀ (s r : State) (line : Fin (2 ^ 46)) (a : Fin 64) (t : Nat) (x : Snoop), r = s.at t → r.snoopTo a.val line.val = some x →
    (r.snoopRuns a.val = true → SMap.getD x.sent a.val 0 + usec (r.get (F.homSnpctlTimeout x.home)) ≤ r.now →
      exec (.snoopTimeout line a .timeout t) s = .next ((r.reportAt (inSlice x.home) 1).expireSnoop x a.val).askSweep) ∧
    (r.now < SMap.getD x.sent a.val 0 + usec (r.get (F.homSnpctlTimeout x.home)) → exec (.snoopTimeout line a .timeout t) s = .next r) ∧
    (r.staleSnoop x a.val = true → exec (.snoopTimeout line a .unbound t) s =
      .next (((r.bump (F.celStaleReqUnbound (r.chart.agentLink a.val)) 1).raiseBinding x.berth).expireSnoop x a.val).askSweep) ∧
    (r.snoopRuns a.val = false → r.flag (F.fnlLinkstatFlushed (r.chart.agentLink a.val)) = true →
      exec (.snoopTimeout line a .flushed t) s = .next (r.expireSnoop x a.val).askSweep))

/-- R169, R171 to R173: single owner or many sharers, through every row. -/
def Obligations.DirectoryRowsKeepEntriesCoherent : Prop :=
  (∀ (j : Job) (t : Txn) (x : DirEntry) (compat room : Bool) (store now : Nat) (bad : Bool), x.coherent →
    (rowEntry j t x compat room store now bad).coherent) ∧
  (∀ (t : Txn) (x : DirEntry) (a : Nat) (compat room : Bool) (store now : Nat), t.agent = some a →
    (rowEntry (.req .rdOwn) t x compat room store now false).st = 3 ∧
    holders (rowEntry (.req .rdOwn) t x compat room store now false) = [a]) ∧
  (∀ (j : Job) (t : Txn) (x : DirEntry) (compat room : Bool) (store now : Nat) (bad : Bool), x.poison = true → j ≠ .flush →
    j ≠ .req .wrFull → j ≠ .req .wrBack → (rowEntry j t x compat room store now bad).poison = true)

/-- R164, R175, R177, R188, R195, R197, R200: what homes do besides requests. -/
def Obligations.HomeUpkeepCompletes : Prop :=
  (∀ (s r : State) (t : Nat) (a : Fin 64), r = (s.at t).settle → r.get F.hubDeadsweepAgent = a.val → r.flag F.hubDeadsweepBusy = true →
    r.home.sweepTodo = [] → (∀ x ∈ r.home.txns, x.job ≠ .sweep) → r.home.restarts = [] →
    exec (.deadAgentSweepDone t) s = .next ((((r.setAll
      [(F.hubAgentSwept a.val, 1), (F.hubDeadsweepBusy, 0), (F.hubDeadsweepDone, 1)]).modHome fun u => { u with
        sweeps := u.sweeps.filter (· != a.val) }).releaseFor (.deadSweep a)).askSweep)) ∧
  (∀ (s r : State) (t : Nat), r = (s.at t).settle → (r.flag F.hubDeadsweepBusy = false ∨ r.home.sweepTodo ≠ [] ∨ r.home.restarts ≠ [] ∨
    ∃ x ∈ r.home.txns, x.job = .sweep) → exec (.deadAgentSweepDone t) s = .next r) ∧
  (∀ (s : State) (src : Sess) (who : Principal), s.serves src who → who.isPilot = true →
    (∀ a : Fin 64, s.agentDead a.val = true → s.flag (F.hubAgentSwept a.val) = true → exec (.agentRevive src a) s =
      .next (s.acts src fun u => (u.set (F.hubAgentDead a.val) 0).set (F.hubAgentMisses a.val) 0)) ∧
    (∀ a : Fin 64, s.agentDead a.val = true → s.flag (F.hubAgentSwept a.val) = false → exec (.agentRevive src a) s =
      .next ((s.touch src).respond src (cciOf stDenied) stDenied 0 [])) ∧
    (s.flag F.hubWflushBusy = true → exec (.windowFlushStart src) s = .next (s.acts src fun u => u)) ∧
    (s.flag F.hubWflushBusy = false → exec (.windowFlushStart src) s = .next (s.acts src fun u =>
      (((u.set F.hubWflushBusy 1).set F.hubWflushstatLines 0).modHome fun h => { h with
        flushOn := false, flushWin := some (u.get F.hubWflushWindow), flushTodo := [] }).requestLeave .windowFlush)) ∧
    ∀ n : Fin 72, s.reach (F.homTrkPeak n.val).addr = true → exec (.trkPeakClear src n) s =
      .next (s.acts src fun u => u.set (F.homTrkPeak n.val) 0)) ∧
  (∀ (s r : State) (line : Fin (2 ^ 46)) (t : Nat), r = s.at t → r.behindDue line.val = true →
    r.behindRuns line.val = false → r.mayOriginate (s.lineHome line.val) = true →
    exec (.writeBehind line t) s = .next (r.originate line.val .writeBehind).settle) ∧
  (∀ (s : State) (line : Fin (2 ^ 46)) (t : Nat), (s.at t).behindDue line.val = false →
    exec (.writeBehind line t) s = .next (s.at t)) ∧
  (∀ (s r : State) (t w : Nat), r = s.at t → s.home.flushWin = some w → s.home.flushOn = true → s.home.flushTodo = [] → s.home.restarts = [] →
    s.lvc.queue = [] → (∀ x ∈ s.home.txns, x.job ≠ .flush) → (∀ v : Fin 64, s.flag (F.hubHomemapUnknown v.val) = false) →
    ∃ u : State, exec (.windowFlushDone t) s = .next u ∧ u.flag F.hubWflushBusy = false ∧ u.flag F.hubWflushDone = true ∧
      u.home.flushWin = none ∧ u.home.dir = s.home.dir ∧ u.home.txns = s.home.txns ∧ u.chart = s.chart) ∧
  (∀ (s r : State) (port : Fin 4096) (line : Fin (2 ^ 46)) (d t : Nat), r = s.at t → s.chart.agentOfPort port.val = none →
    s.chart.uspOfPort port.val = none → (s.chart.sharedWindow line.val).isSome = true →
    exec (.srI port line t) s = .next (r.bump (F.homErrstatLateRsp (s.lineHome line.val)) 1) ∧
    exec (.srS port line t) s = .next (r.bump (F.homErrstatLateRsp (s.lineHome line.val)) 1) ∧
    exec (.srIData port line d t) s = .next (r.bump (F.homErrstatLateRsp (s.lineHome line.val)) 1) ∧
    exec (.srSData port line d t) s = .next (r.bump (F.homErrstatLateRsp (s.lineHome line.val)) 1))

/-- R191, R192, R194, R196, R473: the commands of home failover. How a lost stack's slots are dealt: log entry 156. -/
def Obligations.FailoverCompletes : Prop :=
  (∀ (s r : State) (n : Fin 72) (t : Nat), r = (s.at t).takeReaction (inSlice n.val).1 (inSlice n.val).2 → r.get (F.homRole n.val) ≠ 2 →
    n.val ∉ r.home.waiting → r.home.failover = none → exec (.homeSliceFailover n t) s = .next (r.failSlice n.val)) ∧
  (∀ (s r : State) (n : Fin 72) (t : Nat), r = (s.at t).takeReaction (inSlice n.val).1 (inSlice n.val).2 → r.get (F.homRole n.val) = 2 →
    exec (.homeSliceFailover n t) s = .next r) ∧
  (∀ (s r : State) (g : Fin 8) (t : Nat), r = (s.at t).takeReaction (inHbm g.val).1 (inHbm g.val).2 → 72 + g.val ∉ r.home.waiting →
    g.val ∉ r.home.lostStacks → r.home.failover = none → exec (.hbmStackLoss g t) s = .next (r.failStack g.val)) ∧
  (∀ (s : State) (p : Fin 1024) (t : Nat) (x : Shadow), s.home.shadows = [x] → x.cell = p.val → x.moved = true → x.count < 3 →
    ∃ u : State, exec (.shadowReissue p t) s = .next u ∧ u.home.shadows = [{ x with count := x.count + 1, moved := false }] ∧
      (∃ y : Txn, u.home.txns = s.home.txns ++ [y] ∧ y.home = s.slotSlice x.slot ∧ y.line = x.line ∧ y.job = .req x.op ∧ y.replay = true ∧
        y.tag = x.tag ∧ y.data = x.data) ∧ u.sent = s.sent ∧ u.chart = s.chart ∧ u.core = s.core) ∧
  (∀ (s : State) (p : Fin 1024) (t : Nat) (x : Shadow), s.home.shadows = [x] → x.cell = p.val → x.moved = true → x.count = 3 →
    ∃ u : State, exec (.shadowReissue p t) s = .next u ∧ u.home.shadows = [] ∧ u.home.txns = s.home.txns ∧
      ∃ m : Emit, u.sent = m :: s.sent) ∧
  (∀ (s : State) (t : Nat) (f : Failover), s.home.failover = some f → (∀ x ∈ s.home.shadows, x.moved = false) → s.home.waiting = [] →
    exec (.homeFailoverDone t) s = .next ((((s.at t).raise (if f.stack then atDegraded else atHome) (audPilot :: (f.berths ++
      (s.at t).ownersOf f.slots))).modHome fun u => { u with failover := none }).admitEngines)) ∧
  (∀ (s r : State) (n : Fin 72) (t : Nat), r = s.at t → n.val ∈ s.home.restarts →
    (∀ x ∈ s.home.shadows, x.moved = true → s.slotSlice x.slot ≠ n.val) →
    exec (.homeWorkRestart n t) s = .next ((r.modHome fun u => { u with
      restarts := u.restarts.filter (· != n.val),
      flushTodo := (match u.flushOn, u.flushWin with
        | true, some w => u.flushTodo ++ (u.dir.filter fun e => e.2.home == n.val && !u.flushTodo.contains e.1
            && decide (r.chart.winStart w ≤ e.1 ∧ e.1 ≤ r.chart.winEnd w)).map (·.1)
        | _, _ => u.flushTodo),
      sweepTodo := if r.flag F.hubDeadsweepBusy then
          u.sweepTodo ++ (u.dir.filter fun e => e.2.home == n.val && !u.sweepTodo.contains e.1).map (·.1)
        else u.sweepTodo }).settle)) ∧
  (∀ (s : State) (n : Fin 72) (t : Nat), n.val ∉ s.home.restarts → exec (.homeWorkRestart n t) s = .next (s.at t))

/-- R191, R192: every slot of a retired slice moves. -/
def Obligations.ARetiredSliceServesNoSlot : Prop :=
  ∀ (s : State) (n m : Fin 72), m ≠ n → s.regionPowered (m.val / 9) = true →
    (s.get (F.homRole m.val) = 0 ∨ (s.get (F.homRole m.val) = 1 ∧ m.val / 9 ≠ n.val / 9)) →
    (∀ v : Fin 64, (s.failSlice n.val).slotSlice v.val ≠ n.val) ∧ (s.failSlice n.val).get (F.homRole n.val) = 2 ∧
      (∀ x ∈ (s.failSlice n.val).home.txns, x.home ≠ n.val) ∧ ∀ x ∈ (s.failSlice n.val).home.snoops, x.home ≠ n.val

/-- R202 to R204, R209, R211, R224, R226, R228, R243: writes to the aperture. -/
def Obligations.ApertureWritesComplete : Prop :=
  (∀ (s r y : State) (p : Fin 1024) (id k : Nat) (h : SyncHeader) (off : Fin (2 ^ 26)) (bytes : List (Fin 256)) (t : Nat), r = s.at t →
    r.chart.ldsValid = true → r.takesIn p.val = true → r.safeOn = false →
    r.ingressBerth p.val (h.ld.map (·.val)) h.hberth.val = some k →
    y = (r.ingressClass p.val k (if r.chart.isFnl p.val then .fnlRequest else .memWrite) .req (r.chart.ldsBase + off.val) h.hclass.val
      h.hcolour.val bytes.length).2.2 →
    (y.gateCheck gateLds [(y.chart.ldsBase + off.val) / 64] k 6 p.val).1 = [] → y.copyDenied off.val = false →
    (off.val < 2 ^ 24 → exec (.lodestarCommandWrite p id h off bytes t) s =
      .next ((y.commandSlot k off.val (bytes.map (·.val))).apertureDone p.val id k stOk)) ∧
    (2 ^ 25 ≤ off.val → off.val < 3 * 2 ^ 24 →
      exec (.copy p id h off bytes t) s = .next ((y.descriptorSlot k off.val (bytes.map (·.val))).apertureDone p.val id k stOk) ∧
      exec (.zero p id h off bytes t) s = .next ((y.descriptorSlot k off.val (bytes.map (·.val))).apertureDone p.val id k stOk) ∧
      exec (.sanitize p id h off bytes t) s = .next ((y.descriptorSlot k off.val (bytes.map (·.val))).apertureDone p.val id k stOk))) ∧
  (∀ (s r : State) (p : Fin 1024) (id : Nat) (h : SyncHeader) (off : Fin (2 ^ 26)) (bytes : List (Fin 256)) (t : Nat), r = s.at t →
    r.chart.ldsValid = true → r.takesIn p.val = true → r.ingressBerth p.val (h.ld.map (·.val)) h.hberth.val = none →
    exec (.lodestarCommandWrite p id h off bytes t) s =
      .next (r.refuseBerthless p.val id (if r.chart.isFnl p.val then .fnlRequest else .memWrite))) ∧
  (∀ (s : State) (k off : Nat) (b : List Nat), b.length = 64 → off % 64 = 0 → off < 2 ^ 24 → b.getD 1 0 < 16 → leField b 4 4 < 2 ^ 29 →
    (∀ i, i < 34 → b.getD (30 + i) 0 = 0) → knownOpc (b.getD 0 0) = true → (s.lrec (off / 64)).state ≠ 1 →
    ∃ u : State, s.commandSlot k off b = u ∧ (u.lrec (off / 64)).state = 1 ∧ (u.lrec (off / 64)).opc = b.getD 0 0 ∧
      (u.lrec (off / 64)).ticket = leField b 2 2 ∧ u.lod.objects = s.lod.objects ∧
      (∃ c : LCmd, u.lod.pend = s.lod.pend ++ [c] ∧ c.key = off / 64 ∧ c.opc = b.getD 0 0 ∧ c.berth = k ∧ c.a = leField b 8 8) ∧
      { u with lod := s.lod } = s) ∧
  (∀ (s : State) (k off : Nat) (b : List Nat), off < 2 ^ 24 → (s.lrec (off / 64)).state = 1 →
    ∃ u : State, s.commandSlot k off b = u ∧ (u.lrec (off / 64)).state = 1 ∧ (u.lrec (off / 64)).overrun = true ∧
      u.lod.pend = s.lod.pend ∧ u.lod.objects = s.lod.objects) ∧
  (∀ (s : State) (k off : Nat) (b : List Nat), b.length = 64 → off % 64 = 0 → descOk b false = true →
    (s.crec (64 * (off / 2 ^ 12 % 256) + off / 64 % 64)).state ≠ 1 →
    ∃ u : State, s.descriptorSlot k off b = u ∧ (u.crec (64 * (off / 2 ^ 12 % 256) + off / 64 % 64)).state = 1 ∧
      (∃ j : CopyJob, u.cpy.jobs = s.cpy.jobs ++ [j] ∧ j.g = off / 2 ^ 12 % 256 % 8 ∧ j.opc = b.getD 0 0 ∧ j.lines = leField b 4 4 ∧
        j.src = leField b 8 8 ∧ j.dst = leField b 16 8 ∧ j.berth = k ∧ j.running = false) ∧ { u with cpy := s.cpy } = s) ∧
  (∀ (s r : State) (p : Fin 1024) (id k : Nat) (h : SyncHeader) (off : Fin (2 ^ 26)) (bytes : List (Fin 256)) (t : Nat), r = s.at t →
    r.chart.ldsValid = true → r.takesIn p.val = true → r.safeOn = true →
    r.ingressBerth p.val (h.ld.map (·.val)) h.hberth.val = some k →
    ∃ u : State, exec (.lodestarCommandWrite p id h off bytes t) s = .next u ∧ u.lod = s.lod ∧ u.cpy = s.cpy ∧ u.regs = s.regs ∧
      (s.chart.isFnl p.val = true → ∃ d : Nat, u.sent = .homeReply p.val id .done stSafe d none false :: s.sent) ∧
      (s.chart.isFnl p.val = false → ∃ d : Nat, u.sent = .homeReply p.val id .done stOk d none false :: s.sent)) ∧
  (∀ (s : State) (p : Fin 1024) (id : Nat) (h : SyncHeader) (off : Fin (2 ^ 26)) (bytes : List (Fin 256)) (t : Nat),
    s.chart.ldsValid = false → exec (.lodestarCommandWrite p id h off bytes t) s = .next (s.at t))

/-- R205 to R207, R212 to R216, R218, R219, R225: the operations. -/
def Obligations.LodestarOperationsComplete : Prop :=
  (∀ (s : State) (ch : Fin 4096) (k : Fin 64) (t : Nat) (c : LCmd) (o : LObj), s.lodQuiet → s.lodTurn c ch.val k.val → s.onLive c o →
    (c.opc = 0x01 → ∃ (u : State) (n : Nat), exec (.fetchAdd ch k t) s = .next u ∧ u.lod.objects = SMap.put s.lod.objects c.obj
      { o with words := o.words.set c.word ((o.words.getD c.word 0 + c.a) % 2 ^ 64) } ∧
      (c.key, c.answer stOk 0 (o.words.getD c.word 0) n false) ∈ u.lod.results ∧ (c.flags.testBit 0 = false → n = 0) ∧ s.onlyLod u) ∧
    (c.opc = 0x02 → o.words.getD c.word 0 = c.a → ∃ (u : State) (n : Nat), exec (.compareSwap ch k t) s = .next u ∧
      u.lod.objects = SMap.put s.lod.objects c.obj { o with words := o.words.set c.word (c.b % 2 ^ 64) } ∧
      (c.key, c.answer stOk 0 c.a n true) ∈ u.lod.results ∧ s.onlyLod u) ∧
    (c.opc = 0x02 → o.words.getD c.word 0 ≠ c.a → ∃ u : State, exec (.compareSwap ch k t) s = .next u ∧ u.lod.objects = s.lod.objects ∧
      (c.key, c.answer stOk 0 (o.words.getD c.word 0) 0 false) ∈ u.lod.results ∧ s.onlyLod u) ∧
    (c.opc = 0x03 → ∃ (u : State) (n : Nat), exec (.swap ch k t) s = .next u ∧ u.lod.objects = SMap.put s.lod.objects c.obj
      { o with words := o.words.set c.word (c.a % 2 ^ 64) } ∧ (c.key, c.answer stOk 0 (o.words.getD c.word 0) n false) ∈ u.lod.results ∧
      s.onlyLod u) ∧
    (c.opc = 0x08 → o.words.getD c.word 0 ≠ c.a → ∃ u : State, exec (.wait ch k t) s = .next u ∧ u.lod.objects = s.lod.objects ∧
      u.lod.parked = s.lod.parked ∧ (c.key, c.answer stOk dtNotEqual (o.words.getD c.word 0) 0 false) ∈ u.lod.results ∧ s.onlyLod u) ∧
    (c.opc = 0x08 → o.words.getD c.word 0 = c.a → s.waiters (s.cmdSlice c) < 16384 → ∃ (u : State) (p : Parked),
      exec (.wait ch k t) s = .next u ∧ u.lod.objects = s.lod.objects ∧ u.lod.parked = s.lod.parked ++ [p] ∧ p.cmd = c ∧
      u.lod.results = s.lod.results) ∧
    (c.opc = 0x09 → ∃ u : State, exec (.notify ch k t) s = .next u ∧ u.lod.objects = s.lod.objects ∧ s.onlyLod u ∧
      (c.key, c.answer stOk 0 (s.wakes c).length 0 false) ∈ u.lod.results ∧ ∀ p ∈ s.wakes c, p ∉ u.lod.parked) ∧
    (c.opc = 0x0A → (s.lod.parked.filter fun p => p.cmd.opc == 0x0A && p.cmd.obj == c.obj).length + 1 < o.parties →
      s.waiters (s.cmdSlice c) < 16384 → ∃ (u : State) (p : Parked), exec (.barrier ch k t) s = .next u ∧
      u.lod.objects = s.lod.objects ∧ u.lod.parked = s.lod.parked ++ [p] ∧ p.cmd = c) ∧
    (c.opc = 0x0A → o.parties ≤ (s.lod.parked.filter fun p => p.cmd.opc == 0x0A && p.cmd.obj == c.obj).length + 1 →
      ∃ u : State, exec (.barrier ch k t) s = .next u ∧ s.onlyLod u ∧
      u.lod.objects = SMap.put s.lod.objects c.obj { o with gen := (o.gen + 1) % 2 ^ 32 } ∧
      (c.key, c.answer stOk 0 o.gen o.parties true) ∈ u.lod.results ∧ ∀ p ∈ u.lod.parked, p.cmd.opc ≠ 0x0A ∨ p.cmd.obj ≠ c.obj) ∧
    (c.opc = 0x0B → o.holder = none → (∀ p ∈ s.lod.parked, p.cmd.opc ≠ 0x0B ∨ p.cmd.obj ≠ c.obj) →
      (c.flags.testBit 3 = true → ∃ u : State, exec (.lock ch k t) s = .next u ∧ s.onlyLod u ∧
        u.lod.objects = SMap.put s.lod.objects c.obj { o with shared := o.shared + 1 } ∧
        (c.key, c.answer stOk 0 0xFFFF (o.shared + 1) true) ∈ u.lod.results) ∧
      (c.flags.testBit 3 = false → o.shared = 0 → ∃ u : State, exec (.lock ch k t) s = .next u ∧ s.onlyLod u ∧
        u.lod.objects = SMap.put s.lod.objects c.obj { o with holder := some c.chan } ∧
        (c.key, c.answer stOk 0 c.chan 0 true) ∈ u.lod.results)) ∧
    (c.opc = 0x0C → c.flags.testBit 3 = false → o.holder ≠ some c.chan → ∃ u : State, exec (.unlock ch k t) s = .next u ∧ s.onlyLod u ∧
      u.lod.objects = s.lod.objects ∧ (c.key, c.answer stDenied dtNotOwner 0 0 false) ∈ u.lod.results) ∧
    (c.opc = 0x0C → c.flags.testBit 3 = false → o.holder = some c.chan →
      (∀ p ∈ s.lod.parked, p.cmd.opc ≠ 0x0B ∨ p.cmd.obj ≠ c.obj) → ∃ u : State, exec (.unlock ch k t) s = .next u ∧ s.onlyLod u ∧
      SMap.find? u.lod.objects c.obj = some { o with holder := none, shared := 0 } ∧
      (c.key, c.answer stOk 0 0 0 false) ∈ u.lod.results) ∧
    (c.opc = 0x19 → ∃ u : State, exec (.objFree ch k t) s = .next u ∧ s.onlyLod u ∧ u.lod.objects = SMap.del s.lod.objects c.obj ∧
      (c.key, c.answer stOk 0 c.obj 0 false) ∈ u.lod.results ∧ ∀ p ∈ u.lod.parked, p.cmd.obj ≠ c.obj)) ∧
  (∀ (s : State) (ch : Fin 4096) (k : Fin 64) (t : Nat) (c : LCmd), s.lodQuiet → s.lodTurn c ch.val k.val →
    (c.opc = 0x10 → s.chart.grpFirst c.berth ≤ c.group → c.group ≤ s.chart.grpLast c.berth → SMap.find? s.lod.groups c.group = none →
      ∃ u : State, exec (.groupCreate ch k t) s = .next u ∧ s.onlyLod u ∧ u.lod.objects = s.lod.objects ∧
        (c.key, c.answer stOk 0 c.group (s.groupInterval (s.cmdSlice c) c.a) false) ∈ u.lod.results ∧
        ∃ g : Grp, SMap.find? u.lod.groups c.group = some g ∧ g.members = [] ∧ g.berth = c.berth ∧ g.lost = false) ∧
    (∀ g : Grp, SMap.find? s.lod.groups c.group = some g → g.lost = false →
      (c.opc = 0x11 → c.chan ∉ g.members → g.members.length < 56 → ∃ (u : State) (h : Grp), exec (.groupJoin ch k t) s = .next u ∧
        s.onlyLod u ∧ SMap.find? u.lod.groups c.group = some h ∧ h.members = g.members ++ [c.chan] ∧
        (c.key, c.answer stOk 0 (g.members.length + 1) 0 false) ∈ u.lod.results) ∧
      (c.opc = 0x12 → c.chan ∈ g.members → ∃ (u : State) (h : Grp), exec (.groupLeave ch k t) s = .next u ∧ s.onlyLod u ∧
        SMap.find? u.lod.groups c.group = some h ∧ c.chan ∉ h.members ∧
        (c.key, c.answer stOk 0 (g.members.length - 1) 0 false) ∈ u.lod.results) ∧
      (c.opc = 0x13 → g.members = [] → (∀ x ∈ s.lod.pend, x.held = false) → ∃ u : State, exec (.groupDestroy ch k t) s = .next u ∧ s.onlyLod u ∧
        SMap.find? u.lod.groups c.group = none ∧ (c.key, c.answer stOk 0 c.group 0 false) ∈ u.lod.results)) ∧
    (c.opc = 0x18 → c.a ≤ 2 → (c.a = 2 → 1 ≤ c.b ∧ c.b ≤ 65535) → s.objUse c.berth < s.chart.objQuota c.berth → ∀ n : Nat,
      (s.allocSlot c.chan).bind s.freeObject = some n → ∃ u : State, exec (.objAlloc ch k t) s = .next u ∧ s.onlyLod u ∧
        u.lod.objects = SMap.put s.lod.objects n ⟨c.a, List.replicate 8 0, none, 0, if c.a = 2 then c.b else 0, 0, c.berth, false⟩ ∧
        (c.key, c.answer stOk 0 n 0 false) ∈ u.lod.results))

/-- R210, R211, R213, R214, R220, R234: results, timeouts, all-waiting. -/
def Obligations.RecordsAndGroupsComplete : Prop :=
  (∀ (s : State) (ch : Fin 4096) (k : Fin 64) (t : Nat) (r : LRec), s.lod.results.find? (fun e => e.1 == 64 * ch.val + k.val) =
      some (64 * ch.val + k.val, r) → (s.lrec (64 * ch.val + k.val)).state = 1 →
    ∃ u : State, exec (.lodestarResultReturn ch k t) s = .next u ∧
      u.lrec (64 * ch.val + k.val) = { r with overrun := (s.lrec (64 * ch.val + k.val)).overrun } ∧
      (64 * ch.val + k.val, r) ∉ u.lod.results ∧ u.lod.objects = s.lod.objects ∧ s.onlyLod u) ∧
  (∀ (s : State) (ch : Fin 4096) (k : Fin 64) (t : Nat) (p : Parked), s.lod.parked.find? (fun q => q.cmd.key == 64 * ch.val + k.val) =
      some p → p.frozen = false → p.since + usec p.limit ≤ (s.at t).now → (s.at t).wokenNow p = false →
    ∃ (u : State) (r : LRec), exec (.parkedTimeout ch k t) s = .next u ∧ p ∉ u.lod.parked ∧ (p.cmd.key, r) ∈ u.lod.results ∧
      r.status = stTimeout ∧ r.ticket = p.cmd.ticket ∧ u.lod.objects = s.lod.objects ∧ s.onlyLod u) ∧
  (∀ (s : State) (ch : Fin 4096) (k : Fin 64) (t : Nat) (p : Parked), s.lod.parked.find? (fun q => q.cmd.key == 64 * ch.val + k.val) =
      some p → (p.frozen = true ∨ (s.at t).now < p.since + usec p.limit ∨ (s.at t).wokenNow p = true) → exec (.parkedTimeout ch k t) s = .next (s.at t)) ∧
  (∀ (s : State) (grp : Fin 65536) (t x : Nat) (g : Grp), SMap.find? s.lod.groups grp.val = some g → g.since = some x → g.freezing = false →
    (x + usec g.interval ≤ (s.at t).now → ∃ u : State, exec (.allWaitingFreeze grp t) s = .next u ∧ s.onlyLod u ∧
      (∃ h : Grp, SMap.find? u.lod.groups grp.val = some h ∧ h.freezing = true ∧ h.members = g.members) ∧
      (∀ p ∈ u.lod.parked, p.group = some grp.val → p.frozen = true) ∧ u.lod.parked.length = s.lod.parked.length) ∧
    ((s.at t).now < x + usec g.interval → exec (.allWaitingFreeze grp t) s = .next (s.at t))) ∧
  (∀ (s : State) (grp : Fin 65536) (t : Nat) (g : Grp), SMap.find? s.lod.groups grp.val = some g → g.freezing = false →
    exec (.allWaitingDecision grp t) s = .next (s.at t)) ∧
  (∀ (s : State) (src : Sess) (who : Principal) (n : Fin 72), s.serves src who → who.isPilot = true →
    s.reach (F.ldsStatPeak n.val).addr = true → exec (.ldsPeakClear src n) s = .next (s.acts src fun u => u.set (F.ldsStatPeak n.val) 0))

/-- R220: a freeze ends in ALL_WAITING or in a thaw. -/
def Obligations.AllWaitingDecides : Prop :=
  ∀ (s : State) (grp : Fin 65536) (t : Nat) (g : Grp), SMap.find? s.lod.groups grp.val = some g → g.freezing = true → g.berth < 64 →
    (∀ c ∈ s.lod.pend, c.held = false) →
    ((∀ key ∈ g.frozen, ∃ p ∈ s.lod.parked, p.group = some grp.val ∧ p.cmd.key = key) →
      ∃ u : State, exec (.allWaitingDecision grp t) s = .next u ∧ (∀ p ∈ u.lod.parked, p.group ≠ some grp.val) ∧
        (∀ p ∈ s.lod.parked, p.group = some grp.val → ∃ r : LRec, (p.cmd.key, r) ∈ u.lod.results ∧ r.status = stAllWaiting) ∧
        (u.get (F.fltAttnPend g.berth)).testBit atSync = true ∧ u.lod.objects = s.lod.objects ∧
        u.get (F.ldsGrpstatAllwait (s.slotSlice (grp.val % 64))) = min (s.get (F.ldsGrpstatAllwait (s.slotSlice (grp.val % 64))) + 1)
          (2 ^ (F.ldsGrpstatAllwait (s.slotSlice (grp.val % 64))).width - 1)) ∧
    ((∃ key ∈ g.frozen, ∀ p ∈ s.lod.parked, p.group = some grp.val → p.cmd.key ≠ key) →
      ∃ u : State, exec (.allWaitingDecision grp t) s = .next u ∧ u.lod.parked.map (·.cmd) = s.lod.parked.map (·.cmd) ∧
        (∀ p ∈ u.lod.parked, p.group = some grp.val → p.frozen = false) ∧ u.lod.results = s.lod.results ∧
        u.get (F.ldsGrpstatThawed (s.slotSlice (grp.val % 64))) = min (s.get (F.ldsGrpstatThawed (s.slotSlice (grp.val % 64))) + 1)
          (2 ^ (F.ldsGrpstatThawed (s.slotSlice (grp.val % 64))).width - 1))

/-- R226 to R231: the copy engines. -/
def Obligations.CopyEnginesComplete : Prop :=
  (∀ (s r : State) (g : Fin 8) (t : Nat) (j : CopyJob), r = s.at t → r.nextJob g.val = some j → s.holds (.copyEngine g) = true →
    (s.cpy.jobs.filter fun x => x.g == g.val && x.running).length < 16 →
    exec (.copyJobStart g t) s = .next (r.modCpy fun u => { u with
      asked := SMap.del u.asked g.val,
      jobs := (u.jobs.filter (·.running)) ++ [{ j with running := true, since := r.now }] ++ u.jobs.filter fun x => !x.running && x.id != j.id })) ∧
  (∀ (s : State) (g : Fin 8) (t : Nat), s.nextJob g.val = none → exec (.copyJobStart g t) s = .next (s.at t)) ∧
  (∀ (s : State) (g : Fin 8) (data dirty : List Nat) (t w : Nat) (j : CopyJob), s.cpy.jobs = [j] → j.g = g.val → j.running = true →
    j.waits = [] → j.opc = 0x41 → j.lines = 1 → j.next = 0 → j.done = 0 → j.verify = false → j.denied = false → j.failed = false →
    j.chan < 256 → s.home.engine = [] → s.flag (F.cpeStatPaused g.val) = false → s.chart.windowOf (j.dst / 64) = some w →
    s.chart.winShared w = false → s.chart.sharedWindow (j.dst / 64) = none → s.verdict (s.chart.winPool w) (j.dst / 64) j.berth 2 = none → s.lvc.queue = [] →
    ∃ u : State, exec (.copyChunkDone g data dirty t) s = .next u ∧ u.cpy.jobs = [] ∧
      u.sent = .poolWrite (s.chart.winPool w) (j.dst / 64) 0 false :: s.sent ∧
      (u.crec (64 * j.chan + j.slot)).state = 2 ∧ (u.crec (64 * j.chan + j.slot)).status = stOk ∧
      (u.crec (64 * j.chan + j.slot)).value = 1 ∧ u.home = s.home ∧ u.regs = s.regs) ∧
  (∀ (s : State) (g : Fin 8) (t x : Nat) (j : CopyJob), SMap.find? s.cpy.asked g.val = some x →
    s.cpy.jobs.find? (fun y => y.g == g.val && !y.running) = some j → s.holds (.copyEngine g) = false →
    x + msec (s.get (F.cpeCtlLeaveWait g.val)) ≤ (s.at t).now →
    exec (.copyLeaveWaitExpired g t) s = .next ((((s.at t).withdrawFor (.copyEngine g)).modCpy fun u => { u with
      asked := SMap.del u.asked g.val }).endJob j stRetry dtLeave)) ∧
  (∀ (s : State) (g : Fin 8) (t i : Nat) (x : Slip) (j : CopyJob), j ∈ s.cpy.jobs → j.g = g.val → j.running = true →
    ((s.lvc.slips.filter fun e => e.2.purpose == .copyEngine g).head?) = some (i, x) →
    ((s.at t).renewSlip i).2 = none → exec (.copyLeaveRenew g t) s = .next (((s.at t).renewSlip i).1.set (F.cpeStatPaused g.val) 0)) ∧
  (∀ (s : State) (g : Fin 8) (t : Nat), inCopy g.val ∈ s.flt.reactions → s.lvc.queue = [] →
    ∃ u : State, exec (.copyEngineFailure g t) s = .next u ∧ (∀ j ∈ u.cpy.jobs, j.g ≠ g.val) ∧
    g.val ∈ u.cpy.failed ∧ u.flag (F.cpeStatPaused g.val) = false) ∧
  (∀ (s : State) (src : Sess) (who : Principal) (g : Fin 8), s.serves src who → who.isPilot = true →
    s.reach (F.cpeStatPaused g.val).addr = true →
    (s.flag (F.cpeMgtsubmitBusy g.val) = true → exec (.mgtCopySubmit src g) s = .next (s.acts src fun u => u)) ∧
    (s.flag (F.cpeMgtsubmitBusy g.val) = false → descOk (s.mgtDesc g.val) true = true → exec (.mgtCopySubmit src g) s =
      .next (s.acts src fun u => (u.set (F.cpeMgtsubmitBusy g.val) 1).queueJob g.val 256 0 ((s.mgtDesc g.val).getD 24 0)
        (s.mgtDesc g.val))))

/-- R240, R242, R243, R245, R246: gates. -/
def Obligations.GatesDenyAndRecord : Prop :=
  (∀ (s : State) (n line berth kind source : Nat), s.deniedLines n [line] berth kind = [] →
    s.gateCheck n [line] berth kind source = ([], s)) ∧
  (∀ (c : Chart) (n line berth kind : Nat), c.matchWindow n line = none → c.verdict n line berth kind = some (0x40, 0)) ∧
  (∀ (s : State) (n line berth kind source w why : Nat), n < 1098 → line < 2 ^ 46 → berth < 64 → w ≤ 64 → s.verdict n line berth kind = some (w, why) →
    ∃ u : State, s.gateCheck n [line] berth kind source = ([line], u) ∧ u.chart = s.chart ∧ u.core = s.core ∧ u.home = s.home ∧
      u.sent = s.sent ∧ u.flag (F.gatViolValid n) = true ∧
      (s.flag (F.gatViolValid n) = false → u.get (F.gatViolAddrLo n) = line % 2 ^ 32 ∧ u.get (F.gatViolAddrHi n) = line / 2 ^ 32 ∧
        u.get (F.gatViolBerth n) = berth ∧ u.get (F.gatViolWindow n) = w) ∧
      (s.flag (F.gatViolValid n) = true → u.get (F.gatViolAddrLo n) = s.get (F.gatViolAddrLo n) ∧
        u.get (F.gatViolBerth n) = s.get (F.gatViolBerth n) ∧ u.get (F.gatViolWindow n) = s.get (F.gatViolWindow n)) ∧
      u.get (F.gatViolCount n) = min (s.get (F.gatViolCount n) + 1) (2 ^ (F.gatViolCount n).width - 1) ∧
      (u.get (F.fltAttnPend berth)).testBit atAccess = true ∧ (u.get (F.fltAttnPend audPilot)).testBit atAccess = true) ∧
  (∀ (s : State) (src : Sess) (who : Principal) (n : Fin 1098), s.serves src who → who.isPilot = true →
    s.reach (F.gatViolValid n.val).addr = true →
    exec (.violClear src n) s = .next (s.acts src fun u => u.set (F.gatViolValid n.val) 0) ∧
    exec (.violCountClear src n) s = .next (s.acts src fun u => u.set (F.gatViolCount n.val) 0))

/-- R254 to R258: the Sextant. -/
def Obligations.SextantMeasures : Prop :=
  (∀ (s : State) (l : Fin 2048) (mism t : Nat), s.flag (F.lanModeActive l.val) = true → (s.lane l.val).trial = none →
    l.val ∉ s.lan.sweeping → (s.lane l.val).next + 1 < 64 * s.laneEyes (l.val / 2) →
    ∃ u : State, exec (.sextantPointDone l mism t) s = .next u ∧ (u.lane l.val).next = (s.lane l.val).next + 1 ∧
      ((s.lane l.val).next ∈ (u.lane l.val).failing ↔ s.get (F.sxtCfgTol l.val) < mism) ∧
      (∀ n : Nat, n ≠ (s.lane l.val).next → (n ∈ (u.lane l.val).failing ↔ n ∈ (s.lane l.val).failing)) ∧
      (u.lane l.val).step = (s.lane l.val).step ∧ u.chart = s.chart ∧ u.sent = s.sent ∧ u.nv = s.nv) ∧
  (∀ (s : State) (l : Nat), max (s.get (F.sxtEdgeLeft l)) (s.get (F.sxtEdgeRight l)) <
      min (s.get (F.sxtEdgeLeft l)) (s.get (F.sxtEdgeRight l)) + 16 →
    (s.get (F.sxtThreshTarget l) ≤ s.get (F.sxtFom l) → s.passEnd l = s) ∧
    (s.get (F.sxtFom l) < s.get (F.sxtThreshTarget l) → s.get (F.lanRxeqCtlePeak l) < 8 → s.get (F.lanRxeqCtleRange l) ≠ 0 →
      s.passEnd l = s.startTrial l 0 (s.get (F.lanRxeqCtleRange l)) (s.get (F.lanRxeqCtleRange l) - 1)) ∧
    (s.get (F.sxtFom l) < s.get (F.sxtThreshTarget l) → 8 ≤ s.get (F.lanRxeqCtlePeak l) → s.get (F.lanRxeqCtleRange l) ≠ 3 →
      s.passEnd l = s.startTrial l 0 (s.get (F.lanRxeqCtleRange l)) (s.get (F.lanRxeqCtleRange l) + 1))) ∧
  (∀ (s : State) (p : Fin 1024) (t : Nat), s.flag (F.celLinkstatUp p.val) = false → exec (.fomTick p t) s = .next (s.at t)) ∧
  (∀ (s r : State) (p : Fin 1024) (t l : Nat), r = s.at t → s.flag (F.celLinkstatUp p.val) = true → SMap.getD s.lnk.lanes p.val [] = [l] →
    l ∉ s.lan.sweeping → (s.lane l).reached = false → s.get (F.sxtFom l) < s.get (F.sxtThreshLow l) → l < 2048 →
    s.get (F.fnlWatchcntLowfom p.val) < 255 →
    (s.get (F.fnlWatchcntLowfom p.val) + 1 < s.get (F.fnlLinkctlLowfomMax p.val) →
      exec (.fomTick p t) s = .next ((r.lowEvent p.val l).setLane l { s.lane l with reached := false })) ∧
    (s.get (F.fnlLinkctlLowfomMax p.val) = s.get (F.fnlWatchcntLowfom p.val) + 1 → s.chart.isFnl p.val = true →
      exec (.fomTick p t) s = .next (((r.lowEvent p.val l).setLane l { s.lane l with reached := false }).linkDown p.val 2))) ∧
  (∀ (s : State) (src : Sess) (who : Principal) (l : Fin 2048) (target attn low : Fin 256), s.serves src who → who.isPilot = true →
    s.reach (F.sxtThreshLow l.val).addr = true →
    ((8 ≤ low.val ∧ low.val < attn.val ∧ attn.val ≤ target.val ∧ target.val ≤ 200) →
      exec (.threshWrite src l target attn low) s = .next (s.acts src fun u => ((u.set (F.sxtThreshTarget l.val) target.val).set
        (F.sxtThreshAttn l.val) attn.val).set (F.sxtThreshLow l.val) low.val)) ∧
    (¬ (8 ≤ low.val ∧ low.val < attn.val ∧ attn.val ≤ target.val ∧ target.val ≤ 200) →
      exec (.threshWrite src l target attn low) s = .next ((s.touch src).respond src (cciOf stDenied) stDenied 0 [])))

/-- R252, R254, R265, R266: range changes and trials. -/
def Obligations.RangeChangesAndTrials : Prop :=
  (∀ (s : State) (l : Fin 2048) (t : Nat), s.flag (F.lanModeActive l.val) = true →
    (s.get (F.lanRxeqCtleRange l.val) = 3 → exec (.rangeChangeRequest l false true t) s = .next ((s.at t).set (F.lanRxeqCtlePeak l.val) 15)) ∧
    (s.get (F.lanRxeqCtleRange l.val) = 0 → exec (.rangeChangeRequest l false false t) s = .next ((s.at t).set (F.lanRxeqCtlePeak l.val) 0)) ∧
    (s.get (F.lanRxeqCtleRange l.val) < 3 → exec (.rangeChangeRequest l false true t) s = .next (((s.at t).set (F.lanRxeqCtlePeak l.val)
      15).startTrial l.val 0 (s.get (F.lanRxeqCtleRange l.val)) (s.get (F.lanRxeqCtleRange l.val) + 1)))) ∧
  (∀ (s : State) (l kind old new : Nat), (s.lane l).step = none → (s.lane l).trial = none → kind < 4 → old < 4 → new < 4 →
    ((s.startTrial l kind old new).lane l).trial = some ⟨kind, old, new, s.now, s.now, false, true⟩ ∧
      (s.startTrial l kind old new).get (F.sxtTrialTo l) = new ∧ (s.startTrial l kind old new).get (F.sxtTrialFrom l) = old) ∧
  (∀ (s : State) (l : Fin 2048) (t : Nat) (x : LaneTrial), (s.lane l.val).trial = some x → x.running = false →
    x.start + usec 8 ≤ (s.at t).now → l.val ∉ s.lan.sweeping →
    exec (.trialRetry l t) s = .next ((s.at t).setLane l.val { s.lane l.val with trial := some { x with start := (s.at t).now, running := true } })) ∧
  (∀ (s : State) (l : Fin 2048) (t1 t2 : Fin 256) (push : Bool) (t : Nat) (x : LaneTrial), (s.lane l.val).trial = some x →
    x.running = true →
    (max t1.val t2.val - min t1.val t2.val ≤ s.get (F.sxtRangectlSlopeMax l.val) →
      s.get (F.sxtFom l.val) + s.get (F.sxtRangectlGainMin l.val) ≤ t2.val →
      ∃ u : State, exec (.trialEnd l t1 t2 push t) s = .next u ∧ (u.lane l.val).trial = none ∧
        u.get (F.sxtTrialOutcome l.val) = (if x.deferred then 4 else 1) ∧ u.get (F.sxtTrialT1 l.val) = t1.val ∧
        u.get (F.sxtTrialT2 l.val) = t2.val ∧ ((s.lane l.val).step = none → (u.lane l.val).step = some ⟨x.kind, x.to_, (s.at t).now⟩)) ∧
    (max t1.val t2.val - min t1.val t2.val ≤ s.get (F.sxtRangectlSlopeMax l.val) →
      t2.val < s.get (F.sxtFom l.val) + s.get (F.sxtRangectlGainMin l.val) →
      ∃ u : State, exec (.trialEnd l t1 t2 push t) s = .next u ∧ (u.lane l.val).trial = none ∧ u.get (F.sxtTrialOutcome l.val) = 2 ∧
        (u.lane l.val).step = (s.lane l.val).step ∧ u.sent = s.sent) ∧
    (s.get (F.sxtRangectlSlopeMax l.val) < max t1.val t2.val - min t1.val t2.val → push = false →
      (s.at t).now < x.first + usec (s.get (F.sxtRangectlDeferMax l.val)) →
      ∃ u : State, exec (.trialEnd l t1 t2 push t) s = .next u ∧ (u.lane l.val).trial = some { x with
        start := (s.at t).now, deferred := true, running := false } ∧ u.sent = s.sent))

/-- R260 to R263, R268 to R270, R273: steps, presets, sweeps. -/
def Obligations.StepsAndSweepsComplete : Prop :=
  (∀ (s : State) (p : Fin 1024) (t : Nat), s.flag (F.celLinkstatUp p.val) = true → s.flag (F.lanQwstatReqIn (2 * p.val)) = true →
    s.get (F.lanQwctlLen (2 * p.val)) * 1000000000 ≤ (s.at t).budget p.val →
    ∃ u : State, exec (.quietWindowGrant p t) s = .next u ∧ u.sent = .quietWindow p.val :: s.sent ∧
      u.get (F.lanQwstatReqIn (2 * p.val)) = 0 ∧
      SMap.find? u.lan.budgets p.val = some ((s.at t).budget p.val - s.get (F.lanQwctlLen (2 * p.val)) * 1000000000, (s.at t).now) ∧
      SMap.find? u.lan.windows p.val = some ((s.at t).now + s.get (F.lanQwctlLen (2 * p.val)) * 1000) ∧ u.core = s.core) ∧
  (∀ (s : State) (p : Fin 1024) (t : Nat), (s.at t).budget p.val < s.get (F.lanQwctlLen (2 * p.val)) * 1000000000 →
    exec (.quietWindowGrant p t) s = .next (s.at t)) ∧
  (∀ (s : State) (p : Fin 1024) (t : Nat), s.flag (F.celLinkstatUp p.val) = true → s.chart.isFnl p.val = false →
    ∃ u : State, exec (.naturalGap p t) s = .next u ∧ (∀ i, i < 2 * s.chart.cells p.val → Chart.linkLane p.val i ∉ s.lan.sweeping →
      (u.lane (Chart.linkLane p.val i)).step = none) ∧ u.core = s.core ∧ u.sent = s.sent ∧ u.nv = s.nv) ∧
  (∀ (s r : State) (l : Fin 2048) (t : Nat) (x : LaneStep), r = s.at t → (s.lane l.val).step = some x →
    s.flag (F.celLinkstatUp (s.lanePleat l.val)) = true → l.val ∉ s.lan.sweeping →
    x.since + usec (10 * s.get (F.lanQwctlGapWait (2 * s.lanePleat l.val))) ≤ r.now →
    exec (.suspectStep l t) s = .next (((r.makeStep l.val x).bump (F.lanCalcntSuspectSteps l.val) 1).markSuspect (s.lanePleat l.val))) ∧
  (∀ (s : State) (l : Fin 2048) (a : LaneSettings) (t g w : Nat), s.flag (F.lanModeActive l.val) = true → (s.lane l.val).goodSince = some g →
    g + sec 1 ≤ (s.at t).now → (s.lane l.val).wrote = none → SMap.find? s.lnk.watchAt (s.lanePleat l.val) = some w → w ≤ (s.at t).now →
    SMap.find? s.nv.presets l.val = none →
    ∃ u : State, exec (.presetWrite l a t) s = .next u ∧ SMap.find? u.nv.presets l.val = some (u.presetNow l.val) ∧
      (u.lane l.val).wrote = some (s.at t).now ∧ (∀ k : Nat, k ≠ l.val → SMap.find? u.nv.presets k = SMap.find? s.nv.presets k) ∧
      u.nv.journal = s.nv.journal ∧ u.sent = s.sent) ∧
  (∀ (s : State) (l : Fin 2048) (a : LaneSettings) (t : Nat), (s.lane l.val).goodSince = none →
    ∃ u : State, exec (.presetWrite l a t) s = .next u ∧ u.nv = s.nv ∧ u.lan = s.lan) ∧
  (∀ (s : State) (src : Sess) (who : Principal), s.serves src who → who.isPilot = true →
    (s.flag F.hubSweepBusy = true → exec (.sweepStart src) s = .next (s.acts src fun u => u)) ∧
    (s.flag F.hubSweepBusy = false → s.get F.hubSweepCount ≤ 64 → (s.sweepLanes.filter fun l => s.flag (F.lanModeActive l)) ≠ [] →
      (∀ l ∈ s.sweepLanes, l < 2048) →
      ∃ u : State, exec (.sweepStart src) s = .next (u.done src) ∧ u.flag F.hubSweepBusy = true ∧ u.lan.sweepOn = true ∧
        u.lan.sweeping = (s.sweepLanes.filter fun l => s.flag (F.lanModeActive l)) ∧ u.sent = s.sent)) ∧
  (∀ (s : State) (l : Fin 2048) (ho vo : Fin 257) (eye : Fin 3) (t : Nat), s.lan.sweepOn = true → s.lan.sweeping = [l.val] →
    s.flag (F.lanModeActive l.val) = true → s.lvc.queue = [] →
    ∃ u : State, exec (.sweepLaneDone l ho vo eye t) s = .next u ∧ u.flag F.hubSweepBusy = false ∧ u.flag F.hubSweepDone = true ∧
      u.get (F.sxtSweepresHo l.val) = ho.val ∧ u.get (F.sxtSweepresVo l.val) = vo.val ∧ u.get (F.sxtSweepresEye l.val) = eye.val ∧
      u.flag (F.sxtSweepresValid l.val) = true ∧ u.lan.sweeping = [] ∧ u.lan.sweepOn = false)

/-- R263, R278, R282, R288, R293: receiving. -/
def Obligations.CodewordsComplete : Prop :=
  (∀ (s : State) (p : Fin 1024) (cw : List (Fin 256)) (t : Nat), s.chart.isFnl p.val = false ∨ s.flag (F.celLinkstatUp p.val) = false →
    exec (.codewordReceive p cw t) s = .next (s.at t)) ∧
  (∀ (s r : State) (p : Fin 1024) (cw : List (Fin 256)) (t n : Nat), r = s.at t → s.chart.isFnl p.val = true →
    s.flag (F.celLinkstatUp p.val) = true → SMap.find? s.lan.suspect p.val = some n → 2 ≤ n →
    exec (.codewordReceive p cw t) s = .next ((r.modLan fun u => { u with suspect := SMap.put u.suspect p.val (n - 1) }).nakIf p.val)) ∧
  (∀ (s : State) (p : Fin 1024) (cw : List (Fin 256)) (t : Nat), s.chart.isFnl p.val = true → s.flag (F.celLinkstatUp p.val) = true →
    SMap.find? s.lan.suspect p.val = none → SMap.find? s.lan.asked p.val = none → decodeCodeword (cw.map (·.val)) = none →
    (s.fnl p.val).nakOut = false → (s.fnl p.val).badRun ≠ 1 → (s.fnl p.val).lockRun < 7 → s.get (F.fnlWatchcntUncor p.val) < 255 →
    s.get (F.fnlWatchcntUncor p.val) + 1 < s.get (F.fnlLinkctlUncorMax p.val) →
    ∃ u : State, exec (.codewordReceive p cw t) s = .next u ∧
      u.sent = .nak p.val ((s.get (F.fnlSeqRxNext p.val) + 4095) % 4096) :: s.sent ∧ (u.fnl p.val).nakOut = true ∧
      (u.fnl p.val).badRun = (s.fnl p.val).badRun + 1 ∧ u.get (F.fnlWatchcntUncor p.val) = s.get (F.fnlWatchcntUncor p.val) + 1 ∧
      u.flag (F.celLinkstatUp p.val) = true ∧ u.get (F.fnlSeqRxNext p.val) = s.get (F.fnlSeqRxNext p.val) ∧ u.core = s.core) ∧
  (∀ (s r : State) (p : Fin 1024) (cw : List (Fin 256)) (t : Nat) (w : List Nat), r = s.at t → s.chart.isFnl p.val = true →
    s.flag (F.celLinkstatUp p.val) = true → SMap.find? s.lan.suspect p.val = none → decodeCodeword (cw.map (·.val)) = some (w, 0) →
    (r.goodCw p.val w).get (F.lanQwrcvd (2 * p.val)) = s.get (F.lanQwrcvd (2 * p.val)) →
    exec (.codewordReceive p cw t) s = .next (r.goodCw p.val w)) ∧
  (∀ (s : State) (p : Fin 1024) (cw : List Nat) (h : Nat), h = (cw.take 8).foldr (fun b a => b + 256 * a) 0 →
    s.flag (F.celLinkstatUp p.val) = true → bitsOf h 36 2 = 0 → bitsOf h 62 1 = 0 → bitsOf h 63 1 = 0 → bitsOf h 12 8 = 2 →
    (s.fnl p.val).openData = 1 → bitsOf h 0 12 = s.get (F.fnlSeqRxNext p.val) →
    ∃ u : State, s.goodCw p.val cw = u ∧ u.get (F.fnlSeqRxNext p.val) = (s.get (F.fnlSeqRxNext p.val) + 1) % 4096 ∧
      (u.fnl p.val).openData = 0 ∧ (u.fnl p.val).nakOut = false ∧ (u.fnl p.val).badRun = 0 ∧ u.sent = s.sent ∧ u.core = s.core)

/-- R281, R286, R288 to R290, R309: control codewords and timers. -/
def Obligations.FnlControlsAndTimersComplete : Prop :=
  (∀ (s : State) (p : Fin 1024), s.chart.isFnl p.val = true →
    (∀ b : TrainBlock, s.flag (F.celLinkstatUp p.val) = false → ∃ u : State, exec (.train p b) s = .next u ∧
      (u.fnl p.val).peerPhase = b.phase.val ∧ (u.fnl p.val).peerGood = b.good.val ∧ (u.fnl p.val).peerRx = b.rxNext.val ∧
      (u.fnl p.val).peerResume = b.resumeOk ∧ (u.fnl p.val).peerCredits = b.credits.map (·.val) ∧
      u.get (F.fnlLinkstatPeerId p.val) = b.moduleId.val ∧ u.sent = s.sent ∧ u.core = s.core) ∧
    (∀ b : TrainBlock, s.flag (F.celLinkstatUp p.val) = true → exec (.train p b) s = .next s) ∧
    exec (.resetReq p) s = .next (s.linkDown p.val 7) ∧
    exec (.creditSync p) s = .next (s.emit (.control p.val 4 (s.fnl p.val).returned)) ∧
    (∀ l : List (Fin 65536), exec (.creditTotals p l) s = .next (s.setFnl p.val { takeCredits (s.fnl p.val) (l.map (·.val)) 65536 with
      csyncAt := none })) ∧
    exec (.retire p) s = .next (s.setFnl p.val { s.fnl p.val with retiring := true })) ∧
  (∀ (s : State) (p : Fin 1024), s.chart.isFnl p.val = false → exec (.resetReq p) s = .next s ∧ exec (.creditSync p) s = .next s ∧
    exec (.retire p) s = .next s) ∧
  (∀ (s : State) (p : Fin 1024) (t a : Nat), s.flag (F.celLinkstatUp p.val) = true →
    ((s.fnl p.val).csyncAt = some a → a + usec 1 ≤ (s.at t).now → ∃ u : State, exec (.creditSyncTimeout p t) s = .next u ∧
      u.sent = .control p.val 3 [] :: s.sent ∧ (u.fnl p.val).csyncAt = some (s.at t).now) ∧
    ((s.fnl p.val).nakOut = true → (s.fnl p.val).nakAt + s.replayTimeout p.val ≤ (s.at t).now → ∃ u : State,
      exec (.nakTimeout p t) s = .next u ∧ u.sent = .nak p.val ((s.get (F.fnlSeqRxNext p.val) + 4095) % 4096) :: s.sent ∧
      (u.fnl p.val).nakAt = (s.at t).now) ∧
    (∀ (c : SentCw) (l : List SentCw), (s.fnl p.val).buffer = c :: l → c.sentAt + s.replayTimeout p.val ≤ (s.at t).now →
      ((s.fnl p.val).oldReplays < s.get (F.fnlReplayctlReplayMax p.val) → ∃ u : State, exec (.replayTimeout p t) s = .next u ∧
        u.sent = ((c :: l).map fun x => Emit.codeword p.val x.seq x.msg x.seg x.colour x.poison).reverse ++ s.sent ∧
        (u.fnl p.val).oldReplays = (s.fnl p.val).oldReplays + 1 ∧ (u.fnl p.val).buffer.map (·.seq) = (c :: l).map (·.seq)) ∧
      (s.get (F.fnlReplayctlReplayMax p.val) ≤ (s.fnl p.val).oldReplays →
        exec (.replayTimeout p t) s = .next ((s.at t).linkDown p.val 3)))) ∧
  (∀ (s : State) (p : Fin 1024) (t : Nat), s.flag (F.celLinkstatUp p.val) = false → exec (.creditSyncTimeout p t) s = .next (s.at t) ∧
    exec (.nakTimeout p t) s = .next (s.at t))

/-- R71, R290 to R292, R295: training. -/
def Obligations.TrainingCompletes : Prop :=
  (∀ (s r : State) (p : Fin 1024) (good : Fin 65536) (t : Nat), r = s.at t → s.chart.isFnl p.val = true → s.get (F.fnlLinkstatState p.val) = 1 →
    ((s.fnl p.val).stage = 1 → exec (.fnlTrainingPhase p good t) s = .next (r.setFnl p.val { s.fnl p.val with
      stage := 2, rate := s.startRate p.val })) ∧
    ((s.fnl p.val).stage = 2 → exec (.fnlTrainingPhase p good t) s = .next (r.setFnl p.val { s.fnl p.val with stage := 3 })) ∧
    ((s.fnl p.val).stage = 3 → exec (.fnlTrainingPhase p good t) s = .next (r.setFnl p.val { s.fnl p.val with stage := 4, good := good.val })) ∧
    ((s.fnl p.val).stage = 4 → (∀ (w : Nat) (h : Bool), s.chart.widest p.val (fun i => (s.fnl p.val).good.testBit i &&
        (s.fnl p.val).peerGood.testBit i) = some (w, h) → exec (.fnlTrainingPhase p good t) s =
          .next (r.setFnl p.val { s.fnl p.val with stage := 5, width := w, high := h })) ∧
      (s.chart.widest p.val (fun i => (s.fnl p.val).good.testBit i && (s.fnl p.val).peerGood.testBit i) = none →
        ((s.fnl p.val).rate = 1 → exec (.fnlTrainingPhase p good t) s = .next (r.setFnl p.val { s.fnl p.val with stage := 2, rate := 0 })) ∧
        ((s.fnl p.val).rate = 0 → s.flag (F.celHotplugPresent p.val) = true →
          exec (.fnlTrainingPhase p good t) s = .next (r.retire p.val false))))) ∧
  (∀ (s : State) (p : Fin 1024) (t : Nat), s.chart.isFnl p.val = true → (s.at t).mayTrain p.val = true → (s.fnl p.val).peerPhase = 4 →
    s.get (F.fnlLinkstatState p.val) = 1 → (s.fnl p.val).stage = 5 → s.flag (F.fnlLinkstatGraceOn p.val) = false →
    (s.fnl p.val).width ≤ 2 * s.chart.cells p.val → s.chart.cells p.val ≤ 8 → SMap.find? s.lnk.graceAt p.val = none →
    ∃ u : State, exec (.fnlLinkUp p t) s = .next u ∧ u.flag (F.celLinkstatUp p.val) = true ∧ u.get (F.fnlLinkstatState p.val) = 3 ∧
      u.get (F.fnlSeqTxNext p.val) = 0 ∧ u.get (F.fnlSeqRxNext p.val) = 0 ∧ u.get (F.fnlSeqAcked p.val) = 0xFFF ∧
      u.flag (F.fnlLinkstatResumed p.val) = false ∧ (u.fnl p.val).credits = (s.fnl p.val).peerCredits ∧ (u.fnl p.val).buffer = [] ∧
      ((s.fnl p.val).peerZalhel = true → u.sent = .pbrAdv p.val s.localIds :: s.sent) ∧ ((s.fnl p.val).peerZalhel = false → u.sent = s.sent)) ∧
  (∀ (s : State) (p : Fin 1024) (t a : Nat), s.get (F.fnlLinkstatState p.val) = 2 → SMap.find? s.lnk.resetAt p.val = some a →
    (a + usec 25 ≤ (s.at t).now → exec (.presetResetTimeout p t) s = .next (((s.at t).setFnl p.val { s.fnl p.val with stage := 1 }).set
      (F.fnlLinkstatState p.val) 1)) ∧
    ((s.at t).now < a + usec 25 → exec (.presetResetTimeout p t) s = .next (s.at t)))

/-- R293 to R296, R298 to R301: link-downs. -/
def Obligations.LinkDownsComplete : Prop :=
  (∀ (s : State) (p cause : Nat), s.flag (F.celLinkstatUp p) = false → s.linkDown p cause = s) ∧
  (∀ (s : State) (p : Fin 1024) (cause : Nat), s.flag (F.celLinkstatUp p.val) = true → cause < 16 → hasGrace cause = true →
    s.get (F.fnlLinkctlGrace p.val) ≠ 0 → s.chart.cells p.val ≤ 8 →
    (countsDown cause = true → (s.recentDowns p.val).length + 1 < s.get (F.fnlRetirectlRetireCount p.val)) →
    ∃ u : State, s.linkDown p.val cause = u ∧ u.flag (F.celLinkstatUp p.val) = false ∧ u.get (F.fnlLinkstatLastCause p.val) = cause ∧
      u.flag (F.fnlLinkstatGraceOn p.val) = true ∧ SMap.find? u.lnk.graceAt p.val = some s.now ∧
      (u.get (F.fnlLinkstatState p.val) = 1 ∨ u.get (F.fnlLinkstatState p.val) = 2) ∧
      (u.get (F.fltAttnPend audPilot)).testBit atLink = true ∧ u.core = s.core ∧ u.home = s.home ∧ u.chart = s.chart ∧ u.nv = s.nv) ∧
  (∀ (s : State) (p : Fin 1024) (t : Nat), (s.chart.isFnl p.val = true → exec (.lossOfSignal p t) s = .next ((s.at t).linkDown p.val 8)) ∧
    (s.chart.isFnl p.val = false → exec (.lossOfSignal p t) s = .next (s.at t)) ∧
    (s.chart.isUsp p.val = true → exec (.cxlDataLinkDown p t) s = .next ((s.at t).linkDown p.val 0xE)) ∧
    (s.chart.isDsp p.val = true → exec (.cxlDataLinkDown p t) s = .next ((s.at t).linkDown p.val 0xE))) ∧
  (∀ (s : State) (p : Fin 1024) (t a : Nat), SMap.find? s.lnk.watchAt p.val = some a →
    a + usec (100 * s.get (F.fnlLinkctlWatch p.val)) ≤ (s.at t).now →
    ∃ u : State, exec (.watchEnd p t) s = .next u ∧ u.get (F.fnlWatchcntUncor p.val) = 0 ∧ u.get (F.fnlWatchcntLowfom p.val) = 0 ∧
      SMap.find? u.lnk.watchAt p.val = some (s.at t).now ∧ u.core = s.core ∧ u.sent = s.sent) ∧
  (∀ (s : State) (p : Fin 1024) (t a : Nat), SMap.find? s.lnk.graceAt p.val = some a →
    (a + usec (100 * s.get (F.fnlLinkctlGrace p.val)) ≤ (s.at t).now → exec (.graceExpired p t) s = .next ((s.at t).flush p.val)) ∧
    ((s.at t).now < a + usec (100 * s.get (F.fnlLinkctlGrace p.val)) → exec (.graceExpired p t) s = .next (s.at t))) ∧
  (∀ (s : State) (src : Sess) (who : Principal) (p : Fin 1024), s.serves src who → who.isPilot = true →
    s.reach (F.fnlRetirectlReset p.val).addr = true →
    (s.get (F.fnlLinkstatState (s.chart.lead p.val)) = 4 → exec (.linkResetCommand src p) s =
      .next ((s.touch src).respond src (cciOf stDenied) stDenied 0 [])) ∧
    (s.get (F.fnlLinkstatState (s.chart.lead p.val)) ≠ 4 → exec (.linkResetCommand src p) s =
      .next (s.acts src fun u => u.linkDown (s.chart.lead p.val) 9)) ∧
    (s.get (F.fnlLinkstatState (s.chart.lead p.val)) ≠ 4 → exec (.linkUnretire src p) s = .next (s.acts src fun u => u)) ∧
    (s.get (F.fnlLinkstatState (s.chart.lead p.val)) = 4 → (s.chart.lead p.val) < 1024 →
      ∃ u : State, exec (.linkUnretire src p) s = .next (u.done src) ∧ u.get (F.fnlLinkstatState (s.chart.lead p.val)) ≠ 4 ∧
        s.chart.lead p.val ∉ u.nv.linkRetired ∧ u.get (F.fnlLinkstatLinkdowns (s.chart.lead p.val)) = 0)) ∧
  (∀ (s : State) (p : Fin 1024) (t : Nat), s.flag (F.celLinkstatUp p.val) = true → s.chart.isFnl p.val = false →
    ∃ u : State, exec (.cxlReplayTimeout p false t) s = .next u ∧ u.sent = .cxlReplay p.val :: s.sent ∧ u.core = s.core) ∧
  (∀ (s : State) (p : Fin 1024) (t : Nat), ∃ u : State, exec (.linkDownLeavesWindow p t) s = .next u ∧
    u.get (F.fnlLinkstatLinkdowns p.val) = min 15 ((s.at t).recentDowns p.val).length ∧
    SMap.getD u.lnk.downs p.val [] = (s.at t).recentDowns p.val ∧ u.core = s.core ∧ u.sent = s.sent)

/-- R314, R316 to R321: the collector tree. A sash copy that fails: log entry 143. -/
def Obligations.CollectorEventsComplete : Prop :=
  (∀ (s : State) (c : Collector) (i : Fin 32) (cls : FaultClass), i.val < colInputs (colNum c) →
    exec (.errorLineEvent c [(i, cls)]) s = .next (s.report (colNum c) i.val (clsNum cls))) ∧
  (∀ (s : State) (c i cls : Nat), s.inputMode c i ≠ 3 → s.report c i cls = s.setBit (F.colSsw (colBase c)) i) ∧
  (∀ (s : State) (c i cls : Nat), s.inputMode c i = 3 → (s.get (F.colWiring (colBase c))).testBit i = true → s.report c i cls = s) ∧
  (∀ (s : State) (i : Nat), i < 20 → s.inputMode hubCol i = 3 → (s.get (F.colWiring (colBase hubCol))).testBit i = false →
    s.flag (F.colFirstValid (colBase hubCol)) = false →
    ∃ u : State, s.report hubCol i 1 = u ∧ u.flag (F.colFirstValid (colBase hubCol)) = true ∧ u.get (F.colFirstSrc (colBase hubCol)) = i ∧
      u.get (F.colFirstClass (colBase hubCol)) = 1 ∧ u.get (F.colFirstTime (colBase hubCol)) = s.usSinceReset ∧
      u.get (F.colCountC1 (colBase hubCol)) = min (s.get (F.colCountC1 (colBase hubCol)) + 1) (2 ^ (F.colCountC1 (colBase hubCol)).width - 1) ∧
      u.flt = s.flt ∧ u.core = s.core ∧ u.sent = s.sent) ∧
  (∀ (s : State) (c : Collector) (i : Fin 32), i.val < colInputs (colNum c) →
    (s.inputMode (colNum c) i.val = 3 → (s.get (F.colWiring (colBase (colNum c)))).testBit i.val = false →
      exec (.wiringFault c i) s = .next (((s.setBit (F.colWiring (colBase (colNum c))) i.val).modFlt fun u => { u with
        quiet := SMap.del u.quiet (32 * colNum c + i.val) }).raise atNotice [audHelm, audPilot])) ∧
    (s.inputMode (colNum c) i.val ≠ 3 → exec (.wiringFault c i) s = .next s) ∧
    (s.inputMode (colNum c) i.val ≠ 3 → (s.get (F.colSsw (colBase (colNum c)))).testBit i.val = false →
      exec (.inputServiceEntry c i) s = .next (s.setMode (colNum c) i.val 3)) ∧
    (s.inputMode (colNum c) i.val ≠ 3 → (s.get (F.colSsw (colBase (colNum c)))).testBit i.val = true →
      (colNum c ≠ hubCol ∨ holdsReset i.val = false) →
      exec (.inputServiceEntry c i) s = .next ((s.setMode (colNum c) i.val 3).report (colNum c) i.val 2)) ∧
    (s.inputMode (colNum c) i.val ≠ 3 → exec (.inputServiceTimeout c i) s =
      .next ((s.setMode (colNum c) i.val 3).wiringFault (colNum c) i.val)) ∧
    (s.inputMode (colNum c) i.val = 3 → exec (.inputServiceTimeout c i) s = .next s)) ∧
  (∀ (s : State) (c : Collector) (i : Fin 32) (t : Nat), (s.get (F.colWiring (colBase (colNum c)))).testBit i.val = true →
    SMap.find? s.flt.quiet (32 * colNum c + i.val) = none →
    ∃ u : State, exec (.wiringPoll c i [] true t) s = .next u ∧ SMap.find? u.flt.quiet (32 * colNum c + i.val) = some (s.at t).now ∧
      u.regs = s.regs ∧ u.sent = s.sent) ∧
  (∀ (s : State) (src : Sess) (who : Principal) (c : Collector) (i : Fin 32), s.serves src who → who.isPilot = true →
    s.reach (colBase (colNum c)) = true →
    (∀ q : Nat, SMap.find? s.flt.quiet (32 * colNum c + i.val) = some q →
      (q + msec 1 ≤ s.now → exec (.wiringRearm src c i) s = .next (s.acts src fun u => (u.clearBit (F.colWiring (colBase (colNum c)))
        i.val).modFlt fun f => { f with quiet := SMap.del f.quiet (32 * colNum c + i.val) })) ∧
      (s.now < q + msec 1 → exec (.wiringRearm src c i) s = .next (s.acts src fun u => u))) ∧
    ∃ u : State, exec (.firstRecordClear src c) s = .next (u.done src) ∧ u.flag (F.colFirstValid (colBase (colNum c))) = false ∧
      u.flag (F.colFirstOverflow (colBase (colNum c))) = false ∧ u.get (F.colPending (colBase (colNum c))) = 0 ∧ u.sent = s.sent)

/-- R322 to R324, R336: entry to the safe state. -/
def Obligations.SafeStateEntryAndRecord : Prop :=
  (∀ (s : State) (src : Sess) (who : Principal), s.serves src who → who.isHelm = true →
    exec (.safeEnter src) s = .next (s.acts src fun u => u.enterSafe 3 hubCol 0x1E)) ∧
  (∀ (s : State) (src : Sess) (who : Principal), s.serves src who → who.isHelm = false →
    exec (.safeEnter src) s = .next ((s.touch src).respond src .invalidSecurity stDenied 0 [])) ∧
  (∀ (s : State) (c : Collector), exec (.collectorSelfFault c false) s =
    .next ((s.set (F.colColstatSelfFault (colBase (colNum c))) 1).enterSafe 2 (colNum c) 0x1F)) ∧
  (∀ (s : State) (cause c src : Nat), s.safeOn = true → s.enterSafe cause c src = s.bump F.fltSafeLater 1) ∧
  (∀ (s : State) (cause src : Nat) (c : Collector), s.safeOn = false → cause < 8 → src < 32 → s.cpy.jobs = [] → s.lvc.queue = [] →
    s.lvc.slips = [] → s.ecc.scrubs = [] →
    ∃ u : State, s.enterSafe cause (colNum c) src = u ∧ u.get F.fltSafeState = 1 ∧ u.get F.fltSafeCause = cause ∧
      u.get F.fltLastfatalCause = cause ∧ u.get F.fltLastfatalSrc = src ∧ u.get F.fltLastfatalInstance = colInstance (colNum c) ∧
      u.flag F.fltLastfatalValid = true ∧ u.flt.safeAt = s.now ∧ (∀ a : Fin 66, (u.get (F.fltAttnPend a.val)).testBit atSafe = true) ∧
      u.lod.parked = [] ∧ u.core = s.core ∧ u.chart = s.chart ∧ u.nv = s.nv ∧ u.sent = s.sent ∧
      (∀ e ∈ u.sessions, e.2.path.inBand = false))

/-- R318, R328, R331, R332, R335. -/
def Obligations.AttentionAndInjection : Prop :=
  (∀ (s : State) (t : Nat), s.flt.c0Start + sec 1 ≤ (s.at t).now → ∃ u : State, exec (.c0WindowEnd t) s = .next u ∧
    u.get F.fltC0win = 0 ∧ u.flt.c0Raised = false ∧ u.flt.c0Start = (s.at t).now ∧ u.sent = s.sent) ∧
  (∀ (s : State) (t : Nat), (s.at t).now < s.flt.c0Start + sec 1 → exec (.c0WindowEnd t) s = .next (s.at t)) ∧
  (∀ (s : State) (src : Sess) (who : Principal) (a : Fin 66) (mask : Fin 65536), s.serves src who → who ≠ .unclaimed →
    who.audience = a.val →
    (s.get (F.fltAttnAckSeq a.val) = s.get (F.fltAttnSeq a.val) → s.safeOn = false → s.get (F.fltAttnPend a.val) < 65536 →
      ∃ u : State, exec (.attentionAck src a mask) s = .next (u.done src) ∧
        (∀ k, k < 16 → ((u.get (F.fltAttnPend a.val)).testBit k = ((s.get (F.fltAttnPend a.val)).testBit k && !mask.val.testBit k))) ∧
        u.get (F.fltAttnStale a.val) = 0 ∧ u.get (F.fltAttnSeq a.val) = s.get (F.fltAttnSeq a.val)) ∧
    (s.get (F.fltAttnAckSeq a.val) ≠ s.get (F.fltAttnSeq a.val) →
      exec (.attentionAck src a mask) s = .next (s.acts src fun u => u.set (F.fltAttnStale a.val) 1))) ∧
  (∀ (s : State) (src : Sess) (who : Principal) (a : Fin 66) (mask : Fin 65536), s.serves src who → who.audience ≠ a.val →
    exec (.attentionAck src a mask) s = .next ((s.touch src).respond src .invalidSecurity stDenied 0 [])) ∧
  (∀ (s : State) (src : Sess) (who : Principal) (c : Collector) (i : Fin 32) (cls : FaultClass), s.serves src who → who.isHelm = true →
    s.reach (colBase (colNum c)) = true → i.val < colInputs (colNum c) →
    exec (.faultInject src c i cls) s = .next (s.acts src fun u => (u.lineEvent 4 (colNum c) i.val (clsNum cls) (colNum c) i.val 4).sashFault (colNum c))) ∧
  (∀ (s : State) (src : Sess) (who : Principal) (c : Collector) (i : Fin 32) (b : Bool), s.serves src who → who.isHelm = true →
    (s.testable (colNum c) i.val = true → i.val < colInputs (colNum c) →
      exec (.builtInSelfTest src c i b false) s = .next (s.acts src fun u => u.setMode (colNum c) i.val 1)) ∧
    (s.testable (colNum c) i.val = false → exec (.builtInSelfTest src c i b false) s =
      .next ((s.touch src).respond src (cciOf stDenied) stDenied 0 []))) ∧
  (∀ (s : State) (src : Sess) (c : Collector) (i : Fin 32), s.inputMode (colNum c) i.val = 1 →
    ∃ u : State, exec (.builtInSelfTest src c i true true) s = .next u ∧ (u.get (F.colSsw (colBase (colNum c)))).testBit i.val = true ∧
      u.inputMode (colNum c) i.val ≠ 1 ∧ u.inputMode (colNum c) i.val ≠ 3)

/-- R341, R343 to R346, R350, R351, R353, R356: stored data. -/
def Obligations.StoredDataComplete : Prop :=
  (∀ (s : State) (u : Fin 9) (p : ErrPlace) (after : Bool) (w : Spoiled) (t : Nat),
    (placeIn u.val p = true → s.unitOn u.val = true →
      exec (.correctableError u p after t) s = .next ((s.at t).handleError u.val ⟨p, none, after⟩ false) ∧
      exec (.uncorrectableError u p w after t) s = .next ((s.at t).handleError u.val ⟨p, some w, after⟩ false)) ∧
    (placeIn u.val p = false ∨ s.unitOn u.val = false → exec (.correctableError u p after t) s = .next (s.at t) ∧
      exec (.uncorrectableError u p w after t) s = .next (s.at t))) ∧
  (∀ (s : State) (src : Sess) (who : Principal) (u : Fin 9), s.serves src who → who.isOwner = true → s.reach (eccBase u.val) = true →
    (s.flag (F.eccScrubBusy (eccBase u.val)) = true → exec (.scrubStart src u) s = .next (s.acts src fun x => x)) ∧
    (s.flag (F.eccScrubBusy (eccBase u.val)) = false → s.unitOn u.val = true →
      (s.get (F.eccScrubTarget (eccBase u.val)) = 0x3F → u.val ≠ 8 ∧ u.val ∉ s.home.lostStacks) →
      ∃ v : State, exec (.scrubStart src u) s = .next (v.done src) ∧ v.get (F.eccScrubsumCe (eccBase u.val)) = 0 ∧
        v.get (F.eccScrubsumUe (eccBase u.val)) = 0 ∧ (v.flag (F.eccScrubLeaveRefused (eccBase u.val)) = true ∨
          (v.flag (F.eccScrubBusy (eccBase u.val)) = true ∧ ∃ j : ScrubJob, SMap.find? v.ecc.scrubs u.val = some j ∧ j.begun = false ∧
            j.target = s.get (F.eccScrubTarget (eccBase u.val)))))) ∧
  (∀ (s : State) (u : Fin 9) (t : Nat) (j : ScrubJob), SMap.find? s.ecc.scrubs u.val = some j → j.granted = true →
    s.flag (F.eccScrubPaused (eccBase u.val)) = false → (j.target = 0x3F → j.next ≤ j.last) →
    ∃ v : State, exec (.scrubRead u [] t) s = .next v ∧ SMap.find? v.ecc.scrubs u.val = some { j with begun := true, next := j.next + 1 } ∧
      v.regs = s.regs ∧ v.sent = s.sent) ∧
  (∀ (s : State) (u : Fin 9) (t : Nat) (j : ScrubJob), SMap.find? s.ecc.scrubs u.val = some j →
    (j.granted = false ∨ s.flag (F.eccScrubPaused (eccBase u.val)) = true) → ∀ found : List MemError,
    exec (.scrubRead u found t) s = .next (s.at t)) ∧
  (∀ (s : State) (u : Fin 9) (t i : Nat) (x : Slip) (j : ScrubJob), SMap.find? s.ecc.scrubs u.val = some j → j.granted = true →
    ((s.lvc.slips.filter fun e => e.2.purpose == .scrub u).head?) = some (i, x) → ((s.at t).renewSlip i).2 = none →
    exec (.scrubLeaveRenew u t) s = .next (((s.at t).renewSlip i).1.set (F.eccScrubPaused (eccBase u.val)) 0)) ∧
  (∀ (s : State) (u : Fin 9) (t : Nat) (j : ScrubJob), SMap.find? s.ecc.scrubs u.val = some j → j.granted = true →
    (j.target = 0x3F → j.last < j.next) → s.lvc.queue = [] →
    ∃ v : State, exec (.scrubDone u t) s = .next v ∧ SMap.find? v.ecc.scrubs u.val = none ∧
      v.flag (F.eccScrubBusy (eccBase u.val)) = false ∧ v.flag (F.eccScrubDone (eccBase u.val)) = true ∧ v.sent = s.sent) ∧
  (∀ (s : State) (src : Sess) (who : Principal), s.serves src who → who.isHelm = true →
    (s.flag F.eccFusecmdBusy = true → exec (.fuseBurn src) s = .next (s.acts src fun x => x)) ∧
    (s.flag F.eccFusecmdBusy = false → s.get F.eccFusecmdInstance ≤ 8 →
      s.get (F.eccRepairqState (eccBase (s.get F.eccFusecmdInstance)) (s.get F.eccFusecmdEntry)) = 2 →
      ∃ v : State, exec (.fuseBurn src) s = .next (v.done src) ∧ v.flag F.eccFusecmdBusy = true ∧ v.ecc.burning.isSome = true ∧
        v.nv = s.nv)) ∧
  (∀ (s : State) (t u e key : Nat), s.ecc.burning = some (u, e, key) → u ≤ 8 → e < 16 →
    s.get (F.eccRepairqState (eccBase u) e) = 2 →
    (∃ v : State, exec (.fuseBurnDone true t) s = .next v ∧ v.flag F.eccFusecmdBusy = false ∧ v.flag F.eccFusecmdDone = true ∧
      v.get (F.eccRepairqState (eccBase u) e) = 3 ∧ SMap.find? v.nv.softRepairs key = none ∧ SMap.find? v.nv.fuseMap key = some 1 ∧
      v.ecc.burning = none) ∧
    (∃ v : State, exec (.fuseBurnDone false t) s = .next v ∧ v.flag F.eccFusecmdBusy = false ∧ v.flag F.eccFusecmdFailed = true ∧
      v.nv = s.nv ∧ v.ecc.burning = none)) ∧
  (∀ (s : State) (g : Fin 8) (e : Fin 16) (t : Nat), s.get (F.eccRepairqState (eccBase g.val) e.val) ≠ 4 →
    exec (.boltRowRetire g e t) s = .next (s.at t)) ∧
  (∀ (s : State) (g : Fin 8) (e : Fin 16) (t key : Nat), s.get (F.eccRepairqState (eccBase g.val) e.val) = 4 →
    s.get (F.eccRepairqKind (eccBase g.val) e.val) = 0 → s.get (F.eccRepairqGroup (eccBase g.val) e.val) < 16 → 2 ≤ s.freePool g.val →
    s.rowFree g.val (s.get (F.eccRepairqGroup (eccBase g.val) e.val)) (s.get (F.eccRepairqMacro (eccBase g.val) e.val))
      (s.get (F.eccRepairqIndex (eccBase g.val) e.val)) = true →
    key = repairKey g.val 0 (s.get (F.eccRepairqGroup (eccBase g.val) e.val)) (s.get (F.eccRepairqMacro (eccBase g.val) e.val))
      (s.get (F.eccRepairqIndex (eccBase g.val) e.val)) → key ∉ s.ecc.rowsOut →
    exec (.boltRowRetire g e t) s = .next (((s.at t).set (F.rgnBoltcapCapacity g.val) (s.get (F.rgnBoltcapCapacity g.val) - 2)).modEcc fun x =>
      { x with rowsOut := x.rowsOut ++ [key] }))

/-- R358 to R364, R383: feeds. -/
def Obligations.FeedsComplete : Prop :=
  (∀ (s : State) (f : Fin 2) (t : Nat), exec (.oringReverse f t) s = .next ((s.at t).oringOff f.val)) ∧
  (∀ (s : State) (f : Fin 2) (v : Fin 1001) (t : Nat), s.feed f.val = fsAbsent → 350 < v.val →
    ∃ u : State, exec (.feedPresent f v t) s = .next u ∧ u.feed f.val = fsQualify ∧ u.get (F.pwrFeedmeasVin f.val) = v.val ∧
      (u.feedTimer f.val).since = (s.at t).now ∧ u.sent = s.sent) ∧
  (∀ (s : State) (f : Fin 2) (v : Fin 1001) (t : Nat), s.feed f.val = fsQualify → v.val ≤ 350 →
    ∃ u : State, exec (.feedLeavesRange f v t) s = .next u ∧ u.feed f.val = fsAbsent ∧ u.sent = s.sent) ∧
  (∀ (s : State) (f : Fin 2) (t : Nat), s.feed f.val = fsQualify → (s.at t).mayStart f.val = true →
    (s.feedTimer f.val).since + msec (10 * s.get (F.pwrFeedctlQual f.val)) ≤ (s.at t).now →
    exec (.feedQualified f t) s = .next (((s.at t).toFeed f.val fsStart).bump (F.pwrFeedcntStarts f.val) 1)) ∧
  (∀ (s : State) (f : Fin 2) (t : Nat), s.feed f.val = fsStart → s.pwr.feedA.qualified = false → s.pwr.feedB.qualified = false →
    ¬ (s.get F.rstStatPhase = 0 ∧ s.get F.rstCauseSource = 3) →
    ∃ u : State, exec (.feedPowerGood f t) s = .next u ∧ u.feed f.val = fsOn ∧ u.flag (F.pwrFeedstatPg f.val) = true ∧
      u.flag (F.pwrFeedstatOringOn f.val) = true ∧ u.feed (1 - f.val) = s.feed (1 - f.val)) ∧
  (∀ (s : State) (f : Fin 2) (v : Fin 330) (t : Nat), s.feedIn f.val [fsStart, fsOn, fsLimit] = true → s.riding = false →
    ∃ u : State, exec (.feedUndervoltage f v t) s = .next u ∧ u.feed f.val = fsAbsent ∧ u.get (F.pwrFeedstatLastTrip f.val) = 6 ∧
      u.flag (F.pwrFeedstatOringOn f.val) = false ∧ u.flag (F.pwrFeedstatPg f.val) = false) ∧
  (∀ (s : State) (f : Fin 2) (t : Nat), s.feedIn f.val [fsStart, fsOn, fsLimit] = true →
    exec (.feedOvervoltageLong f t) s = .next ((s.at t).tripFeed f.val 5) ∧
    exec (.feedOvervoltageFast f t) s = .next ((s.at t).tripFeed f.val 4) ∧ exec (.feedFastTrip f t) s = .next ((s.at t).tripFeed f.val 2)) ∧
  (∀ (s : State) (f : Fin 2) (t : Nat), (s.feed f.val = fsOn → exec (.feedLimitEnter f t) s = .next ((s.at t).toFeed f.val fsLimit)) ∧
    (s.feed f.val = fsLimit → exec (.feedLimitExit f t) s = .next ((s.at t).toFeed f.val fsOn)) ∧
    (s.feed f.val = fsLimit → (s.feedTimer f.val).since + usec (100 * s.get (F.pwrFeedctlOcTime f.val)) ≤ (s.at t).now →
      exec (.feedOcTrip f t) s = .next ((s.at t).tripFeed f.val 1)) ∧
    (s.feed f.val = fsStart → (s.feedTimer f.val).since + msec (10 * s.get (F.pwrFeedctlStartTime f.val)) ≤ (s.at t).now →
      exec (.feedStartTimeout f t) s = .next ((s.at t).tripFeed f.val 3)) ∧
    (s.feed f.val = fsWaitRetry → (s.feedTimer f.val).since + msec (100 * s.get (F.pwrFeedctlRetryInt f.val)) ≤ (s.at t).now →
      exec (.feedRetry f t) s = .next ((s.at t).tryStart f.val)) ∧
    (s.feed f.val = fsOn → (s.feedTimer f.val).since + sec 60 ≤ (s.at t).now →
      exec (.feedTripCountClear f t) s = .next ((s.at t).set (F.pwrFeedstatRetryCount f.val) 0))) ∧
  (∀ (s : State) (f : Fin 2) (cause : Nat), cause < 8 → s.inputMode hubCol 15 = 3 → (s.get (F.colWiring (colBase hubCol))).testBit 15 = false →
    s.get (F.pwrFeedstatRetryCount f.val) < s.get (F.pwrFeedctlRetries f.val) →
    ∃ u : State, s.tripFeed f.val cause = u ∧ u.feed f.val = fsWaitRetry ∧ u.get (F.pwrFeedstatLastTrip f.val) = cause ∧
      u.flag (F.pwrFeedstatTripped f.val) = true ∧ u.flag (F.pwrFeedstatOringOn f.val) = false ∧
      (u.feedTimer f.val).since = s.now ∧ (u.get (F.fltAttnPend audHelm)).testBit atPower = true ∧ u.feed (1 - f.val) = s.feed (1 - f.val)) ∧
  (∀ (s : State) (f : Fin 2) (t : Nat), s.feed f.val = fsStart → (s.feedTimer f.val).since + msec 2 ≤ (s.at t).now →
    s.inputMode hubCol 15 = 3 → (s.get (F.colWiring (colBase hubCol))).testBit 15 = false →
    ∃ u : State, exec (.gateCheckFailure f t) s = .next u ∧ u.feed f.val = fsRetired ∧ f.val ∈ u.nv.feedRetired ∧
      u.get (F.pwrFeedstatLastTrip f.val) = 7) ∧
  (∀ (s : State) (src : Sess) (who : Principal) (f : Fin 2), s.serves src who → who.isHelm = true →
    (s.feed f.val = fsLatched → exec (.feedRelease src f) s = .next (s.acts src fun u => ((u.toFeed f.val fsAbsent).set
      (F.pwrFeedstatRetryCount f.val) 0).settleFeed f.val)) ∧
    (s.feed f.val ≠ fsLatched → exec (.feedRelease src f) s = .next (s.acts src fun u => u)) ∧
    (s.feed f.val = fsRetired → exec (.feedUnretire src f) s = .next (s.acts src fun u => ((u.toFeed f.val fsAbsent).modNv fun n => { n with
      feedRetired := n.feedRetired.filter (· != f.val) }).settleFeed f.val)) ∧
    exec (.inputPeakClear src) s = .next (s.acts src fun u => u.set F.pwrInputPPeak 0) ∧
    (s.ldoSlipOk (s.get F.pwrLdoSlip) = true → exec (.ldoGoFull src) s = .next (s.acts src fun u => u.set F.pwrLdoMode 1)) ∧
    (s.ldoSlipOk (s.get F.pwrLdoSlip) = false → exec (.ldoGoFull src) s =
      .next ((s.touch src).respond src (cciOf stDenied) stDenied 0 []))) ∧
  (∀ (s : State) (f : Fin 2) (t : Nat), s.feed f.val = fsAbsent →
    exec (.feedFastTrip f t) s = .next (s.at t) ∧ exec (.feedQualified f t) s = .next (s.at t) ∧
    exec (.feedPowerGood f t) s = .next (s.at t) ∧ exec (.feedRetry f t) s = .next (s.at t) ∧
    exec (.gateCheckFailure f t) s = .next (s.at t) ∧ exec (.feedOcTrip f t) s = .next (s.at t))

/-- R362, R366 to R369, R373, R376, R382, R384, R385: the rest of the power stage. -/
def Obligations.StoreAndRailsComplete : Prop :=
  (∀ (s : State) (c : Fin 16384), ∃ u : State, exec (.bulkCapMeasure c) s = .next u ∧ u.get F.pwrBulkCapMeas = c.val ∧
    u.flag F.pwrBulkMeasured = true ∧ (u.flag F.pwrBulkCapLow = decide (c.val < 5600)) ∧
    (c.val < 5600 → (u.get (F.fltAttnPend audHelm)).testBit atPower = true) ∧ u.sent = s.sent) ∧
  (∀ (s : State) (v : Fin 1001) (t : Nat), s.get (F.pwrFeedstatOringOn 0) = 0 → s.get (F.pwrFeedstatOringOn 1) = 0 →
    s.pwr.oringOff + usec 2 ≤ (s.at t).now → s.riding = false → s.shed = false →
    ∃ u : State, exec (.rideThroughStart v t) s = .next u ∧ u.riding = true ∧ u.get F.pwrBusVbus = v.val ∧ u.pwr.rideStart = (s.at t).now ∧
      u.sent = s.sent) ∧
  (∀ (s : State) (f : Fin 2) (t : Nat), s.riding = true → s.shed = false → (s.at t).now ≤ s.pwr.rideStart + s.shedDelay → s.lvc.queue = [] →
    ∃ u : State, exec (.rideThroughEnd f t) s = .next u ∧ u.riding = false ∧ u.flag (F.pwrFeedstatOringOn f.val) = true ∧
      (u.get (F.fltAttnPend audHelm)).testBit atPower = true ∧ u.shed = false) ∧
  (∀ (s : State) (t : Nat), s.riding = false → exec (.dataPlaneShed t) s = .next (s.at t)) ∧
  (∀ (s : State) (t : Nat), s.riding = true → s.shed = false → s.get (F.pwrFeedstatOringOn 0) = 0 → s.get (F.pwrFeedstatOringOn 1) = 0 →
    s.pwr.rideStart + s.shedDelay ≤ (s.at t).now → s.lvc.slips = [] → s.lvc.queue = [] → s.cpy.jobs = [] → s.ecc.scrubs = [] →
    exec (.dataPlaneShed t) s = .next ((((s.at t).set F.pwrRideShed 1).set F.pwrRideSaveDone 0).modPwr fun u => { u with shedPhase := 1 })) ∧
  (∀ (s : State) (r : Fin 26), (s.flag (F.pwrRailFrozen r.val) = true → exec (.avsAckTimeout r) s = .next s) ∧
    (s.flag (F.pwrRailFrozen r.val) = false → s.inputMode hubCol 15 = 3 → (s.get (F.colWiring (colBase hubCol))).testBit 15 = false →
      min (s.get (F.pwrRailTimeouts r.val) + 1) (2 ^ (F.pwrRailTimeouts r.val).width - 1) < s.get F.pwrAvsctlFailMax →
      ∃ u : State, exec (.avsAckTimeout r) s = .next u ∧ u.sent = .avsResend r.val :: s.sent ∧
        u.get (F.pwrRailTimeouts r.val) = min (s.get (F.pwrRailTimeouts r.val) + 1) (2 ^ (F.pwrRailTimeouts r.val).width - 1) ∧
        u.flag (F.pwrRailFrozen r.val) = false)) ∧
  (∀ (s : State) (x : RailReading) (m : InputMeas) (t : Nat), s.flag (F.pwrRailFrozen x.rail.val) = false →
    ∃ u : State, exec (.railPoll [x] m t) s = .next u ∧ u.get (F.pwrRailVmeas x.rail.val) = min x.mv 4095 ∧
      u.get (F.pwrRailTimeouts x.rail.val) = 0 ∧ u.get F.pwrBusVbus = min m.vbus 2047 ∧ u.get F.pwrInputPNow = min m.pNow 4095 ∧
      u.get F.pwrInputPPeak = max (s.get F.pwrInputPPeak) (min m.pNow 4095) % 4096 ∧ u.sent = s.sent) ∧
  (∀ (s : State) (t : Nat), s.lvc.saveSlip = none → (∀ e ∈ s.lvc.slips, e.2.kind = 11 → e.2.extended = true) → s.lvc.queue = [] →
    ∃ u : State, exec (.ldoReturnLow t) s = .next u ∧ u.get F.pwrLdoMode = 0 ∧ u.get F.pwrLdoOverstay = 0 ∧
      (∀ e ∈ u.lvc.slips, e.2.kind ≠ 11) ∧ u.sent = s.sent) ∧
  (∀ (s : State) (f : Fin 2) (v : Fin 1001) (t : Nat), s.feed f.val = fsLatched → v.val ≤ 350 →
    ∃ u : State, exec (.feedCycled f v t) s = .next u ∧ u.feed f.val = fsAbsent ∧ u.get (F.pwrFeedstatRetryCount f.val) = 0 ∧ u.sent = s.sent)

/-- R377 to R379, R381: leave. -/
def Obligations.LeaveCommandsComplete : Prop :=
  (∀ (s : State) (q : Purpose) (t : Nat), s.hasLeave q = true → exec (.leaveRequest q t) s = .next (s.at t)) ∧
  (∀ (s r : State) (q : Purpose) (t : Nat), r = s.at t → s.hasLeave q = false →
    (r.decideLeave (r.leaveFigures q) none = .grant → exec (.leaveRequest q t) s = .next (r.grantLeave (r.leaveFigures q))) ∧
    (∀ why : Nat, r.decideLeave (r.leaveFigures q) none = .refuse why →
      exec (.leaveRequest q t) s = .next (r.refuseLeave (r.leaveFigures q).purpose why)) ∧
    (∀ why : Nat, r.decideLeave (r.leaveFigures q) none = .defer why → s.lvc.queue.length < 32 →
      ∃ u : State, exec (.leaveRequest q t) s = .next u ∧ u.lvc.queue = s.lvc.queue ++ [r.leaveFigures q] ∧ u.lvc.slips = s.lvc.slips ∧
        u.chart = s.chart ∧ u.sent = s.sent)) ∧
  (∀ (s : State) (q : LeaveReq), q.kind ≠ 10 → (∃ g : Fin 8, q.purpose = .copyEngine g) →
    ∃ u : State, s.grantLeave q = u ∧ SMap.find? u.lvc.slips s.freeSlip = some (q.slip s.now) ∧ (q.slip s.now).grant = s.now ∧
      (q.slip s.now).expiry = s.now + usec q.dur ∧ u.lvc.queue = s.lvc.queue) ∧
  (∀ (s : State) (q : LeaveReq) (mine : Option Nat), s.safeOn = true → q.kind ≠ 10 → q.kind ≠ 11 →
    s.decideLeave q mine = .refuse reasonSafe) ∧
  (∀ (s : State) (t : Nat), s.lvc.queue = [] → exec (.leaveRedecide t) s = .next (s.at t)) ∧
  (∀ (s r : State) (t : Nat), r = s.at t → (∀ q ∈ s.lvc.queue, r.limitedWait q = false) → exec (.leaveRedecide t) s = .next r.redecide) ∧
  (∀ (s r y : State) (t : Nat) (q : LeaveReq), r = s.at t → s.lvc.queue = [q] → r.limitedWait q = false →
    y = r.modLvc (fun u => { u with queue := [] }) →
    (r.decideLeave q none = .grant → exec (.leaveRedecide t) s = .next (y.grantLeave q)) ∧
    (∀ why : Nat, r.decideLeave q none = .refuse why → exec (.leaveRedecide t) s = .next (y.refuseLeave q.purpose why)) ∧
    (∀ why : Nat, r.decideLeave q none = .defer why → exec (.leaveRedecide t) s = .next r)) ∧
  (∀ (s r : State) (t : Nat) (q : LeaveReq), r = s.at t → s.lvc.queue = [q] → r.limitedWait q = true →
    exec (.leaveRedecide t) s = .next ((r.modLvc fun u => { u with queue := [] }).refuseLeave q.purpose 0).redecide) ∧
  (∀ (s : State) (i : Fin 32) (t : Nat) (x : Slip), SMap.find? s.lvc.slips i.val = some x → ((s.at t).renewSlip i.val).2 = none →
    ∃ u : State, exec (.leaveRenew i t) s = .next u ∧ SMap.find? u.lvc.slips i.val = some { x with expiry := (s.at t).now + usec x.dur } ∧
      u.regs = s.regs ∧ u.lvc.queue = s.lvc.queue ∧ ∀ k : Nat, k ≠ i.val → SMap.find? u.lvc.slips k = SMap.find? s.lvc.slips k) ∧
  (∀ (s : State) (i : Fin 32) (t : Nat) (x : Slip), SMap.find? s.lvc.slips i.val = some x →
    ((s.at t).now < x.expiry → exec (.slipExpiry i t) s = .next (s.at t)) ∧
    (x.expiry ≤ (s.at t).now → x.extended = false → x.kind ≠ 11 → s.lvc.queue = [] →
      ∃ u : State, exec (.slipExpiry i t) s = .next u ∧ SMap.find? u.lvc.slips i.val = none ∧ u.chart = s.chart ∧ u.sent = s.sent)) ∧
  (∀ (s : State) (src : Sess) (who : Principal), s.serves src who → who.isOwner = true →
    ((s.ownSlip who) = none → exec (.slipRelease src) s = .next ((s.touch src).respond src (cciOf stDenied) stDenied 0 []) ∧
      exec (.slipRenew src) s = .next ((s.touch src).respond src (cciOf stDenied) stDenied 0 [])) ∧
    (∀ x : Slip, s.ownSlip who = some x → (x.kind ≠ 11 → exec (.slipRelease src) s = .next (s.acts src fun u =>
        u.endSlip (u.get F.lvcCtlSlip))) ∧
      ∃ u : State, exec (.slipRenew src) s = .next (u.done src) ∧ u.get F.lvcRespSlip = s.get F.lvcCtlSlip % 32 ∧
        (u.get F.lvcRespResult = 1 ∨ u.get F.lvcRespResult = 3)) ∧
    (∃ u : State, exec (.leaveWithdraw src) s = .next (u.done src) ∧ u.lvc.queue = s.lvc.queue.filter (fun q => !ownRequest who q) ∧
      u.lvc.slips = s.lvc.slips) ∧
    (s.get F.lvcReqKind = 0xB → who.isHelm = true → exec (.lvcRequest src) s = .next (s.acts src fun u => u.requestLeave .ldoFull)) ∧
    (s.get F.lvcReqKind = 0xC → exec (.lvcRequest src) s = .next (s.acts src fun u => u.requestLeave (.otherMgt who.isHelm))) ∧
    (s.get F.lvcReqKind ≠ 0xB → s.get F.lvcReqKind ≠ 0xC →
      exec (.lvcRequest src) s = .next ((s.touch src).respond src (cciOf stDenied) stDenied 0 [])))

/-- R387 to R389, R392, R406: power states. -/
def Obligations.PowerStatesComplete : Prop :=
  (∀ (s : State) (src : Sess) (who : Principal), s.serves src who → who.isHelm = true →
    (s.pstateRefusal 2 ≠ 0 → exec (.enterP2 src) s = .next (((s.touch src).set F.rstPstateRefuse (s.pstateRefusal 2)).respond src
      (cciOf stDenied) stDenied 0 [])) ∧
    (s.pstateRefusal 3 ≠ 0 → exec (.enterP3 src) s = .next (((s.touch src).set F.rstPstateRefuse (s.pstateRefusal 3)).respond src
      (cciOf stDenied) stDenied 0 [])) ∧
    (s.pstateRefusal 0 ≠ 0 → exec (.exitP2 src) s = .next (((s.touch src).set F.rstPstateRefuse (s.pstateRefusal 0)).respond src
      (cciOf stDenied) stDenied 0 [])) ∧
    (s.pstateRefusal 2 = 0 → exec (.enterP2 src) s = .next (s.acts src fun u => ((u.set F.rstPstateBusy 1).modPwr fun x => { x with
      entry := 2 }).startQuiesce)) ∧
    (s.pstateRefusal 3 = 0 → exec (.enterP3 src) s = .next (s.acts src fun u => ((u.set F.rstPstateBusy 1).modPwr fun x => { x with
      entry := 3 }).startQuiesce)) ∧
    (s.pstateRefusal 0 = 0 → exec (.exitP2 src) s = .next (s.acts src fun u => u.leaveP2)) ∧
    (s.flag F.rstPadrelHeld = false → exec (.padRelease src) s = .next (s.acts src fun u => u)) ∧
    (s.flag F.rstPadrelHeld = true → exec (.padRelease src) s = .next (s.acts src fun u =>
      (List.range 256).foldl (fun x q => x.quarterChange q) (u.set F.rstPadrelHeld 0)))) ∧
  (∀ (s : State) (req : Nat), s.home.dir ≠ [] → s.pstateRefusal req = 1) ∧
  (∀ (s : State) (t : Nat), s.chtu.quiesced = true → s.pwr.saveStart = none →
    (s.pwr.entry = 2 → ∃ u : State, exec (.pstateEntryComplete t) s = .next u ∧ u.get F.rstPstateCur = 2 ∧ u.get F.rstPstateBusy = 0 ∧
      u.pwr.entry = 0 ∧ u.get F.hubXbarstatMode = 0) ∧
    (s.pwr.entry = 3 → s.pwr.laterWake = 0 → ∃ u : State, exec (.pstateEntryComplete t) s = .next u ∧ u.get F.rstStatPhase = 0 ∧
      u.sessions = [] ∧ u.lvc.slips = [] ∧ u.core.bolt = [] ∧ u.home.dir = [])) ∧
  (∀ (s : State) (wakeL : Bool) (t : Nat), s.pwr.entry = 3 → ∃ u : State, exec (.wake wakeL t) s = .next u ∧ u.pwr.laterWake ≠ 0 ∧
    (wakeL = true → u.pwr.laterWake = 1) ∧ u.regs = s.regs) ∧
  (∀ (s : State) (wakeL : Bool) (t : Nat), s.pwr.entry ≠ 3 → s.unpowered = true → s.pwr.shedPhase = 0 →
    (s.feed 0 = fsStandby ∨ s.feed 1 = fsStandby) → ∃ u : State, exec (.wake wakeL t) s = .next u ∧ u.get F.rstCauseSource = 3 ∧
      u.get F.rstCauseWakeSrc = (if wakeL then 1 else 2) ∧ u.feed 0 ≠ fsStandby ∧ u.feed 1 ≠ fsStandby ∧ u.nv = s.nv)

/-- R85, R398 to R403, R406, R441: resets. -/
def Obligations.ResetsComplete : Prop :=
  (∀ (s : State) (source : Nat) (whole : Bool), source < 8 → ∃ u : State, s.moduleReset source whole = u ∧ u.nv = s.nv ∧
    u.pending = s.pending ∧ u.now = s.now ∧ u.resetAt = s.now ∧ u.sessions = [] ∧ u.lvc.slips = [] ∧ u.lvc.queue = [] ∧
    u.home.dir = [] ∧ u.core.bolt = [] ∧ u.core.staged = [] ∧ u.lod.objects = [] ∧ u.get F.rstCauseSource = source ∧
    u.get F.rstStatReady = 0 ∧ u.get F.pwrLdoMode = 0) ∧
  (∀ (s : State) (t : Nat), s.unpowered = true → s.pwr.shedPhase = 0 → s.flag F.almStatPending = false →
    s.feedIn 0 [fsOn, fsLimit] = true → exec (.powerOnReset t) s = .next ((s.at t).moduleReset 1 true).startUp) ∧
  (∀ (s : State) (t : Nat), s.unpowered = true → s.pwr.shedPhase = 4 → s.feedIn 0 [fsOn, fsLimit] = true →
    exec (.feedReturnReset t) s = .next ((((s.at t).moduleReset 2 true).startUp).notify atPower)) ∧
  (∀ (s : State) (t : Nat), s.unpowered = false → exec (.powerOnReset t) s = .next (s.at t) ∧
    exec (.feedReturnReset t) s = .next (s.at t)) ∧
  (∀ (s : State) (ns t : Nat), (ns < 2000 → exec (.resetL ns t) s = .next (s.at t)) ∧
    (2000 ≤ ns → s.unpowered = false → s.pwr.saveStart = none → exec (.resetL ns t) s = .next ((s.at t).moduleReset 4 false).startUp) ∧
    (2000 ≤ ns → s.unpowered = false → s.pwr.saveStart.isSome = true → s.pwr.laterReset = 0 →
      exec (.resetL ns t) s = .next ((s.at t).modPwr fun u => { u with laterReset := 4 }))) ∧
  (∀ (s : State) (t : Nat), s.flag F.rstWdogEn = true → 3 ≤ s.get F.rstStatPhase → s.pwr.saveStart = none →
    (s.pwr.kicked + msec (100 * s.get F.rstWdogTimeout) ≤ (s.at t).now →
      exec (.watchdogExpiry t) s = .next ((s.at t).moduleReset 5 false).startUp) ∧
    ((s.at t).now < s.pwr.kicked + msec (100 * s.get F.rstWdogTimeout) → exec (.watchdogExpiry t) s = .next (s.at t))) ∧
  (∀ (s : State) (t : Nat), ∃ u : State, exec (.watchdogKick t) s = .next u ∧ u.pwr.kicked = max s.now t ∧ u.regs = s.regs ∧
    u.sent = s.sent) ∧
  (∀ (s : State) (src : Sess) (who : Principal), s.serves src who → who.isHelm = true → s.pwr.saveStart = none →
    exec (.moduleReset src) s = .next ((((s.touch src).respond src .success stOk 0 []).moduleReset 6 false).startUp)) ∧
  (∀ (s : State) (src : Sess) (who : Principal) (n : Fin 128), s.serves src who → who.isPilot = true →
    s.reach (F.blkSwresetGo n.val).addr = true →
    ((∀ p : Nat, s.inbandPleat src = some p → p / 8 ≠ n.val) →
      (s.flag (F.blkSwresetBusy n.val) = false → exec (.blockSwreset src n) s = .next (s.acts src (startBlockReset n.val)) ∧
        (s.bgBusy (sessNum src) = false → exec (.blockReset src n) s = .next ((s.touch src).startBg src who 0xC032 n.val fun u =>
          (if u.reach (F.blkSwresetGo n.val).addr then resetBlock src n.val u else (u, stDenied)).1))) ∧
      (s.flag (F.blkSwresetBusy n.val) = true → exec (.blockSwreset src n) s = .next (s.acts src fun u => u))) ∧
    (∀ p : Nat, s.inbandPleat src = some p → p / 8 = n.val → exec (.blockSwreset src n) s =
      .next ((s.touch src).respond src (cciOf stDenied) stDenied 0 []))) ∧
  (∀ (s : State) (src : Sess) (who : Principal) (g : Fin 8), s.serves src who → who.isOwner = true → s.bgBusy (sessNum src) = false →
    ((∃ v : Fin 64, s.slotSlice v.val / 9 = g.val) → exec (.regionReset src g) s =
      .next ((s.touch src).respond src (cciOf stDenied) stDenied 0 [])) ∧
    ((∀ v : Fin 64, s.slotSlice v.val / 9 ≠ g.val) → s.regionPowered g.val = true → exec (.regionReset src g) s =
      .next ((s.touch src).startBg src who 0xC031 g.val fun u => (resetRegion g.val u).1))) ∧
  (∀ (s : State) (n : Fin 128) (t : Nat), ∃ u : State, exec (.blockResetDone n t) s = .next u ∧ u.flag (F.blkSwresetBusy n.val) = false ∧
    u.core = s.core ∧ u.nv = s.nv ∧ ∀ b ∈ u.bgs, b.opcode = 0xC032 → b.target = n.val → b.running = false) ∧
  (∀ (s : State) (g : Fin 8) (t : Nat), ∃ u : State, exec (.regionResetDone g t) s = .next u ∧ g.val ∉ u.pwr.regionReset ∧
    u.core = s.core ∧ u.nv = s.nv ∧ ∀ b ∈ u.bgs, b.opcode = 0xC031 → b.target = g.val → b.running = false) ∧
  (∀ (s : State) (p : Fin 1024) (t : Nat), s.chart.isLead p.val = true → s.chart.isOff p.val = false →
    exec (.portReset p t) s = .next ((s.at t).fullReset p.val 0xD))

/-- R369, R374, R375, R395 to R397, R404: start-up, the Almanac, rails. -/
def Obligations.StartUpAndAlmanacComplete : Prop :=
  (∀ (s : State) (took : Fin 501) (t : Nat), s.get F.rstStatPhase = 2 → s.get F.rstCauseSource ≠ 2 → s.get F.rstCauseSource ≠ 3 →
    exec (.managementBootDone took t) s = .next ((((s.at t).set F.rstStatPhase 4).modPwr fun u => { u with
      kicked := (s.at t).now }).askRegions s.nv.attached)) ∧
  (∀ (s : State) (took : Nat), s.get F.rstCauseSource = 3 → s.flag F.almStatPending = true → s.flag F.almStatSlot0Valid = false →
    s.flag F.almStatSlot1Valid = false → ∃ u : State, s.restore took = u ∧ u.flag F.almStatRestoreFail = true ∧
      u.flag F.almStatPending = false ∧ u.nv = s.nv ∧ (u.get (F.fltAttnPend audPilot)).testBit atNotice = true) ∧
  (∀ (s : State) (took : Fin 501) (t : Nat), s.get F.rstStatPhase ≠ 2 → exec (.managementBootDone took t) s = .next (s.at t)) ∧
  (∀ (s : State) (g : Fin 8) (t : Nat), (g.val ∉ s.pwr.powering → exec (.regionPowerUpDone g t) s = .next (s.at t)) ∧
    (g.val ∈ s.pwr.powering → s.lvc.queue = [] → ∃ u : State, exec (.regionPowerUpDone g t) s = .next u ∧
      u.regionPowered g.val = true ∧ g.val ∉ u.pwr.powering ∧ u.nv = s.nv)) ∧
  (∀ (s : State) (t : Nat), (s.get F.rstStatPhase ≠ 5 ∨ s.flt.holdReset = true → exec (.ready t) s = .next (s.at t)) ∧
    (s.get F.rstStatPhase = 5 → s.flt.holdReset = false →
      (∀ g : Fin 8, s.chart.attached.testBit g.val = true → s.regionPowered g.val = true ∨ g.val ∈ s.seam.out) →
      s.flag F.rstPadrelHeld = true → ∃ u : State, exec (.ready t) s = .next u ∧ u.ready = true ∧ u.get F.rstStatPhase = 6 ∧
        u.get F.rstStatReadyMs = min 65535 (((s.at t).now - s.pwr.goodAt) / 1000000000) ∧ u.core = s.core)) ∧
  (∀ (s : State) (t a : Nat), s.pwr.saveStart = some a → s.pwr.saveEvent ≠ 2 → s.pwr.laterReset = 0 → s.flag F.almStatSlot0Valid = false →
    s.flag F.almStatSlot1Valid = false → ∃ u : State, exec (.almanacSaveDone t) s = .next u ∧ u.nv.image0 = s.pwr.saveRegs ∧
      u.nv.image1 = s.nv.image1 ∧ u.flag F.almStatSlot0Valid = true ∧ u.flag F.almStatPending = true ∧ u.pwr.saveStart = none ∧
      u.get F.pwrLdoMode = 0 ∧ u.lvc.saveSlip = none) ∧
  (∀ (s : State) (t : Nat), (s.pwr.shedPhase ≠ 1 → exec (.shedPlaneOff t) s = .next (s.at t)) ∧
    (s.pwr.shedPhase = 1 → s.pwr.saveStart.isSome = true → ∃ u : State, exec (.shedPlaneOff t) s = .next u ∧ u.pwr.shedPhase = 2 ∧
      u.pwr.saveEvent = 2 ∧ u.get F.hubXbarstatMode = 0 ∧ u.pwr.powering = [])) ∧
  (∀ (s : State) (r : Fin 26), (24 ≤ r.val → exec (.railFault r) s = .next ((s.set (F.pwrRailFault r.val) 1).reportAt inPower 3)) ∧
    (r.val < 24 → s.regionPowered (r.val / 3) = true → exec (.railFault r) s =
      .next ((s.set (F.pwrRailFault r.val) 1).regionOut (r.val / 3))) ∧
    (r.val < 24 → s.regionPowered (r.val / 3) = false → exec (.railFault r) s = .next s)) ∧
  (∀ s : State, ∃ u : State, exec .brownOut s = .next u ∧ u.get F.pwrLdoBrownouts = min (s.get F.pwrLdoBrownouts + 1)
    (2 ^ F.pwrLdoBrownouts.width - 1) ∧ (s.pwr.saveStart = none → u.get F.pwrLdoMode = 0) ∧
    (u.get (F.fltAttnPend audHelm)).testBit atPower = true ∧ u.nv = s.nv) ∧
  (∀ (s : State) (src : Sess) (who : Principal), s.serves src who → who.isHelm = true →
    (∃ u : State, exec (.retainDataAccess src none) s = .next (u.respond src .success stOk 0
      [SMap.getD s.nv.retain (s.get F.almRetainOffset) 0]) ∧ u.nv = s.nv ∧
      u.get F.almRetainOffset = (s.get F.almRetainOffset + 1) % 2 ^ F.almRetainOffset.width) ∧
    (∀ w : Fin (2 ^ 32), ∃ u : State, exec (.retainDataAccess src (some w)) s = .next (u.done src) ∧
      SMap.getD u.nv.retain (s.get F.almRetainOffset) 0 = w.val ∧
      u.get F.almRetainOffset = (s.get F.almRetainOffset + 1) % 2 ^ F.almRetainOffset.width))

/-- R323, R325: the drain and the exit. -/
def Obligations.SafeStateExit : Prop :=
  (∀ (s : State) (t : Nat), s.get F.fltSafeState = 1 → s.flt.safeAt + usec 100 ≤ (s.at t).now →
    ∃ u : State, exec (.safeDrainEnd t) s = .next u ∧ u.get F.fltSafeState = 2 ∧ u.lnk.disabled = true ∧ u.core.staged = [] ∧
      u.core.bolt = [] ∧ u.core.records = [] ∧ u.home.txns = [] ∧ u.home.snoops = [] ∧ u.home.shadows = []) ∧
  (∀ (s : State) (t : Nat), (s.at t).now < s.flt.safeAt + usec 100 → exec (.safeDrainEnd t) s = .next (s.at t)) ∧
  (∀ (s : State) (src : Sess) (who : Principal), s.serves src who → who.isHelm = true →
    (s.get F.fltSafeState = 0 → exec (.safeExit src) s = .next (s.acts src fun u => u)) ∧
    (s.get F.fltSafeState = 1 → exec (.safeExit src) s = .next ((s.touch src).respond src (cciOf stDenied) stDenied 0 [])) ∧
    (s.get F.fltSafeState = 2 → s.causePersists = true →
      exec (.safeExit src) s = .next ((s.touch src).respond src (cciOf stDenied) stDenied 0 [])) ∧
    (s.get F.fltSafeState = 2 → s.causePersists = false → exec (.safeExit src) s = .next (s.acts src fun u => u.safeReset)))

/-- R415, R417 to R419, R422, R426: counters and the Tally. -/
def Obligations.CountersAndTallyComplete : Prop :=
  (∀ (s : State) (src : Sess) (who : Principal), s.serves src who → who.isPilot = true →
    (∀ (k : Fin 1824) (event : Fin 256) (mode : Fin 4) (sub : Fin 256) (berth : Fin 64) (be ch en : Bool), s.reach (ctrAddr k.val) = true →
      ∃ u : State, exec (.counterSelect src k event mode sub berth be ch en) s = .next (u.done src) ∧ (u.ctr k.val).val = 0 ∧
        (u.ctr k.val).ovf = false ∧ (u.ctr k.val).event = event.val ∧ (u.ctr k.val).mode = mode.val ∧ (u.ctr k.val).sub = sub.val ∧
        (u.ctr k.val).berth = berth.val ∧ (u.ctr k.val).berthEn = be ∧ (u.ctr k.val).en = en ∧ u.regs = s.regs) ∧
    (∀ k : Fin 1824, s.reach (ctrAddr k.val) = true → ∃ u : State, exec (.counterClear src k) s = .next (u.done src) ∧
      (u.ctr k.val).val = 0 ∧ (u.ctr k.val).ovf = false ∧ (u.ctr k.val).event = (s.ctr k.val).event ∧
      (∀ j : Nat, j ≠ k.val → j ≠ k.val + 1 → u.ctr j = s.ctr j) ∧ u.regs = s.regs) ∧
    (∀ k : Fin 1824, s.reach (ctrAddr k.val) = false → exec (.counterClear src k) s =
      .next ((s.touch src).respond src (cciOf stDenied) stDenied 0 [])) ∧
    exec (.tallyFreeze src) s = .next (s.acts src fun u => (u.set F.talCtlFreeze 1).set F.talStatFrozen 1) ∧
    exec (.tallyUnfreeze src) s = .next (s.acts src fun u => (u.set F.talCtlFreeze 0).set F.talStatFrozen 0) ∧
    (s.flag F.talStatBusy = false → ∃ u : State, exec (.tallySnap src) s = .next (u.done src) ∧ u.flag F.talStatBusy = true ∧
      (∃ b : TallyBuf, u.tal.latch = some b ∧ b.ctrs = s.ctrs ∧ b.frozen = s.flag F.talStatFrozen)) ∧
    (s.flag F.talStatBusy = true → s.tal.byPeriod = false → exec (.tallySnap src) s = .next (s.acts src fun u => u.bump F.talStatMissed 1)) ∧
    (s.tal.waiting = true → exec (.tallyHoldRelease src) s = .next (s.acts src fun u => (u.set F.talCtlHold 0).flip)) ∧
    (s.tal.waiting = false → exec (.tallyHoldRelease src) s = .next (s.acts src fun u => u.set F.talCtlHold 0))) ∧
  (∀ (s : State) (loc : Nat × Nat) (code n : Nat) (sub : Nat → Bool) (berth : Option Nat), s.flag F.talStatFrozen = true →
    s.count loc code sub berth n = s) ∧
  (∀ (s : State) (t : Nat), (s.get F.talCtlPeriod = 0 → exec (.tallyPeriod t) s = .next (s.at t)) ∧
    (s.get F.talCtlPeriod ≠ 0 → s.tal.periodAt + usec (100 * s.get F.talCtlPeriod) ≤ (s.at t).now →
      exec (.tallyPeriod t) s = .next (((s.at t).trigger true).modTal fun u => { u with periodAt := ((s.at t).trigger true).now }))) ∧
  (∀ (s : State) (t : Nat), s.tal.latch = none → exec (.tallyBufferFlip t) s = .next (s.at t)) ∧
  (∀ (s : State) (t : Nat) (b : TallyBuf), s.tal.latch = some b → s.get F.talStatFront = 0 → s.get F.talSeq < 2 ^ 32 - 1 →
    (s.flag F.talCtlHold = false → ∃ u : State, exec (.tallyBufferFlip t) s = .next u ∧ u.get F.talStatFront = 1 ∧
      u.get F.talSeq = s.get F.talSeq + 1 ∧ u.tal.buf1.ctrs = b.ctrs ∧ u.tal.buf0 = s.tal.buf0 ∧ u.flag F.talStatBusy = false) ∧
    (s.flag F.talCtlHold = true → ∃ u : State, exec (.tallyBufferFlip t) s = .next u ∧ u.get F.talStatFront = 0 ∧ u.tal.waiting = true ∧
      u.get F.talSeq = s.get F.talSeq ∧ u.flag F.talStatBusy = false))

/-- R460 to R463, R468, R469: temperature. -/
def Obligations.ThermalComplete : Prop :=
  (∀ (s : State) (r : TempReading) (v : Fin 1521), r.value = some v → s.sensorLive r.sensor.val = true →
    ∃ u : State, s.takeReading r = u ∧ u.get (F.hubTemp r.sensor.val) = tempWord ((v.val : Int) - 320) ∧
      u.flag (F.hubTempValid r.sensor.val) = true ∧ tempOf (u.get (F.hubTemp r.sensor.val)) = (v.val : Int) - 320 ∧
      SMap.find? u.thm.lastValid r.sensor.val = some s.now) ∧
  (∀ (s : State) (r : TempReading), r.value = none → s.takeReading r = s.set (F.hubTempValid r.sensor.val) 0) ∧
  (∀ (s : State) (l : List TempReading) (t : Nat), s.unpowered = true → exec (.tempSample l t) s = .next (s.at t)) ∧
  (∀ (s r : State) (l : List TempReading) (t : Nat), s.unpowered = false → r = (l.foldl State.takeReading (s.at t)).staleSensors →
    exec (.tempSample l t) s = .next (r.heat (s.at t).tMax (stackRise (s.at t) r))) ∧
  (∀ s : State, s.lvc.queue = [] → ∃ u : State, s.thermalCut = u ∧ u.get F.hubThermState = 3 ∧ u.get F.hubXbarstatMode = 0 ∧
    u.pwr.powering = [] ∧ u.pwr.powerWait = [] ∧ ∀ mask : Nat, u.askRegions mask = u) ∧
  (∀ (s : State) (d : Fin 9) (t : Nat), (s.at t).dieBlind d.val = false → exec (.sensorBlind d t) s = .next (s.at t)) ∧
  (∀ (s r : State) (d : Fin 9) (t : Nat), r = s.at t → r.dieBlind d.val = true →
    exec (.sensorBlind d t) s = .next (((((r.setAll [(F.hubTempValid (2 * d.val), 0), (F.hubTempValid (2 * d.val + 1), 0)]).modThm fun u =>
      { u with blind := u.blind ++ [d.val] }).reportAt inTemp 1).notify atDegraded).heat r.tMax false)) ∧
  (∀ (s : State) (t a : Nat), s.get F.hubThermState = 1 → s.thm.coolSince = some a →
    (a + sec 1 ≤ (s.at t).now → exec (.throttleEnd t) s = .next ((s.at t).set F.hubThermState 0)) ∧
    ((s.at t).now < a + sec 1 → exec (.throttleEnd t) s = .next (s.at t))) ∧
  (∀ (s : State) (src : Sess) (who : Principal), s.serves src who → who.isHelm = true →
    exec (.tmaxPeakClear src) s = .next (s.acts src fun u => u.set F.hubTmaxPeak 0))

/-- R428 to R430: endpoint commands. Invalid endpoint IDs, versions, the UUID and repeated ENTDAA: log entry 70. -/
def Obligations.EndpointCommandsComplete : Prop :=
  (∀ (s : State) (path : MgtPath), s.pathUp path = true → carriesMctp path = true →
    (∀ eid : Fin 256, eid.val ≠ 0 → eid.val ≠ 0xFF → ∃ u : State, exec (.setEndpointId path eid) s = .next u ∧ u.get F.mgtEid = eid.val ∧
      u.sent = .mctpControl (pathOf path) 0 [eid.val] :: s.sent ∧ (∀ f : Fld, f.key ≠ F.mgtEid.key → u.get f = s.get f) ∧
      { u with regs := s.regs, sent := s.sent } = s) ∧
    (∀ eid : Fin 256, eid.val = 0 ∨ eid.val = 0xFF →
      exec (.setEndpointId path eid) s = .next (s.emit (.mctpControl (pathOf path) 2 []))) ∧
    exec (.getEndpointId path) s = .next (s.emit (.mctpControl (pathOf path) 0 [s.get F.mgtEid])) ∧
    exec (.getMessageTypeSupport path) s = .next (s.emit (.mctpControl (pathOf path) 0 [0, 5, 6, 7])) ∧
    exec (.getEndpointUuid path) s = .next (s.emit (.mctpControl (pathOf path) 0 Sys2Proof.Config.endpointUuid)) ∧
    (∀ ty : Fin 256, (ty.val ∈ [0, 5, 6, 7] → exec (.getVersionSupport path ty) s =
        .next (s.emit (.mctpControl (pathOf path) 0 (Sys2Proof.Config.mctpVersions ty.val)))) ∧
      (ty.val ∉ [0, 5, 6, 7, 0xFF] → exec (.getVersionSupport path ty) s = .next (s.emit (.mctpControl (pathOf path) 2 []))))) ∧
  (∀ (s : State) (path : MgtPath) (eid ty : Fin 256), s.pathUp path = false ∨ carriesMctp path = false →
    exec (.setEndpointId path eid) s = .next s ∧ exec (.getEndpointId path) s = .next s ∧ exec (.getMessageTypeSupport path) s = .next s ∧
    exec (.getEndpointUuid path) s = .next s ∧ exec (.getVersionSupport path ty) s = .next s) ∧
  (∀ (s : State) (da : Fin 128), s.pathUp .i3c = true →
    (∀ a : Fin 128, a.val = 0x38 + Sys2Proof.Config.straps.val →
      exec (.i3cAddressAssign (some a) da) s = .next (s.set F.mgtI3cstatDa da.val)) ∧
    (∀ a : Fin 128, a.val ≠ 0x38 + Sys2Proof.Config.straps.val → exec (.i3cAddressAssign (some a) da) s = .next s) ∧
    (s.get F.mgtI3cstatDa = 0 → exec (.i3cAddressAssign none da) s = .next (s.set F.mgtI3cstatDa da.val)) ∧
    (s.get F.mgtI3cstatDa ≠ 0 → exec (.i3cAddressAssign none da) s = .next s))

/-- R429 to R431, R434: packets and datagrams. Seconds and the link bit: log entry 71. -/
def Obligations.PacketsAndDatagramsComplete : Prop :=
  (∀ (s : State) (path : MgtPath) (pkt : MctpPacket), s.pathUp path = true → carriesMctp path = true → path ≠ .ethernet →
    pkt.body.length ≤ 64 → pkt.som = true → pkt.eom = true →
    (pkt.mtype.val ∉ [0, 5, 6, 7] → ∃ u : State, exec (.mctpPacket path pkt) s = .next u ∧
      u.get F.mgtMctpstatBadtype = min (s.get F.mgtMctpstatBadtype + 1) 255 ∧
      (∀ f : Fld, f.key ≠ F.mgtMctpstatBadtype.key → u.get f = s.get f) ∧ u.sent = s.sent ∧ u.sessions = s.sessions) ∧
    (pkt.mtype.val = 7 → ∃ u : State, exec (.mctpPacket path pkt) s = .next u ∧
      u.get F.mgtMctpstatUnsecured = min (s.get F.mgtMctpstatUnsecured + 1) 255 ∧
      (∀ f : Fld, f.key ≠ F.mgtMctpstatUnsecured.key → u.get f = s.get f) ∧ u.sent = s.sent ∧ u.sessions = s.sessions)) ∧
  (∀ (s : State) (pkt : MctpPacket), s.pathUp .i3c = true →
    (64 < pkt.body.length → exec (.mctpPacket .i3c pkt) s = .next s) ∧
    (pkt.body.length ≤ 64 → pkt.som = false → SMap.find? s.mgt.asm pkt.tag.val = none → exec (.mctpPacket .i3c pkt) s = .next s) ∧
    (pkt.body.length ≤ 64 → pkt.som = true → pkt.eom = false → exec (.mctpPacket .i3c pkt) s = .next (s.modMgt fun u => { u with
      asm := SMap.put u.asm pkt.tag.val (pkt.mtype.val, pkt.body.map (·.val)) }))) ∧
  (∀ (s : State) (d : Datagram) (t : Nat), (s.at t).pathUp .ethernet = false → exec (.udpDatagram d t) s = .next (s.at t)) ∧
  (∀ (s r : State) (d : Datagram) (t n : Nat), r = s.at t → r.pathUp .ethernet = true →
    n = (if r.mgt.ethSecond = r.now / sec 1 then r.mgt.ethCount + 1 else 1) →
    (10000 < n → ∃ u : State, exec (.udpDatagram d t) s = .next u ∧ u.sent = s.sent ∧
      u.get F.mgtEthstatDropped = min (s.get F.mgtEthstatDropped + 1) 65535 ∧ u.get F.mgtEthipv4 = s.get F.mgtEthipv4 ∧ u.mgt.asm = s.mgt.asm) ∧
    (n ≤ 10000 → exec (.udpDatagram d t) s = .next (((r.set F.mgtEthstatLink 1).modMgt fun u => { u with
      ethSecond := r.now / sec 1, ethCount := n }).takeDatagram d))) ∧
  (∀ s : State, s.takeDatagram (.icmpEcho true) = s.emit (.netAnswer (.icmpEcho true)) ∧ s.takeDatagram .neighbour = s.emit (.netAnswer .neighbour) ∧
    s.takeDatagram .other = s ∧
    (s.flag F.mgtEthcfgStatic = false → s.flag F.mgtEthstatAddrOk = false → s.takeDatagram .arp = s ∧
      ∀ a : Fin (2 ^ 32), ∃ u : State, s.takeDatagram (.dhcpLease a) = u ∧ u.get F.mgtEthipv4 = a.val ∧ u.flag F.mgtEthstatAddrOk = true))

/-- R428, R433 to R437: sessions. The slot taken and blocks 1, 2 and 4: log entry 72. -/
def Obligations.SessionsOpenAndEnd : Prop :=
  (∀ (s r : State) (path : MgtPath) (key : List (Fin 256)) (id : Fin (2 ^ 32)) (t : Nat), r = s.at t → r.pathUp path = true →
    (r.freeSession path = none → exec (.keyExchange path key id t) s = .next (r.emit (.spdm (pathOf path) .busy))) ∧
    (∀ n : Nat, r.freeSession path = some n →
      (isPublicKey (key.map (·.val)) = false ∨ r.whoHolds path (sha384 (key.map (·.val))) = none →
        exec (.keyExchange path key id t) s = .next ((r.bump F.mgtMctpstatAuthfail 1).emit (.spdm (pathOf path) .error))) ∧
      (∀ p : Principal, isPublicKey (key.map (·.val)) = true → r.whoHolds path (sha384 (key.map (·.val))) = some p →
        ∃ u : State, exec (.keyExchange path key id t) s = .next u ∧
          SMap.find? u.sessions n = some ⟨p, pathOf path, sha384 (key.map (·.val)), id.val, r.now⟩ ∧
          (∀ m : Nat, m ≠ n → SMap.find? u.sessions m = SMap.find? r.sessions m) ∧ u.regs = r.regs ∧
          u.sent = .spdm (pathOf path) (.opened id.val) :: s.sent))) ∧
  (∀ (s : State) (path : MgtPath) (key : List (Fin 256)) (id : Fin (2 ^ 32)) (t : Nat), (s.at t).pathUp path = false →
    exec (.keyExchange path key id t) s = .next (s.at t) ∧ (s.pathUp path = false → exec (.getMeasurements path) s = .next s)) ∧
  (∀ (s : State) (d : List Nat), s.get F.mgtCredHelmProg = 0 → s.whoHolds .i3c d = some .unclaimed ∧ s.whoHolds .ethernet d = some .unclaimed ∧
    ∀ p : Fin 1024, s.whoHolds (.inband p) d = some .unclaimed) ∧
  (∀ (s : State) (d : List Nat) (v : Fin 64) (p : Principal), s.whoHolds (.mailbox v) d = some p →
    p = .berth (s.chart.vsBerth v.val) ∧ SMap.find? s.nv.berthKeys (s.chart.vsBerth v.val) = some d) ∧
  (∀ (s : State) (path : MgtPath), s.pathUp path = true → ∃ a b c : List Nat, exec (.getMeasurements path) s =
    .next (s.emit (.spdm (pathOf path) (.measurements [(1, 0, a), (2, 0, b), (3, s.effGen, s.chart.effDigest), (4, 0, c)])))) ∧
  (∀ (s r : State) (src : Sess) (t : Nat) (x : SessionRec), r = s.at t → s.session src = some x →
    (∃ u : State, exec (.heartbeat src t) s = .next u ∧ u.session src = some { x with last := r.now } ∧ u.regs = r.regs ∧
      u.sent = .spdm x.path .heartbeatAck :: s.sent) ∧
    (x.last + sec 10 ≤ r.now → exec (.sessionHeartbeatTimeout src t) s = .next (r.endSession (sessNum src))) ∧
    (r.now < x.last + sec 10 → exec (.sessionHeartbeatTimeout src t) s = .next r) ∧
    exec (.endSession src) s = .next ((s.endSession (sessNum src)).emit (.spdm x.path .ended))) ∧
  (∀ (s : State) (n : Nat), SMap.find? (s.endSession n).sessions n = none ∧ (s.endSession n).regs = s.regs ∧
    (∀ m : Nat, m ≠ n → SMap.find? (s.endSession n).sessions m = SMap.find? s.sessions m) ∧ (s.endSession n).bgs.length = s.bgs.length) ∧
  (∀ (s : State) (src : Sess) (t : Nat), s.session src = none → exec (.heartbeat src t) s = .next (s.at t) ∧
    exec (.sessionHeartbeatTimeout src t) s = .next (s.at t) ∧ exec (.endSession src) s = .next s)

/-- R50, R58, R90, R391, R436, R438, R441: generic and vendor commands that burn nothing. What a background status carries: log entry 73. -/
def Obligations.GenericCommandsComplete : Prop :=
  (∀ (s : State) (src : Sess) (p : Principal), s.serves src p →
    exec (.identify src) s = .next ((s.touch src).respond src .success stOk 0 [(s.touch src).word 0, (s.touch src).word 4, (s.touch src).word 8]) ∧
    (p.claimed = true →
      exec (.getIdent src) s = .next ((s.touch src).respond src .success stOk 0
        ((s.touch src).wordsAt [0, 4, 8, 0xC, 0x100000])) ∧
      exec (.backgroundOperationStatus src) s = .next ((s.touch src).respond src .success stOk 0
        (match s.bgs.find? fun b => b.who == p with | some b => b.record (s.shown p.audience) | none => [0, 0, 0, 0])) ∧
      exec (.getResponseMessageLimit src) s = .next ((s.touch src).respond src .success stOk 0 [s.responseLimit (sessNum src)]) ∧
      (∀ n : Fin 65536, 256 ≤ n.val → n.val ≤ 4104 → ∃ u : State, exec (.setResponseMessageLimit src n) s = .next u ∧
        u.responseLimit (sessNum src) = n.val ∧ u.regs = s.regs ∧ ∀ m : Nat, m ≠ sessNum src → u.responseLimit m = s.responseLimit m) ∧
      (∀ n : Fin 65536, n.val < 256 ∨ 4104 < n.val → exec (.setResponseMessageLimit src n) s =
        .next ((s.touch src).respond src .invalidInput stDenied 0 [])) ∧
      ((s.bgs.any fun b => b.sess == sessNum src && b.live && b.running && b.opcode == 0xC040) = false →
        exec (.requestAbortBackgroundOp src) s = .next (s.acts src fun u => u)) ∧
      ((s.bgs.any fun b => b.sess == sessNum src && b.live && b.running && b.opcode == 0xC040) = true →
        exec (.requestAbortBackgroundOp src) s = .next (s.acts src State.abortChart)))) ∧
  (∀ (s : State) (src : Sess) (p : Principal) (cmd : Fin 256), s.serves src p → p.isPilot = true →
    (cmd.val = 0 ∨ 6 < cmd.val → exec (.chartCmd src cmd) s = .next ((s.touch src).respond src .invalidInput stDenied 0 [])) ∧
    (1 ≤ cmd.val → cmd.val ≤ 6 → (s.bgBusy (sessNum src) = true →
        exec (.chartCmd src cmd) s = .next ((s.touch src).respond src .busy stRetry 0 [])) ∧
      (s.bgBusy (sessNum src) = false → exec (.chartCmd src cmd) s = .next (issueChart src cmd.val ((({ s.touch src with
        bgs := ⟨sessNum src, true, 0, p, 0xC040, true, .backgroundStarted, stOk, 0⟩ :: s.bgs } : State).respond
        src .backgroundStarted stOk 0 [])))))) ∧
  (∀ (s : State) (src : Sess) (p : Principal) (c : Fin 1024), s.serves src p → p.isPilot = true →
    (s.reach (0x2000000 + 0x1000 * c.val) = true →
      exec (.getBindingState src c) s = .next ((s.touch src).respond src .success stOk 0 ((s.touch src).bindingState c.val))) ∧
    (s.reach (0x2000000 + 0x1000 * c.val) = false →
      exec (.getBindingState src c) s = .next ((s.touch src).respond src .invalidInput stDenied 0 [])))

/-- R40, R403, R435 to R437, R441: fuse burns. Pin numbers: log entry 74; slots that may not be revoked beside the last: log entry 152. -/
def Obligations.FuseCommandsComplete : Prop :=
  (∀ (s : State) (src : Sess) (p : Principal), s.serves src p → p.isHelm = true →
    (∀ (slot : Fin 256) (key : List (Fin 256)),
      (s.mayProgram slot.val = true → isPublicKey (key.map (·.val)) = true → exec (.keyProgram src slot key) s =
        .next ((s.touch src).modMgt fun u => { u with burns := u.burns ++ [⟨sessNum src, true, .keyProgram slot.val (sha384 (key.map (·.val)))⟩] })) ∧
      (s.mayProgram slot.val = false ∨ isPublicKey (key.map (·.val)) = false → exec (.keyProgram src slot key) s =
        .next ((s.touch src).respond src .invalidInput stDenied 0 []))) ∧
    (∀ slot : Fin 256, (s.mayRevoke slot.val = true → exec (.keyRevoke src slot) s =
        .next ((s.touch src).modMgt fun u => { u with burns := u.burns ++ [⟨sessNum src, true, .keyRevoke slot.val⟩] })) ∧
      (s.mayRevoke slot.val = false → exec (.keyRevoke src slot) s = .next ((s.touch src).respond src .invalidInput stDenied 0 []))) ∧
    (∀ (pin : Fin 65536) (b : Bool), s.pinFuse pin.val = some b →
      exec (.pinfuseSet src pin b) s = .next (s.acts src fun u => u) ∧
      (b = false → exec (.pinfuseSet src pin true) s = .next ((s.touch src).modMgt fun u => { u with
        burns := u.burns ++ [⟨sessNum src, true, .pinFuse pin.val⟩] })) ∧
      (b = true → exec (.pinfuseSet src pin false) s = .next ((s.touch src).respond src .invalidInput stDenied 0 []))) ∧
    (∀ (key : List (Fin 256)) (old : Nat), s.helmSlot = some old → isPublicKey (key.map (·.val)) = true →
      ((∀ i : Nat, i < 4 → (s.get F.mgtCredHelmProg).testBit i = true) →
        exec (.helmRotate src key) s = .next ((s.touch src).respond src .invalidInput stDenied 0 [])) ∧
      (∀ n : Nat, n < 4 → (s.get F.mgtCredHelmProg).testBit n = false → (∀ i : Nat, i < n → (s.get F.mgtCredHelmProg).testBit i = true) →
        exec (.helmRotate src key) s = .next ((s.touch src).modMgt fun u => { u with
          burns := u.burns ++ [⟨sessNum src, true, .helmRotate n (sha384 (key.map (·.val))) old⟩] })))) ∧
  (∀ (s : State) (src : Sess) (x : SessionRec) (key : List (Fin 256)), s.serves src .unclaimed → s.session src = some x →
    (s.get F.mgtCredHelmProg = 0 → isPublicKey (key.map (·.val)) = true → exec (.helmClaim src key) s =
      .next ((s.touch src).modMgt fun u => { u with burns := u.burns ++ [⟨sessNum src, true, .helmClaim x.key (sha384 (key.map (·.val)))⟩] })) ∧
    (s.get F.mgtCredHelmProg ≠ 0 ∨ isPublicKey (key.map (·.val)) = false → exec (.helmClaim src key) s =
      .next ((s.touch src).respond src .invalidInput stDenied 0 []))) ∧
  (∀ (s : State) (src : Sess) (t slot : Nat) (d : List Nat) (live : Bool) (rest : List BurnJob), slot < 4 →
    s.mgt.burns = ⟨sessNum src, live, .keyProgram slot d⟩ :: rest →
    (s.mayProgram slot = true → ∃ u : State, exec (.fuseBurnVerify src true true t) s = .next u ∧
      u.get F.chtKeyslotProgrammed = (s.get F.chtKeyslotProgrammed ||| 2 ^ slot) % 2 ^ F.chtKeyslotProgrammed.width ∧
      SMap.find? u.nv.chartKeys slot = some d ∧ u.mgt.burns = rest ∧ u.chart = s.chart ∧
      (∀ f : Fld, f.key ≠ F.chtKeyslotProgrammed.key → u.get f = s.get f) ∧
      (live = false → u.sent = s.sent)) ∧
    (live = true → exec (.fuseBurnVerify src false false t) s = .next (((s.at t).modMgt fun u => { u with burns := rest }).respond src
      .invalidInput stDenied 0 []))) ∧
  (∀ (s : State) (src : Sess) (t : Nat) (i c : List Nat) (rest : List BurnJob),
    s.mgt.burns = ⟨sessNum src, true, .helmClaim i c⟩ :: rest → s.get F.mgtCredHelmProg = 0 → ∃ u : State,
      exec (.fuseBurnVerify src true true t) s = .next u ∧ u.get F.mgtCredHelmProg = 1 ∧ (u.get F.chtKeyslotProgrammed).testBit 0 = true ∧
      SMap.find? u.nv.helmKeys 0 = some i ∧ SMap.find? u.nv.chartKeys 0 = some c ∧ u.session src = none) ∧
  (∀ (s : State) (src : Sess) (t n old : Nat) (d : List Nat) (rest : List BurnJob), n < 4 → old < 4 →
    s.mgt.burns = ⟨sessNum src, true, .helmRotate n d old⟩ :: rest → (s.get F.mgtCredHelmProg).testBit n = false → s.helmSlot = some old →
    ∃ u : State, exec (.fuseBurnVerify src true true t) s = .next u ∧ (u.get F.mgtCredHelmProg).testBit n = true ∧
      (u.get F.mgtCredHelmRev).testBit old = true ∧ SMap.find? u.nv.helmKeys n = some d ∧
      ∀ (m : Nat) (x : SessionRec), SMap.find? u.sessions m = some x → x.who.isHelm = false) ∧
  (∀ (s : State) (src : Sess) (ok burned : Bool) (t : Nat), (∀ j ∈ s.mgt.burns, j.sess ≠ sessNum src) →
    exec (.fuseBurnVerify src ok burned t) s = .next (s.at t))

/-- R435, R437, R441: the credential store. The place taken: log entry 75. -/
def Obligations.CredentialsComplete : Prop :=
  (∀ (s : State) (src : Sess) (p : Principal), s.serves src p → p.isHelm = true →
    (∀ (key : List (Fin 256)) (n : Nat), n < 4 → SMap.find? s.nv.pilotKeys n = none → (∀ i : Nat, i < n → (SMap.find? s.nv.pilotKeys i).isSome = true) →
      (isPublicKey (key.map (·.val)) = true → exec (.pilotEnrol src key) s = .next (s.acts src fun u => u.modNv fun v => { v with
        pilotKeys := SMap.put v.pilotKeys n (sha384 (key.map (·.val))) })) ∧
      (isPublicKey (key.map (·.val)) = false → exec (.pilotEnrol src key) s = .next ((s.touch src).respond src .invalidInput stDenied 0 []))) ∧
    (∀ key : List (Fin 256), (∀ i : Nat, i < 4 → (SMap.find? s.nv.pilotKeys i).isSome = true) →
      exec (.pilotEnrol src key) s = .next ((s.touch src).respond src .invalidInput stDenied 0 [])) ∧
    (∀ d : List (Fin 256), (∀ i : Nat, i < 4 → SMap.find? s.nv.pilotKeys i ≠ some (d.map (·.val))) →
      exec (.pilotRemove src d) s = .next ((s.touch src).respond src .invalidInput stDenied 0 [])) ∧
    (∀ (d : List (Fin 256)) (n : Nat), n < 4 → SMap.find? s.nv.pilotKeys n = some (d.map (·.val)) →
      (∀ i : Nat, i < n → SMap.find? s.nv.pilotKeys i ≠ some (d.map (·.val))) → ∃ u : State, exec (.pilotRemove src d) s = .next u ∧
        SMap.find? u.nv.pilotKeys n = none ∧ (∀ m : Nat, m ≠ n → SMap.find? u.nv.pilotKeys m = SMap.find? s.nv.pilotKeys m) ∧
        u.sessions = (s.touch src).sessions.filter (fun e => !(e.2.who == .pilot n)) ∧ u.regs = s.regs)) ∧
  (∀ (s : State) (src : Sess) (p : Principal) (k : Fin 256), s.serves src p → p.isPilot = true →
    (∀ key : List (Fin 256), k.val < 64 → isPublicKey (key.map (·.val)) = true → ∃ u : State,
      exec (.berthKeySet src k (some key)) s = .next u ∧ SMap.find? u.nv.berthKeys k.val = some (sha384 (key.map (·.val))) ∧
      SMap.find? u.sessions (64 + k.val) = none ∧ u.regs = s.regs ∧
      (∀ m : Nat, m ≠ k.val → SMap.find? u.nv.berthKeys m = SMap.find? s.nv.berthKeys m) ∧
      (∀ m : Nat, m ≠ 64 + k.val → SMap.find? u.sessions m = SMap.find? (s.touch src).sessions m)) ∧
    (k.val < 64 → ∃ u : State, exec (.berthKeySet src k none) s = .next u ∧ SMap.find? u.nv.berthKeys k.val = none ∧
      SMap.find? u.sessions (64 + k.val) = none ∧ u.regs = s.regs) ∧
    (64 ≤ k.val → ∀ key : Option (List (Fin 256)), exec (.berthKeySet src k key) s =
      .next ((s.touch src).respond src .invalidInput stDenied 0 [])))

/-- R236, R445, R446: the berth mailbox. The moment a request is taken, and the line of a read at the gate: log entry 76. -/
def Obligations.MailboxComplete : Prop :=
  (∀ (s r : State) (v : Fin 64) (line : Fin (2 ^ 46)), s.pathUp (.mailbox v) = true →
    s.gateCheck gateMgt [line.val] (s.chart.vsBerth v.val) 2 (s.chart.vsUsp v.val) = ([], r) →
    ((s.mailbox v.val).busy = true → exec (.mailboxGo v line) s = .next r) ∧
    ((s.mailbox v.val).busy = false → 1 ≤ (s.mailbox v.val).reqLen → (s.mailbox v.val).reqLen ≤ 12288 →
      exec (.mailboxGo v line) s = .next (r.setMailbox v.val { s.mailbox v.val with ready := false, error := false, busy := true, goAt := s.now })) ∧
    ((s.mailbox v.val).busy = false → (s.mailbox v.val).reqLen = 0 ∨ 12288 < (s.mailbox v.val).reqLen →
      exec (.mailboxGo v line) s = .next (r.setMailbox v.val { s.mailbox v.val with ready := false, error := true })) ∧
    ((s.mailbox v.val).busy = true → s.now < (s.mailbox v.val).goAt + mgtCycle →
      exec (.mailboxAbort v line) s = .next (r.setMailbox v.val { s.mailbox v.val with busy := false })) ∧
    ((s.mailbox v.val).busy = false ∨ (s.mailbox v.val).goAt + mgtCycle ≤ s.now → exec (.mailboxAbort v line) s = .next r) ∧
    (∀ w : Fin (2 ^ 32), exec (.mailboxReqWrite v line 8 ⟨4, w⟩) s = .next (r.setMailbox v.val { s.mailbox v.val with reqLen := w.val % 2 ^ 14 }) ∧
      (∀ i : Fin 32768, i.val % 4 = 0 → 0x1000 ≤ i.val → i.val < 0x4000 →
        ((s.mailbox v.val).busy = false → exec (.mailboxReqWrite v line i ⟨4, w⟩) s = .next (r.setMailbox v.val { s.mailbox v.val with
          req := SMap.put (s.mailbox v.val).req i.val w.val })) ∧
        ((s.mailbox v.val).busy = true → exec (.mailboxReqWrite v line i ⟨4, w⟩) s = .next r)) ∧
      (∀ i : Fin 32768, i.val ≠ 8 → i.val < 0x1000 ∨ 0x4000 ≤ i.val → exec (.mailboxReqWrite v line i ⟨4, w⟩) s = .next r) ∧
      (∀ (i : Fin 32768) (z : Fin 65), z.val ≠ 4 ∨ i.val % 4 ≠ 0 → exec (.mailboxReqWrite v line i ⟨z, w⟩) s = .next r))) ∧
  (∀ (s : State) (v : Fin 64) (line : Fin (2 ^ 46)), s.pathUp (.mailbox v) = true →
    (s.gateCheck gateMgt [line.val] (s.chart.vsBerth v.val) 2 (s.chart.vsUsp v.val)).1 ≠ [] → ∀ (i : Fin 32768) (z : Fin 65) (w : Fin (2 ^ 32)),
      ∃ u : State, exec (.mailboxGo v line) s = .next u ∧ exec (.mailboxAbort v line) s = .next u ∧
        exec (.mailboxReqWrite v line i ⟨z, w⟩) s = .next u ∧ u.mgt.mail = s.mgt.mail) ∧
  (∀ (s : State) (v : Fin 64) (line : Fin (2 ^ 46)) (i : Fin 32768) (z : Fin 65) (w : Fin (2 ^ 32)), s.pathUp (.mailbox v) = false →
    exec (.mailboxGo v line) s = .next s ∧ exec (.mailboxAbort v line) s = .next s ∧ exec (.mailboxReqWrite v line i ⟨z, w⟩) s = .next s) ∧
  (∀ (s r : State) (v : Fin 64) (t : Nat), r = s.at t →
    (r.mailTaken (s.mailbox v.val) = false → ∀ x : Option (List (Fin 256)), exec (.mailboxResponse v x t) s = .next r) ∧
    (r.mailTaken (s.mailbox v.val) = true →
      exec (.mailboxResponse v none t) s = .next (r.setMailbox v.val { s.mailbox v.val with busy := false, error := true }) ∧
      ∀ l : List (Fin 256), l.length ≤ 16384 → ∃ u : State, exec (.mailboxResponse v (some l) t) s = .next u ∧
        (u.mailbox v.val).busy = false ∧ (u.mailbox v.val).ready = true ∧ (u.mailbox v.val).rspLen = l.length ∧ u.regs = r.regs ∧
        ∀ i : Nat, 4 * i < l.length → u.mailWord v.val (0x4000 + 4 * i) = leField (l.map (·.val)) (4 * i) 4))

/-- R405, R440, R442: register commands. Return codes and refusals by an effect: log entry 77. -/
def Obligations.RegisterCommandsComplete : Prop :=
  (∀ (s r : State) (src : Sess) (p : Principal) (off : Fin (2 ^ 28)) (count : Fin 65536), s.serves src p → p.claimed = true → r = s.touch src →
    (off.val % 4 ≠ 0 ∨ count.val = 0 ∨ 1024 < count.val → exec (.regRead src off count) s = .next (r.respond src .invalidInput stDenied 0 [])) ∧
    (off.val % 4 = 0 → 1 ≤ count.val → count.val ≤ 1024 →
      ((∀ i : Nat, i < count.val → r.wordFails p (off.val + 4 * i) none = none) → exec (.regRead src off count) s =
        .next ((r.readWords p (wordAddrs off.val count.val)).2.respond src .success stOk 0 (r.readWords p (wordAddrs off.val count.val)).1)) ∧
      (∀ (i : Nat) (b : Bool), i < count.val → (∀ j : Nat, j < i → r.wordFails p (off.val + 4 * j) none = none) →
        r.wordFails p (off.val + 4 * i) none = some b → exec (.regRead src off count) s =
          .next (r.respond src (if b then .invalidSecurity else .invalidInput) stDenied (min 255 i) [])))) ∧
  (∀ (s r : State) (src : Sess) (p : Principal) (off : Fin (2 ^ 28)) (ws : List (Fin (2 ^ 32))) (l : List (Nat × Nat)), s.serves src p →
    p.claimed = true → r = s.touch src → l = (wordAddrs off.val ws.length).zip (ws.map (·.val)) →
    (off.val % 4 ≠ 0 ∨ ws = [] ∨ 1024 < ws.length → exec (.regWrite src off ws) s = .next (r.respond src .invalidInput stDenied 0 [])) ∧
    (off.val % 4 = 0 → ws ≠ [] → ws.length ≤ 1024 →
      ((∀ x ∈ r.writeChecks p l, x = none) → ∀ (u : State) (e : Option (Nat × Nat)), State.writeWords src p l 0 r = (u, e) →
        (e = none → exec (.regWrite src off ws) s = .next (u.respond src .success stOk 0 [])) ∧
        (∀ i st : Nat, e = some (i, st) → exec (.regWrite src off ws) s = .next (u.respond src (cciOf st) st (min 255 i) []))) ∧
      (∀ (i : Nat) (b : Bool), (r.writeChecks p l)[i]? = some (some b) → (∀ j : Nat, j < i → (r.writeChecks p l)[j]? = some none) →
        exec (.regWrite src off ws) s = .next (r.respond src (if b then .invalidSecurity else .invalidInput) stDenied (min 255 i) [])))) ∧
  (∀ (s : State) (src : Sess) (off : Fin (2 ^ 28)) (w : Fin (2 ^ 32)), exec (.registerWrite src off w) s = exec (.regWrite src off [w]) s) ∧
  (∀ (s r : State) (src : Sess) (p : Principal) (off : Fin (2 ^ 28)), s.principal src = some p → s.fgBusy (sessNum src) = false →
    s.ready = false → p.claimed = true → r = s.touch src →
    (statusWord off.val = true → r.wordFails p off.val none = none → off.val ≠ 0x11204 → exec (.regRead src off 1) s =
      .next (r.respond src .success stOk 0 [(r.readWord p off.val).1])) ∧
    (statusWord off.val = false → exec (.regRead src off 1) s = .next (r.respond src .busy stRetry 0 [])))

/-- R397: the backup registers' writers and readers. -/
def Obligations.BackupRegistersHaveTheirWriters : Prop :=
  ∀ (s : State) (src : Sess) (p : Principal) (i : Fin 32) (off : Fin (2 ^ 28)), s.serves src p → p.isOwner = true →
    off.val = 0x11100 + 4 * i.val →
    exec (.regRead src off 1) s = .next ((s.touch src).respond src .success stOk 0 [s.get (F.almBkp i.val) % 2 ^ 32]) ∧
    ∀ w : Fin (2 ^ 32),
      ((i.val < 16 ∧ p.isHelm = true) ∨ (16 ≤ i.val ∧ p.isPilot = true) →
        exec (.registerWrite src off w) s = .next (s.acts src fun u => u.set (F.almBkp i.val) w.val)) ∧
      ((i.val < 16 ∧ p.isPilot = true) ∨ (16 ≤ i.val ∧ p.isHelm = true) → w.val ≠ s.get (F.almBkp i.val) % 2 ^ 32 →
        exec (.registerWrite src off w) s = .next ((s.touch src).respond src .invalidSecurity stDenied 0 []))

/-- R391, R448: words that cannot be read or written. -/
def Obligations.UnreachableWordsAreRefused : Prop :=
  (∀ (s : State) (src : Sess) (p : Principal) (off : Fin (2 ^ 28)) (n : Nat), s.serves src p → p.claimed = true → off.val % 4 = 0 →
    (∃ i : Nat, i < n ∧ (mapped (off.val + 4 * i) = false ∨ s.reach (off.val + 4 * i) = false)) →
    (∀ count : Fin 65536, count.val = n → n ≤ 1024 → ∃ (code : Cci) (d : Nat), exec (.regRead src off count) s =
      .next ((s.touch src).respond src code stDenied d [])) ∧
    (∀ ws : List (Fin (2 ^ 32)), ws.length = n → n ≤ 1024 → ∃ (code : Cci) (d : Nat), exec (.regWrite src off ws) s =
      .next ((s.touch src).respond src code stDenied d []))) ∧
  (∀ (s : State) (src : Sess) (p : Principal) (off : Fin (2 ^ 28)) (count : Fin 65536) (i : Nat), s.serves src p → p.claimed = true →
    off.val % 4 = 0 → i < count.val → count.val ≤ 1024 → (∀ j : Nat, j < i → (s.touch src).wordFails p (off.val + 4 * j) none = none) →
    (mapped (off.val + 4 * i) = false ∨ s.reach (off.val + 4 * i) = false) →
    exec (.regRead src off count) s = .next ((s.touch src).respond src .invalidInput stDenied (min 255 i) [])) ∧
  (∀ (s : State) (src : Sess) (p : Principal) (off : Fin (2 ^ 28)) (ws : List (Fin (2 ^ 32))) (i : Nat), s.serves src p → p.claimed = true →
    off.val % 4 = 0 → i < ws.length → ws.length ≤ 1024 →
    (∀ j : Nat, j < i → ((s.touch src).writeChecks p ((wordAddrs off.val ws.length).zip (ws.map (·.val))))[j]? = some none) →
    (mapped (off.val + 4 * i) = false ∨ s.reach (off.val + 4 * i) = false) →
    exec (.regWrite src off ws) s = .next ((s.touch src).respond src .invalidInput stDenied (min 255 i) [])) ∧
  (∀ a : Nat, 0x8000000 ≤ a → mapped a = false) ∧
  (∀ a : Nat, wordAt a = none → bufferAt a = false → mapped a = false) ∧
  (∀ (s : State) (g a : Nat), g < 8 → (s.get F.hubTopoRegionPowered).testBit g = false → inReach regionRanges g a = true →
    s.reach a = false) ∧
  (∀ (s : State) (n a : Nat), n < 128 → (∀ i : Nat, i < 8 → s.chart.isOff (8 * n + i) = true) → inReach blockRanges n a = true →
    s.reach a = false) ∧
  (∀ (s : State) (a : Nat), (0x100000 ≤ a ∧ a < 0x200000) ∨ (0x14000 ≤ a ∧ a < 0x15000) ∨ (0x12000 ≤ a ∧ a < 0x13000) ∨
    (0x13000 ≤ a ∧ a < 0x14000) ∨ (0x4000000 ≤ a ∧ a < 0x8000000) ∨ (0x11000 ≤ a ∧ a < 0x12000) ∨ (0x10000 ≤ a ∧ a < 0x11000) ∨
    (0x3000000 ≤ a ∧ a < 0x3800000) → s.reach a = true)

/-- R18, R411, R444: one step. The queue and the idle cycle: log entry 3. -/
def Obligations.StepTakesTheFront : Prop :=
  (∀ (s : State) (c : Instr) (rest : List Instr), step { s with pending := c :: rest } = exec c { s with pending := rest }) ∧
  (∀ s : State, s.pending = [] → ∃ u : State, step s = .next u ∧ u.now = s.now + 2500 ∧ { u with now := s.now, ctrs := s.ctrs, fresh := s.fresh } = s) ∧
  (∀ s : State, ∃ u : State, step s = .next u)

/-- R5, R42, R55, R398, R423, R437: reset. Values the spec does not give: log entries 4 to 8. -/
def Obligations.ResetIsAsTheSpecSays : Prop :=
  (∀ f : Fld, State.reset.get f = f.reset) ∧ State.reset.pending = [] ∧ State.reset.now = 0 ∧ State.reset.sessions = [] ∧
  State.reset.chart = [] ∧ State.reset.effGen = 0 ∧ State.reset.nv.floor = 0 ∧ State.reset.core.staged = [] ∧ State.reset.core.bolt = [] ∧
  State.reset.home.dir = [] ∧ State.reset.lod.objects = [] ∧ State.reset.lvc.slips = [] ∧ State.reset.lvc.queue = [] ∧
  State.reset.ctrs = [] ∧ State.reset.ready = false ∧ State.reset.tidy

/-- R2, R331, R405, R434, R438, R440, R441: the rights of principals, over all reserved commands. -/
def Obligations.ReservedCommandsAreRefusedToOthers : Prop :=
  ∀ (s : State) (c : Instr) (src : Sess) (may : Principal → Bool), Instr.reserved c = some (src, may) →
    (∀ p : Principal, s.serves src p → may p = false → exec c s = .next ((s.touch src).respond src .invalidSecurity stDenied 0 [])) ∧
    (s.principal src = none → exec c s = .next (s.bump F.mgtMctpstatUnsecured 1)) ∧
    (∀ p : Principal, s.principal src = some p → s.ready = false ∨ s.fgBusy (sessNum src) = true →
      exec c s = .next ((s.touch src).respond src .busy stRetry 0 [])) ∧
    { s.touch src with sessions := s.sessions } = s

/-- R2, R331, R435, R441 to R443: a berth agent changes nothing but its own acknowledgements. -/
def Obligations.BerthAgentsChangeOnlyTheirAttention : Prop :=
  ∀ (s u : State) (c : Instr) (src : Sess) (k : Nat), k < 64 → Instr.session c = some src → s.principal src = some (.berth k) →
    (∀ b ∈ s.bgs, b.sess = sessNum src → b.live = true → b.opcode ≠ 0xC040) → exec c s = .next u →
    { u with sessions := s.sessions, sent := s.sent, bgs := s.bgs, mgt := s.mgt, regs := s.regs } = s ∧
    ∀ f : Fld, f.addr < 0x14100 + 16 * k ∨ 0x14100 + 16 * k + 16 ≤ f.addr → f.key ≠ F.mgtMctpstatUnsecured.key → u.get f = s.get f

/-- R42, R398, R444: what every step keeps. The queue: log entry 3. -/
def Obligations.EveryStepKeepsQueueTimeAndFloor : Prop :=
  ∀ s t : State, step s = .next t → t.pending = s.pending.tail ∧ s.now ≤ t.now ∧ s.nv.floor ≤ t.nv.floor
end

