-- ==== Sys2Proof/Laws/Table.lean ====
section
/-! SUPPORT. What look-up, put and delete do on a table, and that they keep its keys rising. -/
namespace Sys2Proof

@[simp] theorem SMap.find?_nil {α : Type} (k : Nat) : SMap.find? ([] : SMap α) k = none := rfl

theorem SMap.find?_put {α : Type} (m : SMap α) (k j : Nat) (v : α) :
    SMap.find? (SMap.put m k v) j = if k = j then some v else SMap.find? m j := by
  induction m with
  | nil => simp [SMap.put, SMap.find?]
  | cons e r ih =>
    obtain ⟨a, w⟩ := e
    simp only [SMap.put]
    split_ifs <;> simp_all [SMap.find?] <;> split_ifs <;> simp_all

@[simp] theorem SMap.find?_put_same {α : Type} (m : SMap α) (k : Nat) (v : α) : SMap.find? (SMap.put m k v) k = some v := by
  simp [SMap.find?_put]

theorem SMap.find?_put_of_ne {α : Type} (m : SMap α) {k j : Nat} (v : α) (h : k ≠ j) :
    SMap.find? (SMap.put m k v) j = SMap.find? m j := by simp [SMap.find?_put, h]

theorem SMap.find?_del {α : Type} (m : SMap α) (k j : Nat) :
    SMap.find? (SMap.del m k) j = if k = j then none else SMap.find? m j := by
  induction m with
  | nil => simp [SMap.del]
  | cons e r ih =>
    obtain ⟨a, w⟩ := e
    simp only [SMap.del, List.filter_cons] at ih ⊢
    split_ifs <;> simp_all [SMap.find?] <;> split_ifs <;> simp_all

@[simp] theorem SMap.find?_del_same {α : Type} (m : SMap α) (k : Nat) : SMap.find? (SMap.del m k) k = none := by
  simp [SMap.find?_del]

theorem SMap.find?_del_of_ne {α : Type} (m : SMap α) {k j : Nat} (h : k ≠ j) :
    SMap.find? (SMap.del m k) j = SMap.find? m j := by simp [SMap.find?_del, h]

/-- The keys of a table rise exactly when the list of keys is strictly sorted. -/
theorem SMap.sorted_iff {α : Type} (m : SMap α) : SMap.sorted m = true ↔ (m.map (·.1)).Pairwise (· < ·) := by
  induction m with
  | nil => simp [SMap.sorted]
  | cons e r ih =>
    cases r with
    | nil => simp [SMap.sorted]
    | cons f q =>
      obtain ⟨a, v⟩ := e
      obtain ⟨b, w⟩ := f
      simp only [SMap.sorted, Bool.and_eq_true, decide_eq_true_eq, ih, List.map_cons, List.pairwise_cons, List.mem_cons,
        forall_eq_or_imp]
      constructor
      · rintro ⟨h, h1, h2⟩
        exact ⟨⟨h, fun x hx => lt_trans h (h1 x hx)⟩, h1, h2⟩
      · rintro ⟨⟨h, _⟩, h1, h2⟩
        exact ⟨h, h1, h2⟩

theorem SMap.sorted_filter {α : Type} (m : SMap α) (p : Nat × α → Bool) (h : SMap.sorted m = true) :
    SMap.sorted (m.filter p) = true := by
  rw [SMap.sorted_iff] at h ⊢
  exact h.sublist (List.Sublist.map _ List.filter_sublist)

theorem SMap.sorted_del {α : Type} (m : SMap α) (k : Nat) (h : SMap.sorted m = true) : SMap.sorted (SMap.del m k) = true :=
  SMap.sorted_filter m _ h

theorem SMap.mem_keys_put {α : Type} (m : SMap α) (k : Nat) (v : α) (j : Nat) (h : j ∈ (SMap.put m k v).map (·.1)) :
    j = k ∨ j ∈ m.map (·.1) := by
  induction m with
  | nil => simpa [SMap.put] using h
  | cons e r ih =>
    obtain ⟨a, w⟩ := e
    simp only [SMap.put] at h
    split_ifs at h <;> simp_all <;> grind

theorem SMap.sorted_put {α : Type} (m : SMap α) (k : Nat) (v : α) (h : SMap.sorted m = true) : SMap.sorted (SMap.put m k v) = true := by
  rw [SMap.sorted_iff] at h ⊢
  induction m with
  | nil => simp [SMap.put]
  | cons e r ih =>
    obtain ⟨a, w⟩ := e
    simp only [List.map_cons, List.pairwise_cons] at h
    simp only [SMap.put]
    split_ifs with h1 h2
    · subst h1
      simpa using h
    · simp only [List.map_cons, List.pairwise_cons, List.mem_cons, forall_eq_or_imp]
      exact ⟨⟨h2, fun x hx => lt_trans h2 (h.1 x hx)⟩, h⟩
    · simp only [List.map_cons, List.pairwise_cons]
      refine ⟨fun x hx => ?_, ih h.2⟩
      rcases SMap.mem_keys_put r k v x hx with rfl | hx
      · omega
      · exact h.1 x hx

end Sys2Proof
end

