-- ==== Sys2Proof/Laws/Regs.lean ====
section
/-! SUPPORT. Reading a register field after a write (R5): the field written reads the value, every other field reads as before. -/
namespace Sys2Proof.Machine

/-- Setting a field writes the registers as storing it does. -/
theorem State.set_regs (s : State) (f : Fld) (v : Nat) : (s.set f v).regs =
    if v % 2 ^ f.width = f.reset then SMap.del s.regs f.key else SMap.put s.regs f.key (v % 2 ^ f.width) := rfl

theorem State.get_set_same (s : State) (f : Fld) (v : Nat) : (s.set f v).get f = v % 2 ^ f.width := by
  unfold State.get
  rw [State.set_regs]
  split_ifs with h
  · simp [h]
  · simp

theorem State.get_set_of_ne (s : State) (f g : Fld) (v : Nat) (h : f.key ≠ g.key) : (s.set f v).get g = s.get g := by
  unfold State.get
  rw [State.set_regs]
  split_ifs
  · simp [SMap.find?_del_of_ne _ h]
  · simp [SMap.find?_put_of_ne _ _ h]

theorem State.set_sorted (s : State) (f : Fld) (v : Nat) (h : SMap.sorted s.regs = true) : SMap.sorted (s.set f v).regs = true := by
  rw [State.set_regs]
  split_ifs
  · exact SMap.sorted_del _ _ h
  · exact SMap.sorted_put _ _ _ h

end Sys2Proof.Machine
end

