-- ==== Sys2Proof/Laws/Session.lean ====
section
/-! SUPPORT. What a command of a session does (R2, R405, R434, R438), once: served, refused, answered Busy, discarded. -/
namespace Sys2Proof.Machine

theorem State.commandWhen_served {s : State} {src : Sess} {p : Principal} (h : s.serves src p) (early : Bool)
    {rights : Principal → Bool} (hr : rights p = true) (act : Principal → State → State) :
    s.commandWhen src early rights act = act p (s.touch src) := by
  obtain ⟨h1, h2, h3⟩ := h
  simp [State.commandWhen, h1, h2, h3, hr]

theorem State.command_served {s : State} {src : Sess} {p : Principal} (h : s.serves src p) {rights : Principal → Bool}
    (hr : rights p = true) (act : Principal → State → State) : s.command src rights act = act p (s.touch src) :=
  State.commandWhen_served h false hr act

theorem State.command_refused {s : State} {src : Sess} {p : Principal} (h : s.serves src p) {rights : Principal → Bool}
    (hr : rights p = false) (act : Principal → State → State) :
    s.command src rights act = (s.touch src).respond src .invalidSecurity stDenied 0 [] := by
  obtain ⟨h1, h2, h3⟩ := h
  simp [State.command, State.commandWhen, h1, h2, h3, hr]

theorem State.command_unopened {s : State} {src : Sess} (h : s.principal src = none) (rights : Principal → Bool)
    (act : Principal → State → State) : s.command src rights act = s.bump F.mgtMctpstatUnsecured 1 := by
  simp [State.command, State.commandWhen, h]

theorem State.regCommand_served {s : State} {src : Sess} {p : Principal} (h : s.serves src p) {rights : Principal → Bool}
    (hr : rights p = true) (act : Principal → State → State × Nat) :
    s.regCommand src rights act =
      (act p (s.touch src)).1.respond src (cciOf (act p (s.touch src)).2) (act p (s.touch src)).2 0 [] :=
  State.command_served h hr _

theorem State.regCommandAt_served {s : State} {src : Sess} {p : Principal} (h : s.serves src p) {a : Nat}
    (ha : (s.touch src).reach a = true) {rights : Principal → Bool} (hr : rights p = true) (act : Principal → State → State × Nat) :
    s.regCommandAt src a rights act =
      (act p (s.touch src)).1.respond src (cciOf (act p (s.touch src)).2) (act p (s.touch src)).2 0 [] := by
  rw [State.regCommandAt, State.regCommand_served h hr]
  simp [ha]

/-- A message of a session changes nothing but when the session was last heard. -/
theorem State.touch_eq (s : State) (src : Sess) : s.touch src = { s with sessions := (s.touch src).sessions } := rfl

@[simp] theorem State.touch_get (s : State) (src : Sess) (f : Fld) : (s.touch src).get f = s.get f := rfl
@[simp] theorem State.touch_regs (s : State) (src : Sess) : (s.touch src).regs = s.regs := rfl
@[simp] theorem State.touch_reach (s : State) (src : Sess) (a : Nat) : (s.touch src).reach a = s.reach a := rfl
@[simp] theorem State.respond_regs (s : State) (src : Sess) (c : Cci) (st d : Nat) (l : List Nat) :
    (s.respond src c st d l).regs = s.regs := rfl
@[simp] theorem State.respond_get (s : State) (src : Sess) (c : Cci) (st d : Nat) (l : List Nat) (f : Fld) :
    (s.respond src c st d l).get f = s.get f := rfl
@[simp] theorem State.emit_get (s : State) (e : Emit) (f : Fld) : (s.emit e).get f = s.get f := rfl
@[simp] theorem cciOf_ok : cciOf stOk = .success := rfl

end Sys2Proof.Machine
end

