-- ==== Sys2Proof/Laws/Spine.lean ====
section
/-! SUPPORT. What commands leave of the queue of commands, the time and the anti-rollback floor (R42, R398, R444): one lemma for each
operation. A timed command leaves what the passing of time alone leaves; only the commits of a chart raise the floor. -/
namespace Sys2Proof.Machine
set_option linter.all false

/-- The queue of commands, the time, and the floor of the anti-rollback rule. -/
def State.spine (s : State) : List Instr × Nat × Nat := (s.pending, s.now, s.nv.floor)
theorem spine_eta (s : State) : (s.pending, s.now, s.nv.floor) = s.spine := rfl
theorem spine_mk (x0) (x1) (x2) (x3) (x4) (x5) (x6) (x7) (x8) (x9) (x10) (x11) (x12) (x13) (x14) (x15) (x16) (x17) (x18) (x19) (x20) (x21) (x22) (x23) (x24) (x25) (x26) (x27) :
    (State.mk x0 x1 x2 x3 x4 x5 x6 x7 x8 x9 x10 x11 x12 x13 x14 x15 x16 x17 x18 x19 x20 x21 x22 x23 x24 x25 x26 x27).spine = (x0, x1, x9.floor) := rfl
theorem ite_keep {c : Prop} [Decidable c] {a b : State} {x : List Instr × Nat × Nat} (h : c → a.spine = x) (g : ¬c → b.spine = x) :
    (if c then a else b).spine = x := by
  split <;> simp_all
theorem dite_keep {c : Prop} [Decidable c] {a : c → State} {b : ¬c → State} {x : List Instr × Nat × Nat} (h : ∀ k, (a k).spine = x)
    (g : ∀ k, (b k).spine = x) : (dite c a b).spine = x := by
  split <;> simp_all
theorem spine_mk_keep {s : State} {y2} {y3} {y4} {y5} {y6} {y7} {y8} {y10} {y11} {y12} {y13} {y14} {y15} {y16} {y17} {y18} {y19} {y20} {y21} {y22} {y23} {y24} {y25} {y26} {y27}
    {x : List Instr × Nat × Nat} (h : s.spine = x) :
    (State.mk s.pending s.now y2 y3 y4 y5 y6 y7 y8 s.nv y10 y11 y12 y13 y14 y15 y16 y17 y18 y19 y20 y21 y22 y23 y24 y25 y26 y27).spine = x := h
theorem foldl_spine {α : Type} (l : List α) (g : State → α → State) (h : ∀ s a, (g s a).spine = s.spine) (s : State) : (l.foldl g s).spine = s.spine := by
  induction l generalizing s with
  | nil => rfl
  | cons a r ih => simp only [List.foldl_cons, ih, h]
theorem foldl_keep {α : Type} {l : List α} {g : State → α → State} {s : State} {x : List Instr × Nat × Nat} (h : ∀ s a, (g s a).spine = s.spine) (k : s.spine = x) : (l.foldl g s).spine = x := (foldl_spine l g h s).trans k
theorem ite_keep1 {β : Type} {c : Prop} [Decidable c] {a b : State × β} {x : List Instr × Nat × Nat} (h : c → a.1.spine = x)
    (g : ¬c → b.1.spine = x) : (if c then a else b).1.spine = x := by
  split <;> simp_all
theorem spine_of {a b : State} {x : List Instr × Nat × Nat} (h : a.spine = x) (k : b.spine = x) : (a.pending, a.now, b.nv.floor) = x := by
  subst h
  have := congrArg (·.2.2) k
  simp only [State.spine] at this ⊢
  rw [this]
theorem State.at_now_spine (s : State) : (s.at s.now).spine = s.spine := by unfold State.at; rw [if_pos le_rfl]
theorem State.modSessions_spine (s : State) (f : Sys2Proof.SMap SessionRec → Sys2Proof.SMap SessionRec) : (State.modSessions s f).spine = s.spine := rfl
theorem State.modChart_spine (s : State) (f : Chart → Chart) : (State.modChart s f).spine = s.spine := rfl
theorem State.modChtu_spine (s : State) (f : ChartUnit → ChartUnit) : (State.modChtu s f).spine = s.spine := rfl
theorem State.modNv_spine (s : State) (f : NonVolatile → NonVolatile) : (s.modNv f).spine = (s.pending, s.now, (f s.nv).floor) := rfl
theorem State.modLvc_spine (s : State) (f : LeaveUnit → LeaveUnit) : (State.modLvc s f).spine = s.spine := rfl
theorem State.modFlt_spine (s : State) (f : FaultUnit → FaultUnit) : (State.modFlt s f).spine = s.spine := rfl
theorem State.modClk_spine (s : State) (f : ClockUnit → ClockUnit) : (State.modClk s f).spine = s.spine := rfl
theorem State.modPwr_spine (s : State) (f : PowerUnit → PowerUnit) : (State.modPwr s f).spine = s.spine := rfl
theorem State.modEcc_spine (s : State) (f : EccUnit → EccUnit) : (State.modEcc s f).spine = s.spine := rfl
theorem State.modLan_spine (s : State) (f : LaneUnit → LaneUnit) : (State.modLan s f).spine = s.spine := rfl
theorem State.modLnk_spine (s : State) (f : LinkUnit → LinkUnit) : (State.modLnk s f).spine = s.spine := rfl
theorem State.modHome_spine (s : State) (f : HomeUnit → HomeUnit) : (State.modHome s f).spine = s.spine := rfl
theorem State.modSeam_spine (s : State) (f : SeamUnit → SeamUnit) : (State.modSeam s f).spine = s.spine := rfl
theorem State.modLod_spine (s : State) (f : LodUnit → LodUnit) : (State.modLod s f).spine = s.spine := rfl
theorem State.modCpy_spine (s : State) (f : CopyUnit → CopyUnit) : (State.modCpy s f).spine = s.spine := rfl
theorem State.modBnd_spine (s : State) (f : BindUnit → BindUnit) : (State.modBnd s f).spine = s.spine := rfl
theorem State.modCore_spine (s : State) (f : CoreUnit → CoreUnit) : (State.modCore s f).spine = s.spine := rfl
theorem State.modCtrs_spine (s : State) (f : Sys2Proof.SMap Ctr → Sys2Proof.SMap Ctr) : (State.modCtrs s f).spine = s.spine := rfl
theorem State.modMgt_spine (s : State) (f : MgtUnit → MgtUnit) : (State.modMgt s f).spine = s.spine := rfl
theorem State.modTal_spine (s : State) (f : TallyUnit → TallyUnit) : (State.modTal s f).spine = s.spine := rfl
theorem State.modThm_spine (s : State) (f : ThermalUnit → ThermalUnit) : (State.modThm s f).spine = s.spine := rfl
theorem State.store_spine (s : State) (f : Fld) (v : Nat) : (State.store s f v).spine = s.spine := rfl
theorem State.set_spine (s : State) (f : Fld) (v : Nat) : (State.set s f v).spine = s.spine := rfl
theorem State.bump_spine (s : State) (f : Fld) (n : Nat) : (State.bump s f n).spine = s.spine := by
  unfold State.bump; repeat' first
    | with_reducible rfl | with_reducible refine ite_keep (fun _ => ?_) (fun _ => ?_) | with_reducible refine foldl_keep (fun _ _ => ?_) ?_
    | with_reducible refine dite_keep (fun _ => ?_) (fun _ => ?_) | with_reducible refine (State.set_spine ..).trans ?_
    | simp only [spine_mk, spine_eta] | dsimp only | split
theorem State.wrapAdd_spine (s : State) (f : Fld) (n : Nat) : (State.wrapAdd s f n).spine = s.spine := by
  unfold State.wrapAdd; repeat' first
    | with_reducible rfl | with_reducible refine ite_keep (fun _ => ?_) (fun _ => ?_) | with_reducible refine foldl_keep (fun _ _ => ?_) ?_
    | with_reducible refine dite_keep (fun _ => ?_) (fun _ => ?_) | with_reducible refine (State.set_spine ..).trans ?_
    | simp only [spine_mk, spine_eta] | dsimp only | split
theorem State.setFlag_spine (s : State) (f : Fld) (b : Bool) : (State.setFlag s f b).spine = s.spine := by
  unfold State.setFlag; repeat' first
    | with_reducible rfl | with_reducible refine ite_keep (fun _ => ?_) (fun _ => ?_) | with_reducible refine foldl_keep (fun _ _ => ?_) ?_
    | with_reducible refine dite_keep (fun _ => ?_) (fun _ => ?_) | with_reducible refine (State.set_spine ..).trans ?_
    | simp only [spine_mk, spine_eta] | dsimp only | split
theorem State.setBit_spine (s : State) (f : Fld) (i : Nat) : (State.setBit s f i).spine = s.spine := by
  unfold State.setBit; repeat' first
    | with_reducible rfl | with_reducible refine ite_keep (fun _ => ?_) (fun _ => ?_) | with_reducible refine foldl_keep (fun _ _ => ?_) ?_
    | with_reducible refine dite_keep (fun _ => ?_) (fun _ => ?_) | with_reducible refine (State.set_spine ..).trans ?_
    | simp only [spine_mk, spine_eta] | dsimp only | split
theorem State.clearBit_spine (s : State) (f : Fld) (i : Nat) : (State.clearBit s f i).spine = s.spine := by
  unfold State.clearBit; repeat' first
    | with_reducible rfl | with_reducible refine ite_keep (fun _ => ?_) (fun _ => ?_) | with_reducible refine foldl_keep (fun _ _ => ?_) ?_
    | with_reducible refine dite_keep (fun _ => ?_) (fun _ => ?_) | with_reducible refine (State.set_spine ..).trans ?_
    | simp only [spine_mk, spine_eta] | dsimp only | split
theorem State.setAll_spine (s : State) (l : List (Fld × Nat)) : (State.setAll s l).spine = s.spine := by
  unfold State.setAll; repeat' first
    | with_reducible rfl | with_reducible refine ite_keep (fun _ => ?_) (fun _ => ?_) | with_reducible refine foldl_keep (fun _ _ => ?_) ?_
    | with_reducible refine dite_keep (fun _ => ?_) (fun _ => ?_) | with_reducible refine (State.set_spine ..).trans ?_
    | simp only [spine_mk, spine_eta] | dsimp only | split
theorem State.emit_spine (s : State) (e : Emit) : (State.emit s e).spine = s.spine := rfl
theorem State.resetRange_spine (s : State) (lo : Nat) (hi : Nat) : (State.resetRange s lo hi).spine = s.spine := rfl
theorem State.at_spine (s : State) (t : Nat) : (s.at t).spine = (s.pending, max s.now t, s.nv.floor) := by
  unfold State.at; split
  · rw [max_eq_left (by omega)]; rfl
  · rw [max_eq_right (by omega)]; rfl
theorem State.count_spine (s : State) (loc : Nat × Nat) (code : Nat) (sub : Nat → Bool) (berth : Option Nat) (n : Nat) :
    (State.count s loc code sub berth n).spine = s.spine := by
  unfold State.count; repeat' first
    | simp only [spine_mk, spine_eta] | split
theorem State.countCell_spine (s : State) (p : Nat) (code : Nat) (berth : Option Nat) (n : Nat) :
    (State.countCell s p code berth n).spine = s.spine := by
  unfold State.countCell; repeat' first
    | with_reducible rfl | with_reducible refine ite_keep (fun _ => ?_) (fun _ => ?_) | with_reducible refine foldl_keep (fun _ _ => ?_) ?_
    | with_reducible refine dite_keep (fun _ => ?_) (fun _ => ?_) | with_reducible refine (State.count_spine ..).trans ?_
    | simp only [spine_mk, spine_eta] | dsimp only | split
theorem State.raiseOne_spine (s : State) (code : Nat) (a : Nat) : (State.raiseOne s code a).spine = s.spine := by
  unfold State.raiseOne; repeat' first
    | with_reducible rfl | with_reducible refine ite_keep (fun _ => ?_) (fun _ => ?_) | with_reducible refine foldl_keep (fun _ _ => ?_) ?_
    | with_reducible refine dite_keep (fun _ => ?_) (fun _ => ?_) | with_reducible refine (State.wrapAdd_spine ..).trans ?_
    | with_reducible refine (State.set_spine ..).trans ?_ | simp only [spine_mk, spine_eta] | dsimp only | split
theorem State.raise_spine (s : State) (code : Nat) (auds : List Nat) : (State.raise s code auds).spine = s.spine := by
  unfold State.raise; repeat' first
    | with_reducible rfl | with_reducible refine ite_keep (fun _ => ?_) (fun _ => ?_) | with_reducible refine foldl_keep (fun _ _ => ?_) ?_
    | with_reducible refine dite_keep (fun _ => ?_) (fun _ => ?_) | with_reducible refine (State.raiseOne_spine ..).trans ?_
    | simp only [spine_mk, spine_eta] | dsimp only | split
theorem State.notify_spine (s : State) (code : Nat) : (State.notify s code).spine = s.spine := by
  unfold State.notify; repeat' first
    | with_reducible rfl | with_reducible refine ite_keep (fun _ => ?_) (fun _ => ?_) | with_reducible refine foldl_keep (fun _ _ => ?_) ?_
    | with_reducible refine dite_keep (fun _ => ?_) (fun _ => ?_) | with_reducible refine (State.raise_spine ..).trans ?_
    | simp only [spine_mk, spine_eta] | dsimp only | split
theorem State.respond_spine (s : State) (src : Sys2Proof.Sess) (code : Cci) (status : Nat) (detail : Nat) (data : List Nat) :
    (State.respond s src code status detail data).spine = s.spine := by
  unfold State.respond; repeat' first
    | with_reducible rfl | with_reducible refine ite_keep (fun _ => ?_) (fun _ => ?_) | with_reducible refine foldl_keep (fun _ _ => ?_) ?_
    | with_reducible refine dite_keep (fun _ => ?_) (fun _ => ?_) | with_reducible refine (State.emit_spine ..).trans ?_
    | simp only [spine_mk, spine_eta] | dsimp only | split
theorem State.touch_spine (s : State) (src : Sys2Proof.Sess) : (State.touch s src).spine = s.spine := rfl
theorem State.commandWhen_spine {s : State} {src : Sess} {early : Bool} {rights : Principal → Bool} {act : Principal → State → State} (h : ∀ p u, (act p u).spine = u.spine) :
    (s.commandWhen src early rights act).spine = s.spine := by
  unfold State.commandWhen; repeat' first
    | with_reducible rfl | exact (h ..).trans rfl | exact rfl | split
theorem State.command_spine {s : State} {src : Sess} {rights : Principal → Bool} {act : Principal → State → State} (h : ∀ p u, (act p u).spine = u.spine) : (s.command src rights act).spine = s.spine := State.commandWhen_spine h
theorem State.regCommand_spine {s : State} {src : Sess} {rights : Principal → Bool} {act : Principal → State → State × Nat} (h : ∀ p u, (act p u).1.spine = u.spine) : (s.regCommand src rights act).spine = s.spine := State.command_spine fun p u => (h p u)
theorem State.regCommandAt_spine {s : State} {src : Sess} {a : Nat} {rights : Principal → Bool} {act : Principal → State → State × Nat} (h : ∀ p u, (act p u).1.spine = u.spine) : (s.regCommandAt src a rights act).spine = s.spine := State.regCommand_spine fun p u => by split; exact h p u; rfl
theorem State.startBg_spine {s : State} {src : Sess} {p : Principal} {opcode target : Nat} {act : State → State} (h : ∀ u, (act u).spine = u.spine) :
    (s.startBg src p opcode target act).spine = s.spine := by
  unfold State.startBg; split; rfl; exact (h _).trans rfl
theorem State.endBg_spine (s : State) (n : Nat) (opcode : Nat) (code : Cci) (status : Nat) (detail : Nat) : (State.endBg s n opcode code status detail).spine = s.spine := rfl
theorem State.endBgOn_spine (s : State) (opcode : Nat) (target : Nat) (code : Cci) (status : Nat) : (State.endBgOn s opcode target code status).spine = s.spine := rfl
theorem State.endChart_spine (s : State) (code : Nat) (sect : Nat) (loc : Nat) : (State.endChart s code sect loc).spine = s.spine := by
  unfold State.endChart; repeat' first
    | with_reducible refine (State.setAll_spine ..).trans ?_ | with_reducible refine (State.endBg_spine ..).trans ?_
    | simp only [spine_mk, spine_eta] | split
theorem State.notePeak_spine (s : State) (p : Nat) : (State.notePeak s p).spine = s.spine := by
  unfold State.notePeak; repeat' first
    | with_reducible rfl | with_reducible refine ite_keep (fun _ => ?_) (fun _ => ?_) | with_reducible refine foldl_keep (fun _ _ => ?_) ?_
    | with_reducible refine dite_keep (fun _ => ?_) (fun _ => ?_) | with_reducible refine (State.set_spine ..).trans ?_
    | simp only [spine_mk, spine_eta] | dsimp only | split
theorem State.noteFree_spine (s : State) (g : Nat) : (State.noteFree s g).spine = s.spine := by
  unfold State.noteFree; repeat' first
    | with_reducible rfl | with_reducible refine ite_keep (fun _ => ?_) (fun _ => ?_) | with_reducible refine foldl_keep (fun _ _ => ?_) ?_
    | with_reducible refine dite_keep (fun _ => ?_) (fun _ => ?_) | with_reducible refine (State.set_spine ..).trans ?_
    | simp only [spine_mk, spine_eta] | dsimp only | split
theorem State.clearOverq_spine (s : State) (g : Nat) : (State.clearOverq s g).spine = s.spine := by
  unfold State.clearOverq; repeat' first
    | with_reducible rfl | with_reducible refine ite_keep (fun _ => ?_) (fun _ => ?_) | with_reducible refine foldl_keep (fun _ _ => ?_) ?_
    | with_reducible refine dite_keep (fun _ => ?_) (fun _ => ?_) | with_reducible refine (State.set_spine ..).trans ?_
    | simp only [spine_mk, spine_eta] | dsimp only | split
theorem State.emptyCore_spine (s : State) : (State.emptyCore s).spine = s.spine := by
  unfold State.emptyCore; repeat' first
    | with_reducible rfl | with_reducible refine ite_keep (fun _ => ?_) (fun _ => ?_) | with_reducible refine foldl_keep (fun _ _ => ?_) ?_
    | with_reducible refine dite_keep (fun _ => ?_) (fun _ => ?_) | with_reducible refine (State.clearOverq_spine ..).trans ?_
    | with_reducible refine (State.modSeam_spine ..).trans ?_ | with_reducible refine (State.modCore_spine ..).trans ?_
    | with_reducible refine ite_keep1 (fun _ => ?_) (fun _ => ?_) | with_reducible refine spine_of ?_ ?_ | simp only [spine_mk, spine_eta]
    | dsimp only | split | exact rfl
theorem State.sendCredits_spine (s : State) (p : Nat) (fc : Sys2Proof.FcClass) (headers : Nat) (data : Nat) :
    (State.sendCredits s p fc headers data).spine = s.spine := by
  unfold State.sendCredits; repeat' first
    | with_reducible rfl | with_reducible refine ite_keep (fun _ => ?_) (fun _ => ?_) | with_reducible refine foldl_keep (fun _ _ => ?_) ?_
    | with_reducible refine dite_keep (fun _ => ?_) (fun _ => ?_) | with_reducible refine (State.emit_spine ..).trans ?_
    | with_reducible refine (State.modLnk_spine ..).trans ?_ | with_reducible refine ite_keep1 (fun _ => ?_) (fun _ => ?_)
    | with_reducible refine spine_of ?_ ?_ | simp only [spine_mk, spine_eta] | dsimp only | split | exact rfl
theorem State.returnCredits_spine (s : State) (m : Msg) : (State.returnCredits s m).spine = s.spine := by
  unfold State.returnCredits; repeat' first
    | with_reducible rfl | with_reducible refine ite_keep (fun _ => ?_) (fun _ => ?_) | with_reducible refine foldl_keep (fun _ _ => ?_) ?_
    | with_reducible refine dite_keep (fun _ => ?_) (fun _ => ?_) | with_reducible refine (State.sendCredits_spine ..).trans ?_
    | with_reducible refine ite_keep1 (fun _ => ?_) (fun _ => ?_) | with_reducible refine spine_of ?_ ?_ | simp only [spine_mk, spine_eta]
    | dsimp only | split | exact rfl
theorem State.dropStaged_spine (s : State) (m : Msg) : (State.dropStaged s m).spine = s.spine := by
  unfold State.dropStaged; repeat' first
    | with_reducible refine (State.returnCredits_spine ..).trans ?_ | simp only [spine_mk, spine_eta] | split
theorem State.unstage_spine (s : State) (m : Msg) : (State.unstage s m).spine = s.spine := by
  unfold State.unstage; repeat' first
    | with_reducible rfl | with_reducible refine ite_keep (fun _ => ?_) (fun _ => ?_) | with_reducible refine foldl_keep (fun _ _ => ?_) ?_
    | with_reducible refine dite_keep (fun _ => ?_) (fun _ => ?_) | with_reducible refine (State.dropStaged_spine ..).trans ?_
    | with_reducible refine ite_keep1 (fun _ => ?_) (fun _ => ?_) | with_reducible refine spine_of ?_ ?_ | simp only [spine_mk, spine_eta]
    | dsimp only | split | exact rfl
theorem State.leaveStaging_spine (s : State) (m : Msg) (idx : Nat) : (State.leaveStaging s m idx).spine = s.spine := by
  unfold State.leaveStaging; repeat' first
    | with_reducible rfl | with_reducible refine ite_keep (fun _ => ?_) (fun _ => ?_) | with_reducible refine foldl_keep (fun _ _ => ?_) ?_
    | with_reducible refine dite_keep (fun _ => ?_) (fun _ => ?_) | with_reducible refine (State.dropStaged_spine ..).trans ?_
    | with_reducible refine (State.modCore_spine ..).trans ?_ | with_reducible refine ite_keep1 (fun _ => ?_) (fun _ => ?_)
    | with_reducible refine spine_of ?_ ?_ | simp only [spine_mk, spine_eta] | dsimp only | split | exact rfl
theorem State.writeSeg_spine (s : State) (m : Msg) (idx : Nat) : (State.writeSeg s m idx).spine = s.spine := by
  unfold State.writeSeg; repeat' first
    | with_reducible rfl | with_reducible refine ite_keep (fun _ => ?_) (fun _ => ?_) | with_reducible refine foldl_keep (fun _ _ => ?_) ?_
    | with_reducible refine dite_keep (fun _ => ?_) (fun _ => ?_) | with_reducible refine (State.modCore_spine ..).trans ?_
    | with_reducible refine ite_keep1 (fun _ => ?_) (fun _ => ?_) | with_reducible refine spine_of ?_ ?_ | simp only [spine_mk, spine_eta]
    | dsimp only | split | exact rfl
theorem State.readSeg_spine (s : State) (m : Msg) : (State.readSeg s m).spine = s.spine := by
  unfold State.readSeg; repeat' first
    | with_reducible rfl | with_reducible refine ite_keep (fun _ => ?_) (fun _ => ?_) | with_reducible refine foldl_keep (fun _ _ => ?_) ?_
    | with_reducible refine dite_keep (fun _ => ?_) (fun _ => ?_) | with_reducible refine (State.modCore_spine ..).trans ?_
    | with_reducible refine ite_keep1 (fun _ => ?_) (fun _ => ?_) | with_reducible refine spine_of ?_ ?_ | simp only [spine_mk, spine_eta]
    | dsimp only | split | exact rfl
theorem State.endDeficit_spine (s : State) (o : Nat) (t : Nat) : (State.endDeficit s o t).spine = s.spine := by
  unfold State.endDeficit; repeat' first
    | with_reducible rfl | with_reducible refine ite_keep (fun _ => ?_) (fun _ => ?_) | with_reducible refine foldl_keep (fun _ _ => ?_) ?_
    | with_reducible refine dite_keep (fun _ => ?_) (fun _ => ?_) | with_reducible refine (State.modCore_spine ..).trans ?_
    | with_reducible refine ite_keep1 (fun _ => ?_) (fun _ => ?_) | with_reducible refine spine_of ?_ ?_ | simp only [spine_mk, spine_eta]
    | dsimp only | split | exact rfl
theorem State.dropBolt_spine (s : State) (m : Msg) : (State.dropBolt s m).spine = s.spine := by
  unfold State.dropBolt; repeat' first
    | with_reducible rfl | with_reducible refine ite_keep (fun _ => ?_) (fun _ => ?_) | with_reducible refine foldl_keep (fun _ _ => ?_) ?_
    | with_reducible refine dite_keep (fun _ => ?_) (fun _ => ?_) | with_reducible refine (State.modCore_spine ..).trans ?_
    | with_reducible refine (State.clearOverq_spine ..).trans ?_ | with_reducible refine (State.endDeficit_spine ..).trans ?_
    | with_reducible refine (State.unstage_spine ..).trans ?_ | with_reducible refine ite_keep1 (fun _ => ?_) (fun _ => ?_)
    | with_reducible refine spine_of ?_ ?_ | simp only [spine_mk, spine_eta] | dsimp only | split | exact rfl
theorem State.shaperSend_spine (s : State) (o : Nat) (j : Nat) (len : Nat) : (State.shaperSend s o j len).spine = s.spine := by
  unfold State.shaperSend; repeat' first
    | simp only [spine_mk, spine_eta] | split
theorem State.shaperSlot_spine (s : State) (o : Nat) (j : Nat) : (State.shaperSlot s o j).spine = s.spine := rfl
theorem State.slotGrant_spine (s : State) (k : Nat) (weight : Nat → Nat) (r : List Nat) (forced : Option Nat) :
    (State.slotGrant s k weight r forced).2.spine = s.spine := by
  unfold State.slotGrant; repeat' first
    | with_reducible rfl | with_reducible refine ite_keep (fun _ => ?_) (fun _ => ?_) | with_reducible refine foldl_keep (fun _ _ => ?_) ?_
    | with_reducible refine dite_keep (fun _ => ?_) (fun _ => ?_) | with_reducible refine (State.modCore_spine ..).trans ?_
    | with_reducible refine ite_keep1 (fun _ => ?_) (fun _ => ?_) | with_reducible refine spine_of ?_ ?_ | simp only [spine_mk, spine_eta]
    | dsimp only | split | exact rfl
theorem State.blockSlot_spine (s : State) (m : Msg) : (State.blockSlot s m).spine = s.spine := by
  unfold State.blockSlot; repeat' first
    | with_reducible rfl | with_reducible refine ite_keep (fun _ => ?_) (fun _ => ?_) | with_reducible refine foldl_keep (fun _ _ => ?_) ?_
    | with_reducible refine dite_keep (fun _ => ?_) (fun _ => ?_) | with_reducible refine (State.slotGrant_spine ..).trans ?_
    | with_reducible refine ite_keep1 (fun _ => ?_) (fun _ => ?_) | with_reducible refine spine_of ?_ ?_ | simp only [spine_mk, spine_eta]
    | dsimp only | split | exact rfl
theorem State.crossSlots_spine (s : State) (m : Msg) (l : Nat) : (State.crossSlots s m l).spine = s.spine := by
  unfold State.crossSlots; repeat' first
    | with_reducible rfl | with_reducible refine ite_keep (fun _ => ?_) (fun _ => ?_) | with_reducible refine foldl_keep (fun _ _ => ?_) ?_
    | with_reducible refine dite_keep (fun _ => ?_) (fun _ => ?_) | with_reducible refine (State.slotGrant_spine ..).trans ?_
    | with_reducible refine ite_keep1 (fun _ => ?_) (fun _ => ?_) | with_reducible refine spine_of ?_ ?_ | simp only [spine_mk, spine_eta]
    | dsimp only | split | exact rfl
theorem State.raiseBinding_spine (s : State) (berth : Option Nat) : (State.raiseBinding s berth).spine = s.spine := by
  unfold State.raiseBinding; repeat' first
    | with_reducible rfl | with_reducible refine ite_keep (fun _ => ?_) (fun _ => ?_) | with_reducible refine foldl_keep (fun _ _ => ?_) ?_
    | with_reducible refine dite_keep (fun _ => ?_) (fun _ => ?_) | with_reducible refine (State.raise_spine ..).trans ?_
    | simp only [spine_mk, spine_eta] | dsimp only | split
theorem State.turnAway_spine (s : State) (m : Msg) : (State.turnAway s m).spine = s.spine := by
  unfold State.turnAway; repeat' first
    | with_reducible rfl | with_reducible refine ite_keep (fun _ => ?_) (fun _ => ?_) | with_reducible refine foldl_keep (fun _ _ => ?_) ?_
    | with_reducible refine dite_keep (fun _ => ?_) (fun _ => ?_) | with_reducible refine (State.bump_spine ..).trans ?_
    | with_reducible refine (State.emit_spine ..).trans ?_ | with_reducible refine (State.raiseBinding_spine ..).trans ?_
    | simp only [spine_mk, spine_eta] | dsimp only | split
theorem State.closeMsg_spine (s : State) (o : Nat) (m : Msg) (poisoned : Bool) : (State.closeMsg s o m poisoned).spine = s.spine := by
  unfold State.closeMsg; repeat' first
    | with_reducible rfl | with_reducible refine ite_keep (fun _ => ?_) (fun _ => ?_) | with_reducible refine foldl_keep (fun _ _ => ?_) ?_
    | with_reducible refine dite_keep (fun _ => ?_) (fun _ => ?_) | with_reducible refine (State.emit_spine ..).trans ?_
    | with_reducible refine (State.modCore_spine ..).trans ?_ | with_reducible refine ite_keep1 (fun _ => ?_) (fun _ => ?_)
    | with_reducible refine spine_of ?_ ?_ | simp only [spine_mk, spine_eta] | dsimp only | split | exact rfl
theorem State.endMsg_spine (s : State) (o : Nat) (m : Msg) (poisoned : Bool) : (State.endMsg s o m poisoned).spine = s.spine := by
  unfold State.endMsg; repeat' first
    | with_reducible rfl | with_reducible refine ite_keep (fun _ => ?_) (fun _ => ?_) | with_reducible refine foldl_keep (fun _ _ => ?_) ?_
    | with_reducible refine dite_keep (fun _ => ?_) (fun _ => ?_) | with_reducible refine (State.closeMsg_spine ..).trans ?_
    | with_reducible refine (State.dropBolt_spine ..).trans ?_ | with_reducible refine ite_keep1 (fun _ => ?_) (fun _ => ?_)
    | with_reducible refine spine_of ?_ ?_ | simp only [spine_mk, spine_eta] | dsimp only | split | exact rfl
theorem State.setFnl_spine (s : State) (p : Nat) (f : FnlLink) : (State.setFnl s p f).spine = s.spine := by
  unfold State.setFnl; repeat' first
    | with_reducible rfl | with_reducible refine ite_keep (fun _ => ?_) (fun _ => ?_) | with_reducible refine foldl_keep (fun _ _ => ?_) ?_
    | with_reducible refine dite_keep (fun _ => ?_) (fun _ => ?_) | with_reducible refine (State.modLnk_spine ..).trans ?_
    | simp only [spine_mk, spine_eta] | dsimp only | split
theorem State.setBuffer_spine (s : State) (p : Nat) (l : List SentCw) : (State.setBuffer s p l).spine = s.spine := by
  unfold State.setBuffer; repeat' first
    | with_reducible rfl | with_reducible refine ite_keep (fun _ => ?_) (fun _ => ?_) | with_reducible refine foldl_keep (fun _ _ => ?_) ?_
    | with_reducible refine dite_keep (fun _ => ?_) (fun _ => ?_) | with_reducible refine (State.set_spine ..).trans ?_
    | with_reducible refine (State.setFnl_spine ..).trans ?_ | simp only [spine_mk, spine_eta] | dsimp only | split
theorem State.sendCw_spine (s : State) (o : Nat) (m : Msg) : (State.sendCw s o m).spine = s.spine := by
  unfold State.sendCw; repeat' first
    | with_reducible rfl | with_reducible refine ite_keep (fun _ => ?_) (fun _ => ?_) | with_reducible refine foldl_keep (fun _ _ => ?_) ?_
    | with_reducible refine dite_keep (fun _ => ?_) (fun _ => ?_) | with_reducible refine (State.emit_spine ..).trans ?_
    | with_reducible refine (State.set_spine ..).trans ?_ | with_reducible refine (State.setBuffer_spine ..).trans ?_
    | simp only [spine_mk, spine_eta] | dsimp only | split
theorem State.endFilled_spine (s : State) (o : Nat) (m : Msg) : (State.endFilled s o m).spine = s.spine := by
  unfold State.endFilled; repeat' first
    | with_reducible rfl | with_reducible refine ite_keep (fun _ => ?_) (fun _ => ?_) | with_reducible refine foldl_keep (fun _ _ => ?_) ?_
    | with_reducible refine dite_keep (fun _ => ?_) (fun _ => ?_) | with_reducible refine (State.endMsg_spine ..).trans ?_
    | with_reducible refine (State.closeMsg_spine ..).trans ?_ | with_reducible refine (State.modCore_spine ..).trans ?_
    | with_reducible refine ite_keep1 (fun _ => ?_) (fun _ => ?_) | with_reducible refine spine_of ?_ ?_ | simp only [spine_mk, spine_eta]
    | dsimp only | split | exact rfl
theorem State.fillOn_spine (s : State) (o n : Nat) : (s.fillOn o n).spine = s.spine := by
  induction n generalizing s with
  | zero => rfl
  | succ n ih => unfold State.fillOn; repeat' first | with_reducible rfl | with_reducible refine ite_keep (fun _ => ?_) (fun _ => ?_) | with_reducible refine foldl_keep (fun _ _ => ?_) ?_ | with_reducible refine dite_keep (fun _ => ?_) (fun _ => ?_) | with_reducible refine (State.modCore_spine ..).trans ?_ | with_reducible refine (State.sendCw_spine ..).trans ?_ | with_reducible refine (State.endFilled_spine ..).trans ?_ | with_reducible refine (ih ..).trans ?_ | with_reducible refine ite_keep1 (fun _ => ?_) (fun _ => ?_) | with_reducible refine spine_of ?_ ?_ | simp only [spine_mk, spine_eta] | dsimp only | split | exact rfl
theorem State.fillMsg_spine (s : State) (o : Nat) (m : Msg) : (State.fillMsg s o m).spine = s.spine := by
  unfold State.fillMsg; repeat' first
    | with_reducible rfl | with_reducible refine ite_keep (fun _ => ?_) (fun _ => ?_) | with_reducible refine foldl_keep (fun _ _ => ?_) ?_
    | with_reducible refine dite_keep (fun _ => ?_) (fun _ => ?_) | with_reducible refine (State.modCore_spine ..).trans ?_
    | with_reducible refine (State.raise_spine ..).trans ?_ | with_reducible refine (State.bump_spine ..).trans ?_
    | with_reducible refine (State.emit_spine ..).trans ?_ | with_reducible refine (State.set_spine ..).trans ?_
    | with_reducible refine (State.fillOn_spine ..).trans ?_ | with_reducible refine ite_keep1 (fun _ => ?_) (fun _ => ?_)
    | with_reducible refine spine_of ?_ ?_ | simp only [spine_mk, spine_eta] | dsimp only | split | exact rfl
theorem State.linkDownReply_spine (s : State) (src : Nat) (id : Nat) (kind : Sys2Proof.MsgKind) (berth : Option Nat) :
    (State.linkDownReply s src id kind berth).spine = s.spine := by
  unfold State.linkDownReply; repeat' first
    | with_reducible rfl | with_reducible refine ite_keep (fun _ => ?_) (fun _ => ?_) | with_reducible refine foldl_keep (fun _ _ => ?_) ?_
    | with_reducible refine dite_keep (fun _ => ?_) (fun _ => ?_) | with_reducible refine (State.emit_spine ..).trans ?_
    | with_reducible refine (State.raise_spine ..).trans ?_ | simp only [spine_mk, spine_eta] | dsimp only | split
theorem State.colour_spine (s : State) (p : Nat) (kind : Sys2Proof.MsgKind) (cls : Nat) (berth : Option Nat) (pre : Nat) (segs : Nat) :
    (State.colour s p kind cls berth pre segs).2.spine = s.spine := by
  unfold State.colour; repeat' first
    | with_reducible refine (State.bump_spine ..).trans ?_ | simp only [spine_mk, spine_eta] | split
theorem State.refuseBerthless_spine (s : State) (p : Nat) (id : Nat) (kind : Sys2Proof.MsgKind) :
    (State.refuseBerthless s p id kind).spine = s.spine := by
  unfold State.refuseBerthless; repeat' first
    | with_reducible rfl | with_reducible refine ite_keep (fun _ => ?_) (fun _ => ?_) | with_reducible refine foldl_keep (fun _ _ => ?_) ?_
    | with_reducible refine dite_keep (fun _ => ?_) (fun _ => ?_) | with_reducible refine (State.emit_spine ..).trans ?_
    | with_reducible refine (State.raise_spine ..).trans ?_ | with_reducible refine (State.bump_spine ..).trans ?_
    | with_reducible refine ite_keep1 (fun _ => ?_) (fun _ => ?_) | with_reducible refine spine_of ?_ ?_ | simp only [spine_mk, spine_eta]
    | dsimp only | split | exact rfl
theorem State.violation_spine (s : State) (n : Nat) (line : Nat) (berth : Nat) (kind : Nat) (source : Nat) (parts : Bool) :
    (State.violation s n line berth kind source parts).spine = s.spine := by
  unfold State.violation; repeat' first
    | with_reducible rfl | with_reducible refine ite_keep (fun _ => ?_) (fun _ => ?_) | with_reducible refine foldl_keep (fun _ _ => ?_) ?_
    | with_reducible refine dite_keep (fun _ => ?_) (fun _ => ?_) | with_reducible refine (State.setAll_spine ..).trans ?_
    | with_reducible refine (State.raise_spine ..).trans ?_ | with_reducible refine (State.bump_spine ..).trans ?_
    | simp only [spine_mk, spine_eta] | dsimp only | split
theorem State.gateCheck_spine (s : State) (n : Nat) (lines : List Nat) (berth : Nat) (kind : Nat) (source : Nat) :
    (State.gateCheck s n lines berth kind source).2.spine = s.spine := by
  unfold State.gateCheck; repeat' first
    | with_reducible rfl | with_reducible refine ite_keep (fun _ => ?_) (fun _ => ?_) | with_reducible refine foldl_keep (fun _ _ => ?_) ?_
    | with_reducible refine dite_keep (fun _ => ?_) (fun _ => ?_) | with_reducible refine (State.violation_spine ..).trans ?_
    | simp only [spine_mk, spine_eta] | dsimp only | split
theorem State.egressCheck_spine (s : State) (o : Nat) (m : Msg) : (State.egressCheck s o m).2.spine = s.spine := by
  unfold State.egressCheck; repeat' first
    | with_reducible rfl | split
  dsimp only; rename_i k _ _
  generalize (List.filterMap (s.lineGate o) (linesOf m.addr m.len)).eraseDups = l
  suffices h : ∀ (r : List Nat × State), (l.foldl (fun r n => (r.1 ++ (r.2.gateCheck n ((linesOf m.addr m.len).filter fun l => s.lineGate o l == some n) k m.access m.src).1, (r.2.gateCheck n ((linesOf m.addr m.len).filter fun l => s.lineGate o l == some n) k m.access m.src).2)) r).2.spine = r.2.spine from h ([], s)
  induction l with
  | nil => intro r; rfl
  | cons a r ih => intro acc; rw [List.foldl_cons, ih]; exact State.gateCheck_spine ..
theorem clearViolation_spine (n : Nat) (s : State) : (clearViolation n s).spine = s.spine := by
  unfold clearViolation; repeat' first
    | with_reducible rfl | with_reducible refine ite_keep (fun _ => ?_) (fun _ => ?_) | with_reducible refine foldl_keep (fun _ _ => ?_) ?_
    | with_reducible refine dite_keep (fun _ => ?_) (fun _ => ?_) | with_reducible refine (State.set_spine ..).trans ?_
    | simp only [spine_mk, spine_eta] | dsimp only | split
theorem clearViolations_spine (n : Nat) (s : State) : (clearViolations n s).spine = s.spine := by
  unfold clearViolations; repeat' first
    | with_reducible rfl | with_reducible refine ite_keep (fun _ => ?_) (fun _ => ?_) | with_reducible refine foldl_keep (fun _ _ => ?_) ?_
    | with_reducible refine dite_keep (fun _ => ?_) (fun _ => ?_) | with_reducible refine (State.set_spine ..).trans ?_
    | simp only [spine_mk, spine_eta] | dsimp only | split
theorem State.useEntry_spine (s : State) (line : Nat) : (State.useEntry s line).spine = s.spine := by
  unfold State.useEntry; repeat' first
    | with_reducible rfl | with_reducible refine ite_keep (fun _ => ?_) (fun _ => ?_) | with_reducible refine foldl_keep (fun _ _ => ?_) ?_
    | with_reducible refine dite_keep (fun _ => ?_) (fun _ => ?_) | with_reducible refine (State.modHome_spine ..).trans ?_
    | simp only [spine_mk, spine_eta] | dsimp only | split
theorem State.filterUp_spine (s : State) (line : Nat) : (State.filterUp s line).spine = s.spine := by
  unfold State.filterUp; repeat' first
    | with_reducible rfl | with_reducible refine ite_keep (fun _ => ?_) (fun _ => ?_) | with_reducible refine foldl_keep (fun _ _ => ?_) ?_
    | with_reducible refine dite_keep (fun _ => ?_) (fun _ => ?_) | with_reducible refine (State.modHome_spine ..).trans ?_
    | simp only [spine_mk, spine_eta] | dsimp only | split
theorem State.filterDown_spine (s : State) (line : Nat) : (State.filterDown s line).spine = s.spine := by
  unfold State.filterDown; repeat' first
    | with_reducible rfl | with_reducible refine ite_keep (fun _ => ?_) (fun _ => ?_) | with_reducible refine foldl_keep (fun _ _ => ?_) ?_
    | with_reducible refine dite_keep (fun _ => ?_) (fun _ => ?_) | with_reducible refine (State.modHome_spine ..).trans ?_
    | simp only [spine_mk, spine_eta] | dsimp only | split
theorem State.freeFilter_spine (s : State) (n : Nat) : (State.freeFilter s n).spine = s.spine := by
  unfold State.freeFilter; repeat' first
    | with_reducible rfl | with_reducible refine ite_keep (fun _ => ?_) (fun _ => ?_) | with_reducible refine foldl_keep (fun _ _ => ?_) ?_
    | with_reducible refine dite_keep (fun _ => ?_) (fun _ => ?_) | with_reducible refine (State.modHome_spine ..).trans ?_
    | with_reducible refine ite_keep1 (fun _ => ?_) (fun _ => ?_) | with_reducible refine spine_of ?_ ?_ | simp only [spine_mk, spine_eta]
    | dsimp only | split | exact rfl
theorem State.putEntry_spine (s : State) (line : Nat) (x : DirEntry) : (State.putEntry s line x).spine = s.spine := by
  unfold State.putEntry; repeat' first
    | with_reducible rfl | with_reducible refine ite_keep (fun _ => ?_) (fun _ => ?_) | with_reducible refine foldl_keep (fun _ _ => ?_) ?_
    | with_reducible refine dite_keep (fun _ => ?_) (fun _ => ?_) | with_reducible refine (State.modHome_spine ..).trans ?_
    | with_reducible refine (State.filterDown_spine ..).trans ?_ | with_reducible refine (State.count_spine ..).trans ?_
    | with_reducible refine (State.filterUp_spine ..).trans ?_ | with_reducible refine (State.freeFilter_spine ..).trans ?_
    | with_reducible refine (State.useEntry_spine ..).trans ?_ | with_reducible refine ite_keep1 (fun _ => ?_) (fun _ => ?_)
    | with_reducible refine spine_of ?_ ?_ | simp only [spine_mk, spine_eta] | dsimp only | split | exact rfl
theorem State.poisonEntry_spine (s : State) (home : Nat) (line : Nat) : (State.poisonEntry s home line).spine = s.spine := by
  unfold State.poisonEntry; repeat' first
    | with_reducible rfl | with_reducible refine ite_keep (fun _ => ?_) (fun _ => ?_) | with_reducible refine foldl_keep (fun _ _ => ?_) ?_
    | with_reducible refine dite_keep (fun _ => ?_) (fun _ => ?_) | with_reducible refine (State.putEntry_spine ..).trans ?_
    | with_reducible refine ite_keep1 (fun _ => ?_) (fun _ => ?_) | with_reducible refine spine_of ?_ ?_ | simp only [spine_mk, spine_eta]
    | dsimp only | split | exact rfl
theorem State.poisonLine_spine (s : State) (home : Nat) (line : Nat) : (State.poisonLine s home line).spine = s.spine := by
  unfold State.poisonLine; repeat' first
    | with_reducible rfl | with_reducible refine ite_keep (fun _ => ?_) (fun _ => ?_) | with_reducible refine foldl_keep (fun _ _ => ?_) ?_
    | with_reducible refine dite_keep (fun _ => ?_) (fun _ => ?_) | with_reducible refine (State.bump_spine ..).trans ?_
    | with_reducible refine (State.poisonEntry_spine ..).trans ?_ | with_reducible refine ite_keep1 (fun _ => ?_) (fun _ => ?_)
    | with_reducible refine spine_of ?_ ?_ | simp only [spine_mk, spine_eta] | dsimp only | split | exact rfl
theorem State.lookup_spine (s : State) (home : Nat) (line : Nat) : (State.lookup s home line).spine = s.spine := by
  unfold State.lookup; repeat' first
    | with_reducible rfl | with_reducible refine ite_keep (fun _ => ?_) (fun _ => ?_) | with_reducible refine foldl_keep (fun _ _ => ?_) ?_
    | with_reducible refine dite_keep (fun _ => ?_) (fun _ => ?_) | with_reducible refine (State.poisonLine_spine ..).trans ?_
    | with_reducible refine (State.putEntry_spine ..).trans ?_ | simp only [spine_mk, spine_eta] | dsimp only | split
theorem State.makeRoom_spine (s : State) (size : Nat) (held : List Nat) (line : Nat) : (s.makeRoom size held line).2.spine = s.spine := by
  unfold State.makeRoom; split <;> rfl
theorem State.cachePut_spine (s : State) (line : Nat) (data : Nat) (poison : Bool) :
    (State.cachePut s line data poison).spine = s.spine := by
  unfold State.cachePut; repeat' first
    | with_reducible rfl | with_reducible refine ite_keep (fun _ => ?_) (fun _ => ?_) | with_reducible refine foldl_keep (fun _ _ => ?_) ?_
    | with_reducible refine dite_keep (fun _ => ?_) (fun _ => ?_) | with_reducible refine (State.makeRoom_spine ..).trans ?_
    | with_reducible refine (State.count_spine ..).trans ?_ | with_reducible refine (State.modHome_spine ..).trans ?_
    | with_reducible refine ite_keep1 (fun _ => ?_) (fun _ => ?_) | with_reducible refine spine_of ?_ ?_ | simp only [spine_mk, spine_eta]
    | dsimp only | split | exact rfl
theorem State.dirCache_spine (s : State) (home : Nat) (line : Nat) : (State.dirCache s home line).spine = s.spine := by
  unfold State.dirCache; repeat' first
    | with_reducible rfl | with_reducible refine ite_keep (fun _ => ?_) (fun _ => ?_) | with_reducible refine foldl_keep (fun _ _ => ?_) ?_
    | with_reducible refine dite_keep (fun _ => ?_) (fun _ => ?_) | with_reducible refine (State.makeRoom_spine ..).trans ?_
    | with_reducible refine (State.modHome_spine ..).trans ?_ | with_reducible refine ite_keep1 (fun _ => ?_) (fun _ => ?_)
    | with_reducible refine spine_of ?_ ?_ | simp only [spine_mk, spine_eta] | dsimp only | split | exact rfl
theorem State.setTxn_spine (s : State) (t : Txn) : (State.setTxn s t).spine = s.spine := by
  unfold State.setTxn; repeat' first
    | with_reducible rfl | with_reducible refine ite_keep (fun _ => ?_) (fun _ => ?_) | with_reducible refine foldl_keep (fun _ _ => ?_) ?_
    | with_reducible refine dite_keep (fun _ => ?_) (fun _ => ?_) | with_reducible refine (State.modHome_spine ..).trans ?_
    | simp only [spine_mk, spine_eta] | dsimp only | split
theorem State.poolWrite_spine (s : State) (id : Nat) (line : Nat) (data : Nat) (poison : Bool) :
    (State.poolWrite s id line data poison).spine = s.spine := by
  unfold State.poolWrite; repeat' first
    | with_reducible rfl | with_reducible refine ite_keep (fun _ => ?_) (fun _ => ?_) | with_reducible refine foldl_keep (fun _ _ => ?_) ?_
    | with_reducible refine dite_keep (fun _ => ?_) (fun _ => ?_) | with_reducible refine (State.emit_spine ..).trans ?_
    | with_reducible refine (State.setTxn_spine ..).trans ?_ | with_reducible refine ite_keep1 (fun _ => ?_) (fun _ => ?_)
    | with_reducible refine spine_of ?_ ?_ | simp only [spine_mk, spine_eta] | dsimp only | split | exact rfl
theorem State.sendSnoop_spine (s : State) (t : Txn) (line : Nat) (agents : List Nat) (op : Sys2Proof.SnpOp) :
    (State.sendSnoop s t line agents op).spine = s.spine := by
  unfold State.sendSnoop; repeat' first
    | with_reducible rfl | with_reducible refine ite_keep (fun _ => ?_) (fun _ => ?_) | with_reducible refine foldl_keep (fun _ _ => ?_) ?_
    | with_reducible refine dite_keep (fun _ => ?_) (fun _ => ?_) | with_reducible refine (State.modHome_spine ..).trans ?_
    | with_reducible refine (State.count_spine ..).trans ?_ | with_reducible refine (State.emit_spine ..).trans ?_
    | simp only [spine_mk, spine_eta] | dsimp only | split
theorem State.sendSnoops_spine (s : State) (t : Txn) (line : Nat) (l : List (Nat × Sys2Proof.SnpOp)) :
    (State.sendSnoops s t line l).spine = s.spine := by
  unfold State.sendSnoops; repeat' first
    | with_reducible rfl | with_reducible refine ite_keep (fun _ => ?_) (fun _ => ?_) | with_reducible refine foldl_keep (fun _ _ => ?_) ?_
    | with_reducible refine dite_keep (fun _ => ?_) (fun _ => ?_) | with_reducible refine (State.sendSnoop_spine ..).trans ?_
    | with_reducible refine (State.setTxn_spine ..).trans ?_ | simp only [spine_mk, spine_eta] | dsimp only | split
theorem State.freeShadow_spine (s : State) (cell : Nat) (tag : Nat) : (State.freeShadow s cell tag).spine = s.spine := by
  unfold State.freeShadow; repeat' first
    | with_reducible rfl | with_reducible refine ite_keep (fun _ => ?_) (fun _ => ?_) | with_reducible refine foldl_keep (fun _ _ => ?_) ?_
    | with_reducible refine dite_keep (fun _ => ?_) (fun _ => ?_) | with_reducible refine (State.modHome_spine ..).trans ?_
    | simp only [spine_mk, spine_eta] | dsimp only | split
theorem State.homeReply_spine (s : State) (cell : Nat) (tag : Nat) (berth : Option Nat) (what : HomeReply) (status : Nat)
    (data : Option Nat) (poison : Bool) : (State.homeReply s cell tag berth what status data poison).spine = s.spine := by
  unfold State.homeReply; repeat' first
    | with_reducible rfl | with_reducible refine ite_keep (fun _ => ?_) (fun _ => ?_) | with_reducible refine foldl_keep (fun _ _ => ?_) ?_
    | with_reducible refine dite_keep (fun _ => ?_) (fun _ => ?_) | with_reducible refine (State.raise_spine ..).trans ?_
    | with_reducible refine (State.emit_spine ..).trans ?_ | with_reducible refine (State.modHome_spine ..).trans ?_
    | simp only [spine_mk, spine_eta] | dsimp only | split
theorem State.dropTxn_spine (s : State) (t : Txn) : (State.dropTxn s t).spine = s.spine := by
  unfold State.dropTxn; repeat' first
    | with_reducible rfl | with_reducible refine ite_keep (fun _ => ?_) (fun _ => ?_) | with_reducible refine foldl_keep (fun _ _ => ?_) ?_
    | with_reducible refine dite_keep (fun _ => ?_) (fun _ => ?_) | with_reducible refine (State.modHome_spine ..).trans ?_
    | simp only [spine_mk, spine_eta] | dsimp only | split
theorem State.answerTxn_spine (s : State) (t : Txn) (what : HomeReply) (status : Nat) (data : Option Nat) (poison : Bool) :
    (State.answerTxn s t what status data poison).spine = s.spine := by
  unfold State.answerTxn; repeat' first
    | with_reducible rfl | with_reducible refine ite_keep (fun _ => ?_) (fun _ => ?_) | with_reducible refine foldl_keep (fun _ _ => ?_) ?_
    | with_reducible refine dite_keep (fun _ => ?_) (fun _ => ?_) | with_reducible refine (State.dropTxn_spine ..).trans ?_
    | with_reducible refine (State.freeShadow_spine ..).trans ?_ | with_reducible refine (State.homeReply_spine ..).trans ?_
    | simp only [spine_mk, spine_eta] | dsimp only | split
theorem State.proceed_spine (fuel : Nat) : ∀ (id : Nat) (s : State), (State.proceed fuel id s).spine = s.spine := by
  induction fuel with
  | zero => intros; rfl
  | succ n ih => intro id s; unfold State.proceed; repeat' first | with_reducible rfl | with_reducible refine ite_keep (fun _ => ?_) (fun _ => ?_) | with_reducible refine foldl_keep (fun _ _ => ?_) ?_ | with_reducible refine dite_keep (fun _ => ?_) (fun _ => ?_) | with_reducible refine (State.setTxn_spine ..).trans ?_ | with_reducible refine (State.sendSnoops_spine ..).trans ?_ | with_reducible refine (State.sendSnoop_spine ..).trans ?_ | with_reducible refine (State.answerTxn_spine ..).trans ?_ | with_reducible refine (State.bump_spine ..).trans ?_ | with_reducible refine (State.putEntry_spine ..).trans ?_ | with_reducible refine (State.count_spine ..).trans ?_ | with_reducible refine (State.poolWrite_spine ..).trans ?_ | with_reducible refine (State.modHome_spine ..).trans ?_ | with_reducible refine (State.poisonLine_spine ..).trans ?_ | with_reducible refine (State.emit_spine ..).trans ?_ | with_reducible refine (State.wrapAdd_spine ..).trans ?_ | with_reducible refine (State.dropTxn_spine ..).trans ?_ | with_reducible refine (State.lookup_spine ..).trans ?_ | with_reducible refine (ih ..).trans ?_ | with_reducible refine ite_keep1 (fun _ => ?_) (fun _ => ?_) | with_reducible refine spine_of ?_ ?_ | simp only [spine_mk, spine_eta] | dsimp only | split | exact rfl
theorem State.refuseRequest_spine {s u : State} {t : Txn} {op : CohOp} {x : DirEntry} (h : s.refuseRequest t op x = some u) : u.spine = s.spine := by
  unfold State.refuseRequest at h; dsimp only at h
  split at h
  · cases h
  · split at h
    · cases h; exact (State.answerTxn_spine ..).trans (State.raise_spine ..)
    · split at h
      · split at h
        · cases h
        · cases h; exact (State.answerTxn_spine ..).trans (State.gateCheck_spine ..)
      · cases h
theorem State.startTxn_spine (s : State) (t : Txn) : (State.startTxn s t).spine = s.spine := by
  unfold State.startTxn; repeat' first
    | with_reducible rfl | with_reducible refine ite_keep (fun _ => ?_) (fun _ => ?_) | with_reducible refine foldl_keep (fun _ _ => ?_) ?_
    | with_reducible refine dite_keep (fun _ => ?_) (fun _ => ?_) | with_reducible refine (State.count_spine ..).trans ?_
    | with_reducible refine (State.dirCache_spine ..).trans ?_ | with_reducible refine (State.useEntry_spine ..).trans ?_
    | with_reducible refine (State.lookup_spine ..).trans ?_ | with_reducible refine (State.proceed_spine ..).trans ?_
    | with_reducible refine (State.setTxn_spine ..).trans ?_ | with_reducible refine (State.dropTxn_spine ..).trans ?_
    | refine (State.refuseRequest_spine (by assumption)).trans ?_ | with_reducible refine ite_keep1 (fun _ => ?_) (fun _ => ?_)
    | with_reducible refine spine_of ?_ ?_ | simp only [spine_mk, spine_eta] | dsimp only | split | exact rfl
theorem State.originate_spine (s : State) (line : Nat) (j : Job) : (State.originate s line j).spine = s.spine := by
  unfold State.originate; repeat' first
    | with_reducible rfl | with_reducible refine ite_keep (fun _ => ?_) (fun _ => ?_) | with_reducible refine foldl_keep (fun _ _ => ?_) ?_
    | with_reducible refine dite_keep (fun _ => ?_) (fun _ => ?_) | with_reducible refine (State.modHome_spine ..).trans ?_
    | with_reducible refine (State.set_spine ..).trans ?_ | simp only [spine_mk, spine_eta] | dsimp only | split
theorem State.scanWork_spine (s : State) : (State.scanWork s).spine = s.spine := by
  unfold State.scanWork; repeat' first
    | with_reducible rfl | with_reducible refine ite_keep (fun _ => ?_) (fun _ => ?_) | with_reducible refine foldl_keep (fun _ _ => ?_) ?_
    | with_reducible refine dite_keep (fun _ => ?_) (fun _ => ?_) | with_reducible refine (State.modHome_spine ..).trans ?_
    | with_reducible refine (State.originate_spine ..).trans ?_ | with_reducible refine ite_keep1 (fun _ => ?_) (fun _ => ?_)
    | with_reducible refine spine_of ?_ ?_ | simp only [spine_mk, spine_eta] | dsimp only | split | exact rfl
theorem State.addTxn_spine (s : State) (n : Nat) (x : Shadow) (replay : Bool) : (State.addTxn s n x replay).spine = s.spine := by
  unfold State.addTxn; repeat' first
    | with_reducible rfl | with_reducible refine ite_keep (fun _ => ?_) (fun _ => ?_) | with_reducible refine foldl_keep (fun _ _ => ?_) ?_
    | with_reducible refine dite_keep (fun _ => ?_) (fun _ => ?_) | with_reducible refine (State.modHome_spine ..).trans ?_
    | with_reducible refine (State.count_spine ..).trans ?_ | with_reducible refine (State.set_spine ..).trans ?_
    | simp only [spine_mk, spine_eta] | dsimp only | split
theorem State.keepShadow_spine (s : State) (n : Nat) (x : Shadow) : (State.keepShadow s n x).spine = s.spine := by
  unfold State.keepShadow; repeat' first
    | with_reducible rfl | with_reducible refine ite_keep (fun _ => ?_) (fun _ => ?_) | with_reducible refine foldl_keep (fun _ _ => ?_) ?_
    | with_reducible refine dite_keep (fun _ => ?_) (fun _ => ?_) | with_reducible refine (State.addTxn_spine ..).trans ?_
    | with_reducible refine (State.modCore_spine ..).trans ?_ | with_reducible refine (State.modHome_spine ..).trans ?_
    | with_reducible refine ite_keep1 (fun _ => ?_) (fun _ => ?_) | with_reducible refine spine_of ?_ ?_ | simp only [spine_mk, spine_eta]
    | dsimp only | split | exact rfl
theorem State.admitEngines_spine (s : State) : (State.admitEngines s).spine = s.spine := by
  unfold State.admitEngines; repeat' first
    | with_reducible rfl | with_reducible refine ite_keep (fun _ => ?_) (fun _ => ?_) | with_reducible refine foldl_keep (fun _ _ => ?_) ?_
    | with_reducible refine dite_keep (fun _ => ?_) (fun _ => ?_) | with_reducible refine (State.keepShadow_spine ..).trans ?_
    | with_reducible refine (State.modHome_spine ..).trans ?_ | with_reducible refine ite_keep1 (fun _ => ?_) (fun _ => ?_)
    | with_reducible refine spine_of ?_ ?_ | simp only [spine_mk, spine_eta] | dsimp only | split | exact rfl
theorem State.settleOnce_spine (s : State) : (State.settleOnce s).spine = s.spine := by
  unfold State.settleOnce; repeat' first
    | with_reducible rfl | with_reducible refine ite_keep (fun _ => ?_) (fun _ => ?_) | with_reducible refine foldl_keep (fun _ _ => ?_) ?_
    | with_reducible refine dite_keep (fun _ => ?_) (fun _ => ?_) | with_reducible refine (State.proceed_spine ..).trans ?_
    | with_reducible refine (State.setTxn_spine ..).trans ?_ | with_reducible refine (State.sendSnoop_spine ..).trans ?_
    | with_reducible refine (State.startTxn_spine ..).trans ?_ | with_reducible refine (State.scanWork_spine ..).trans ?_
    | with_reducible refine ite_keep1 (fun _ => ?_) (fun _ => ?_) | with_reducible refine spine_of ?_ ?_ | simp only [spine_mk, spine_eta]
    | dsimp only | split | exact rfl
theorem State.settleHomes_spine (n : Nat) : ∀ s : State, (State.settleHomes n s).spine = s.spine := by
  induction n with
  | zero => intros; rfl
  | succ n ih => intro s; unfold State.settleHomes; repeat' first | with_reducible rfl | with_reducible refine ite_keep (fun _ => ?_) (fun _ => ?_) | with_reducible refine foldl_keep (fun _ _ => ?_) ?_ | with_reducible refine dite_keep (fun _ => ?_) (fun _ => ?_) | with_reducible refine (State.settleOnce_spine ..).trans ?_ | with_reducible refine (ih ..).trans ?_ | with_reducible refine ite_keep1 (fun _ => ?_) (fun _ => ?_) | with_reducible refine spine_of ?_ ?_ | simp only [spine_mk, spine_eta] | dsimp only | split | exact rfl
theorem State.clearHomeOver_spine (s : State) : (State.clearHomeOver s).spine = s.spine := by
  unfold State.clearHomeOver; repeat' first
    | with_reducible rfl | with_reducible refine ite_keep (fun _ => ?_) (fun _ => ?_) | with_reducible refine foldl_keep (fun _ _ => ?_) ?_
    | with_reducible refine dite_keep (fun _ => ?_) (fun _ => ?_) | with_reducible refine (State.modHome_spine ..).trans ?_
    | simp only [spine_mk, spine_eta] | dsimp only | split
theorem State.settle_spine (s : State) : (State.settle s).spine = s.spine := by
  unfold State.settle; repeat' first
    | with_reducible rfl | with_reducible refine ite_keep (fun _ => ?_) (fun _ => ?_) | with_reducible refine foldl_keep (fun _ _ => ?_) ?_
    | with_reducible refine dite_keep (fun _ => ?_) (fun _ => ?_) | with_reducible refine (State.admitEngines_spine ..).trans ?_
    | with_reducible refine (State.clearHomeOver_spine ..).trans ?_ | with_reducible refine (State.settleHomes_spine ..).trans ?_
    | with_reducible refine ite_keep1 (fun _ => ?_) (fun _ => ?_) | with_reducible refine spine_of ?_ ?_ | simp only [spine_mk, spine_eta]
    | dsimp only | split | exact rfl
theorem State.killAgent_spine (s : State) (a : Nat) : (State.killAgent s a).spine = s.spine := by
  unfold State.killAgent; repeat' first
    | with_reducible rfl | with_reducible refine ite_keep (fun _ => ?_) (fun _ => ?_) | with_reducible refine foldl_keep (fun _ _ => ?_) ?_
    | with_reducible refine dite_keep (fun _ => ?_) (fun _ => ?_) | with_reducible refine (State.raise_spine ..).trans ?_
    | with_reducible refine (State.modHome_spine ..).trans ?_ | with_reducible refine (State.setAll_spine ..).trans ?_
    | simp only [spine_mk, spine_eta] | dsimp only | split
theorem State.endSnoop_spine (s : State) (x : Snoop) (a : Nat) : (State.endSnoop s x a).spine = s.spine := by
  unfold State.endSnoop; repeat' first
    | with_reducible rfl | with_reducible refine ite_keep (fun _ => ?_) (fun _ => ?_) | with_reducible refine foldl_keep (fun _ _ => ?_) ?_
    | with_reducible refine dite_keep (fun _ => ?_) (fun _ => ?_) | with_reducible refine (State.modHome_spine ..).trans ?_
    | with_reducible refine ite_keep1 (fun _ => ?_) (fun _ => ?_) | with_reducible refine spine_of ?_ ?_ | simp only [spine_mk, spine_eta]
    | dsimp only | split | exact rfl
theorem State.expireSnoop_spine (s : State) (x : Snoop) (a : Nat) : (State.expireSnoop s x a).spine = s.spine := by
  unfold State.expireSnoop; repeat' first
    | with_reducible rfl | with_reducible refine ite_keep (fun _ => ?_) (fun _ => ?_) | with_reducible refine foldl_keep (fun _ _ => ?_) ?_
    | with_reducible refine dite_keep (fun _ => ?_) (fun _ => ?_) | with_reducible refine (State.poisonLine_spine ..).trans ?_
    | with_reducible refine (State.modHome_spine ..).trans ?_ | with_reducible refine (State.notify_spine ..).trans ?_
    | with_reducible refine (State.bump_spine ..).trans ?_ | with_reducible refine (State.setTxn_spine ..).trans ?_
    | with_reducible refine (State.set_spine ..).trans ?_ | with_reducible refine (State.killAgent_spine ..).trans ?_
    | with_reducible refine (State.settle_spine ..).trans ?_ | with_reducible refine (State.proceed_spine ..).trans ?_
    | simp only [spine_mk, spine_eta] | dsimp only | split | exact rfl
theorem State.expireSnoops_spine (s : State) (p : Nat) : (State.expireSnoops s p).spine = s.spine := by
  unfold State.expireSnoops; repeat' first
    | with_reducible rfl | with_reducible refine ite_keep (fun _ => ?_) (fun _ => ?_) | with_reducible refine foldl_keep (fun _ _ => ?_) ?_
    | with_reducible refine dite_keep (fun _ => ?_) (fun _ => ?_) | with_reducible refine (State.expireSnoop_spine ..).trans ?_
    | simp only [spine_mk, spine_eta] | dsimp only | split | exact rfl
theorem State.resumeSnoops_spine (s : State) (p : Nat) (since : Nat) : (State.resumeSnoops s p since).spine = s.spine := by
  unfold State.resumeSnoops; repeat' first
    | with_reducible rfl | with_reducible refine ite_keep (fun _ => ?_) (fun _ => ?_) | with_reducible refine foldl_keep (fun _ _ => ?_) ?_
    | with_reducible refine dite_keep (fun _ => ?_) (fun _ => ?_) | with_reducible refine (State.modHome_spine ..).trans ?_
    | simp only [spine_mk, spine_eta] | dsimp only | split
theorem State.onGrant_spine (s : State) (q : LeaveReq) (i : Nat) : (State.onGrant s q i).spine = s.spine := by
  unfold State.onGrant; repeat' first
    | with_reducible refine (State.settle_spine ..).trans ?_ | split | exact rfl
theorem State.onRefuse_spine (s : State) (q : Sys2Proof.Purpose) (reason : Nat) : (State.onRefuse s q reason).spine = s.spine := by
  unfold State.onRefuse; repeat' first
    | with_reducible refine (State.setAll_spine ..).trans ?_ | with_reducible refine (State.modLan_spine ..).trans ?_
    | with_reducible refine (State.endChart_spine ..).trans ?_ | simp only [spine_mk, spine_eta] | split
theorem State.grantLeave_spine (s : State) (q : LeaveReq) : (State.grantLeave s q).spine = s.spine := by
  unfold State.grantLeave; repeat' first
    | with_reducible refine (State.onGrant_spine ..).trans ?_ | split | exact rfl
theorem State.refuseLeave_spine (s : State) (q : Sys2Proof.Purpose) (reason : Nat) : (State.refuseLeave s q reason).spine = s.spine := by
  unfold State.refuseLeave; repeat' first
    | with_reducible rfl | with_reducible refine ite_keep (fun _ => ?_) (fun _ => ?_) | with_reducible refine foldl_keep (fun _ _ => ?_) ?_
    | with_reducible refine dite_keep (fun _ => ?_) (fun _ => ?_) | with_reducible refine (State.onRefuse_spine ..).trans ?_
    | with_reducible refine (State.bump_spine ..).trans ?_ | simp only [spine_mk, spine_eta] | dsimp only | split
theorem State.askLeave_spine (s : State) (q : LeaveReq) : (State.askLeave s q).spine = s.spine := by
  unfold State.askLeave; repeat' first
    | exact State.grantLeave_spine .. | exact State.refuseLeave_spine .. | split
    | exact (State.setAll_spine ..).trans ((State.bump_spine ..).trans rfl) | exact (State.bump_spine ..).trans rfl
theorem State.requestLeave_spine (s : State) (q : Sys2Proof.Purpose) : (State.requestLeave s q).spine = s.spine := by
  unfold State.requestLeave; repeat' first
    | with_reducible rfl | with_reducible refine ite_keep (fun _ => ?_) (fun _ => ?_) | with_reducible refine foldl_keep (fun _ _ => ?_) ?_
    | with_reducible refine dite_keep (fun _ => ?_) (fun _ => ?_) | with_reducible refine (State.askLeave_spine ..).trans ?_
    | simp only [spine_mk, spine_eta] | dsimp only | split | exact rfl
theorem State.redecideList_spine (s : State) (stop : Bool) (l : List LeaveReq) : (s.redecideList stop l).spine = s.spine := by
  induction l generalizing s stop with
  | nil => rfl
  | cons q r ih => unfold State.redecideList; repeat' first | with_reducible rfl | with_reducible refine ite_keep (fun _ => ?_) (fun _ => ?_) | with_reducible refine foldl_keep (fun _ _ => ?_) ?_ | with_reducible refine dite_keep (fun _ => ?_) (fun _ => ?_) | with_reducible refine (State.grantLeave_spine ..).trans ?_ | with_reducible refine (State.refuseLeave_spine ..).trans ?_ | with_reducible refine (ih ..).trans ?_ | with_reducible refine ite_keep1 (fun _ => ?_) (fun _ => ?_) | with_reducible refine spine_of ?_ ?_ | simp only [spine_mk, spine_eta] | dsimp only | split | exact rfl
theorem State.redecide_spine (s : State) : (State.redecide s).spine = s.spine := by
  unfold State.redecide; repeat' first
    | with_reducible rfl | with_reducible refine ite_keep (fun _ => ?_) (fun _ => ?_) | with_reducible refine foldl_keep (fun _ _ => ?_) ?_
    | with_reducible refine dite_keep (fun _ => ?_) (fun _ => ?_) | with_reducible refine (State.redecideList_spine ..).trans ?_
    | simp only [spine_mk, spine_eta] | dsimp only | split | exact rfl
theorem State.endSlip_spine (s : State) (i : Nat) : (State.endSlip s i).spine = s.spine := by
  unfold State.endSlip; repeat' first
    | with_reducible refine (State.redecide_spine ..).trans ?_ | exact rfl
theorem State.releaseFor_spine (s : State) (q : Sys2Proof.Purpose) : (State.releaseFor s q).spine = s.spine := by
  unfold State.releaseFor; repeat' first
    | with_reducible refine (State.redecide_spine ..).trans ?_ | exact rfl
theorem State.askSweep_spine (s : State) : (State.askSweep s).spine = s.spine := by
  unfold State.askSweep; repeat' first
    | with_reducible rfl | with_reducible refine ite_keep (fun _ => ?_) (fun _ => ?_) | with_reducible refine foldl_keep (fun _ _ => ?_) ?_
    | with_reducible refine dite_keep (fun _ => ?_) (fun _ => ?_) | with_reducible refine (State.requestLeave_spine ..).trans ?_
    | simp only [spine_mk, spine_eta] | dsimp only | split | exact rfl
theorem State.withdrawFor_spine (s : State) (q : Sys2Proof.Purpose) : (State.withdrawFor s q).spine = s.spine := by
  unfold State.withdrawFor; repeat' first
    | with_reducible refine (State.bump_spine ..).trans ?_ | simp only [spine_mk, spine_eta] | split
theorem State.renewSlip_spine (s : State) (i : Nat) : (State.renewSlip s i).1.spine = s.spine := by
  unfold State.renewSlip; repeat' first
    | with_reducible refine (State.bump_spine ..).trans ?_ | simp only [spine_mk, spine_eta] | split
theorem State.endDataLeave_spine (s : State) (reason : Nat) : (State.endDataLeave s reason).spine = s.spine := by
  unfold State.endDataLeave; repeat' first
    | with_reducible refine foldl_keep (fun _ _ => ?_) ?_ | with_reducible refine (State.refuseLeave_spine ..).trans ?_
    | simp only [spine_mk, spine_eta]
theorem State.setLrec_spine (s : State) (key : Nat) (r : LRec) : (State.setLrec s key r).spine = s.spine := by
  unfold State.setLrec; repeat' first
    | with_reducible rfl | with_reducible refine ite_keep (fun _ => ?_) (fun _ => ?_) | with_reducible refine foldl_keep (fun _ _ => ?_) ?_
    | with_reducible refine dite_keep (fun _ => ?_) (fun _ => ?_) | with_reducible refine (State.modLod_spine ..).trans ?_
    | simp only [spine_mk, spine_eta] | dsimp only | split
theorem State.sendResult_spine (s : State) (c : LCmd) (status : Nat) (detail : Nat) (value : Nat) (aux : Nat) (flag : Bool)
    (elapsed : Nat) : (State.sendResult s c status detail value aux flag elapsed).spine = s.spine := by
  unfold State.sendResult; repeat' first
    | with_reducible rfl | with_reducible refine ite_keep (fun _ => ?_) (fun _ => ?_) | with_reducible refine foldl_keep (fun _ _ => ?_) ?_
    | with_reducible refine dite_keep (fun _ => ?_) (fun _ => ?_) | with_reducible refine (State.bump_spine ..).trans ?_
    | with_reducible refine (State.modLod_spine ..).trans ?_ | simp only [spine_mk, spine_eta] | dsimp only | split
theorem State.endParked_spine (s : State) (p : Parked) (status : Nat) (detail : Nat) (value : Nat) (aux : Nat) :
    (State.endParked s p status detail value aux).spine = s.spine := by
  unfold State.endParked; repeat' first
    | with_reducible rfl | with_reducible refine ite_keep (fun _ => ?_) (fun _ => ?_) | with_reducible refine foldl_keep (fun _ _ => ?_) ?_
    | with_reducible refine dite_keep (fun _ => ?_) (fun _ => ?_) | with_reducible refine (State.modLod_spine ..).trans ?_
    | with_reducible refine (State.sendResult_spine ..).trans ?_ | simp only [spine_mk, spine_eta] | dsimp only | split
theorem State.leaveParked_spine (s : State) (p : Parked) (status : Nat) : (State.leaveParked s p status).spine = s.spine := by
  unfold State.leaveParked; repeat' first
    | with_reducible rfl | with_reducible refine ite_keep (fun _ => ?_) (fun _ => ?_) | with_reducible refine foldl_keep (fun _ _ => ?_) ?_
    | with_reducible refine dite_keep (fun _ => ?_) (fun _ => ?_) | with_reducible refine (State.endParked_spine ..).trans ?_
    | simp only [spine_mk, spine_eta] | dsimp only | split
theorem State.noteGroups_spine (s : State) : (State.noteGroups s).spine = s.spine := by
  unfold State.noteGroups; repeat' first
    | with_reducible rfl | with_reducible refine ite_keep (fun _ => ?_) (fun _ => ?_) | with_reducible refine foldl_keep (fun _ _ => ?_) ?_
    | with_reducible refine dite_keep (fun _ => ?_) (fun _ => ?_) | with_reducible refine (State.modLod_spine ..).trans ?_
    | simp only [spine_mk, spine_eta] | dsimp only | split
theorem State.restartGroup_spine (s : State) (gid : Nat) : (State.restartGroup s gid).spine = s.spine := by
  unfold State.restartGroup; repeat' first
    | with_reducible rfl | with_reducible refine ite_keep (fun _ => ?_) (fun _ => ?_) | with_reducible refine foldl_keep (fun _ _ => ?_) ?_
    | with_reducible refine dite_keep (fun _ => ?_) (fun _ => ?_) | with_reducible refine (State.noteGroups_spine ..).trans ?_
    | with_reducible refine (State.modLod_spine ..).trans ?_ | simp only [spine_mk, spine_eta] | dsimp only | split
theorem State.park_spine (s : State) (c : LCmd) : (State.park s c).spine = s.spine := by
  unfold State.park; repeat' first
    | with_reducible rfl | with_reducible refine ite_keep (fun _ => ?_) (fun _ => ?_) | with_reducible refine foldl_keep (fun _ _ => ?_) ?_
    | with_reducible refine dite_keep (fun _ => ?_) (fun _ => ?_) | with_reducible refine (State.sendResult_spine ..).trans ?_
    | with_reducible refine (State.modLod_spine ..).trans ?_ | with_reducible refine (State.noteGroups_spine ..).trans ?_
    | with_reducible refine (State.set_spine ..).trans ?_ | simp only [spine_mk, spine_eta] | dsimp only | split
theorem State.wake_spine (s : State) (obj : Nat) (word : Nat) (all : Bool) : (State.wake s obj word all).1.spine = s.spine := by
  unfold State.wake; repeat' first
    | with_reducible rfl | with_reducible refine ite_keep (fun _ => ?_) (fun _ => ?_) | with_reducible refine foldl_keep (fun _ _ => ?_) ?_
    | with_reducible refine dite_keep (fun _ => ?_) (fun _ => ?_) | with_reducible refine (State.leaveParked_spine ..).trans ?_
    | simp only [spine_mk, spine_eta] | dsimp only | split
theorem State.handOver_spine (s : State) (obj : Nat) : (State.handOver s obj).1.spine = s.spine := by
  unfold State.handOver; repeat' first
    | with_reducible rfl | with_reducible refine ite_keep (fun _ => ?_) (fun _ => ?_) | with_reducible refine foldl_keep (fun _ _ => ?_) ?_
    | with_reducible refine dite_keep (fun _ => ?_) (fun _ => ?_) | with_reducible refine (State.modLod_spine ..).trans ?_
    | with_reducible refine (State.leaveParked_spine ..).trans ?_ | simp only [spine_mk, spine_eta] | dsimp only | split
theorem State.setObj_spine (s : State) (n : Nat) (o : LObj) : (State.setObj s n o).spine = s.spine := by
  unfold State.setObj; repeat' first
    | with_reducible rfl | with_reducible refine ite_keep (fun _ => ?_) (fun _ => ?_) | with_reducible refine foldl_keep (fun _ _ => ?_) ?_
    | with_reducible refine dite_keep (fun _ => ?_) (fun _ => ?_) | with_reducible refine (State.modLod_spine ..).trans ?_
    | simp only [spine_mk, spine_eta] | dsimp only | split
theorem State.atomic_spine (s : State) (c : LCmd) (o : LObj) (new : Nat) (took : Bool) (flag : Bool) :
    (State.atomic s c o new took flag).spine = s.spine := by
  unfold State.atomic; repeat' first
    | with_reducible rfl | with_reducible refine ite_keep (fun _ => ?_) (fun _ => ?_) | with_reducible refine foldl_keep (fun _ _ => ?_) ?_
    | with_reducible refine dite_keep (fun _ => ?_) (fun _ => ?_) | with_reducible refine (State.setObj_spine ..).trans ?_
    | with_reducible refine (State.wake_spine ..).trans ?_ | with_reducible refine (State.sendResult_spine ..).trans ?_
    | simp only [spine_mk, spine_eta] | dsimp only | split
theorem opFetchAdd_spine (s : State) (c : LCmd) (o : LObj) : (opFetchAdd s c o).spine = s.spine := by
  unfold opFetchAdd; repeat' first
    | with_reducible rfl | with_reducible refine ite_keep (fun _ => ?_) (fun _ => ?_) | with_reducible refine foldl_keep (fun _ _ => ?_) ?_
    | with_reducible refine dite_keep (fun _ => ?_) (fun _ => ?_) | with_reducible refine (State.atomic_spine ..).trans ?_
    | simp only [spine_mk, spine_eta] | dsimp only | split
theorem opCompareSwap_spine (s : State) (c : LCmd) (o : LObj) : (opCompareSwap s c o).spine = s.spine := by
  unfold opCompareSwap; repeat' first
    | with_reducible rfl | with_reducible refine ite_keep (fun _ => ?_) (fun _ => ?_) | with_reducible refine foldl_keep (fun _ _ => ?_) ?_
    | with_reducible refine dite_keep (fun _ => ?_) (fun _ => ?_) | with_reducible refine (State.atomic_spine ..).trans ?_
    | simp only [spine_mk, spine_eta] | dsimp only | split
theorem opSwap_spine (s : State) (c : LCmd) (o : LObj) : (opSwap s c o).spine = s.spine := by
  unfold opSwap; repeat' first
    | with_reducible rfl | with_reducible refine ite_keep (fun _ => ?_) (fun _ => ?_) | with_reducible refine foldl_keep (fun _ _ => ?_) ?_
    | with_reducible refine dite_keep (fun _ => ?_) (fun _ => ?_) | with_reducible refine (State.atomic_spine ..).trans ?_
    | simp only [spine_mk, spine_eta] | dsimp only | split
theorem opWait_spine (s : State) (c : LCmd) (o : LObj) : (opWait s c o).spine = s.spine := by
  unfold opWait; repeat' first
    | with_reducible rfl | with_reducible refine ite_keep (fun _ => ?_) (fun _ => ?_) | with_reducible refine foldl_keep (fun _ _ => ?_) ?_
    | with_reducible refine dite_keep (fun _ => ?_) (fun _ => ?_) | with_reducible refine (State.sendResult_spine ..).trans ?_
    | with_reducible refine (State.park_spine ..).trans ?_ | simp only [spine_mk, spine_eta] | dsimp only | split
theorem opNotify_spine (s : State) (c : LCmd) (_o : LObj) : (opNotify s c _o).spine = s.spine := by
  unfold opNotify; repeat' first
    | with_reducible rfl | with_reducible refine ite_keep (fun _ => ?_) (fun _ => ?_) | with_reducible refine foldl_keep (fun _ _ => ?_) ?_
    | with_reducible refine dite_keep (fun _ => ?_) (fun _ => ?_) | with_reducible refine (State.wake_spine ..).trans ?_
    | with_reducible refine (State.sendResult_spine ..).trans ?_ | simp only [spine_mk, spine_eta] | dsimp only | split
theorem opBarrier_spine (s : State) (c : LCmd) (o : LObj) : (opBarrier s c o).spine = s.spine := by
  unfold opBarrier; repeat' first
    | with_reducible rfl | with_reducible refine ite_keep (fun _ => ?_) (fun _ => ?_) | with_reducible refine foldl_keep (fun _ _ => ?_) ?_
    | with_reducible refine dite_keep (fun _ => ?_) (fun _ => ?_) | with_reducible refine (State.park_spine ..).trans ?_
    | with_reducible refine (State.leaveParked_spine ..).trans ?_ | with_reducible refine (State.sendResult_spine ..).trans ?_
    | with_reducible refine (State.setObj_spine ..).trans ?_ | simp only [spine_mk, spine_eta] | dsimp only | split
theorem opLock_spine (s : State) (c : LCmd) (o : LObj) : (opLock s c o).spine = s.spine := by
  unfold opLock; repeat' first
    | with_reducible rfl | with_reducible refine ite_keep (fun _ => ?_) (fun _ => ?_) | with_reducible refine foldl_keep (fun _ _ => ?_) ?_
    | with_reducible refine dite_keep (fun _ => ?_) (fun _ => ?_) | with_reducible refine (State.sendResult_spine ..).trans ?_
    | with_reducible refine (State.setObj_spine ..).trans ?_ | with_reducible refine (State.park_spine ..).trans ?_
    | simp only [spine_mk, spine_eta] | dsimp only | split
theorem opUnlock_spine (s : State) (c : LCmd) (o : LObj) : (opUnlock s c o).spine = s.spine := by
  unfold opUnlock; repeat' first
    | with_reducible rfl | with_reducible refine ite_keep (fun _ => ?_) (fun _ => ?_) | with_reducible refine foldl_keep (fun _ _ => ?_) ?_
    | with_reducible refine dite_keep (fun _ => ?_) (fun _ => ?_) | with_reducible refine (State.sendResult_spine ..).trans ?_
    | with_reducible refine (State.setObj_spine ..).trans ?_ | with_reducible refine (State.handOver_spine ..).trans ?_
    | simp only [spine_mk, spine_eta] | dsimp only | split
theorem opGroupCreate_spine (s : State) (c : LCmd) : (opGroupCreate s c).spine = s.spine := by
  unfold opGroupCreate; repeat' first
    | with_reducible rfl | with_reducible refine ite_keep (fun _ => ?_) (fun _ => ?_) | with_reducible refine foldl_keep (fun _ _ => ?_) ?_
    | with_reducible refine dite_keep (fun _ => ?_) (fun _ => ?_) | with_reducible refine (State.sendResult_spine ..).trans ?_
    | with_reducible refine (State.modLod_spine ..).trans ?_ | simp only [spine_mk, spine_eta] | dsimp only | split
theorem opGroupJoin_spine (s : State) (c : LCmd) : (opGroupJoin s c).spine = s.spine := by
  unfold opGroupJoin; repeat' first
    | with_reducible rfl | with_reducible refine ite_keep (fun _ => ?_) (fun _ => ?_) | with_reducible refine foldl_keep (fun _ _ => ?_) ?_
    | with_reducible refine dite_keep (fun _ => ?_) (fun _ => ?_) | with_reducible refine (State.sendResult_spine ..).trans ?_
    | with_reducible refine (State.restartGroup_spine ..).trans ?_ | with_reducible refine (State.modLod_spine ..).trans ?_
    | simp only [spine_mk, spine_eta] | dsimp only | split
theorem opGroupLeave_spine (s : State) (c : LCmd) : (opGroupLeave s c).spine = s.spine := by
  unfold opGroupLeave; repeat' first
    | with_reducible rfl | with_reducible refine ite_keep (fun _ => ?_) (fun _ => ?_) | with_reducible refine foldl_keep (fun _ _ => ?_) ?_
    | with_reducible refine dite_keep (fun _ => ?_) (fun _ => ?_) | with_reducible refine (State.sendResult_spine ..).trans ?_
    | with_reducible refine (State.restartGroup_spine ..).trans ?_ | with_reducible refine (State.modLod_spine ..).trans ?_
    | simp only [spine_mk, spine_eta] | dsimp only | split
theorem State.unfreeze_spine (s : State) (gid : Nat) : (State.unfreeze s gid).spine = s.spine := by
  unfold State.unfreeze; repeat' first
    | with_reducible rfl | with_reducible refine ite_keep (fun _ => ?_) (fun _ => ?_) | with_reducible refine foldl_keep (fun _ _ => ?_) ?_
    | with_reducible refine dite_keep (fun _ => ?_) (fun _ => ?_) | with_reducible refine (State.modLod_spine ..).trans ?_
    | with_reducible refine ite_keep1 (fun _ => ?_) (fun _ => ?_) | with_reducible refine spine_of ?_ ?_ | simp only [spine_mk, spine_eta]
    | dsimp only | split | exact rfl
theorem opGroupDestroy_spine (s : State) (c : LCmd) : (opGroupDestroy s c).spine = s.spine := by
  unfold opGroupDestroy; repeat' first
    | with_reducible rfl | with_reducible refine ite_keep (fun _ => ?_) (fun _ => ?_) | with_reducible refine foldl_keep (fun _ _ => ?_) ?_
    | with_reducible refine dite_keep (fun _ => ?_) (fun _ => ?_) | with_reducible refine (State.sendResult_spine ..).trans ?_
    | with_reducible refine (State.modLod_spine ..).trans ?_ | with_reducible refine (State.unfreeze_spine ..).trans ?_
    | with_reducible refine ite_keep1 (fun _ => ?_) (fun _ => ?_) | with_reducible refine spine_of ?_ ?_ | simp only [spine_mk, spine_eta]
    | dsimp only | split | exact rfl
theorem opObjAlloc_spine (s : State) (c : LCmd) : (opObjAlloc s c).spine = s.spine := by
  unfold opObjAlloc; repeat' first
    | with_reducible rfl | with_reducible refine ite_keep (fun _ => ?_) (fun _ => ?_) | with_reducible refine foldl_keep (fun _ _ => ?_) ?_
    | with_reducible refine dite_keep (fun _ => ?_) (fun _ => ?_) | with_reducible refine (State.sendResult_spine ..).trans ?_
    | with_reducible refine (State.setObj_spine ..).trans ?_ | simp only [spine_mk, spine_eta] | dsimp only | split
theorem opObjFree_spine (s : State) (c : LCmd) (_o : LObj) : (opObjFree s c _o).spine = s.spine := by
  unfold opObjFree; repeat' first
    | with_reducible rfl | with_reducible refine ite_keep (fun _ => ?_) (fun _ => ?_) | with_reducible refine foldl_keep (fun _ _ => ?_) ?_
    | with_reducible refine dite_keep (fun _ => ?_) (fun _ => ?_) | with_reducible refine (State.endParked_spine ..).trans ?_
    | with_reducible refine (State.sendResult_spine ..).trans ?_ | with_reducible refine (State.modLod_spine ..).trans ?_
    | simp only [spine_mk, spine_eta] | dsimp only | split
theorem State.onObject_spine {s : State} {c : LCmd} {op : State → LCmd → LObj → State} (h : ∀ s c o, (op s c o).spine = s.spine) :
    (s.onObject c op).spine = s.spine := by
  unfold State.onObject; repeat' first
    | exact State.sendResult_spine .. | exact h .. | split
theorem State.execute_spine (s : State) (c : LCmd) : (State.execute s c).spine = s.spine := by
  unfold State.execute; repeat' first
    | with_reducible rfl | with_reducible refine ite_keep (fun _ => ?_) (fun _ => ?_) | with_reducible refine foldl_keep (fun _ _ => ?_) ?_
    | with_reducible refine dite_keep (fun _ => ?_) (fun _ => ?_) | with_reducible refine (State.onObject_spine (fun _ _ _ => ?_)).trans ?_
    | with_reducible refine (opFetchAdd_spine ..).trans ?_ | with_reducible refine (opCompareSwap_spine ..).trans ?_
    | with_reducible refine (opSwap_spine ..).trans ?_ | with_reducible refine (opWait_spine ..).trans ?_
    | with_reducible refine (opNotify_spine ..).trans ?_ | with_reducible refine (opBarrier_spine ..).trans ?_
    | with_reducible refine (opLock_spine ..).trans ?_ | with_reducible refine (opUnlock_spine ..).trans ?_
    | with_reducible refine (opGroupCreate_spine ..).trans ?_ | with_reducible refine (opGroupJoin_spine ..).trans ?_
    | with_reducible refine (opGroupLeave_spine ..).trans ?_ | with_reducible refine (opGroupDestroy_spine ..).trans ?_
    | with_reducible refine (opObjAlloc_spine ..).trans ?_ | with_reducible refine (opObjFree_spine ..).trans ?_
    | simp only [spine_mk, spine_eta] | dsimp only | split | exact rfl
theorem State.runCmd_spine (s : State) (c : LCmd) : (State.runCmd s c).spine = s.spine := by
  unfold State.runCmd; repeat' first
    | with_reducible rfl | with_reducible refine ite_keep (fun _ => ?_) (fun _ => ?_) | with_reducible refine foldl_keep (fun _ _ => ?_) ?_
    | with_reducible refine dite_keep (fun _ => ?_) (fun _ => ?_) | with_reducible refine (State.execute_spine ..).trans ?_
    | with_reducible refine (State.modLod_spine ..).trans ?_ | with_reducible refine (State.noteGroups_spine ..).trans ?_
    | with_reducible refine (State.count_spine ..).trans ?_ | simp only [spine_mk, spine_eta] | dsimp only | split | exact rfl
theorem State.runHeld_spine (s : State) : (State.runHeld s).spine = s.spine := by
  unfold State.runHeld; repeat' first
    | with_reducible rfl | with_reducible refine ite_keep (fun _ => ?_) (fun _ => ?_) | with_reducible refine foldl_keep (fun _ _ => ?_) ?_
    | with_reducible refine dite_keep (fun _ => ?_) (fun _ => ?_) | with_reducible refine (State.runCmd_spine ..).trans ?_
    | with_reducible refine (State.modLod_spine ..).trans ?_ | simp only [spine_mk, spine_eta] | dsimp only | split | exact rfl
theorem State.unknownRec_spine (s : State) (key : Nat) (n : Nat) (elapsed : Nat) : (State.unknownRec s key n elapsed).spine = s.spine := by
  unfold State.unknownRec; repeat' first
    | with_reducible rfl | with_reducible refine ite_keep (fun _ => ?_) (fun _ => ?_) | with_reducible refine foldl_keep (fun _ _ => ?_) ?_
    | with_reducible refine dite_keep (fun _ => ?_) (fun _ => ?_) | with_reducible refine (State.bump_spine ..).trans ?_
    | with_reducible refine (State.setLrec_spine ..).trans ?_ | with_reducible refine ite_keep1 (fun _ => ?_) (fun _ => ?_)
    | with_reducible refine spine_of ?_ ?_ | simp only [spine_mk, spine_eta] | dsimp only | split | exact rfl
theorem State.lodFailover_spine (s : State) (n : Nat) (first : Nat) (slots : List Nat) (stack : Bool) :
    (State.lodFailover s n first slots stack).spine = s.spine := by
  unfold State.lodFailover; repeat' first
    | with_reducible rfl | with_reducible refine ite_keep (fun _ => ?_) (fun _ => ?_) | with_reducible refine foldl_keep (fun _ _ => ?_) ?_
    | with_reducible refine dite_keep (fun _ => ?_) (fun _ => ?_) | with_reducible refine (State.modLod_spine ..).trans ?_
    | with_reducible refine (State.unknownRec_spine ..).trans ?_ | with_reducible refine (State.noteGroups_spine ..).trans ?_
    | with_reducible refine (State.runHeld_spine ..).trans ?_ | with_reducible refine (State.bump_spine ..).trans ?_
    | with_reducible refine ite_keep1 (fun _ => ?_) (fun _ => ?_) | with_reducible refine spine_of ?_ ?_ | simp only [spine_mk, spine_eta]
    | dsimp only | split | exact rfl
theorem State.safeLodestar_spine (s : State) : (State.safeLodestar s).spine = s.spine := by
  unfold State.safeLodestar; repeat' first
    | with_reducible rfl | with_reducible refine ite_keep (fun _ => ?_) (fun _ => ?_) | with_reducible refine foldl_keep (fun _ _ => ?_) ?_
    | with_reducible refine dite_keep (fun _ => ?_) (fun _ => ?_) | with_reducible refine (State.setLrec_spine ..).trans ?_
    | with_reducible refine (State.modLod_spine ..).trans ?_ | simp only [spine_mk, spine_eta] | dsimp only | split
theorem State.setCrec_spine (s : State) (key : Nat) (r : LRec) : (State.setCrec s key r).spine = s.spine := by
  unfold State.setCrec; repeat' first
    | with_reducible rfl | with_reducible refine ite_keep (fun _ => ?_) (fun _ => ?_) | with_reducible refine foldl_keep (fun _ _ => ?_) ?_
    | with_reducible refine dite_keep (fun _ => ?_) (fun _ => ?_) | with_reducible refine (State.modCpy_spine ..).trans ?_
    | simp only [spine_mk, spine_eta] | dsimp only | split
theorem State.setMgtDone_spine (s : State) (g : Nat) (r : LRec) : (State.setMgtDone s g r).spine = s.spine := by
  unfold State.setMgtDone; repeat' first
    | with_reducible rfl | with_reducible refine ite_keep (fun _ => ?_) (fun _ => ?_) | with_reducible refine foldl_keep (fun _ _ => ?_) ?_
    | with_reducible refine dite_keep (fun _ => ?_) (fun _ => ?_) | with_reducible refine (State.set_spine ..).trans ?_
    | simp only [spine_mk, spine_eta] | dsimp only | split
theorem State.completeRec_spine (s : State) (j : CopyJob) (status : Nat) (detail : Nat) :
    (State.completeRec s j status detail).spine = s.spine := by
  unfold State.completeRec; repeat' first
    | with_reducible rfl | with_reducible refine ite_keep (fun _ => ?_) (fun _ => ?_) | with_reducible refine foldl_keep (fun _ _ => ?_) ?_
    | with_reducible refine dite_keep (fun _ => ?_) (fun _ => ?_) | with_reducible refine (State.setMgtDone_spine ..).trans ?_
    | with_reducible refine (State.setCrec_spine ..).trans ?_ | simp only [spine_mk, spine_eta] | dsimp only | split
theorem State.endJob_spine (s : State) (j : CopyJob) (status : Nat) (detail : Nat) : (State.endJob s j status detail).spine = s.spine := by
  unfold State.endJob; repeat' first
    | with_reducible rfl | with_reducible refine ite_keep (fun _ => ?_) (fun _ => ?_) | with_reducible refine foldl_keep (fun _ _ => ?_) ?_
    | with_reducible refine dite_keep (fun _ => ?_) (fun _ => ?_) | with_reducible refine (State.modHome_spine ..).trans ?_
    | with_reducible refine (State.modCpy_spine ..).trans ?_ | with_reducible refine (State.completeRec_spine ..).trans ?_
    | with_reducible refine (State.releaseFor_spine ..).trans ?_ | with_reducible refine ite_keep1 (fun _ => ?_) (fun _ => ?_)
    | with_reducible refine spine_of ?_ ?_ | simp only [spine_mk, spine_eta] | dsimp only | split | exact rfl
theorem State.endJobs_spine (s : State) (f : CopyJob → Bool) (status : Nat) (detail : Nat) :
    (State.endJobs s f status detail).spine = s.spine := by
  unfold State.endJobs; repeat' first
    | with_reducible rfl | with_reducible refine ite_keep (fun _ => ?_) (fun _ => ?_) | with_reducible refine foldl_keep (fun _ _ => ?_) ?_
    | with_reducible refine dite_keep (fun _ => ?_) (fun _ => ?_) | with_reducible refine (State.endJob_spine ..).trans ?_
    | simp only [spine_mk, spine_eta] | dsimp only | split | exact rfl
theorem State.safeCopies_spine (s : State) : (State.safeCopies s).spine = s.spine := by
  unfold State.safeCopies; repeat' first
    | with_reducible rfl | with_reducible refine ite_keep (fun _ => ?_) (fun _ => ?_) | with_reducible refine foldl_keep (fun _ _ => ?_) ?_
    | with_reducible refine dite_keep (fun _ => ?_) (fun _ => ?_) | with_reducible refine (State.endJobs_spine ..).trans ?_
    | simp only [spine_mk, spine_eta] | dsimp only | split | exact rfl
theorem State.shedCopies_spine (s : State) : (State.shedCopies s).spine = s.spine := by
  unfold State.shedCopies; repeat' first
    | with_reducible rfl | with_reducible refine ite_keep (fun _ => ?_) (fun _ => ?_) | with_reducible refine foldl_keep (fun _ _ => ?_) ?_
    | with_reducible refine dite_keep (fun _ => ?_) (fun _ => ?_) | with_reducible refine (State.endJobs_spine ..).trans ?_
    | simp only [spine_mk, spine_eta] | dsimp only | split | exact rfl
theorem State.failEngine_spine (s : State) (g : Nat) : (State.failEngine s g).spine = s.spine := by
  unfold State.failEngine; repeat' first
    | with_reducible rfl | with_reducible refine ite_keep (fun _ => ?_) (fun _ => ?_) | with_reducible refine foldl_keep (fun _ _ => ?_) ?_
    | with_reducible refine dite_keep (fun _ => ?_) (fun _ => ?_) | with_reducible refine (State.modCpy_spine ..).trans ?_
    | with_reducible refine (State.endJobs_spine ..).trans ?_ | with_reducible refine (State.set_spine ..).trans ?_
    | with_reducible refine (State.releaseFor_spine ..).trans ?_ | with_reducible refine (State.withdrawFor_spine ..).trans ?_
    | simp only [spine_mk, spine_eta] | dsimp only | split | exact rfl
theorem State.apertureRead_spine (s : State) (p : Nat) (id : Nat) (k : Nat) (addr : Nat) (access : Nat) (kind : Sys2Proof.MsgKind)
    (cached : Bool) : (State.apertureRead s p id k addr access kind cached).spine = s.spine := by
  unfold State.apertureRead; repeat' first
    | with_reducible rfl | with_reducible refine ite_keep (fun _ => ?_) (fun _ => ?_) | with_reducible refine foldl_keep (fun _ _ => ?_) ?_
    | with_reducible refine dite_keep (fun _ => ?_) (fun _ => ?_) | with_reducible refine (State.gateCheck_spine ..).trans ?_
    | with_reducible refine (State.emit_spine ..).trans ?_ | with_reducible refine (State.violation_spine ..).trans ?_
    | with_reducible refine (State.raise_spine ..).trans ?_ | with_reducible refine (State.bump_spine ..).trans ?_
    | with_reducible refine ite_keep1 (fun _ => ?_) (fun _ => ?_) | with_reducible refine spine_of ?_ ?_ | simp only [spine_mk, spine_eta]
    | dsimp only | split | exact rfl
theorem State.queueJob_spine (s : State) (g : Nat) (chan : Nat) (slot : Nat) (berth : Nat) (b : List Nat) :
    (State.queueJob s g chan slot berth b).spine = s.spine := by
  unfold State.queueJob; repeat' first
    | with_reducible rfl | with_reducible refine ite_keep (fun _ => ?_) (fun _ => ?_) | with_reducible refine foldl_keep (fun _ _ => ?_) ?_
    | with_reducible refine dite_keep (fun _ => ?_) (fun _ => ?_) | with_reducible refine (State.modCpy_spine ..).trans ?_
    | simp only [spine_mk, spine_eta] | dsimp only | split
theorem State.setJob_spine (s : State) (j : CopyJob) : (State.setJob s j).spine = s.spine := by
  unfold State.setJob; repeat' first
    | with_reducible rfl | with_reducible refine ite_keep (fun _ => ?_) (fun _ => ?_) | with_reducible refine foldl_keep (fun _ _ => ?_) ?_
    | with_reducible refine dite_keep (fun _ => ?_) (fun _ => ?_) | with_reducible refine (State.modCpy_spine ..).trans ?_
    | simp only [spine_mk, spine_eta] | dsimp only | split
theorem State.copyCheck_spine (s : State) (g berth kind : Nat) (lines : List Nat) : (s.copyCheck g berth kind lines).2.spine = s.spine := by
  unfold State.copyCheck; dsimp only
  generalize (lines.filterMap s.memGate).eraseDups = l
  suffices h : ∀ (acc : List Nat × State), (l.foldl (fun (acc : List Nat × State) n => (acc.1 ++ (acc.2.gateCheck n (lines.filter fun l => s.memGate l == some n) berth kind g).1, (acc.2.gateCheck n (lines.filter fun l => s.memGate l == some n) berth kind g).2)) acc).2.spine = acc.2.spine from h ([], s)
  induction l with
  | nil => intro acc; rfl
  | cons a r ih => intro acc; rw [List.foldl_cons, ih]; exact State.gateCheck_spine ..
theorem State.engineRequest_spine (s : State) (j : CopyJob) (op : Sys2Proof.CohOp) (line : Nat) (i : Nat) (phase : Nat) (data : Nat) :
    (State.engineRequest s j op line i phase data).spine = s.spine := by
  unfold State.engineRequest; repeat' first
    | with_reducible rfl | with_reducible refine ite_keep (fun _ => ?_) (fun _ => ?_) | with_reducible refine foldl_keep (fun _ _ => ?_) ?_
    | with_reducible refine dite_keep (fun _ => ?_) (fun _ => ?_) | with_reducible refine (State.setJob_spine ..).trans ?_
    | with_reducible refine (State.keepShadow_spine ..).trans ?_ | with_reducible refine (State.count_spine ..).trans ?_
    | with_reducible refine (State.modHome_spine ..).trans ?_ | with_reducible refine ite_keep1 (fun _ => ?_) (fun _ => ?_)
    | with_reducible refine spine_of ?_ ?_ | simp only [spine_mk, spine_eta] | dsimp only | split | exact rfl
theorem State.copyWrite_spine (s : State) (id : Nat) (i : Nat) (phase : Nat) (data : Nat) :
    (State.copyWrite s id i phase data).spine = s.spine := by
  unfold State.copyWrite; repeat' first
    | with_reducible rfl | with_reducible refine ite_keep (fun _ => ?_) (fun _ => ?_) | with_reducible refine foldl_keep (fun _ _ => ?_) ?_
    | with_reducible refine dite_keep (fun _ => ?_) (fun _ => ?_) | with_reducible refine (State.engineRequest_spine ..).trans ?_
    | with_reducible refine (State.emit_spine ..).trans ?_ | with_reducible refine (State.setJob_spine ..).trans ?_
    | simp only [spine_mk, spine_eta] | dsimp only | split
theorem State.copyLine_spine (s : State) (id : Nat) (i : Nat) (data : List Nat) (pos : Nat) (dirty : List Nat) :
    (State.copyLine s id i data pos dirty).spine = s.spine := by
  unfold State.copyLine; repeat' first
    | with_reducible rfl | with_reducible refine ite_keep (fun _ => ?_) (fun _ => ?_) | with_reducible refine foldl_keep (fun _ _ => ?_) ?_
    | with_reducible refine dite_keep (fun _ => ?_) (fun _ => ?_) | with_reducible refine (State.engineRequest_spine ..).trans ?_
    | with_reducible refine (State.emit_spine ..).trans ?_ | with_reducible refine (State.copyWrite_spine ..).trans ?_
    | with_reducible refine (State.setJob_spine ..).trans ?_ | simp only [spine_mk, spine_eta] | dsimp only | split
theorem State.copyReply_spine (s : State) (tag : Nat) (data : Nat) (bad : Bool) : (State.copyReply s tag data bad).spine = s.spine := by
  unfold State.copyReply; repeat' first
    | with_reducible rfl | with_reducible refine ite_keep (fun _ => ?_) (fun _ => ?_) | with_reducible refine foldl_keep (fun _ _ => ?_) ?_
    | with_reducible refine dite_keep (fun _ => ?_) (fun _ => ?_) | with_reducible refine (State.setJob_spine ..).trans ?_
    | with_reducible refine (State.copyWrite_spine ..).trans ?_ | with_reducible refine (State.engineRequest_spine ..).trans ?_
    | simp only [spine_mk, spine_eta] | dsimp only | split
theorem State.takeReplies_spine (s : State) (g : Nat) : (State.takeReplies s g).spine = s.spine := by
  unfold State.takeReplies; repeat' first
    | with_reducible rfl | with_reducible refine ite_keep (fun _ => ?_) (fun _ => ?_) | with_reducible refine foldl_keep (fun _ _ => ?_) ?_
    | with_reducible refine dite_keep (fun _ => ?_) (fun _ => ?_) | with_reducible refine (State.copyReply_spine ..).trans ?_
    | with_reducible refine (State.modHome_spine ..).trans ?_ | simp only [spine_mk, spine_eta] | dsimp only | split
theorem State.beginChunk_spine (s : State) (j : CopyJob) (data : List Nat) (dirty : List Nat) :
    (State.beginChunk s j data dirty).spine = s.spine := by
  unfold State.beginChunk; repeat' first
    | with_reducible rfl | with_reducible refine ite_keep (fun _ => ?_) (fun _ => ?_) | with_reducible refine foldl_keep (fun _ _ => ?_) ?_
    | with_reducible refine dite_keep (fun _ => ?_) (fun _ => ?_) | with_reducible refine (State.copyCheck_spine ..).trans ?_
    | with_reducible refine (State.copyLine_spine ..).trans ?_ | with_reducible refine (State.setJob_spine ..).trans ?_
    | simp only [spine_mk, spine_eta] | dsimp only | split | exact rfl
theorem State.endChunk_spine (s : State) (j : CopyJob) : (State.endChunk s j).spine = s.spine := by
  unfold State.endChunk; repeat' first
    | with_reducible rfl | with_reducible refine ite_keep (fun _ => ?_) (fun _ => ?_) | with_reducible refine foldl_keep (fun _ _ => ?_) ?_
    | with_reducible refine dite_keep (fun _ => ?_) (fun _ => ?_) | with_reducible refine (State.endJob_spine ..).trans ?_
    | with_reducible refine (State.modCpy_spine ..).trans ?_ | simp only [spine_mk, spine_eta] | dsimp only | split | exact rfl
theorem State.safeParked_spine (s : State) : (State.safeParked s).spine = s.spine := by
  unfold State.safeParked; repeat' first
    | with_reducible rfl | with_reducible refine ite_keep (fun _ => ?_) (fun _ => ?_) | with_reducible refine foldl_keep (fun _ _ => ?_) ?_
    | with_reducible refine dite_keep (fun _ => ?_) (fun _ => ?_) | with_reducible refine (State.safeCopies_spine ..).trans ?_
    | with_reducible refine (State.safeLodestar_spine ..).trans ?_ | simp only [spine_mk, spine_eta] | dsimp only | split | exact rfl
theorem State.setMode_spine (s : State) (c : Nat) (i : Nat) (m : Nat) : (State.setMode s c i m).spine = s.spine := rfl
theorem State.endSessions_spine (s : State) (f : Nat → SessionRec → Bool) : (State.endSessions s f).spine = s.spine := rfl
theorem State.endSession_spine (s : State) (n : Nat) : (State.endSession s n).spine = s.spine := by
  unfold State.endSession; repeat' first
    | with_reducible rfl | with_reducible refine ite_keep (fun _ => ?_) (fun _ => ?_) | with_reducible refine foldl_keep (fun _ _ => ?_) ?_
    | with_reducible refine dite_keep (fun _ => ?_) (fun _ => ?_) | with_reducible refine (State.endSessions_spine ..).trans ?_
    | simp only [spine_mk, spine_eta] | dsimp only | split
theorem State.abortScrubs_spine (s : State) : (State.abortScrubs s).spine = s.spine := by
  unfold State.abortScrubs; repeat' first
    | with_reducible refine foldl_keep (fun _ _ => ?_) ?_ | with_reducible refine (State.setAll_spine ..).trans ?_
    | simp only [spine_mk, spine_eta]
theorem State.enterSafe_spine (s : State) (cause : Nat) (c : Nat) (src : Nat) : (State.enterSafe s cause c src).spine = s.spine := by
  unfold State.enterSafe; repeat' first
    | with_reducible refine foldl_keep (fun _ _ => ?_) ?_ | with_reducible refine (State.setAll_spine ..).trans ?_
    | with_reducible refine (State.abortScrubs_spine ..).trans ?_ | with_reducible refine (State.endDataLeave_spine ..).trans ?_
    | with_reducible refine (State.safeParked_spine ..).trans ?_ | with_reducible refine (State.endSessions_spine ..).trans ?_
    | simp only [spine_mk, spine_eta] | split | exact rfl
theorem State.hubAct_spine (s : State) (cls : Nat) (origin : Nat) (input : Nat) (cause : Nat) :
    (State.hubAct s cls origin input cause).spine = s.spine := by
  unfold State.hubAct; repeat' first
    | with_reducible refine (State.enterSafe_spine ..).trans ?_ | dsimp only | split | exact rfl
theorem State.takeEvent_spine (s : State) (c : Nat) (i : Nat) (cls : Nat) : (State.takeEvent s c i cls).spine = s.spine := by
  unfold State.takeEvent; repeat' first
    | with_reducible rfl | with_reducible refine ite_keep (fun _ => ?_) (fun _ => ?_) | with_reducible refine foldl_keep (fun _ _ => ?_) ?_
    | with_reducible refine dite_keep (fun _ => ?_) (fun _ => ?_) | with_reducible refine (State.bump_spine ..).trans ?_
    | with_reducible refine (State.setBit_spine ..).trans ?_ | with_reducible refine (State.set_spine ..).trans ?_
    | with_reducible refine (State.setAll_spine ..).trans ?_ | simp only [spine_mk, spine_eta] | dsimp only | split
theorem State.lineEvent_spine (s : State) (levels c i cls origin input cause : Nat) : (s.lineEvent levels c i cls origin input cause).spine = s.spine := by
  induction levels generalizing s c i with
  | zero => unfold State.lineEvent; repeat' first | with_reducible rfl | with_reducible refine ite_keep (fun _ => ?_) (fun _ => ?_) | with_reducible refine foldl_keep (fun _ _ => ?_) ?_ | with_reducible refine dite_keep (fun _ => ?_) (fun _ => ?_) | with_reducible refine (State.setBit_spine ..).trans ?_ | with_reducible refine (State.takeEvent_spine ..).trans ?_ | with_reducible refine (State.hubAct_spine ..).trans ?_ | with_reducible refine (ih ..).trans ?_ | with_reducible refine ite_keep1 (fun _ => ?_) (fun _ => ?_) | with_reducible refine spine_of ?_ ?_ | simp only [spine_mk, spine_eta] | dsimp only | split | exact rfl
  | succ n ih => unfold State.lineEvent; repeat' first | with_reducible rfl | with_reducible refine ite_keep (fun _ => ?_) (fun _ => ?_) | with_reducible refine foldl_keep (fun _ _ => ?_) ?_ | with_reducible refine dite_keep (fun _ => ?_) (fun _ => ?_) | with_reducible refine (State.setBit_spine ..).trans ?_ | with_reducible refine (State.takeEvent_spine ..).trans ?_ | with_reducible refine (State.hubAct_spine ..).trans ?_ | with_reducible refine (ih ..).trans ?_ | with_reducible refine ite_keep1 (fun _ => ?_) (fun _ => ?_) | with_reducible refine spine_of ?_ ?_ | simp only [spine_mk, spine_eta] | dsimp only | split | exact rfl
theorem State.report_spine (s : State) (c : Nat) (i : Nat) (cls : Nat) : (State.report s c i cls).spine = s.spine := by
  unfold State.report; repeat' first
    | with_reducible rfl | with_reducible refine ite_keep (fun _ => ?_) (fun _ => ?_) | with_reducible refine foldl_keep (fun _ _ => ?_) ?_
    | with_reducible refine dite_keep (fun _ => ?_) (fun _ => ?_) | with_reducible refine (State.lineEvent_spine ..).trans ?_
    | simp only [spine_mk, spine_eta] | dsimp only | split | exact rfl
theorem State.polledEvent_spine (s : State) (c : Nat) (i : Nat) (cls : Nat) : (State.polledEvent s c i cls).spine = s.spine := by
  unfold State.polledEvent; repeat' first
    | with_reducible rfl | with_reducible refine ite_keep (fun _ => ?_) (fun _ => ?_) | with_reducible refine foldl_keep (fun _ _ => ?_) ?_
    | with_reducible refine dite_keep (fun _ => ?_) (fun _ => ?_) | with_reducible refine (State.hubAct_spine ..).trans ?_
    | with_reducible refine (State.takeEvent_spine ..).trans ?_ | with_reducible refine (State.lineEvent_spine ..).trans ?_
    | simp only [spine_mk, spine_eta] | dsimp only | split | exact rfl
theorem State.takeReaction_spine (s : State) (c : Nat) (i : Nat) : (State.takeReaction s c i).spine = s.spine := by
  unfold State.takeReaction; repeat' first
    | with_reducible refine (State.report_spine ..).trans ?_ | simp only [spine_mk, spine_eta] | split
theorem State.reportAt_spine (s : State) (u : Nat × Nat) (cls : Nat) : (State.reportAt s u cls).spine = s.spine := by
  unfold State.reportAt; repeat' first
    | with_reducible rfl | with_reducible refine ite_keep (fun _ => ?_) (fun _ => ?_) | with_reducible refine foldl_keep (fun _ _ => ?_) ?_
    | with_reducible refine dite_keep (fun _ => ?_) (fun _ => ?_) | with_reducible refine (State.report_spine ..).trans ?_
    | simp only [spine_mk, spine_eta] | dsimp only | split | exact rfl
theorem State.setModes_spine (s : State) (l : List (Nat × Nat)) (m : Nat) : (State.setModes s l m).spine = s.spine := by
  unfold State.setModes; repeat' first
    | with_reducible rfl | with_reducible refine ite_keep (fun _ => ?_) (fun _ => ?_) | with_reducible refine foldl_keep (fun _ _ => ?_) ?_
    | with_reducible refine dite_keep (fun _ => ?_) (fun _ => ?_) | with_reducible refine (State.setMode_spine ..).trans ?_
    | simp only [spine_mk, spine_eta] | dsimp only | split
theorem State.roseUp_spine (s : State) : (State.roseUp s).spine = s.spine := by
  unfold State.roseUp; repeat' first
    | with_reducible rfl | with_reducible refine ite_keep (fun _ => ?_) (fun _ => ?_) | with_reducible refine foldl_keep (fun _ _ => ?_) ?_
    | with_reducible refine dite_keep (fun _ => ?_) (fun _ => ?_) | with_reducible refine (State.setAll_spine ..).trans ?_
    | simp only [spine_mk, spine_eta] | dsimp only | split
theorem State.startUp_spine (s : State) : (State.startUp s).spine = s.spine := by
  unfold State.startUp; repeat' first
    | with_reducible rfl | with_reducible refine ite_keep (fun _ => ?_) (fun _ => ?_) | with_reducible refine foldl_keep (fun _ _ => ?_) ?_
    | with_reducible refine dite_keep (fun _ => ?_) (fun _ => ?_) | with_reducible refine (State.roseUp_spine ..).trans ?_
    | with_reducible refine (State.set_spine ..).trans ?_ | simp only [spine_mk, spine_eta] | dsimp only | split
theorem State.slotEvent_spine (s : State) (v : Nat) (i : Nat) (presence : Bool) (dll : Bool) (attention : Bool) :
    (State.slotEvent s v i presence dll attention).spine = s.spine := by
  unfold State.slotEvent; repeat' first
    | with_reducible rfl | with_reducible refine ite_keep (fun _ => ?_) (fun _ => ?_) | with_reducible refine foldl_keep (fun _ _ => ?_) ?_
    | with_reducible refine dite_keep (fun _ => ?_) (fun _ => ?_) | with_reducible refine (State.emit_spine ..).trans ?_
    | with_reducible refine (State.modBnd_spine ..).trans ?_ | with_reducible refine ite_keep1 (fun _ => ?_) (fun _ => ?_)
    | with_reducible refine spine_of ?_ ?_ | simp only [spine_mk, spine_eta] | dsimp only | split | exact rfl
theorem State.dllEvent_spine (s : State) (p : Nat) : (State.dllEvent s p).spine = s.spine := by
  unfold State.dllEvent; repeat' first
    | with_reducible rfl | with_reducible refine ite_keep (fun _ => ?_) (fun _ => ?_) | with_reducible refine foldl_keep (fun _ _ => ?_) ?_
    | with_reducible refine dite_keep (fun _ => ?_) (fun _ => ?_) | with_reducible refine (State.slotEvent_spine ..).trans ?_
    | with_reducible refine ite_keep1 (fun _ => ?_) (fun _ => ?_) | with_reducible refine spine_of ?_ ?_ | simp only [spine_mk, spine_eta]
    | dsimp only | split | exact rfl
theorem State.setForward_spine (s : State) (p : Nat) : (State.setForward s p).spine = s.spine := by
  unfold State.setForward; repeat' first
    | with_reducible rfl | with_reducible refine ite_keep (fun _ => ?_) (fun _ => ?_) | with_reducible refine foldl_keep (fun _ _ => ?_) ?_
    | with_reducible refine dite_keep (fun _ => ?_) (fun _ => ?_) | with_reducible refine (State.setAll_spine ..).trans ?_
    | simp only [spine_mk, spine_eta] | dsimp only | split
theorem State.dropCalibration_spine (s : State) (p : Nat) : (State.dropCalibration s p).spine = s.spine := by
  unfold State.dropCalibration; repeat' first
    | with_reducible rfl | with_reducible refine ite_keep (fun _ => ?_) (fun _ => ?_) | with_reducible refine foldl_keep (fun _ _ => ?_) ?_
    | with_reducible refine dite_keep (fun _ => ?_) (fun _ => ?_) | with_reducible refine (State.modLan_spine ..).trans ?_
    | with_reducible refine (State.setAll_spine ..).trans ?_ | with_reducible refine (State.set_spine ..).trans ?_
    | simp only [spine_mk, spine_eta] | dsimp only | split
theorem State.flush_spine (s : State) (p : Nat) : (State.flush s p).spine = s.spine := by
  unfold State.flush; repeat' first
    | with_reducible rfl | with_reducible refine ite_keep (fun _ => ?_) (fun _ => ?_) | with_reducible refine foldl_keep (fun _ _ => ?_) ?_
    | with_reducible refine dite_keep (fun _ => ?_) (fun _ => ?_) | with_reducible refine (State.linkDownReply_spine ..).trans ?_
    | with_reducible refine (State.dropBolt_spine ..).trans ?_ | with_reducible refine (State.modCore_spine ..).trans ?_
    | with_reducible refine (State.setAll_spine ..).trans ?_ | with_reducible refine (State.setBuffer_spine ..).trans ?_
    | with_reducible refine (State.bump_spine ..).trans ?_ | with_reducible refine (State.askSweep_spine ..).trans ?_
    | with_reducible refine (State.expireSnoops_spine ..).trans ?_ | with_reducible refine (State.modLnk_spine ..).trans ?_
    | with_reducible refine (State.fillMsg_spine ..).trans ?_ | simp only [spine_mk, spine_eta] | dsimp only | split | exact rfl
theorem State.beginReset_spine (s : State) (p : Nat) : (State.beginReset s p).spine = s.spine := by
  unfold State.beginReset; repeat' first
    | with_reducible rfl | with_reducible refine ite_keep (fun _ => ?_) (fun _ => ?_) | with_reducible refine foldl_keep (fun _ _ => ?_) ?_
    | with_reducible refine dite_keep (fun _ => ?_) (fun _ => ?_) | with_reducible refine (State.modLnk_spine ..).trans ?_
    | with_reducible refine (State.set_spine ..).trans ?_ | with_reducible refine (State.bump_spine ..).trans ?_
    | simp only [spine_mk, spine_eta] | dsimp only | split
theorem State.dropLink_spine (s : State) (p : Nat) : (State.dropLink s p).spine = s.spine := by
  unfold State.dropLink; repeat' first
    | with_reducible rfl | with_reducible refine ite_keep (fun _ => ?_) (fun _ => ?_) | with_reducible refine foldl_keep (fun _ _ => ?_) ?_
    | with_reducible refine dite_keep (fun _ => ?_) (fun _ => ?_) | with_reducible refine (State.modLnk_spine ..).trans ?_
    | with_reducible refine (State.dropCalibration_spine ..).trans ?_ | with_reducible refine (State.setForward_spine ..).trans ?_
    | with_reducible refine (State.setAll_spine ..).trans ?_ | with_reducible refine (State.dllEvent_spine ..).trans ?_
    | with_reducible refine ite_keep1 (fun _ => ?_) (fun _ => ?_) | with_reducible refine spine_of ?_ ?_ | simp only [spine_mk, spine_eta]
    | dsimp only | split | exact rfl
theorem State.retire_spine (s : State) (p : Nat) (carries : Bool) : (State.retire s p carries).spine = s.spine := by
  unfold State.retire; repeat' first
    | with_reducible refine (State.raise_spine ..).trans ?_ | with_reducible refine (State.set_spine ..).trans ?_
    | with_reducible refine (State.flush_spine ..).trans ?_ | with_reducible refine (State.takeReaction_spine ..).trans ?_
    | with_reducible refine spine_of ?_ ?_ | simp only [spine_mk, spine_eta] | split | exact rfl
theorem State.linkDown_spine (s : State) (p : Nat) (cause : Nat) : (State.linkDown s p cause).spine = s.spine := by
  unfold State.linkDown; repeat' first
    | with_reducible rfl | with_reducible refine ite_keep (fun _ => ?_) (fun _ => ?_) | with_reducible refine foldl_keep (fun _ _ => ?_) ?_
    | with_reducible refine dite_keep (fun _ => ?_) (fun _ => ?_) | with_reducible refine (State.reportAt_spine ..).trans ?_
    | with_reducible refine (State.emit_spine ..).trans ?_ | with_reducible refine (State.dropLink_spine ..).trans ?_
    | with_reducible refine (State.set_spine ..).trans ?_ | with_reducible refine (State.modLnk_spine ..).trans ?_
    | with_reducible refine (State.raise_spine ..).trans ?_ | with_reducible refine (State.retire_spine ..).trans ?_
    | with_reducible refine (State.bump_spine ..).trans ?_ | with_reducible refine (State.beginReset_spine ..).trans ?_
    | with_reducible refine (State.flush_spine ..).trans ?_ | with_reducible refine ite_keep1 (fun _ => ?_) (fun _ => ?_)
    | with_reducible refine spine_of ?_ ?_ | simp only [spine_mk, spine_eta] | dsimp only | split | exact rfl
theorem State.fullReset_spine (s : State) (p : Nat) (cause : Nat) : (State.fullReset s p cause).spine = s.spine := by
  unfold State.fullReset; repeat' first
    | with_reducible rfl | with_reducible refine ite_keep (fun _ => ?_) (fun _ => ?_) | with_reducible refine foldl_keep (fun _ _ => ?_) ?_
    | with_reducible refine dite_keep (fun _ => ?_) (fun _ => ?_) | with_reducible refine (State.linkDown_spine ..).trans ?_
    | with_reducible refine (State.flush_spine ..).trans ?_ | with_reducible refine (State.beginReset_spine ..).trans ?_
    | simp only [spine_mk, spine_eta] | dsimp only | split | exact rfl
theorem State.startTraining_spine (s : State) (p : Nat) : (State.startTraining s p).spine = s.spine := by
  unfold State.startTraining; repeat' first
    | with_reducible rfl | with_reducible refine ite_keep (fun _ => ?_) (fun _ => ?_) | with_reducible refine foldl_keep (fun _ _ => ?_) ?_
    | with_reducible refine dite_keep (fun _ => ?_) (fun _ => ?_) | with_reducible refine (State.modLnk_spine ..).trans ?_
    | with_reducible refine (State.set_spine ..).trans ?_ | simp only [spine_mk, spine_eta] | dsimp only | split
theorem State.setLane_spine (s : State) (l : Nat) (r : LaneRec) : (State.setLane s l r).spine = s.spine := by
  unfold State.setLane; repeat' first
    | with_reducible rfl | with_reducible refine ite_keep (fun _ => ?_) (fun _ => ?_) | with_reducible refine foldl_keep (fun _ _ => ?_) ?_
    | with_reducible refine dite_keep (fun _ => ?_) (fun _ => ?_) | with_reducible refine (State.modLan_spine ..).trans ?_
    | simp only [spine_mk, spine_eta] | dsimp only | split
theorem State.showFom_spine (s : State) (l : Nat) : (State.showFom s l).spine = s.spine := by
  unfold State.showFom; repeat' first
    | with_reducible rfl | with_reducible refine ite_keep (fun _ => ?_) (fun _ => ?_) | with_reducible refine foldl_keep (fun _ _ => ?_) ?_
    | with_reducible refine dite_keep (fun _ => ?_) (fun _ => ?_) | with_reducible refine (State.setAll_spine ..).trans ?_
    | simp only [spine_mk, spine_eta] | dsimp only | split
theorem State.activateLanes_spine (s : State) (ls : List Nat) (pam4 : Bool) : (State.activateLanes s ls pam4).spine = s.spine := by
  unfold State.activateLanes; repeat' first
    | with_reducible rfl | with_reducible refine ite_keep (fun _ => ?_) (fun _ => ?_) | with_reducible refine foldl_keep (fun _ _ => ?_) ?_
    | with_reducible refine dite_keep (fun _ => ?_) (fun _ => ?_) | with_reducible refine (State.showFom_spine ..).trans ?_
    | with_reducible refine (State.setAll_spine ..).trans ?_ | simp only [spine_mk, spine_eta] | dsimp only | split
theorem State.raiseLink_spine (s : State) (p : Nat) (lanes : Nat) (rate : Nat) (flit : Nat) (cxl : Bool) (peer : Bool) (high : Bool) :
    (State.raiseLink s p lanes rate flit cxl peer high).spine = s.spine := by
  unfold State.raiseLink; repeat' first
    | with_reducible rfl | with_reducible refine ite_keep (fun _ => ?_) (fun _ => ?_) | with_reducible refine foldl_keep (fun _ _ => ?_) ?_
    | with_reducible refine dite_keep (fun _ => ?_) (fun _ => ?_) | with_reducible refine (State.setAll_spine ..).trans ?_
    | with_reducible refine (State.modLnk_spine ..).trans ?_ | with_reducible refine (State.modCore_spine ..).trans ?_
    | with_reducible refine (State.resumeSnoops_spine ..).trans ?_ | with_reducible refine (State.dllEvent_spine ..).trans ?_
    | with_reducible refine (State.setForward_spine ..).trans ?_ | with_reducible refine (State.activateLanes_spine ..).trans ?_
    | with_reducible refine ite_keep1 (fun _ => ?_) (fun _ => ?_) | with_reducible refine spine_of ?_ ?_ | simp only [spine_mk, spine_eta]
    | dsimp only | split | exact rfl
theorem State.dropRecords_spine (s : State) (p : Nat) : (State.dropRecords s p).spine = s.spine := by
  unfold State.dropRecords; repeat' first
    | with_reducible rfl | with_reducible refine ite_keep (fun _ => ?_) (fun _ => ?_) | with_reducible refine foldl_keep (fun _ _ => ?_) ?_
    | with_reducible refine dite_keep (fun _ => ?_) (fun _ => ?_) | with_reducible refine (State.bump_spine ..).trans ?_
    | with_reducible refine (State.linkDownReply_spine ..).trans ?_ | with_reducible refine (State.modCore_spine ..).trans ?_
    | simp only [spine_mk, spine_eta] | dsimp only | split
theorem State.setTacks_spine (s : State) (pt : Nat) (cur : Nat) (l : List (Nat × Nat)) : (State.setTacks s pt cur l).spine = s.spine := by
  unfold State.setTacks; repeat' first
    | with_reducible rfl | with_reducible refine ite_keep (fun _ => ?_) (fun _ => ?_) | with_reducible refine foldl_keep (fun _ _ => ?_) ?_
    | with_reducible refine dite_keep (fun _ => ?_) (fun _ => ?_) | with_reducible refine (State.modBnd_spine ..).trans ?_
    | with_reducible refine (State.setAll_spine ..).trans ?_ | simp only [spine_mk, spine_eta] | dsimp only | split
theorem State.advanceTack_spine (s : State) (pt : Nat) : (State.advanceTack s pt).spine = s.spine := by
  unfold State.advanceTack; repeat' first
    | with_reducible rfl | with_reducible refine ite_keep (fun _ => ?_) (fun _ => ?_) | with_reducible refine foldl_keep (fun _ _ => ?_) ?_
    | with_reducible refine dite_keep (fun _ => ?_) (fun _ => ?_) | with_reducible refine (State.modCore_spine ..).trans ?_
    | with_reducible refine (State.setTacks_spine ..).trans ?_ | with_reducible refine ite_keep1 (fun _ => ?_) (fun _ => ?_)
    | with_reducible refine spine_of ?_ ?_ | simp only [spine_mk, spine_eta] | dsimp only | split | exact rfl
theorem State.mustAdvance_spine (s : State) (pt : Nat) : (State.mustAdvance s pt).spine = s.spine := by
  unfold State.mustAdvance; repeat' first
    | with_reducible rfl | with_reducible refine ite_keep (fun _ => ?_) (fun _ => ?_) | with_reducible refine foldl_keep (fun _ _ => ?_) ?_
    | with_reducible refine dite_keep (fun _ => ?_) (fun _ => ?_) | with_reducible refine (State.modBnd_spine ..).trans ?_
    | with_reducible refine (State.advanceTack_spine ..).trans ?_ | with_reducible refine (State.set_spine ..).trans ?_
    | with_reducible refine ite_keep1 (fun _ => ?_) (fun _ => ?_) | with_reducible refine spine_of ?_ ?_ | simp only [spine_mk, spine_eta]
    | dsimp only | split | exact rfl
theorem State.recordBinding_spine (s : State) (pt : Nat) (bound : Nat) (v : Nat) (i : Nat) :
    (State.recordBinding s pt bound v i).spine = s.spine := by
  unfold State.recordBinding; repeat' first
    | with_reducible rfl | with_reducible refine ite_keep (fun _ => ?_) (fun _ => ?_) | with_reducible refine foldl_keep (fun _ _ => ?_) ?_
    | with_reducible refine dite_keep (fun _ => ?_) (fun _ => ?_) | with_reducible refine (State.setAll_spine ..).trans ?_
    | with_reducible refine ite_keep1 (fun _ => ?_) (fun _ => ?_) | with_reducible refine spine_of ?_ ?_ | simp only [spine_mk, spine_eta]
    | dsimp only | split | exact rfl
theorem State.holdUpdate_spine (s : State) (p : Nat) : (State.holdUpdate s p).spine = s.spine := by
  unfold State.holdUpdate; repeat' first
    | with_reducible rfl | with_reducible refine ite_keep (fun _ => ?_) (fun _ => ?_) | with_reducible refine foldl_keep (fun _ _ => ?_) ?_
    | with_reducible refine dite_keep (fun _ => ?_) (fun _ => ?_) | with_reducible refine (State.fullReset_spine ..).trans ?_
    | with_reducible refine (State.modLnk_spine ..).trans ?_ | with_reducible refine (State.startTraining_spine ..).trans ?_
    | simp only [spine_mk, spine_eta] | dsimp only | split | exact rfl
theorem State.slotPower_spine (s : State) (k : Nat) (on : Bool) : (State.slotPower s k on).spine = s.spine := by
  unfold State.slotPower; repeat' first
    | with_reducible rfl | with_reducible refine ite_keep (fun _ => ?_) (fun _ => ?_) | with_reducible refine foldl_keep (fun _ _ => ?_) ?_
    | with_reducible refine dite_keep (fun _ => ?_) (fun _ => ?_) | with_reducible refine (State.modBnd_spine ..).trans ?_
    | with_reducible refine (State.holdUpdate_spine ..).trans ?_ | simp only [spine_mk, spine_eta] | dsimp only | split | exact rfl
theorem State.removePleat_spine (s : State) (p : Nat) : (State.removePleat s p).spine = s.spine := by
  unfold State.removePleat; repeat' first
    | with_reducible rfl | with_reducible refine ite_keep (fun _ => ?_) (fun _ => ?_) | with_reducible refine foldl_keep (fun _ _ => ?_) ?_
    | with_reducible refine dite_keep (fun _ => ?_) (fun _ => ?_) | with_reducible refine (State.fullReset_spine ..).trans ?_
    | with_reducible refine (State.mustAdvance_spine ..).trans ?_ | with_reducible refine (State.set_spine ..).trans ?_
    | with_reducible refine (State.emit_spine ..).trans ?_ | simp only [spine_mk, spine_eta] | dsimp only | split | exact rfl
theorem State.surprise_spine (s : State) (p : Nat) : (State.surprise s p).spine = s.spine := by
  unfold State.surprise; repeat' first
    | with_reducible rfl | with_reducible refine ite_keep (fun _ => ?_) (fun _ => ?_) | with_reducible refine foldl_keep (fun _ _ => ?_) ?_
    | with_reducible refine dite_keep (fun _ => ?_) (fun _ => ?_) | with_reducible refine (State.removePleat_spine ..).trans ?_
    | with_reducible refine (State.modBnd_spine ..).trans ?_ | simp only [spine_mk, spine_eta] | dsimp only | split | exact rfl
theorem State.serveRemovals_spine (s : State) : (State.serveRemovals s).spine = s.spine := by
  unfold State.serveRemovals; repeat' first
    | with_reducible rfl | with_reducible refine ite_keep (fun _ => ?_) (fun _ => ?_) | with_reducible refine foldl_keep (fun _ _ => ?_) ?_
    | with_reducible refine dite_keep (fun _ => ?_) (fun _ => ?_) | with_reducible refine (State.removePleat_spine ..).trans ?_
    | with_reducible refine (State.modBnd_spine ..).trans ?_ | simp only [spine_mk, spine_eta] | dsimp only | split | exact rfl
theorem State.showCollisions_spine (s : State) (ids : List Nat) : (State.showCollisions s ids).spine = s.spine := by
  unfold State.showCollisions; repeat' first
    | with_reducible rfl | with_reducible refine ite_keep (fun _ => ?_) (fun _ => ?_) | with_reducible refine foldl_keep (fun _ _ => ?_) ?_
    | with_reducible refine dite_keep (fun _ => ?_) (fun _ => ?_) | with_reducible refine (State.setFlag_spine ..).trans ?_
    | simp only [spine_mk, spine_eta] | dsimp only | split
theorem State.dropAdvs_spine (s : State) (f : Nat → Bool) : (State.dropAdvs s f).spine = s.spine := by
  unfold State.dropAdvs; repeat' first
    | with_reducible rfl | with_reducible refine ite_keep (fun _ => ?_) (fun _ => ?_) | with_reducible refine foldl_keep (fun _ _ => ?_) ?_
    | with_reducible refine dite_keep (fun _ => ?_) (fun _ => ?_) | with_reducible refine (State.showCollisions_spine ..).trans ?_
    | with_reducible refine (State.modBnd_spine ..).trans ?_ | with_reducible refine ite_keep1 (fun _ => ?_) (fun _ => ?_)
    | with_reducible refine spine_of ?_ ?_ | simp only [spine_mk, spine_eta] | dsimp only | split | exact rfl
theorem State.takeTurn_spine {s : State} {src : Sess} {w : Waiting} {act : State → State} (h : ∀ u, (act u).spine = u.spine) :
    (s.takeTurn src w act).spine = s.spine := by
  unfold State.takeTurn; repeat' first
    | exact h .. | exact State.respond_spine .. | exact State.modBnd_spine .. | split
theorem bindNow_spine (src : Sys2Proof.Sess) (who : Principal) (opcode : Nat) (v : Nat) (i : Nat) (lead : Option Nat) (ld : Nat)
    (s : State) : (bindNow src who opcode v i lead ld s).spine = s.spine := by
  unfold bindNow; repeat' first
    | with_reducible rfl | with_reducible refine ite_keep (fun _ => ?_) (fun _ => ?_) | with_reducible refine foldl_keep (fun _ _ => ?_) ?_
    | with_reducible refine dite_keep (fun _ => ?_) (fun _ => ?_) | with_reducible refine (State.respond_spine ..).trans ?_
    | with_reducible refine (State.startBg_spine (fun _ => ?_)).trans ?_ | with_reducible refine (State.modBnd_spine ..).trans ?_
    | with_reducible refine ite_keep1 (fun _ => ?_) (fun _ => ?_) | with_reducible refine spine_of ?_ ?_ | simp only [spine_mk, spine_eta]
    | dsimp only | split | exact rfl
theorem unbindNow_spine (src : Sys2Proof.Sess) (who : Principal) (opcode : Nat) (option : Nat) (pt : Option Nat) (s : State) :
    (unbindNow src who opcode option pt s).spine = s.spine := by
  unfold unbindNow; repeat' first
    | with_reducible rfl | with_reducible refine ite_keep (fun _ => ?_) (fun _ => ?_) | with_reducible refine foldl_keep (fun _ _ => ?_) ?_
    | with_reducible refine dite_keep (fun _ => ?_) (fun _ => ?_) | with_reducible refine (State.respond_spine ..).trans ?_
    | with_reducible refine (State.startBg_spine (fun _ => ?_)).trans ?_ | with_reducible refine (State.slotEvent_spine ..).trans ?_
    | with_reducible refine (State.modBnd_spine ..).trans ?_ | with_reducible refine ite_keep1 (fun _ => ?_) (fun _ => ?_)
    | with_reducible refine spine_of ?_ ?_ | simp only [spine_mk, spine_eta] | dsimp only | split | exact rfl
theorem State.chartTurnedAway_spine (s : State) (code : Nat) : (State.chartTurnedAway s code).spine = s.spine := by
  unfold State.chartTurnedAway; repeat' first
    | with_reducible rfl | with_reducible refine ite_keep (fun _ => ?_) (fun _ => ?_) | with_reducible refine foldl_keep (fun _ _ => ?_) ?_
    | with_reducible refine dite_keep (fun _ => ?_) (fun _ => ?_) | with_reducible refine (State.setAll_spine ..).trans ?_
    | simp only [spine_mk, spine_eta] | dsimp only | split
theorem State.startChart_spine (s : State) (kind : ChartKind) (via : Option Nat) (asker : Option Nat) :
    (State.startChart s kind via asker).1.spine = s.spine := by
  unfold State.startChart; repeat' first
    | with_reducible rfl | with_reducible refine ite_keep (fun _ => ?_) (fun _ => ?_) | with_reducible refine foldl_keep (fun _ _ => ?_) ?_
    | with_reducible refine dite_keep (fun _ => ?_) (fun _ => ?_) | with_reducible refine (State.chartTurnedAway_spine ..).trans ?_
    | with_reducible refine (State.modBnd_spine ..).trans ?_ | with_reducible refine (State.modChtu_spine ..).trans ?_
    | with_reducible refine (State.set_spine ..).trans ?_ | with_reducible refine ite_keep1 (fun _ => ?_) (fun _ => ?_)
    | with_reducible refine spine_of ?_ ?_ | simp only [spine_mk, spine_eta] | dsimp only | split | exact rfl
theorem State.serve_spine (s : State) (a : Waiting) : (State.serve s a).spine = s.spine := by
  unfold State.serve; repeat' first
    | with_reducible rfl | with_reducible refine ite_keep (fun _ => ?_) (fun _ => ?_) | with_reducible refine foldl_keep (fun _ _ => ?_) ?_
    | with_reducible refine dite_keep (fun _ => ?_) (fun _ => ?_) | with_reducible refine (State.respond_spine ..).trans ?_
    | with_reducible refine (bindNow_spine ..).trans ?_ | with_reducible refine (unbindNow_spine ..).trans ?_
    | with_reducible refine (State.startChart_spine ..).trans ?_ | with_reducible refine (State.endBg_spine ..).trans ?_
    | with_reducible refine ite_keep1 (fun _ => ?_) (fun _ => ?_) | with_reducible refine spine_of ?_ ?_ | simp only [spine_mk, spine_eta]
    | dsimp only | split | exact rfl
theorem State.serveList_spine (l : List Waiting) (s : State) : (State.serveList l s).spine = s.spine := by
  induction l generalizing s with
  | nil => rfl
  | cons w r ih => unfold State.serveList; repeat' first | with_reducible rfl | with_reducible refine ite_keep (fun _ => ?_) (fun _ => ?_) | with_reducible refine foldl_keep (fun _ _ => ?_) ?_ | with_reducible refine dite_keep (fun _ => ?_) (fun _ => ?_) | with_reducible refine (State.serve_spine ..).trans ?_ | with_reducible refine (State.modBnd_spine ..).trans ?_ | with_reducible refine (ih ..).trans ?_ | with_reducible refine ite_keep1 (fun _ => ?_) (fun _ => ?_) | with_reducible refine spine_of ?_ ?_ | simp only [spine_mk, spine_eta] | dsimp only | split | exact rfl
theorem State.serveWaiting_spine (s : State) : (State.serveWaiting s).spine = s.spine := by
  unfold State.serveWaiting; repeat' first
    | with_reducible rfl | with_reducible refine ite_keep (fun _ => ?_) (fun _ => ?_) | with_reducible refine foldl_keep (fun _ _ => ?_) ?_
    | with_reducible refine dite_keep (fun _ => ?_) (fun _ => ?_) | with_reducible refine (State.serveList_spine ..).trans ?_
    | with_reducible refine (State.modBnd_spine ..).trans ?_ | with_reducible refine ite_keep1 (fun _ => ?_) (fun _ => ?_)
    | with_reducible refine spine_of ?_ ?_ | simp only [spine_mk, spine_eta] | dsimp only | split | exact rfl
theorem State.endBind_spine (s : State) (w : BindWork) (code : Cci) (status : Nat) : (State.endBind s w code status).spine = s.spine := by
  unfold State.endBind; repeat' first
    | with_reducible rfl | with_reducible refine ite_keep (fun _ => ?_) (fun _ => ?_) | with_reducible refine foldl_keep (fun _ _ => ?_) ?_
    | with_reducible refine dite_keep (fun _ => ?_) (fun _ => ?_) | with_reducible refine (State.endBg_spine ..).trans ?_
    | with_reducible refine (State.modBnd_spine ..).trans ?_ | with_reducible refine (State.serveWaiting_spine ..).trans ?_
    | with_reducible refine (State.serveRemovals_spine ..).trans ?_ | with_reducible refine (State.slotPower_spine ..).trans ?_
    | with_reducible refine ite_keep1 (fun _ => ?_) (fun _ => ?_) | with_reducible refine spine_of ?_ ?_ | simp only [spine_mk, spine_eta]
    | dsimp only | split | exact rfl
theorem State.finishBind_spine (s : State) (w : BindWork) : (State.finishBind s w).spine = s.spine := by
  unfold State.finishBind; repeat' first
    | with_reducible rfl | with_reducible refine ite_keep (fun _ => ?_) (fun _ => ?_) | with_reducible refine foldl_keep (fun _ _ => ?_) ?_
    | with_reducible refine dite_keep (fun _ => ?_) (fun _ => ?_) | with_reducible refine (State.recordBinding_spine ..).trans ?_
    | with_reducible refine (State.advanceTack_spine ..).trans ?_ | with_reducible refine (State.endBind_spine ..).trans ?_
    | with_reducible refine (State.slotEvent_spine ..).trans ?_ | with_reducible refine (State.holdUpdate_spine ..).trans ?_
    | with_reducible refine ite_keep1 (fun _ => ?_) (fun _ => ?_) | with_reducible refine spine_of ?_ ?_ | simp only [spine_mk, spine_eta]
    | dsimp only | split | exact rfl
theorem State.moveSlot_spine (s : State) (failed : Nat) (v : Nat) (n : Nat) (unknown : Bool) :
    (State.moveSlot s failed v n unknown).spine = s.spine := by
  unfold State.moveSlot; repeat' first
    | with_reducible rfl | with_reducible refine ite_keep (fun _ => ?_) (fun _ => ?_) | with_reducible refine foldl_keep (fun _ _ => ?_) ?_
    | with_reducible refine dite_keep (fun _ => ?_) (fun _ => ?_) | with_reducible refine (State.setAll_spine ..).trans ?_
    | with_reducible refine (State.modHome_spine ..).trans ?_ | simp only [spine_mk, spine_eta] | dsimp only | split
theorem State.dropSlice_spine (s : State) (n : Nat) : (State.dropSlice s n).spine = s.spine := by
  unfold State.dropSlice; repeat' first
    | with_reducible rfl | with_reducible refine ite_keep (fun _ => ?_) (fun _ => ?_) | with_reducible refine foldl_keep (fun _ _ => ?_) ?_
    | with_reducible refine dite_keep (fun _ => ?_) (fun _ => ?_) | with_reducible refine (State.modHome_spine ..).trans ?_
    | simp only [spine_mk, spine_eta] | dsimp only | split
theorem State.dropPartition_spine (s : State) (n : Nat) : (State.dropPartition s n).spine = s.spine := by
  unfold State.dropPartition; repeat' first
    | with_reducible rfl | with_reducible refine ite_keep (fun _ => ?_) (fun _ => ?_) | with_reducible refine foldl_keep (fun _ _ => ?_) ?_
    | with_reducible refine dite_keep (fun _ => ?_) (fun _ => ?_) | with_reducible refine (State.modHome_spine ..).trans ?_
    | simp only [spine_mk, spine_eta] | dsimp only | split
theorem State.afterMove_spine (s : State) (n : Nat) (slots : List Nat) (stack : Bool) :
    (State.afterMove s n slots stack).spine = s.spine := by
  unfold State.afterMove; repeat' first
    | with_reducible rfl | with_reducible refine ite_keep (fun _ => ?_) (fun _ => ?_) | with_reducible refine foldl_keep (fun _ _ => ?_) ?_
    | with_reducible refine dite_keep (fun _ => ?_) (fun _ => ?_) | with_reducible refine (State.lodFailover_spine ..).trans ?_
    | simp only [spine_mk, spine_eta] | dsimp only | split
theorem State.failSlice_spine (s : State) (n : Nat) : (State.failSlice s n).spine = s.spine := by
  unfold State.failSlice; repeat' first
    | with_reducible rfl | with_reducible refine ite_keep (fun _ => ?_) (fun _ => ?_) | with_reducible refine foldl_keep (fun _ _ => ?_) ?_
    | with_reducible refine dite_keep (fun _ => ?_) (fun _ => ?_) | with_reducible refine (State.setAll_spine ..).trans ?_
    | with_reducible refine (State.dropSlice_spine ..).trans ?_ | with_reducible refine (State.modHome_spine ..).trans ?_
    | with_reducible refine (State.moveSlot_spine ..).trans ?_ | with_reducible refine (State.dropPartition_spine ..).trans ?_
    | with_reducible refine (State.afterMove_spine ..).trans ?_ | simp only [spine_mk, spine_eta] | dsimp only | split
theorem State.stopStack_spine (s : State) (g : Nat) : (State.stopStack s g).spine = s.spine := by
  unfold State.stopStack; repeat' first
    | with_reducible rfl | with_reducible refine ite_keep (fun _ => ?_) (fun _ => ?_) | with_reducible refine foldl_keep (fun _ _ => ?_) ?_
    | with_reducible refine dite_keep (fun _ => ?_) (fun _ => ?_) | with_reducible refine (State.set_spine ..).trans ?_
    | with_reducible refine (State.modEcc_spine ..).trans ?_ | with_reducible refine (State.setAll_spine ..).trans ?_
    | simp only [spine_mk, spine_eta] | dsimp only | split
theorem State.failStack_spine (s : State) (g : Nat) : (State.failStack s g).spine = s.spine := by
  unfold State.failStack; repeat' first
    | with_reducible rfl | with_reducible refine ite_keep (fun _ => ?_) (fun _ => ?_) | with_reducible refine foldl_keep (fun _ _ => ?_) ?_
    | with_reducible refine dite_keep (fun _ => ?_) (fun _ => ?_) | with_reducible refine (State.setAll_spine ..).trans ?_
    | with_reducible refine (State.dropPartition_spine ..).trans ?_ | with_reducible refine (State.dropSlice_spine ..).trans ?_
    | with_reducible refine (State.modHome_spine ..).trans ?_ | with_reducible refine (State.moveSlot_spine ..).trans ?_
    | with_reducible refine (State.stopStack_spine ..).trans ?_ | with_reducible refine (State.afterMove_spine ..).trans ?_
    | simp only [spine_mk, spine_eta] | dsimp only | split
theorem State.beginFailover_spine (s : State) (k : Nat) : (State.beginFailover s k).spine = s.spine := by
  unfold State.beginFailover; repeat' first
    | with_reducible rfl | with_reducible refine ite_keep (fun _ => ?_) (fun _ => ?_) | with_reducible refine foldl_keep (fun _ _ => ?_) ?_
    | with_reducible refine dite_keep (fun _ => ?_) (fun _ => ?_) | with_reducible refine (State.modHome_spine ..).trans ?_
    | with_reducible refine (State.failSlice_spine ..).trans ?_ | with_reducible refine (State.failStack_spine ..).trans ?_
    | simp only [spine_mk, spine_eta] | dsimp only | split
theorem State.stackLoss_spine (s : State) (g : Nat) : (State.stackLoss s g).spine = s.spine := by
  unfold State.stackLoss; repeat' first
    | with_reducible rfl | with_reducible refine ite_keep (fun _ => ?_) (fun _ => ?_) | with_reducible refine foldl_keep (fun _ _ => ?_) ?_
    | with_reducible refine dite_keep (fun _ => ?_) (fun _ => ?_) | with_reducible refine (State.beginFailover_spine ..).trans ?_
    | simp only [spine_mk, spine_eta] | dsimp only | split
theorem State.reissue_spine (s : State) (x : Shadow) : (State.reissue s x).spine = s.spine := by
  unfold State.reissue; repeat' first
    | with_reducible rfl | with_reducible refine ite_keep (fun _ => ?_) (fun _ => ?_) | with_reducible refine foldl_keep (fun _ _ => ?_) ?_
    | with_reducible refine dite_keep (fun _ => ?_) (fun _ => ?_) | with_reducible refine (State.freeShadow_spine ..).trans ?_
    | with_reducible refine (State.homeReply_spine ..).trans ?_ | with_reducible refine (State.addTxn_spine ..).trans ?_
    | with_reducible refine (State.modHome_spine ..).trans ?_ | with_reducible refine ite_keep1 (fun _ => ?_) (fun _ => ?_)
    | with_reducible refine spine_of ?_ ?_ | simp only [spine_mk, spine_eta] | dsimp only | split | exact rfl
theorem State.setSince_spine (s : State) (n : Nat) (v : Option Nat) : (State.setSince s n v).spine = s.spine := rfl
theorem State.switchTo_spine (s : State) (n : Nat) : (State.switchTo s n).spine = s.spine := by
  unfold State.switchTo; split
  · rfl
  · simp only [spine_mk, spine_eta]; with_reducible exact (State.bump_spine ..).trans (State.set_spine ..)
theorem State.applyForce_spine (s : State) : (State.applyForce s).spine = s.spine := by
  unfold State.applyForce; repeat' first
    | with_reducible rfl | with_reducible refine ite_keep (fun _ => ?_) (fun _ => ?_) | with_reducible refine foldl_keep (fun _ _ => ?_) ?_
    | with_reducible refine dite_keep (fun _ => ?_) (fun _ => ?_) | with_reducible refine (State.set_spine ..).trans ?_
    | with_reducible refine (State.switchTo_spine ..).trans ?_ | simp only [spine_mk, spine_eta] | dsimp only | split
theorem doReferenceFailure_spine (r : Sys2Proof.RefIn) (t : Nat) (s0 : State) : (doReferenceFailure r t s0).spine = (s0.at t).spine := by
  unfold doReferenceFailure; dsimp only; generalize refNum r = n
  have h : ∀ s : State, ((if s.get F.hubRefctlForce = n + 1 then s.set F.hubRefstatForceIgnored 1 else s).report hubCol 12 1).spine = s.spine := by
    intro s; refine (State.report_spine ..).trans ?_; split <;> rfl
  have k : (((s0.at t).setAll [(goodFld n, 0), (failFld n, 1)]).setSince n none).spine = (s0.at t).spine :=
    (State.setSince_spine ..).trans (State.setAll_spine ..)
  repeat' first
    | with_reducible exact (h _).trans k | with_reducible refine (State.notify_spine ..).trans ?_
    | with_reducible refine (State.switchTo_spine ..).trans ?_
    | with_reducible exact ((State.set_spine ..).trans (h _)).trans k | simp only [spine_mk, spine_eta] | split
theorem doReferenceRecovered_spine (r : Sys2Proof.RefIn) (t : Nat) (s0 : State) :
    (doReferenceRecovered r t s0).spine = (s0.at t).spine := by
  unfold doReferenceRecovered; dsimp only
  have k : (((s0.at t).set (goodFld (refNum r)) 1).setSince (refNum r) (some (max s0.now t))).spine = (s0.at t).spine := rfl
  repeat' first
    | with_reducible exact k | with_reducible exact (State.switchTo_spine ..).trans ((State.set_spine ..).trans k)
    | with_reducible exact (State.switchTo_spine ..).trans ((State.setAll_spine ..).trans k) | simp only [spine_mk, spine_eta] | split
theorem doHoldoverExpired_spine (t : Nat) (s0 : State) : (doHoldoverExpired t s0).spine = (s0.at t).spine := by
  unfold doHoldoverExpired; repeat' first
    | with_reducible rfl | with_reducible refine ite_keep (fun _ => ?_) (fun _ => ?_) | with_reducible refine foldl_keep (fun _ _ => ?_) ?_
    | with_reducible refine dite_keep (fun _ => ?_) (fun _ => ?_) | with_reducible refine (State.at_spine ..).trans ?_
    | with_reducible refine (State.report_spine ..).trans ?_ | simp only [spine_mk, spine_eta] | dsimp only | split | exact rfl
theorem doReferenceRevert_spine (t : Nat) (s0 : State) : (doReferenceRevert t s0).spine = (s0.at t).spine := by
  unfold doReferenceRevert; repeat' first
    | with_reducible rfl | with_reducible refine ite_keep (fun _ => ?_) (fun _ => ?_) | with_reducible refine foldl_keep (fun _ _ => ?_) ?_
    | with_reducible refine dite_keep (fun _ => ?_) (fun _ => ?_) | with_reducible refine (State.at_spine ..).trans ?_
    | with_reducible refine (State.switchTo_spine ..).trans ?_ | simp only [spine_mk, spine_eta] | dsimp only | split
theorem writeForce_spine (v : Nat) (s : State) : (writeForce v s).spine = s.spine := by
  unfold writeForce; repeat' first
    | with_reducible rfl | with_reducible refine ite_keep (fun _ => ?_) (fun _ => ?_) | with_reducible refine foldl_keep (fun _ _ => ?_) ?_
    | with_reducible refine dite_keep (fun _ => ?_) (fun _ => ?_) | with_reducible refine (State.applyForce_spine ..).trans ?_
    | with_reducible refine (State.set_spine ..).trans ?_ | simp only [spine_mk, spine_eta] | dsimp only | split
theorem doReferenceTakeAtStart_spine (r : Sys2Proof.RefIn) (t : Nat) (s0 : State) :
    (doReferenceTakeAtStart r t s0).spine = (s0.at t).spine := by
  unfold doReferenceTakeAtStart; repeat' first
    | with_reducible rfl | with_reducible refine ite_keep (fun _ => ?_) (fun _ => ?_) | with_reducible refine foldl_keep (fun _ _ => ?_) ?_
    | with_reducible refine dite_keep (fun _ => ?_) (fun _ => ?_) | with_reducible refine (State.at_spine ..).trans ?_
    | with_reducible refine (State.setSince_spine ..).trans ?_ | with_reducible refine (State.setAll_spine ..).trans ?_
    | with_reducible refine (State.set_spine ..).trans ?_ | with_reducible refine ite_keep1 (fun _ => ?_) (fun _ => ?_)
    | with_reducible refine spine_of ?_ ?_ | simp only [spine_mk, spine_eta] | dsimp only | split | exact rfl
theorem doReferenceStartTimeout_spine (t : Nat) (s0 : State) : (doReferenceStartTimeout t s0).spine = (s0.at t).spine := by
  unfold doReferenceStartTimeout; repeat' first
    | with_reducible rfl | with_reducible refine (State.setBit_spine ..).trans ?_ | with_reducible refine (State.set_spine ..).trans ?_
    | simp only [spine_mk, spine_eta] | split
theorem doSscMeasurement_spine (spread : Nat) (modfreq : Nat) (s : State) : (doSscMeasurement spread modfreq s).spine = s.spine := by
  unfold doSscMeasurement; repeat' first
    | with_reducible rfl | with_reducible refine ite_keep (fun _ => ?_) (fun _ => ?_) | with_reducible refine foldl_keep (fun _ _ => ?_) ?_
    | with_reducible refine dite_keep (fun _ => ?_) (fun _ => ?_) | with_reducible refine (State.setAll_spine ..).trans ?_
    | with_reducible refine (State.notify_spine ..).trans ?_ | with_reducible refine (State.report_spine ..).trans ?_
    | with_reducible refine (State.set_spine ..).trans ?_ | simp only [spine_mk, spine_eta] | dsimp only | split | exact rfl
theorem doRootPllUnlock_spine (s : State) : (doRootPllUnlock s).spine = s.spine := by
  unfold doRootPllUnlock; repeat' first
    | with_reducible rfl | with_reducible refine ite_keep (fun _ => ?_) (fun _ => ?_) | with_reducible refine foldl_keep (fun _ _ => ?_) ?_
    | with_reducible refine dite_keep (fun _ => ?_) (fun _ => ?_) | with_reducible refine (State.report_spine ..).trans ?_
    | with_reducible refine (State.set_spine ..).trans ?_ | simp only [spine_mk, spine_eta] | dsimp only | split | exact rfl
theorem doRootPllLock_spine (t : Nat) (locked : Bool) (s0 : State) : (doRootPllLock t locked s0).spine = (s0.at t).spine := by
  unfold doRootPllLock; repeat' first
    | with_reducible rfl | with_reducible refine ite_keep (fun _ => ?_) (fun _ => ?_) | with_reducible refine foldl_keep (fun _ _ => ?_) ?_
    | with_reducible refine dite_keep (fun _ => ?_) (fun _ => ?_) | with_reducible refine (State.at_spine ..).trans ?_
    | with_reducible refine (State.set_spine ..).trans ?_ | with_reducible refine (State.setAll_spine ..).trans ?_
    | with_reducible refine (State.setBit_spine ..).trans ?_ | simp only [spine_mk, spine_eta] | dsimp only | split
theorem State.resendRing_spine (s : State) (g : Nat) (l : Nat) : (State.resendRing s g l).spine = s.spine := by
  unfold State.resendRing; repeat' first
    | with_reducible rfl | with_reducible refine ite_keep (fun _ => ?_) (fun _ => ?_) | with_reducible refine foldl_keep (fun _ _ => ?_) ?_
    | with_reducible refine dite_keep (fun _ => ?_) (fun _ => ?_) | with_reducible refine (State.count_spine ..).trans ?_
    | with_reducible refine (State.bump_spine ..).trans ?_ | simp only [spine_mk, spine_eta] | dsimp only | split
theorem State.resetPlane_spine (s : State) (g : Nat) (l : Nat) : (State.resetPlane s g l).spine = s.spine := by
  unfold State.resetPlane; repeat' first
    | with_reducible rfl | with_reducible refine ite_keep (fun _ => ?_) (fun _ => ?_) | with_reducible refine foldl_keep (fun _ _ => ?_) ?_
    | with_reducible refine dite_keep (fun _ => ?_) (fun _ => ?_) | with_reducible refine (State.modSeam_spine ..).trans ?_
    | with_reducible refine (State.setMode_spine ..).trans ?_ | with_reducible refine (State.set_spine ..).trans ?_
    | with_reducible refine (State.resendRing_spine ..).trans ?_ | simp only [spine_mk, spine_eta] | dsimp only | split
theorem State.regionOut_spine (s : State) (g : Nat) : (State.regionOut s g).spine = s.spine := by
  unfold State.regionOut; repeat' first
    | with_reducible rfl | with_reducible refine ite_keep (fun _ => ?_) (fun _ => ?_) | with_reducible refine foldl_keep (fun _ _ => ?_) ?_
    | with_reducible refine dite_keep (fun _ => ?_) (fun _ => ?_) | with_reducible refine (State.modSeam_spine ..).trans ?_
    | with_reducible refine (State.flush_spine ..).trans ?_ | with_reducible refine (State.setAll_spine ..).trans ?_
    | with_reducible refine (State.dropLink_spine ..).trans ?_ | with_reducible refine (State.raise_spine ..).trans ?_
    | with_reducible refine (State.stackLoss_spine ..).trans ?_ | with_reducible refine (State.failEngine_spine ..).trans ?_
    | simp only [spine_mk, spine_eta] | dsimp only | split | exact rfl
theorem State.wireFail_spine (s0 : State) (g : Nat) (n : Nat) (w : Nat) : (State.wireFail s0 g n w).spine = s0.spine := by
  unfold State.wireFail; repeat' first
    | with_reducible rfl | with_reducible refine ite_keep (fun _ => ?_) (fun _ => ?_) | with_reducible refine foldl_keep (fun _ _ => ?_) ?_
    | with_reducible refine dite_keep (fun _ => ?_) (fun _ => ?_) | with_reducible refine (State.takeReaction_spine ..).trans ?_
    | with_reducible refine (State.resetPlane_spine ..).trans ?_ | with_reducible refine (State.setAll_spine ..).trans ?_
    | with_reducible refine (State.set_spine ..).trans ?_ | with_reducible refine (State.resendRing_spine ..).trans ?_
    | with_reducible refine (State.regionOut_spine ..).trans ?_ | simp only [spine_mk, spine_eta] | dsimp only | split | exact rfl
theorem State.wireError_spine (s : State) (g : Nat) (n : Nat) (w : Nat) : (State.wireError s g n w).spine = s.spine := by
  unfold State.wireError; repeat' first
    | with_reducible rfl | with_reducible refine ite_keep (fun _ => ?_) (fun _ => ?_) | with_reducible refine foldl_keep (fun _ _ => ?_) ?_
    | with_reducible refine dite_keep (fun _ => ?_) (fun _ => ?_) | with_reducible refine (State.modSeam_spine ..).trans ?_
    | with_reducible refine (State.wireFail_spine ..).trans ?_ | simp only [spine_mk, spine_eta] | dsimp only | split | exact rfl
theorem State.drainReorder_spine (s : State) (o id n : Nat) : (State.drainReorder s o id n).spine = s.spine := by
  induction n generalizing s with
  | zero => rfl
  | succ n ih => unfold State.drainReorder; repeat' first
    | with_reducible rfl | with_reducible refine (ih ..).trans ?_ | with_reducible refine (State.modSeam_spine ..).trans ?_
    | with_reducible refine (State.modCore_spine ..).trans ?_ | with_reducible refine (State.count_spine ..).trans ?_
    | with_reducible refine (State.writeSeg_spine ..).trans ?_ | with_reducible refine (State.dropBolt_spine ..).trans ?_
    | dsimp only | split
theorem State.segmentIn_spine (s : State) (m : Msg) (idx : Nat) : (State.segmentIn s m idx).spine = s.spine := by
  unfold State.segmentIn; repeat' first
    | with_reducible rfl | with_reducible refine ite_keep (fun _ => ?_) (fun _ => ?_) | with_reducible refine foldl_keep (fun _ _ => ?_) ?_
    | with_reducible refine dite_keep (fun _ => ?_) (fun _ => ?_) | with_reducible refine (State.drainReorder_spine ..).trans ?_
    | with_reducible refine (State.modSeam_spine ..).trans ?_ | simp only [spine_mk, spine_eta] | dsimp only | split | exact rfl
theorem State.segmentBad_spine (s : State) (m : Msg) (idx : Nat) (l : Nat) (h : Nat) (data : Nat) (rose : Bool) :
    (State.segmentBad s m idx l h data rose).spine = s.spine := by
  unfold State.segmentBad; repeat' first
    | with_reducible rfl | with_reducible refine ite_keep (fun _ => ?_) (fun _ => ?_) | with_reducible refine foldl_keep (fun _ _ => ?_) ?_
    | with_reducible refine dite_keep (fun _ => ?_) (fun _ => ?_) | with_reducible refine (State.reportAt_spine ..).trans ?_
    | with_reducible refine (State.bump_spine ..).trans ?_ | with_reducible refine (State.modSeam_spine ..).trans ?_
    | with_reducible refine (State.count_spine ..).trans ?_ | simp only [spine_mk, spine_eta] | dsimp only | split | exact rfl
theorem State.crossed_spine (s : State) (m : Msg) (idx : Nat) (l : Nat) : (State.crossed s m idx l).spine = s.spine := by
  unfold State.crossed; repeat' first
    | with_reducible rfl | with_reducible refine ite_keep (fun _ => ?_) (fun _ => ?_) | with_reducible refine foldl_keep (fun _ _ => ?_) ?_
    | with_reducible refine dite_keep (fun _ => ?_) (fun _ => ?_) | with_reducible refine (State.leaveStaging_spine ..).trans ?_
    | with_reducible refine (State.crossSlots_spine ..).trans ?_ | with_reducible refine (State.blockSlot_spine ..).trans ?_
    | with_reducible refine (State.count_spine ..).trans ?_ | with_reducible refine (State.modSeam_spine ..).trans ?_
    | with_reducible refine ite_keep1 (fun _ => ?_) (fun _ => ?_) | with_reducible refine spine_of ?_ ?_ | simp only [spine_mk, spine_eta]
    | dsimp only | split | exact rfl
theorem State.dropLost_spine (s : State) (f : Nat → Bool) : (State.dropLost s f).spine = s.spine := by
  unfold State.dropLost; repeat' first
    | with_reducible rfl | with_reducible refine ite_keep (fun _ => ?_) (fun _ => ?_) | with_reducible refine foldl_keep (fun _ _ => ?_) ?_
    | with_reducible refine dite_keep (fun _ => ?_) (fun _ => ?_) | with_reducible refine (State.modCore_spine ..).trans ?_
    | with_reducible refine (State.fillMsg_spine ..).trans ?_ | with_reducible refine (State.dropBolt_spine ..).trans ?_
    | with_reducible refine ite_keep1 (fun _ => ?_) (fun _ => ?_) | with_reducible refine spine_of ?_ ?_ | simp only [spine_mk, spine_eta]
    | dsimp only | split | exact rfl
theorem State.clearCells_spine (s : State) (f : Nat → Bool) : (State.clearCells s f).spine = s.spine := by
  unfold State.clearCells; repeat' first
    | with_reducible rfl | with_reducible refine ite_keep (fun _ => ?_) (fun _ => ?_) | with_reducible refine foldl_keep (fun _ _ => ?_) ?_
    | with_reducible refine dite_keep (fun _ => ?_) (fun _ => ?_) | with_reducible refine (State.dropLost_spine ..).trans ?_
    | with_reducible refine (State.dropAdvs_spine ..).trans ?_ | with_reducible refine (State.modHome_spine ..).trans ?_
    | with_reducible refine (State.modCore_spine ..).trans ?_ | with_reducible refine (State.modLnk_spine ..).trans ?_
    | with_reducible refine (State.modLan_spine ..).trans ?_ | with_reducible refine ite_keep1 (fun _ => ?_) (fun _ => ?_)
    | with_reducible refine spine_of ?_ ?_ | simp only [spine_mk, spine_eta] | dsimp only | split | exact rfl
theorem State.markRetired_spine (s : State) (f : Nat → Bool) : (State.markRetired s f).spine = s.spine := by
  unfold State.markRetired; repeat' first
    | with_reducible rfl | with_reducible refine ite_keep (fun _ => ?_) (fun _ => ?_) | with_reducible refine foldl_keep (fun _ _ => ?_) ?_
    | with_reducible refine dite_keep (fun _ => ?_) (fun _ => ?_) | with_reducible refine (State.set_spine ..).trans ?_
    | simp only [spine_mk, spine_eta] | dsimp only | split
theorem State.dropLatch_spine (s : State) (loc : Nat) (counters : Nat → Bool) : (State.dropLatch s loc counters).spine = s.spine := by
  unfold State.dropLatch; repeat' first
    | with_reducible rfl | with_reducible refine ite_keep (fun _ => ?_) (fun _ => ?_) | with_reducible refine foldl_keep (fun _ _ => ?_) ?_
    | with_reducible refine dite_keep (fun _ => ?_) (fun _ => ?_) | with_reducible refine (State.modTal_spine ..).trans ?_
    | simp only [spine_mk, spine_eta] | dsimp only | split
theorem State.wipeRegion_spine (s : State) (g : Nat) (kept : Nat → Bool) : (State.wipeRegion s g kept).spine = s.spine := by
  unfold State.wipeRegion; repeat' first
    | with_reducible refine (State.modCore_spine ..).trans ?_ | with_reducible refine (State.clearCells_spine ..).trans ?_
    | with_reducible refine (State.modHome_spine ..).trans ?_ | with_reducible refine (State.modSeam_spine ..).trans ?_
    | with_reducible refine (State.modCpy_spine ..).trans ?_ | with_reducible refine (State.modEcc_spine ..).trans ?_
    | with_reducible refine (State.modFlt_spine ..).trans ?_ | with_reducible refine (State.dropLatch_spine ..).trans ?_
    | with_reducible refine (State.markRetired_spine ..).trans ?_ | with_reducible refine foldl_keep (fun _ _ => State.freeFilter_spine ..) ?_
    | simp only [spine_mk, spine_eta]
theorem State.loadSlices_spine (s : State) (g : Nat) : (State.loadSlices s g).spine = s.spine := by
  unfold State.loadSlices; repeat' first
    | with_reducible rfl | with_reducible refine ite_keep (fun _ => ?_) (fun _ => ?_) | with_reducible refine foldl_keep (fun _ _ => ?_) ?_
    | with_reducible refine dite_keep (fun _ => ?_) (fun _ => ?_) | with_reducible refine (State.setAll_spine ..).trans ?_
    | simp only [spine_mk, spine_eta] | dsimp only | split
theorem State.blindSensors_spine (s : State) (g : Nat) : (State.blindSensors s g).spine = s.spine := by
  unfold State.blindSensors; repeat' first
    | with_reducible rfl | with_reducible refine ite_keep (fun _ => ?_) (fun _ => ?_) | with_reducible refine foldl_keep (fun _ _ => ?_) ?_
    | with_reducible refine dite_keep (fun _ => ?_) (fun _ => ?_) | with_reducible refine (State.modThm_spine ..).trans ?_
    | with_reducible refine (State.setAll_spine ..).trans ?_ | simp only [spine_mk, spine_eta] | dsimp only | split
theorem State.regionOff_spine (s : State) (g : Nat) : (State.regionOff s g).spine = s.spine := by
  unfold State.regionOff; repeat' first
    | with_reducible rfl | with_reducible refine ite_keep (fun _ => ?_) (fun _ => ?_) | with_reducible refine foldl_keep (fun _ _ => ?_) ?_
    | with_reducible refine dite_keep (fun _ => ?_) (fun _ => ?_) | with_reducible refine (State.setAll_spine ..).trans ?_
    | with_reducible refine (State.wipeRegion_spine ..).trans ?_ | with_reducible refine (State.endJobs_spine ..).trans ?_
    | with_reducible refine (State.modPwr_spine ..).trans ?_ | with_reducible refine (State.blindSensors_spine ..).trans ?_
    | with_reducible refine (State.set_spine ..).trans ?_ | with_reducible refine ite_keep1 (fun _ => ?_) (fun _ => ?_)
    | with_reducible refine spine_of ?_ ?_ | simp only [spine_mk, spine_eta] | dsimp only | split | exact rfl
theorem State.showPresence_spine (s : State) (f : Nat → Bool) : (State.showPresence s f).spine = s.spine := by
  unfold State.showPresence; repeat' first
    | with_reducible rfl | with_reducible refine ite_keep (fun _ => ?_) (fun _ => ?_) | with_reducible refine foldl_keep (fun _ _ => ?_) ?_
    | with_reducible refine dite_keep (fun _ => ?_) (fun _ => ?_) | with_reducible refine (State.setAll_spine ..).trans ?_
    | simp only [spine_mk, spine_eta] | dsimp only | split
theorem State.startLinks_spine (s : State) (f : Nat → Bool) : (State.startLinks s f).spine = s.spine := by
  unfold State.startLinks; repeat' first
    | with_reducible rfl | with_reducible refine ite_keep (fun _ => ?_) (fun _ => ?_) | with_reducible refine foldl_keep (fun _ _ => ?_) ?_
    | with_reducible refine dite_keep (fun _ => ?_) (fun _ => ?_) | with_reducible refine (State.startTraining_spine ..).trans ?_
    | simp only [spine_mk, spine_eta] | dsimp only | split
theorem State.regionUp_spine (s : State) (g : Nat) : (State.regionUp s g).spine = s.spine := by
  unfold State.regionUp; repeat' first
    | with_reducible rfl | with_reducible refine ite_keep (fun _ => ?_) (fun _ => ?_) | with_reducible refine foldl_keep (fun _ _ => ?_) ?_
    | with_reducible refine dite_keep (fun _ => ?_) (fun _ => ?_) | with_reducible refine (State.setAll_spine ..).trans ?_
    | with_reducible refine (State.modPwr_spine ..).trans ?_ | with_reducible refine (State.showPresence_spine ..).trans ?_
    | with_reducible refine (State.markRetired_spine ..).trans ?_ | with_reducible refine (State.loadSlices_spine ..).trans ?_
    | with_reducible refine (State.modCpy_spine ..).trans ?_ | with_reducible refine (State.modThm_spine ..).trans ?_
    | with_reducible refine (State.releaseFor_spine ..).trans ?_ | with_reducible refine (State.startLinks_spine ..).trans ?_
    | with_reducible refine ite_keep1 (fun _ => ?_) (fun _ => ?_) | with_reducible refine spine_of ?_ ?_ | simp only [spine_mk, spine_eta]
    | dsimp only | split | exact rfl
theorem State.roseOff_spine (s : State) : (State.roseOff s).spine = s.spine := by
  unfold State.roseOff; repeat' first
    | with_reducible rfl | with_reducible refine ite_keep (fun _ => ?_) (fun _ => ?_) | with_reducible refine foldl_keep (fun _ _ => ?_) ?_
    | with_reducible refine dite_keep (fun _ => ?_) (fun _ => ?_) | with_reducible refine (State.setAll_spine ..).trans ?_
    | simp only [spine_mk, spine_eta] | dsimp only | split
theorem State.askRegions_spine (s : State) (mask : Nat) : (State.askRegions s mask).spine = s.spine := by
  unfold State.askRegions; repeat' first
    | with_reducible rfl | with_reducible refine ite_keep (fun _ => ?_) (fun _ => ?_) | with_reducible refine foldl_keep (fun _ _ => ?_) ?_
    | with_reducible refine dite_keep (fun _ => ?_) (fun _ => ?_) | with_reducible refine (State.requestLeave_spine ..).trans ?_
    | with_reducible refine (State.modPwr_spine ..).trans ?_ | simp only [spine_mk, spine_eta] | dsimp only | split | exact rfl
theorem State.attachRegions_spine (s : State) : (State.attachRegions s).spine = s.spine := by
  unfold State.attachRegions; repeat' first
    | with_reducible rfl | with_reducible refine ite_keep (fun _ => ?_) (fun _ => ?_) | with_reducible refine foldl_keep (fun _ _ => ?_) ?_
    | with_reducible refine dite_keep (fun _ => ?_) (fun _ => ?_) | with_reducible refine (State.regionOff_spine ..).trans ?_
    | with_reducible refine (State.modPwr_spine ..).trans ?_ | with_reducible refine (State.askRegions_spine ..).trans ?_
    | simp only [spine_mk, spine_eta] | dsimp only | split | exact rfl
theorem State.showMembers_spine (s : State) : (State.showMembers s).spine = s.spine := by
  unfold State.showMembers; repeat' first
    | with_reducible rfl | with_reducible refine ite_keep (fun _ => ?_) (fun _ => ?_) | with_reducible refine foldl_keep (fun _ _ => ?_) ?_
    | with_reducible refine dite_keep (fun _ => ?_) (fun _ => ?_) | with_reducible refine (State.setAll_spine ..).trans ?_
    | simp only [spine_mk, spine_eta] | dsimp only | split
theorem State.bringUp_spine (s : State) : (State.bringUp s).spine = s.spine := by
  unfold State.bringUp; repeat' first
    | with_reducible rfl | with_reducible refine ite_keep (fun _ => ?_) (fun _ => ?_) | with_reducible refine foldl_keep (fun _ _ => ?_) ?_
    | with_reducible refine dite_keep (fun _ => ?_) (fun _ => ?_) | with_reducible refine (State.modSeam_spine ..).trans ?_
    | with_reducible refine (State.modCpy_spine ..).trans ?_ | with_reducible refine (State.modHome_spine ..).trans ?_
    | with_reducible refine (State.modCore_spine ..).trans ?_ | with_reducible refine (State.modBnd_spine ..).trans ?_
    | with_reducible refine (State.setAll_spine ..).trans ?_ | with_reducible refine (State.loadSlices_spine ..).trans ?_
    | with_reducible refine (State.set_spine ..).trans ?_ | with_reducible refine (State.modLnk_spine ..).trans ?_
    | with_reducible refine (State.showPresence_spine ..).trans ?_ | with_reducible refine (State.showMembers_spine ..).trans ?_
    | with_reducible refine ite_keep1 (fun _ => ?_) (fun _ => ?_) | with_reducible refine spine_of ?_ ?_ | simp only [spine_mk, spine_eta]
    | dsimp only | split | exact rfl
theorem State.setCtr_spine (s : State) (k : Nat) (c : Ctr) : (State.setCtr s k c).spine = s.spine := by
  unfold State.setCtr; repeat' first
    | with_reducible rfl | with_reducible refine ite_keep (fun _ => ?_) (fun _ => ?_) | with_reducible refine foldl_keep (fun _ _ => ?_) ?_
    | with_reducible refine dite_keep (fun _ => ?_) (fun _ => ?_) | with_reducible refine (State.modCtrs_spine ..).trans ?_
    | simp only [spine_mk, spine_eta] | dsimp only | split
theorem State.clearCtr_spine (s : State) (k : Nat) : (State.clearCtr s k).spine = s.spine := by
  unfold State.clearCtr; repeat' first
    | with_reducible rfl | with_reducible refine ite_keep (fun _ => ?_) (fun _ => ?_) | with_reducible refine foldl_keep (fun _ _ => ?_) ?_
    | with_reducible refine dite_keep (fun _ => ?_) (fun _ => ?_) | with_reducible refine (State.setCtr_spine ..).trans ?_
    | simp only [spine_mk, spine_eta] | dsimp only | split
theorem State.selectCtr_spine (s : State) (k : Nat) (v : Nat) : (State.selectCtr s k v).spine = s.spine := by
  unfold State.selectCtr; repeat' first
    | with_reducible rfl | with_reducible refine ite_keep (fun _ => ?_) (fun _ => ?_) | with_reducible refine foldl_keep (fun _ _ => ?_) ?_
    | with_reducible refine dite_keep (fun _ => ?_) (fun _ => ?_) | with_reducible refine (State.clearCtr_spine ..).trans ?_
    | with_reducible refine (State.setCtr_spine ..).trans ?_ | simp only [spine_mk, spine_eta] | dsimp only | split
theorem State.writeSaved_spine (s : State) (e : Nat × Nat) : (State.writeSaved s e).spine = s.spine := by
  unfold State.writeSaved; repeat' first
    | with_reducible rfl | with_reducible refine ite_keep (fun _ => ?_) (fun _ => ?_) | with_reducible refine foldl_keep (fun _ _ => ?_) ?_
    | with_reducible refine dite_keep (fun _ => ?_) (fun _ => ?_) | with_reducible refine (State.selectCtr_spine ..).trans ?_
    | with_reducible refine (State.set_spine ..).trans ?_ | with_reducible refine (State.applyForce_spine ..).trans ?_
    | with_reducible refine ite_keep1 (fun _ => ?_) (fun _ => ?_) | with_reducible refine spine_of ?_ ?_ | simp only [spine_mk, spine_eta]
    | dsimp only | split | exact rfl
theorem State.writeBack_spine (s : State) (l : List (Nat × Nat)) : (State.writeBack s l).spine = s.spine := by
  unfold State.writeBack; repeat' first
    | with_reducible rfl | with_reducible refine ite_keep (fun _ => ?_) (fun _ => ?_) | with_reducible refine foldl_keep (fun _ _ => ?_) ?_
    | with_reducible refine dite_keep (fun _ => ?_) (fun _ => ?_) | with_reducible refine (State.writeSaved_spine ..).trans ?_
    | simp only [spine_mk, spine_eta] | dsimp only | split
theorem State.moduleReset_spine (s : State) (source : Nat) (whole : Bool) : (State.moduleReset s source whole).spine = s.spine := by
  unfold State.moduleReset; repeat' first
    | with_reducible refine (State.bump_spine ..).trans ?_ | with_reducible refine (State.setAll_spine ..).trans ?_
    | simp only [spine_mk, spine_eta]
theorem State.standbyFeed_spine (s : State) (f : Nat) : (State.standbyFeed s f).spine = s.spine := by
  unfold State.standbyFeed; repeat' first
    | with_reducible rfl | with_reducible refine ite_keep (fun _ => ?_) (fun _ => ?_) | with_reducible refine foldl_keep (fun _ _ => ?_) ?_
    | with_reducible refine dite_keep (fun _ => ?_) (fun _ => ?_) | with_reducible refine (State.setAll_spine ..).trans ?_
    | simp only [spine_mk, spine_eta] | dsimp only | split
theorem State.standby_spine (s : State) (phase : Nat) : (State.standby s phase).spine = s.spine := by
  unfold State.standby; repeat' first
    | with_reducible rfl | with_reducible refine ite_keep (fun _ => ?_) (fun _ => ?_) | with_reducible refine foldl_keep (fun _ _ => ?_) ?_
    | with_reducible refine dite_keep (fun _ => ?_) (fun _ => ?_) | with_reducible refine (State.moduleReset_spine ..).trans ?_
    | with_reducible refine (State.modPwr_spine ..).trans ?_ | with_reducible refine (State.setAll_spine ..).trans ?_
    | with_reducible refine (State.standbyFeed_spine ..).trans ?_ | simp only [spine_mk, spine_eta] | dsimp only | split
theorem State.latchPads_spine (s : State) : (State.latchPads s).spine = s.spine := by
  unfold State.latchPads; repeat' first
    | with_reducible rfl | with_reducible refine ite_keep (fun _ => ?_) (fun _ => ?_) | with_reducible refine foldl_keep (fun _ _ => ?_) ?_
    | with_reducible refine dite_keep (fun _ => ?_) (fun _ => ?_) | with_reducible refine (State.setAll_spine ..).trans ?_
    | with_reducible refine (State.modNv_spine ..).trans ?_ | simp only [spine_mk, spine_eta] | dsimp only | split
theorem State.beginSave_spine (s : State) (event : Nat) (regs : List (Nat × Nat)) : (State.beginSave s event regs).spine = s.spine := by
  unfold State.beginSave; repeat' first
    | with_reducible rfl | with_reducible refine ite_keep (fun _ => ?_) (fun _ => ?_) | with_reducible refine foldl_keep (fun _ _ => ?_) ?_
    | with_reducible refine dite_keep (fun _ => ?_) (fun _ => ?_) | with_reducible refine (State.modPwr_spine ..).trans ?_
    | with_reducible refine (State.requestLeave_spine ..).trans ?_ | simp only [spine_mk, spine_eta] | dsimp only | split | exact rfl
theorem State.stopSweep_spine (s : State) : (State.stopSweep s).spine = s.spine := by
  unfold State.stopSweep; repeat' first
    | with_reducible rfl | with_reducible refine ite_keep (fun _ => ?_) (fun _ => ?_) | with_reducible refine foldl_keep (fun _ _ => ?_) ?_
    | with_reducible refine dite_keep (fun _ => ?_) (fun _ => ?_) | with_reducible refine (State.set_spine ..).trans ?_
    | with_reducible refine (State.modLan_spine ..).trans ?_ | simp only [spine_mk, spine_eta] | dsimp only | split
theorem State.entryWork_spine (s : State) : (State.entryWork s).spine = s.spine := by
  unfold State.entryWork; repeat' first
    | with_reducible rfl | with_reducible refine ite_keep (fun _ => ?_) (fun _ => ?_) | with_reducible refine foldl_keep (fun _ _ => ?_) ?_
    | with_reducible refine dite_keep (fun _ => ?_) (fun _ => ?_) | with_reducible refine (State.redecide_spine ..).trans ?_
    | with_reducible refine (State.modLvc_spine ..).trans ?_ | with_reducible refine (State.stopSweep_spine ..).trans ?_
    | with_reducible refine (State.abortScrubs_spine ..).trans ?_ | with_reducible refine (State.beginSave_spine ..).trans ?_
    | simp only [spine_mk, spine_eta] | dsimp only | split | exact rfl
theorem State.resumeChart_spine (s : State) : (State.resumeChart s).spine = s.spine := by
  unfold State.resumeChart; repeat' first
    | with_reducible rfl | with_reducible refine ite_keep (fun _ => ?_) (fun _ => ?_) | with_reducible refine foldl_keep (fun _ _ => ?_) ?_
    | with_reducible refine dite_keep (fun _ => ?_) (fun _ => ?_) | with_reducible refine (State.chartTurnedAway_spine ..).trans ?_
    | with_reducible refine (State.setAll_spine ..).trans ?_ | with_reducible refine (State.modLnk_spine ..).trans ?_
    | with_reducible refine (State.modChtu_spine ..).trans ?_ | with_reducible refine (State.startLinks_spine ..).trans ?_
    | with_reducible refine ite_keep1 (fun _ => ?_) (fun _ => ?_) | with_reducible refine spine_of ?_ ?_ | simp only [spine_mk, spine_eta]
    | dsimp only | split | exact rfl
theorem State.abortChart_spine (s : State) : (State.abortChart s).spine = s.spine := by
  unfold State.abortChart; repeat' first
    | with_reducible rfl | with_reducible refine ite_keep (fun _ => ?_) (fun _ => ?_) | with_reducible refine foldl_keep (fun _ _ => ?_) ?_
    | with_reducible refine dite_keep (fun _ => ?_) (fun _ => ?_) | with_reducible refine (State.serveWaiting_spine ..).trans ?_
    | with_reducible refine (State.endChart_spine ..).trans ?_ | with_reducible refine (State.releaseFor_spine ..).trans ?_
    | with_reducible refine (State.withdrawFor_spine ..).trans ?_ | with_reducible refine (State.chartTurnedAway_spine ..).trans ?_
    | with_reducible refine ite_keep1 (fun _ => ?_) (fun _ => ?_) | with_reducible refine spine_of ?_ ?_ | simp only [spine_mk, spine_eta]
    | dsimp only | split | exact rfl
theorem State.chartCmd_spine (s : State) (cmd : Nat) (via : Option Nat) (asker : Option Nat) :
    (State.chartCmd s cmd via asker).1.spine = s.spine := by
  unfold State.chartCmd; repeat' first
    | with_reducible rfl | with_reducible refine ite_keep (fun _ => ?_) (fun _ => ?_) | with_reducible refine foldl_keep (fun _ _ => ?_) ?_
    | with_reducible refine dite_keep (fun _ => ?_) (fun _ => ?_) | with_reducible refine (State.startChart_spine ..).trans ?_
    | with_reducible refine (State.chartTurnedAway_spine ..).trans ?_ | with_reducible refine (State.resumeChart_spine ..).trans ?_
    | with_reducible refine (State.abortChart_spine ..).trans ?_ | simp only [spine_mk, spine_eta] | dsimp only | split | exact rfl
theorem State.chartPassed_spine (s : State) (o : ChartOp) (i : Image) (next : Chart) : (State.chartPassed s o i next).spine = s.spine := by
  unfold State.chartPassed; repeat' first
    | with_reducible rfl | with_reducible refine ite_keep (fun _ => ?_) (fun _ => ?_) | with_reducible refine foldl_keep (fun _ _ => ?_) ?_
    | with_reducible refine dite_keep (fun _ => ?_) (fun _ => ?_) | with_reducible refine (State.modChtu_spine ..).trans ?_
    | with_reducible refine (State.requestLeave_spine ..).trans ?_ | with_reducible refine (State.set_spine ..).trans ?_
    | simp only [spine_mk, spine_eta] | dsimp only | split | exact rfl
theorem State.chartChecked_spine (s : State) (o : ChartOp) : (State.chartChecked s o).spine = s.spine := by
  unfold State.chartChecked; repeat' first
    | with_reducible rfl | with_reducible refine ite_keep (fun _ => ?_) (fun _ => ?_) | with_reducible refine foldl_keep (fun _ _ => ?_) ?_
    | with_reducible refine dite_keep (fun _ => ?_) (fun _ => ?_) | with_reducible refine (State.endChart_spine ..).trans ?_
    | with_reducible refine (State.chartPassed_spine ..).trans ?_ | simp only [spine_mk, spine_eta] | dsimp only | split | exact rfl
theorem State.commitImage_spine (s : State) (o : ChartOp) : (s.commitImage o).spine = (s.pending, s.now, max s.nv.floor o.gen) := rfl
theorem State.commitAmendment_spine (s : State) (o : ChartOp) : (s.commitAmendment o).spine = (s.pending, s.now, max s.nv.floor o.gen) := rfl
theorem State.unretireCells_spine (s : State) (cells : List Nat) : (State.unretireCells s cells).spine = s.spine := by
  unfold State.unretireCells; repeat' first
    | with_reducible rfl | with_reducible refine ite_keep (fun _ => ?_) (fun _ => ?_) | with_reducible refine foldl_keep (fun _ _ => ?_) ?_
    | with_reducible refine dite_keep (fun _ => ?_) (fun _ => ?_) | with_reducible refine (State.modNv_spine ..).trans ?_
    | with_reducible refine (State.setAll_spine ..).trans ?_ | simp only [spine_mk, spine_eta] | dsimp only | split
theorem State.quietBins_spine (s : State) (cells : List Nat) : (State.quietBins s cells).spine = s.spine := by
  unfold State.quietBins; repeat' first
    | with_reducible rfl | with_reducible refine ite_keep (fun _ => ?_) (fun _ => ?_) | with_reducible refine foldl_keep (fun _ _ => ?_) ?_
    | with_reducible refine dite_keep (fun _ => ?_) (fun _ => ?_) | with_reducible refine (State.resetRange_spine ..).trans ?_
    | with_reducible refine ite_keep1 (fun _ => ?_) (fun _ => ?_) | with_reducible refine spine_of ?_ ?_ | simp only [spine_mk, spine_eta]
    | dsimp only | split | exact rfl
theorem State.applyFull_spine (s : State) (o : ChartOp) : (State.applyFull s o).spine = s.spine := by
  unfold State.applyFull; dsimp only
  exact (State.endChart_spine ..).trans ((State.startLinks_spine ..).trans ((State.bringUp_spine ..).trans
    ((State.attachRegions_spine ..).trans ((State.unretireCells_spine ..).trans ((State.quietBins_spine ..).trans (State.set_spine ..))))))
theorem State.quotaCut_spine (s : State) (k : Option Nat) : (State.quotaCut s k).spine = s.spine := by
  unfold State.quotaCut; repeat' first
    | with_reducible rfl | with_reducible refine ite_keep (fun _ => ?_) (fun _ => ?_) | with_reducible refine foldl_keep (fun _ _ => ?_) ?_
    | with_reducible refine dite_keep (fun _ => ?_) (fun _ => ?_) | with_reducible refine (State.raise_spine ..).trans ?_
    | simp only [spine_mk, spine_eta] | dsimp only | split
theorem State.overQuotas_spine (s : State) : (State.overQuotas s).spine = s.spine := by
  unfold State.overQuotas; repeat' first
    | with_reducible rfl | with_reducible refine ite_keep (fun _ => ?_) (fun _ => ?_) | with_reducible refine foldl_keep (fun _ _ => ?_) ?_
    | with_reducible refine dite_keep (fun _ => ?_) (fun _ => ?_) | with_reducible refine (State.quotaCut_spine ..).trans ?_
    | with_reducible refine (State.set_spine ..).trans ?_ | with_reducible refine (State.noteFree_spine ..).trans ?_
    | with_reducible refine (State.modCpy_spine ..).trans ?_ | with_reducible refine (State.modHome_spine ..).trans ?_
    | simp only [spine_mk, spine_eta] | dsimp only | split
theorem State.liftQuotas_spine (s : State) : (State.liftQuotas s).spine = s.spine := by
  unfold State.liftQuotas; repeat' first
    | with_reducible rfl | with_reducible refine ite_keep (fun _ => ?_) (fun _ => ?_) | with_reducible refine foldl_keep (fun _ _ => ?_) ?_
    | with_reducible refine dite_keep (fun _ => ?_) (fun _ => ?_) | with_reducible refine (State.modCpy_spine ..).trans ?_
    | with_reducible refine (State.clearHomeOver_spine ..).trans ?_ | with_reducible refine (State.clearOverq_spine ..).trans ?_
    | with_reducible refine ite_keep1 (fun _ => ?_) (fun _ => ?_) | with_reducible refine spine_of ?_ ?_ | simp only [spine_mk, spine_eta]
    | dsimp only | split | exact rfl
theorem State.repolice_spine (s : State) (old : State) : (State.repolice s old).spine = s.spine := by
  unfold State.repolice; repeat' first
    | with_reducible rfl | with_reducible refine ite_keep (fun _ => ?_) (fun _ => ?_) | with_reducible refine foldl_keep (fun _ _ => ?_) ?_
    | with_reducible refine dite_keep (fun _ => ?_) (fun _ => ?_) | with_reducible refine (State.modCore_spine ..).trans ?_
    | simp only [spine_mk, spine_eta] | dsimp only | split | exact rfl
theorem State.reshape_spine (s : State) (old : State) : (State.reshape s old).spine = s.spine := rfl
theorem State.reannounce_spine (s : State) (ids : List Nat) : (State.reannounce s ids).spine = s.spine := by
  unfold State.reannounce; repeat' first
    | with_reducible rfl | with_reducible refine ite_keep (fun _ => ?_) (fun _ => ?_) | with_reducible refine foldl_keep (fun _ _ => ?_) ?_
    | with_reducible refine dite_keep (fun _ => ?_) (fun _ => ?_) | with_reducible refine (State.emit_spine ..).trans ?_
    | with_reducible refine (State.showCollisions_spine ..).trans ?_ | simp only [spine_mk, spine_eta] | dsimp only | split
theorem State.endInband_spine (s : State) (f : Nat → Bool) : (State.endInband s f).spine = s.spine := by
  unfold State.endInband; repeat' first
    | with_reducible rfl | with_reducible refine ite_keep (fun _ => ?_) (fun _ => ?_) | with_reducible refine foldl_keep (fun _ _ => ?_) ?_
    | with_reducible refine dite_keep (fun _ => ?_) (fun _ => ?_) | with_reducible refine (State.endSessions_spine ..).trans ?_
    | simp only [spine_mk, spine_eta] | dsimp only | split
theorem State.memberChange_spine (s : State) (old : Chart) : (State.memberChange s old).spine = s.spine := by
  unfold State.memberChange; repeat' first
    | with_reducible rfl | with_reducible refine ite_keep (fun _ => ?_) (fun _ => ?_) | with_reducible refine foldl_keep (fun _ _ => ?_) ?_
    | with_reducible refine dite_keep (fun _ => ?_) (fun _ => ?_) | with_reducible refine (State.showMembers_spine ..).trans ?_
    | with_reducible refine (State.recordBinding_spine ..).trans ?_ | with_reducible refine ite_keep1 (fun _ => ?_) (fun _ => ?_)
    | with_reducible refine spine_of ?_ ?_ | simp only [spine_mk, spine_eta] | dsimp only | split | exact rfl
theorem State.orphanHems_spine (s : State) (old : Chart) (changed : List Nat) : (State.orphanHems s old changed).spine = s.spine := by
  unfold State.orphanHems; repeat' first
    | with_reducible rfl | with_reducible refine ite_keep (fun _ => ?_) (fun _ => ?_) | with_reducible refine foldl_keep (fun _ _ => ?_) ?_
    | with_reducible refine dite_keep (fun _ => ?_) (fun _ => ?_) | with_reducible refine (State.set_spine ..).trans ?_
    | with_reducible refine (State.modCore_spine ..).trans ?_ | with_reducible refine ite_keep1 (fun _ => ?_) (fun _ => ?_)
    | with_reducible refine spine_of ?_ ?_ | simp only [spine_mk, spine_eta] | dsimp only | split | exact rfl
theorem State.reloadPeaks_spine (s : State) (changed : List Nat) : (State.reloadPeaks s changed).spine = s.spine := by
  unfold State.reloadPeaks; repeat' first
    | with_reducible rfl | with_reducible refine ite_keep (fun _ => ?_) (fun _ => ?_) | with_reducible refine foldl_keep (fun _ _ => ?_) ?_
    | with_reducible refine dite_keep (fun _ => ?_) (fun _ => ?_) | with_reducible refine (State.set_spine ..).trans ?_
    | with_reducible refine ite_keep1 (fun _ => ?_) (fun _ => ?_) | with_reducible refine spine_of ?_ ?_ | simp only [spine_mk, spine_eta]
    | dsimp only | split | exact rfl
theorem State.disableClasses_spine (s : State) (old : Chart) : (State.disableClasses s old).spine = s.spine := by
  unfold State.disableClasses; repeat' first
    | with_reducible rfl | with_reducible refine ite_keep (fun _ => ?_) (fun _ => ?_) | with_reducible refine foldl_keep (fun _ _ => ?_) ?_
    | with_reducible refine dite_keep (fun _ => ?_) (fun _ => ?_) | with_reducible refine (State.modCore_spine ..).trans ?_
    | with_reducible refine ite_keep1 (fun _ => ?_) (fun _ => ?_) | with_reducible refine spine_of ?_ ?_ | simp only [spine_mk, spine_eta]
    | dsimp only | split | exact rfl
theorem State.advanceMoved_spine (s : State) (old : Chart) (resets : List Nat) : (State.advanceMoved s old resets).spine = s.spine := by
  unfold State.advanceMoved; repeat' first
    | with_reducible rfl | with_reducible refine ite_keep (fun _ => ?_) (fun _ => ?_) | with_reducible refine foldl_keep (fun _ _ => ?_) ?_
    | with_reducible refine dite_keep (fun _ => ?_) (fun _ => ?_) | with_reducible refine (State.mustAdvance_spine ..).trans ?_
    | with_reducible refine (State.fullReset_spine ..).trans ?_ | with_reducible refine ite_keep1 (fun _ => ?_) (fun _ => ?_)
    | with_reducible refine spine_of ?_ ?_ | simp only [spine_mk, spine_eta] | dsimp only | split | exact rfl
theorem State.beginApply_spine (s : State) (o : ChartOp) : (State.beginApply s o).spine = s.spine := by
  unfold State.beginApply; repeat' first
    | with_reducible rfl | with_reducible refine ite_keep (fun _ => ?_) (fun _ => ?_) | with_reducible refine foldl_keep (fun _ _ => ?_) ?_
    | with_reducible refine dite_keep (fun _ => ?_) (fun _ => ?_) | with_reducible refine (State.set_spine ..).trans ?_
    | with_reducible refine (State.modChtu_spine ..).trans ?_ | with_reducible refine (State.modChart_spine ..).trans ?_
    | with_reducible refine (State.advanceMoved_spine ..).trans ?_ | with_reducible refine (State.memberChange_spine ..).trans ?_
    | with_reducible refine (State.endInband_spine ..).trans ?_ | with_reducible refine (State.reannounce_spine ..).trans ?_
    | with_reducible refine (State.liftQuotas_spine ..).trans ?_ | with_reducible refine (State.overQuotas_spine ..).trans ?_
    | with_reducible refine (State.reloadPeaks_spine ..).trans ?_ | with_reducible refine (State.orphanHems_spine ..).trans ?_
    | with_reducible refine (State.disableClasses_spine ..).trans ?_ | with_reducible refine (State.reshape_spine ..).trans ?_
    | with_reducible refine (State.repolice_spine ..).trans ?_ | with_reducible refine ite_keep1 (fun _ => ?_) (fun _ => ?_)
    | with_reducible refine spine_of ?_ ?_ | simp only [spine_mk, spine_eta] | dsimp only | split | exact rfl
theorem State.forgetLink_spine (s : State) (p : Nat) : (State.forgetLink s p).spine = s.spine := by
  unfold State.forgetLink; repeat' first
    | with_reducible rfl | with_reducible refine ite_keep (fun _ => ?_) (fun _ => ?_) | with_reducible refine foldl_keep (fun _ _ => ?_) ?_
    | with_reducible refine dite_keep (fun _ => ?_) (fun _ => ?_) | with_reducible refine (State.dropAdvs_spine ..).trans ?_
    | with_reducible refine (State.modBnd_spine ..).trans ?_ | with_reducible refine (State.modCore_spine ..).trans ?_
    | with_reducible refine (State.modLnk_spine ..).trans ?_ | with_reducible refine (State.setAll_spine ..).trans ?_
    | with_reducible refine ite_keep1 (fun _ => ?_) (fun _ => ?_) | with_reducible refine spine_of ?_ ?_ | simp only [spine_mk, spine_eta]
    | dsimp only | split | exact rfl
theorem State.trainAnew_spine (s : State) (presets : List (Nat × List Nat × Nat)) (p : Nat) :
    (State.trainAnew s presets p).spine = s.spine := by
  unfold State.trainAnew; repeat' first
    | with_reducible rfl | with_reducible refine ite_keep (fun _ => ?_) (fun _ => ?_) | with_reducible refine foldl_keep (fun _ _ => ?_) ?_
    | with_reducible refine dite_keep (fun _ => ?_) (fun _ => ?_) | with_reducible refine (State.startTraining_spine ..).trans ?_
    | with_reducible refine (State.modLnk_spine ..).trans ?_ | with_reducible refine (State.setAll_spine ..).trans ?_
    | simp only [spine_mk, spine_eta] | dsimp only | split
theorem State.resetPleats_spine (s : State) (o : ChartOp) : (State.resetPleats s o).spine = s.spine := by
  unfold State.resetPleats; repeat' first
    | with_reducible rfl | with_reducible refine ite_keep (fun _ => ?_) (fun _ => ?_) | with_reducible refine foldl_keep (fun _ _ => ?_) ?_
    | with_reducible refine dite_keep (fun _ => ?_) (fun _ => ?_) | with_reducible refine (State.fullReset_spine ..).trans ?_
    | with_reducible refine (State.mustAdvance_spine ..).trans ?_ | with_reducible refine (State.unretireCells_spine ..).trans ?_
    | with_reducible refine (State.forgetLink_spine ..).trans ?_ | with_reducible refine (State.modChart_spine ..).trans ?_
    | with_reducible refine (State.endInband_spine ..).trans ?_ | with_reducible refine (State.quietBins_spine ..).trans ?_
    | with_reducible refine (State.showPresence_spine ..).trans ?_ | with_reducible refine (State.memberChange_spine ..).trans ?_
    | with_reducible refine (State.trainAnew_spine ..).trans ?_ | with_reducible refine ite_keep1 (fun _ => ?_) (fun _ => ?_)
    | with_reducible refine spine_of ?_ ?_ | simp only [spine_mk, spine_eta] | dsimp only | split | exact rfl
theorem State.endApply_spine (s : State) (o : ChartOp) : (State.endApply s o).spine = s.spine := by
  unfold State.endApply; repeat' first
    | with_reducible rfl | with_reducible refine ite_keep (fun _ => ?_) (fun _ => ?_) | with_reducible refine foldl_keep (fun _ _ => ?_) ?_
    | with_reducible refine dite_keep (fun _ => ?_) (fun _ => ?_) | with_reducible refine (State.modChtu_spine ..).trans ?_
    | with_reducible refine (State.modChart_spine ..).trans ?_ | with_reducible refine (State.resetPleats_spine ..).trans ?_
    | with_reducible refine (State.serveRemovals_spine ..).trans ?_ | with_reducible refine (State.endChart_spine ..).trans ?_
    | with_reducible refine (State.releaseFor_spine ..).trans ?_ | simp only [spine_mk, spine_eta] | dsimp only | split | exact rfl
theorem State.holdLinks_spine (s : State) : (State.holdLinks s).spine = s.spine := by
  unfold State.holdLinks; repeat' first
    | with_reducible rfl | with_reducible refine ite_keep (fun _ => ?_) (fun _ => ?_) | with_reducible refine foldl_keep (fun _ _ => ?_) ?_
    | with_reducible refine dite_keep (fun _ => ?_) (fun _ => ?_) | with_reducible refine (State.set_spine ..).trans ?_
    | with_reducible refine (State.dropLink_spine ..).trans ?_ | with_reducible refine (State.modCore_spine ..).trans ?_
    | with_reducible refine (State.modLnk_spine ..).trans ?_ | simp only [spine_mk, spine_eta] | dsimp only | split
theorem State.quiesceEnd_spine (s : State) : (State.quiesceEnd s).spine = s.spine := by
  unfold State.quiesceEnd; repeat' first
    | with_reducible rfl | with_reducible refine ite_keep (fun _ => ?_) (fun _ => ?_) | with_reducible refine foldl_keep (fun _ _ => ?_) ?_
    | with_reducible refine dite_keep (fun _ => ?_) (fun _ => ?_) | with_reducible refine (State.modChtu_spine ..).trans ?_
    | with_reducible refine (State.holdLinks_spine ..).trans ?_ | with_reducible refine (State.entryWork_spine ..).trans ?_
    | with_reducible refine (State.endChart_spine ..).trans ?_ | with_reducible refine (State.set_spine ..).trans ?_
    | simp only [spine_mk, spine_eta] | dsimp only | split | exact rfl
theorem State.flushAll_spine (s : State) : (State.flushAll s).spine = s.spine := by
  unfold State.flushAll; repeat' first
    | with_reducible rfl | with_reducible refine ite_keep (fun _ => ?_) (fun _ => ?_) | with_reducible refine foldl_keep (fun _ _ => ?_) ?_
    | with_reducible refine dite_keep (fun _ => ?_) (fun _ => ?_) | with_reducible refine (State.linkDownReply_spine ..).trans ?_
    | with_reducible refine (State.emit_spine ..).trans ?_ | with_reducible refine (State.clearHomeOver_spine ..).trans ?_
    | with_reducible refine (State.modHome_spine ..).trans ?_ | with_reducible refine (State.emptyCore_spine ..).trans ?_
    | with_reducible refine (State.endJobs_spine ..).trans ?_ | with_reducible refine ite_keep1 (fun _ => ?_) (fun _ => ?_)
    | with_reducible refine spine_of ?_ ?_ | simp only [spine_mk, spine_eta] | dsimp only | split | exact rfl
theorem State.startQuiesce_spine (s : State) : (State.startQuiesce s).spine = s.spine := by
  unfold State.startQuiesce; repeat' first
    | with_reducible rfl | with_reducible refine ite_keep (fun _ => ?_) (fun _ => ?_) | with_reducible refine foldl_keep (fun _ _ => ?_) ?_
    | with_reducible refine dite_keep (fun _ => ?_) (fun _ => ?_) | with_reducible refine (State.entryWork_spine ..).trans ?_
    | with_reducible refine (State.modChtu_spine ..).trans ?_ | with_reducible refine (State.set_spine ..).trans ?_
    | simp only [spine_mk, spine_eta] | dsimp only | split | exact rfl
theorem State.startChartUp_spine (s : State) : (State.startChartUp s).spine = s.spine := by
  unfold State.startChartUp; repeat' first
    | with_reducible rfl | with_reducible refine ite_keep (fun _ => ?_) (fun _ => ?_) | with_reducible refine foldl_keep (fun _ _ => ?_) ?_
    | with_reducible refine dite_keep (fun _ => ?_) (fun _ => ?_) | with_reducible refine (State.setAll_spine ..).trans ?_
    | with_reducible refine (State.modChart_spine ..).trans ?_ | with_reducible refine (State.notify_spine ..).trans ?_
    | simp only [spine_mk, spine_eta] | dsimp only | split
theorem State.setTimer_spine (s : State) (f : Nat) (x : FeedTimer) : (State.setTimer s f x).spine = s.spine := by
  unfold State.setTimer; repeat' first
    | with_reducible rfl | with_reducible refine ite_keep (fun _ => ?_) (fun _ => ?_) | with_reducible refine foldl_keep (fun _ _ => ?_) ?_
    | with_reducible refine dite_keep (fun _ => ?_) (fun _ => ?_) | with_reducible refine (State.modPwr_spine ..).trans ?_
    | simp only [spine_mk, spine_eta] | dsimp only | split
theorem State.toFeed_spine (s : State) (f : Nat) (st : Nat) : (State.toFeed s f st).spine = s.spine := by
  unfold State.toFeed; repeat' first
    | with_reducible rfl | with_reducible refine ite_keep (fun _ => ?_) (fun _ => ?_) | with_reducible refine foldl_keep (fun _ _ => ?_) ?_
    | with_reducible refine dite_keep (fun _ => ?_) (fun _ => ?_) | with_reducible refine (State.setTimer_spine ..).trans ?_
    | with_reducible refine (State.set_spine ..).trans ?_ | simp only [spine_mk, spine_eta] | dsimp only | split
theorem State.oringOff_spine (s : State) (f : Nat) : (State.oringOff s f).spine = s.spine := by
  unfold State.oringOff; repeat' first
    | with_reducible rfl | with_reducible refine ite_keep (fun _ => ?_) (fun _ => ?_) | with_reducible refine foldl_keep (fun _ _ => ?_) ?_
    | with_reducible refine dite_keep (fun _ => ?_) (fun _ => ?_) | with_reducible refine (State.set_spine ..).trans ?_
    | with_reducible refine (State.modPwr_spine ..).trans ?_ | simp only [spine_mk, spine_eta] | dsimp only | split
theorem State.feedOff_spine (s : State) (f : Nat) : (State.feedOff s f).spine = s.spine := by
  unfold State.feedOff; repeat' first
    | with_reducible rfl | with_reducible refine ite_keep (fun _ => ?_) (fun _ => ?_) | with_reducible refine foldl_keep (fun _ _ => ?_) ?_
    | with_reducible refine dite_keep (fun _ => ?_) (fun _ => ?_) | with_reducible refine (State.setAll_spine ..).trans ?_
    | with_reducible refine (State.oringOff_spine ..).trans ?_ | simp only [spine_mk, spine_eta] | dsimp only | split
theorem State.settleFeed_spine (s : State) (f : Nat) : (State.settleFeed s f).spine = s.spine := by
  unfold State.settleFeed; repeat' first
    | with_reducible rfl | with_reducible refine ite_keep (fun _ => ?_) (fun _ => ?_) | with_reducible refine foldl_keep (fun _ _ => ?_) ?_
    | with_reducible refine dite_keep (fun _ => ?_) (fun _ => ?_) | with_reducible refine (State.toFeed_spine ..).trans ?_
    | simp only [spine_mk, spine_eta] | dsimp only | split
theorem State.startFeed_spine (s : State) (f : Nat) : (State.startFeed s f).spine = s.spine := by
  unfold State.startFeed; repeat' first
    | with_reducible rfl | with_reducible refine ite_keep (fun _ => ?_) (fun _ => ?_) | with_reducible refine foldl_keep (fun _ _ => ?_) ?_
    | with_reducible refine dite_keep (fun _ => ?_) (fun _ => ?_) | with_reducible refine (State.bump_spine ..).trans ?_
    | with_reducible refine (State.toFeed_spine ..).trans ?_ | simp only [spine_mk, spine_eta] | dsimp only | split
theorem State.tryStart_spine (s : State) (f : Nat) : (State.tryStart s f).spine = s.spine := by
  unfold State.tryStart; repeat' first
    | with_reducible rfl | with_reducible refine ite_keep (fun _ => ?_) (fun _ => ?_) | with_reducible refine foldl_keep (fun _ _ => ?_) ?_
    | with_reducible refine dite_keep (fun _ => ?_) (fun _ => ?_) | with_reducible refine (State.startFeed_spine ..).trans ?_
    | with_reducible refine (State.setTimer_spine ..).trans ?_ | simp only [spine_mk, spine_eta] | dsimp only | split
theorem State.tripFeed_spine (s : State) (f : Nat) (cause : Nat) : (State.tripFeed s f cause).spine = s.spine := by
  unfold State.tripFeed; repeat' first
    | with_reducible rfl | with_reducible refine ite_keep (fun _ => ?_) (fun _ => ?_) | with_reducible refine foldl_keep (fun _ _ => ?_) ?_
    | with_reducible refine dite_keep (fun _ => ?_) (fun _ => ?_) | with_reducible refine (State.bump_spine ..).trans ?_
    | with_reducible refine (State.setAll_spine ..).trans ?_ | with_reducible refine (State.feedOff_spine ..).trans ?_
    | with_reducible refine (State.notify_spine ..).trans ?_ | with_reducible refine (State.reportAt_spine ..).trans ?_
    | with_reducible refine (State.set_spine ..).trans ?_ | with_reducible refine (State.toFeed_spine ..).trans ?_
    | simp only [spine_mk, spine_eta] | dsimp only | split | exact rfl
theorem State.setVin_spine (s : State) (f : Nat) (v : Nat) : (State.setVin s f v).spine = s.spine := by
  unfold State.setVin; repeat' first
    | with_reducible rfl | with_reducible refine ite_keep (fun _ => ?_) (fun _ => ?_) | with_reducible refine foldl_keep (fun _ _ => ?_) ?_
    | with_reducible refine dite_keep (fun _ => ?_) (fun _ => ?_) | with_reducible refine (State.set_spine ..).trans ?_
    | simp only [spine_mk, spine_eta] | dsimp only | split
theorem doOringReverse_spine (f : Nat) (t : Nat) (s : State) : (doOringReverse f t s).spine = (s.at t).spine := by
  unfold doOringReverse; repeat' first
    | with_reducible rfl | with_reducible refine ite_keep (fun _ => ?_) (fun _ => ?_) | with_reducible refine foldl_keep (fun _ _ => ?_) ?_
    | with_reducible refine dite_keep (fun _ => ?_) (fun _ => ?_) | with_reducible refine (State.oringOff_spine ..).trans ?_
    | with_reducible refine (State.at_spine ..).trans ?_ | simp only [spine_mk, spine_eta] | dsimp only | split
theorem doFeedPresent_spine (f : Nat) (v : Nat) (t : Nat) (s0 : State) : (doFeedPresent f v t s0).spine = (s0.at t).spine := by
  unfold doFeedPresent; repeat' first
    | with_reducible rfl | with_reducible refine ite_keep (fun _ => ?_) (fun _ => ?_) | with_reducible refine foldl_keep (fun _ _ => ?_) ?_
    | with_reducible refine dite_keep (fun _ => ?_) (fun _ => ?_) | with_reducible refine (State.setVin_spine ..).trans ?_
    | with_reducible refine (State.at_spine ..).trans ?_ | with_reducible refine (State.settleFeed_spine ..).trans ?_
    | with_reducible refine (State.toFeed_spine ..).trans ?_ | simp only [spine_mk, spine_eta] | dsimp only | split
theorem doFeedQualified_spine (f : Nat) (t : Nat) (s0 : State) : (doFeedQualified f t s0).spine = (s0.at t).spine := by
  unfold doFeedQualified; repeat' first
    | with_reducible rfl | with_reducible refine ite_keep (fun _ => ?_) (fun _ => ?_) | with_reducible refine foldl_keep (fun _ _ => ?_) ?_
    | with_reducible refine dite_keep (fun _ => ?_) (fun _ => ?_) | with_reducible refine (State.at_spine ..).trans ?_
    | with_reducible refine (State.tryStart_spine ..).trans ?_ | simp only [spine_mk, spine_eta] | dsimp only | split
theorem doBulkCapMeasure_spine (c : Nat) (s : State) : (doBulkCapMeasure c s).spine = s.spine := by
  unfold doBulkCapMeasure; repeat' first
    | with_reducible rfl | with_reducible refine ite_keep (fun _ => ?_) (fun _ => ?_) | with_reducible refine foldl_keep (fun _ _ => ?_) ?_
    | with_reducible refine dite_keep (fun _ => ?_) (fun _ => ?_) | with_reducible refine (State.setAll_spine ..).trans ?_
    | with_reducible refine (State.notify_spine ..).trans ?_ | simp only [spine_mk, spine_eta] | dsimp only | split
theorem State.wakeUp_spine (s : State) : (State.wakeUp s).spine = s.spine := by
  unfold State.wakeUp; repeat' first
    | with_reducible refine (State.startUp_spine ..).trans ?_ | with_reducible refine (State.modPwr_spine ..).trans ?_
    | simp only [spine_mk, spine_eta] | split
theorem doFeedPowerGood_spine (f : Nat) (t : Nat) (s0 : State) : (doFeedPowerGood f t s0).spine = (s0.at t).spine := by
  unfold doFeedPowerGood; repeat' first
    | with_reducible rfl | with_reducible refine ite_keep (fun _ => ?_) (fun _ => ?_) | with_reducible refine foldl_keep (fun _ _ => ?_) ?_
    | with_reducible refine dite_keep (fun _ => ?_) (fun _ => ?_) | with_reducible refine (State.at_spine ..).trans ?_
    | with_reducible refine (State.wakeUp_spine ..).trans ?_ | with_reducible refine (State.setAll_spine ..).trans ?_
    | with_reducible refine (State.toFeed_spine ..).trans ?_ | with_reducible refine (State.startFeed_spine ..).trans ?_
    | simp only [spine_mk, spine_eta] | dsimp only | split
theorem doFeedStartTimeout_spine (f : Nat) (t : Nat) (s0 : State) : (doFeedStartTimeout f t s0).spine = (s0.at t).spine := by
  unfold doFeedStartTimeout; repeat' first
    | with_reducible rfl | with_reducible refine ite_keep (fun _ => ?_) (fun _ => ?_) | with_reducible refine foldl_keep (fun _ _ => ?_) ?_
    | with_reducible refine dite_keep (fun _ => ?_) (fun _ => ?_) | with_reducible refine (State.at_spine ..).trans ?_
    | with_reducible refine (State.tripFeed_spine ..).trans ?_ | simp only [spine_mk, spine_eta] | dsimp only | split | exact rfl
theorem doGateCheckFailure_spine (f : Nat) (t : Nat) (s0 : State) : (doGateCheckFailure f t s0).spine = (s0.at t).spine := by
  unfold doGateCheckFailure; repeat' first
    | with_reducible rfl | with_reducible refine ite_keep (fun _ => ?_) (fun _ => ?_) | with_reducible refine foldl_keep (fun _ _ => ?_) ?_
    | with_reducible refine dite_keep (fun _ => ?_) (fun _ => ?_) | with_reducible refine (State.at_spine ..).trans ?_
    | with_reducible refine (State.notify_spine ..).trans ?_ | with_reducible refine (State.reportAt_spine ..).trans ?_
    | with_reducible refine (State.modNv_spine ..).trans ?_ | with_reducible refine (State.set_spine ..).trans ?_
    | with_reducible refine (State.toFeed_spine ..).trans ?_ | with_reducible refine (State.feedOff_spine ..).trans ?_
    | simp only [spine_mk, spine_eta] | dsimp only | split | exact rfl
theorem doFeedUndervoltage_spine (f : Nat) (v : Nat) (t : Nat) (s0 : State) : (doFeedUndervoltage f v t s0).spine = (s0.at t).spine := by
  unfold doFeedUndervoltage; repeat' first
    | with_reducible rfl | with_reducible refine ite_keep (fun _ => ?_) (fun _ => ?_) | with_reducible refine foldl_keep (fun _ _ => ?_) ?_
    | with_reducible refine dite_keep (fun _ => ?_) (fun _ => ?_) | with_reducible refine (State.setVin_spine ..).trans ?_
    | with_reducible refine (State.at_spine ..).trans ?_ | with_reducible refine (State.set_spine ..).trans ?_
    | with_reducible refine (State.toFeed_spine ..).trans ?_ | with_reducible refine (State.feedOff_spine ..).trans ?_
    | simp only [spine_mk, spine_eta] | dsimp only | split
theorem doFeedOvervoltage_spine (f : Nat) (t : Nat) (cause : Nat) (s0 : State) :
    (doFeedOvervoltage f t cause s0).spine = (s0.at t).spine := by
  unfold doFeedOvervoltage; repeat' first
    | with_reducible rfl | with_reducible refine ite_keep (fun _ => ?_) (fun _ => ?_) | with_reducible refine foldl_keep (fun _ _ => ?_) ?_
    | with_reducible refine dite_keep (fun _ => ?_) (fun _ => ?_) | with_reducible refine (State.at_spine ..).trans ?_
    | with_reducible refine (State.tripFeed_spine ..).trans ?_ | simp only [spine_mk, spine_eta] | dsimp only | split | exact rfl
theorem doFeedLimitEnter_spine (f : Nat) (t : Nat) (s0 : State) : (doFeedLimitEnter f t s0).spine = (s0.at t).spine := by
  unfold doFeedLimitEnter; repeat' first
    | with_reducible rfl | with_reducible refine ite_keep (fun _ => ?_) (fun _ => ?_) | with_reducible refine foldl_keep (fun _ _ => ?_) ?_
    | with_reducible refine dite_keep (fun _ => ?_) (fun _ => ?_) | with_reducible refine (State.at_spine ..).trans ?_
    | with_reducible refine (State.toFeed_spine ..).trans ?_ | simp only [spine_mk, spine_eta] | dsimp only | split
theorem doFeedLimitExit_spine (f : Nat) (t : Nat) (s0 : State) : (doFeedLimitExit f t s0).spine = (s0.at t).spine := by
  unfold doFeedLimitExit; repeat' first
    | with_reducible rfl | with_reducible refine ite_keep (fun _ => ?_) (fun _ => ?_) | with_reducible refine foldl_keep (fun _ _ => ?_) ?_
    | with_reducible refine dite_keep (fun _ => ?_) (fun _ => ?_) | with_reducible refine (State.at_spine ..).trans ?_
    | with_reducible refine (State.toFeed_spine ..).trans ?_ | simp only [spine_mk, spine_eta] | dsimp only | split
theorem doFeedOcTrip_spine (f : Nat) (t : Nat) (s0 : State) : (doFeedOcTrip f t s0).spine = (s0.at t).spine := by
  unfold doFeedOcTrip; repeat' first
    | with_reducible rfl | with_reducible refine ite_keep (fun _ => ?_) (fun _ => ?_) | with_reducible refine foldl_keep (fun _ _ => ?_) ?_
    | with_reducible refine dite_keep (fun _ => ?_) (fun _ => ?_) | with_reducible refine (State.at_spine ..).trans ?_
    | with_reducible refine (State.tripFeed_spine ..).trans ?_ | simp only [spine_mk, spine_eta] | dsimp only | split | exact rfl
theorem doFeedFastTrip_spine (f : Nat) (t : Nat) (s0 : State) : (doFeedFastTrip f t s0).spine = (s0.at t).spine := by
  unfold doFeedFastTrip; repeat' first
    | with_reducible rfl | with_reducible refine ite_keep (fun _ => ?_) (fun _ => ?_) | with_reducible refine foldl_keep (fun _ _ => ?_) ?_
    | with_reducible refine dite_keep (fun _ => ?_) (fun _ => ?_) | with_reducible refine (State.at_spine ..).trans ?_
    | with_reducible refine (State.tripFeed_spine ..).trans ?_ | simp only [spine_mk, spine_eta] | dsimp only | split | exact rfl
theorem doFeedRetry_spine (f : Nat) (t : Nat) (s0 : State) : (doFeedRetry f t s0).spine = (s0.at t).spine := by
  unfold doFeedRetry; repeat' first
    | with_reducible rfl | with_reducible refine ite_keep (fun _ => ?_) (fun _ => ?_) | with_reducible refine foldl_keep (fun _ _ => ?_) ?_
    | with_reducible refine dite_keep (fun _ => ?_) (fun _ => ?_) | with_reducible refine (State.at_spine ..).trans ?_
    | with_reducible refine (State.tryStart_spine ..).trans ?_ | simp only [spine_mk, spine_eta] | dsimp only | split
theorem doFeedTripCountClear_spine (f : Nat) (t : Nat) (s0 : State) : (doFeedTripCountClear f t s0).spine = (s0.at t).spine := by
  unfold doFeedTripCountClear; repeat' first
    | with_reducible rfl | with_reducible refine ite_keep (fun _ => ?_) (fun _ => ?_) | with_reducible refine foldl_keep (fun _ _ => ?_) ?_
    | with_reducible refine dite_keep (fun _ => ?_) (fun _ => ?_) | with_reducible refine (State.at_spine ..).trans ?_
    | with_reducible refine (State.set_spine ..).trans ?_ | simp only [spine_mk, spine_eta] | dsimp only | split
theorem releaseFeed_spine (f : Nat) (s : State) : (releaseFeed f s).spine = s.spine := by
  unfold releaseFeed; repeat' first
    | with_reducible rfl | with_reducible refine ite_keep (fun _ => ?_) (fun _ => ?_) | with_reducible refine foldl_keep (fun _ _ => ?_) ?_
    | with_reducible refine dite_keep (fun _ => ?_) (fun _ => ?_) | with_reducible refine (State.settleFeed_spine ..).trans ?_
    | with_reducible refine (State.set_spine ..).trans ?_ | with_reducible refine (State.toFeed_spine ..).trans ?_
    | simp only [spine_mk, spine_eta] | dsimp only | split
theorem unretireFeed_spine (f : Nat) (s : State) : (unretireFeed f s).spine = s.spine := by
  unfold unretireFeed; repeat' first
    | with_reducible rfl | with_reducible refine ite_keep (fun _ => ?_) (fun _ => ?_) | with_reducible refine foldl_keep (fun _ _ => ?_) ?_
    | with_reducible refine dite_keep (fun _ => ?_) (fun _ => ?_) | with_reducible refine (State.settleFeed_spine ..).trans ?_
    | with_reducible refine (State.modNv_spine ..).trans ?_ | with_reducible refine (State.toFeed_spine ..).trans ?_
    | simp only [spine_mk, spine_eta] | dsimp only | split
theorem enableFeed_spine (f : Nat) (v : Nat) (s : State) : (enableFeed f v s).spine = s.spine := by
  unfold enableFeed; repeat' first
    | with_reducible rfl | with_reducible refine ite_keep (fun _ => ?_) (fun _ => ?_) | with_reducible refine foldl_keep (fun _ _ => ?_) ?_
    | with_reducible refine dite_keep (fun _ => ?_) (fun _ => ?_) | with_reducible refine (State.set_spine ..).trans ?_
    | with_reducible refine (State.toFeed_spine ..).trans ?_ | with_reducible refine (State.feedOff_spine ..).trans ?_
    | simp only [spine_mk, spine_eta] | dsimp only | split
theorem doFeedLeavesRange_spine (f : Nat) (v : Nat) (t : Nat) (s0 : State) : (doFeedLeavesRange f v t s0).spine = (s0.at t).spine := by
  unfold doFeedLeavesRange; repeat' first
    | with_reducible rfl | with_reducible refine ite_keep (fun _ => ?_) (fun _ => ?_) | with_reducible refine foldl_keep (fun _ _ => ?_) ?_
    | with_reducible refine dite_keep (fun _ => ?_) (fun _ => ?_) | with_reducible refine (State.setVin_spine ..).trans ?_
    | with_reducible refine (State.at_spine ..).trans ?_ | with_reducible refine (State.toFeed_spine ..).trans ?_
    | simp only [spine_mk, spine_eta] | dsimp only | split
theorem State.setVbus_spine (s : State) (v : Nat) : (State.setVbus s v).spine = s.spine := by
  unfold State.setVbus; repeat' first
    | with_reducible rfl | with_reducible refine ite_keep (fun _ => ?_) (fun _ => ?_) | with_reducible refine foldl_keep (fun _ _ => ?_) ?_
    | with_reducible refine dite_keep (fun _ => ?_) (fun _ => ?_) | with_reducible refine (State.set_spine ..).trans ?_
    | simp only [spine_mk, spine_eta] | dsimp only | split
theorem doRideThroughStart_spine (vbus : Nat) (t : Nat) (s0 : State) : (doRideThroughStart vbus t s0).spine = (s0.at t).spine := by
  unfold doRideThroughStart; repeat' first
    | with_reducible rfl | with_reducible refine ite_keep (fun _ => ?_) (fun _ => ?_) | with_reducible refine foldl_keep (fun _ _ => ?_) ?_
    | with_reducible refine dite_keep (fun _ => ?_) (fun _ => ?_) | with_reducible refine (State.at_spine ..).trans ?_
    | with_reducible refine (State.modPwr_spine ..).trans ?_ | with_reducible refine (State.bump_spine ..).trans ?_
    | with_reducible refine (State.set_spine ..).trans ?_ | with_reducible refine (State.setVbus_spine ..).trans ?_
    | simp only [spine_mk, spine_eta] | dsimp only | split
theorem doRideThroughEnd_spine (f : Nat) (t : Nat) (s0 : State) : (doRideThroughEnd f t s0).spine = (s0.at t).spine := by
  unfold doRideThroughEnd; repeat' first
    | with_reducible rfl | with_reducible refine ite_keep (fun _ => ?_) (fun _ => ?_) | with_reducible refine foldl_keep (fun _ _ => ?_) ?_
    | with_reducible refine dite_keep (fun _ => ?_) (fun _ => ?_) | with_reducible refine (State.set_spine ..).trans ?_
    | with_reducible refine (State.at_spine ..).trans ?_ | with_reducible refine (State.redecide_spine ..).trans ?_
    | with_reducible refine (State.notify_spine ..).trans ?_ | simp only [spine_mk, spine_eta] | dsimp only | split | exact rfl
theorem State.endUnfit_spine (s : State) : (State.endUnfit s).spine = s.spine := by
  unfold State.endUnfit; repeat' first
    | with_reducible rfl | with_reducible refine ite_keep (fun _ => ?_) (fun _ => ?_) | with_reducible refine foldl_keep (fun _ _ => ?_) ?_
    | with_reducible refine dite_keep (fun _ => ?_) (fun _ => ?_) | with_reducible refine (State.modLvc_spine ..).trans ?_
    | with_reducible refine (State.endChart_spine ..).trans ?_ | simp only [spine_mk, spine_eta] | dsimp only | split
theorem doDataPlaneShed_spine (t : Nat) (s0 : State) : (doDataPlaneShed t s0).spine = (s0.at t).spine := by
  unfold doDataPlaneShed; repeat' first
    | with_reducible rfl | with_reducible refine ite_keep (fun _ => ?_) (fun _ => ?_) | with_reducible refine foldl_keep (fun _ _ => ?_) ?_
    | with_reducible refine dite_keep (fun _ => ?_) (fun _ => ?_) | with_reducible refine (State.at_spine ..).trans ?_
    | with_reducible refine (State.shedCopies_spine ..).trans ?_ | with_reducible refine (State.endUnfit_spine ..).trans ?_
    | with_reducible refine (State.abortScrubs_spine ..).trans ?_ | with_reducible refine (State.endDataLeave_spine ..).trans ?_
    | with_reducible refine (State.modPwr_spine ..).trans ?_ | with_reducible refine (State.setAll_spine ..).trans ?_
    | simp only [spine_mk, spine_eta] | dsimp only | split | exact rfl
theorem doAvsAckTimeout_spine (r : Nat) (s : State) : (doAvsAckTimeout r s).spine = s.spine := by
  unfold doAvsAckTimeout; repeat' first
    | with_reducible rfl | with_reducible refine ite_keep (fun _ => ?_) (fun _ => ?_) | with_reducible refine foldl_keep (fun _ _ => ?_) ?_
    | with_reducible refine dite_keep (fun _ => ?_) (fun _ => ?_) | with_reducible refine (State.reportAt_spine ..).trans ?_
    | with_reducible refine (State.bump_spine ..).trans ?_ | with_reducible refine (State.notify_spine ..).trans ?_
    | with_reducible refine (State.set_spine ..).trans ?_ | with_reducible refine (State.emit_spine ..).trans ?_
    | simp only [spine_mk, spine_eta] | dsimp only | split | exact rfl
theorem State.readRail_spine (s : State) (x : Sys2Proof.RailReading) : (State.readRail s x).spine = s.spine := by
  unfold State.readRail; repeat' first
    | with_reducible rfl | with_reducible refine ite_keep (fun _ => ?_) (fun _ => ?_) | with_reducible refine foldl_keep (fun _ _ => ?_) ?_
    | with_reducible refine dite_keep (fun _ => ?_) (fun _ => ?_) | with_reducible refine (State.setAll_spine ..).trans ?_
    | simp only [spine_mk, spine_eta] | dsimp only | split
theorem State.readInput_spine (s : State) (m : Sys2Proof.InputMeas) : (State.readInput s m).spine = s.spine := by
  unfold State.readInput; repeat' first
    | with_reducible rfl | with_reducible refine ite_keep (fun _ => ?_) (fun _ => ?_) | with_reducible refine foldl_keep (fun _ _ => ?_) ?_
    | with_reducible refine dite_keep (fun _ => ?_) (fun _ => ?_) | with_reducible refine (State.setAll_spine ..).trans ?_
    | with_reducible refine (State.setVbus_spine ..).trans ?_ | with_reducible refine (State.modPwr_spine ..).trans ?_
    | simp only [spine_mk, spine_eta] | dsimp only | split
theorem doRailPoll_spine (readings : List Sys2Proof.RailReading) (m : Sys2Proof.InputMeas) (t : Nat) (s : State) :
    (doRailPoll readings m t s).spine = (s.at t).spine := by
  unfold doRailPoll; repeat' first
    | with_reducible rfl | with_reducible refine ite_keep (fun _ => ?_) (fun _ => ?_) | with_reducible refine foldl_keep (fun _ _ => ?_) ?_
    | with_reducible refine dite_keep (fun _ => ?_) (fun _ => ?_) | with_reducible refine (State.readInput_spine ..).trans ?_
    | with_reducible refine (State.readRail_spine ..).trans ?_ | with_reducible refine (State.at_spine ..).trans ?_
    | simp only [spine_mk, spine_eta] | dsimp only | split
theorem clearInputPeak_spine (s : State) : (clearInputPeak s).spine = s.spine := by
  unfold clearInputPeak; repeat' first
    | with_reducible rfl | with_reducible refine ite_keep (fun _ => ?_) (fun _ => ?_) | with_reducible refine foldl_keep (fun _ _ => ?_) ?_
    | with_reducible refine dite_keep (fun _ => ?_) (fun _ => ?_) | with_reducible refine (State.set_spine ..).trans ?_
    | simp only [spine_mk, spine_eta] | dsimp only | split
theorem ldoGoFull_spine (s : State) : (ldoGoFull s).1.spine = s.spine := by
  unfold ldoGoFull; repeat' first
    | with_reducible rfl | with_reducible refine ite_keep (fun _ => ?_) (fun _ => ?_) | with_reducible refine foldl_keep (fun _ _ => ?_) ?_
    | with_reducible refine dite_keep (fun _ => ?_) (fun _ => ?_) | with_reducible refine (State.set_spine ..).trans ?_
    | simp only [spine_mk, spine_eta] | dsimp only | split
theorem doLdoReturnLow_spine (t : Nat) (s0 : State) : (doLdoReturnLow t s0).spine = (s0.at t).spine := by
  unfold doLdoReturnLow; repeat' first
    | with_reducible rfl | with_reducible refine ite_keep (fun _ => ?_) (fun _ => ?_) | with_reducible refine foldl_keep (fun _ _ => ?_) ?_
    | with_reducible refine dite_keep (fun _ => ?_) (fun _ => ?_) | with_reducible refine (State.at_spine ..).trans ?_
    | with_reducible refine (State.redecide_spine ..).trans ?_ | with_reducible refine (State.modLvc_spine ..).trans ?_
    | with_reducible refine (State.setAll_spine ..).trans ?_ | simp only [spine_mk, spine_eta] | dsimp only | split | exact rfl
theorem State.advertise_spine (s : State) (p : Nat) : (State.advertise s p).spine = s.spine := by
  unfold State.advertise; repeat' first
    | with_reducible rfl | with_reducible refine ite_keep (fun _ => ?_) (fun _ => ?_) | with_reducible refine foldl_keep (fun _ _ => ?_) ?_
    | with_reducible refine dite_keep (fun _ => ?_) (fun _ => ?_) | with_reducible refine (State.emit_spine ..).trans ?_
    | with_reducible refine ite_keep1 (fun _ => ?_) (fun _ => ?_) | with_reducible refine spine_of ?_ ?_ | simp only [spine_mk, spine_eta]
    | dsimp only | split | exact rfl
theorem doCxlLinkUp_spine (p : Nat) (a : Sys2Proof.CxlTraining) (t : Nat) (s0 : State) :
    (doCxlLinkUp p a t s0).spine = (s0.at t).spine := by
  unfold doCxlLinkUp; repeat' first
    | with_reducible rfl | with_reducible refine ite_keep (fun _ => ?_) (fun _ => ?_) | with_reducible refine foldl_keep (fun _ _ => ?_) ?_
    | with_reducible refine dite_keep (fun _ => ?_) (fun _ => ?_) | with_reducible refine (State.at_spine ..).trans ?_
    | with_reducible refine (State.dropRecords_spine ..).trans ?_ | with_reducible refine (State.raiseLink_spine ..).trans ?_
    | with_reducible refine (State.advertise_spine ..).trans ?_ | with_reducible refine (State.setAll_spine ..).trans ?_
    | with_reducible refine ite_keep1 (fun _ => ?_) (fun _ => ?_) | with_reducible refine spine_of ?_ ?_ | simp only [spine_mk, spine_eta]
    | dsimp only | split | exact rfl
theorem doCxlTrainingFailed_spine (p : Nat) (t : Nat) (s0 : State) : (doCxlTrainingFailed p t s0).spine = (s0.at t).spine := by
  unfold doCxlTrainingFailed; repeat' first
    | with_reducible rfl | with_reducible refine ite_keep (fun _ => ?_) (fun _ => ?_) | with_reducible refine foldl_keep (fun _ _ => ?_) ?_
    | with_reducible refine dite_keep (fun _ => ?_) (fun _ => ?_) | with_reducible refine (State.at_spine ..).trans ?_
    | with_reducible refine (State.modLnk_spine ..).trans ?_ | with_reducible refine (State.set_spine ..).trans ?_
    | simp only [spine_mk, spine_eta] | dsimp only | split
theorem doPartnerRecoveryChange_spine (p : Nat) (retrains : Bool) (t : Nat) (s0 : State) :
    (doPartnerRecoveryChange p retrains t s0).spine = (s0.at t).spine := by
  unfold doPartnerRecoveryChange; repeat' first
    | with_reducible rfl | with_reducible refine ite_keep (fun _ => ?_) (fun _ => ?_) | with_reducible refine foldl_keep (fun _ _ => ?_) ?_
    | with_reducible refine dite_keep (fun _ => ?_) (fun _ => ?_) | with_reducible refine (State.at_spine ..).trans ?_
    | with_reducible refine (State.emit_spine ..).trans ?_ | with_reducible refine (State.linkDown_spine ..).trans ?_
    | simp only [spine_mk, spine_eta] | dsimp only | split | exact rfl
theorem doPbrAdv_spine (p : Nat) (ids : List Nat) (s : State) : (doPbrAdv p ids s).spine = s.spine := by
  unfold doPbrAdv; repeat' first
    | with_reducible rfl | with_reducible refine ite_keep (fun _ => ?_) (fun _ => ?_) | with_reducible refine foldl_keep (fun _ _ => ?_) ?_
    | with_reducible refine dite_keep (fun _ => ?_) (fun _ => ?_) | with_reducible refine (State.showCollisions_spine ..).trans ?_
    | with_reducible refine (State.modBnd_spine ..).trans ?_ | with_reducible refine (State.raise_spine ..).trans ?_
    | with_reducible refine (State.bump_spine ..).trans ?_ | simp only [spine_mk, spine_eta] | dsimp only | split
theorem State.onDsp_spine {s : State} {src : Sess} {port : Nat} {act : Nat → State → State} (h : ∀ p u, (act p u).spine = u.spine) :
    (s.onDsp src port act).spine = s.spine := by
  unfold State.onDsp; repeat' first
    | exact h .. | exact State.respond_spine .. | split
theorem portControl_spine (p : Nat) (act : Sys2Proof.PortAct) (s : State) : (portControl p act s).spine = s.spine := by
  unfold portControl; repeat' first
    | with_reducible rfl | with_reducible refine ite_keep (fun _ => ?_) (fun _ => ?_) | with_reducible refine foldl_keep (fun _ _ => ?_) ?_
    | with_reducible refine dite_keep (fun _ => ?_) (fun _ => ?_) | with_reducible refine (State.fullReset_spine ..).trans ?_
    | with_reducible refine (State.modLnk_spine ..).trans ?_ | with_reducible refine (State.startTraining_spine ..).trans ?_
    | simp only [spine_mk, spine_eta] | dsimp only | split | exact rfl
theorem State.throughPleat_spine (s : State) (src : Sys2Proof.Sess) (p : Nat) (what : Emit) (answer : Option (List (Fin 256))) :
    (State.throughPleat s src p what answer).spine = s.spine := by
  unfold State.throughPleat; repeat' first
    | with_reducible rfl | with_reducible refine ite_keep (fun _ => ?_) (fun _ => ?_) | with_reducible refine foldl_keep (fun _ _ => ?_) ?_
    | with_reducible refine dite_keep (fun _ => ?_) (fun _ => ?_) | with_reducible refine (State.respond_spine ..).trans ?_
    | with_reducible refine (State.emit_spine ..).trans ?_ | simp only [spine_mk, spine_eta] | dsimp only | split
theorem sendLd_spine (src : Sys2Proof.Sess) (port : Nat) (ld : Nat) (q : Sys2Proof.FmRequest) (answer : Option (List (Fin 256)))
    (s : State) : (sendLd src port ld q answer s).spine = s.spine := by
  unfold sendLd; repeat' first
    | with_reducible rfl | with_reducible refine ite_keep (fun _ => ?_) (fun _ => ?_) | with_reducible refine foldl_keep (fun _ _ => ?_) ?_
    | with_reducible refine dite_keep (fun _ => ?_) (fun _ => ?_) | with_reducible refine (State.onDsp_spine (fun _ _ => ?_)).trans ?_
    | with_reducible refine (State.throughPleat_spine ..).trans ?_ | with_reducible refine (State.respond_spine ..).trans ?_
    | simp only [spine_mk, spine_eta] | dsimp only | split | exact rfl
theorem bindTo_spine (src : Sys2Proof.Sess) (who : Principal) (opcode v i : Nat) (lead : Option Nat) (ld : Nat) (s : State) :
    (bindTo src who opcode v i lead ld s).spine = s.spine := State.takeTurn_spine fun _ => bindNow_spine ..
theorem doTackAdvance_spine (pt : Nat) (t : Nat) (s0 : State) : (doTackAdvance pt t s0).spine = (s0.at t).spine := by
  unfold doTackAdvance; repeat' first
    | with_reducible rfl | with_reducible refine ite_keep (fun _ => ?_) (fun _ => ?_) | with_reducible refine foldl_keep (fun _ _ => ?_) ?_
    | with_reducible refine dite_keep (fun _ => ?_) (fun _ => ?_) | with_reducible refine (State.at_spine ..).trans ?_
    | with_reducible refine (State.advanceTack_spine ..).trans ?_ | with_reducible refine (State.startTraining_spine ..).trans ?_
    | with_reducible refine (State.set_spine ..).trans ?_ | with_reducible refine (State.modBnd_spine ..).trans ?_
    | with_reducible refine (State.finishBind_spine ..).trans ?_ | with_reducible refine ite_keep1 (fun _ => ?_) (fun _ => ?_)
    | with_reducible refine spine_of ?_ ?_ | simp only [spine_mk, spine_eta] | dsimp only | split | exact rfl
theorem doTackSlotWaitExpired_spine (t : Nat) (s0 : State) : (doTackSlotWaitExpired t s0).spine = (s0.at t).spine := by
  unfold doTackSlotWaitExpired; repeat' first
    | with_reducible rfl | with_reducible refine ite_keep (fun _ => ?_) (fun _ => ?_) | with_reducible refine foldl_keep (fun _ _ => ?_) ?_
    | with_reducible refine dite_keep (fun _ => ?_) (fun _ => ?_) | with_reducible refine (State.at_spine ..).trans ?_
    | with_reducible refine (State.endBind_spine ..).trans ?_ | simp only [spine_mk, spine_eta] | dsimp only | split | exact rfl
theorem doTackRetire_spine (pt : Nat) (tack : Nat) (t : Nat) (s0 : State) : (doTackRetire pt tack t s0).spine = (s0.at t).spine := by
  unfold doTackRetire; repeat' first
    | with_reducible rfl | with_reducible refine ite_keep (fun _ => ?_) (fun _ => ?_) | with_reducible refine foldl_keep (fun _ _ => ?_) ?_
    | with_reducible refine dite_keep (fun _ => ?_) (fun _ => ?_) | with_reducible refine (State.at_spine ..).trans ?_
    | with_reducible refine (State.setTacks_spine ..).trans ?_ | simp only [spine_mk, spine_eta] | dsimp only | split
theorem doResponseWaitExpired_spine (p : Nat) (id : Nat) (t : Nat) (s0 : State) :
    (doResponseWaitExpired p id t s0).spine = (s0.at t).spine := by
  unfold doResponseWaitExpired; repeat' first
    | with_reducible rfl | with_reducible refine ite_keep (fun _ => ?_) (fun _ => ?_) | with_reducible refine foldl_keep (fun _ _ => ?_) ?_
    | with_reducible refine dite_keep (fun _ => ?_) (fun _ => ?_) | with_reducible refine (State.at_spine ..).trans ?_
    | with_reducible refine (State.modCore_spine ..).trans ?_ | simp only [spine_mk, spine_eta] | dsimp only | split
theorem doUnbindWaitSatisfied_spine (t : Nat) (s0 : State) : (doUnbindWaitSatisfied t s0).spine = (s0.at t).spine := by
  unfold doUnbindWaitSatisfied; repeat' first
    | with_reducible rfl | with_reducible refine ite_keep (fun _ => ?_) (fun _ => ?_) | with_reducible refine foldl_keep (fun _ _ => ?_) ?_
    | with_reducible refine dite_keep (fun _ => ?_) (fun _ => ?_) | with_reducible refine (State.at_spine ..).trans ?_
    | with_reducible refine (State.modBnd_spine ..).trans ?_ | simp only [spine_mk, spine_eta] | dsimp only | split
theorem doUnbindWaitExpired_spine (t : Nat) (s0 : State) : (doUnbindWaitExpired t s0).spine = (s0.at t).spine := by
  unfold doUnbindWaitExpired; repeat' first
    | with_reducible rfl | with_reducible refine ite_keep (fun _ => ?_) (fun _ => ?_) | with_reducible refine foldl_keep (fun _ _ => ?_) ?_
    | with_reducible refine dite_keep (fun _ => ?_) (fun _ => ?_) | with_reducible refine (State.at_spine ..).trans ?_
    | with_reducible refine (State.endBind_spine ..).trans ?_ | simp only [spine_mk, spine_eta] | dsimp only | split | exact rfl
theorem doSlotControlWrite_spine (v : Nat) (i : Nat) (act : Sys2Proof.SlotAct) (s : State) :
    (doSlotControlWrite v i act s).spine = s.spine := by
  unfold doSlotControlWrite; repeat' first
    | with_reducible rfl | with_reducible refine ite_keep (fun _ => ?_) (fun _ => ?_) | with_reducible refine foldl_keep (fun _ _ => ?_) ?_
    | with_reducible refine dite_keep (fun _ => ?_) (fun _ => ?_) | with_reducible refine (State.modBnd_spine ..).trans ?_
    | with_reducible refine (State.slotPower_spine ..).trans ?_ | with_reducible refine (State.emit_spine ..).trans ?_
    | simp only [spine_mk, spine_eta] | dsimp only | split | exact rfl
theorem State.presence_spine (s : State) (p : Nat) (now_ : Bool) : (State.presence s p now_).spine = s.spine := by
  unfold State.presence; repeat' first
    | with_reducible refine foldl_keep (fun _ _ => ?_) ?_ | with_reducible refine (State.setAll_spine ..).trans ?_
    | with_reducible refine (State.modBnd_spine ..).trans ?_ | with_reducible refine (State.set_spine ..).trans ?_
    | with_reducible refine (State.surprise_spine ..).trans ?_ | with_reducible refine (State.modLnk_spine ..).trans ?_
    | with_reducible refine (State.startTraining_spine ..).trans ?_ | with_reducible refine spine_of ?_ ?_
    | simp only [spine_mk, spine_eta] | split | exact rfl
theorem State.quarterChange_spine (s : State) (q : Nat) : (State.quarterChange s q).spine = s.spine := by
  unfold State.quarterChange; repeat' first
    | with_reducible rfl | with_reducible refine ite_keep (fun _ => ?_) (fun _ => ?_) | with_reducible refine foldl_keep (fun _ _ => ?_) ?_
    | with_reducible refine dite_keep (fun _ => ?_) (fun _ => ?_) | with_reducible refine (State.presence_spine ..).trans ?_
    | simp only [spine_mk, spine_eta] | dsimp only | split | exact rfl
theorem State.showRaw_spine (s : State) (q : Nat) : (State.showRaw s q).spine = s.spine := by
  unfold State.showRaw; repeat' first
    | with_reducible rfl | with_reducible refine ite_keep (fun _ => ?_) (fun _ => ?_) | with_reducible refine foldl_keep (fun _ _ => ?_) ?_
    | with_reducible refine dite_keep (fun _ => ?_) (fun _ => ?_) | with_reducible refine (State.set_spine ..).trans ?_
    | with_reducible refine ite_keep1 (fun _ => ?_) (fun _ => ?_) | with_reducible refine spine_of ?_ ?_ | simp only [spine_mk, spine_eta]
    | dsimp only | split | exact rfl
theorem doPresenceDebounced_spine (q : Nat) (seated : Bool) (stable : Bool) (t : Nat) (s0 : State) :
    (doPresenceDebounced q seated stable t s0).spine = (s0.at t).spine := by
  unfold doPresenceDebounced; repeat' first
    | with_reducible rfl | with_reducible refine ite_keep (fun _ => ?_) (fun _ => ?_) | with_reducible refine foldl_keep (fun _ _ => ?_) ?_
    | with_reducible refine dite_keep (fun _ => ?_) (fun _ => ?_) | with_reducible refine (State.showRaw_spine ..).trans ?_
    | with_reducible refine (State.modBnd_spine ..).trans ?_ | with_reducible refine (State.at_spine ..).trans ?_
    | with_reducible refine (State.set_spine ..).trans ?_ | with_reducible refine (State.quarterChange_spine ..).trans ?_
    | with_reducible refine ite_keep1 (fun _ => ?_) (fun _ => ?_) | with_reducible refine spine_of ?_ ?_ | simp only [spine_mk, spine_eta]
    | dsimp only | split | exact rfl
theorem doPerstInChange_spine (q : Nat) (low : Bool) (s : State) : (doPerstInChange q low s).spine = s.spine := by
  unfold doPerstInChange; repeat' first
    | with_reducible rfl | with_reducible refine ite_keep (fun _ => ?_) (fun _ => ?_) | with_reducible refine foldl_keep (fun _ _ => ?_) ?_
    | with_reducible refine dite_keep (fun _ => ?_) (fun _ => ?_) | with_reducible refine (State.fullReset_spine ..).trans ?_
    | with_reducible refine (State.set_spine ..).trans ?_ | with_reducible refine (State.startTraining_spine ..).trans ?_
    | simp only [spine_mk, spine_eta] | dsimp only | split | exact rfl
theorem doRailFault_spine (r : Nat) (s : State) : (doRailFault r s).spine = s.spine := by
  unfold doRailFault; repeat' first
    | with_reducible rfl | with_reducible refine ite_keep (fun _ => ?_) (fun _ => ?_) | with_reducible refine foldl_keep (fun _ _ => ?_) ?_
    | with_reducible refine dite_keep (fun _ => ?_) (fun _ => ?_) | with_reducible refine (State.regionOut_spine ..).trans ?_
    | with_reducible refine (State.set_spine ..).trans ?_ | with_reducible refine (State.reportAt_spine ..).trans ?_
    | simp only [spine_mk, spine_eta] | dsimp only | split | exact rfl
theorem doBrownOut_spine (s : State) : (doBrownOut s).spine = s.spine := by
  unfold doBrownOut; repeat' first
    | with_reducible rfl | with_reducible refine ite_keep (fun _ => ?_) (fun _ => ?_) | with_reducible refine foldl_keep (fun _ _ => ?_) ?_
    | with_reducible refine dite_keep (fun _ => ?_) (fun _ => ?_) | with_reducible refine (State.notify_spine ..).trans ?_
    | with_reducible refine (State.bump_spine ..).trans ?_ | with_reducible refine (State.setAll_spine ..).trans ?_
    | simp only [spine_mk, spine_eta] | dsimp only | split
theorem State.noteReset_spine (s : State) : (State.noteReset s).spine = s.spine := rfl
theorem State.restartFeeds_spine (s : State) : (State.restartFeeds s).spine = s.spine := by
  unfold State.restartFeeds; repeat' first
    | with_reducible rfl | with_reducible refine ite_keep (fun _ => ?_) (fun _ => ?_) | with_reducible refine foldl_keep (fun _ _ => ?_) ?_
    | with_reducible refine dite_keep (fun _ => ?_) (fun _ => ?_) | with_reducible refine (State.settleFeed_spine ..).trans ?_
    | with_reducible refine (State.toFeed_spine ..).trans ?_ | with_reducible refine ite_keep1 (fun _ => ?_) (fun _ => ?_)
    | with_reducible refine spine_of ?_ ?_ | simp only [spine_mk, spine_eta] | dsimp only | split | exact rfl
theorem State.leaveStandby_spine (s : State) (src : Nat) : (State.leaveStandby s src).spine = s.spine := by
  unfold State.leaveStandby; repeat' first
    | with_reducible rfl | with_reducible refine ite_keep (fun _ => ?_) (fun _ => ?_) | with_reducible refine foldl_keep (fun _ _ => ?_) ?_
    | with_reducible refine dite_keep (fun _ => ?_) (fun _ => ?_) | with_reducible refine (State.modPwr_spine ..).trans ?_
    | with_reducible refine (State.bump_spine ..).trans ?_ | with_reducible refine (State.setAll_spine ..).trans ?_
    | with_reducible refine (State.restartFeeds_spine ..).trans ?_ | with_reducible refine (State.noteReset_spine ..).trans ?_
    | with_reducible refine (State.set_spine ..).trans ?_ | with_reducible refine ite_keep1 (fun _ => ?_) (fun _ => ?_)
    | with_reducible refine spine_of ?_ ?_ | simp only [spine_mk, spine_eta] | dsimp only | split | exact rfl
theorem doFeedCycled_spine (f : Nat) (v : Nat) (t : Nat) (s0 : State) : (doFeedCycled f v t s0).spine = (s0.at t).spine := by
  unfold doFeedCycled; repeat' first
    | with_reducible rfl | with_reducible refine ite_keep (fun _ => ?_) (fun _ => ?_) | with_reducible refine foldl_keep (fun _ _ => ?_) ?_
    | with_reducible refine dite_keep (fun _ => ?_) (fun _ => ?_) | with_reducible refine (State.setVin_spine ..).trans ?_
    | with_reducible refine (State.at_spine ..).trans ?_ | with_reducible refine (releaseFeed_spine ..).trans ?_
    | with_reducible refine (State.settleFeed_spine ..).trans ?_ | with_reducible refine (State.toFeed_spine ..).trans ?_
    | with_reducible refine (State.leaveStandby_spine ..).trans ?_ | simp only [spine_mk, spine_eta] | dsimp only | split | exact rfl
theorem doShedPlaneOff_spine (t : Nat) (s0 : State) : (doShedPlaneOff t s0).spine = (s0.at t).spine := by
  unfold doShedPlaneOff; repeat' first
    | with_reducible rfl | with_reducible refine ite_keep (fun _ => ?_) (fun _ => ?_) | with_reducible refine foldl_keep (fun _ _ => ?_) ?_
    | with_reducible refine dite_keep (fun _ => ?_) (fun _ => ?_) | with_reducible refine (State.at_spine ..).trans ?_
    | with_reducible refine (State.regionOff_spine ..).trans ?_ | with_reducible refine (State.endJobs_spine ..).trans ?_
    | with_reducible refine (State.roseOff_spine ..).trans ?_ | with_reducible refine (State.modPwr_spine ..).trans ?_
    | with_reducible refine (State.beginSave_spine ..).trans ?_ | simp only [spine_mk, spine_eta] | dsimp only | split | exact rfl
theorem State.writeImage_spine (s : State) : (State.writeImage s).spine = s.spine := by
  unfold State.writeImage; repeat' first
    | with_reducible rfl | with_reducible refine ite_keep (fun _ => ?_) (fun _ => ?_) | with_reducible refine foldl_keep (fun _ _ => ?_) ?_
    | with_reducible refine dite_keep (fun _ => ?_) (fun _ => ?_) | with_reducible refine (State.modNv_spine ..).trans ?_
    | with_reducible refine (State.setAll_spine ..).trans ?_ | simp only [spine_mk, spine_eta] | dsimp only | split
theorem State.softReset_spine (s : State) (source : Nat) : (State.softReset s source).spine = s.spine := by
  unfold State.softReset; repeat' first
    | with_reducible rfl | with_reducible refine ite_keep (fun _ => ?_) (fun _ => ?_) | with_reducible refine foldl_keep (fun _ _ => ?_) ?_
    | with_reducible refine dite_keep (fun _ => ?_) (fun _ => ?_) | with_reducible refine (State.modPwr_spine ..).trans ?_
    | with_reducible refine (State.startUp_spine ..).trans ?_ | with_reducible refine (State.moduleReset_spine ..).trans ?_
    | simp only [spine_mk, spine_eta] | dsimp only | split
theorem doAlmanacSaveDone_spine (t : Nat) (s0 : State) : (doAlmanacSaveDone t s0).spine = (s0.at t).spine := by
  unfold doAlmanacSaveDone; repeat' first
    | with_reducible rfl | with_reducible refine ite_keep (fun _ => ?_) (fun _ => ?_) | with_reducible refine foldl_keep (fun _ _ => ?_) ?_
    | with_reducible refine dite_keep (fun _ => ?_) (fun _ => ?_) | with_reducible refine (State.at_spine ..).trans ?_
    | with_reducible refine (State.modPwr_spine ..).trans ?_ | with_reducible refine (State.modLvc_spine ..).trans ?_
    | with_reducible refine (State.setAll_spine ..).trans ?_ | with_reducible refine (State.writeImage_spine ..).trans ?_
    | with_reducible refine (State.standby_spine ..).trans ?_ | with_reducible refine (State.set_spine ..).trans ?_
    | with_reducible refine (State.settleFeed_spine ..).trans ?_ | with_reducible refine (State.toFeed_spine ..).trans ?_
    | with_reducible refine (State.softReset_spine ..).trans ?_ | simp only [spine_mk, spine_eta] | dsimp only | split
theorem State.leaveP2_spine (s : State) : (State.leaveP2 s).spine = s.spine := by
  unfold State.leaveP2; repeat' first
    | with_reducible rfl | with_reducible refine ite_keep (fun _ => ?_) (fun _ => ?_) | with_reducible refine foldl_keep (fun _ _ => ?_) ?_
    | with_reducible refine dite_keep (fun _ => ?_) (fun _ => ?_) | with_reducible refine (State.setAll_spine ..).trans ?_
    | with_reducible refine (State.modChtu_spine ..).trans ?_ | with_reducible refine (State.modPwr_spine ..).trans ?_
    | with_reducible refine (State.askRegions_spine ..).trans ?_ | with_reducible refine (State.bringUp_spine ..).trans ?_
    | with_reducible refine (State.roseUp_spine ..).trans ?_ | simp only [spine_mk, spine_eta] | dsimp only | split | exact rfl
theorem writePstate_spine (req : Nat) (s : State) : (writePstate req s).1.spine = s.spine := by
  unfold writePstate; repeat' first
    | with_reducible rfl | with_reducible refine ite_keep (fun _ => ?_) (fun _ => ?_) | with_reducible refine foldl_keep (fun _ _ => ?_) ?_
    | with_reducible refine dite_keep (fun _ => ?_) (fun _ => ?_) | with_reducible refine (State.set_spine ..).trans ?_
    | with_reducible refine (State.leaveP2_spine ..).trans ?_ | with_reducible refine (State.startQuiesce_spine ..).trans ?_
    | with_reducible refine (State.modPwr_spine ..).trans ?_ | simp only [spine_mk, spine_eta] | dsimp only | split | exact rfl
theorem doPstateEntryComplete_spine (t : Nat) (s0 : State) : (doPstateEntryComplete t s0).spine = (s0.at t).spine := by
  unfold doPstateEntryComplete; repeat' first
    | with_reducible rfl | with_reducible refine ite_keep (fun _ => ?_) (fun _ => ?_) | with_reducible refine foldl_keep (fun _ _ => ?_) ?_
    | with_reducible refine dite_keep (fun _ => ?_) (fun _ => ?_) | with_reducible refine (State.at_spine ..).trans ?_
    | with_reducible refine (State.roseOff_spine ..).trans ?_ | with_reducible refine (State.regionOff_spine ..).trans ?_
    | with_reducible refine (State.latchPads_spine ..).trans ?_ | with_reducible refine (State.modPwr_spine ..).trans ?_
    | with_reducible refine (State.setAll_spine ..).trans ?_ | with_reducible refine (State.standby_spine ..).trans ?_
    | with_reducible refine (State.leaveStandby_spine ..).trans ?_ | simp only [spine_mk, spine_eta] | dsimp only | split | exact rfl
theorem releasePads_spine (s : State) : (releasePads s).spine = s.spine := by
  unfold releasePads; repeat' first
    | with_reducible rfl | with_reducible refine ite_keep (fun _ => ?_) (fun _ => ?_) | with_reducible refine foldl_keep (fun _ _ => ?_) ?_
    | with_reducible refine dite_keep (fun _ => ?_) (fun _ => ?_) | with_reducible refine (State.quarterChange_spine ..).trans ?_
    | with_reducible refine (State.set_spine ..).trans ?_ | simp only [spine_mk, spine_eta] | dsimp only | split | exact rfl
theorem doPowerOnReset_spine (t : Nat) (s0 : State) : (doPowerOnReset t s0).spine = (s0.at t).spine := by
  unfold doPowerOnReset; repeat' first
    | with_reducible rfl | with_reducible refine ite_keep (fun _ => ?_) (fun _ => ?_) | with_reducible refine foldl_keep (fun _ _ => ?_) ?_
    | with_reducible refine dite_keep (fun _ => ?_) (fun _ => ?_) | with_reducible refine (State.at_spine ..).trans ?_
    | with_reducible refine (State.startUp_spine ..).trans ?_ | with_reducible refine (State.moduleReset_spine ..).trans ?_
    | simp only [spine_mk, spine_eta] | dsimp only | split
theorem doFeedReturnReset_spine (t : Nat) (s0 : State) : (doFeedReturnReset t s0).spine = (s0.at t).spine := by
  unfold doFeedReturnReset; repeat' first
    | with_reducible rfl | with_reducible refine ite_keep (fun _ => ?_) (fun _ => ?_) | with_reducible refine foldl_keep (fun _ _ => ?_) ?_
    | with_reducible refine dite_keep (fun _ => ?_) (fun _ => ?_) | with_reducible refine (State.at_spine ..).trans ?_
    | with_reducible refine (State.notify_spine ..).trans ?_ | with_reducible refine (State.startUp_spine ..).trans ?_
    | with_reducible refine (State.moduleReset_spine ..).trans ?_ | simp only [spine_mk, spine_eta] | dsimp only | split
theorem doResetL_spine (ns : Nat) (t : Nat) (s0 : State) : (doResetL ns t s0).spine = (s0.at t).spine := by
  unfold doResetL; repeat' first
    | with_reducible rfl | with_reducible refine ite_keep (fun _ => ?_) (fun _ => ?_) | with_reducible refine foldl_keep (fun _ _ => ?_) ?_
    | with_reducible refine dite_keep (fun _ => ?_) (fun _ => ?_) | with_reducible refine (State.at_spine ..).trans ?_
    | with_reducible refine (State.softReset_spine ..).trans ?_ | simp only [spine_mk, spine_eta] | dsimp only | split
theorem doWatchdogExpiry_spine (t : Nat) (s0 : State) : (doWatchdogExpiry t s0).spine = (s0.at t).spine := by
  unfold doWatchdogExpiry; repeat' first
    | with_reducible rfl | with_reducible refine ite_keep (fun _ => ?_) (fun _ => ?_) | with_reducible refine foldl_keep (fun _ _ => ?_) ?_
    | with_reducible refine dite_keep (fun _ => ?_) (fun _ => ?_) | with_reducible refine (State.at_spine ..).trans ?_
    | with_reducible refine (State.softReset_spine ..).trans ?_ | simp only [spine_mk, spine_eta] | dsimp only | split
theorem doWatchdogKick_spine (t : Nat) (s : State) : (doWatchdogKick t s).spine = (s.at t).spine := by
  unfold doWatchdogKick; repeat' first
    | with_reducible rfl | with_reducible refine ite_keep (fun _ => ?_) (fun _ => ?_) | with_reducible refine foldl_keep (fun _ _ => ?_) ?_
    | with_reducible refine dite_keep (fun _ => ?_) (fun _ => ?_) | with_reducible refine (State.modPwr_spine ..).trans ?_
    | with_reducible refine (State.at_spine ..).trans ?_ | simp only [spine_mk, spine_eta] | dsimp only | split
theorem State.restore_spine (s : State) (took : Nat) : (State.restore s took).spine = s.spine := by
  unfold State.restore; repeat' first
    | with_reducible rfl | with_reducible refine ite_keep (fun _ => ?_) (fun _ => ?_) | with_reducible refine foldl_keep (fun _ _ => ?_) ?_
    | with_reducible refine dite_keep (fun _ => ?_) (fun _ => ?_) | with_reducible refine (State.notify_spine ..).trans ?_
    | with_reducible refine (State.setAll_spine ..).trans ?_ | with_reducible refine (State.writeBack_spine ..).trans ?_
    | simp only [spine_mk, spine_eta] | dsimp only | split
theorem doManagementBootDone_spine (took : Nat) (t : Nat) (s0 : State) : (doManagementBootDone took t s0).spine = (s0.at t).spine := by
  unfold doManagementBootDone; repeat' first
    | with_reducible rfl | with_reducible refine ite_keep (fun _ => ?_) (fun _ => ?_) | with_reducible refine foldl_keep (fun _ _ => ?_) ?_
    | with_reducible refine dite_keep (fun _ => ?_) (fun _ => ?_) | with_reducible refine (State.at_spine ..).trans ?_
    | with_reducible refine (State.restore_spine ..).trans ?_ | with_reducible refine (State.askRegions_spine ..).trans ?_
    | with_reducible refine (State.modPwr_spine ..).trans ?_ | with_reducible refine (State.set_spine ..).trans ?_
    | simp only [spine_mk, spine_eta] | dsimp only | split | exact rfl
theorem doRegionPowerUpDone_spine (g : Nat) (t : Nat) (s0 : State) : (doRegionPowerUpDone g t s0).spine = (s0.at t).spine := by
  unfold doRegionPowerUpDone; repeat' first
    | with_reducible rfl | with_reducible refine ite_keep (fun _ => ?_) (fun _ => ?_) | with_reducible refine foldl_keep (fun _ _ => ?_) ?_
    | with_reducible refine dite_keep (fun _ => ?_) (fun _ => ?_) | with_reducible refine (State.at_spine ..).trans ?_
    | with_reducible refine (State.regionUp_spine ..).trans ?_ | with_reducible refine (State.modPwr_spine ..).trans ?_
    | with_reducible refine (State.setAll_spine ..).trans ?_ | simp only [spine_mk, spine_eta] | dsimp only | split | exact rfl
theorem doReady_spine (t : Nat) (s0 : State) : (doReady t s0).spine = (s0.at t).spine := by
  unfold doReady; repeat' first
    | with_reducible rfl | with_reducible refine ite_keep (fun _ => ?_) (fun _ => ?_) | with_reducible refine foldl_keep (fun _ _ => ?_) ?_
    | with_reducible refine dite_keep (fun _ => ?_) (fun _ => ?_) | with_reducible refine (State.at_spine ..).trans ?_
    | with_reducible refine (State.startLinks_spine ..).trans ?_ | with_reducible refine (State.setAll_spine ..).trans ?_
    | with_reducible refine (State.quarterChange_spine ..).trans ?_ | simp only [spine_mk, spine_eta] | dsimp only | split | exact rfl
theorem State.flushCells_spine (s : State) (f : Nat → Bool) : (State.flushCells s f).spine = s.spine := by
  unfold State.flushCells; repeat' first
    | with_reducible rfl | with_reducible refine ite_keep (fun _ => ?_) (fun _ => ?_) | with_reducible refine foldl_keep (fun _ _ => ?_) ?_
    | with_reducible refine dite_keep (fun _ => ?_) (fun _ => ?_) | with_reducible refine (State.flush_spine ..).trans ?_
    | with_reducible refine (State.setAll_spine ..).trans ?_ | with_reducible refine (State.dropLink_spine ..).trans ?_
    | simp only [spine_mk, spine_eta] | dsimp only | split | exact rfl
theorem startBlockReset_spine (n : Nat) (s : State) : (startBlockReset n s).spine = s.spine := by
  unfold startBlockReset; repeat' first
    | with_reducible refine (State.flushCells_spine ..).trans ?_ | with_reducible refine (State.dropLatch_spine ..).trans ?_
    | with_reducible refine (State.set_spine ..).trans ?_ | with_reducible refine (State.writeBack_spine ..).trans ?_
    | with_reducible refine (State.markRetired_spine ..).trans ?_ | with_reducible refine (State.setModes_spine ..).trans ?_
    | with_reducible refine (State.clearCells_spine ..).trans ?_ | simp only [spine_mk, spine_eta]
theorem resetBlock_spine (src : Sys2Proof.Sess) (n : Nat) (s : State) : (resetBlock src n s).1.spine = s.spine := by
  unfold resetBlock; repeat' first
    | with_reducible rfl | with_reducible refine ite_keep (fun _ => ?_) (fun _ => ?_) | with_reducible refine foldl_keep (fun _ _ => ?_) ?_
    | with_reducible refine dite_keep (fun _ => ?_) (fun _ => ?_) | with_reducible refine (startBlockReset_spine ..).trans ?_
    | simp only [spine_mk, spine_eta] | dsimp only | split | exact rfl
theorem State.bgReset_spine {s : State} {src : Sess} {p : Principal} {opcode target : Nat} {act : State → State × Nat} (h : ∀ u, (act u).1.spine = u.spine) :
    (s.bgReset src p opcode target act).spine = s.spine := by
  unfold State.bgReset; repeat' first
    | exact State.startBg_spine h | exact State.respond_spine .. | split
theorem doBlockResetDone_spine (n : Nat) (t : Nat) (s0 : State) : (doBlockResetDone n t s0).spine = (s0.at t).spine := by
  unfold doBlockResetDone; repeat' first
    | with_reducible rfl | with_reducible refine ite_keep (fun _ => ?_) (fun _ => ?_) | with_reducible refine foldl_keep (fun _ _ => ?_) ?_
    | with_reducible refine dite_keep (fun _ => ?_) (fun _ => ?_) | with_reducible refine (State.endBgOn_spine ..).trans ?_
    | with_reducible refine (State.at_spine ..).trans ?_ | with_reducible refine (State.startLinks_spine ..).trans ?_
    | with_reducible refine (State.showPresence_spine ..).trans ?_ | with_reducible refine (State.bump_spine ..).trans ?_
    | with_reducible refine (State.set_spine ..).trans ?_ | simp only [spine_mk, spine_eta] | dsimp only | split
theorem resetRegion_spine (g : Nat) (s : State) : (resetRegion g s).1.spine = s.spine := by
  unfold resetRegion; repeat' first
    | with_reducible rfl | with_reducible refine ite_keep (fun _ => ?_) (fun _ => ?_) | with_reducible refine foldl_keep (fun _ _ => ?_) ?_
    | with_reducible refine dite_keep (fun _ => ?_) (fun _ => ?_) | with_reducible refine (State.loadSlices_spine ..).trans ?_
    | with_reducible refine (State.wipeRegion_spine ..).trans ?_ | with_reducible refine (State.endJobs_spine ..).trans ?_
    | with_reducible refine (State.flushCells_spine ..).trans ?_ | with_reducible refine (State.modPwr_spine ..).trans ?_
    | with_reducible refine (State.setAll_spine ..).trans ?_ | with_reducible refine (State.writeBack_spine ..).trans ?_
    | simp only [spine_mk, spine_eta] | dsimp only | split | exact rfl
theorem doRegionResetDone_spine (g : Nat) (t : Nat) (s0 : State) : (doRegionResetDone g t s0).spine = (s0.at t).spine := by
  unfold doRegionResetDone; repeat' first
    | with_reducible rfl | with_reducible refine ite_keep (fun _ => ?_) (fun _ => ?_) | with_reducible refine foldl_keep (fun _ _ => ?_) ?_
    | with_reducible refine dite_keep (fun _ => ?_) (fun _ => ?_) | with_reducible refine (State.endBgOn_spine ..).trans ?_
    | with_reducible refine (State.at_spine ..).trans ?_ | with_reducible refine (State.startLinks_spine ..).trans ?_
    | with_reducible refine (State.showPresence_spine ..).trans ?_ | with_reducible refine (State.modCpy_spine ..).trans ?_
    | with_reducible refine (State.modPwr_spine ..).trans ?_ | with_reducible refine (State.setAll_spine ..).trans ?_
    | with_reducible refine ite_keep1 (fun _ => ?_) (fun _ => ?_) | with_reducible refine spine_of ?_ ?_ | simp only [spine_mk, spine_eta]
    | dsimp only | split | exact rfl
theorem doPortReset_spine (p : Nat) (t : Nat) (s0 : State) : (doPortReset p t s0).spine = (s0.at t).spine := by
  unfold doPortReset; repeat' first
    | with_reducible rfl | with_reducible refine ite_keep (fun _ => ?_) (fun _ => ?_) | with_reducible refine foldl_keep (fun _ _ => ?_) ?_
    | with_reducible refine dite_keep (fun _ => ?_) (fun _ => ?_) | with_reducible refine (State.at_spine ..).trans ?_
    | with_reducible refine (State.fullReset_spine ..).trans ?_ | simp only [spine_mk, spine_eta] | dsimp only | split | exact rfl
theorem retainAccess_spine (w : Option Nat) (s : State) : (retainAccess w s).2.spine = s.spine := by
  unfold retainAccess; repeat' first
    | with_reducible rfl | with_reducible refine ite_keep (fun _ => ?_) (fun _ => ?_) | with_reducible refine foldl_keep (fun _ _ => ?_) ?_
    | with_reducible refine dite_keep (fun _ => ?_) (fun _ => ?_) | with_reducible refine (State.modNv_spine ..).trans ?_
    | with_reducible refine (State.wrapAdd_spine ..).trans ?_ | simp only [spine_mk, spine_eta] | dsimp only | split
theorem doSafeDrainEnd_spine (t : Nat) (s0 : State) : (doSafeDrainEnd t s0).spine = (s0.at t).spine := by
  unfold doSafeDrainEnd; repeat' first
    | with_reducible rfl | with_reducible refine ite_keep (fun _ => ?_) (fun _ => ?_) | with_reducible refine foldl_keep (fun _ _ => ?_) ?_
    | with_reducible refine dite_keep (fun _ => ?_) (fun _ => ?_) | with_reducible refine (State.at_spine ..).trans ?_
    | with_reducible refine (State.emit_spine ..).trans ?_ | with_reducible refine (State.clearHomeOver_spine ..).trans ?_
    | with_reducible refine (State.modHome_spine ..).trans ?_ | with_reducible refine (State.emptyCore_spine ..).trans ?_
    | with_reducible refine (State.endJobs_spine ..).trans ?_ | with_reducible refine (State.setAll_spine ..).trans ?_
    | with_reducible refine (State.dropLink_spine ..).trans ?_ | with_reducible refine (State.modLnk_spine ..).trans ?_
    | with_reducible refine (State.set_spine ..).trans ?_ | with_reducible refine ite_keep1 (fun _ => ?_) (fun _ => ?_)
    | with_reducible refine spine_of ?_ ?_ | simp only [spine_mk, spine_eta] | dsimp only | split | exact rfl
theorem State.safeReset_spine (s : State) : (State.safeReset s).spine = s.spine := by
  unfold State.safeReset; repeat' first
    | with_reducible rfl | with_reducible refine ite_keep (fun _ => ?_) (fun _ => ?_) | with_reducible refine foldl_keep (fun _ _ => ?_) ?_
    | with_reducible refine dite_keep (fun _ => ?_) (fun _ => ?_) | with_reducible refine (State.modLnk_spine ..).trans ?_
    | with_reducible refine (State.wipeRegion_spine ..).trans ?_ | with_reducible refine (State.modCpy_spine ..).trans ?_
    | with_reducible refine (State.modHome_spine ..).trans ?_ | with_reducible refine (State.modLod_spine ..).trans ?_
    | with_reducible refine (State.bump_spine ..).trans ?_ | with_reducible refine (State.setAll_spine ..).trans ?_
    | with_reducible refine (State.clearBit_spine ..).trans ?_ | with_reducible refine (State.roseUp_spine ..).trans ?_
    | with_reducible refine (State.modChtu_spine ..).trans ?_ | with_reducible refine (State.regionUp_spine ..).trans ?_
    | with_reducible refine (State.writeBack_spine ..).trans ?_ | with_reducible refine (State.startLinks_spine ..).trans ?_
    | with_reducible refine (State.bringUp_spine ..).trans ?_ | with_reducible refine (State.set_spine ..).trans ?_
    | simp only [spine_mk, spine_eta] | dsimp only | split | exact rfl
theorem exitSafe_spine (s : State) : (exitSafe s).1.spine = s.spine := by
  unfold exitSafe; repeat' first
    | with_reducible rfl | with_reducible refine ite_keep (fun _ => ?_) (fun _ => ?_) | with_reducible refine foldl_keep (fun _ _ => ?_) ?_
    | with_reducible refine dite_keep (fun _ => ?_) (fun _ => ?_) | with_reducible refine (State.safeReset_spine ..).trans ?_
    | simp only [spine_mk, spine_eta] | dsimp only | split | exact rfl
theorem setFreeze_spine (b : Bool) (s : State) : (setFreeze b s).spine = s.spine := by
  unfold setFreeze; repeat' first
    | with_reducible rfl | with_reducible refine ite_keep (fun _ => ?_) (fun _ => ?_) | with_reducible refine foldl_keep (fun _ _ => ?_) ?_
    | with_reducible refine dite_keep (fun _ => ?_) (fun _ => ?_) | with_reducible refine (State.setFlag_spine ..).trans ?_
    | simp only [spine_mk, spine_eta] | dsimp only | split
theorem State.takeSnapshot_spine (s : State) (byPeriod : Bool) : (State.takeSnapshot s byPeriod).spine = s.spine := by
  unfold State.takeSnapshot; repeat' first
    | with_reducible rfl | with_reducible refine ite_keep (fun _ => ?_) (fun _ => ?_) | with_reducible refine foldl_keep (fun _ _ => ?_) ?_
    | with_reducible refine dite_keep (fun _ => ?_) (fun _ => ?_) | with_reducible refine (State.modTal_spine ..).trans ?_
    | with_reducible refine (State.set_spine ..).trans ?_ | simp only [spine_mk, spine_eta] | dsimp only | split
theorem State.trigger_spine (s : State) (byPeriod : Bool) : (State.trigger s byPeriod).spine = s.spine := by
  unfold State.trigger; repeat' first
    | with_reducible rfl | with_reducible refine ite_keep (fun _ => ?_) (fun _ => ?_) | with_reducible refine foldl_keep (fun _ _ => ?_) ?_
    | with_reducible refine dite_keep (fun _ => ?_) (fun _ => ?_) | with_reducible refine (State.bump_spine ..).trans ?_
    | with_reducible refine (State.takeSnapshot_spine ..).trans ?_ | simp only [spine_mk, spine_eta] | dsimp only | split
theorem doTallyPeriod_spine (t : Nat) (s0 : State) : (doTallyPeriod t s0).spine = (s0.at t).spine := by
  unfold doTallyPeriod; repeat' first
    | with_reducible rfl | with_reducible refine ite_keep (fun _ => ?_) (fun _ => ?_) | with_reducible refine foldl_keep (fun _ _ => ?_) ?_
    | with_reducible refine dite_keep (fun _ => ?_) (fun _ => ?_) | with_reducible refine (State.at_spine ..).trans ?_
    | with_reducible refine (State.modTal_spine ..).trans ?_ | with_reducible refine (State.trigger_spine ..).trans ?_
    | simp only [spine_mk, spine_eta] | dsimp only | split
theorem State.flip_spine (s : State) : (State.flip s).spine = s.spine := by
  unfold State.flip; repeat' first
    | with_reducible rfl | with_reducible refine ite_keep (fun _ => ?_) (fun _ => ?_) | with_reducible refine foldl_keep (fun _ _ => ?_) ?_
    | with_reducible refine dite_keep (fun _ => ?_) (fun _ => ?_) | with_reducible refine (State.modTal_spine ..).trans ?_
    | with_reducible refine (State.wrapAdd_spine ..).trans ?_ | with_reducible refine (State.set_spine ..).trans ?_
    | simp only [spine_mk, spine_eta] | dsimp only | split
theorem doTallyBufferFlip_spine (t : Nat) (s0 : State) : (doTallyBufferFlip t s0).spine = (s0.at t).spine := by
  unfold doTallyBufferFlip; repeat' first
    | with_reducible rfl | with_reducible refine ite_keep (fun _ => ?_) (fun _ => ?_) | with_reducible refine foldl_keep (fun _ _ => ?_) ?_
    | with_reducible refine dite_keep (fun _ => ?_) (fun _ => ?_) | with_reducible refine (State.at_spine ..).trans ?_
    | with_reducible refine (State.modTal_spine ..).trans ?_ | with_reducible refine (State.set_spine ..).trans ?_
    | with_reducible refine (State.flip_spine ..).trans ?_ | simp only [spine_mk, spine_eta] | dsimp only | split
theorem releaseHold_spine (s : State) : (releaseHold s).spine = s.spine := by
  unfold releaseHold; repeat' first
    | with_reducible rfl | with_reducible refine ite_keep (fun _ => ?_) (fun _ => ?_) | with_reducible refine foldl_keep (fun _ _ => ?_) ?_
    | with_reducible refine dite_keep (fun _ => ?_) (fun _ => ?_) | with_reducible refine (State.set_spine ..).trans ?_
    | with_reducible refine (State.flip_spine ..).trans ?_ | simp only [spine_mk, spine_eta] | dsimp only | split
theorem writeTalCtl_spine (v : Nat) (s : State) : (writeTalCtl v s).1.spine = s.spine := by
  unfold writeTalCtl; repeat' first
    | with_reducible rfl | with_reducible refine ite_keep (fun _ => ?_) (fun _ => ?_) | with_reducible refine foldl_keep (fun _ _ => ?_) ?_
    | with_reducible refine dite_keep (fun _ => ?_) (fun _ => ?_) | with_reducible refine (setFreeze_spine ..).trans ?_
    | with_reducible refine (State.set_spine ..).trans ?_ | with_reducible refine (releaseHold_spine ..).trans ?_
    | with_reducible refine (State.modTal_spine ..).trans ?_ | with_reducible refine (State.trigger_spine ..).trans ?_
    | simp only [spine_mk, spine_eta] | dsimp only | split
theorem chartCommand_spine (cmd : Nat) (src : Sys2Proof.Sess) (s : State) : (chartCommand cmd src s).spine = s.spine := by
  unfold chartCommand; repeat' first
    | with_reducible rfl | with_reducible refine ite_keep (fun _ => ?_) (fun _ => ?_) | with_reducible refine foldl_keep (fun _ _ => ?_) ?_
    | with_reducible refine dite_keep (fun _ => ?_) (fun _ => ?_) | with_reducible refine (State.regCommand_spine (fun _ _ => ?_)).trans ?_
    | with_reducible refine (State.chartCmd_spine ..).trans ?_ | simp only [spine_mk, spine_eta] | dsimp only | split | exact rfl
theorem doQuiesceDrained_spine (t : Nat) (s0 : State) : (doQuiesceDrained t s0).spine = (s0.at t).spine := by
  unfold doQuiesceDrained; repeat' first
    | with_reducible rfl | with_reducible refine ite_keep (fun _ => ?_) (fun _ => ?_) | with_reducible refine foldl_keep (fun _ _ => ?_) ?_
    | with_reducible refine dite_keep (fun _ => ?_) (fun _ => ?_) | with_reducible refine (State.at_spine ..).trans ?_
    | with_reducible refine (State.quiesceEnd_spine ..).trans ?_ | simp only [spine_mk, spine_eta] | dsimp only | split | exact rfl
theorem doQuiesceWaitExpired_spine (t : Nat) (s0 : State) : (doQuiesceWaitExpired t s0).spine = (s0.at t).spine := by
  unfold doQuiesceWaitExpired; repeat' first
    | with_reducible rfl | with_reducible refine ite_keep (fun _ => ?_) (fun _ => ?_) | with_reducible refine foldl_keep (fun _ _ => ?_) ?_
    | with_reducible refine dite_keep (fun _ => ?_) (fun _ => ?_) | with_reducible refine (State.at_spine ..).trans ?_
    | with_reducible refine (State.quiesceEnd_spine ..).trans ?_ | with_reducible refine (State.flushAll_spine ..).trans ?_
    | simp only [spine_mk, spine_eta] | dsimp only | split | exact rfl
theorem doChartChecksDone_spine (t : Nat) (s0 : State) : (doChartChecksDone t s0).spine = (s0.at t).spine := by
  unfold doChartChecksDone; repeat' first
    | with_reducible rfl | with_reducible refine ite_keep (fun _ => ?_) (fun _ => ?_) | with_reducible refine foldl_keep (fun _ _ => ?_) ?_
    | with_reducible refine dite_keep (fun _ => ?_) (fun _ => ?_) | with_reducible refine (State.at_spine ..).trans ?_
    | with_reducible refine (State.chartChecked_spine ..).trans ?_ | simp only [spine_mk, spine_eta] | dsimp only | split | exact rfl
theorem doChartLeaveWaitExpired_spine (t : Nat) (s0 : State) : (doChartLeaveWaitExpired t s0).spine = (s0.at t).spine := by
  unfold doChartLeaveWaitExpired; repeat' first
    | with_reducible rfl | with_reducible refine ite_keep (fun _ => ?_) (fun _ => ?_) | with_reducible refine foldl_keep (fun _ _ => ?_) ?_
    | with_reducible refine dite_keep (fun _ => ?_) (fun _ => ?_) | with_reducible refine (State.at_spine ..).trans ?_
    | with_reducible refine (State.endChart_spine ..).trans ?_ | with_reducible refine (State.withdrawFor_spine ..).trans ?_
    | simp only [spine_mk, spine_eta] | dsimp only | split
theorem doChartCommitDone_spine (t : Nat) (s0 : State) : ∃ g, (doChartCommitDone t s0).spine = (s0.pending, (s0.at t).now, max s0.nv.floor g) := by
  have k : (s0.at t).spine = (s0.pending, (s0.at t).now, s0.nv.floor) := by unfold State.at; split <;> rfl
  have e : ∀ o, ((s0.at t).pending, (s0.at t).now, max (s0.at t).nv.floor o) = (s0.pending, (s0.at t).now, max s0.nv.floor o) := by intro o; unfold State.at; split <;> rfl
  have z : (s0.pending, (s0.at t).now, s0.nv.floor) = (s0.pending, (s0.at t).now, max s0.nv.floor 0) := by rw [Nat.max_zero]
  unfold doChartCommitDone; dsimp only
  split
  · rename_i o _
    split
    · exact ⟨0, k.trans z⟩
    · split
      · exact ⟨o.gen, (State.applyFull_spine ..).trans ((State.releaseFor_spine ..).trans ((State.commitImage_spine ..).trans (e _)))⟩
      · exact ⟨o.gen, (State.endChart_spine ..).trans ((State.releaseFor_spine ..).trans ((State.commitImage_spine ..).trans (e _)))⟩
      · exact ⟨o.gen, (State.beginApply_spine ..).trans ((State.commitAmendment_spine ..).trans (e _))⟩
      · exact ⟨0, k.trans z⟩
  · exact ⟨0, k.trans z⟩
theorem doAmendmentApplyDone_spine (t : Nat) (s0 : State) : (doAmendmentApplyDone t s0).spine = (s0.at t).spine := by
  unfold doAmendmentApplyDone; repeat' first
    | with_reducible rfl | with_reducible refine ite_keep (fun _ => ?_) (fun _ => ?_) | with_reducible refine foldl_keep (fun _ _ => ?_) ?_
    | with_reducible refine dite_keep (fun _ => ?_) (fun _ => ?_) | with_reducible refine (State.at_spine ..).trans ?_
    | with_reducible refine (State.endApply_spine ..).trans ?_ | simp only [spine_mk, spine_eta] | dsimp only | split | exact rfl
theorem writeBuf_spine (off : Nat) (w : Nat) (s : State) : (writeBuf off w s).1.spine = s.spine := by
  unfold writeBuf; repeat' first
    | with_reducible rfl | with_reducible refine ite_keep (fun _ => ?_) (fun _ => ?_) | with_reducible refine foldl_keep (fun _ _ => ?_) ?_
    | with_reducible refine dite_keep (fun _ => ?_) (fun _ => ?_) | with_reducible refine (State.modChtu_spine ..).trans ?_
    | simp only [spine_mk, spine_eta] | dsimp only | split
theorem readLog_spine (s : State) : (readLog s).2.spine = s.spine := by
  unfold readLog; repeat' first
    | with_reducible rfl | with_reducible refine ite_keep (fun _ => ?_) (fun _ => ?_) | with_reducible refine foldl_keep (fun _ _ => ?_) ?_
    | with_reducible refine dite_keep (fun _ => ?_) (fun _ => ?_) | with_reducible refine (State.modChtu_spine ..).trans ?_
    | with_reducible refine (State.set_spine ..).trans ?_ | simp only [spine_mk, spine_eta] | dsimp only | split
theorem doChartStartup_spine (t : Nat) (s0 : State) : (doChartStartup t s0).spine = (s0.at t).spine := by
  unfold doChartStartup; repeat' first
    | with_reducible rfl | with_reducible refine ite_keep (fun _ => ?_) (fun _ => ?_) | with_reducible refine foldl_keep (fun _ _ => ?_) ?_
    | with_reducible refine dite_keep (fun _ => ?_) (fun _ => ?_) | with_reducible refine (State.at_spine ..).trans ?_
    | with_reducible refine (State.startLinks_spine ..).trans ?_ | with_reducible refine (State.set_spine ..).trans ?_
    | with_reducible refine (State.bringUp_spine ..).trans ?_ | with_reducible refine (State.attachRegions_spine ..).trans ?_
    | with_reducible refine (State.startChartUp_spine ..).trans ?_ | simp only [spine_mk, spine_eta] | dsimp only | split | exact rfl
theorem State.takeReading_spine (s : State) (r : Sys2Proof.TempReading) : (State.takeReading s r).spine = s.spine := by
  unfold State.takeReading; repeat' first
    | with_reducible rfl | with_reducible refine ite_keep (fun _ => ?_) (fun _ => ?_) | with_reducible refine foldl_keep (fun _ _ => ?_) ?_
    | with_reducible refine dite_keep (fun _ => ?_) (fun _ => ?_) | with_reducible refine (State.modThm_spine ..).trans ?_
    | with_reducible refine (State.setAll_spine ..).trans ?_ | with_reducible refine (State.set_spine ..).trans ?_
    | simp only [spine_mk, spine_eta] | dsimp only | split
theorem State.staleSensors_spine (s : State) : (State.staleSensors s).spine = s.spine := by
  unfold State.staleSensors; repeat' first
    | with_reducible rfl | with_reducible refine ite_keep (fun _ => ?_) (fun _ => ?_) | with_reducible refine foldl_keep (fun _ _ => ?_) ?_
    | with_reducible refine dite_keep (fun _ => ?_) (fun _ => ?_) | with_reducible refine (State.set_spine ..).trans ?_
    | simp only [spine_mk, spine_eta] | dsimp only | split
theorem State.showTmax_spine (s : State) : (State.showTmax s).spine = s.spine := by
  unfold State.showTmax; repeat' first
    | with_reducible rfl | with_reducible refine ite_keep (fun _ => ?_) (fun _ => ?_) | with_reducible refine foldl_keep (fun _ _ => ?_) ?_
    | with_reducible refine dite_keep (fun _ => ?_) (fun _ => ?_) | with_reducible refine (State.setAll_spine ..).trans ?_
    | simp only [spine_mk, spine_eta] | dsimp only | split
theorem State.raiseThermal_spine (s : State) (stack : Bool) : (State.raiseThermal s stack).spine = s.spine := by
  unfold State.raiseThermal; repeat' first
    | with_reducible rfl | with_reducible refine ite_keep (fun _ => ?_) (fun _ => ?_) | with_reducible refine foldl_keep (fun _ _ => ?_) ?_
    | with_reducible refine dite_keep (fun _ => ?_) (fun _ => ?_) | with_reducible refine (State.modThm_spine ..).trans ?_
    | with_reducible refine (State.notify_spine ..).trans ?_ | simp only [spine_mk, spine_eta] | dsimp only | split
theorem State.throttle_spine (s : State) : (State.throttle s).spine = s.spine := by
  unfold State.throttle; repeat' first
    | with_reducible rfl | with_reducible refine ite_keep (fun _ => ?_) (fun _ => ?_) | with_reducible refine foldl_keep (fun _ _ => ?_) ?_
    | with_reducible refine dite_keep (fun _ => ?_) (fun _ => ?_) | with_reducible refine (State.bump_spine ..).trans ?_
    | with_reducible refine (State.set_spine ..).trans ?_ | with_reducible refine (State.modThm_spine ..).trans ?_
    | simp only [spine_mk, spine_eta] | dsimp only | split
theorem State.overheat_spine (s : State) (was : Int) : (State.overheat s was).spine = s.spine := by
  unfold State.overheat; repeat' first
    | with_reducible rfl | with_reducible refine ite_keep (fun _ => ?_) (fun _ => ?_) | with_reducible refine foldl_keep (fun _ _ => ?_) ?_
    | with_reducible refine dite_keep (fun _ => ?_) (fun _ => ?_) | with_reducible refine (State.reportAt_spine ..).trans ?_
    | with_reducible refine (State.set_spine ..).trans ?_ | simp only [spine_mk, spine_eta] | dsimp only | split | exact rfl
theorem State.thermalCut_spine (s : State) : (State.thermalCut s).spine = s.spine := by
  unfold State.thermalCut; repeat' first
    | with_reducible rfl | with_reducible refine ite_keep (fun _ => ?_) (fun _ => ?_) | with_reducible refine foldl_keep (fun _ _ => ?_) ?_
    | with_reducible refine dite_keep (fun _ => ?_) (fun _ => ?_) | with_reducible refine (State.set_spine ..).trans ?_
    | with_reducible refine (State.endJobs_spine ..).trans ?_ | with_reducible refine (State.modLvc_spine ..).trans ?_
    | with_reducible refine (State.modPwr_spine ..).trans ?_ | with_reducible refine (State.roseOff_spine ..).trans ?_
    | with_reducible refine (State.regionOff_spine ..).trans ?_ | simp only [spine_mk, spine_eta] | dsimp only | split | exact rfl
theorem State.heat_spine (s : State) (was : Int) (stack : Bool) : (State.heat s was stack).spine = s.spine := by
  unfold State.heat; repeat' first
    | with_reducible rfl | with_reducible refine ite_keep (fun _ => ?_) (fun _ => ?_) | with_reducible refine foldl_keep (fun _ _ => ?_) ?_
    | with_reducible refine dite_keep (fun _ => ?_) (fun _ => ?_) | with_reducible refine (State.overheat_spine ..).trans ?_
    | with_reducible refine (State.throttle_spine ..).trans ?_ | with_reducible refine (State.raiseThermal_spine ..).trans ?_
    | with_reducible refine (State.showTmax_spine ..).trans ?_ | with_reducible refine (State.thermalCut_spine ..).trans ?_
    | simp only [spine_mk, spine_eta] | dsimp only | split | exact rfl
theorem doTempSample_spine (readings : List Sys2Proof.TempReading) (t : Nat) (s0 : State) :
    (doTempSample readings t s0).spine = (s0.at t).spine := by
  unfold doTempSample; repeat' first
    | with_reducible rfl | with_reducible refine ite_keep (fun _ => ?_) (fun _ => ?_) | with_reducible refine foldl_keep (fun _ _ => ?_) ?_
    | with_reducible refine dite_keep (fun _ => ?_) (fun _ => ?_) | with_reducible refine (State.at_spine ..).trans ?_
    | with_reducible refine (State.staleSensors_spine ..).trans ?_ | with_reducible refine (State.takeReading_spine ..).trans ?_
    | with_reducible refine (State.heat_spine ..).trans ?_ | simp only [spine_mk, spine_eta] | dsimp only | split | exact rfl
theorem doSensorBlind_spine (d : Nat) (t : Nat) (s0 : State) : (doSensorBlind d t s0).spine = (s0.at t).spine := by
  unfold doSensorBlind; repeat' first
    | with_reducible rfl | with_reducible refine ite_keep (fun _ => ?_) (fun _ => ?_) | with_reducible refine foldl_keep (fun _ _ => ?_) ?_
    | with_reducible refine dite_keep (fun _ => ?_) (fun _ => ?_) | with_reducible refine (State.at_spine ..).trans ?_
    | with_reducible refine (State.heat_spine ..).trans ?_ | with_reducible refine (State.notify_spine ..).trans ?_
    | with_reducible refine (State.reportAt_spine ..).trans ?_ | with_reducible refine (State.modThm_spine ..).trans ?_
    | with_reducible refine (State.setAll_spine ..).trans ?_ | simp only [spine_mk, spine_eta] | dsimp only | split | exact rfl
theorem doThrottleEnd_spine (t : Nat) (s0 : State) : (doThrottleEnd t s0).spine = (s0.at t).spine := by
  unfold doThrottleEnd; repeat' first
    | with_reducible rfl | with_reducible refine ite_keep (fun _ => ?_) (fun _ => ?_) | with_reducible refine foldl_keep (fun _ _ => ?_) ?_
    | with_reducible refine dite_keep (fun _ => ?_) (fun _ => ?_) | with_reducible refine (State.at_spine ..).trans ?_
    | with_reducible refine (State.set_spine ..).trans ?_ | simp only [spine_mk, spine_eta] | dsimp only | split
theorem clearPeak_spine (s : State) : (clearPeak s).spine = s.spine := by
  unfold clearPeak; repeat' first
    | with_reducible rfl | with_reducible refine ite_keep (fun _ => ?_) (fun _ => ?_) | with_reducible refine foldl_keep (fun _ _ => ?_) ?_
    | with_reducible refine dite_keep (fun _ => ?_) (fun _ => ?_) | with_reducible refine (State.set_spine ..).trans ?_
    | simp only [spine_mk, spine_eta] | dsimp only | split
theorem State.readWord_spine (s : State) (p : Principal) (a : Nat) : (State.readWord s p a).2.spine = s.spine := by
  unfold State.readWord; repeat' first
    | with_reducible rfl | with_reducible refine ite_keep (fun _ => ?_) (fun _ => ?_) | with_reducible refine foldl_keep (fun _ _ => ?_) ?_
    | with_reducible refine dite_keep (fun _ => ?_) (fun _ => ?_) | with_reducible refine (readLog_spine ..).trans ?_
    | with_reducible refine (retainAccess_spine ..).trans ?_ | simp only [spine_mk, spine_eta] | dsimp only | split
theorem doHomeAdmission_spine (p : Nat) (fc : Sys2Proof.FcClass) (g : Nat) (t : Nat) (s0 : State) :
    (doHomeAdmission p fc g t s0).spine = (s0.at t).spine := by
  unfold doHomeAdmission; repeat' first
    | with_reducible rfl | with_reducible refine ite_keep (fun _ => ?_) (fun _ => ?_) | with_reducible refine foldl_keep (fun _ _ => ?_) ?_
    | with_reducible refine dite_keep (fun _ => ?_) (fun _ => ?_) | with_reducible refine (State.at_spine ..).trans ?_
    | with_reducible refine (State.keepShadow_spine ..).trans ?_ | with_reducible refine (State.dropStaged_spine ..).trans ?_
    | with_reducible refine (State.count_spine ..).trans ?_ | with_reducible refine (State.homeReply_spine ..).trans ?_
    | with_reducible refine ite_keep1 (fun _ => ?_) (fun _ => ?_) | with_reducible refine spine_of ?_ ?_ | simp only [spine_mk, spine_eta]
    | dsimp only | split | exact rfl
theorem State.captureWrite_spine (s : State) (t : Txn) (x : Snoop) : (State.captureWrite s t x).spine = s.spine := by
  unfold State.captureWrite; repeat' first
    | with_reducible rfl | with_reducible refine ite_keep (fun _ => ?_) (fun _ => ?_) | with_reducible refine foldl_keep (fun _ _ => ?_) ?_
    | with_reducible refine dite_keep (fun _ => ?_) (fun _ => ?_) | with_reducible refine (State.setTxn_spine ..).trans ?_
    | with_reducible refine (State.answerTxn_spine ..).trans ?_ | simp only [spine_mk, spine_eta] | dsimp only | split
theorem doActivate_spine (op : Sys2Proof.CohOp) (line : Nat) (t : Nat) (s0 : State) :
    (doActivate op line t s0).spine = (s0.at t).spine := by
  unfold doActivate; repeat' first
    | with_reducible rfl | with_reducible refine ite_keep (fun _ => ?_) (fun _ => ?_) | with_reducible refine foldl_keep (fun _ _ => ?_) ?_
    | with_reducible refine dite_keep (fun _ => ?_) (fun _ => ?_) | with_reducible refine (State.at_spine ..).trans ?_
    | with_reducible refine (State.settle_spine ..).trans ?_ | with_reducible refine (State.captureWrite_spine ..).trans ?_
    | with_reducible refine (State.startTxn_spine ..).trans ?_ | simp only [spine_mk, spine_eta] | dsimp only | split | exact rfl
theorem doSnoopIn_spine (p : Nat) (tag : Nat) (op : Sys2Proof.SnpOp) (port : Nat) (line : Nat) (t : Nat) (s0 : State) :
    (doSnoopIn p tag op port line t s0).spine = (s0.at t).spine := by
  unfold doSnoopIn; repeat' first
    | with_reducible rfl | with_reducible refine ite_keep (fun _ => ?_) (fun _ => ?_) | with_reducible refine foldl_keep (fun _ _ => ?_) ?_
    | with_reducible refine dite_keep (fun _ => ?_) (fun _ => ?_) | with_reducible refine (State.at_spine ..).trans ?_
    | with_reducible refine (State.emit_spine ..).trans ?_ | with_reducible refine (State.modHome_spine ..).trans ?_
    | with_reducible refine (State.bump_spine ..).trans ?_ | simp only [spine_mk, spine_eta] | dsimp only | split
theorem State.ackConflicts_spine (s : State) (p : Nat) (line : Nat) : (State.ackConflicts s p line).spine = s.spine := by
  unfold State.ackConflicts; repeat' first
    | with_reducible rfl | with_reducible refine ite_keep (fun _ => ?_) (fun _ => ?_) | with_reducible refine foldl_keep (fun _ _ => ?_) ?_
    | with_reducible refine dite_keep (fun _ => ?_) (fun _ => ?_) | with_reducible refine (State.emit_spine ..).trans ?_
    | with_reducible refine (State.modHome_spine ..).trans ?_ | simp only [spine_mk, spine_eta] | dsimp only | split
theorem State.answerSnoop_spine (s : State) (x : Snoop) (a : Nat) (down : Nat) (data : Option Nat) :
    (State.answerSnoop s x a down data).spine = s.spine := by
  unfold State.answerSnoop; repeat' first
    | with_reducible rfl | with_reducible refine ite_keep (fun _ => ?_) (fun _ => ?_) | with_reducible refine foldl_keep (fun _ _ => ?_) ?_
    | with_reducible refine dite_keep (fun _ => ?_) (fun _ => ?_) | with_reducible refine (State.modHome_spine ..).trans ?_
    | with_reducible refine (State.set_spine ..).trans ?_ | with_reducible refine (State.setTxn_spine ..).trans ?_
    | with_reducible refine (State.ackConflicts_spine ..).trans ?_ | with_reducible refine (State.settle_spine ..).trans ?_
    | with_reducible refine (State.proceed_spine ..).trans ?_ | simp only [spine_mk, spine_eta] | dsimp only | split | exact rfl
theorem doSnoopResponse_spine (port : Nat) (line : Nat) (down : Nat) (data : Option Nat) (t : Nat) (s0 : State) :
    (doSnoopResponse port line down data t s0).spine = (s0.at t).spine := by
  unfold doSnoopResponse; repeat' first
    | with_reducible rfl | with_reducible refine ite_keep (fun _ => ?_) (fun _ => ?_) | with_reducible refine foldl_keep (fun _ _ => ?_) ?_
    | with_reducible refine dite_keep (fun _ => ?_) (fun _ => ?_) | with_reducible refine (State.at_spine ..).trans ?_
    | with_reducible refine (State.raiseBinding_spine ..).trans ?_ | with_reducible refine (State.bump_spine ..).trans ?_
    | with_reducible refine (State.answerSnoop_spine ..).trans ?_ | with_reducible refine (State.ackConflicts_spine ..).trans ?_
    | with_reducible refine (State.emit_spine ..).trans ?_ | with_reducible refine (State.modHome_spine ..).trans ?_
    | with_reducible refine ite_keep1 (fun _ => ?_) (fun _ => ?_) | with_reducible refine spine_of ?_ ?_ | simp only [spine_mk, spine_eta]
    | dsimp only | split | exact rfl
theorem doBiconflict_spine (p : Nat) (tag : Nat) (line : Nat) (t : Nat) (s0 : State) :
    (doBiconflict p tag line t s0).spine = (s0.at t).spine := by
  unfold doBiconflict; repeat' first
    | with_reducible rfl | with_reducible refine ite_keep (fun _ => ?_) (fun _ => ?_) | with_reducible refine foldl_keep (fun _ _ => ?_) ?_
    | with_reducible refine dite_keep (fun _ => ?_) (fun _ => ?_) | with_reducible refine (State.at_spine ..).trans ?_
    | with_reducible refine (State.modHome_spine ..).trans ?_ | with_reducible refine (State.emit_spine ..).trans ?_
    | simp only [spine_mk, spine_eta] | dsimp only | split
theorem State.poolReadDone_spine (s : State) (line : Nat) (data : Nat) (poison : Bool) (status : Nat) :
    (State.poolReadDone s line data poison status).spine = s.spine := by
  unfold State.poolReadDone; repeat' first
    | with_reducible rfl | with_reducible refine ite_keep (fun _ => ?_) (fun _ => ?_) | with_reducible refine foldl_keep (fun _ _ => ?_) ?_
    | with_reducible refine dite_keep (fun _ => ?_) (fun _ => ?_) | with_reducible refine (State.cachePut_spine ..).trans ?_
    | with_reducible refine (State.settle_spine ..).trans ?_ | with_reducible refine (State.proceed_spine ..).trans ?_
    | with_reducible refine (State.setTxn_spine ..).trans ?_ | simp only [spine_mk, spine_eta] | dsimp only | split | exact rfl
theorem State.poolWriteDone_spine (s : State) (line : Nat) (status : Nat) : (State.poolWriteDone s line status).spine = s.spine := by
  unfold State.poolWriteDone; repeat' first
    | with_reducible rfl | with_reducible refine ite_keep (fun _ => ?_) (fun _ => ?_) | with_reducible refine foldl_keep (fun _ _ => ?_) ?_
    | with_reducible refine dite_keep (fun _ => ?_) (fun _ => ?_) | with_reducible refine (State.emit_spine ..).trans ?_
    | with_reducible refine (State.settle_spine ..).trans ?_ | with_reducible refine (State.proceed_spine ..).trans ?_
    | with_reducible refine (State.setTxn_spine ..).trans ?_ | with_reducible refine (State.cachePut_spine ..).trans ?_
    | with_reducible refine ite_keep1 (fun _ => ?_) (fun _ => ?_) | with_reducible refine spine_of ?_ ?_ | simp only [spine_mk, spine_eta]
    | dsimp only | split | exact rfl
theorem doPoolResponse_spine (line : Nat) (write : Bool) (data : Nat) (poison : Bool) (status : Nat) (t : Nat) (s0 : State) :
    (doPoolResponse line write data poison status t s0).spine = (s0.at t).spine := by
  unfold doPoolResponse; repeat' first
    | with_reducible rfl | with_reducible refine ite_keep (fun _ => ?_) (fun _ => ?_) | with_reducible refine foldl_keep (fun _ _ => ?_) ?_
    | with_reducible refine dite_keep (fun _ => ?_) (fun _ => ?_) | with_reducible refine (State.poolWriteDone_spine ..).trans ?_
    | with_reducible refine (State.at_spine ..).trans ?_ | with_reducible refine (State.poolReadDone_spine ..).trans ?_
    | simp only [spine_mk, spine_eta] | dsimp only | split | exact rfl
theorem doSnoopTimeout_spine (line : Nat) (a : Nat) (why : Sys2Proof.SnoopEnd) (t : Nat) (s0 : State) :
    (doSnoopTimeout line a why t s0).spine = (s0.at t).spine := by
  unfold doSnoopTimeout; repeat' first
    | with_reducible rfl | with_reducible refine ite_keep (fun _ => ?_) (fun _ => ?_) | with_reducible refine foldl_keep (fun _ _ => ?_) ?_
    | with_reducible refine dite_keep (fun _ => ?_) (fun _ => ?_) | with_reducible refine (State.at_spine ..).trans ?_
    | with_reducible refine (State.askSweep_spine ..).trans ?_ | with_reducible refine (State.expireSnoop_spine ..).trans ?_
    | with_reducible refine (State.reportAt_spine ..).trans ?_ | with_reducible refine (State.raiseBinding_spine ..).trans ?_
    | with_reducible refine (State.bump_spine ..).trans ?_ | with_reducible refine ite_keep1 (fun _ => ?_) (fun _ => ?_)
    | with_reducible refine spine_of ?_ ?_ | simp only [spine_mk, spine_eta] | dsimp only | split | exact rfl
theorem doDeadAgentSweepDone_spine (t : Nat) (s0 : State) : (doDeadAgentSweepDone t s0).spine = (s0.at t).spine := by
  unfold doDeadAgentSweepDone; repeat' first
    | with_reducible rfl | with_reducible refine ite_keep (fun _ => ?_) (fun _ => ?_) | with_reducible refine foldl_keep (fun _ _ => ?_) ?_
    | with_reducible refine dite_keep (fun _ => ?_) (fun _ => ?_) | with_reducible refine (State.settle_spine ..).trans ?_
    | with_reducible refine (State.at_spine ..).trans ?_ | with_reducible refine (State.modHome_spine ..).trans ?_
    | with_reducible refine (State.setAll_spine ..).trans ?_ | with_reducible refine (State.askSweep_spine ..).trans ?_
    | with_reducible refine (State.releaseFor_spine ..).trans ?_ | with_reducible refine ite_keep1 (fun _ => ?_) (fun _ => ?_)
    | with_reducible refine spine_of ?_ ?_ | simp only [spine_mk, spine_eta] | dsimp only | split | exact rfl
theorem reviveAgent_spine (a : Nat) (s : State) : (reviveAgent a s).1.spine = s.spine := by
  unfold reviveAgent; repeat' first
    | with_reducible rfl | with_reducible refine ite_keep (fun _ => ?_) (fun _ => ?_) | with_reducible refine foldl_keep (fun _ _ => ?_) ?_
    | with_reducible refine dite_keep (fun _ => ?_) (fun _ => ?_) | with_reducible refine (State.setAll_spine ..).trans ?_
    | simp only [spine_mk, spine_eta] | dsimp only | split
theorem doWriteBehind_spine (line : Nat) (t : Nat) (s0 : State) : (doWriteBehind line t s0).spine = (s0.at t).spine := by
  unfold doWriteBehind; repeat' first
    | with_reducible rfl | with_reducible refine ite_keep (fun _ => ?_) (fun _ => ?_) | with_reducible refine foldl_keep (fun _ _ => ?_) ?_
    | with_reducible refine dite_keep (fun _ => ?_) (fun _ => ?_) | with_reducible refine (State.at_spine ..).trans ?_
    | with_reducible refine (State.settle_spine ..).trans ?_ | with_reducible refine (State.originate_spine ..).trans ?_
    | simp only [spine_mk, spine_eta] | dsimp only | split | exact rfl
theorem startWindowFlush_spine (s : State) : (startWindowFlush s).spine = s.spine := by
  unfold startWindowFlush; repeat' first
    | with_reducible rfl | with_reducible refine ite_keep (fun _ => ?_) (fun _ => ?_) | with_reducible refine foldl_keep (fun _ _ => ?_) ?_
    | with_reducible refine dite_keep (fun _ => ?_) (fun _ => ?_) | with_reducible refine (State.requestLeave_spine ..).trans ?_
    | with_reducible refine (State.modHome_spine ..).trans ?_ | with_reducible refine (State.setAll_spine ..).trans ?_
    | simp only [spine_mk, spine_eta] | dsimp only | split | exact rfl
theorem State.leaveUnknown_spine (s : State) (v : Nat) : (State.leaveUnknown s v).spine = s.spine := by
  unfold State.leaveUnknown; repeat' first
    | with_reducible rfl | with_reducible refine ite_keep (fun _ => ?_) (fun _ => ?_) | with_reducible refine foldl_keep (fun _ _ => ?_) ?_
    | with_reducible refine dite_keep (fun _ => ?_) (fun _ => ?_) | with_reducible refine (State.freeFilter_spine ..).trans ?_
    | with_reducible refine (State.modHome_spine ..).trans ?_ | with_reducible refine (State.set_spine ..).trans ?_
    | with_reducible refine ite_keep1 (fun _ => ?_) (fun _ => ?_) | with_reducible refine spine_of ?_ ?_ | simp only [spine_mk, spine_eta]
    | dsimp only | split | exact rfl
theorem doWindowFlushDone_spine (t : Nat) (s0 : State) : (doWindowFlushDone t s0).spine = (s0.at t).spine := by
  unfold doWindowFlushDone; repeat' first
    | with_reducible rfl | with_reducible refine ite_keep (fun _ => ?_) (fun _ => ?_) | with_reducible refine foldl_keep (fun _ _ => ?_) ?_
    | with_reducible refine dite_keep (fun _ => ?_) (fun _ => ?_) | with_reducible refine (State.at_spine ..).trans ?_
    | with_reducible refine (State.releaseFor_spine ..).trans ?_ | with_reducible refine (State.modHome_spine ..).trans ?_
    | with_reducible refine (State.setAll_spine ..).trans ?_ | with_reducible refine (State.leaveUnknown_spine ..).trans ?_
    | simp only [spine_mk, spine_eta] | dsimp only | split | exact rfl
theorem clearTrkPeak_spine (n : Nat) (s : State) : (clearTrkPeak n s).spine = s.spine := by
  unfold clearTrkPeak; repeat' first
    | with_reducible rfl | with_reducible refine ite_keep (fun _ => ?_) (fun _ => ?_) | with_reducible refine foldl_keep (fun _ _ => ?_) ?_
    | with_reducible refine dite_keep (fun _ => ?_) (fun _ => ?_) | with_reducible refine (State.set_spine ..).trans ?_
    | simp only [spine_mk, spine_eta] | dsimp only | split
theorem doLeaveRequest_spine (q : Sys2Proof.Purpose) (t : Nat) (s : State) : (doLeaveRequest q t s).spine = (s.at t).spine := by
  unfold doLeaveRequest; repeat' first
    | with_reducible rfl | with_reducible refine ite_keep (fun _ => ?_) (fun _ => ?_) | with_reducible refine foldl_keep (fun _ _ => ?_) ?_
    | with_reducible refine dite_keep (fun _ => ?_) (fun _ => ?_) | with_reducible refine (State.at_spine ..).trans ?_
    | with_reducible refine (State.requestLeave_spine ..).trans ?_ | simp only [spine_mk, spine_eta] | dsimp only | split | exact rfl
theorem State.expireWaits_spine (s : State) : (State.expireWaits s).spine = s.spine := by
  unfold State.expireWaits; repeat' first
    | with_reducible rfl | with_reducible refine ite_keep (fun _ => ?_) (fun _ => ?_) | with_reducible refine foldl_keep (fun _ _ => ?_) ?_
    | with_reducible refine dite_keep (fun _ => ?_) (fun _ => ?_) | with_reducible refine (State.refuseLeave_spine ..).trans ?_
    | with_reducible refine (State.modLvc_spine ..).trans ?_ | simp only [spine_mk, spine_eta] | dsimp only | split
theorem doLeaveRedecide_spine (t : Nat) (s : State) : (doLeaveRedecide t s).spine = (s.at t).spine := by
  unfold doLeaveRedecide; repeat' first
    | with_reducible rfl | with_reducible refine ite_keep (fun _ => ?_) (fun _ => ?_) | with_reducible refine foldl_keep (fun _ _ => ?_) ?_
    | with_reducible refine dite_keep (fun _ => ?_) (fun _ => ?_) | with_reducible refine (State.redecide_spine ..).trans ?_
    | with_reducible refine (State.expireWaits_spine ..).trans ?_ | with_reducible refine (State.at_spine ..).trans ?_
    | simp only [spine_mk, spine_eta] | dsimp only | split | exact rfl
theorem State.pauseFor_spine (s : State) (q : Sys2Proof.Purpose) : (State.pauseFor s q).spine = s.spine := by
  unfold State.pauseFor; repeat' first
    | with_reducible rfl | with_reducible refine ite_keep (fun _ => ?_) (fun _ => ?_) | with_reducible refine foldl_keep (fun _ _ => ?_) ?_
    | with_reducible refine dite_keep (fun _ => ?_) (fun _ => ?_) | with_reducible refine (State.set_spine ..).trans ?_
    | simp only [spine_mk, spine_eta] | dsimp only | split
theorem doLeaveRenew_spine (i : Nat) (t : Nat) (s0 : State) : (doLeaveRenew i t s0).spine = (s0.at t).spine := by
  unfold doLeaveRenew; repeat' first
    | with_reducible rfl | with_reducible refine ite_keep (fun _ => ?_) (fun _ => ?_) | with_reducible refine foldl_keep (fun _ _ => ?_) ?_
    | with_reducible refine dite_keep (fun _ => ?_) (fun _ => ?_) | with_reducible refine (State.at_spine ..).trans ?_
    | with_reducible refine (State.renewSlip_spine ..).trans ?_ | with_reducible refine (State.pauseFor_spine ..).trans ?_
    | simp only [spine_mk, spine_eta] | dsimp only | split
theorem State.endLdoSlip_spine (s : State) (i : Nat) (x : Slip) : (State.endLdoSlip s i x).spine = s.spine := by
  unfold State.endLdoSlip; repeat' first
    | with_reducible rfl | with_reducible refine ite_keep (fun _ => ?_) (fun _ => ?_) | with_reducible refine foldl_keep (fun _ _ => ?_) ?_
    | with_reducible refine dite_keep (fun _ => ?_) (fun _ => ?_) | with_reducible refine (State.notify_spine ..).trans ?_
    | with_reducible refine (State.set_spine ..).trans ?_ | with_reducible refine (State.modLvc_spine ..).trans ?_
    | with_reducible refine (State.endSlip_spine ..).trans ?_ | simp only [spine_mk, spine_eta] | dsimp only | split | exact rfl
theorem doSlipExpiry_spine (i : Nat) (t : Nat) (s0 : State) : (doSlipExpiry i t s0).spine = (s0.at t).spine := by
  unfold doSlipExpiry; repeat' first
    | with_reducible rfl | with_reducible refine ite_keep (fun _ => ?_) (fun _ => ?_) | with_reducible refine foldl_keep (fun _ _ => ?_) ?_
    | with_reducible refine dite_keep (fun _ => ?_) (fun _ => ?_) | with_reducible refine (State.at_spine ..).trans ?_
    | with_reducible refine (State.endLdoSlip_spine ..).trans ?_ | with_reducible refine (State.endSlip_spine ..).trans ?_
    | with_reducible refine (State.pauseFor_spine ..).trans ?_ | simp only [spine_mk, spine_eta] | dsimp only | split | exact rfl
theorem releaseSlip_spine (p : Principal) (s : State) : (releaseSlip p s).1.spine = s.spine := by
  unfold releaseSlip; repeat' first
    | with_reducible rfl | with_reducible refine ite_keep (fun _ => ?_) (fun _ => ?_) | with_reducible refine foldl_keep (fun _ _ => ?_) ?_
    | with_reducible refine dite_keep (fun _ => ?_) (fun _ => ?_) | with_reducible refine (State.endLdoSlip_spine ..).trans ?_
    | with_reducible refine (State.endSlip_spine ..).trans ?_ | simp only [spine_mk, spine_eta] | dsimp only | split | exact rfl
theorem renewOwn_spine (p : Principal) (s : State) : (renewOwn p s).1.spine = s.spine := by
  unfold renewOwn; repeat' first
    | with_reducible rfl | with_reducible refine ite_keep (fun _ => ?_) (fun _ => ?_) | with_reducible refine foldl_keep (fun _ _ => ?_) ?_
    | with_reducible refine dite_keep (fun _ => ?_) (fun _ => ?_) | with_reducible refine (State.setAll_spine ..).trans ?_
    | with_reducible refine (State.renewSlip_spine ..).trans ?_ | simp only [spine_mk, spine_eta] | dsimp only | split
theorem withdrawOwn_spine (p : Principal) (s : State) : (withdrawOwn p s).1.spine = s.spine := by
  unfold withdrawOwn; repeat' first
    | with_reducible rfl | with_reducible refine ite_keep (fun _ => ?_) (fun _ => ?_) | with_reducible refine foldl_keep (fun _ _ => ?_) ?_
    | with_reducible refine dite_keep (fun _ => ?_) (fun _ => ?_) | with_reducible refine (State.bump_spine ..).trans ?_
    | with_reducible refine (State.modLvc_spine ..).trans ?_ | simp only [spine_mk, spine_eta] | dsimp only | split
theorem lvcRequest_spine (p : Principal) (s : State) : (lvcRequest p s).1.spine = s.spine := by
  unfold lvcRequest; repeat' first
    | with_reducible rfl | with_reducible refine ite_keep (fun _ => ?_) (fun _ => ?_) | with_reducible refine foldl_keep (fun _ _ => ?_) ?_
    | with_reducible refine dite_keep (fun _ => ?_) (fun _ => ?_) | with_reducible refine (State.requestLeave_spine ..).trans ?_
    | simp only [spine_mk, spine_eta] | dsimp only | split | exact rfl
theorem State.sashFault_spine (s : State) (c : Nat) : (State.sashFault s c).spine = s.spine := by
  unfold State.sashFault; repeat' first
    | with_reducible rfl | with_reducible refine ite_keep (fun _ => ?_) (fun _ => ?_) | with_reducible refine foldl_keep (fun _ _ => ?_) ?_
    | with_reducible refine dite_keep (fun _ => ?_) (fun _ => ?_) | with_reducible refine (State.modFlt_spine ..).trans ?_
    | with_reducible refine (State.regionOut_spine ..).trans ?_ | with_reducible refine (State.set_spine ..).trans ?_
    | with_reducible refine (State.modSeam_spine ..).trans ?_ | with_reducible refine ite_keep1 (fun _ => ?_) (fun _ => ?_)
    | with_reducible refine spine_of ?_ ?_ | simp only [spine_mk, spine_eta] | dsimp only | split | exact rfl
theorem doErrorLineEvent_spine (c : Nat) (events : List (Nat × Nat)) (s : State) : (doErrorLineEvent c events s).spine = s.spine := by
  unfold doErrorLineEvent; repeat' first
    | with_reducible rfl | with_reducible refine ite_keep (fun _ => ?_) (fun _ => ?_) | with_reducible refine foldl_keep (fun _ _ => ?_) ?_
    | with_reducible refine dite_keep (fun _ => ?_) (fun _ => ?_) | with_reducible refine (State.sashFault_spine ..).trans ?_
    | with_reducible refine (State.report_spine ..).trans ?_ | with_reducible refine ite_keep1 (fun _ => ?_) (fun _ => ?_)
    | with_reducible refine spine_of ?_ ?_ | simp only [spine_mk, spine_eta] | dsimp only | split | exact rfl
theorem State.wiringFault_spine (s : State) (c : Nat) (i : Nat) : (State.wiringFault s c i).spine = s.spine := by
  unfold State.wiringFault; repeat' first
    | with_reducible rfl | with_reducible refine ite_keep (fun _ => ?_) (fun _ => ?_) | with_reducible refine foldl_keep (fun _ _ => ?_) ?_
    | with_reducible refine dite_keep (fun _ => ?_) (fun _ => ?_) | with_reducible refine (State.raise_spine ..).trans ?_
    | with_reducible refine (State.modFlt_spine ..).trans ?_ | with_reducible refine (State.setBit_spine ..).trans ?_
    | simp only [spine_mk, spine_eta] | dsimp only | split
theorem doWiringFault_spine (c : Nat) (i : Nat) (s : State) : (doWiringFault c i s).spine = s.spine := by
  unfold doWiringFault; repeat' first
    | with_reducible rfl | with_reducible refine ite_keep (fun _ => ?_) (fun _ => ?_) | with_reducible refine foldl_keep (fun _ _ => ?_) ?_
    | with_reducible refine dite_keep (fun _ => ?_) (fun _ => ?_) | with_reducible refine (State.wiringFault_spine ..).trans ?_
    | simp only [spine_mk, spine_eta] | dsimp only | split
theorem doWiringPoll_spine (c : Nat) (i : Nat) (found : List Nat) (quiet : Bool) (t : Nat) (s0 : State) :
    (doWiringPoll c i found quiet t s0).spine = (s0.at t).spine := by
  unfold doWiringPoll; repeat' first
    | with_reducible rfl | with_reducible refine ite_keep (fun _ => ?_) (fun _ => ?_) | with_reducible refine foldl_keep (fun _ _ => ?_) ?_
    | with_reducible refine dite_keep (fun _ => ?_) (fun _ => ?_) | with_reducible refine (State.at_spine ..).trans ?_
    | with_reducible refine (State.modFlt_spine ..).trans ?_ | with_reducible refine (State.sashFault_spine ..).trans ?_
    | with_reducible refine (State.polledEvent_spine ..).trans ?_ | with_reducible refine ite_keep1 (fun _ => ?_) (fun _ => ?_)
    | with_reducible refine spine_of ?_ ?_ | simp only [spine_mk, spine_eta] | dsimp only | split | exact rfl
theorem rearmLine_spine (c : Nat) (i : Nat) (s : State) : (rearmLine c i s).spine = s.spine := by
  unfold rearmLine; repeat' first
    | with_reducible rfl | with_reducible refine ite_keep (fun _ => ?_) (fun _ => ?_) | with_reducible refine foldl_keep (fun _ _ => ?_) ?_
    | with_reducible refine dite_keep (fun _ => ?_) (fun _ => ?_) | with_reducible refine (State.modFlt_spine ..).trans ?_
    | with_reducible refine (State.clearBit_spine ..).trans ?_ | simp only [spine_mk, spine_eta] | dsimp only | split
theorem doInputServiceEntry_spine (c : Nat) (i : Nat) (s : State) : (doInputServiceEntry c i s).spine = s.spine := by
  unfold doInputServiceEntry; repeat' first
    | with_reducible rfl | with_reducible refine ite_keep (fun _ => ?_) (fun _ => ?_) | with_reducible refine foldl_keep (fun _ _ => ?_) ?_
    | with_reducible refine dite_keep (fun _ => ?_) (fun _ => ?_) | with_reducible refine (State.modFlt_spine ..).trans ?_
    | with_reducible refine (State.setMode_spine ..).trans ?_ | with_reducible refine (State.report_spine ..).trans ?_
    | simp only [spine_mk, spine_eta] | dsimp only | split | exact rfl
theorem doInputServiceTimeout_spine (c : Nat) (i : Nat) (s : State) : (doInputServiceTimeout c i s).spine = s.spine := by
  unfold doInputServiceTimeout; repeat' first
    | with_reducible rfl | with_reducible refine ite_keep (fun _ => ?_) (fun _ => ?_) | with_reducible refine foldl_keep (fun _ _ => ?_) ?_
    | with_reducible refine dite_keep (fun _ => ?_) (fun _ => ?_) | with_reducible refine (State.wiringFault_spine ..).trans ?_
    | with_reducible refine (State.setMode_spine ..).trans ?_ | simp only [spine_mk, spine_eta] | dsimp only | split
theorem clearFirst_spine (b : Nat) (s : State) : (clearFirst b s).spine = s.spine := by
  unfold clearFirst; repeat' first
    | with_reducible rfl | with_reducible refine ite_keep (fun _ => ?_) (fun _ => ?_) | with_reducible refine foldl_keep (fun _ _ => ?_) ?_
    | with_reducible refine dite_keep (fun _ => ?_) (fun _ => ?_) | with_reducible refine (State.setAll_spine ..).trans ?_
    | simp only [spine_mk, spine_eta] | dsimp only | split
theorem doCollectorSelfFault_spine (c : Nat) (lasting : Bool) (s : State) : (doCollectorSelfFault c lasting s).spine = s.spine := by
  unfold doCollectorSelfFault; repeat' first
    | with_reducible refine (State.enterSafe_spine ..).trans ?_ | simp only [spine_mk, spine_eta] | split | exact rfl
theorem safeCommand_spine (s : State) : (safeCommand s).spine = s.spine := by
  unfold safeCommand; repeat' first
    | with_reducible rfl | with_reducible refine ite_keep (fun _ => ?_) (fun _ => ?_) | with_reducible refine foldl_keep (fun _ _ => ?_) ?_
    | with_reducible refine dite_keep (fun _ => ?_) (fun _ => ?_) | with_reducible refine (State.enterSafe_spine ..).trans ?_
    | simp only [spine_mk, spine_eta] | dsimp only | split | exact rfl
theorem doC0WindowEnd_spine (t : Nat) (s0 : State) : (doC0WindowEnd t s0).spine = (s0.at t).spine := by
  unfold doC0WindowEnd; repeat' first
    | with_reducible rfl | with_reducible refine ite_keep (fun _ => ?_) (fun _ => ?_) | with_reducible refine foldl_keep (fun _ _ => ?_) ?_
    | with_reducible refine dite_keep (fun _ => ?_) (fun _ => ?_) | with_reducible refine (State.at_spine ..).trans ?_
    | with_reducible refine (State.modFlt_spine ..).trans ?_ | with_reducible refine (State.set_spine ..).trans ?_
    | simp only [spine_mk, spine_eta] | dsimp only | split
theorem ackMask_spine (a : Nat) (mask : Nat) (s : State) : (ackMask a mask s).spine = s.spine := by
  unfold ackMask; repeat' first
    | with_reducible rfl | with_reducible refine ite_keep (fun _ => ?_) (fun _ => ?_) | with_reducible refine foldl_keep (fun _ _ => ?_) ?_
    | with_reducible refine dite_keep (fun _ => ?_) (fun _ => ?_) | with_reducible refine (State.setAll_spine ..).trans ?_
    | with_reducible refine (State.set_spine ..).trans ?_ | simp only [spine_mk, spine_eta] | dsimp only | split
theorem injectFault_spine (c : Nat) (i : Nat) (cls : Nat) (s : State) : (injectFault c i cls s).spine = s.spine := by
  unfold injectFault; repeat' first
    | with_reducible rfl | with_reducible refine ite_keep (fun _ => ?_) (fun _ => ?_) | with_reducible refine foldl_keep (fun _ _ => ?_) ?_
    | with_reducible refine dite_keep (fun _ => ?_) (fun _ => ?_) | with_reducible refine (State.sashFault_spine ..).trans ?_
    | with_reducible refine (State.lineEvent_spine ..).trans ?_ | with_reducible refine ite_keep1 (fun _ => ?_) (fun _ => ?_)
    | with_reducible refine spine_of ?_ ?_ | simp only [spine_mk, spine_eta] | dsimp only | split | exact rfl
theorem State.spendCredits_spine (s : State) (o : Nat) (m : Msg) : (State.spendCredits s o m).spine = s.spine := by
  unfold State.spendCredits; repeat' first
    | with_reducible rfl | with_reducible refine ite_keep (fun _ => ?_) (fun _ => ?_) | with_reducible refine foldl_keep (fun _ _ => ?_) ?_
    | with_reducible refine dite_keep (fun _ => ?_) (fun _ => ?_) | with_reducible refine (State.setFnl_spine ..).trans ?_
    | simp only [spine_mk, spine_eta] | dsimp only | split
theorem State.replay_spine (s : State) (p : Nat) : (State.replay s p).spine = s.spine := by
  unfold State.replay; repeat' first
    | with_reducible rfl | with_reducible refine ite_keep (fun _ => ?_) (fun _ => ?_) | with_reducible refine foldl_keep (fun _ _ => ?_) ?_
    | with_reducible refine dite_keep (fun _ => ?_) (fun _ => ?_) | with_reducible refine (State.linkDown_spine ..).trans ?_
    | with_reducible refine (State.emit_spine ..).trans ?_ | with_reducible refine (State.setFnl_spine ..).trans ?_
    | with_reducible refine (State.countCell_spine ..).trans ?_ | with_reducible refine (State.bump_spine ..).trans ?_
    | simp only [spine_mk, spine_eta] | dsimp only | split | exact rfl
theorem State.acked_spine (s : State) (p : Nat) (n : Nat) (nak : Bool) : (State.acked s p n nak).spine = s.spine := by
  unfold State.acked; repeat' first
    | with_reducible rfl | with_reducible refine ite_keep (fun _ => ?_) (fun _ => ?_) | with_reducible refine foldl_keep (fun _ _ => ?_) ?_
    | with_reducible refine dite_keep (fun _ => ?_) (fun _ => ?_) | with_reducible refine (State.linkDown_spine ..).trans ?_
    | with_reducible refine (State.set_spine ..).trans ?_ | with_reducible refine (State.setFnl_spine ..).trans ?_
    | with_reducible refine (State.setBuffer_spine ..).trans ?_ | with_reducible refine (State.replay_spine ..).trans ?_
    | with_reducible refine (State.bump_spine ..).trans ?_ | simp only [spine_mk, spine_eta] | dsimp only | split | exact rfl
theorem State.nakNow_spine (s : State) (p : Nat) : (State.nakNow s p).spine = s.spine := by
  unfold State.nakNow; repeat' first
    | with_reducible rfl | with_reducible refine ite_keep (fun _ => ?_) (fun _ => ?_) | with_reducible refine foldl_keep (fun _ _ => ?_) ?_
    | with_reducible refine dite_keep (fun _ => ?_) (fun _ => ?_) | with_reducible refine (State.emit_spine ..).trans ?_
    | with_reducible refine (State.bump_spine ..).trans ?_ | with_reducible refine (State.setFnl_spine ..).trans ?_
    | simp only [spine_mk, spine_eta] | dsimp only | split
theorem State.nakIf_spine (s : State) (p : Nat) : (State.nakIf s p).spine = s.spine := by
  unfold State.nakIf; repeat' first
    | with_reducible rfl | with_reducible refine ite_keep (fun _ => ?_) (fun _ => ?_) | with_reducible refine foldl_keep (fun _ _ => ?_) ?_
    | with_reducible refine dite_keep (fun _ => ?_) (fun _ => ?_) | with_reducible refine (State.nakNow_spine ..).trans ?_
    | simp only [spine_mk, spine_eta] | dsimp only | split
theorem State.sendCsync_spine (s : State) (p : Nat) : (State.sendCsync s p).spine = s.spine := by
  unfold State.sendCsync; repeat' first
    | with_reducible rfl | with_reducible refine ite_keep (fun _ => ?_) (fun _ => ?_) | with_reducible refine foldl_keep (fun _ _ => ?_) ?_
    | with_reducible refine dite_keep (fun _ => ?_) (fun _ => ?_) | with_reducible refine (State.emit_spine ..).trans ?_
    | with_reducible refine (State.bump_spine ..).trans ?_ | with_reducible refine (State.setFnl_spine ..).trans ?_
    | simp only [spine_mk, spine_eta] | dsimp only | split
theorem State.sendTotals_spine (s : State) (p : Nat) : (State.sendTotals s p).spine = s.spine := by
  unfold State.sendTotals; repeat' first
    | with_reducible rfl | with_reducible refine ite_keep (fun _ => ?_) (fun _ => ?_) | with_reducible refine foldl_keep (fun _ _ => ?_) ?_
    | with_reducible refine dite_keep (fun _ => ?_) (fun _ => ?_) | with_reducible refine (State.emit_spine ..).trans ?_
    | simp only [spine_mk, spine_eta] | dsimp only | split
theorem State.takeTotals_spine (s : State) (p : Nat) (totals : List Nat) : (State.takeTotals s p totals).spine = s.spine := by
  unfold State.takeTotals; repeat' first
    | with_reducible rfl | with_reducible refine ite_keep (fun _ => ?_) (fun _ => ?_) | with_reducible refine foldl_keep (fun _ _ => ?_) ?_
    | with_reducible refine dite_keep (fun _ => ?_) (fun _ => ?_) | with_reducible refine (State.setFnl_spine ..).trans ?_
    | simp only [spine_mk, spine_eta] | dsimp only | split
theorem State.takeBlock_spine (s : State) (p : Nat) (b : List Nat) (credits : List Nat) :
    (State.takeBlock s p b credits).spine = s.spine := by
  unfold State.takeBlock; repeat' first
    | with_reducible rfl | with_reducible refine ite_keep (fun _ => ?_) (fun _ => ?_) | with_reducible refine foldl_keep (fun _ _ => ?_) ?_
    | with_reducible refine dite_keep (fun _ => ?_) (fun _ => ?_) | with_reducible refine (State.set_spine ..).trans ?_
    | with_reducible refine (State.setFnl_spine ..).trans ?_ | simp only [spine_mk, spine_eta] | dsimp only | split
theorem State.acceptSlots_spine (s : State) (p : Nat) (h : Nat) (cw : List Nat) : (State.acceptSlots s p h cw).spine = s.spine := by
  unfold State.acceptSlots; repeat' first
    | with_reducible rfl | with_reducible refine ite_keep (fun _ => ?_) (fun _ => ?_) | with_reducible refine foldl_keep (fun _ _ => ?_) ?_
    | with_reducible refine dite_keep (fun _ => ?_) (fun _ => ?_) | with_reducible refine (State.linkDown_spine ..).trans ?_
    | with_reducible refine (State.set_spine ..).trans ?_ | with_reducible refine (State.setFnl_spine ..).trans ?_
    | simp only [spine_mk, spine_eta] | dsimp only | split | exact rfl
theorem State.control_spine (s : State) (p : Nat) (code : Nat) (slot : List Nat) : (State.control s p code slot).spine = s.spine := by
  unfold State.control; repeat' first
    | with_reducible rfl | with_reducible refine ite_keep (fun _ => ?_) (fun _ => ?_) | with_reducible refine foldl_keep (fun _ _ => ?_) ?_
    | with_reducible refine dite_keep (fun _ => ?_) (fun _ => ?_) | with_reducible refine (State.takeBlock_spine ..).trans ?_
    | with_reducible refine (State.linkDown_spine ..).trans ?_ | with_reducible refine (State.sendTotals_spine ..).trans ?_
    | with_reducible refine (State.takeTotals_spine ..).trans ?_ | with_reducible refine (State.setFnl_spine ..).trans ?_
    | simp only [spine_mk, spine_eta] | dsimp only | split | exact rfl
theorem State.takeAck_spine (s : State) (p : Nat) (h : Nat) (slot0 : List Nat) : (State.takeAck s p h slot0).spine = s.spine := by
  unfold State.takeAck; repeat' first
    | with_reducible rfl | with_reducible refine ite_keep (fun _ => ?_) (fun _ => ?_) | with_reducible refine foldl_keep (fun _ _ => ?_) ?_
    | with_reducible refine dite_keep (fun _ => ?_) (fun _ => ?_) | with_reducible refine (State.acked_spine ..).trans ?_
    | with_reducible refine (State.control_spine ..).trans ?_ | simp only [spine_mk, spine_eta] | dsimp only | split | exact rfl
theorem State.takeQuiet_spine (s : State) (p : Nat) (h : Nat) : (State.takeQuiet s p h).spine = s.spine := by
  unfold State.takeQuiet; repeat' first
    | with_reducible rfl | with_reducible refine ite_keep (fun _ => ?_) (fun _ => ?_) | with_reducible refine foldl_keep (fun _ _ => ?_) ?_
    | with_reducible refine dite_keep (fun _ => ?_) (fun _ => ?_) | with_reducible refine (State.set_spine ..).trans ?_
    | with_reducible refine (State.modLan_spine ..).trans ?_ | with_reducible refine (State.bump_spine ..).trans ?_
    | simp only [spine_mk, spine_eta] | dsimp only | split
theorem State.badCw_spine (s : State) (p : Nat) : (State.badCw s p).spine = s.spine := by
  unfold State.badCw; repeat' first
    | with_reducible rfl | with_reducible refine ite_keep (fun _ => ?_) (fun _ => ?_) | with_reducible refine foldl_keep (fun _ _ => ?_) ?_
    | with_reducible refine dite_keep (fun _ => ?_) (fun _ => ?_) | with_reducible refine (State.setFnl_spine ..).trans ?_
    | with_reducible refine (State.bump_spine ..).trans ?_ | with_reducible refine (State.reportAt_spine ..).trans ?_
    | with_reducible refine (State.sendCsync_spine ..).trans ?_ | with_reducible refine (State.nakIf_spine ..).trans ?_
    | with_reducible refine (State.linkDown_spine ..).trans ?_ | with_reducible refine ite_keep1 (fun _ => ?_) (fun _ => ?_)
    | with_reducible refine spine_of ?_ ?_ | simp only [spine_mk, spine_eta] | dsimp only | split | exact rfl
theorem State.goodCw_spine (s : State) (p : Nat) (cw : List Nat) : (State.goodCw s p cw).spine = s.spine := by
  unfold State.goodCw; repeat' first
    | with_reducible rfl | with_reducible refine ite_keep (fun _ => ?_) (fun _ => ?_) | with_reducible refine foldl_keep (fun _ _ => ?_) ?_
    | with_reducible refine dite_keep (fun _ => ?_) (fun _ => ?_) | with_reducible refine (State.setFnl_spine ..).trans ?_
    | with_reducible refine (State.takeQuiet_spine ..).trans ?_ | with_reducible refine (State.takeAck_spine ..).trans ?_
    | with_reducible refine (State.nakIf_spine ..).trans ?_ | with_reducible refine (State.acceptSlots_spine ..).trans ?_
    | with_reducible refine (State.linkDown_spine ..).trans ?_ | simp only [spine_mk, spine_eta] | dsimp only | split | exact rfl
theorem State.noteFom_spine (s : State) (l : Nat) : (State.noteFom s l).spine = s.spine := by
  unfold State.noteFom; repeat' first
    | with_reducible rfl | with_reducible refine ite_keep (fun _ => ?_) (fun _ => ?_) | with_reducible refine foldl_keep (fun _ _ => ?_) ?_
    | with_reducible refine dite_keep (fun _ => ?_) (fun _ => ?_) | with_reducible refine (State.setLane_spine ..).trans ?_
    | with_reducible refine (State.raise_spine ..).trans ?_ | simp only [spine_mk, spine_eta] | dsimp only | split
theorem State.pendStep_spine (s : State) (l : Nat) (kind : Nat) (target : Nat) : (State.pendStep s l kind target).spine = s.spine := by
  unfold State.pendStep; repeat' first
    | with_reducible rfl | with_reducible refine ite_keep (fun _ => ?_) (fun _ => ?_) | with_reducible refine foldl_keep (fun _ _ => ?_) ?_
    | with_reducible refine dite_keep (fun _ => ?_) (fun _ => ?_) | with_reducible refine (State.set_spine ..).trans ?_
    | with_reducible refine (State.setLane_spine ..).trans ?_ | with_reducible refine (State.emit_spine ..).trans ?_
    | simp only [spine_mk, spine_eta] | dsimp only | split
theorem State.makeStep_spine (s : State) (l : Nat) (x : LaneStep) : (State.makeStep s l x).spine = s.spine := by
  unfold State.makeStep; repeat' first
    | with_reducible rfl | with_reducible refine ite_keep (fun _ => ?_) (fun _ => ?_) | with_reducible refine foldl_keep (fun _ _ => ?_) ?_
    | with_reducible refine dite_keep (fun _ => ?_) (fun _ => ?_) | with_reducible refine (State.set_spine ..).trans ?_
    | with_reducible refine (State.setLane_spine ..).trans ?_ | with_reducible refine (State.bump_spine ..).trans ?_
    | with_reducible refine (State.setAll_spine ..).trans ?_ | simp only [spine_mk, spine_eta] | dsimp only | split
theorem State.makeSteps_spine (s : State) (p : Nat) : (State.makeSteps s p).spine = s.spine := by
  unfold State.makeSteps; repeat' first
    | with_reducible rfl | with_reducible refine ite_keep (fun _ => ?_) (fun _ => ?_) | with_reducible refine foldl_keep (fun _ _ => ?_) ?_
    | with_reducible refine dite_keep (fun _ => ?_) (fun _ => ?_) | with_reducible refine (State.makeStep_spine ..).trans ?_
    | simp only [spine_mk, spine_eta] | dsimp only | split
theorem State.markSuspect_spine (s : State) (p : Nat) : (State.markSuspect s p).spine = s.spine := by
  unfold State.markSuspect; repeat' first
    | with_reducible rfl | with_reducible refine ite_keep (fun _ => ?_) (fun _ => ?_) | with_reducible refine foldl_keep (fun _ _ => ?_) ?_
    | with_reducible refine dite_keep (fun _ => ?_) (fun _ => ?_) | with_reducible refine (State.modLan_spine ..).trans ?_
    | simp only [spine_mk, spine_eta] | dsimp only | split
theorem State.startTrial_spine (s : State) (l : Nat) (kind : Nat) (old : Nat) (new : Nat) :
    (State.startTrial s l kind old new).spine = s.spine := by
  unfold State.startTrial; repeat' first
    | with_reducible rfl | with_reducible refine ite_keep (fun _ => ?_) (fun _ => ?_) | with_reducible refine foldl_keep (fun _ _ => ?_) ?_
    | with_reducible refine dite_keep (fun _ => ?_) (fun _ => ?_) | with_reducible refine (State.setAll_spine ..).trans ?_
    | with_reducible refine (State.setLane_spine ..).trans ?_ | simp only [spine_mk, spine_eta] | dsimp only | split
theorem State.passEnd_spine (s : State) (l : Nat) : (State.passEnd s l).spine = s.spine := by
  unfold State.passEnd; repeat' first
    | with_reducible rfl | with_reducible refine ite_keep (fun _ => ?_) (fun _ => ?_) | with_reducible refine foldl_keep (fun _ _ => ?_) ?_
    | with_reducible refine dite_keep (fun _ => ?_) (fun _ => ?_) | with_reducible refine (State.pendStep_spine ..).trans ?_
    | with_reducible refine (State.startTrial_spine ..).trans ?_ | simp only [spine_mk, spine_eta] | dsimp only | split
theorem doSextantPointDone_spine (l : Nat) (mismatches : Nat) (t : Nat) (s0 : State) :
    (doSextantPointDone l mismatches t s0).spine = (s0.at t).spine := by
  unfold doSextantPointDone; repeat' first
    | with_reducible rfl | with_reducible refine ite_keep (fun _ => ?_) (fun _ => ?_) | with_reducible refine foldl_keep (fun _ _ => ?_) ?_
    | with_reducible refine dite_keep (fun _ => ?_) (fun _ => ?_) | with_reducible refine (State.at_spine ..).trans ?_
    | with_reducible refine (State.noteFom_spine ..).trans ?_ | with_reducible refine (State.showFom_spine ..).trans ?_
    | with_reducible refine (State.setLane_spine ..).trans ?_ | with_reducible refine (State.passEnd_spine ..).trans ?_
    | simp only [spine_mk, spine_eta] | dsimp only | split
theorem State.lowEvent_spine (s : State) (p : Nat) (l : Nat) : (State.lowEvent s p l).spine = s.spine := by
  unfold State.lowEvent; repeat' first
    | with_reducible rfl | with_reducible refine ite_keep (fun _ => ?_) (fun _ => ?_) | with_reducible refine foldl_keep (fun _ _ => ?_) ?_
    | with_reducible refine dite_keep (fun _ => ?_) (fun _ => ?_) | with_reducible refine (State.reportAt_spine ..).trans ?_
    | with_reducible refine (State.bump_spine ..).trans ?_ | with_reducible refine ite_keep1 (fun _ => ?_) (fun _ => ?_)
    | with_reducible refine spine_of ?_ ?_ | simp only [spine_mk, spine_eta] | dsimp only | split | exact rfl
theorem doFomTick_spine (p : Nat) (t : Nat) (s0 : State) : (doFomTick p t s0).spine = (s0.at t).spine := by
  unfold doFomTick; repeat' first
    | with_reducible rfl | with_reducible refine ite_keep (fun _ => ?_) (fun _ => ?_) | with_reducible refine foldl_keep (fun _ _ => ?_) ?_
    | with_reducible refine dite_keep (fun _ => ?_) (fun _ => ?_) | with_reducible refine (State.at_spine ..).trans ?_
    | with_reducible refine (State.setLane_spine ..).trans ?_ | with_reducible refine (State.lowEvent_spine ..).trans ?_
    | with_reducible refine (State.linkDown_spine ..).trans ?_ | with_reducible refine (State.emit_spine ..).trans ?_
    | with_reducible refine (State.bump_spine ..).trans ?_ | simp only [spine_mk, spine_eta] | dsimp only | split | exact rfl
theorem doRangeChangeRequest_spine (l : Nat) (vga : Bool) (up : Bool) (t : Nat) (s0 : State) :
    (doRangeChangeRequest l vga up t s0).spine = (s0.at t).spine := by
  unfold doRangeChangeRequest; repeat' first
    | with_reducible rfl | with_reducible refine ite_keep (fun _ => ?_) (fun _ => ?_) | with_reducible refine foldl_keep (fun _ _ => ?_) ?_
    | with_reducible refine dite_keep (fun _ => ?_) (fun _ => ?_) | with_reducible refine (State.at_spine ..).trans ?_
    | with_reducible refine (State.setAll_spine ..).trans ?_ | with_reducible refine (State.set_spine ..).trans ?_
    | with_reducible refine (State.startTrial_spine ..).trans ?_ | simp only [spine_mk, spine_eta] | dsimp only | split
theorem doTrialRetry_spine (l : Nat) (t : Nat) (s0 : State) : (doTrialRetry l t s0).spine = (s0.at t).spine := by
  unfold doTrialRetry; repeat' first
    | with_reducible rfl | with_reducible refine ite_keep (fun _ => ?_) (fun _ => ?_) | with_reducible refine foldl_keep (fun _ _ => ?_) ?_
    | with_reducible refine dite_keep (fun _ => ?_) (fun _ => ?_) | with_reducible refine (State.at_spine ..).trans ?_
    | with_reducible refine (State.setLane_spine ..).trans ?_ | simp only [spine_mk, spine_eta] | dsimp only | split
theorem State.settleTrial_spine (s : State) (l : Nat) (outcome : Nat) : (State.settleTrial s l outcome).spine = s.spine := by
  unfold State.settleTrial; repeat' first
    | with_reducible rfl | with_reducible refine ite_keep (fun _ => ?_) (fun _ => ?_) | with_reducible refine foldl_keep (fun _ _ => ?_) ?_
    | with_reducible refine dite_keep (fun _ => ?_) (fun _ => ?_) | with_reducible refine (State.setAll_spine ..).trans ?_
    | with_reducible refine (State.setLane_spine ..).trans ?_ | simp only [spine_mk, spine_eta] | dsimp only | split
theorem State.applyTrial_spine (s : State) (l : Nat) (outcome : Nat) (x : LaneTrial) :
    (State.applyTrial s l outcome x).spine = s.spine := by
  unfold State.applyTrial; repeat' first
    | with_reducible rfl | with_reducible refine ite_keep (fun _ => ?_) (fun _ => ?_) | with_reducible refine foldl_keep (fun _ _ => ?_) ?_
    | with_reducible refine dite_keep (fun _ => ?_) (fun _ => ?_) | with_reducible refine (State.pendStep_spine ..).trans ?_
    | with_reducible refine (State.settleTrial_spine ..).trans ?_ | simp only [spine_mk, spine_eta] | dsimp only | split
theorem State.rejectTrial_spine (s : State) (l : Nat) (outcome : Nat) : (State.rejectTrial s l outcome).spine = s.spine := by
  unfold State.rejectTrial; repeat' first
    | with_reducible rfl | with_reducible refine ite_keep (fun _ => ?_) (fun _ => ?_) | with_reducible refine foldl_keep (fun _ _ => ?_) ?_
    | with_reducible refine dite_keep (fun _ => ?_) (fun _ => ?_) | with_reducible refine (State.bump_spine ..).trans ?_
    | with_reducible refine (State.settleTrial_spine ..).trans ?_ | simp only [spine_mk, spine_eta] | dsimp only | split
theorem State.forceTrial_spine (s : State) (l : Nat) (x : LaneTrial) : (State.forceTrial s l x).spine = s.spine := by
  unfold State.forceTrial; repeat' first
    | with_reducible rfl | with_reducible refine ite_keep (fun _ => ?_) (fun _ => ?_) | with_reducible refine foldl_keep (fun _ _ => ?_) ?_
    | with_reducible refine dite_keep (fun _ => ?_) (fun _ => ?_) | with_reducible refine (State.makeStep_spine ..).trans ?_
    | with_reducible refine (State.bump_spine ..).trans ?_ | with_reducible refine (State.settleTrial_spine ..).trans ?_
    | with_reducible refine (State.markSuspect_spine ..).trans ?_ | simp only [spine_mk, spine_eta] | dsimp only | split
theorem State.deferTrial_spine (s : State) (l : Nat) (x : LaneTrial) : (State.deferTrial s l x).spine = s.spine := by
  unfold State.deferTrial; repeat' first
    | with_reducible rfl | with_reducible refine ite_keep (fun _ => ?_) (fun _ => ?_) | with_reducible refine foldl_keep (fun _ _ => ?_) ?_
    | with_reducible refine dite_keep (fun _ => ?_) (fun _ => ?_) | with_reducible refine (State.setLane_spine ..).trans ?_
    | with_reducible refine (State.bump_spine ..).trans ?_ | simp only [spine_mk, spine_eta] | dsimp only | split
theorem doTrialEnd_spine (l : Nat) (t1 : Nat) (t2 : Nat) (pushing : Bool) (t : Nat) (s0 : State) :
    (doTrialEnd l t1 t2 pushing t s0).spine = (s0.at t).spine := by
  unfold doTrialEnd; repeat' first
    | with_reducible rfl | with_reducible refine ite_keep (fun _ => ?_) (fun _ => ?_) | with_reducible refine foldl_keep (fun _ _ => ?_) ?_
    | with_reducible refine dite_keep (fun _ => ?_) (fun _ => ?_) | with_reducible refine (State.at_spine ..).trans ?_
    | with_reducible refine (State.bump_spine ..).trans ?_ | with_reducible refine (State.setAll_spine ..).trans ?_
    | with_reducible refine (State.applyTrial_spine ..).trans ?_ | with_reducible refine (State.rejectTrial_spine ..).trans ?_
    | with_reducible refine (State.forceTrial_spine ..).trans ?_ | with_reducible refine (State.deferTrial_spine ..).trans ?_
    | simp only [spine_mk, spine_eta] | dsimp only | split
theorem State.openWindow_spine (s : State) (p : Nat) : (State.openWindow s p).spine = s.spine := by
  unfold State.openWindow; repeat' first
    | with_reducible rfl | with_reducible refine ite_keep (fun _ => ?_) (fun _ => ?_) | with_reducible refine foldl_keep (fun _ _ => ?_) ?_
    | with_reducible refine dite_keep (fun _ => ?_) (fun _ => ?_) | with_reducible refine (State.emit_spine ..).trans ?_
    | with_reducible refine (State.bump_spine ..).trans ?_ | with_reducible refine (State.setAll_spine ..).trans ?_
    | with_reducible refine (State.modLan_spine ..).trans ?_ | simp only [spine_mk, spine_eta] | dsimp only | split
theorem doQuietWindowGrant_spine (p : Nat) (t : Nat) (s0 : State) : (doQuietWindowGrant p t s0).spine = (s0.at t).spine := by
  unfold doQuietWindowGrant; repeat' first
    | with_reducible rfl | with_reducible refine ite_keep (fun _ => ?_) (fun _ => ?_) | with_reducible refine foldl_keep (fun _ _ => ?_) ?_
    | with_reducible refine dite_keep (fun _ => ?_) (fun _ => ?_) | with_reducible refine (State.at_spine ..).trans ?_
    | with_reducible refine (State.openWindow_spine ..).trans ?_ | simp only [spine_mk, spine_eta] | dsimp only | split
theorem doNaturalGap_spine (p : Nat) (t : Nat) (s0 : State) : (doNaturalGap p t s0).spine = (s0.at t).spine := by
  unfold doNaturalGap; repeat' first
    | with_reducible rfl | with_reducible refine ite_keep (fun _ => ?_) (fun _ => ?_) | with_reducible refine foldl_keep (fun _ _ => ?_) ?_
    | with_reducible refine dite_keep (fun _ => ?_) (fun _ => ?_) | with_reducible refine (State.at_spine ..).trans ?_
    | with_reducible refine (State.makeSteps_spine ..).trans ?_ | simp only [spine_mk, spine_eta] | dsimp only | split
theorem doSuspectStep_spine (l : Nat) (t : Nat) (s0 : State) : (doSuspectStep l t s0).spine = (s0.at t).spine := by
  unfold doSuspectStep; repeat' first
    | with_reducible rfl | with_reducible refine ite_keep (fun _ => ?_) (fun _ => ?_) | with_reducible refine foldl_keep (fun _ _ => ?_) ?_
    | with_reducible refine dite_keep (fun _ => ?_) (fun _ => ?_) | with_reducible refine (State.at_spine ..).trans ?_
    | with_reducible refine (State.markSuspect_spine ..).trans ?_ | with_reducible refine (State.bump_spine ..).trans ?_
    | with_reducible refine (State.makeStep_spine ..).trans ?_ | simp only [spine_mk, spine_eta] | dsimp only | split
theorem doPresetWrite_spine (l : Nat) (peak : Nat) (gain : Nat) (taps : List Nat) (t : Nat) (s0 : State) :
    (doPresetWrite l peak gain taps t s0).spine = (s0.at t).spine := by
  unfold doPresetWrite; repeat' first
    | with_reducible rfl | with_reducible refine ite_keep (fun _ => ?_) (fun _ => ?_) | with_reducible refine foldl_keep (fun _ _ => ?_) ?_
    | with_reducible refine dite_keep (fun _ => ?_) (fun _ => ?_) | with_reducible refine (State.setAll_spine ..).trans ?_
    | with_reducible refine (State.at_spine ..).trans ?_ | with_reducible refine (State.modNv_spine ..).trans ?_
    | with_reducible refine (State.setLane_spine ..).trans ?_ | simp only [spine_mk, spine_eta] | dsimp only | split
theorem writeThresh_spine (l : Nat) (target : Nat) (attn : Nat) (low : Nat) (s : State) :
    (writeThresh l target attn low s).1.spine = s.spine := by
  unfold writeThresh; repeat' first
    | with_reducible rfl | with_reducible refine ite_keep (fun _ => ?_) (fun _ => ?_) | with_reducible refine foldl_keep (fun _ _ => ?_) ?_
    | with_reducible refine dite_keep (fun _ => ?_) (fun _ => ?_) | with_reducible refine (State.setAll_spine ..).trans ?_
    | simp only [spine_mk, spine_eta] | dsimp only | split
theorem State.endSweep_spine (s : State) : (State.endSweep s).spine = s.spine := by
  unfold State.endSweep; repeat' first
    | with_reducible rfl | with_reducible refine ite_keep (fun _ => ?_) (fun _ => ?_) | with_reducible refine foldl_keep (fun _ _ => ?_) ?_
    | with_reducible refine dite_keep (fun _ => ?_) (fun _ => ?_) | with_reducible refine (State.releaseFor_spine ..).trans ?_
    | with_reducible refine (State.setAll_spine ..).trans ?_ | with_reducible refine (State.modLan_spine ..).trans ?_
    | simp only [spine_mk, spine_eta] | dsimp only | split | exact rfl
theorem startSweep_spine (s : State) : (startSweep s).spine = s.spine := by
  unfold startSweep; repeat' first
    | with_reducible rfl | with_reducible refine ite_keep (fun _ => ?_) (fun _ => ?_) | with_reducible refine foldl_keep (fun _ _ => ?_) ?_
    | with_reducible refine dite_keep (fun _ => ?_) (fun _ => ?_) | with_reducible refine (State.set_spine ..).trans ?_
    | with_reducible refine (State.setAll_spine ..).trans ?_ | with_reducible refine (State.modLan_spine ..).trans ?_
    | with_reducible refine (State.requestLeave_spine ..).trans ?_ | with_reducible refine (State.endSweep_spine ..).trans ?_
    | simp only [spine_mk, spine_eta] | dsimp only | split | exact rfl
theorem doSweepLaneDone_spine (l : Nat) (ho : Nat) (vo : Nat) (eye : Nat) (t : Nat) (s0 : State) :
    (doSweepLaneDone l ho vo eye t s0).spine = (s0.at t).spine := by
  unfold doSweepLaneDone; repeat' first
    | with_reducible rfl | with_reducible refine ite_keep (fun _ => ?_) (fun _ => ?_) | with_reducible refine foldl_keep (fun _ _ => ?_) ?_
    | with_reducible refine dite_keep (fun _ => ?_) (fun _ => ?_) | with_reducible refine (State.at_spine ..).trans ?_
    | with_reducible refine (State.setAll_spine ..).trans ?_ | with_reducible refine (State.set_spine ..).trans ?_
    | with_reducible refine (State.endSweep_spine ..).trans ?_ | with_reducible refine (State.modLan_spine ..).trans ?_
    | simp only [spine_mk, spine_eta] | dsimp only | split | exact rfl
theorem doCodewordReceive_spine (p : Nat) (cw : List Nat) (t : Nat) (s0 : State) :
    (doCodewordReceive p cw t s0).spine = (s0.at t).spine := by
  unfold doCodewordReceive; repeat' first
    | with_reducible rfl | with_reducible refine ite_keep (fun _ => ?_) (fun _ => ?_) | with_reducible refine foldl_keep (fun _ _ => ?_) ?_
    | with_reducible refine dite_keep (fun _ => ?_) (fun _ => ?_) | with_reducible refine (State.at_spine ..).trans ?_
    | with_reducible refine (State.nakIf_spine ..).trans ?_ | with_reducible refine (State.modLan_spine ..).trans ?_
    | with_reducible refine (State.badCw_spine ..).trans ?_ | with_reducible refine (State.goodCw_spine ..).trans ?_
    | with_reducible refine (State.reportAt_spine ..).trans ?_ | with_reducible refine (State.bump_spine ..).trans ?_
    | with_reducible refine (State.makeSteps_spine ..).trans ?_ | with_reducible refine (State.countCell_spine ..).trans ?_
    | with_reducible refine ite_keep1 (fun _ => ?_) (fun _ => ?_) | with_reducible refine spine_of ?_ ?_ | simp only [spine_mk, spine_eta]
    | dsimp only | split | exact rfl
theorem onFnl_spine {p : Nat} {act : State → State} {s : State} (h : ∀ u, (act u).spine = u.spine) : (onFnl p act s).spine = s.spine := by
  unfold onFnl; split; exact h s; rfl
theorem doTrain_spine (p : Nat) (b : Sys2Proof.TrainBlock) (s : State) : (doTrain p b s).spine = s.spine := by
  unfold doTrain; repeat' first
    | with_reducible rfl | with_reducible refine ite_keep (fun _ => ?_) (fun _ => ?_) | with_reducible refine foldl_keep (fun _ _ => ?_) ?_
    | with_reducible refine dite_keep (fun _ => ?_) (fun _ => ?_) | with_reducible refine (onFnl_spine (fun _ => ?_)).trans ?_
    | with_reducible refine (State.takeBlock_spine ..).trans ?_ | simp only [spine_mk, spine_eta] | dsimp only | split | exact rfl
theorem doCreditSyncTimeout_spine (p : Nat) (t : Nat) (s0 : State) : (doCreditSyncTimeout p t s0).spine = (s0.at t).spine := by
  unfold doCreditSyncTimeout; repeat' first
    | with_reducible rfl | with_reducible refine ite_keep (fun _ => ?_) (fun _ => ?_) | with_reducible refine foldl_keep (fun _ _ => ?_) ?_
    | with_reducible refine dite_keep (fun _ => ?_) (fun _ => ?_) | with_reducible refine (State.at_spine ..).trans ?_
    | with_reducible refine (State.sendCsync_spine ..).trans ?_ | simp only [spine_mk, spine_eta] | dsimp only | split
theorem doNakTimeout_spine (p : Nat) (t : Nat) (s0 : State) : (doNakTimeout p t s0).spine = (s0.at t).spine := by
  unfold doNakTimeout; repeat' first
    | with_reducible rfl | with_reducible refine ite_keep (fun _ => ?_) (fun _ => ?_) | with_reducible refine foldl_keep (fun _ _ => ?_) ?_
    | with_reducible refine dite_keep (fun _ => ?_) (fun _ => ?_) | with_reducible refine (State.at_spine ..).trans ?_
    | with_reducible refine (State.nakNow_spine ..).trans ?_ | simp only [spine_mk, spine_eta] | dsimp only | split
theorem doReplayTimeout_spine (p : Nat) (t : Nat) (s0 : State) : (doReplayTimeout p t s0).spine = (s0.at t).spine := by
  unfold doReplayTimeout; repeat' first
    | with_reducible rfl | with_reducible refine ite_keep (fun _ => ?_) (fun _ => ?_) | with_reducible refine foldl_keep (fun _ _ => ?_) ?_
    | with_reducible refine dite_keep (fun _ => ?_) (fun _ => ?_) | with_reducible refine (State.at_spine ..).trans ?_
    | with_reducible refine (State.replay_spine ..).trans ?_ | simp only [spine_mk, spine_eta] | dsimp only | split | exact rfl
theorem doFnlTrainingPhase_spine (p : Nat) (good : Nat) (t : Nat) (s0 : State) :
    (doFnlTrainingPhase p good t s0).spine = (s0.at t).spine := by
  unfold doFnlTrainingPhase; repeat' first
    | with_reducible rfl | with_reducible refine ite_keep (fun _ => ?_) (fun _ => ?_) | with_reducible refine foldl_keep (fun _ _ => ?_) ?_
    | with_reducible refine dite_keep (fun _ => ?_) (fun _ => ?_) | with_reducible refine (State.at_spine ..).trans ?_
    | with_reducible refine (State.setFnl_spine ..).trans ?_ | with_reducible refine (State.retire_spine ..).trans ?_
    | with_reducible refine (State.set_spine ..).trans ?_ | simp only [spine_mk, spine_eta] | dsimp only | split | exact rfl
theorem State.resume_spine (s : State) (p : Nat) : (State.resume s p).spine = s.spine := by
  unfold State.resume; repeat' first
    | with_reducible rfl | with_reducible refine ite_keep (fun _ => ?_) (fun _ => ?_) | with_reducible refine foldl_keep (fun _ _ => ?_) ?_
    | with_reducible refine dite_keep (fun _ => ?_) (fun _ => ?_) | with_reducible refine (State.setAll_spine ..).trans ?_
    | with_reducible refine (State.setBuffer_spine ..).trans ?_ | with_reducible refine (State.replay_spine ..).trans ?_
    | with_reducible refine (State.setFnl_spine ..).trans ?_ | simp only [spine_mk, spine_eta] | dsimp only | split | exact rfl
theorem State.freshUp_spine (s : State) (p : Nat) : (State.freshUp s p).spine = s.spine := by
  unfold State.freshUp; repeat' first
    | with_reducible rfl | with_reducible refine ite_keep (fun _ => ?_) (fun _ => ?_) | with_reducible refine foldl_keep (fun _ _ => ?_) ?_
    | with_reducible refine dite_keep (fun _ => ?_) (fun _ => ?_) | with_reducible refine (State.flush_spine ..).trans ?_
    | with_reducible refine (State.setAll_spine ..).trans ?_ | with_reducible refine (State.setFnl_spine ..).trans ?_
    | simp only [spine_mk, spine_eta] | dsimp only | split | exact rfl
theorem doFnlLinkUp_spine (p : Nat) (t : Nat) (s0 : State) : (doFnlLinkUp p t s0).spine = (s0.at t).spine := by
  unfold doFnlLinkUp; repeat' first
    | with_reducible rfl | with_reducible refine ite_keep (fun _ => ?_) (fun _ => ?_) | with_reducible refine foldl_keep (fun _ _ => ?_) ?_
    | with_reducible refine dite_keep (fun _ => ?_) (fun _ => ?_) | with_reducible refine (State.at_spine ..).trans ?_
    | with_reducible refine (State.resume_spine ..).trans ?_ | with_reducible refine (State.freshUp_spine ..).trans ?_
    | with_reducible refine (State.set_spine ..).trans ?_ | with_reducible refine (State.raiseLink_spine ..).trans ?_
    | with_reducible refine (State.setFnl_spine ..).trans ?_ | with_reducible refine (State.emit_spine ..).trans ?_
    | simp only [spine_mk, spine_eta] | dsimp only | split | exact rfl
theorem doPresetResetTimeout_spine (p : Nat) (t : Nat) (s0 : State) : (doPresetResetTimeout p t s0).spine = (s0.at t).spine := by
  unfold doPresetResetTimeout; repeat' first
    | with_reducible rfl | with_reducible refine ite_keep (fun _ => ?_) (fun _ => ?_) | with_reducible refine foldl_keep (fun _ _ => ?_) ?_
    | with_reducible refine dite_keep (fun _ => ?_) (fun _ => ?_) | with_reducible refine (State.at_spine ..).trans ?_
    | with_reducible refine (State.set_spine ..).trans ?_ | with_reducible refine (State.setFnl_spine ..).trans ?_
    | simp only [spine_mk, spine_eta] | dsimp only | split
theorem doWatchEnd_spine (p : Nat) (t : Nat) (s0 : State) : (doWatchEnd p t s0).spine = (s0.at t).spine := by
  unfold doWatchEnd; repeat' first
    | with_reducible rfl | with_reducible refine ite_keep (fun _ => ?_) (fun _ => ?_) | with_reducible refine foldl_keep (fun _ _ => ?_) ?_
    | with_reducible refine dite_keep (fun _ => ?_) (fun _ => ?_) | with_reducible refine (State.at_spine ..).trans ?_
    | with_reducible refine (State.modLnk_spine ..).trans ?_ | with_reducible refine (State.setAll_spine ..).trans ?_
    | simp only [spine_mk, spine_eta] | dsimp only | split
theorem doLossOfSignal_spine (p : Nat) (t : Nat) (s : State) : (doLossOfSignal p t s).spine = (s.at t).spine := by
  unfold doLossOfSignal; repeat' first
    | with_reducible rfl | with_reducible refine ite_keep (fun _ => ?_) (fun _ => ?_) | with_reducible refine foldl_keep (fun _ _ => ?_) ?_
    | with_reducible refine dite_keep (fun _ => ?_) (fun _ => ?_) | with_reducible refine (onFnl_spine (fun _ => ?_)).trans ?_
    | with_reducible refine (State.linkDown_spine ..).trans ?_ | with_reducible refine (State.at_spine ..).trans ?_
    | simp only [spine_mk, spine_eta] | dsimp only | split | exact rfl
theorem doGraceExpired_spine (p : Nat) (t : Nat) (s0 : State) : (doGraceExpired p t s0).spine = (s0.at t).spine := by
  unfold doGraceExpired; repeat' first
    | with_reducible rfl | with_reducible refine ite_keep (fun _ => ?_) (fun _ => ?_) | with_reducible refine foldl_keep (fun _ _ => ?_) ?_
    | with_reducible refine dite_keep (fun _ => ?_) (fun _ => ?_) | with_reducible refine (State.at_spine ..).trans ?_
    | with_reducible refine (State.flush_spine ..).trans ?_ | simp only [spine_mk, spine_eta] | dsimp only | split | exact rfl
theorem resetLink_spine (p : Nat) (s : State) : (resetLink p s).1.spine = s.spine := by
  unfold resetLink; repeat' first
    | with_reducible rfl | with_reducible refine ite_keep (fun _ => ?_) (fun _ => ?_) | with_reducible refine foldl_keep (fun _ _ => ?_) ?_
    | with_reducible refine dite_keep (fun _ => ?_) (fun _ => ?_) | with_reducible refine (State.linkDown_spine ..).trans ?_
    | simp only [spine_mk, spine_eta] | dsimp only | split | exact rfl
theorem State.unretire_spine (s : State) (p : Nat) : (s.unretire p).spine = s.spine := by
  unfold State.unretire; split; exact (State.startTraining_spine ..).trans rfl; rfl
theorem doCxlReplayTimeout_spine (p : Nat) (again : Bool) (t : Nat) (s0 : State) :
    (doCxlReplayTimeout p again t s0).spine = (s0.at t).spine := by
  unfold doCxlReplayTimeout; repeat' first
    | with_reducible rfl | with_reducible refine ite_keep (fun _ => ?_) (fun _ => ?_) | with_reducible refine foldl_keep (fun _ _ => ?_) ?_
    | with_reducible refine dite_keep (fun _ => ?_) (fun _ => ?_) | with_reducible refine (State.at_spine ..).trans ?_
    | with_reducible refine (State.modLnk_spine ..).trans ?_ | with_reducible refine (State.reportAt_spine ..).trans ?_
    | with_reducible refine (State.emit_spine ..).trans ?_ | with_reducible refine (State.bump_spine ..).trans ?_
    | with_reducible refine (State.linkDown_spine ..).trans ?_ | with_reducible refine ite_keep1 (fun _ => ?_) (fun _ => ?_)
    | with_reducible refine spine_of ?_ ?_ | simp only [spine_mk, spine_eta] | dsimp only | split | exact rfl
theorem doLinkDownLeavesWindow_spine (p : Nat) (t : Nat) (s0 : State) : (doLinkDownLeavesWindow p t s0).spine = (s0.at t).spine := by
  unfold doLinkDownLeavesWindow; repeat' first
    | with_reducible rfl | with_reducible refine ite_keep (fun _ => ?_) (fun _ => ?_) | with_reducible refine foldl_keep (fun _ _ => ?_) ?_
    | with_reducible refine dite_keep (fun _ => ?_) (fun _ => ?_) | with_reducible refine (State.at_spine ..).trans ?_
    | with_reducible refine (State.set_spine ..).trans ?_ | with_reducible refine (State.modLnk_spine ..).trans ?_
    | simp only [spine_mk, spine_eta] | dsimp only | split
theorem doCxlDataLinkDown_spine (p : Nat) (t : Nat) (s0 : State) : (doCxlDataLinkDown p t s0).spine = (s0.at t).spine := by
  unfold doCxlDataLinkDown; repeat' first
    | with_reducible rfl | with_reducible refine ite_keep (fun _ => ?_) (fun _ => ?_) | with_reducible refine foldl_keep (fun _ _ => ?_) ?_
    | with_reducible refine dite_keep (fun _ => ?_) (fun _ => ?_) | with_reducible refine (State.at_spine ..).trans ?_
    | with_reducible refine (State.linkDown_spine ..).trans ?_ | simp only [spine_mk, spine_eta] | dsimp only | split | exact rfl
theorem State.apertureDone_spine (s : State) (p : Nat) (id : Nat) (k : Nat) (status : Nat) :
    (State.apertureDone s p id k status).spine = s.spine := by
  unfold State.apertureDone; repeat' first
    | with_reducible rfl | with_reducible refine ite_keep (fun _ => ?_) (fun _ => ?_) | with_reducible refine foldl_keep (fun _ _ => ?_) ?_
    | with_reducible refine dite_keep (fun _ => ?_) (fun _ => ?_) | with_reducible refine (State.homeReply_spine ..).trans ?_
    | simp only [spine_mk, spine_eta] | dsimp only | split
theorem State.commandSlot_spine (s : State) (k : Nat) (off : Nat) (b : List Nat) : (State.commandSlot s k off b).spine = s.spine := by
  unfold State.commandSlot; repeat' first
    | with_reducible rfl | with_reducible refine ite_keep (fun _ => ?_) (fun _ => ?_) | with_reducible refine foldl_keep (fun _ _ => ?_) ?_
    | with_reducible refine dite_keep (fun _ => ?_) (fun _ => ?_) | with_reducible refine (State.bump_spine ..).trans ?_
    | with_reducible refine (State.setLrec_spine ..).trans ?_ | with_reducible refine (State.modLod_spine ..).trans ?_
    | simp only [spine_mk, spine_eta] | dsimp only | split
theorem State.descriptorSlot_spine (s : State) (k : Nat) (off : Nat) (b : List Nat) : (State.descriptorSlot s k off b).spine = s.spine := by
  unfold State.descriptorSlot; repeat' first
    | with_reducible rfl | with_reducible refine ite_keep (fun _ => ?_) (fun _ => ?_) | with_reducible refine foldl_keep (fun _ _ => ?_) ?_
    | with_reducible refine dite_keep (fun _ => ?_) (fun _ => ?_) | with_reducible refine (State.setCrec_spine ..).trans ?_
    | with_reducible refine (State.bump_spine ..).trans ?_ | with_reducible refine (State.queueJob_spine ..).trans ?_
    | simp only [spine_mk, spine_eta] | dsimp only | split
theorem State.ingressClass_spine (s : State) (p k : Nat) (kind : Sys2Proof.MsgKind) (fc : Sys2Proof.FcClass) (addr hclass hcolour bytes : Nat) :
    (s.ingressClass p k kind fc addr hclass hcolour bytes).2.2.spine = s.spine := by
  unfold State.ingressClass; dsimp only
  refine (State.colour_spine ..).trans ?_; split
  · exact State.bump_spine ..
  · rfl
theorem doApertureWrite_spine (p id : Nat) (h : Sys2Proof.SyncHeader) (off : Nat) (bytes : List (Fin 256)) (t : Nat) (s0 : State) :
    (doApertureWrite p id h off bytes t s0).spine = (s0.at t).spine := by
  unfold doApertureWrite; repeat' first
    | with_reducible rfl | with_reducible refine (State.apertureDone_spine ..).trans ?_
    | with_reducible refine (State.gateCheck_spine ..).trans ?_ | with_reducible refine (State.raise_spine ..).trans ?_
    | with_reducible refine (State.commandSlot_spine ..).trans ?_ | with_reducible refine (State.bump_spine ..).trans ?_
    | with_reducible refine (State.refuseBerthless_spine ..).trans ?_ | with_reducible refine (State.ingressClass_spine ..).trans ?_
    | with_reducible refine (State.descriptorSlot_spine ..).trans ?_ | dsimp only | split
theorem doLodestarOp_spine (opc : Nat) (ch : Nat) (k : Nat) (t : Nat) (s0 : State) :
    (doLodestarOp opc ch k t s0).spine = (s0.at t).spine := by
  unfold doLodestarOp; repeat' first
    | with_reducible rfl | with_reducible refine ite_keep (fun _ => ?_) (fun _ => ?_) | with_reducible refine foldl_keep (fun _ _ => ?_) ?_
    | with_reducible refine dite_keep (fun _ => ?_) (fun _ => ?_) | with_reducible refine (State.at_spine ..).trans ?_
    | with_reducible refine (State.sendResult_spine ..).trans ?_ | with_reducible refine (State.runHeld_spine ..).trans ?_
    | with_reducible refine (State.runCmd_spine ..).trans ?_ | with_reducible refine ite_keep1 (fun _ => ?_) (fun _ => ?_)
    | with_reducible refine spine_of ?_ ?_ | simp only [spine_mk, spine_eta] | dsimp only | split | exact rfl
theorem doLodestarResultReturn_spine (ch : Nat) (k : Nat) (t : Nat) (s0 : State) :
    (doLodestarResultReturn ch k t s0).spine = (s0.at t).spine := by
  unfold doLodestarResultReturn; repeat' first
    | with_reducible rfl | with_reducible refine ite_keep (fun _ => ?_) (fun _ => ?_) | with_reducible refine foldl_keep (fun _ _ => ?_) ?_
    | with_reducible refine dite_keep (fun _ => ?_) (fun _ => ?_) | with_reducible refine (State.at_spine ..).trans ?_
    | with_reducible refine (State.modLod_spine ..).trans ?_ | with_reducible refine (State.setLrec_spine ..).trans ?_
    | simp only [spine_mk, spine_eta] | dsimp only | split
theorem doParkedTimeout_spine (ch : Nat) (k : Nat) (t : Nat) (s0 : State) : (doParkedTimeout ch k t s0).spine = (s0.at t).spine := by
  unfold doParkedTimeout; repeat' first
    | with_reducible rfl | with_reducible refine ite_keep (fun _ => ?_) (fun _ => ?_) | with_reducible refine foldl_keep (fun _ _ => ?_) ?_
    | with_reducible refine dite_keep (fun _ => ?_) (fun _ => ?_) | with_reducible refine (State.at_spine ..).trans ?_
    | with_reducible refine (State.noteGroups_spine ..).trans ?_ | with_reducible refine (State.leaveParked_spine ..).trans ?_
    | simp only [spine_mk, spine_eta] | dsimp only | split
theorem doAllWaitingFreeze_spine (gid : Nat) (t : Nat) (s0 : State) : (doAllWaitingFreeze gid t s0).spine = (s0.at t).spine := by
  unfold doAllWaitingFreeze; repeat' first
    | with_reducible rfl | with_reducible refine ite_keep (fun _ => ?_) (fun _ => ?_) | with_reducible refine foldl_keep (fun _ _ => ?_) ?_
    | with_reducible refine dite_keep (fun _ => ?_) (fun _ => ?_) | with_reducible refine (State.at_spine ..).trans ?_
    | with_reducible refine (State.modLod_spine ..).trans ?_ | simp only [spine_mk, spine_eta] | dsimp only | split
theorem doAllWaitingDecision_spine (gid : Nat) (t : Nat) (s0 : State) : (doAllWaitingDecision gid t s0).spine = (s0.at t).spine := by
  unfold doAllWaitingDecision; repeat' first
    | with_reducible rfl | with_reducible refine ite_keep (fun _ => ?_) (fun _ => ?_) | with_reducible refine foldl_keep (fun _ _ => ?_) ?_
    | with_reducible refine dite_keep (fun _ => ?_) (fun _ => ?_) | with_reducible refine (State.at_spine ..).trans ?_
    | with_reducible refine (State.leaveParked_spine ..).trans ?_ | with_reducible refine (State.raise_spine ..).trans ?_
    | with_reducible refine (State.modLod_spine ..).trans ?_ | with_reducible refine (State.noteGroups_spine ..).trans ?_
    | with_reducible refine (State.runHeld_spine ..).trans ?_ | with_reducible refine (State.bump_spine ..).trans ?_
    | simp only [spine_mk, spine_eta] | dsimp only | split | exact rfl
theorem clearLdsPeak_spine (n : Nat) (s : State) : (clearLdsPeak n s).spine = s.spine := by
  unfold clearLdsPeak; repeat' first
    | with_reducible rfl | with_reducible refine ite_keep (fun _ => ?_) (fun _ => ?_) | with_reducible refine foldl_keep (fun _ _ => ?_) ?_
    | with_reducible refine dite_keep (fun _ => ?_) (fun _ => ?_) | with_reducible refine (State.set_spine ..).trans ?_
    | simp only [spine_mk, spine_eta] | dsimp only | split
theorem doCopyJobStart_spine (g : Fin 8) (t : Nat) (s0 : State) : (doCopyJobStart g t s0).spine = (s0.at t).spine := by
  unfold doCopyJobStart; repeat' first
    | with_reducible rfl | with_reducible refine ite_keep (fun _ => ?_) (fun _ => ?_) | with_reducible refine foldl_keep (fun _ _ => ?_) ?_
    | with_reducible refine dite_keep (fun _ => ?_) (fun _ => ?_) | with_reducible refine (State.at_spine ..).trans ?_
    | with_reducible refine (State.requestLeave_spine ..).trans ?_ | with_reducible refine (State.modCpy_spine ..).trans ?_
    | simp only [spine_mk, spine_eta] | dsimp only | split | exact rfl
theorem doCopyChunkDone_spine (g : Nat) (data : List Nat) (dirty : List Nat) (t : Nat) (s0 : State) :
    (doCopyChunkDone g data dirty t s0).spine = (s0.at t).spine := by
  unfold doCopyChunkDone; repeat' first
    | with_reducible rfl | with_reducible refine ite_keep (fun _ => ?_) (fun _ => ?_) | with_reducible refine foldl_keep (fun _ _ => ?_) ?_
    | with_reducible refine dite_keep (fun _ => ?_) (fun _ => ?_) | with_reducible refine (State.takeReplies_spine ..).trans ?_
    | with_reducible refine (State.at_spine ..).trans ?_ | with_reducible refine (State.beginChunk_spine ..).trans ?_
    | with_reducible refine (State.endChunk_spine ..).trans ?_ | simp only [spine_mk, spine_eta] | dsimp only | split | exact rfl
theorem doCopyLeaveWaitExpired_spine (g : Fin 8) (t : Nat) (s0 : State) : (doCopyLeaveWaitExpired g t s0).spine = (s0.at t).spine := by
  unfold doCopyLeaveWaitExpired; repeat' first
    | with_reducible rfl | with_reducible refine ite_keep (fun _ => ?_) (fun _ => ?_) | with_reducible refine foldl_keep (fun _ _ => ?_) ?_
    | with_reducible refine dite_keep (fun _ => ?_) (fun _ => ?_) | with_reducible refine (State.at_spine ..).trans ?_
    | with_reducible refine (State.endJob_spine ..).trans ?_ | with_reducible refine (State.modCpy_spine ..).trans ?_
    | with_reducible refine (State.withdrawFor_spine ..).trans ?_ | simp only [spine_mk, spine_eta] | dsimp only | split | exact rfl
theorem doCopyLeaveRenew_spine (g : Fin 8) (t : Nat) (s0 : State) : (doCopyLeaveRenew g t s0).spine = (s0.at t).spine := by
  unfold doCopyLeaveRenew; repeat' first
    | with_reducible rfl | with_reducible refine ite_keep (fun _ => ?_) (fun _ => ?_) | with_reducible refine foldl_keep (fun _ _ => ?_) ?_
    | with_reducible refine dite_keep (fun _ => ?_) (fun _ => ?_) | with_reducible refine (State.at_spine ..).trans ?_
    | with_reducible refine (State.set_spine ..).trans ?_ | with_reducible refine (State.renewSlip_spine ..).trans ?_
    | with_reducible refine (State.requestLeave_spine ..).trans ?_ | simp only [spine_mk, spine_eta] | dsimp only | split | exact rfl
theorem doCopyEngineFailure_spine (g : Nat) (t : Nat) (s0 : State) : (doCopyEngineFailure g t s0).spine = (s0.at t).spine := by
  unfold doCopyEngineFailure; repeat' first
    | with_reducible rfl | with_reducible refine ite_keep (fun _ => ?_) (fun _ => ?_) | with_reducible refine foldl_keep (fun _ _ => ?_) ?_
    | with_reducible refine dite_keep (fun _ => ?_) (fun _ => ?_) | with_reducible refine (State.failEngine_spine ..).trans ?_
    | with_reducible refine (State.takeReaction_spine ..).trans ?_ | with_reducible refine (State.at_spine ..).trans ?_
    | simp only [spine_mk, spine_eta] | dsimp only | split | exact rfl
theorem submitCopy_spine (g : Nat) (s : State) : (submitCopy g s).spine = s.spine := by
  unfold submitCopy; repeat' first
    | with_reducible rfl | with_reducible refine ite_keep (fun _ => ?_) (fun _ => ?_) | with_reducible refine foldl_keep (fun _ _ => ?_) ?_
    | with_reducible refine dite_keep (fun _ => ?_) (fun _ => ?_) | with_reducible refine (State.queueJob_spine ..).trans ?_
    | with_reducible refine (State.set_spine ..).trans ?_ | with_reducible refine (State.setMgtDone_spine ..).trans ?_
    | with_reducible refine (State.bump_spine ..).trans ?_ | simp only [spine_mk, spine_eta] | dsimp only | split
theorem doSeamSlotReceive_spine (o : Nat) (id : Nat) (idx : Nat) (l : Nat) (h : Nat) (data : Nat) (sp0 : Nat) (sp1 : Nat) (rose : Bool)
    (t : Nat) (s0 : State) : (doSeamSlotReceive o id idx l h data sp0 sp1 rose t s0).spine = (s0.at t).spine := by
  unfold doSeamSlotReceive; repeat' first
    | with_reducible rfl | with_reducible refine ite_keep (fun _ => ?_) (fun _ => ?_) | with_reducible refine foldl_keep (fun _ _ => ?_) ?_
    | with_reducible refine dite_keep (fun _ => ?_) (fun _ => ?_) | with_reducible refine (State.at_spine ..).trans ?_
    | with_reducible refine (State.crossed_spine ..).trans ?_ | with_reducible refine (State.segmentBad_spine ..).trans ?_
    | with_reducible refine (State.segmentIn_spine ..).trans ?_ | simp only [spine_mk, spine_eta] | dsimp only | split | exact rfl
theorem doSeamResendReceive_spine (o : Nat) (id : Nat) (idx : Nat) (l : Nat) (h : Nat) (data : Nat) (sp0 : Nat) (sp1 : Nat) (rose : Bool)
    (t : Nat) (s0 : State) : (doSeamResendReceive o id idx l h data sp0 sp1 rose t s0).spine = (s0.at t).spine := by
  unfold doSeamResendReceive; repeat' first
    | with_reducible rfl | with_reducible refine ite_keep (fun _ => ?_) (fun _ => ?_) | with_reducible refine foldl_keep (fun _ _ => ?_) ?_
    | with_reducible refine dite_keep (fun _ => ?_) (fun _ => ?_) | with_reducible refine (State.at_spine ..).trans ?_
    | with_reducible refine (State.segmentBad_spine ..).trans ?_ | with_reducible refine (State.segmentIn_spine ..).trans ?_
    | with_reducible refine (State.modSeam_spine ..).trans ?_ | with_reducible refine (State.wireError_spine ..).trans ?_
    | simp only [spine_mk, spine_eta] | dsimp only | split | exact rfl
theorem commandReset_spine (g : Nat) (l : Nat) (s : State) : (commandReset g l s).spine = s.spine := by
  unfold commandReset; repeat' first
    | with_reducible rfl | with_reducible refine ite_keep (fun _ => ?_) (fun _ => ?_) | with_reducible refine foldl_keep (fun _ _ => ?_) ?_
    | with_reducible refine dite_keep (fun _ => ?_) (fun _ => ?_) | with_reducible refine (State.resetPlane_spine ..).trans ?_
    | simp only [spine_mk, spine_eta] | dsimp only | split
theorem State.applySpares_spine (s : State) (g : Nat) (l : Nat) : (State.applySpares s g l).spine = s.spine := by
  unfold State.applySpares; repeat' first
    | with_reducible rfl | with_reducible refine ite_keep (fun _ => ?_) (fun _ => ?_) | with_reducible refine foldl_keep (fun _ _ => ?_) ?_
    | with_reducible refine dite_keep (fun _ => ?_) (fun _ => ?_) | with_reducible refine (State.set_spine ..).trans ?_
    | with_reducible refine (State.setAll_spine ..).trans ?_ | simp only [spine_mk, spine_eta] | dsimp only | split
theorem doSeamResetDone_spine (g : Nat) (l : Nat) (t : Nat) (s0 : State) : (doSeamResetDone g l t s0).spine = (s0.at t).spine := by
  unfold doSeamResetDone; repeat' first
    | with_reducible rfl | with_reducible refine ite_keep (fun _ => ?_) (fun _ => ?_) | with_reducible refine foldl_keep (fun _ _ => ?_) ?_
    | with_reducible refine dite_keep (fun _ => ?_) (fun _ => ?_) | with_reducible refine (State.at_spine ..).trans ?_
    | with_reducible refine (State.setMode_spine ..).trans ?_ | with_reducible refine (State.bump_spine ..).trans ?_
    | with_reducible refine (State.set_spine ..).trans ?_ | with_reducible refine (State.applySpares_spine ..).trans ?_
    | with_reducible refine (State.resetPlane_spine ..).trans ?_ | with_reducible refine (State.modSeam_spine ..).trans ?_
    | simp only [spine_mk, spine_eta] | dsimp only | split
theorem doRosePlaneLoss_spine (l : Nat) (t : Nat) (s0 : State) : (doRosePlaneLoss l t s0).spine = (s0.at t).spine := by
  unfold doRosePlaneLoss; repeat' first
    | with_reducible rfl | with_reducible refine ite_keep (fun _ => ?_) (fun _ => ?_) | with_reducible refine foldl_keep (fun _ _ => ?_) ?_
    | with_reducible refine dite_keep (fun _ => ?_) (fun _ => ?_) | with_reducible refine (State.takeReaction_spine ..).trans ?_
    | with_reducible refine (State.at_spine ..).trans ?_ | with_reducible refine (State.resendRing_spine ..).trans ?_
    | with_reducible refine (State.raise_spine ..).trans ?_ | with_reducible refine (State.setAll_spine ..).trans ?_
    | with_reducible refine (State.report_spine ..).trans ?_ | simp only [spine_mk, spine_eta] | dsimp only | split | exact rfl
theorem doRegenRelockTimeout_spine (g : Nat) (t : Nat) (s0 : State) : (doRegenRelockTimeout g t s0).spine = (s0.at t).spine := by
  unfold doRegenRelockTimeout; repeat' first
    | with_reducible rfl | with_reducible refine ite_keep (fun _ => ?_) (fun _ => ?_) | with_reducible refine foldl_keep (fun _ _ => ?_) ?_
    | with_reducible refine dite_keep (fun _ => ?_) (fun _ => ?_) | with_reducible refine (State.at_spine ..).trans ?_
    | with_reducible refine (State.regionOut_spine ..).trans ?_ | with_reducible refine (State.takeReaction_spine ..).trans ?_
    | simp only [spine_mk, spine_eta] | dsimp only | split | exact rfl
theorem doRegeneratorRelock_spine (g : Nat) (l : Nat) (t : Nat) (s0 : State) : (doRegeneratorRelock g l t s0).spine = (s0.at t).spine := by
  unfold doRegeneratorRelock; repeat' first
    | with_reducible rfl | with_reducible refine ite_keep (fun _ => ?_) (fun _ => ?_) | with_reducible refine foldl_keep (fun _ _ => ?_) ?_
    | with_reducible refine dite_keep (fun _ => ?_) (fun _ => ?_) | with_reducible refine (State.resetPlane_spine ..).trans ?_
    | with_reducible refine (State.set_spine ..).trans ?_ | with_reducible refine (State.at_spine ..).trans ?_
    | simp only [spine_mk, spine_eta] | dsimp only | split
theorem State.stage_spine (s : State) (m : Msg) : (State.stage s m).spine = s.spine := by
  unfold State.stage; repeat' first
    | with_reducible rfl | with_reducible refine ite_keep (fun _ => ?_) (fun _ => ?_) | with_reducible refine foldl_keep (fun _ _ => ?_) ?_
    | with_reducible refine dite_keep (fun _ => ?_) (fun _ => ?_) | with_reducible refine (State.countCell_spine ..).trans ?_
    | with_reducible refine (State.notePeak_spine ..).trans ?_ | with_reducible refine (State.modCore_spine ..).trans ?_
    | with_reducible refine (State.returnCredits_spine ..).trans ?_ | simp only [spine_mk, spine_eta] | dsimp only | split
theorem State.responseIn_spine (s : State) (p : Nat) (h : Sys2Proof.MsgHeader) : (State.responseIn s p h).spine = s.spine := by
  unfold State.responseIn; repeat' first
    | with_reducible rfl | with_reducible refine ite_keep (fun _ => ?_) (fun _ => ?_) | with_reducible refine foldl_keep (fun _ _ => ?_) ?_
    | with_reducible refine dite_keep (fun _ => ?_) (fun _ => ?_) | with_reducible refine (State.bump_spine ..).trans ?_
    | with_reducible refine (State.emit_spine ..).trans ?_ | with_reducible refine (State.stage_spine ..).trans ?_
    | with_reducible refine (State.modCore_spine ..).trans ?_ | simp only [spine_mk, spine_eta] | dsimp only | split
theorem State.takeToBolt_spine (s : State) (m : Msg) (tb : Nat) (ta : Nat) (p : Nat) : (State.takeToBolt s m tb ta p).spine = s.spine := by
  unfold State.takeToBolt; repeat' first
    | with_reducible rfl | with_reducible refine ite_keep (fun _ => ?_) (fun _ => ?_) | with_reducible refine foldl_keep (fun _ _ => ?_) ?_
    | with_reducible refine dite_keep (fun _ => ?_) (fun _ => ?_) | with_reducible refine (State.dropStaged_spine ..).trans ?_
    | with_reducible refine (State.writeSeg_spine ..).trans ?_ | with_reducible refine (State.blockSlot_spine ..).trans ?_
    | with_reducible refine (State.modCore_spine ..).trans ?_ | with_reducible refine (State.set_spine ..).trans ?_
    | with_reducible refine (State.countCell_spine ..).trans ?_ | with_reducible refine (State.count_spine ..).trans ?_
    | with_reducible refine (State.bump_spine ..).trans ?_ | with_reducible refine ite_keep1 (fun _ => ?_) (fun _ => ?_)
    | with_reducible refine spine_of ?_ ?_ | simp only [spine_mk, spine_eta] | dsimp only | split | exact rfl
theorem State.segmentGrant_spine (s : State) (o : Nat) (m : Msg) : (State.segmentGrant s o m).spine = s.spine := by
  unfold State.segmentGrant; repeat' first
    | with_reducible rfl | with_reducible refine ite_keep (fun _ => ?_) (fun _ => ?_) | with_reducible refine foldl_keep (fun _ _ => ?_) ?_
    | with_reducible refine dite_keep (fun _ => ?_) (fun _ => ?_) | with_reducible refine (State.modCore_spine ..).trans ?_
    | simp only [spine_mk, spine_eta] | dsimp only | split
theorem doSegmentRelease_spine (o : Nat) (t : Nat) (s0 : State) : (doSegmentRelease o t s0).spine = (s0.at t).spine := by
  unfold doSegmentRelease; repeat' first
    | with_reducible rfl | with_reducible refine ite_keep (fun _ => ?_) (fun _ => ?_) | with_reducible refine foldl_keep (fun _ _ => ?_) ?_
    | with_reducible refine dite_keep (fun _ => ?_) (fun _ => ?_) | with_reducible refine (State.at_spine ..).trans ?_
    | with_reducible refine (State.fillOn_spine ..).trans ?_ | with_reducible refine (State.countCell_spine ..).trans ?_
    | with_reducible refine (State.sendCw_spine ..).trans ?_ | with_reducible refine (State.readSeg_spine ..).trans ?_
    | with_reducible refine (State.count_spine ..).trans ?_ | with_reducible refine (State.endMsg_spine ..).trans ?_
    | with_reducible refine (State.modCore_spine ..).trans ?_ | with_reducible refine (State.segmentGrant_spine ..).trans ?_
    | with_reducible refine ite_keep1 (fun _ => ?_) (fun _ => ?_) | with_reducible refine spine_of ?_ ?_ | simp only [spine_mk, spine_eta]
    | dsimp only | split | exact rfl
theorem State.admissionTurn_spine (s : State) (p : Nat) (fc : Sys2Proof.FcClass) (g : Nat) :
    (State.admissionTurn s p fc g).2.spine = s.spine := by
  unfold State.admissionTurn; repeat' first
    | with_reducible rfl | with_reducible refine ite_keep (fun _ => ?_) (fun _ => ?_) | with_reducible refine foldl_keep (fun _ _ => ?_) ?_
    | with_reducible refine dite_keep (fun _ => ?_) (fun _ => ?_) | with_reducible refine (State.slotGrant_spine ..).trans ?_
    | with_reducible refine (State.modCore_spine ..).trans ?_ | with_reducible refine ite_keep1 (fun _ => ?_) (fun _ => ?_)
    | with_reducible refine spine_of ?_ ?_ | simp only [spine_mk, spine_eta] | dsimp only | split | exact rfl
theorem State.decideHead_spine (s : State) (p : Nat) (fc : Sys2Proof.FcClass) (g : Nat) : (State.decideHead s p fc g).spine = s.spine := by
  unfold State.decideHead; repeat' first
    | with_reducible rfl | with_reducible refine ite_keep (fun _ => ?_) (fun _ => ?_) | with_reducible refine foldl_keep (fun _ _ => ?_) ?_
    | with_reducible refine dite_keep (fun _ => ?_) (fun _ => ?_) | with_reducible refine (State.count_spine ..).trans ?_
    | with_reducible refine (State.linkDownReply_spine ..).trans ?_ | with_reducible refine (State.dropStaged_spine ..).trans ?_
    | with_reducible refine (State.creditedFirst_spine ..).trans ?_ | with_reducible refine (State.countCell_spine ..).trans ?_
    | with_reducible refine (State.takeToBolt_spine ..).trans ?_ | with_reducible refine ite_keep1 (fun _ => ?_) (fun _ => ?_)
    | with_reducible refine spine_of ?_ ?_ | simp only [spine_mk, spine_eta] | dsimp only | split | exact rfl
theorem doAdmissionRequest_spine (p : Nat) (fc : Sys2Proof.FcClass) (g t : Nat) (s0 : State) :
    (doAdmissionRequest p fc g t s0).spine = (s0.at t).spine := by
  unfold doAdmissionRequest; dsimp only
  have h := State.admissionTurn_spine (s0.at t) p fc g
  split <;> rename_i e <;> rw [e] at h
  · exact h
  · exact (State.decideHead_spine ..).trans h
theorem State.startMsg_spine (s : State) (o : Nat) (t : Nat) (d : Dwrr) (a : Arb) (m : Msg) :
    (State.startMsg s o t d a m).spine = s.spine := by
  unfold State.startMsg; repeat' first
    | with_reducible rfl | with_reducible refine ite_keep (fun _ => ?_) (fun _ => ?_) | with_reducible refine foldl_keep (fun _ _ => ?_) ?_
    | with_reducible refine dite_keep (fun _ => ?_) (fun _ => ?_) | with_reducible refine (State.modCore_spine ..).trans ?_
    | with_reducible refine (State.shaperSend_spine ..).trans ?_ | simp only [spine_mk, spine_eta] | dsimp only | split
theorem State.sendChecked_spine (s : State) (o t : Nat) (d : Dwrr) (a : Arb) (m : Msg) : (s.sendChecked o t d a m).spine = s.spine := by
  have k := State.egressCheck_spine s o m
  unfold State.sendChecked; split <;> rename_i s1 h <;> rw [h] at k <;> repeat' first | with_reducible rfl | with_reducible refine ite_keep (fun _ => ?_) (fun _ => ?_) | with_reducible refine foldl_keep (fun _ _ => ?_) ?_ | with_reducible refine dite_keep (fun _ => ?_) (fun _ => ?_) | with_reducible refine (State.egressCheck_spine ..).trans ?_ | with_reducible refine (State.spendCredits_spine ..).trans ?_ | with_reducible refine (State.startMsg_spine ..).trans ?_ | with_reducible refine (State.emit_spine ..).trans ?_ | with_reducible refine (State.dropBolt_spine ..).trans ?_ | with_reducible refine (State.modCore_spine ..).trans ?_ | exact k | with_reducible refine ite_keep1 (fun _ => ?_) (fun _ => ?_) | with_reducible refine spine_of ?_ ?_ | simp only [spine_mk, spine_eta] | dsimp only | split | exact rfl
theorem doOutputNextMessage_spine (o : Nat) (t : Nat) (s0 : State) : (doOutputNextMessage o t s0).spine = (s0.at t).spine := by
  unfold doOutputNextMessage; repeat' first
    | with_reducible rfl | with_reducible refine ite_keep (fun _ => ?_) (fun _ => ?_) | with_reducible refine foldl_keep (fun _ _ => ?_) ?_
    | with_reducible refine dite_keep (fun _ => ?_) (fun _ => ?_) | with_reducible refine (State.at_spine ..).trans ?_
    | with_reducible refine (State.turnAway_spine ..).trans ?_ | with_reducible refine (State.dropBolt_spine ..).trans ?_
    | with_reducible refine (State.sendChecked_spine ..).trans ?_ | simp only [spine_mk, spine_eta] | dsimp only | split | exact rfl
theorem doCutThroughGap_spine (o : Nat) (slots : Nat) (t : Nat) (s0 : State) : (doCutThroughGap o slots t s0).spine = (s0.at t).spine := by
  unfold doCutThroughGap; repeat' first
    | with_reducible rfl | with_reducible refine ite_keep (fun _ => ?_) (fun _ => ?_) | with_reducible refine foldl_keep (fun _ _ => ?_) ?_
    | with_reducible refine dite_keep (fun _ => ?_) (fun _ => ?_) | with_reducible refine (State.at_spine ..).trans ?_
    | with_reducible refine (State.modCore_spine ..).trans ?_ | with_reducible refine (State.count_spine ..).trans ?_
    | with_reducible refine (State.bump_spine ..).trans ?_ | with_reducible refine (State.emit_spine ..).trans ?_
    | with_reducible refine ite_keep1 (fun _ => ?_) (fun _ => ?_) | with_reducible refine spine_of ?_ ?_ | simp only [spine_mk, spine_eta]
    | dsimp only | split | exact rfl
theorem doPoisonFill_spine (o : Nat) (t : Nat) (s0 : State) : (doPoisonFill o t s0).spine = (s0.at t).spine := by
  unfold doPoisonFill; repeat' first
    | with_reducible rfl | with_reducible refine ite_keep (fun _ => ?_) (fun _ => ?_) | with_reducible refine foldl_keep (fun _ _ => ?_) ?_
    | with_reducible refine dite_keep (fun _ => ?_) (fun _ => ?_) | with_reducible refine (State.at_spine ..).trans ?_
    | with_reducible refine (State.fillMsg_spine ..).trans ?_ | simp only [spine_mk, spine_eta] | dsimp only | split
theorem doDemotionEnd_spine (g : Nat) (p : Nat) (cls : Nat) (t : Nat) (s0 : State) :
    (doDemotionEnd g p cls t s0).spine = (s0.at t).spine := by
  unfold doDemotionEnd; repeat' first
    | with_reducible rfl | with_reducible refine ite_keep (fun _ => ?_) (fun _ => ?_) | with_reducible refine foldl_keep (fun _ _ => ?_) ?_
    | with_reducible refine dite_keep (fun _ => ?_) (fun _ => ?_) | with_reducible refine (State.at_spine ..).trans ?_
    | with_reducible refine (State.modCore_spine ..).trans ?_ | with_reducible refine (State.setFlag_spine ..).trans ?_
    | simp only [spine_mk, spine_eta] | dsimp only | split
theorem doWeightRefresh_spine (t : Nat) (s0 : State) : (doWeightRefresh t s0).spine = (s0.at t).spine := by
  unfold doWeightRefresh; repeat' first
    | with_reducible rfl | with_reducible refine ite_keep (fun _ => ?_) (fun _ => ?_) | with_reducible refine foldl_keep (fun _ _ => ?_) ?_
    | with_reducible refine dite_keep (fun _ => ?_) (fun _ => ?_) | with_reducible refine (State.at_spine ..).trans ?_
    | with_reducible refine (State.setAll_spine ..).trans ?_ | with_reducible refine (State.set_spine ..).trans ?_
    | with_reducible refine (State.modCore_spine ..).trans ?_ | simp only [spine_mk, spine_eta] | dsimp only | split
theorem doShaperSlot_spine (o : Nat) (j : Nat) (t : Nat) (s0 : State) : (doShaperSlot o j t s0).spine = (s0.at t).spine := by
  unfold doShaperSlot; repeat' first
    | with_reducible rfl | with_reducible refine ite_keep (fun _ => ?_) (fun _ => ?_) | with_reducible refine foldl_keep (fun _ _ => ?_) ?_
    | with_reducible refine dite_keep (fun _ => ?_) (fun _ => ?_) | with_reducible refine (State.at_spine ..).trans ?_
    | with_reducible refine (State.shaperSlot_spine ..).trans ?_ | simp only [spine_mk, spine_eta] | dsimp only | split
theorem doQueueSample_spine (g : Nat) (t : Nat) (s0 : State) : (doQueueSample g t s0).spine = (s0.at t).spine := by
  unfold doQueueSample; repeat' first
    | with_reducible rfl | with_reducible refine ite_keep (fun _ => ?_) (fun _ => ?_) | with_reducible refine foldl_keep (fun _ _ => ?_) ?_
    | with_reducible refine dite_keep (fun _ => ?_) (fun _ => ?_) | with_reducible refine (State.at_spine ..).trans ?_
    | with_reducible refine (State.bump_spine ..).trans ?_ | simp only [spine_mk, spine_eta] | dsimp only | split
theorem clearHistograms_spine (g : Nat) (s : State) : (clearHistograms g s).spine = s.spine := by
  unfold clearHistograms; repeat' first
    | with_reducible rfl | with_reducible refine ite_keep (fun _ => ?_) (fun _ => ?_) | with_reducible refine foldl_keep (fun _ _ => ?_) ?_
    | with_reducible refine dite_keep (fun _ => ?_) (fun _ => ?_) | with_reducible refine (State.set_spine ..).trans ?_
    | simp only [spine_mk, spine_eta] | dsimp only | split
theorem doHistogramClearDone_spine (g : Nat) (t : Nat) (s0 : State) : (doHistogramClearDone g t s0).spine = (s0.at t).spine := by
  unfold doHistogramClearDone; repeat' first
    | with_reducible rfl | with_reducible refine ite_keep (fun _ => ?_) (fun _ => ?_) | with_reducible refine foldl_keep (fun _ _ => ?_) ?_
    | with_reducible refine dite_keep (fun _ => ?_) (fun _ => ?_) | with_reducible refine (State.at_spine ..).trans ?_
    | with_reducible refine (State.set_spine ..).trans ?_ | with_reducible refine (State.resetRange_spine ..).trans ?_
    | simp only [spine_mk, spine_eta] | dsimp only | split
theorem clearCtstat_spine (g : Nat) (s : State) : (clearCtstat g s).spine = s.spine := by
  unfold clearCtstat; repeat' first
    | with_reducible rfl | with_reducible refine ite_keep (fun _ => ?_) (fun _ => ?_) | with_reducible refine foldl_keep (fun _ _ => ?_) ?_
    | with_reducible refine dite_keep (fun _ => ?_) (fun _ => ?_) | with_reducible refine (State.setAll_spine ..).trans ?_
    | simp only [spine_mk, spine_eta] | dsimp only | split
theorem clearStgPeak_spine (p : Nat) (s : State) : (clearStgPeak p s).spine = s.spine := by
  unfold clearStgPeak; repeat' first
    | with_reducible rfl | with_reducible refine ite_keep (fun _ => ?_) (fun _ => ?_) | with_reducible refine foldl_keep (fun _ _ => ?_) ?_
    | with_reducible refine dite_keep (fun _ => ?_) (fun _ => ?_) | with_reducible refine (State.set_spine ..).trans ?_
    | simp only [spine_mk, spine_eta] | dsimp only | split
theorem clearStale_spine (p : Nat) (s : State) : (clearStale p s).spine = s.spine := by
  unfold clearStale; repeat' first
    | with_reducible rfl | with_reducible refine ite_keep (fun _ => ?_) (fun _ => ?_) | with_reducible refine foldl_keep (fun _ _ => ?_) ?_
    | with_reducible refine dite_keep (fun _ => ?_) (fun _ => ?_) | with_reducible refine (State.setAll_spine ..).trans ?_
    | simp only [spine_mk, spine_eta] | dsimp only | split
theorem State.mctpControl_spine {s : State} {path : MgtPath} {act : State → State} (h : ∀ u, (act u).spine = u.spine) :
    (s.mctpControl path act).spine = s.spine := by
  unfold State.mctpControl; split; exact h s; rfl
theorem doSetEndpointId_spine (path : Sys2Proof.MgtPath) (eid : Nat) (s : State) : (doSetEndpointId path eid s).spine = s.spine := by
  unfold doSetEndpointId; repeat' first
    | with_reducible rfl | with_reducible refine ite_keep (fun _ => ?_) (fun _ => ?_) | with_reducible refine foldl_keep (fun _ _ => ?_) ?_
    | with_reducible refine dite_keep (fun _ => ?_) (fun _ => ?_) | with_reducible refine (State.mctpControl_spine (fun _ => ?_)).trans ?_
    | with_reducible refine (State.emit_spine ..).trans ?_ | with_reducible refine (State.set_spine ..).trans ?_
    | simp only [spine_mk, spine_eta] | dsimp only | split | exact rfl
theorem doGetEndpointId_spine (path : Sys2Proof.MgtPath) (s : State) : (doGetEndpointId path s).spine = s.spine := by
  unfold doGetEndpointId; repeat' first
    | with_reducible rfl | with_reducible refine ite_keep (fun _ => ?_) (fun _ => ?_) | with_reducible refine foldl_keep (fun _ _ => ?_) ?_
    | with_reducible refine dite_keep (fun _ => ?_) (fun _ => ?_) | with_reducible refine (State.mctpControl_spine (fun _ => ?_)).trans ?_
    | with_reducible refine (State.emit_spine ..).trans ?_ | simp only [spine_mk, spine_eta] | dsimp only | split | exact rfl
theorem doGetVersionSupport_spine (path : Sys2Proof.MgtPath) (mtype : Nat) (s : State) :
    (doGetVersionSupport path mtype s).spine = s.spine := by
  unfold doGetVersionSupport; repeat' first
    | with_reducible rfl | with_reducible refine ite_keep (fun _ => ?_) (fun _ => ?_) | with_reducible refine foldl_keep (fun _ _ => ?_) ?_
    | with_reducible refine dite_keep (fun _ => ?_) (fun _ => ?_) | with_reducible refine (State.mctpControl_spine (fun _ => ?_)).trans ?_
    | with_reducible refine (State.emit_spine ..).trans ?_ | simp only [spine_mk, spine_eta] | dsimp only | split | exact rfl
theorem doGetMessageTypeSupport_spine (path : Sys2Proof.MgtPath) (s : State) : (doGetMessageTypeSupport path s).spine = s.spine := by
  unfold doGetMessageTypeSupport; repeat' first
    | with_reducible rfl | with_reducible refine ite_keep (fun _ => ?_) (fun _ => ?_) | with_reducible refine foldl_keep (fun _ _ => ?_) ?_
    | with_reducible refine dite_keep (fun _ => ?_) (fun _ => ?_) | with_reducible refine (State.mctpControl_spine (fun _ => ?_)).trans ?_
    | with_reducible refine (State.emit_spine ..).trans ?_ | simp only [spine_mk, spine_eta] | dsimp only | split | exact rfl
theorem doGetEndpointUuid_spine (path : Sys2Proof.MgtPath) (s : State) : (doGetEndpointUuid path s).spine = s.spine := by
  unfold doGetEndpointUuid; repeat' first
    | with_reducible rfl | with_reducible refine ite_keep (fun _ => ?_) (fun _ => ?_) | with_reducible refine foldl_keep (fun _ _ => ?_) ?_
    | with_reducible refine dite_keep (fun _ => ?_) (fun _ => ?_) | with_reducible refine (State.mctpControl_spine (fun _ => ?_)).trans ?_
    | with_reducible refine (State.emit_spine ..).trans ?_ | simp only [spine_mk, spine_eta] | dsimp only | split | exact rfl
theorem State.messageDone_spine (s : State) (mtype : Nat) : (State.messageDone s mtype).spine = s.spine := by
  unfold State.messageDone; repeat' first
    | with_reducible rfl | with_reducible refine ite_keep (fun _ => ?_) (fun _ => ?_) | with_reducible refine foldl_keep (fun _ _ => ?_) ?_
    | with_reducible refine dite_keep (fun _ => ?_) (fun _ => ?_) | with_reducible refine (State.bump_spine ..).trans ?_
    | simp only [spine_mk, spine_eta] | dsimp only | split
theorem takePacket_spine (path : Sys2Proof.MgtPath) (pkt : Sys2Proof.MctpPacket) (s : State) : (takePacket path pkt s).spine = s.spine := by
  unfold takePacket; repeat' first
    | with_reducible rfl | with_reducible refine ite_keep (fun _ => ?_) (fun _ => ?_) | with_reducible refine foldl_keep (fun _ _ => ?_) ?_
    | with_reducible refine dite_keep (fun _ => ?_) (fun _ => ?_) | with_reducible refine (State.messageDone_spine ..).trans ?_
    | with_reducible refine (State.modMgt_spine ..).trans ?_ | simp only [spine_mk, spine_eta] | dsimp only | split
theorem State.takeDatagram_spine (s : State) (d : Sys2Proof.Datagram) : (State.takeDatagram s d).spine = s.spine := by
  unfold State.takeDatagram; repeat' first
    | with_reducible rfl | with_reducible refine ite_keep (fun _ => ?_) (fun _ => ?_) | with_reducible refine foldl_keep (fun _ _ => ?_) ?_
    | with_reducible refine dite_keep (fun _ => ?_) (fun _ => ?_) | with_reducible refine (takePacket_spine ..).trans ?_
    | with_reducible refine (State.emit_spine ..).trans ?_ | with_reducible refine (State.setAll_spine ..).trans ?_
    | simp only [spine_mk, spine_eta] | dsimp only | split
theorem doUdpDatagram_spine (d : Sys2Proof.Datagram) (t : Nat) (s0 : State) : (doUdpDatagram d t s0).spine = (s0.at t).spine := by
  unfold doUdpDatagram; repeat' first
    | with_reducible rfl | with_reducible refine ite_keep (fun _ => ?_) (fun _ => ?_) | with_reducible refine foldl_keep (fun _ _ => ?_) ?_
    | with_reducible refine dite_keep (fun _ => ?_) (fun _ => ?_) | with_reducible refine (State.at_spine ..).trans ?_
    | with_reducible refine (State.modMgt_spine ..).trans ?_ | with_reducible refine (State.set_spine ..).trans ?_
    | with_reducible refine (State.bump_spine ..).trans ?_ | with_reducible refine (State.takeDatagram_spine ..).trans ?_
    | simp only [spine_mk, spine_eta] | dsimp only | split
theorem doI3cAddressAssign_spine (fixed : Option Nat) (da : Nat) (s : State) : (doI3cAddressAssign fixed da s).spine = s.spine := by
  unfold doI3cAddressAssign; repeat' first
    | with_reducible rfl | with_reducible refine ite_keep (fun _ => ?_) (fun _ => ?_) | with_reducible refine foldl_keep (fun _ _ => ?_) ?_
    | with_reducible refine dite_keep (fun _ => ?_) (fun _ => ?_) | with_reducible refine (State.set_spine ..).trans ?_
    | simp only [spine_mk, spine_eta] | dsimp only | split
theorem doKeyExchange_spine (path : Sys2Proof.MgtPath) (key : List Nat) (id : Nat) (t : Nat) (s0 : State) :
    (doKeyExchange path key id t s0).spine = (s0.at t).spine := by
  unfold doKeyExchange; repeat' first
    | with_reducible rfl | with_reducible refine (State.emit_spine ..).trans ?_ | with_reducible refine (State.bump_spine ..).trans ?_
    | simp only [spine_mk, spine_eta] | split
theorem doGetMeasurements_spine (path : Sys2Proof.MgtPath) (s : State) : (doGetMeasurements path s).spine = s.spine := by
  unfold doGetMeasurements; repeat' first
    | with_reducible rfl | with_reducible refine ite_keep (fun _ => ?_) (fun _ => ?_) | with_reducible refine foldl_keep (fun _ _ => ?_) ?_
    | with_reducible refine dite_keep (fun _ => ?_) (fun _ => ?_) | with_reducible refine (State.emit_spine ..).trans ?_
    | simp only [spine_mk, spine_eta] | dsimp only | split
theorem doHeartbeat_spine (src : Sys2Proof.Sess) (t : Nat) (s0 : State) : (doHeartbeat src t s0).spine = (s0.at t).spine := by
  unfold doHeartbeat; repeat' first
    | with_reducible rfl | with_reducible refine ite_keep (fun _ => ?_) (fun _ => ?_) | with_reducible refine foldl_keep (fun _ _ => ?_) ?_
    | with_reducible refine dite_keep (fun _ => ?_) (fun _ => ?_) | with_reducible refine (State.at_spine ..).trans ?_
    | with_reducible refine (State.emit_spine ..).trans ?_ | with_reducible refine (State.touch_spine ..).trans ?_
    | simp only [spine_mk, spine_eta] | dsimp only | split
theorem doEndSession_spine (src : Sys2Proof.Sess) (s : State) : (doEndSession src s).spine = s.spine := by
  unfold doEndSession; repeat' first
    | with_reducible rfl | with_reducible refine ite_keep (fun _ => ?_) (fun _ => ?_) | with_reducible refine foldl_keep (fun _ _ => ?_) ?_
    | with_reducible refine dite_keep (fun _ => ?_) (fun _ => ?_) | with_reducible refine (State.emit_spine ..).trans ?_
    | with_reducible refine (State.endSession_spine ..).trans ?_ | simp only [spine_mk, spine_eta] | dsimp only | split
theorem doSessionHeartbeatTimeout_spine (src : Sys2Proof.Sess) (t : Nat) (s0 : State) :
    (doSessionHeartbeatTimeout src t s0).spine = (s0.at t).spine := by
  unfold doSessionHeartbeatTimeout; repeat' first
    | with_reducible rfl | with_reducible refine ite_keep (fun _ => ?_) (fun _ => ?_) | with_reducible refine foldl_keep (fun _ _ => ?_) ?_
    | with_reducible refine dite_keep (fun _ => ?_) (fun _ => ?_) | with_reducible refine (State.at_spine ..).trans ?_
    | with_reducible refine (State.endSession_spine ..).trans ?_ | simp only [spine_mk, spine_eta] | dsimp only | split
theorem State.setMailbox_spine (s : State) (v : Nat) (m : Mailbox) : (State.setMailbox s v m).spine = s.spine := by
  unfold State.setMailbox; repeat' first
    | with_reducible rfl | with_reducible refine ite_keep (fun _ => ?_) (fun _ => ?_) | with_reducible refine foldl_keep (fun _ _ => ?_) ?_
    | with_reducible refine dite_keep (fun _ => ?_) (fun _ => ?_) | with_reducible refine (State.modMgt_spine ..).trans ?_
    | simp only [spine_mk, spine_eta] | dsimp only | split
theorem State.mailWrite_spine {s : State} {v : Fin 64} {line : Nat} {act : State → State} (h : ∀ u, (act u).spine = u.spine) :
    (s.mailWrite v line act).spine = s.spine := by
  unfold State.mailWrite; dsimp only; repeat' first
    | exact (h _).trans (State.gateCheck_spine ..) | exact State.gateCheck_spine .. | rfl | split
theorem doMailboxGo_spine (v : Fin 64) (line : Nat) (s : State) : (doMailboxGo v line s).spine = s.spine := by
  unfold doMailboxGo; repeat' first
    | with_reducible rfl | with_reducible refine ite_keep (fun _ => ?_) (fun _ => ?_) | with_reducible refine foldl_keep (fun _ _ => ?_) ?_
    | with_reducible refine dite_keep (fun _ => ?_) (fun _ => ?_) | with_reducible refine (State.mailWrite_spine (fun _ => ?_)).trans ?_
    | with_reducible refine (State.setMailbox_spine ..).trans ?_ | simp only [spine_mk, spine_eta] | dsimp only | split | exact rfl
theorem doMailboxAbort_spine (v : Fin 64) (line : Nat) (s : State) : (doMailboxAbort v line s).spine = s.spine := by
  unfold doMailboxAbort; repeat' first
    | with_reducible rfl | with_reducible refine ite_keep (fun _ => ?_) (fun _ => ?_) | with_reducible refine foldl_keep (fun _ _ => ?_) ?_
    | with_reducible refine dite_keep (fun _ => ?_) (fun _ => ?_) | with_reducible refine (State.mailWrite_spine (fun _ => ?_)).trans ?_
    | with_reducible refine (State.setMailbox_spine ..).trans ?_ | simp only [spine_mk, spine_eta] | dsimp only | split | exact rfl
theorem doMailboxReqWrite_spine (v : Fin 64) (line : Nat) (off : Nat) (size : Nat) (w : Nat) (s : State) :
    (doMailboxReqWrite v line off size w s).spine = s.spine := by
  unfold doMailboxReqWrite; repeat' first
    | with_reducible rfl | with_reducible refine ite_keep (fun _ => ?_) (fun _ => ?_) | with_reducible refine foldl_keep (fun _ _ => ?_) ?_
    | with_reducible refine dite_keep (fun _ => ?_) (fun _ => ?_) | with_reducible refine (State.mailWrite_spine (fun _ => ?_)).trans ?_
    | with_reducible refine (State.setMailbox_spine ..).trans ?_ | with_reducible refine ite_keep1 (fun _ => ?_) (fun _ => ?_)
    | with_reducible refine spine_of ?_ ?_ | simp only [spine_mk, spine_eta] | dsimp only | split | exact rfl
theorem doMailboxResponse_spine (v : Nat) (rsp : Option (List Nat)) (t : Nat) (s0 : State) :
    (doMailboxResponse v rsp t s0).spine = (s0.at t).spine := by
  unfold doMailboxResponse; repeat' first
    | with_reducible rfl | with_reducible refine ite_keep (fun _ => ?_) (fun _ => ?_) | with_reducible refine foldl_keep (fun _ _ => ?_) ?_
    | with_reducible refine dite_keep (fun _ => ?_) (fun _ => ?_) | with_reducible refine (State.at_spine ..).trans ?_
    | with_reducible refine (State.setMailbox_spine ..).trans ?_ | simp only [spine_mk, spine_eta] | dsimp only | split
theorem State.requestIn_spine (s : State) (p : Nat) (h : Sys2Proof.MsgHeader) : (State.requestIn s p h).spine = s.spine := by
  unfold State.requestIn; repeat' first
    | with_reducible rfl | with_reducible refine (State.emit_spine ..).trans ?_ | with_reducible refine (State.stage_spine ..).trans ?_
    | with_reducible refine (State.raise_spine ..).trans ?_ | with_reducible refine (State.bump_spine ..).trans ?_
    | with_reducible refine (State.refuseBerthless_spine ..).trans ?_ | with_reducible refine (State.ingressClass_spine ..).trans ?_
    | with_reducible refine (State.apertureRead_spine ..).trans ?_ | dsimp only
    | split
theorem State.reportMalformed_spine (s : State) (p : Nat) (h : Sys2Proof.MsgHeader) : (State.reportMalformed s p h).spine = s.spine := by
  unfold State.reportMalformed; repeat' first
    | with_reducible rfl | with_reducible refine ite_keep (fun _ => ?_) (fun _ => ?_) | with_reducible refine foldl_keep (fun _ _ => ?_) ?_
    | with_reducible refine dite_keep (fun _ => ?_) (fun _ => ?_) | with_reducible refine (State.emit_spine ..).trans ?_
    | with_reducible refine ite_keep1 (fun _ => ?_) (fun _ => ?_) | with_reducible refine spine_of ?_ ?_ | simp only [spine_mk, spine_eta]
    | dsimp only | split | exact rfl
theorem State.configure_spine (s : State) (p : Nat) (h : Sys2Proof.MsgHeader) (c : Sys2Proof.CfgAccess) :
    (State.configure s p h c).spine = s.spine := by
  unfold State.configure; repeat' first
    | with_reducible rfl | with_reducible refine ite_keep (fun _ => ?_) (fun _ => ?_) | with_reducible refine foldl_keep (fun _ _ => ?_) ?_
    | with_reducible refine dite_keep (fun _ => ?_) (fun _ => ?_) | with_reducible refine (State.emit_spine ..).trans ?_
    | with_reducible refine (State.modMgt_spine ..).trans ?_ | with_reducible refine ite_keep1 (fun _ => ?_) (fun _ => ?_)
    | with_reducible refine spine_of ?_ ?_ | simp only [spine_mk, spine_eta] | dsimp only | split | exact rfl
theorem State.barRead_spine (s : State) (p : Nat) (v : Nat) (off : Nat) (h : Sys2Proof.MsgHeader) :
    (State.barRead s p v off h).spine = s.spine := by
  unfold State.barRead; repeat' first
    | with_reducible rfl | with_reducible refine ite_keep (fun _ => ?_) (fun _ => ?_) | with_reducible refine foldl_keep (fun _ _ => ?_) ?_
    | with_reducible refine dite_keep (fun _ => ?_) (fun _ => ?_) | with_reducible refine (State.gateCheck_spine ..).trans ?_
    | with_reducible refine (State.emit_spine ..).trans ?_ | with_reducible refine ite_keep1 (fun _ => ?_) (fun _ => ?_)
    | with_reducible refine spine_of ?_ ?_ | simp only [spine_mk, spine_eta] | dsimp only | split | exact rfl
theorem State.ownRequest_spine {s s1 : State} {p : Nat} {h : Sys2Proof.MsgHeader} (e : s.ownRequest p h = some s1) : s1.spine = s.spine := by
  unfold State.ownRequest at e
  split at e
  · cases e
  · split at e
    · cases e; exact State.configure_spine ..
    · split at e
      · obtain ⟨x, -, rfl⟩ := Option.map_eq_some_iff.mp e; exact State.barRead_spine ..
      · cases e
theorem doMessageIngress_spine (p : Nat) (h : Sys2Proof.MsgHeader) (t : Nat) (s0 : State) :
    (doMessageIngress p h t s0).spine = (s0.at t).spine := by
  unfold doMessageIngress; repeat' first
    | with_reducible rfl | with_reducible refine (State.responseIn_spine ..).trans ?_
    | with_reducible refine (State.requestIn_spine ..).trans ?_ | with_reducible refine (State.emit_spine ..).trans ?_
    | with_reducible refine (State.refuseBerthless_spine ..).trans ?_ | with_reducible refine (State.reportMalformed_spine ..).trans ?_
    | with_reducible refine (State.raise_spine ..).trans ?_ | with_reducible refine (State.bump_spine ..).trans ?_
    | exact State.ownRequest_spine ‹_› | dsimp only | split
theorem State.fillLog_spine (s : State) (u : Nat) (m : Nat) (e : Nat) (p : Sys2Proof.ErrPlace) (unc : Bool) :
    (State.fillLog s u m e p unc).spine = s.spine := by
  unfold State.fillLog; repeat' first
    | with_reducible rfl | with_reducible refine ite_keep (fun _ => ?_) (fun _ => ?_) | with_reducible refine foldl_keep (fun _ _ => ?_) ?_
    | with_reducible refine dite_keep (fun _ => ?_) (fun _ => ?_) | with_reducible refine (State.setAll_spine ..).trans ?_
    | with_reducible refine (State.modEcc_spine ..).trans ?_ | simp only [spine_mk, spine_eta] | dsimp only | split
theorem State.logError_spine (s : State) (u : Nat) (p : Sys2Proof.ErrPlace) (unc : Bool) (after : Bool) :
    (State.logError s u p unc after).1.spine = s.spine := by
  unfold State.logError; repeat' first
    | with_reducible rfl | with_reducible refine ite_keep (fun _ => ?_) (fun _ => ?_) | with_reducible refine foldl_keep (fun _ _ => ?_) ?_
    | with_reducible refine dite_keep (fun _ => ?_) (fun _ => ?_) | with_reducible refine (State.set_spine ..).trans ?_
    | with_reducible refine (State.bump_spine ..).trans ?_ | with_reducible refine (State.fillLog_spine ..).trans ?_
    | simp only [spine_mk, spine_eta] | dsimp only | split
theorem State.scheduleRepair_spine (s : State) (u : Nat) (kind : Nat) (group : Nat) (mac : Nat) (index : Nat) (line : Nat) :
    (State.scheduleRepair s u kind group mac index line).spine = s.spine := by
  unfold State.scheduleRepair; repeat' first
    | with_reducible rfl | with_reducible refine ite_keep (fun _ => ?_) (fun _ => ?_) | with_reducible refine foldl_keep (fun _ _ => ?_) ?_
    | with_reducible refine dite_keep (fun _ => ?_) (fun _ => ?_) | with_reducible refine (State.set_spine ..).trans ?_
    | with_reducible refine (State.notify_spine ..).trans ?_ | with_reducible refine (State.setAll_spine ..).trans ?_
    | with_reducible refine (State.modNv_spine ..).trans ?_ | simp only [spine_mk, spine_eta] | dsimp only | split
theorem State.countKey_spine (s : State) (u : Nat) (p : Sys2Proof.ErrPlace) : (State.countKey s u p).1.spine = s.spine := by
  unfold State.countKey; repeat' first
    | with_reducible rfl | with_reducible refine ite_keep (fun _ => ?_) (fun _ => ?_) | with_reducible refine foldl_keep (fun _ _ => ?_) ?_
    | with_reducible refine dite_keep (fun _ => ?_) (fun _ => ?_) | with_reducible refine (State.set_spine ..).trans ?_
    | with_reducible refine (State.setAll_spine ..).trans ?_ | with_reducible refine (State.modEcc_spine ..).trans ?_
    | simp only [spine_mk, spine_eta] | dsimp only | split
theorem State.tellPoison_spine (s : State) (berth : Option Nat) : (State.tellPoison s berth).spine = s.spine := by
  unfold State.tellPoison; repeat' first
    | with_reducible rfl | with_reducible refine ite_keep (fun _ => ?_) (fun _ => ?_) | with_reducible refine foldl_keep (fun _ _ => ?_) ?_
    | with_reducible refine dite_keep (fun _ => ?_) (fun _ => ?_) | with_reducible refine (State.raise_spine ..).trans ?_
    | simp only [spine_mk, spine_eta] | dsimp only | split
theorem State.loseRecord_spine (s : State) (key : Nat) : (State.loseRecord s key).spine = s.spine := by
  unfold State.loseRecord; repeat' first
    | with_reducible rfl | with_reducible refine ite_keep (fun _ => ?_) (fun _ => ?_) | with_reducible refine foldl_keep (fun _ _ => ?_) ?_
    | with_reducible refine dite_keep (fun _ => ?_) (fun _ => ?_) | with_reducible refine (State.bump_spine ..).trans ?_
    | with_reducible refine (State.setLrec_spine ..).trans ?_ | simp only [spine_mk, spine_eta] | dsimp only | split
theorem State.spoil_spine (s : State) (u : Nat) (w : Sys2Proof.Spoiled) : (State.spoil s u w).spine = s.spine := by
  unfold State.spoil; repeat' first
    | with_reducible rfl | with_reducible refine ite_keep (fun _ => ?_) (fun _ => ?_) | with_reducible refine foldl_keep (fun _ _ => ?_) ?_
    | with_reducible refine dite_keep (fun _ => ?_) (fun _ => ?_) | with_reducible refine (State.tellPoison_spine ..).trans ?_
    | with_reducible refine (State.modCore_spine ..).trans ?_ | with_reducible refine (State.linkDown_spine ..).trans ?_
    | with_reducible refine (State.setFnl_spine ..).trans ?_ | with_reducible refine (State.freeShadow_spine ..).trans ?_
    | with_reducible refine (State.regionOut_spine ..).trans ?_ | with_reducible refine (State.modHome_spine ..).trans ?_
    | with_reducible refine (State.set_spine ..).trans ?_ | with_reducible refine (State.notify_spine ..).trans ?_
    | with_reducible refine (State.poisonEntry_spine ..).trans ?_ | with_reducible refine (State.modLod_spine ..).trans ?_
    | with_reducible refine (State.sendResult_spine ..).trans ?_ | with_reducible refine (State.answerTxn_spine ..).trans ?_
    | with_reducible refine (State.loseRecord_spine ..).trans ?_ | with_reducible refine (State.report_spine ..).trans ?_
    | with_reducible refine ite_keep1 (fun _ => ?_) (fun _ => ?_) | with_reducible refine spine_of ?_ ?_ | simp only [spine_mk, spine_eta]
    | dsimp only | split | exact rfl
theorem State.handleError_spine (s : State) (u : Nat) (e : MemError) (scrub : Bool) : (s.handleError u e scrub).spine = s.spine := by
  unfold State.handleError
  extract_lets b m unc s1 s2 w s4a s3 k s5a s4 g s6 s7 s5
  have h1 : s1.spine = s.spine := by
    dsimp only [s1]; repeat' first | with_reducible rfl | with_reducible refine ite_keep (fun _ => ?_) (fun _ => ?_) | with_reducible refine (State.bump_spine ..).trans ?_ | with_reducible refine (State.count_spine ..).trans ?_ | with_reducible refine (State.set_spine ..).trans ?_ | with_reducible refine (State.scheduleRepair_spine ..).trans ?_ | with_reducible assumption
  have h2 : s2.spine = s.spine := (State.reportAt_spine ..).trans h1
  have h4a : s4a.spine = s.spine := by
    dsimp only [s4a]; repeat' first | with_reducible rfl | with_reducible refine ite_keep (fun _ => ?_) (fun _ => ?_) | with_reducible refine (State.bump_spine ..).trans ?_ | with_reducible refine (State.count_spine ..).trans ?_ | with_reducible refine (State.set_spine ..).trans ?_ | with_reducible refine (State.scheduleRepair_spine ..).trans ?_ | with_reducible assumption
  have h3 : s3.spine = s.spine := by
    dsimp only [s3]; repeat' first | with_reducible rfl | with_reducible refine ite_keep (fun _ => ?_) (fun _ => ?_) | with_reducible refine (State.bump_spine ..).trans ?_ | with_reducible refine (State.count_spine ..).trans ?_ | with_reducible refine (State.set_spine ..).trans ?_ | with_reducible refine (State.scheduleRepair_spine ..).trans ?_ | with_reducible assumption
  have hk : k.1.spine = s.spine := by
    dsimp only [k]; exact ite_keep1 (fun _ => (State.countKey_spine ..).trans h3) (fun _ => h3)
  have h5a : s5a.spine = s.spine := (State.set_spine ..).trans hk
  have h4 : s4.spine = s.spine := by
    dsimp only [s4]; repeat' first | with_reducible rfl | with_reducible refine ite_keep (fun _ => ?_) (fun _ => ?_) | with_reducible refine (State.bump_spine ..).trans ?_ | with_reducible refine (State.count_spine ..).trans ?_ | with_reducible refine (State.set_spine ..).trans ?_ | with_reducible refine (State.scheduleRepair_spine ..).trans ?_ | with_reducible assumption
  have hg : g.1.spine = s.spine := (State.logError_spine ..).trans h4
  have h6 : s6.spine = s.spine := (State.set_spine ..).trans hg
  have h7 : s7.spine = s.spine := by
    dsimp only [s7]; repeat' first | with_reducible rfl | with_reducible refine ite_keep (fun _ => ?_) (fun _ => ?_) | with_reducible refine (State.bump_spine ..).trans ?_ | with_reducible refine (State.count_spine ..).trans ?_ | with_reducible refine (State.set_spine ..).trans ?_ | with_reducible refine (State.scheduleRepair_spine ..).trans ?_ | with_reducible assumption
  have h5 : s5.spine = s.spine := by
    dsimp only [s5]; repeat' first | with_reducible rfl | with_reducible refine ite_keep (fun _ => ?_) (fun _ => ?_) | with_reducible refine (State.bump_spine ..).trans ?_ | with_reducible refine (State.count_spine ..).trans ?_ | with_reducible refine (State.set_spine ..).trans ?_ | with_reducible refine (State.scheduleRepair_spine ..).trans ?_ | with_reducible assumption
  clear_value s5
  split
  · exact (State.spoil_spine ..).trans h5
  · exact h5
theorem doCorrectableError_spine (u : Nat) (p : Sys2Proof.ErrPlace) (after : Bool) (t : Nat) (s0 : State) :
    (doCorrectableError u p after t s0).spine = (s0.at t).spine := by
  unfold doCorrectableError; repeat' first
    | with_reducible rfl | with_reducible refine ite_keep (fun _ => ?_) (fun _ => ?_) | with_reducible refine foldl_keep (fun _ _ => ?_) ?_
    | with_reducible refine dite_keep (fun _ => ?_) (fun _ => ?_) | with_reducible refine (State.at_spine ..).trans ?_
    | with_reducible refine (State.handleError_spine ..).trans ?_ | simp only [spine_mk, spine_eta] | dsimp only | split | exact rfl
theorem doUncorrectableError_spine (u : Nat) (p : Sys2Proof.ErrPlace) (w : Sys2Proof.Spoiled) (after : Bool) (t : Nat) (s0 : State) :
    (doUncorrectableError u p w after t s0).spine = (s0.at t).spine := by
  unfold doUncorrectableError; repeat' first
    | with_reducible rfl | with_reducible refine ite_keep (fun _ => ?_) (fun _ => ?_) | with_reducible refine foldl_keep (fun _ _ => ?_) ?_
    | with_reducible refine dite_keep (fun _ => ?_) (fun _ => ?_) | with_reducible refine (State.at_spine ..).trans ?_
    | with_reducible refine (State.handleError_spine ..).trans ?_ | simp only [spine_mk, spine_eta] | dsimp only | split | exact rfl
theorem startScrub_spine (u : Fin 9) (s : State) : (startScrub u s).spine = s.spine := by
  unfold startScrub; repeat' first
    | with_reducible rfl | with_reducible refine ite_keep (fun _ => ?_) (fun _ => ?_) | with_reducible refine foldl_keep (fun _ _ => ?_) ?_
    | with_reducible refine dite_keep (fun _ => ?_) (fun _ => ?_) | with_reducible refine (State.setAll_spine ..).trans ?_
    | with_reducible refine (State.requestLeave_spine ..).trans ?_ | with_reducible refine (State.modEcc_spine ..).trans ?_
    | simp only [spine_mk, spine_eta] | dsimp only | split | exact rfl
theorem doScrubRead_spine (u : Nat) (found : List Sys2Proof.MemError) (t : Nat) (s0 : State) :
    (doScrubRead u found t s0).spine = (s0.at t).spine := by
  unfold doScrubRead; repeat' first
    | with_reducible rfl | with_reducible refine ite_keep (fun _ => ?_) (fun _ => ?_) | with_reducible refine foldl_keep (fun _ _ => ?_) ?_
    | with_reducible refine dite_keep (fun _ => ?_) (fun _ => ?_) | with_reducible refine (State.at_spine ..).trans ?_
    | with_reducible refine (State.handleError_spine ..).trans ?_ | with_reducible refine (State.modEcc_spine ..).trans ?_
    | simp only [spine_mk, spine_eta] | dsimp only | split | exact rfl
theorem doScrubLeaveRenew_spine (u : Fin 9) (t : Nat) (s0 : State) : (doScrubLeaveRenew u t s0).spine = (s0.at t).spine := by
  unfold doScrubLeaveRenew; repeat' first
    | with_reducible rfl | with_reducible refine ite_keep (fun _ => ?_) (fun _ => ?_) | with_reducible refine foldl_keep (fun _ _ => ?_) ?_
    | with_reducible refine dite_keep (fun _ => ?_) (fun _ => ?_) | with_reducible refine (State.at_spine ..).trans ?_
    | with_reducible refine (State.set_spine ..).trans ?_ | with_reducible refine (State.renewSlip_spine ..).trans ?_
    | with_reducible refine (State.requestLeave_spine ..).trans ?_ | simp only [spine_mk, spine_eta] | dsimp only | split | exact rfl
theorem doScrubDone_spine (u : Fin 9) (t : Nat) (s0 : State) : (doScrubDone u t s0).spine = (s0.at t).spine := by
  unfold doScrubDone; repeat' first
    | with_reducible rfl | with_reducible refine ite_keep (fun _ => ?_) (fun _ => ?_) | with_reducible refine foldl_keep (fun _ _ => ?_) ?_
    | with_reducible refine dite_keep (fun _ => ?_) (fun _ => ?_) | with_reducible refine (State.at_spine ..).trans ?_
    | with_reducible refine (State.releaseFor_spine ..).trans ?_ | with_reducible refine (State.withdrawFor_spine ..).trans ?_
    | with_reducible refine (State.setAll_spine ..).trans ?_ | with_reducible refine (State.modEcc_spine ..).trans ?_
    | simp only [spine_mk, spine_eta] | dsimp only | split | exact rfl
theorem startBurn_spine (s : State) : (startBurn s).spine = s.spine := by
  unfold startBurn; repeat' first
    | with_reducible rfl | with_reducible refine ite_keep (fun _ => ?_) (fun _ => ?_) | with_reducible refine foldl_keep (fun _ _ => ?_) ?_
    | with_reducible refine dite_keep (fun _ => ?_) (fun _ => ?_) | with_reducible refine (State.modEcc_spine ..).trans ?_
    | with_reducible refine (State.set_spine ..).trans ?_ | simp only [spine_mk, spine_eta] | dsimp only | split
theorem doFuseBurnDone_spine (ok : Bool) (t : Nat) (s0 : State) : (doFuseBurnDone ok t s0).spine = (s0.at t).spine := by
  unfold doFuseBurnDone; repeat' first
    | with_reducible rfl | with_reducible refine ite_keep (fun _ => ?_) (fun _ => ?_) | with_reducible refine foldl_keep (fun _ _ => ?_) ?_
    | with_reducible refine dite_keep (fun _ => ?_) (fun _ => ?_) | with_reducible refine (State.at_spine ..).trans ?_
    | with_reducible refine (State.modEcc_spine ..).trans ?_ | with_reducible refine (State.setAll_spine ..).trans ?_
    | with_reducible refine (State.modNv_spine ..).trans ?_ | with_reducible refine (State.set_spine ..).trans ?_
    | simp only [spine_mk, spine_eta] | dsimp only | split
theorem doBoltRowRetire_spine (g : Nat) (e : Nat) (t : Nat) (s0 : State) : (doBoltRowRetire g e t s0).spine = (s0.at t).spine := by
  unfold doBoltRowRetire; repeat' first
    | with_reducible rfl | with_reducible refine ite_keep (fun _ => ?_) (fun _ => ?_) | with_reducible refine foldl_keep (fun _ _ => ?_) ?_
    | with_reducible refine dite_keep (fun _ => ?_) (fun _ => ?_) | with_reducible refine (State.at_spine ..).trans ?_
    | with_reducible refine (State.modEcc_spine ..).trans ?_ | with_reducible refine (State.set_spine ..).trans ?_
    | simp only [spine_mk, spine_eta] | dsimp only | split
theorem State.storeFields_spine (s : State) (a : Nat) (v : Nat) : (State.storeFields s a v).spine = s.spine := by
  unfold State.storeFields; repeat' first
    | with_reducible rfl | with_reducible refine ite_keep (fun _ => ?_) (fun _ => ?_) | with_reducible refine foldl_keep (fun _ _ => ?_) ?_
    | with_reducible refine dite_keep (fun _ => ?_) (fun _ => ?_) | with_reducible refine (State.set_spine ..).trans ?_
    | with_reducible refine (State.store_spine ..).trans ?_ | with_reducible refine ite_keep1 (fun _ => ?_) (fun _ => ?_)
    | with_reducible refine spine_of ?_ ?_ | simp only [spine_mk, spine_eta] | dsimp only | split | exact rfl
theorem onBit_spine {v i : Nat} {act : State → State × Nat} {r : State × Nat} {x : List Instr × Nat × Nat} (h : ∀ u, (act u).1.spine = u.spine)
    (k : r.1.spine = x) : (onBit v i act r).1.spine = x := by
  unfold onBit; split; exact (h _).trans k; exact k
theorem quiet_spine {act : State → State} {s : State} (h : ∀ u, (act u).spine = u.spine) : (quiet act s).1.spine = s.spine := h s
theorem writeCel_spine (p : Nat) (o : Nat) (v : Nat) (a : Nat) (s : State) : (writeCel p o v a s).1.spine = s.spine := by
  unfold writeCel; repeat' first
    | with_reducible rfl | with_reducible refine ite_keep (fun _ => ?_) (fun _ => ?_) | with_reducible refine foldl_keep (fun _ _ => ?_) ?_
    | with_reducible refine dite_keep (fun _ => ?_) (fun _ => ?_) | with_reducible refine onBit_spine (fun _ => ?_) ?_
    | with_reducible refine (quiet_spine (fun _ => ?_)).trans ?_ | with_reducible refine (clearStale_spine ..).trans ?_
    | with_reducible refine (State.storeFields_spine ..).trans ?_ | simp only [spine_mk, spine_eta] | dsimp only | split | exact rfl
theorem writeCol_spine (c : Nat) (o : Nat) (v : Nat) (a : Nat) (s : State) : (writeCol c o v a s).1.spine = s.spine := by
  unfold writeCol; repeat' first
    | with_reducible rfl | with_reducible refine ite_keep (fun _ => ?_) (fun _ => ?_) | with_reducible refine foldl_keep (fun _ _ => ?_) ?_
    | with_reducible refine dite_keep (fun _ => ?_) (fun _ => ?_) | with_reducible refine onBit_spine (fun _ => ?_) ?_
    | with_reducible refine (quiet_spine (fun _ => ?_)).trans ?_ | with_reducible refine (clearFirst_spine ..).trans ?_
    | with_reducible refine (rearmLine_spine ..).trans ?_ | with_reducible refine (injectFault_spine ..).trans ?_
    | with_reducible refine (State.storeFields_spine ..).trans ?_ | simp only [spine_mk, spine_eta] | dsimp only | split | exact rfl
theorem writeModule_spine (p : Principal) (a : Nat) (v : Nat) (s : State) : (writeModule p a v s).1.spine = s.spine := by
  unfold writeModule; repeat' first
    | with_reducible rfl | with_reducible refine ite_keep (fun _ => ?_) (fun _ => ?_) | with_reducible refine foldl_keep (fun _ _ => ?_) ?_
    | with_reducible refine dite_keep (fun _ => ?_) (fun _ => ?_) | with_reducible refine (State.storeFields_spine ..).trans ?_
    | with_reducible refine (writePstate_spine ..).trans ?_ | with_reducible refine onBit_spine (fun _ => ?_) ?_
    | with_reducible refine (quiet_spine (fun _ => ?_)).trans ?_ | with_reducible refine (doWatchdogKick_spine ..).trans ?_
    | with_reducible refine (releasePads_spine ..).trans ?_ | with_reducible refine (retainAccess_spine ..).trans ?_
    | with_reducible refine (unretireFeed_spine ..).trans ?_ | with_reducible refine (releaseFeed_spine ..).trans ?_
    | with_reducible refine (enableFeed_spine ..).trans ?_ | with_reducible refine (clearInputPeak_spine ..).trans ?_
    | with_reducible refine (ldoGoFull_spine ..).trans ?_ | with_reducible refine (lvcRequest_spine ..).trans ?_
    | with_reducible refine (withdrawOwn_spine ..).trans ?_ | with_reducible refine (renewOwn_spine ..).trans ?_
    | with_reducible refine (releaseSlip_spine ..).trans ?_ | with_reducible refine (exitSafe_spine ..).trans ?_
    | with_reducible refine (safeCommand_spine ..).trans ?_ | with_reducible refine (ackMask_spine ..).trans ?_
    | with_reducible refine (startBurn_spine ..).trans ?_ | with_reducible refine (startScrub_spine ..).trans ?_
    | refine (State.at_now_spine ..).trans ?_ | with_reducible refine ite_keep1 (fun _ => ?_) (fun _ => ?_)
    | with_reducible refine spine_of ?_ ?_ | simp only [spine_mk, spine_eta] | dsimp only | split | exact rfl
theorem writeHub_spine (o : Nat) (v : Nat) (a : Nat) (s : State) : (writeHub o v a s).1.spine = s.spine := by
  unfold writeHub; repeat' first
    | with_reducible rfl | with_reducible refine ite_keep (fun _ => ?_) (fun _ => ?_) | with_reducible refine foldl_keep (fun _ _ => ?_) ?_
    | with_reducible refine dite_keep (fun _ => ?_) (fun _ => ?_) | with_reducible refine (State.storeFields_spine ..).trans ?_
    | with_reducible refine (writeForce_spine ..).trans ?_ | with_reducible refine (State.set_spine ..).trans ?_
    | with_reducible refine onBit_spine (fun _ => ?_) ?_ | with_reducible refine (quiet_spine (fun _ => ?_)).trans ?_
    | with_reducible refine (startWindowFlush_spine ..).trans ?_ | with_reducible refine (startSweep_spine ..).trans ?_
    | with_reducible refine (clearPeak_spine ..).trans ?_ | with_reducible refine (writeCol_spine ..).trans ?_
    | with_reducible refine (reviveAgent_spine ..).trans ?_ | simp only [spine_mk, spine_eta] | dsimp only | split | exact rfl
theorem writeCtr_spine (k : Nat) (w : Nat) (v : Nat) (s : State) : (writeCtr k w v s).1.spine = s.spine := by
  unfold writeCtr; repeat' first
    | with_reducible rfl | with_reducible refine ite_keep (fun _ => ?_) (fun _ => ?_) | with_reducible refine foldl_keep (fun _ _ => ?_) ?_
    | with_reducible refine dite_keep (fun _ => ?_) (fun _ => ?_) | with_reducible refine (State.selectCtr_spine ..).trans ?_
    | with_reducible refine (State.setCtr_spine ..).trans ?_ | simp only [spine_mk, spine_eta] | dsimp only | split
theorem State.writeWord_spine (src : Sys2Proof.Sess) (p : Principal) (a0 : Nat) (v : Nat) (s : State) :
    (State.writeWord src p a0 v s).1.spine = s.spine := by
  unfold State.writeWord; repeat' first
    | with_reducible rfl | with_reducible refine ite_keep (fun _ => ?_) (fun _ => ?_) | with_reducible refine foldl_keep (fun _ _ => ?_) ?_
    | with_reducible refine dite_keep (fun _ => ?_) (fun _ => ?_) | with_reducible refine (State.storeFields_spine ..).trans ?_
    | with_reducible refine (writeCtr_spine ..).trans ?_ | with_reducible refine (writeModule_spine ..).trans ?_
    | with_reducible refine (writeHub_spine ..).trans ?_ | with_reducible refine onBit_spine (fun _ => ?_) ?_
    | with_reducible refine (quiet_spine (fun _ => ?_)).trans ?_ | with_reducible refine (clearLdsPeak_spine ..).trans ?_
    | with_reducible refine (clearTrkPeak_spine ..).trans ?_ | with_reducible refine (State.set_spine ..).trans ?_
    | with_reducible refine (submitCopy_spine ..).trans ?_ | with_reducible refine (commandReset_spine ..).trans ?_
    | with_reducible refine (startScrub_spine ..).trans ?_ | with_reducible refine (resetLink_spine ..).trans ?_
    | with_reducible refine (State.unretire_spine ..).trans ?_ | with_reducible refine (writeThresh_spine ..).trans ?_
    | with_reducible refine (resetBlock_spine ..).trans ?_ | with_reducible refine (clearStgPeak_spine ..).trans ?_
    | with_reducible refine (writeCol_spine ..).trans ?_ | with_reducible refine (clearCtstat_spine ..).trans ?_
    | with_reducible refine (clearHistograms_spine ..).trans ?_ | with_reducible refine (writeCel_spine ..).trans ?_
    | with_reducible refine (clearViolation_spine ..).trans ?_ | with_reducible refine (clearViolations_spine ..).trans ?_
    | with_reducible refine (writeTalCtl_spine ..).trans ?_ | with_reducible refine (State.chartCmd_spine ..).trans ?_
    | with_reducible refine (State.modChtu_spine ..).trans ?_ | with_reducible refine (writeBuf_spine ..).trans ?_
    | with_reducible refine ite_keep1 (fun _ => ?_) (fun _ => ?_) | with_reducible refine spine_of ?_ ?_ | simp only [spine_mk, spine_eta]
    | dsimp only | split | exact rfl
theorem State.refuseWords_spine (s : State) (src : Sys2Proof.Sess) (e : Nat × Bool) : (State.refuseWords s src e).spine = s.spine := by
  unfold State.refuseWords; repeat' first
    | with_reducible rfl | with_reducible refine ite_keep (fun _ => ?_) (fun _ => ?_) | with_reducible refine foldl_keep (fun _ _ => ?_) ?_
    | with_reducible refine dite_keep (fun _ => ?_) (fun _ => ?_) | with_reducible refine (State.respond_spine ..).trans ?_
    | simp only [spine_mk, spine_eta] | dsimp only | split
theorem State.readWords_spine (s : State) (p : Principal) (l : List Nat) : (s.readWords p l).2.spine = s.spine := by
  induction l generalizing s with
  | nil => rfl
  | cons a r ih => unfold State.readWords; exact (ih _).trans (State.readWord_spine ..)
theorem State.regRead_spine (s : State) (src : Sys2Proof.Sess) (off : Nat) (count : Nat) :
    (State.regRead s src off count).spine = s.spine := by
  unfold State.regRead; repeat' first
    | with_reducible rfl | with_reducible refine ite_keep (fun _ => ?_) (fun _ => ?_) | with_reducible refine foldl_keep (fun _ _ => ?_) ?_
    | with_reducible refine dite_keep (fun _ => ?_) (fun _ => ?_)
    | with_reducible refine (State.commandWhen_spine (fun _ _ => ?_)).trans ?_ | with_reducible refine (State.respond_spine ..).trans ?_
    | with_reducible refine (State.refuseWords_spine ..).trans ?_ | with_reducible refine (State.readWords_spine ..).trans ?_
    | simp only [spine_mk, spine_eta] | dsimp only | split | exact rfl
theorem State.writeWords_spine (src : Sess) (p : Principal) (l : List (Nat × Nat)) (i : Nat) (s : State) : (State.writeWords src p l i s).1.spine = s.spine := by
  induction l generalizing i s with
  | nil => rfl
  | cons a r ih => unfold State.writeWords; exact (ih _ _).trans (State.writeWord_spine ..)
theorem State.regWrite_spine (s : State) (src : Sys2Proof.Sess) (off : Nat) (words : List Nat) :
    (State.regWrite s src off words).spine = s.spine := by
  unfold State.regWrite; repeat' first
    | with_reducible rfl | with_reducible refine ite_keep (fun _ => ?_) (fun _ => ?_) | with_reducible refine foldl_keep (fun _ _ => ?_) ?_
    | with_reducible refine dite_keep (fun _ => ?_) (fun _ => ?_) | with_reducible refine (State.command_spine (fun _ _ => ?_)).trans ?_
    | with_reducible refine (State.respond_spine ..).trans ?_ | with_reducible refine (State.refuseWords_spine ..).trans ?_
    | with_reducible refine (State.writeWords_spine ..).trans ?_ | simp only [spine_mk, spine_eta] | dsimp only | split | exact rfl
theorem doHomeSliceFailover_spine (n : Nat) (t : Nat) (s0 : State) : (doHomeSliceFailover n t s0).spine = (s0.at t).spine := by
  unfold doHomeSliceFailover; repeat' first
    | with_reducible rfl | with_reducible refine ite_keep (fun _ => ?_) (fun _ => ?_) | with_reducible refine foldl_keep (fun _ _ => ?_) ?_
    | with_reducible refine dite_keep (fun _ => ?_) (fun _ => ?_) | with_reducible refine (State.takeReaction_spine ..).trans ?_
    | with_reducible refine (State.at_spine ..).trans ?_ | with_reducible refine (State.beginFailover_spine ..).trans ?_
    | simp only [spine_mk, spine_eta] | dsimp only | split | exact rfl
theorem doShadowReissue_spine (p : Nat) (t : Nat) (s0 : State) : (doShadowReissue p t s0).spine = (s0.at t).spine := by
  unfold doShadowReissue; repeat' first
    | with_reducible rfl | with_reducible refine ite_keep (fun _ => ?_) (fun _ => ?_) | with_reducible refine foldl_keep (fun _ _ => ?_) ?_
    | with_reducible refine dite_keep (fun _ => ?_) (fun _ => ?_) | with_reducible refine (State.at_spine ..).trans ?_
    | with_reducible refine (State.reissue_spine ..).trans ?_ | simp only [spine_mk, spine_eta] | dsimp only | split
theorem doHomeFailoverDone_spine (t : Nat) (s0 : State) : (doHomeFailoverDone t s0).spine = (s0.at t).spine := by
  unfold doHomeFailoverDone; repeat' first
    | with_reducible rfl | with_reducible refine ite_keep (fun _ => ?_) (fun _ => ?_) | with_reducible refine foldl_keep (fun _ _ => ?_) ?_
    | with_reducible refine dite_keep (fun _ => ?_) (fun _ => ?_) | with_reducible refine (State.at_spine ..).trans ?_
    | with_reducible refine (State.reissue_spine ..).trans ?_ | with_reducible refine (State.raise_spine ..).trans ?_
    | with_reducible refine (State.admitEngines_spine ..).trans ?_ | with_reducible refine (State.modHome_spine ..).trans ?_
    | with_reducible refine (State.beginFailover_spine ..).trans ?_ | with_reducible refine ite_keep1 (fun _ => ?_) (fun _ => ?_)
    | with_reducible refine spine_of ?_ ?_ | simp only [spine_mk, spine_eta] | dsimp only | split | exact rfl
theorem doHbmStackLoss_spine (g : Nat) (t : Nat) (s0 : State) : (doHbmStackLoss g t s0).spine = (s0.at t).spine := by
  unfold doHbmStackLoss; repeat' first
    | with_reducible rfl | with_reducible refine ite_keep (fun _ => ?_) (fun _ => ?_) | with_reducible refine foldl_keep (fun _ _ => ?_) ?_
    | with_reducible refine dite_keep (fun _ => ?_) (fun _ => ?_) | with_reducible refine (State.takeReaction_spine ..).trans ?_
    | with_reducible refine (State.at_spine ..).trans ?_ | with_reducible refine (State.stackLoss_spine ..).trans ?_
    | simp only [spine_mk, spine_eta] | dsimp only | split | exact rfl
theorem doHomeWorkRestart_spine (n : Nat) (t : Nat) (s0 : State) : (doHomeWorkRestart n t s0).spine = (s0.at t).spine := by
  unfold doHomeWorkRestart; repeat' first
    | with_reducible rfl | with_reducible refine ite_keep (fun _ => ?_) (fun _ => ?_) | with_reducible refine foldl_keep (fun _ _ => ?_) ?_
    | with_reducible refine dite_keep (fun _ => ?_) (fun _ => ?_) | with_reducible refine (State.at_spine ..).trans ?_
    | with_reducible refine (State.settle_spine ..).trans ?_ | with_reducible refine (State.modHome_spine ..).trans ?_
    | simp only [spine_mk, spine_eta] | dsimp only | split | exact rfl
theorem issueChart_spine (src : Sys2Proof.Sess) (cmd : Nat) (s : State) : (issueChart src cmd s).spine = s.spine := by
  unfold issueChart; repeat' first
    | with_reducible rfl | with_reducible refine ite_keep (fun _ => ?_) (fun _ => ?_) | with_reducible refine foldl_keep (fun _ _ => ?_) ?_
    | with_reducible refine dite_keep (fun _ => ?_) (fun _ => ?_) | with_reducible refine (State.chartCmd_spine ..).trans ?_
    | with_reducible refine (State.endBg_spine ..).trans ?_ | with_reducible refine ite_keep1 (fun _ => ?_) (fun _ => ?_)
    | with_reducible refine spine_of ?_ ?_ | simp only [spine_mk, spine_eta] | dsimp only | split | exact rfl
theorem State.beginBurn_spine (s : State) (src : Sys2Proof.Sess) (what : Option BurnWhat) :
    (State.beginBurn s src what).spine = s.spine := by
  unfold State.beginBurn; repeat' first
    | with_reducible rfl | with_reducible refine ite_keep (fun _ => ?_) (fun _ => ?_) | with_reducible refine foldl_keep (fun _ _ => ?_) ?_
    | with_reducible refine dite_keep (fun _ => ?_) (fun _ => ?_) | with_reducible refine (State.respond_spine ..).trans ?_
    | with_reducible refine (State.modMgt_spine ..).trans ?_ | simp only [spine_mk, spine_eta] | dsimp only | split
theorem State.burnPin_spine (s : State) (pin : Nat) : (State.burnPin s pin).spine = s.spine := by
  unfold State.burnPin; repeat' first
    | with_reducible rfl | with_reducible refine ite_keep (fun _ => ?_) (fun _ => ?_) | with_reducible refine foldl_keep (fun _ _ => ?_) ?_
    | with_reducible refine dite_keep (fun _ => ?_) (fun _ => ?_) | with_reducible refine (State.setBit_spine ..).trans ?_
    | with_reducible refine (State.modNv_spine ..).trans ?_ | with_reducible refine (State.set_spine ..).trans ?_
    | simp only [spine_mk, spine_eta] | dsimp only | split
theorem State.applyBurn_spine (s : State) (w : BurnWhat) : (State.applyBurn s w).spine = s.spine := by
  unfold State.applyBurn; repeat' first
    | with_reducible rfl | with_reducible refine ite_keep (fun _ => ?_) (fun _ => ?_) | with_reducible refine foldl_keep (fun _ _ => ?_) ?_
    | with_reducible refine dite_keep (fun _ => ?_) (fun _ => ?_) | with_reducible refine (State.modNv_spine ..).trans ?_
    | with_reducible refine (State.setBit_spine ..).trans ?_ | with_reducible refine (State.burnPin_spine ..).trans ?_
    | simp only [spine_mk, spine_eta] | dsimp only | split
theorem State.endBurnt_spine (s : State) (j : BurnJob) : (State.endBurnt s j).spine = s.spine := by
  unfold State.endBurnt; repeat' first
    | with_reducible rfl | with_reducible refine ite_keep (fun _ => ?_) (fun _ => ?_) | with_reducible refine foldl_keep (fun _ _ => ?_) ?_
    | with_reducible refine dite_keep (fun _ => ?_) (fun _ => ?_) | with_reducible refine (State.endSession_spine ..).trans ?_
    | with_reducible refine (State.endSessions_spine ..).trans ?_ | simp only [spine_mk, spine_eta] | dsimp only | split
theorem State.answerBurn_spine (s : State) (src : Sys2Proof.Sess) (j : BurnJob) (ok : Bool) :
    (State.answerBurn s src j ok).spine = s.spine := by
  unfold State.answerBurn; repeat' first
    | with_reducible rfl | with_reducible refine ite_keep (fun _ => ?_) (fun _ => ?_) | with_reducible refine foldl_keep (fun _ _ => ?_) ?_
    | with_reducible refine dite_keep (fun _ => ?_) (fun _ => ?_) | with_reducible refine (State.respond_spine ..).trans ?_
    | simp only [spine_mk, spine_eta] | dsimp only | split
theorem doFuseBurnVerify_spine (src : Sys2Proof.Sess) (ok : Bool) (burned : Bool) (t : Nat) (s0 : State) :
    (doFuseBurnVerify src ok burned t s0).spine = (s0.at t).spine := by
  unfold doFuseBurnVerify; repeat' first
    | with_reducible rfl | with_reducible refine ite_keep (fun _ => ?_) (fun _ => ?_) | with_reducible refine foldl_keep (fun _ _ => ?_) ?_
    | with_reducible refine dite_keep (fun _ => ?_) (fun _ => ?_) | with_reducible refine (State.at_spine ..).trans ?_
    | with_reducible refine (State.modMgt_spine ..).trans ?_ | with_reducible refine (State.endBurnt_spine ..).trans ?_
    | with_reducible refine (State.answerBurn_spine ..).trans ?_ | with_reducible refine (State.applyBurn_spine ..).trans ?_
    | simp only [spine_mk, spine_eta] | dsimp only | split
theorem enrolPilot_spine (src : Sys2Proof.Sess) (key : List Nat) (s : State) : (enrolPilot src key s).spine = s.spine := by
  unfold enrolPilot; repeat' first
    | with_reducible rfl | with_reducible refine ite_keep (fun _ => ?_) (fun _ => ?_) | with_reducible refine foldl_keep (fun _ _ => ?_) ?_
    | with_reducible refine dite_keep (fun _ => ?_) (fun _ => ?_) | with_reducible refine (State.respond_spine ..).trans ?_
    | with_reducible refine (State.modNv_spine ..).trans ?_ | simp only [spine_mk, spine_eta] | dsimp only | split
theorem removePilot_spine (src : Sys2Proof.Sess) (digest : List Nat) (s : State) : (removePilot src digest s).spine = s.spine := by
  unfold removePilot; repeat' first
    | with_reducible rfl | with_reducible refine ite_keep (fun _ => ?_) (fun _ => ?_) | with_reducible refine foldl_keep (fun _ _ => ?_) ?_
    | with_reducible refine dite_keep (fun _ => ?_) (fun _ => ?_) | with_reducible refine (State.respond_spine ..).trans ?_
    | with_reducible refine (State.endSessions_spine ..).trans ?_ | with_reducible refine (State.modNv_spine ..).trans ?_
    | simp only [spine_mk, spine_eta] | dsimp only | split
theorem setBerthKey_spine (src : Sys2Proof.Sess) (k : Nat) (key : Option (List Nat)) (s : State) :
    (setBerthKey src k key s).spine = s.spine := by
  unfold setBerthKey; repeat' first
    | with_reducible rfl | with_reducible refine ite_keep (fun _ => ?_) (fun _ => ?_) | with_reducible refine foldl_keep (fun _ _ => ?_) ?_
    | with_reducible refine dite_keep (fun _ => ?_) (fun _ => ?_) | with_reducible refine (State.respond_spine ..).trans ?_
    | with_reducible refine (State.endSession_spine ..).trans ?_ | with_reducible refine (State.modNv_spine ..).trans ?_
    | simp only [spine_mk, spine_eta] | dsimp only | split
theorem State.idle_spine (s : State) : s.idle.spine = (s.at (s.now + mgtCycle)).spine := rfl
theorem State.withFetchWord_spine (s : State) (nbits : Nat) (w : Nat) : (State.withFetchWord s nbits w).spine = s.spine := rfl

end Sys2Proof.Machine
end

