-- ==== Sys2Proof/Laws/State.lean ====
section
/-! SUPPORT. One lemma per field of State per update of another field, each true by unfolding, so that no later proof unfolds a
record update. -/
namespace Sys2Proof.Machine

@[simp] theorem State.with_pending_pending (s : State) (v : List Instr) : ({ s with pending := v } : State).pending = v := rfl
@[simp] theorem State.with_pending_now (s : State) (v : List Instr) : ({ s with pending := v } : State).now = s.now := rfl
@[simp] theorem State.with_pending_resetAt (s : State) (v : List Instr) : ({ s with pending := v } : State).resetAt = s.resetAt := rfl
@[simp] theorem State.with_pending_regs (s : State) (v : List Instr) : ({ s with pending := v } : State).regs = s.regs := rfl
@[simp] theorem State.with_pending_sent (s : State) (v : List Instr) : ({ s with pending := v } : State).sent = s.sent := rfl
@[simp] theorem State.with_pending_sessions (s : State) (v : List Instr) : ({ s with pending := v } : State).sessions = s.sessions := rfl
@[simp] theorem State.with_pending_bgs (s : State) (v : List Instr) : ({ s with pending := v } : State).bgs = s.bgs := rfl
@[simp] theorem State.with_pending_chart (s : State) (v : List Instr) : ({ s with pending := v } : State).chart = s.chart := rfl
@[simp] theorem State.with_pending_chtu (s : State) (v : List Instr) : ({ s with pending := v } : State).chtu = s.chtu := rfl
@[simp] theorem State.with_pending_nv (s : State) (v : List Instr) : ({ s with pending := v } : State).nv = s.nv := rfl
@[simp] theorem State.with_pending_lvc (s : State) (v : List Instr) : ({ s with pending := v } : State).lvc = s.lvc := rfl
@[simp] theorem State.with_pending_flt (s : State) (v : List Instr) : ({ s with pending := v } : State).flt = s.flt := rfl
@[simp] theorem State.with_pending_clk (s : State) (v : List Instr) : ({ s with pending := v } : State).clk = s.clk := rfl
@[simp] theorem State.with_pending_pwr (s : State) (v : List Instr) : ({ s with pending := v } : State).pwr = s.pwr := rfl
@[simp] theorem State.with_pending_ecc (s : State) (v : List Instr) : ({ s with pending := v } : State).ecc = s.ecc := rfl
@[simp] theorem State.with_pending_lan (s : State) (v : List Instr) : ({ s with pending := v } : State).lan = s.lan := rfl
@[simp] theorem State.with_pending_lnk (s : State) (v : List Instr) : ({ s with pending := v } : State).lnk = s.lnk := rfl
@[simp] theorem State.with_pending_home (s : State) (v : List Instr) : ({ s with pending := v } : State).home = s.home := rfl
@[simp] theorem State.with_pending_seam (s : State) (v : List Instr) : ({ s with pending := v } : State).seam = s.seam := rfl
@[simp] theorem State.with_pending_lod (s : State) (v : List Instr) : ({ s with pending := v } : State).lod = s.lod := rfl
@[simp] theorem State.with_pending_cpy (s : State) (v : List Instr) : ({ s with pending := v } : State).cpy = s.cpy := rfl
@[simp] theorem State.with_pending_bnd (s : State) (v : List Instr) : ({ s with pending := v } : State).bnd = s.bnd := rfl
@[simp] theorem State.with_pending_core (s : State) (v : List Instr) : ({ s with pending := v } : State).core = s.core := rfl
@[simp] theorem State.with_pending_ctrs (s : State) (v : List Instr) : ({ s with pending := v } : State).ctrs = s.ctrs := rfl
@[simp] theorem State.with_pending_mgt (s : State) (v : List Instr) : ({ s with pending := v } : State).mgt = s.mgt := rfl
@[simp] theorem State.with_pending_tal (s : State) (v : List Instr) : ({ s with pending := v } : State).tal = s.tal := rfl
@[simp] theorem State.with_pending_thm (s : State) (v : List Instr) : ({ s with pending := v } : State).thm = s.thm := rfl
@[simp] theorem State.with_pending_fresh (s : State) (v : List Instr) : ({ s with pending := v } : State).fresh = s.fresh := rfl
@[simp] theorem State.with_now_pending (s : State) (v : Nat) : ({ s with now := v } : State).pending = s.pending := rfl
@[simp] theorem State.with_now_now (s : State) (v : Nat) : ({ s with now := v } : State).now = v := rfl
@[simp] theorem State.with_now_resetAt (s : State) (v : Nat) : ({ s with now := v } : State).resetAt = s.resetAt := rfl
@[simp] theorem State.with_now_regs (s : State) (v : Nat) : ({ s with now := v } : State).regs = s.regs := rfl
@[simp] theorem State.with_now_sent (s : State) (v : Nat) : ({ s with now := v } : State).sent = s.sent := rfl
@[simp] theorem State.with_now_sessions (s : State) (v : Nat) : ({ s with now := v } : State).sessions = s.sessions := rfl
@[simp] theorem State.with_now_bgs (s : State) (v : Nat) : ({ s with now := v } : State).bgs = s.bgs := rfl
@[simp] theorem State.with_now_chart (s : State) (v : Nat) : ({ s with now := v } : State).chart = s.chart := rfl
@[simp] theorem State.with_now_chtu (s : State) (v : Nat) : ({ s with now := v } : State).chtu = s.chtu := rfl
@[simp] theorem State.with_now_nv (s : State) (v : Nat) : ({ s with now := v } : State).nv = s.nv := rfl
@[simp] theorem State.with_now_lvc (s : State) (v : Nat) : ({ s with now := v } : State).lvc = s.lvc := rfl
@[simp] theorem State.with_now_flt (s : State) (v : Nat) : ({ s with now := v } : State).flt = s.flt := rfl
@[simp] theorem State.with_now_clk (s : State) (v : Nat) : ({ s with now := v } : State).clk = s.clk := rfl
@[simp] theorem State.with_now_pwr (s : State) (v : Nat) : ({ s with now := v } : State).pwr = s.pwr := rfl
@[simp] theorem State.with_now_ecc (s : State) (v : Nat) : ({ s with now := v } : State).ecc = s.ecc := rfl
@[simp] theorem State.with_now_lan (s : State) (v : Nat) : ({ s with now := v } : State).lan = s.lan := rfl
@[simp] theorem State.with_now_lnk (s : State) (v : Nat) : ({ s with now := v } : State).lnk = s.lnk := rfl
@[simp] theorem State.with_now_home (s : State) (v : Nat) : ({ s with now := v } : State).home = s.home := rfl
@[simp] theorem State.with_now_seam (s : State) (v : Nat) : ({ s with now := v } : State).seam = s.seam := rfl
@[simp] theorem State.with_now_lod (s : State) (v : Nat) : ({ s with now := v } : State).lod = s.lod := rfl
@[simp] theorem State.with_now_cpy (s : State) (v : Nat) : ({ s with now := v } : State).cpy = s.cpy := rfl
@[simp] theorem State.with_now_bnd (s : State) (v : Nat) : ({ s with now := v } : State).bnd = s.bnd := rfl
@[simp] theorem State.with_now_core (s : State) (v : Nat) : ({ s with now := v } : State).core = s.core := rfl
@[simp] theorem State.with_now_ctrs (s : State) (v : Nat) : ({ s with now := v } : State).ctrs = s.ctrs := rfl
@[simp] theorem State.with_now_mgt (s : State) (v : Nat) : ({ s with now := v } : State).mgt = s.mgt := rfl
@[simp] theorem State.with_now_tal (s : State) (v : Nat) : ({ s with now := v } : State).tal = s.tal := rfl
@[simp] theorem State.with_now_thm (s : State) (v : Nat) : ({ s with now := v } : State).thm = s.thm := rfl
@[simp] theorem State.with_now_fresh (s : State) (v : Nat) : ({ s with now := v } : State).fresh = s.fresh := rfl
@[simp] theorem State.with_resetAt_pending (s : State) (v : Nat) : ({ s with resetAt := v } : State).pending = s.pending := rfl
@[simp] theorem State.with_resetAt_now (s : State) (v : Nat) : ({ s with resetAt := v } : State).now = s.now := rfl
@[simp] theorem State.with_resetAt_resetAt (s : State) (v : Nat) : ({ s with resetAt := v } : State).resetAt = v := rfl
@[simp] theorem State.with_resetAt_regs (s : State) (v : Nat) : ({ s with resetAt := v } : State).regs = s.regs := rfl
@[simp] theorem State.with_resetAt_sent (s : State) (v : Nat) : ({ s with resetAt := v } : State).sent = s.sent := rfl
@[simp] theorem State.with_resetAt_sessions (s : State) (v : Nat) : ({ s with resetAt := v } : State).sessions = s.sessions := rfl
@[simp] theorem State.with_resetAt_bgs (s : State) (v : Nat) : ({ s with resetAt := v } : State).bgs = s.bgs := rfl
@[simp] theorem State.with_resetAt_chart (s : State) (v : Nat) : ({ s with resetAt := v } : State).chart = s.chart := rfl
@[simp] theorem State.with_resetAt_chtu (s : State) (v : Nat) : ({ s with resetAt := v } : State).chtu = s.chtu := rfl
@[simp] theorem State.with_resetAt_nv (s : State) (v : Nat) : ({ s with resetAt := v } : State).nv = s.nv := rfl
@[simp] theorem State.with_resetAt_lvc (s : State) (v : Nat) : ({ s with resetAt := v } : State).lvc = s.lvc := rfl
@[simp] theorem State.with_resetAt_flt (s : State) (v : Nat) : ({ s with resetAt := v } : State).flt = s.flt := rfl
@[simp] theorem State.with_resetAt_clk (s : State) (v : Nat) : ({ s with resetAt := v } : State).clk = s.clk := rfl
@[simp] theorem State.with_resetAt_pwr (s : State) (v : Nat) : ({ s with resetAt := v } : State).pwr = s.pwr := rfl
@[simp] theorem State.with_resetAt_ecc (s : State) (v : Nat) : ({ s with resetAt := v } : State).ecc = s.ecc := rfl
@[simp] theorem State.with_resetAt_lan (s : State) (v : Nat) : ({ s with resetAt := v } : State).lan = s.lan := rfl
@[simp] theorem State.with_resetAt_lnk (s : State) (v : Nat) : ({ s with resetAt := v } : State).lnk = s.lnk := rfl
@[simp] theorem State.with_resetAt_home (s : State) (v : Nat) : ({ s with resetAt := v } : State).home = s.home := rfl
@[simp] theorem State.with_resetAt_seam (s : State) (v : Nat) : ({ s with resetAt := v } : State).seam = s.seam := rfl
@[simp] theorem State.with_resetAt_lod (s : State) (v : Nat) : ({ s with resetAt := v } : State).lod = s.lod := rfl
@[simp] theorem State.with_resetAt_cpy (s : State) (v : Nat) : ({ s with resetAt := v } : State).cpy = s.cpy := rfl
@[simp] theorem State.with_resetAt_bnd (s : State) (v : Nat) : ({ s with resetAt := v } : State).bnd = s.bnd := rfl
@[simp] theorem State.with_resetAt_core (s : State) (v : Nat) : ({ s with resetAt := v } : State).core = s.core := rfl
@[simp] theorem State.with_resetAt_ctrs (s : State) (v : Nat) : ({ s with resetAt := v } : State).ctrs = s.ctrs := rfl
@[simp] theorem State.with_resetAt_mgt (s : State) (v : Nat) : ({ s with resetAt := v } : State).mgt = s.mgt := rfl
@[simp] theorem State.with_resetAt_tal (s : State) (v : Nat) : ({ s with resetAt := v } : State).tal = s.tal := rfl
@[simp] theorem State.with_resetAt_thm (s : State) (v : Nat) : ({ s with resetAt := v } : State).thm = s.thm := rfl
@[simp] theorem State.with_resetAt_fresh (s : State) (v : Nat) : ({ s with resetAt := v } : State).fresh = s.fresh := rfl
@[simp] theorem State.with_regs_pending (s : State) (v : SMap Nat) : ({ s with regs := v } : State).pending = s.pending := rfl
@[simp] theorem State.with_regs_now (s : State) (v : SMap Nat) : ({ s with regs := v } : State).now = s.now := rfl
@[simp] theorem State.with_regs_resetAt (s : State) (v : SMap Nat) : ({ s with regs := v } : State).resetAt = s.resetAt := rfl
@[simp] theorem State.with_regs_regs (s : State) (v : SMap Nat) : ({ s with regs := v } : State).regs = v := rfl
@[simp] theorem State.with_regs_sent (s : State) (v : SMap Nat) : ({ s with regs := v } : State).sent = s.sent := rfl
@[simp] theorem State.with_regs_sessions (s : State) (v : SMap Nat) : ({ s with regs := v } : State).sessions = s.sessions := rfl
@[simp] theorem State.with_regs_bgs (s : State) (v : SMap Nat) : ({ s with regs := v } : State).bgs = s.bgs := rfl
@[simp] theorem State.with_regs_chart (s : State) (v : SMap Nat) : ({ s with regs := v } : State).chart = s.chart := rfl
@[simp] theorem State.with_regs_chtu (s : State) (v : SMap Nat) : ({ s with regs := v } : State).chtu = s.chtu := rfl
@[simp] theorem State.with_regs_nv (s : State) (v : SMap Nat) : ({ s with regs := v } : State).nv = s.nv := rfl
@[simp] theorem State.with_regs_lvc (s : State) (v : SMap Nat) : ({ s with regs := v } : State).lvc = s.lvc := rfl
@[simp] theorem State.with_regs_flt (s : State) (v : SMap Nat) : ({ s with regs := v } : State).flt = s.flt := rfl
@[simp] theorem State.with_regs_clk (s : State) (v : SMap Nat) : ({ s with regs := v } : State).clk = s.clk := rfl
@[simp] theorem State.with_regs_pwr (s : State) (v : SMap Nat) : ({ s with regs := v } : State).pwr = s.pwr := rfl
@[simp] theorem State.with_regs_ecc (s : State) (v : SMap Nat) : ({ s with regs := v } : State).ecc = s.ecc := rfl
@[simp] theorem State.with_regs_lan (s : State) (v : SMap Nat) : ({ s with regs := v } : State).lan = s.lan := rfl
@[simp] theorem State.with_regs_lnk (s : State) (v : SMap Nat) : ({ s with regs := v } : State).lnk = s.lnk := rfl
@[simp] theorem State.with_regs_home (s : State) (v : SMap Nat) : ({ s with regs := v } : State).home = s.home := rfl
@[simp] theorem State.with_regs_seam (s : State) (v : SMap Nat) : ({ s with regs := v } : State).seam = s.seam := rfl
@[simp] theorem State.with_regs_lod (s : State) (v : SMap Nat) : ({ s with regs := v } : State).lod = s.lod := rfl
@[simp] theorem State.with_regs_cpy (s : State) (v : SMap Nat) : ({ s with regs := v } : State).cpy = s.cpy := rfl
@[simp] theorem State.with_regs_bnd (s : State) (v : SMap Nat) : ({ s with regs := v } : State).bnd = s.bnd := rfl
@[simp] theorem State.with_regs_core (s : State) (v : SMap Nat) : ({ s with regs := v } : State).core = s.core := rfl
@[simp] theorem State.with_regs_ctrs (s : State) (v : SMap Nat) : ({ s with regs := v } : State).ctrs = s.ctrs := rfl
@[simp] theorem State.with_regs_mgt (s : State) (v : SMap Nat) : ({ s with regs := v } : State).mgt = s.mgt := rfl
@[simp] theorem State.with_regs_tal (s : State) (v : SMap Nat) : ({ s with regs := v } : State).tal = s.tal := rfl
@[simp] theorem State.with_regs_thm (s : State) (v : SMap Nat) : ({ s with regs := v } : State).thm = s.thm := rfl
@[simp] theorem State.with_regs_fresh (s : State) (v : SMap Nat) : ({ s with regs := v } : State).fresh = s.fresh := rfl
@[simp] theorem State.with_sent_pending (s : State) (v : List Emit) : ({ s with sent := v } : State).pending = s.pending := rfl
@[simp] theorem State.with_sent_now (s : State) (v : List Emit) : ({ s with sent := v } : State).now = s.now := rfl
@[simp] theorem State.with_sent_resetAt (s : State) (v : List Emit) : ({ s with sent := v } : State).resetAt = s.resetAt := rfl
@[simp] theorem State.with_sent_regs (s : State) (v : List Emit) : ({ s with sent := v } : State).regs = s.regs := rfl
@[simp] theorem State.with_sent_sent (s : State) (v : List Emit) : ({ s with sent := v } : State).sent = v := rfl
@[simp] theorem State.with_sent_sessions (s : State) (v : List Emit) : ({ s with sent := v } : State).sessions = s.sessions := rfl
@[simp] theorem State.with_sent_bgs (s : State) (v : List Emit) : ({ s with sent := v } : State).bgs = s.bgs := rfl
@[simp] theorem State.with_sent_chart (s : State) (v : List Emit) : ({ s with sent := v } : State).chart = s.chart := rfl
@[simp] theorem State.with_sent_chtu (s : State) (v : List Emit) : ({ s with sent := v } : State).chtu = s.chtu := rfl
@[simp] theorem State.with_sent_nv (s : State) (v : List Emit) : ({ s with sent := v } : State).nv = s.nv := rfl
@[simp] theorem State.with_sent_lvc (s : State) (v : List Emit) : ({ s with sent := v } : State).lvc = s.lvc := rfl
@[simp] theorem State.with_sent_flt (s : State) (v : List Emit) : ({ s with sent := v } : State).flt = s.flt := rfl
@[simp] theorem State.with_sent_clk (s : State) (v : List Emit) : ({ s with sent := v } : State).clk = s.clk := rfl
@[simp] theorem State.with_sent_pwr (s : State) (v : List Emit) : ({ s with sent := v } : State).pwr = s.pwr := rfl
@[simp] theorem State.with_sent_ecc (s : State) (v : List Emit) : ({ s with sent := v } : State).ecc = s.ecc := rfl
@[simp] theorem State.with_sent_lan (s : State) (v : List Emit) : ({ s with sent := v } : State).lan = s.lan := rfl
@[simp] theorem State.with_sent_lnk (s : State) (v : List Emit) : ({ s with sent := v } : State).lnk = s.lnk := rfl
@[simp] theorem State.with_sent_home (s : State) (v : List Emit) : ({ s with sent := v } : State).home = s.home := rfl
@[simp] theorem State.with_sent_seam (s : State) (v : List Emit) : ({ s with sent := v } : State).seam = s.seam := rfl
@[simp] theorem State.with_sent_lod (s : State) (v : List Emit) : ({ s with sent := v } : State).lod = s.lod := rfl
@[simp] theorem State.with_sent_cpy (s : State) (v : List Emit) : ({ s with sent := v } : State).cpy = s.cpy := rfl
@[simp] theorem State.with_sent_bnd (s : State) (v : List Emit) : ({ s with sent := v } : State).bnd = s.bnd := rfl
@[simp] theorem State.with_sent_core (s : State) (v : List Emit) : ({ s with sent := v } : State).core = s.core := rfl
@[simp] theorem State.with_sent_ctrs (s : State) (v : List Emit) : ({ s with sent := v } : State).ctrs = s.ctrs := rfl
@[simp] theorem State.with_sent_mgt (s : State) (v : List Emit) : ({ s with sent := v } : State).mgt = s.mgt := rfl
@[simp] theorem State.with_sent_tal (s : State) (v : List Emit) : ({ s with sent := v } : State).tal = s.tal := rfl
@[simp] theorem State.with_sent_thm (s : State) (v : List Emit) : ({ s with sent := v } : State).thm = s.thm := rfl
@[simp] theorem State.with_sent_fresh (s : State) (v : List Emit) : ({ s with sent := v } : State).fresh = s.fresh := rfl
@[simp] theorem State.with_sessions_pending (s : State) (v : SMap SessionRec) : ({ s with sessions := v } : State).pending = s.pending := rfl
@[simp] theorem State.with_sessions_now (s : State) (v : SMap SessionRec) : ({ s with sessions := v } : State).now = s.now := rfl
@[simp] theorem State.with_sessions_resetAt (s : State) (v : SMap SessionRec) : ({ s with sessions := v } : State).resetAt = s.resetAt := rfl
@[simp] theorem State.with_sessions_regs (s : State) (v : SMap SessionRec) : ({ s with sessions := v } : State).regs = s.regs := rfl
@[simp] theorem State.with_sessions_sent (s : State) (v : SMap SessionRec) : ({ s with sessions := v } : State).sent = s.sent := rfl
@[simp] theorem State.with_sessions_sessions (s : State) (v : SMap SessionRec) : ({ s with sessions := v } : State).sessions = v := rfl
@[simp] theorem State.with_sessions_bgs (s : State) (v : SMap SessionRec) : ({ s with sessions := v } : State).bgs = s.bgs := rfl
@[simp] theorem State.with_sessions_chart (s : State) (v : SMap SessionRec) : ({ s with sessions := v } : State).chart = s.chart := rfl
@[simp] theorem State.with_sessions_chtu (s : State) (v : SMap SessionRec) : ({ s with sessions := v } : State).chtu = s.chtu := rfl
@[simp] theorem State.with_sessions_nv (s : State) (v : SMap SessionRec) : ({ s with sessions := v } : State).nv = s.nv := rfl
@[simp] theorem State.with_sessions_lvc (s : State) (v : SMap SessionRec) : ({ s with sessions := v } : State).lvc = s.lvc := rfl
@[simp] theorem State.with_sessions_flt (s : State) (v : SMap SessionRec) : ({ s with sessions := v } : State).flt = s.flt := rfl
@[simp] theorem State.with_sessions_clk (s : State) (v : SMap SessionRec) : ({ s with sessions := v } : State).clk = s.clk := rfl
@[simp] theorem State.with_sessions_pwr (s : State) (v : SMap SessionRec) : ({ s with sessions := v } : State).pwr = s.pwr := rfl
@[simp] theorem State.with_sessions_ecc (s : State) (v : SMap SessionRec) : ({ s with sessions := v } : State).ecc = s.ecc := rfl
@[simp] theorem State.with_sessions_lan (s : State) (v : SMap SessionRec) : ({ s with sessions := v } : State).lan = s.lan := rfl
@[simp] theorem State.with_sessions_lnk (s : State) (v : SMap SessionRec) : ({ s with sessions := v } : State).lnk = s.lnk := rfl
@[simp] theorem State.with_sessions_home (s : State) (v : SMap SessionRec) : ({ s with sessions := v } : State).home = s.home := rfl
@[simp] theorem State.with_sessions_seam (s : State) (v : SMap SessionRec) : ({ s with sessions := v } : State).seam = s.seam := rfl
@[simp] theorem State.with_sessions_lod (s : State) (v : SMap SessionRec) : ({ s with sessions := v } : State).lod = s.lod := rfl
@[simp] theorem State.with_sessions_cpy (s : State) (v : SMap SessionRec) : ({ s with sessions := v } : State).cpy = s.cpy := rfl
@[simp] theorem State.with_sessions_bnd (s : State) (v : SMap SessionRec) : ({ s with sessions := v } : State).bnd = s.bnd := rfl
@[simp] theorem State.with_sessions_core (s : State) (v : SMap SessionRec) : ({ s with sessions := v } : State).core = s.core := rfl
@[simp] theorem State.with_sessions_ctrs (s : State) (v : SMap SessionRec) : ({ s with sessions := v } : State).ctrs = s.ctrs := rfl
@[simp] theorem State.with_sessions_mgt (s : State) (v : SMap SessionRec) : ({ s with sessions := v } : State).mgt = s.mgt := rfl
@[simp] theorem State.with_sessions_tal (s : State) (v : SMap SessionRec) : ({ s with sessions := v } : State).tal = s.tal := rfl
@[simp] theorem State.with_sessions_thm (s : State) (v : SMap SessionRec) : ({ s with sessions := v } : State).thm = s.thm := rfl
@[simp] theorem State.with_sessions_fresh (s : State) (v : SMap SessionRec) : ({ s with sessions := v } : State).fresh = s.fresh := rfl
@[simp] theorem State.with_bgs_pending (s : State) (v : List BgRec) : ({ s with bgs := v } : State).pending = s.pending := rfl
@[simp] theorem State.with_bgs_now (s : State) (v : List BgRec) : ({ s with bgs := v } : State).now = s.now := rfl
@[simp] theorem State.with_bgs_resetAt (s : State) (v : List BgRec) : ({ s with bgs := v } : State).resetAt = s.resetAt := rfl
@[simp] theorem State.with_bgs_regs (s : State) (v : List BgRec) : ({ s with bgs := v } : State).regs = s.regs := rfl
@[simp] theorem State.with_bgs_sent (s : State) (v : List BgRec) : ({ s with bgs := v } : State).sent = s.sent := rfl
@[simp] theorem State.with_bgs_sessions (s : State) (v : List BgRec) : ({ s with bgs := v } : State).sessions = s.sessions := rfl
@[simp] theorem State.with_bgs_bgs (s : State) (v : List BgRec) : ({ s with bgs := v } : State).bgs = v := rfl
@[simp] theorem State.with_bgs_chart (s : State) (v : List BgRec) : ({ s with bgs := v } : State).chart = s.chart := rfl
@[simp] theorem State.with_bgs_chtu (s : State) (v : List BgRec) : ({ s with bgs := v } : State).chtu = s.chtu := rfl
@[simp] theorem State.with_bgs_nv (s : State) (v : List BgRec) : ({ s with bgs := v } : State).nv = s.nv := rfl
@[simp] theorem State.with_bgs_lvc (s : State) (v : List BgRec) : ({ s with bgs := v } : State).lvc = s.lvc := rfl
@[simp] theorem State.with_bgs_flt (s : State) (v : List BgRec) : ({ s with bgs := v } : State).flt = s.flt := rfl
@[simp] theorem State.with_bgs_clk (s : State) (v : List BgRec) : ({ s with bgs := v } : State).clk = s.clk := rfl
@[simp] theorem State.with_bgs_pwr (s : State) (v : List BgRec) : ({ s with bgs := v } : State).pwr = s.pwr := rfl
@[simp] theorem State.with_bgs_ecc (s : State) (v : List BgRec) : ({ s with bgs := v } : State).ecc = s.ecc := rfl
@[simp] theorem State.with_bgs_lan (s : State) (v : List BgRec) : ({ s with bgs := v } : State).lan = s.lan := rfl
@[simp] theorem State.with_bgs_lnk (s : State) (v : List BgRec) : ({ s with bgs := v } : State).lnk = s.lnk := rfl
@[simp] theorem State.with_bgs_home (s : State) (v : List BgRec) : ({ s with bgs := v } : State).home = s.home := rfl
@[simp] theorem State.with_bgs_seam (s : State) (v : List BgRec) : ({ s with bgs := v } : State).seam = s.seam := rfl
@[simp] theorem State.with_bgs_lod (s : State) (v : List BgRec) : ({ s with bgs := v } : State).lod = s.lod := rfl
@[simp] theorem State.with_bgs_cpy (s : State) (v : List BgRec) : ({ s with bgs := v } : State).cpy = s.cpy := rfl
@[simp] theorem State.with_bgs_bnd (s : State) (v : List BgRec) : ({ s with bgs := v } : State).bnd = s.bnd := rfl
@[simp] theorem State.with_bgs_core (s : State) (v : List BgRec) : ({ s with bgs := v } : State).core = s.core := rfl
@[simp] theorem State.with_bgs_ctrs (s : State) (v : List BgRec) : ({ s with bgs := v } : State).ctrs = s.ctrs := rfl
@[simp] theorem State.with_bgs_mgt (s : State) (v : List BgRec) : ({ s with bgs := v } : State).mgt = s.mgt := rfl
@[simp] theorem State.with_bgs_tal (s : State) (v : List BgRec) : ({ s with bgs := v } : State).tal = s.tal := rfl
@[simp] theorem State.with_bgs_thm (s : State) (v : List BgRec) : ({ s with bgs := v } : State).thm = s.thm := rfl
@[simp] theorem State.with_bgs_fresh (s : State) (v : List BgRec) : ({ s with bgs := v } : State).fresh = s.fresh := rfl
@[simp] theorem State.with_chart_pending (s : State) (v : Chart) : ({ s with chart := v } : State).pending = s.pending := rfl
@[simp] theorem State.with_chart_now (s : State) (v : Chart) : ({ s with chart := v } : State).now = s.now := rfl
@[simp] theorem State.with_chart_resetAt (s : State) (v : Chart) : ({ s with chart := v } : State).resetAt = s.resetAt := rfl
@[simp] theorem State.with_chart_regs (s : State) (v : Chart) : ({ s with chart := v } : State).regs = s.regs := rfl
@[simp] theorem State.with_chart_sent (s : State) (v : Chart) : ({ s with chart := v } : State).sent = s.sent := rfl
@[simp] theorem State.with_chart_sessions (s : State) (v : Chart) : ({ s with chart := v } : State).sessions = s.sessions := rfl
@[simp] theorem State.with_chart_bgs (s : State) (v : Chart) : ({ s with chart := v } : State).bgs = s.bgs := rfl
@[simp] theorem State.with_chart_chart (s : State) (v : Chart) : ({ s with chart := v } : State).chart = v := rfl
@[simp] theorem State.with_chart_chtu (s : State) (v : Chart) : ({ s with chart := v } : State).chtu = s.chtu := rfl
@[simp] theorem State.with_chart_nv (s : State) (v : Chart) : ({ s with chart := v } : State).nv = s.nv := rfl
@[simp] theorem State.with_chart_lvc (s : State) (v : Chart) : ({ s with chart := v } : State).lvc = s.lvc := rfl
@[simp] theorem State.with_chart_flt (s : State) (v : Chart) : ({ s with chart := v } : State).flt = s.flt := rfl
@[simp] theorem State.with_chart_clk (s : State) (v : Chart) : ({ s with chart := v } : State).clk = s.clk := rfl
@[simp] theorem State.with_chart_pwr (s : State) (v : Chart) : ({ s with chart := v } : State).pwr = s.pwr := rfl
@[simp] theorem State.with_chart_ecc (s : State) (v : Chart) : ({ s with chart := v } : State).ecc = s.ecc := rfl
@[simp] theorem State.with_chart_lan (s : State) (v : Chart) : ({ s with chart := v } : State).lan = s.lan := rfl
@[simp] theorem State.with_chart_lnk (s : State) (v : Chart) : ({ s with chart := v } : State).lnk = s.lnk := rfl
@[simp] theorem State.with_chart_home (s : State) (v : Chart) : ({ s with chart := v } : State).home = s.home := rfl
@[simp] theorem State.with_chart_seam (s : State) (v : Chart) : ({ s with chart := v } : State).seam = s.seam := rfl
@[simp] theorem State.with_chart_lod (s : State) (v : Chart) : ({ s with chart := v } : State).lod = s.lod := rfl
@[simp] theorem State.with_chart_cpy (s : State) (v : Chart) : ({ s with chart := v } : State).cpy = s.cpy := rfl
@[simp] theorem State.with_chart_bnd (s : State) (v : Chart) : ({ s with chart := v } : State).bnd = s.bnd := rfl
@[simp] theorem State.with_chart_core (s : State) (v : Chart) : ({ s with chart := v } : State).core = s.core := rfl
@[simp] theorem State.with_chart_ctrs (s : State) (v : Chart) : ({ s with chart := v } : State).ctrs = s.ctrs := rfl
@[simp] theorem State.with_chart_mgt (s : State) (v : Chart) : ({ s with chart := v } : State).mgt = s.mgt := rfl
@[simp] theorem State.with_chart_tal (s : State) (v : Chart) : ({ s with chart := v } : State).tal = s.tal := rfl
@[simp] theorem State.with_chart_thm (s : State) (v : Chart) : ({ s with chart := v } : State).thm = s.thm := rfl
@[simp] theorem State.with_chart_fresh (s : State) (v : Chart) : ({ s with chart := v } : State).fresh = s.fresh := rfl
@[simp] theorem State.with_chtu_pending (s : State) (v : ChartUnit) : ({ s with chtu := v } : State).pending = s.pending := rfl
@[simp] theorem State.with_chtu_now (s : State) (v : ChartUnit) : ({ s with chtu := v } : State).now = s.now := rfl
@[simp] theorem State.with_chtu_resetAt (s : State) (v : ChartUnit) : ({ s with chtu := v } : State).resetAt = s.resetAt := rfl
@[simp] theorem State.with_chtu_regs (s : State) (v : ChartUnit) : ({ s with chtu := v } : State).regs = s.regs := rfl
@[simp] theorem State.with_chtu_sent (s : State) (v : ChartUnit) : ({ s with chtu := v } : State).sent = s.sent := rfl
@[simp] theorem State.with_chtu_sessions (s : State) (v : ChartUnit) : ({ s with chtu := v } : State).sessions = s.sessions := rfl
@[simp] theorem State.with_chtu_bgs (s : State) (v : ChartUnit) : ({ s with chtu := v } : State).bgs = s.bgs := rfl
@[simp] theorem State.with_chtu_chart (s : State) (v : ChartUnit) : ({ s with chtu := v } : State).chart = s.chart := rfl
@[simp] theorem State.with_chtu_chtu (s : State) (v : ChartUnit) : ({ s with chtu := v } : State).chtu = v := rfl
@[simp] theorem State.with_chtu_nv (s : State) (v : ChartUnit) : ({ s with chtu := v } : State).nv = s.nv := rfl
@[simp] theorem State.with_chtu_lvc (s : State) (v : ChartUnit) : ({ s with chtu := v } : State).lvc = s.lvc := rfl
@[simp] theorem State.with_chtu_flt (s : State) (v : ChartUnit) : ({ s with chtu := v } : State).flt = s.flt := rfl
@[simp] theorem State.with_chtu_clk (s : State) (v : ChartUnit) : ({ s with chtu := v } : State).clk = s.clk := rfl
@[simp] theorem State.with_chtu_pwr (s : State) (v : ChartUnit) : ({ s with chtu := v } : State).pwr = s.pwr := rfl
@[simp] theorem State.with_chtu_ecc (s : State) (v : ChartUnit) : ({ s with chtu := v } : State).ecc = s.ecc := rfl
@[simp] theorem State.with_chtu_lan (s : State) (v : ChartUnit) : ({ s with chtu := v } : State).lan = s.lan := rfl
@[simp] theorem State.with_chtu_lnk (s : State) (v : ChartUnit) : ({ s with chtu := v } : State).lnk = s.lnk := rfl
@[simp] theorem State.with_chtu_home (s : State) (v : ChartUnit) : ({ s with chtu := v } : State).home = s.home := rfl
@[simp] theorem State.with_chtu_seam (s : State) (v : ChartUnit) : ({ s with chtu := v } : State).seam = s.seam := rfl
@[simp] theorem State.with_chtu_lod (s : State) (v : ChartUnit) : ({ s with chtu := v } : State).lod = s.lod := rfl
@[simp] theorem State.with_chtu_cpy (s : State) (v : ChartUnit) : ({ s with chtu := v } : State).cpy = s.cpy := rfl
@[simp] theorem State.with_chtu_bnd (s : State) (v : ChartUnit) : ({ s with chtu := v } : State).bnd = s.bnd := rfl
@[simp] theorem State.with_chtu_core (s : State) (v : ChartUnit) : ({ s with chtu := v } : State).core = s.core := rfl
@[simp] theorem State.with_chtu_ctrs (s : State) (v : ChartUnit) : ({ s with chtu := v } : State).ctrs = s.ctrs := rfl
@[simp] theorem State.with_chtu_mgt (s : State) (v : ChartUnit) : ({ s with chtu := v } : State).mgt = s.mgt := rfl
@[simp] theorem State.with_chtu_tal (s : State) (v : ChartUnit) : ({ s with chtu := v } : State).tal = s.tal := rfl
@[simp] theorem State.with_chtu_thm (s : State) (v : ChartUnit) : ({ s with chtu := v } : State).thm = s.thm := rfl
@[simp] theorem State.with_chtu_fresh (s : State) (v : ChartUnit) : ({ s with chtu := v } : State).fresh = s.fresh := rfl
@[simp] theorem State.with_nv_pending (s : State) (v : NonVolatile) : ({ s with nv := v } : State).pending = s.pending := rfl
@[simp] theorem State.with_nv_now (s : State) (v : NonVolatile) : ({ s with nv := v } : State).now = s.now := rfl
@[simp] theorem State.with_nv_resetAt (s : State) (v : NonVolatile) : ({ s with nv := v } : State).resetAt = s.resetAt := rfl
@[simp] theorem State.with_nv_regs (s : State) (v : NonVolatile) : ({ s with nv := v } : State).regs = s.regs := rfl
@[simp] theorem State.with_nv_sent (s : State) (v : NonVolatile) : ({ s with nv := v } : State).sent = s.sent := rfl
@[simp] theorem State.with_nv_sessions (s : State) (v : NonVolatile) : ({ s with nv := v } : State).sessions = s.sessions := rfl
@[simp] theorem State.with_nv_bgs (s : State) (v : NonVolatile) : ({ s with nv := v } : State).bgs = s.bgs := rfl
@[simp] theorem State.with_nv_chart (s : State) (v : NonVolatile) : ({ s with nv := v } : State).chart = s.chart := rfl
@[simp] theorem State.with_nv_chtu (s : State) (v : NonVolatile) : ({ s with nv := v } : State).chtu = s.chtu := rfl
@[simp] theorem State.with_nv_nv (s : State) (v : NonVolatile) : ({ s with nv := v } : State).nv = v := rfl
@[simp] theorem State.with_nv_lvc (s : State) (v : NonVolatile) : ({ s with nv := v } : State).lvc = s.lvc := rfl
@[simp] theorem State.with_nv_flt (s : State) (v : NonVolatile) : ({ s with nv := v } : State).flt = s.flt := rfl
@[simp] theorem State.with_nv_clk (s : State) (v : NonVolatile) : ({ s with nv := v } : State).clk = s.clk := rfl
@[simp] theorem State.with_nv_pwr (s : State) (v : NonVolatile) : ({ s with nv := v } : State).pwr = s.pwr := rfl
@[simp] theorem State.with_nv_ecc (s : State) (v : NonVolatile) : ({ s with nv := v } : State).ecc = s.ecc := rfl
@[simp] theorem State.with_nv_lan (s : State) (v : NonVolatile) : ({ s with nv := v } : State).lan = s.lan := rfl
@[simp] theorem State.with_nv_lnk (s : State) (v : NonVolatile) : ({ s with nv := v } : State).lnk = s.lnk := rfl
@[simp] theorem State.with_nv_home (s : State) (v : NonVolatile) : ({ s with nv := v } : State).home = s.home := rfl
@[simp] theorem State.with_nv_seam (s : State) (v : NonVolatile) : ({ s with nv := v } : State).seam = s.seam := rfl
@[simp] theorem State.with_nv_lod (s : State) (v : NonVolatile) : ({ s with nv := v } : State).lod = s.lod := rfl
@[simp] theorem State.with_nv_cpy (s : State) (v : NonVolatile) : ({ s with nv := v } : State).cpy = s.cpy := rfl
@[simp] theorem State.with_nv_bnd (s : State) (v : NonVolatile) : ({ s with nv := v } : State).bnd = s.bnd := rfl
@[simp] theorem State.with_nv_core (s : State) (v : NonVolatile) : ({ s with nv := v } : State).core = s.core := rfl
@[simp] theorem State.with_nv_ctrs (s : State) (v : NonVolatile) : ({ s with nv := v } : State).ctrs = s.ctrs := rfl
@[simp] theorem State.with_nv_mgt (s : State) (v : NonVolatile) : ({ s with nv := v } : State).mgt = s.mgt := rfl
@[simp] theorem State.with_nv_tal (s : State) (v : NonVolatile) : ({ s with nv := v } : State).tal = s.tal := rfl
@[simp] theorem State.with_nv_thm (s : State) (v : NonVolatile) : ({ s with nv := v } : State).thm = s.thm := rfl
@[simp] theorem State.with_nv_fresh (s : State) (v : NonVolatile) : ({ s with nv := v } : State).fresh = s.fresh := rfl
@[simp] theorem State.with_lvc_pending (s : State) (v : LeaveUnit) : ({ s with lvc := v } : State).pending = s.pending := rfl
@[simp] theorem State.with_lvc_now (s : State) (v : LeaveUnit) : ({ s with lvc := v } : State).now = s.now := rfl
@[simp] theorem State.with_lvc_resetAt (s : State) (v : LeaveUnit) : ({ s with lvc := v } : State).resetAt = s.resetAt := rfl
@[simp] theorem State.with_lvc_regs (s : State) (v : LeaveUnit) : ({ s with lvc := v } : State).regs = s.regs := rfl
@[simp] theorem State.with_lvc_sent (s : State) (v : LeaveUnit) : ({ s with lvc := v } : State).sent = s.sent := rfl
@[simp] theorem State.with_lvc_sessions (s : State) (v : LeaveUnit) : ({ s with lvc := v } : State).sessions = s.sessions := rfl
@[simp] theorem State.with_lvc_bgs (s : State) (v : LeaveUnit) : ({ s with lvc := v } : State).bgs = s.bgs := rfl
@[simp] theorem State.with_lvc_chart (s : State) (v : LeaveUnit) : ({ s with lvc := v } : State).chart = s.chart := rfl
@[simp] theorem State.with_lvc_chtu (s : State) (v : LeaveUnit) : ({ s with lvc := v } : State).chtu = s.chtu := rfl
@[simp] theorem State.with_lvc_nv (s : State) (v : LeaveUnit) : ({ s with lvc := v } : State).nv = s.nv := rfl
@[simp] theorem State.with_lvc_lvc (s : State) (v : LeaveUnit) : ({ s with lvc := v } : State).lvc = v := rfl
@[simp] theorem State.with_lvc_flt (s : State) (v : LeaveUnit) : ({ s with lvc := v } : State).flt = s.flt := rfl
@[simp] theorem State.with_lvc_clk (s : State) (v : LeaveUnit) : ({ s with lvc := v } : State).clk = s.clk := rfl
@[simp] theorem State.with_lvc_pwr (s : State) (v : LeaveUnit) : ({ s with lvc := v } : State).pwr = s.pwr := rfl
@[simp] theorem State.with_lvc_ecc (s : State) (v : LeaveUnit) : ({ s with lvc := v } : State).ecc = s.ecc := rfl
@[simp] theorem State.with_lvc_lan (s : State) (v : LeaveUnit) : ({ s with lvc := v } : State).lan = s.lan := rfl
@[simp] theorem State.with_lvc_lnk (s : State) (v : LeaveUnit) : ({ s with lvc := v } : State).lnk = s.lnk := rfl
@[simp] theorem State.with_lvc_home (s : State) (v : LeaveUnit) : ({ s with lvc := v } : State).home = s.home := rfl
@[simp] theorem State.with_lvc_seam (s : State) (v : LeaveUnit) : ({ s with lvc := v } : State).seam = s.seam := rfl
@[simp] theorem State.with_lvc_lod (s : State) (v : LeaveUnit) : ({ s with lvc := v } : State).lod = s.lod := rfl
@[simp] theorem State.with_lvc_cpy (s : State) (v : LeaveUnit) : ({ s with lvc := v } : State).cpy = s.cpy := rfl
@[simp] theorem State.with_lvc_bnd (s : State) (v : LeaveUnit) : ({ s with lvc := v } : State).bnd = s.bnd := rfl
@[simp] theorem State.with_lvc_core (s : State) (v : LeaveUnit) : ({ s with lvc := v } : State).core = s.core := rfl
@[simp] theorem State.with_lvc_ctrs (s : State) (v : LeaveUnit) : ({ s with lvc := v } : State).ctrs = s.ctrs := rfl
@[simp] theorem State.with_lvc_mgt (s : State) (v : LeaveUnit) : ({ s with lvc := v } : State).mgt = s.mgt := rfl
@[simp] theorem State.with_lvc_tal (s : State) (v : LeaveUnit) : ({ s with lvc := v } : State).tal = s.tal := rfl
@[simp] theorem State.with_lvc_thm (s : State) (v : LeaveUnit) : ({ s with lvc := v } : State).thm = s.thm := rfl
@[simp] theorem State.with_lvc_fresh (s : State) (v : LeaveUnit) : ({ s with lvc := v } : State).fresh = s.fresh := rfl
@[simp] theorem State.with_flt_pending (s : State) (v : FaultUnit) : ({ s with flt := v } : State).pending = s.pending := rfl
@[simp] theorem State.with_flt_now (s : State) (v : FaultUnit) : ({ s with flt := v } : State).now = s.now := rfl
@[simp] theorem State.with_flt_resetAt (s : State) (v : FaultUnit) : ({ s with flt := v } : State).resetAt = s.resetAt := rfl
@[simp] theorem State.with_flt_regs (s : State) (v : FaultUnit) : ({ s with flt := v } : State).regs = s.regs := rfl
@[simp] theorem State.with_flt_sent (s : State) (v : FaultUnit) : ({ s with flt := v } : State).sent = s.sent := rfl
@[simp] theorem State.with_flt_sessions (s : State) (v : FaultUnit) : ({ s with flt := v } : State).sessions = s.sessions := rfl
@[simp] theorem State.with_flt_bgs (s : State) (v : FaultUnit) : ({ s with flt := v } : State).bgs = s.bgs := rfl
@[simp] theorem State.with_flt_chart (s : State) (v : FaultUnit) : ({ s with flt := v } : State).chart = s.chart := rfl
@[simp] theorem State.with_flt_chtu (s : State) (v : FaultUnit) : ({ s with flt := v } : State).chtu = s.chtu := rfl
@[simp] theorem State.with_flt_nv (s : State) (v : FaultUnit) : ({ s with flt := v } : State).nv = s.nv := rfl
@[simp] theorem State.with_flt_lvc (s : State) (v : FaultUnit) : ({ s with flt := v } : State).lvc = s.lvc := rfl
@[simp] theorem State.with_flt_flt (s : State) (v : FaultUnit) : ({ s with flt := v } : State).flt = v := rfl
@[simp] theorem State.with_flt_clk (s : State) (v : FaultUnit) : ({ s with flt := v } : State).clk = s.clk := rfl
@[simp] theorem State.with_flt_pwr (s : State) (v : FaultUnit) : ({ s with flt := v } : State).pwr = s.pwr := rfl
@[simp] theorem State.with_flt_ecc (s : State) (v : FaultUnit) : ({ s with flt := v } : State).ecc = s.ecc := rfl
@[simp] theorem State.with_flt_lan (s : State) (v : FaultUnit) : ({ s with flt := v } : State).lan = s.lan := rfl
@[simp] theorem State.with_flt_lnk (s : State) (v : FaultUnit) : ({ s with flt := v } : State).lnk = s.lnk := rfl
@[simp] theorem State.with_flt_home (s : State) (v : FaultUnit) : ({ s with flt := v } : State).home = s.home := rfl
@[simp] theorem State.with_flt_seam (s : State) (v : FaultUnit) : ({ s with flt := v } : State).seam = s.seam := rfl
@[simp] theorem State.with_flt_lod (s : State) (v : FaultUnit) : ({ s with flt := v } : State).lod = s.lod := rfl
@[simp] theorem State.with_flt_cpy (s : State) (v : FaultUnit) : ({ s with flt := v } : State).cpy = s.cpy := rfl
@[simp] theorem State.with_flt_bnd (s : State) (v : FaultUnit) : ({ s with flt := v } : State).bnd = s.bnd := rfl
@[simp] theorem State.with_flt_core (s : State) (v : FaultUnit) : ({ s with flt := v } : State).core = s.core := rfl
@[simp] theorem State.with_flt_ctrs (s : State) (v : FaultUnit) : ({ s with flt := v } : State).ctrs = s.ctrs := rfl
@[simp] theorem State.with_flt_mgt (s : State) (v : FaultUnit) : ({ s with flt := v } : State).mgt = s.mgt := rfl
@[simp] theorem State.with_flt_tal (s : State) (v : FaultUnit) : ({ s with flt := v } : State).tal = s.tal := rfl
@[simp] theorem State.with_flt_thm (s : State) (v : FaultUnit) : ({ s with flt := v } : State).thm = s.thm := rfl
@[simp] theorem State.with_flt_fresh (s : State) (v : FaultUnit) : ({ s with flt := v } : State).fresh = s.fresh := rfl
@[simp] theorem State.with_clk_pending (s : State) (v : ClockUnit) : ({ s with clk := v } : State).pending = s.pending := rfl
@[simp] theorem State.with_clk_now (s : State) (v : ClockUnit) : ({ s with clk := v } : State).now = s.now := rfl
@[simp] theorem State.with_clk_resetAt (s : State) (v : ClockUnit) : ({ s with clk := v } : State).resetAt = s.resetAt := rfl
@[simp] theorem State.with_clk_regs (s : State) (v : ClockUnit) : ({ s with clk := v } : State).regs = s.regs := rfl
@[simp] theorem State.with_clk_sent (s : State) (v : ClockUnit) : ({ s with clk := v } : State).sent = s.sent := rfl
@[simp] theorem State.with_clk_sessions (s : State) (v : ClockUnit) : ({ s with clk := v } : State).sessions = s.sessions := rfl
@[simp] theorem State.with_clk_bgs (s : State) (v : ClockUnit) : ({ s with clk := v } : State).bgs = s.bgs := rfl
@[simp] theorem State.with_clk_chart (s : State) (v : ClockUnit) : ({ s with clk := v } : State).chart = s.chart := rfl
@[simp] theorem State.with_clk_chtu (s : State) (v : ClockUnit) : ({ s with clk := v } : State).chtu = s.chtu := rfl
@[simp] theorem State.with_clk_nv (s : State) (v : ClockUnit) : ({ s with clk := v } : State).nv = s.nv := rfl
@[simp] theorem State.with_clk_lvc (s : State) (v : ClockUnit) : ({ s with clk := v } : State).lvc = s.lvc := rfl
@[simp] theorem State.with_clk_flt (s : State) (v : ClockUnit) : ({ s with clk := v } : State).flt = s.flt := rfl
@[simp] theorem State.with_clk_clk (s : State) (v : ClockUnit) : ({ s with clk := v } : State).clk = v := rfl
@[simp] theorem State.with_clk_pwr (s : State) (v : ClockUnit) : ({ s with clk := v } : State).pwr = s.pwr := rfl
@[simp] theorem State.with_clk_ecc (s : State) (v : ClockUnit) : ({ s with clk := v } : State).ecc = s.ecc := rfl
@[simp] theorem State.with_clk_lan (s : State) (v : ClockUnit) : ({ s with clk := v } : State).lan = s.lan := rfl
@[simp] theorem State.with_clk_lnk (s : State) (v : ClockUnit) : ({ s with clk := v } : State).lnk = s.lnk := rfl
@[simp] theorem State.with_clk_home (s : State) (v : ClockUnit) : ({ s with clk := v } : State).home = s.home := rfl
@[simp] theorem State.with_clk_seam (s : State) (v : ClockUnit) : ({ s with clk := v } : State).seam = s.seam := rfl
@[simp] theorem State.with_clk_lod (s : State) (v : ClockUnit) : ({ s with clk := v } : State).lod = s.lod := rfl
@[simp] theorem State.with_clk_cpy (s : State) (v : ClockUnit) : ({ s with clk := v } : State).cpy = s.cpy := rfl
@[simp] theorem State.with_clk_bnd (s : State) (v : ClockUnit) : ({ s with clk := v } : State).bnd = s.bnd := rfl
@[simp] theorem State.with_clk_core (s : State) (v : ClockUnit) : ({ s with clk := v } : State).core = s.core := rfl
@[simp] theorem State.with_clk_ctrs (s : State) (v : ClockUnit) : ({ s with clk := v } : State).ctrs = s.ctrs := rfl
@[simp] theorem State.with_clk_mgt (s : State) (v : ClockUnit) : ({ s with clk := v } : State).mgt = s.mgt := rfl
@[simp] theorem State.with_clk_tal (s : State) (v : ClockUnit) : ({ s with clk := v } : State).tal = s.tal := rfl
@[simp] theorem State.with_clk_thm (s : State) (v : ClockUnit) : ({ s with clk := v } : State).thm = s.thm := rfl
@[simp] theorem State.with_clk_fresh (s : State) (v : ClockUnit) : ({ s with clk := v } : State).fresh = s.fresh := rfl
@[simp] theorem State.with_pwr_pending (s : State) (v : PowerUnit) : ({ s with pwr := v } : State).pending = s.pending := rfl
@[simp] theorem State.with_pwr_now (s : State) (v : PowerUnit) : ({ s with pwr := v } : State).now = s.now := rfl
@[simp] theorem State.with_pwr_resetAt (s : State) (v : PowerUnit) : ({ s with pwr := v } : State).resetAt = s.resetAt := rfl
@[simp] theorem State.with_pwr_regs (s : State) (v : PowerUnit) : ({ s with pwr := v } : State).regs = s.regs := rfl
@[simp] theorem State.with_pwr_sent (s : State) (v : PowerUnit) : ({ s with pwr := v } : State).sent = s.sent := rfl
@[simp] theorem State.with_pwr_sessions (s : State) (v : PowerUnit) : ({ s with pwr := v } : State).sessions = s.sessions := rfl
@[simp] theorem State.with_pwr_bgs (s : State) (v : PowerUnit) : ({ s with pwr := v } : State).bgs = s.bgs := rfl
@[simp] theorem State.with_pwr_chart (s : State) (v : PowerUnit) : ({ s with pwr := v } : State).chart = s.chart := rfl
@[simp] theorem State.with_pwr_chtu (s : State) (v : PowerUnit) : ({ s with pwr := v } : State).chtu = s.chtu := rfl
@[simp] theorem State.with_pwr_nv (s : State) (v : PowerUnit) : ({ s with pwr := v } : State).nv = s.nv := rfl
@[simp] theorem State.with_pwr_lvc (s : State) (v : PowerUnit) : ({ s with pwr := v } : State).lvc = s.lvc := rfl
@[simp] theorem State.with_pwr_flt (s : State) (v : PowerUnit) : ({ s with pwr := v } : State).flt = s.flt := rfl
@[simp] theorem State.with_pwr_clk (s : State) (v : PowerUnit) : ({ s with pwr := v } : State).clk = s.clk := rfl
@[simp] theorem State.with_pwr_pwr (s : State) (v : PowerUnit) : ({ s with pwr := v } : State).pwr = v := rfl
@[simp] theorem State.with_pwr_ecc (s : State) (v : PowerUnit) : ({ s with pwr := v } : State).ecc = s.ecc := rfl
@[simp] theorem State.with_pwr_lan (s : State) (v : PowerUnit) : ({ s with pwr := v } : State).lan = s.lan := rfl
@[simp] theorem State.with_pwr_lnk (s : State) (v : PowerUnit) : ({ s with pwr := v } : State).lnk = s.lnk := rfl
@[simp] theorem State.with_pwr_home (s : State) (v : PowerUnit) : ({ s with pwr := v } : State).home = s.home := rfl
@[simp] theorem State.with_pwr_seam (s : State) (v : PowerUnit) : ({ s with pwr := v } : State).seam = s.seam := rfl
@[simp] theorem State.with_pwr_lod (s : State) (v : PowerUnit) : ({ s with pwr := v } : State).lod = s.lod := rfl
@[simp] theorem State.with_pwr_cpy (s : State) (v : PowerUnit) : ({ s with pwr := v } : State).cpy = s.cpy := rfl
@[simp] theorem State.with_pwr_bnd (s : State) (v : PowerUnit) : ({ s with pwr := v } : State).bnd = s.bnd := rfl
@[simp] theorem State.with_pwr_core (s : State) (v : PowerUnit) : ({ s with pwr := v } : State).core = s.core := rfl
@[simp] theorem State.with_pwr_ctrs (s : State) (v : PowerUnit) : ({ s with pwr := v } : State).ctrs = s.ctrs := rfl
@[simp] theorem State.with_pwr_mgt (s : State) (v : PowerUnit) : ({ s with pwr := v } : State).mgt = s.mgt := rfl
@[simp] theorem State.with_pwr_tal (s : State) (v : PowerUnit) : ({ s with pwr := v } : State).tal = s.tal := rfl
@[simp] theorem State.with_pwr_thm (s : State) (v : PowerUnit) : ({ s with pwr := v } : State).thm = s.thm := rfl
@[simp] theorem State.with_pwr_fresh (s : State) (v : PowerUnit) : ({ s with pwr := v } : State).fresh = s.fresh := rfl
@[simp] theorem State.with_ecc_pending (s : State) (v : EccUnit) : ({ s with ecc := v } : State).pending = s.pending := rfl
@[simp] theorem State.with_ecc_now (s : State) (v : EccUnit) : ({ s with ecc := v } : State).now = s.now := rfl
@[simp] theorem State.with_ecc_resetAt (s : State) (v : EccUnit) : ({ s with ecc := v } : State).resetAt = s.resetAt := rfl
@[simp] theorem State.with_ecc_regs (s : State) (v : EccUnit) : ({ s with ecc := v } : State).regs = s.regs := rfl
@[simp] theorem State.with_ecc_sent (s : State) (v : EccUnit) : ({ s with ecc := v } : State).sent = s.sent := rfl
@[simp] theorem State.with_ecc_sessions (s : State) (v : EccUnit) : ({ s with ecc := v } : State).sessions = s.sessions := rfl
@[simp] theorem State.with_ecc_bgs (s : State) (v : EccUnit) : ({ s with ecc := v } : State).bgs = s.bgs := rfl
@[simp] theorem State.with_ecc_chart (s : State) (v : EccUnit) : ({ s with ecc := v } : State).chart = s.chart := rfl
@[simp] theorem State.with_ecc_chtu (s : State) (v : EccUnit) : ({ s with ecc := v } : State).chtu = s.chtu := rfl
@[simp] theorem State.with_ecc_nv (s : State) (v : EccUnit) : ({ s with ecc := v } : State).nv = s.nv := rfl
@[simp] theorem State.with_ecc_lvc (s : State) (v : EccUnit) : ({ s with ecc := v } : State).lvc = s.lvc := rfl
@[simp] theorem State.with_ecc_flt (s : State) (v : EccUnit) : ({ s with ecc := v } : State).flt = s.flt := rfl
@[simp] theorem State.with_ecc_clk (s : State) (v : EccUnit) : ({ s with ecc := v } : State).clk = s.clk := rfl
@[simp] theorem State.with_ecc_pwr (s : State) (v : EccUnit) : ({ s with ecc := v } : State).pwr = s.pwr := rfl
@[simp] theorem State.with_ecc_ecc (s : State) (v : EccUnit) : ({ s with ecc := v } : State).ecc = v := rfl
@[simp] theorem State.with_ecc_lan (s : State) (v : EccUnit) : ({ s with ecc := v } : State).lan = s.lan := rfl
@[simp] theorem State.with_ecc_lnk (s : State) (v : EccUnit) : ({ s with ecc := v } : State).lnk = s.lnk := rfl
@[simp] theorem State.with_ecc_home (s : State) (v : EccUnit) : ({ s with ecc := v } : State).home = s.home := rfl
@[simp] theorem State.with_ecc_seam (s : State) (v : EccUnit) : ({ s with ecc := v } : State).seam = s.seam := rfl
@[simp] theorem State.with_ecc_lod (s : State) (v : EccUnit) : ({ s with ecc := v } : State).lod = s.lod := rfl
@[simp] theorem State.with_ecc_cpy (s : State) (v : EccUnit) : ({ s with ecc := v } : State).cpy = s.cpy := rfl
@[simp] theorem State.with_ecc_bnd (s : State) (v : EccUnit) : ({ s with ecc := v } : State).bnd = s.bnd := rfl
@[simp] theorem State.with_ecc_core (s : State) (v : EccUnit) : ({ s with ecc := v } : State).core = s.core := rfl
@[simp] theorem State.with_ecc_ctrs (s : State) (v : EccUnit) : ({ s with ecc := v } : State).ctrs = s.ctrs := rfl
@[simp] theorem State.with_ecc_mgt (s : State) (v : EccUnit) : ({ s with ecc := v } : State).mgt = s.mgt := rfl
@[simp] theorem State.with_ecc_tal (s : State) (v : EccUnit) : ({ s with ecc := v } : State).tal = s.tal := rfl
@[simp] theorem State.with_ecc_thm (s : State) (v : EccUnit) : ({ s with ecc := v } : State).thm = s.thm := rfl
@[simp] theorem State.with_ecc_fresh (s : State) (v : EccUnit) : ({ s with ecc := v } : State).fresh = s.fresh := rfl
@[simp] theorem State.with_lan_pending (s : State) (v : LaneUnit) : ({ s with lan := v } : State).pending = s.pending := rfl
@[simp] theorem State.with_lan_now (s : State) (v : LaneUnit) : ({ s with lan := v } : State).now = s.now := rfl
@[simp] theorem State.with_lan_resetAt (s : State) (v : LaneUnit) : ({ s with lan := v } : State).resetAt = s.resetAt := rfl
@[simp] theorem State.with_lan_regs (s : State) (v : LaneUnit) : ({ s with lan := v } : State).regs = s.regs := rfl
@[simp] theorem State.with_lan_sent (s : State) (v : LaneUnit) : ({ s with lan := v } : State).sent = s.sent := rfl
@[simp] theorem State.with_lan_sessions (s : State) (v : LaneUnit) : ({ s with lan := v } : State).sessions = s.sessions := rfl
@[simp] theorem State.with_lan_bgs (s : State) (v : LaneUnit) : ({ s with lan := v } : State).bgs = s.bgs := rfl
@[simp] theorem State.with_lan_chart (s : State) (v : LaneUnit) : ({ s with lan := v } : State).chart = s.chart := rfl
@[simp] theorem State.with_lan_chtu (s : State) (v : LaneUnit) : ({ s with lan := v } : State).chtu = s.chtu := rfl
@[simp] theorem State.with_lan_nv (s : State) (v : LaneUnit) : ({ s with lan := v } : State).nv = s.nv := rfl
@[simp] theorem State.with_lan_lvc (s : State) (v : LaneUnit) : ({ s with lan := v } : State).lvc = s.lvc := rfl
@[simp] theorem State.with_lan_flt (s : State) (v : LaneUnit) : ({ s with lan := v } : State).flt = s.flt := rfl
@[simp] theorem State.with_lan_clk (s : State) (v : LaneUnit) : ({ s with lan := v } : State).clk = s.clk := rfl
@[simp] theorem State.with_lan_pwr (s : State) (v : LaneUnit) : ({ s with lan := v } : State).pwr = s.pwr := rfl
@[simp] theorem State.with_lan_ecc (s : State) (v : LaneUnit) : ({ s with lan := v } : State).ecc = s.ecc := rfl
@[simp] theorem State.with_lan_lan (s : State) (v : LaneUnit) : ({ s with lan := v } : State).lan = v := rfl
@[simp] theorem State.with_lan_lnk (s : State) (v : LaneUnit) : ({ s with lan := v } : State).lnk = s.lnk := rfl
@[simp] theorem State.with_lan_home (s : State) (v : LaneUnit) : ({ s with lan := v } : State).home = s.home := rfl
@[simp] theorem State.with_lan_seam (s : State) (v : LaneUnit) : ({ s with lan := v } : State).seam = s.seam := rfl
@[simp] theorem State.with_lan_lod (s : State) (v : LaneUnit) : ({ s with lan := v } : State).lod = s.lod := rfl
@[simp] theorem State.with_lan_cpy (s : State) (v : LaneUnit) : ({ s with lan := v } : State).cpy = s.cpy := rfl
@[simp] theorem State.with_lan_bnd (s : State) (v : LaneUnit) : ({ s with lan := v } : State).bnd = s.bnd := rfl
@[simp] theorem State.with_lan_core (s : State) (v : LaneUnit) : ({ s with lan := v } : State).core = s.core := rfl
@[simp] theorem State.with_lan_ctrs (s : State) (v : LaneUnit) : ({ s with lan := v } : State).ctrs = s.ctrs := rfl
@[simp] theorem State.with_lan_mgt (s : State) (v : LaneUnit) : ({ s with lan := v } : State).mgt = s.mgt := rfl
@[simp] theorem State.with_lan_tal (s : State) (v : LaneUnit) : ({ s with lan := v } : State).tal = s.tal := rfl
@[simp] theorem State.with_lan_thm (s : State) (v : LaneUnit) : ({ s with lan := v } : State).thm = s.thm := rfl
@[simp] theorem State.with_lan_fresh (s : State) (v : LaneUnit) : ({ s with lan := v } : State).fresh = s.fresh := rfl
@[simp] theorem State.with_lnk_pending (s : State) (v : LinkUnit) : ({ s with lnk := v } : State).pending = s.pending := rfl
@[simp] theorem State.with_lnk_now (s : State) (v : LinkUnit) : ({ s with lnk := v } : State).now = s.now := rfl
@[simp] theorem State.with_lnk_resetAt (s : State) (v : LinkUnit) : ({ s with lnk := v } : State).resetAt = s.resetAt := rfl
@[simp] theorem State.with_lnk_regs (s : State) (v : LinkUnit) : ({ s with lnk := v } : State).regs = s.regs := rfl
@[simp] theorem State.with_lnk_sent (s : State) (v : LinkUnit) : ({ s with lnk := v } : State).sent = s.sent := rfl
@[simp] theorem State.with_lnk_sessions (s : State) (v : LinkUnit) : ({ s with lnk := v } : State).sessions = s.sessions := rfl
@[simp] theorem State.with_lnk_bgs (s : State) (v : LinkUnit) : ({ s with lnk := v } : State).bgs = s.bgs := rfl
@[simp] theorem State.with_lnk_chart (s : State) (v : LinkUnit) : ({ s with lnk := v } : State).chart = s.chart := rfl
@[simp] theorem State.with_lnk_chtu (s : State) (v : LinkUnit) : ({ s with lnk := v } : State).chtu = s.chtu := rfl
@[simp] theorem State.with_lnk_nv (s : State) (v : LinkUnit) : ({ s with lnk := v } : State).nv = s.nv := rfl
@[simp] theorem State.with_lnk_lvc (s : State) (v : LinkUnit) : ({ s with lnk := v } : State).lvc = s.lvc := rfl
@[simp] theorem State.with_lnk_flt (s : State) (v : LinkUnit) : ({ s with lnk := v } : State).flt = s.flt := rfl
@[simp] theorem State.with_lnk_clk (s : State) (v : LinkUnit) : ({ s with lnk := v } : State).clk = s.clk := rfl
@[simp] theorem State.with_lnk_pwr (s : State) (v : LinkUnit) : ({ s with lnk := v } : State).pwr = s.pwr := rfl
@[simp] theorem State.with_lnk_ecc (s : State) (v : LinkUnit) : ({ s with lnk := v } : State).ecc = s.ecc := rfl
@[simp] theorem State.with_lnk_lan (s : State) (v : LinkUnit) : ({ s with lnk := v } : State).lan = s.lan := rfl
@[simp] theorem State.with_lnk_lnk (s : State) (v : LinkUnit) : ({ s with lnk := v } : State).lnk = v := rfl
@[simp] theorem State.with_lnk_home (s : State) (v : LinkUnit) : ({ s with lnk := v } : State).home = s.home := rfl
@[simp] theorem State.with_lnk_seam (s : State) (v : LinkUnit) : ({ s with lnk := v } : State).seam = s.seam := rfl
@[simp] theorem State.with_lnk_lod (s : State) (v : LinkUnit) : ({ s with lnk := v } : State).lod = s.lod := rfl
@[simp] theorem State.with_lnk_cpy (s : State) (v : LinkUnit) : ({ s with lnk := v } : State).cpy = s.cpy := rfl
@[simp] theorem State.with_lnk_bnd (s : State) (v : LinkUnit) : ({ s with lnk := v } : State).bnd = s.bnd := rfl
@[simp] theorem State.with_lnk_core (s : State) (v : LinkUnit) : ({ s with lnk := v } : State).core = s.core := rfl
@[simp] theorem State.with_lnk_ctrs (s : State) (v : LinkUnit) : ({ s with lnk := v } : State).ctrs = s.ctrs := rfl
@[simp] theorem State.with_lnk_mgt (s : State) (v : LinkUnit) : ({ s with lnk := v } : State).mgt = s.mgt := rfl
@[simp] theorem State.with_lnk_tal (s : State) (v : LinkUnit) : ({ s with lnk := v } : State).tal = s.tal := rfl
@[simp] theorem State.with_lnk_thm (s : State) (v : LinkUnit) : ({ s with lnk := v } : State).thm = s.thm := rfl
@[simp] theorem State.with_lnk_fresh (s : State) (v : LinkUnit) : ({ s with lnk := v } : State).fresh = s.fresh := rfl
@[simp] theorem State.with_home_pending (s : State) (v : HomeUnit) : ({ s with home := v } : State).pending = s.pending := rfl
@[simp] theorem State.with_home_now (s : State) (v : HomeUnit) : ({ s with home := v } : State).now = s.now := rfl
@[simp] theorem State.with_home_resetAt (s : State) (v : HomeUnit) : ({ s with home := v } : State).resetAt = s.resetAt := rfl
@[simp] theorem State.with_home_regs (s : State) (v : HomeUnit) : ({ s with home := v } : State).regs = s.regs := rfl
@[simp] theorem State.with_home_sent (s : State) (v : HomeUnit) : ({ s with home := v } : State).sent = s.sent := rfl
@[simp] theorem State.with_home_sessions (s : State) (v : HomeUnit) : ({ s with home := v } : State).sessions = s.sessions := rfl
@[simp] theorem State.with_home_bgs (s : State) (v : HomeUnit) : ({ s with home := v } : State).bgs = s.bgs := rfl
@[simp] theorem State.with_home_chart (s : State) (v : HomeUnit) : ({ s with home := v } : State).chart = s.chart := rfl
@[simp] theorem State.with_home_chtu (s : State) (v : HomeUnit) : ({ s with home := v } : State).chtu = s.chtu := rfl
@[simp] theorem State.with_home_nv (s : State) (v : HomeUnit) : ({ s with home := v } : State).nv = s.nv := rfl
@[simp] theorem State.with_home_lvc (s : State) (v : HomeUnit) : ({ s with home := v } : State).lvc = s.lvc := rfl
@[simp] theorem State.with_home_flt (s : State) (v : HomeUnit) : ({ s with home := v } : State).flt = s.flt := rfl
@[simp] theorem State.with_home_clk (s : State) (v : HomeUnit) : ({ s with home := v } : State).clk = s.clk := rfl
@[simp] theorem State.with_home_pwr (s : State) (v : HomeUnit) : ({ s with home := v } : State).pwr = s.pwr := rfl
@[simp] theorem State.with_home_ecc (s : State) (v : HomeUnit) : ({ s with home := v } : State).ecc = s.ecc := rfl
@[simp] theorem State.with_home_lan (s : State) (v : HomeUnit) : ({ s with home := v } : State).lan = s.lan := rfl
@[simp] theorem State.with_home_lnk (s : State) (v : HomeUnit) : ({ s with home := v } : State).lnk = s.lnk := rfl
@[simp] theorem State.with_home_home (s : State) (v : HomeUnit) : ({ s with home := v } : State).home = v := rfl
@[simp] theorem State.with_home_seam (s : State) (v : HomeUnit) : ({ s with home := v } : State).seam = s.seam := rfl
@[simp] theorem State.with_home_lod (s : State) (v : HomeUnit) : ({ s with home := v } : State).lod = s.lod := rfl
@[simp] theorem State.with_home_cpy (s : State) (v : HomeUnit) : ({ s with home := v } : State).cpy = s.cpy := rfl
@[simp] theorem State.with_home_bnd (s : State) (v : HomeUnit) : ({ s with home := v } : State).bnd = s.bnd := rfl
@[simp] theorem State.with_home_core (s : State) (v : HomeUnit) : ({ s with home := v } : State).core = s.core := rfl
@[simp] theorem State.with_home_ctrs (s : State) (v : HomeUnit) : ({ s with home := v } : State).ctrs = s.ctrs := rfl
@[simp] theorem State.with_home_mgt (s : State) (v : HomeUnit) : ({ s with home := v } : State).mgt = s.mgt := rfl
@[simp] theorem State.with_home_tal (s : State) (v : HomeUnit) : ({ s with home := v } : State).tal = s.tal := rfl
@[simp] theorem State.with_home_thm (s : State) (v : HomeUnit) : ({ s with home := v } : State).thm = s.thm := rfl
@[simp] theorem State.with_home_fresh (s : State) (v : HomeUnit) : ({ s with home := v } : State).fresh = s.fresh := rfl
@[simp] theorem State.with_seam_pending (s : State) (v : SeamUnit) : ({ s with seam := v } : State).pending = s.pending := rfl
@[simp] theorem State.with_seam_now (s : State) (v : SeamUnit) : ({ s with seam := v } : State).now = s.now := rfl
@[simp] theorem State.with_seam_resetAt (s : State) (v : SeamUnit) : ({ s with seam := v } : State).resetAt = s.resetAt := rfl
@[simp] theorem State.with_seam_regs (s : State) (v : SeamUnit) : ({ s with seam := v } : State).regs = s.regs := rfl
@[simp] theorem State.with_seam_sent (s : State) (v : SeamUnit) : ({ s with seam := v } : State).sent = s.sent := rfl
@[simp] theorem State.with_seam_sessions (s : State) (v : SeamUnit) : ({ s with seam := v } : State).sessions = s.sessions := rfl
@[simp] theorem State.with_seam_bgs (s : State) (v : SeamUnit) : ({ s with seam := v } : State).bgs = s.bgs := rfl
@[simp] theorem State.with_seam_chart (s : State) (v : SeamUnit) : ({ s with seam := v } : State).chart = s.chart := rfl
@[simp] theorem State.with_seam_chtu (s : State) (v : SeamUnit) : ({ s with seam := v } : State).chtu = s.chtu := rfl
@[simp] theorem State.with_seam_nv (s : State) (v : SeamUnit) : ({ s with seam := v } : State).nv = s.nv := rfl
@[simp] theorem State.with_seam_lvc (s : State) (v : SeamUnit) : ({ s with seam := v } : State).lvc = s.lvc := rfl
@[simp] theorem State.with_seam_flt (s : State) (v : SeamUnit) : ({ s with seam := v } : State).flt = s.flt := rfl
@[simp] theorem State.with_seam_clk (s : State) (v : SeamUnit) : ({ s with seam := v } : State).clk = s.clk := rfl
@[simp] theorem State.with_seam_pwr (s : State) (v : SeamUnit) : ({ s with seam := v } : State).pwr = s.pwr := rfl
@[simp] theorem State.with_seam_ecc (s : State) (v : SeamUnit) : ({ s with seam := v } : State).ecc = s.ecc := rfl
@[simp] theorem State.with_seam_lan (s : State) (v : SeamUnit) : ({ s with seam := v } : State).lan = s.lan := rfl
@[simp] theorem State.with_seam_lnk (s : State) (v : SeamUnit) : ({ s with seam := v } : State).lnk = s.lnk := rfl
@[simp] theorem State.with_seam_home (s : State) (v : SeamUnit) : ({ s with seam := v } : State).home = s.home := rfl
@[simp] theorem State.with_seam_seam (s : State) (v : SeamUnit) : ({ s with seam := v } : State).seam = v := rfl
@[simp] theorem State.with_seam_lod (s : State) (v : SeamUnit) : ({ s with seam := v } : State).lod = s.lod := rfl
@[simp] theorem State.with_seam_cpy (s : State) (v : SeamUnit) : ({ s with seam := v } : State).cpy = s.cpy := rfl
@[simp] theorem State.with_seam_bnd (s : State) (v : SeamUnit) : ({ s with seam := v } : State).bnd = s.bnd := rfl
@[simp] theorem State.with_seam_core (s : State) (v : SeamUnit) : ({ s with seam := v } : State).core = s.core := rfl
@[simp] theorem State.with_seam_ctrs (s : State) (v : SeamUnit) : ({ s with seam := v } : State).ctrs = s.ctrs := rfl
@[simp] theorem State.with_seam_mgt (s : State) (v : SeamUnit) : ({ s with seam := v } : State).mgt = s.mgt := rfl
@[simp] theorem State.with_seam_tal (s : State) (v : SeamUnit) : ({ s with seam := v } : State).tal = s.tal := rfl
@[simp] theorem State.with_seam_thm (s : State) (v : SeamUnit) : ({ s with seam := v } : State).thm = s.thm := rfl
@[simp] theorem State.with_seam_fresh (s : State) (v : SeamUnit) : ({ s with seam := v } : State).fresh = s.fresh := rfl
@[simp] theorem State.with_lod_pending (s : State) (v : LodUnit) : ({ s with lod := v } : State).pending = s.pending := rfl
@[simp] theorem State.with_lod_now (s : State) (v : LodUnit) : ({ s with lod := v } : State).now = s.now := rfl
@[simp] theorem State.with_lod_resetAt (s : State) (v : LodUnit) : ({ s with lod := v } : State).resetAt = s.resetAt := rfl
@[simp] theorem State.with_lod_regs (s : State) (v : LodUnit) : ({ s with lod := v } : State).regs = s.regs := rfl
@[simp] theorem State.with_lod_sent (s : State) (v : LodUnit) : ({ s with lod := v } : State).sent = s.sent := rfl
@[simp] theorem State.with_lod_sessions (s : State) (v : LodUnit) : ({ s with lod := v } : State).sessions = s.sessions := rfl
@[simp] theorem State.with_lod_bgs (s : State) (v : LodUnit) : ({ s with lod := v } : State).bgs = s.bgs := rfl
@[simp] theorem State.with_lod_chart (s : State) (v : LodUnit) : ({ s with lod := v } : State).chart = s.chart := rfl
@[simp] theorem State.with_lod_chtu (s : State) (v : LodUnit) : ({ s with lod := v } : State).chtu = s.chtu := rfl
@[simp] theorem State.with_lod_nv (s : State) (v : LodUnit) : ({ s with lod := v } : State).nv = s.nv := rfl
@[simp] theorem State.with_lod_lvc (s : State) (v : LodUnit) : ({ s with lod := v } : State).lvc = s.lvc := rfl
@[simp] theorem State.with_lod_flt (s : State) (v : LodUnit) : ({ s with lod := v } : State).flt = s.flt := rfl
@[simp] theorem State.with_lod_clk (s : State) (v : LodUnit) : ({ s with lod := v } : State).clk = s.clk := rfl
@[simp] theorem State.with_lod_pwr (s : State) (v : LodUnit) : ({ s with lod := v } : State).pwr = s.pwr := rfl
@[simp] theorem State.with_lod_ecc (s : State) (v : LodUnit) : ({ s with lod := v } : State).ecc = s.ecc := rfl
@[simp] theorem State.with_lod_lan (s : State) (v : LodUnit) : ({ s with lod := v } : State).lan = s.lan := rfl
@[simp] theorem State.with_lod_lnk (s : State) (v : LodUnit) : ({ s with lod := v } : State).lnk = s.lnk := rfl
@[simp] theorem State.with_lod_home (s : State) (v : LodUnit) : ({ s with lod := v } : State).home = s.home := rfl
@[simp] theorem State.with_lod_seam (s : State) (v : LodUnit) : ({ s with lod := v } : State).seam = s.seam := rfl
@[simp] theorem State.with_lod_lod (s : State) (v : LodUnit) : ({ s with lod := v } : State).lod = v := rfl
@[simp] theorem State.with_lod_cpy (s : State) (v : LodUnit) : ({ s with lod := v } : State).cpy = s.cpy := rfl
@[simp] theorem State.with_lod_bnd (s : State) (v : LodUnit) : ({ s with lod := v } : State).bnd = s.bnd := rfl
@[simp] theorem State.with_lod_core (s : State) (v : LodUnit) : ({ s with lod := v } : State).core = s.core := rfl
@[simp] theorem State.with_lod_ctrs (s : State) (v : LodUnit) : ({ s with lod := v } : State).ctrs = s.ctrs := rfl
@[simp] theorem State.with_lod_mgt (s : State) (v : LodUnit) : ({ s with lod := v } : State).mgt = s.mgt := rfl
@[simp] theorem State.with_lod_tal (s : State) (v : LodUnit) : ({ s with lod := v } : State).tal = s.tal := rfl
@[simp] theorem State.with_lod_thm (s : State) (v : LodUnit) : ({ s with lod := v } : State).thm = s.thm := rfl
@[simp] theorem State.with_lod_fresh (s : State) (v : LodUnit) : ({ s with lod := v } : State).fresh = s.fresh := rfl
@[simp] theorem State.with_cpy_pending (s : State) (v : CopyUnit) : ({ s with cpy := v } : State).pending = s.pending := rfl
@[simp] theorem State.with_cpy_now (s : State) (v : CopyUnit) : ({ s with cpy := v } : State).now = s.now := rfl
@[simp] theorem State.with_cpy_resetAt (s : State) (v : CopyUnit) : ({ s with cpy := v } : State).resetAt = s.resetAt := rfl
@[simp] theorem State.with_cpy_regs (s : State) (v : CopyUnit) : ({ s with cpy := v } : State).regs = s.regs := rfl
@[simp] theorem State.with_cpy_sent (s : State) (v : CopyUnit) : ({ s with cpy := v } : State).sent = s.sent := rfl
@[simp] theorem State.with_cpy_sessions (s : State) (v : CopyUnit) : ({ s with cpy := v } : State).sessions = s.sessions := rfl
@[simp] theorem State.with_cpy_bgs (s : State) (v : CopyUnit) : ({ s with cpy := v } : State).bgs = s.bgs := rfl
@[simp] theorem State.with_cpy_chart (s : State) (v : CopyUnit) : ({ s with cpy := v } : State).chart = s.chart := rfl
@[simp] theorem State.with_cpy_chtu (s : State) (v : CopyUnit) : ({ s with cpy := v } : State).chtu = s.chtu := rfl
@[simp] theorem State.with_cpy_nv (s : State) (v : CopyUnit) : ({ s with cpy := v } : State).nv = s.nv := rfl
@[simp] theorem State.with_cpy_lvc (s : State) (v : CopyUnit) : ({ s with cpy := v } : State).lvc = s.lvc := rfl
@[simp] theorem State.with_cpy_flt (s : State) (v : CopyUnit) : ({ s with cpy := v } : State).flt = s.flt := rfl
@[simp] theorem State.with_cpy_clk (s : State) (v : CopyUnit) : ({ s with cpy := v } : State).clk = s.clk := rfl
@[simp] theorem State.with_cpy_pwr (s : State) (v : CopyUnit) : ({ s with cpy := v } : State).pwr = s.pwr := rfl
@[simp] theorem State.with_cpy_ecc (s : State) (v : CopyUnit) : ({ s with cpy := v } : State).ecc = s.ecc := rfl
@[simp] theorem State.with_cpy_lan (s : State) (v : CopyUnit) : ({ s with cpy := v } : State).lan = s.lan := rfl
@[simp] theorem State.with_cpy_lnk (s : State) (v : CopyUnit) : ({ s with cpy := v } : State).lnk = s.lnk := rfl
@[simp] theorem State.with_cpy_home (s : State) (v : CopyUnit) : ({ s with cpy := v } : State).home = s.home := rfl
@[simp] theorem State.with_cpy_seam (s : State) (v : CopyUnit) : ({ s with cpy := v } : State).seam = s.seam := rfl
@[simp] theorem State.with_cpy_lod (s : State) (v : CopyUnit) : ({ s with cpy := v } : State).lod = s.lod := rfl
@[simp] theorem State.with_cpy_cpy (s : State) (v : CopyUnit) : ({ s with cpy := v } : State).cpy = v := rfl
@[simp] theorem State.with_cpy_bnd (s : State) (v : CopyUnit) : ({ s with cpy := v } : State).bnd = s.bnd := rfl
@[simp] theorem State.with_cpy_core (s : State) (v : CopyUnit) : ({ s with cpy := v } : State).core = s.core := rfl
@[simp] theorem State.with_cpy_ctrs (s : State) (v : CopyUnit) : ({ s with cpy := v } : State).ctrs = s.ctrs := rfl
@[simp] theorem State.with_cpy_mgt (s : State) (v : CopyUnit) : ({ s with cpy := v } : State).mgt = s.mgt := rfl
@[simp] theorem State.with_cpy_tal (s : State) (v : CopyUnit) : ({ s with cpy := v } : State).tal = s.tal := rfl
@[simp] theorem State.with_cpy_thm (s : State) (v : CopyUnit) : ({ s with cpy := v } : State).thm = s.thm := rfl
@[simp] theorem State.with_cpy_fresh (s : State) (v : CopyUnit) : ({ s with cpy := v } : State).fresh = s.fresh := rfl
@[simp] theorem State.with_bnd_pending (s : State) (v : BindUnit) : ({ s with bnd := v } : State).pending = s.pending := rfl
@[simp] theorem State.with_bnd_now (s : State) (v : BindUnit) : ({ s with bnd := v } : State).now = s.now := rfl
@[simp] theorem State.with_bnd_resetAt (s : State) (v : BindUnit) : ({ s with bnd := v } : State).resetAt = s.resetAt := rfl
@[simp] theorem State.with_bnd_regs (s : State) (v : BindUnit) : ({ s with bnd := v } : State).regs = s.regs := rfl
@[simp] theorem State.with_bnd_sent (s : State) (v : BindUnit) : ({ s with bnd := v } : State).sent = s.sent := rfl
@[simp] theorem State.with_bnd_sessions (s : State) (v : BindUnit) : ({ s with bnd := v } : State).sessions = s.sessions := rfl
@[simp] theorem State.with_bnd_bgs (s : State) (v : BindUnit) : ({ s with bnd := v } : State).bgs = s.bgs := rfl
@[simp] theorem State.with_bnd_chart (s : State) (v : BindUnit) : ({ s with bnd := v } : State).chart = s.chart := rfl
@[simp] theorem State.with_bnd_chtu (s : State) (v : BindUnit) : ({ s with bnd := v } : State).chtu = s.chtu := rfl
@[simp] theorem State.with_bnd_nv (s : State) (v : BindUnit) : ({ s with bnd := v } : State).nv = s.nv := rfl
@[simp] theorem State.with_bnd_lvc (s : State) (v : BindUnit) : ({ s with bnd := v } : State).lvc = s.lvc := rfl
@[simp] theorem State.with_bnd_flt (s : State) (v : BindUnit) : ({ s with bnd := v } : State).flt = s.flt := rfl
@[simp] theorem State.with_bnd_clk (s : State) (v : BindUnit) : ({ s with bnd := v } : State).clk = s.clk := rfl
@[simp] theorem State.with_bnd_pwr (s : State) (v : BindUnit) : ({ s with bnd := v } : State).pwr = s.pwr := rfl
@[simp] theorem State.with_bnd_ecc (s : State) (v : BindUnit) : ({ s with bnd := v } : State).ecc = s.ecc := rfl
@[simp] theorem State.with_bnd_lan (s : State) (v : BindUnit) : ({ s with bnd := v } : State).lan = s.lan := rfl
@[simp] theorem State.with_bnd_lnk (s : State) (v : BindUnit) : ({ s with bnd := v } : State).lnk = s.lnk := rfl
@[simp] theorem State.with_bnd_home (s : State) (v : BindUnit) : ({ s with bnd := v } : State).home = s.home := rfl
@[simp] theorem State.with_bnd_seam (s : State) (v : BindUnit) : ({ s with bnd := v } : State).seam = s.seam := rfl
@[simp] theorem State.with_bnd_lod (s : State) (v : BindUnit) : ({ s with bnd := v } : State).lod = s.lod := rfl
@[simp] theorem State.with_bnd_cpy (s : State) (v : BindUnit) : ({ s with bnd := v } : State).cpy = s.cpy := rfl
@[simp] theorem State.with_bnd_bnd (s : State) (v : BindUnit) : ({ s with bnd := v } : State).bnd = v := rfl
@[simp] theorem State.with_bnd_core (s : State) (v : BindUnit) : ({ s with bnd := v } : State).core = s.core := rfl
@[simp] theorem State.with_bnd_ctrs (s : State) (v : BindUnit) : ({ s with bnd := v } : State).ctrs = s.ctrs := rfl
@[simp] theorem State.with_bnd_mgt (s : State) (v : BindUnit) : ({ s with bnd := v } : State).mgt = s.mgt := rfl
@[simp] theorem State.with_bnd_tal (s : State) (v : BindUnit) : ({ s with bnd := v } : State).tal = s.tal := rfl
@[simp] theorem State.with_bnd_thm (s : State) (v : BindUnit) : ({ s with bnd := v } : State).thm = s.thm := rfl
@[simp] theorem State.with_bnd_fresh (s : State) (v : BindUnit) : ({ s with bnd := v } : State).fresh = s.fresh := rfl
@[simp] theorem State.with_core_pending (s : State) (v : CoreUnit) : ({ s with core := v } : State).pending = s.pending := rfl
@[simp] theorem State.with_core_now (s : State) (v : CoreUnit) : ({ s with core := v } : State).now = s.now := rfl
@[simp] theorem State.with_core_resetAt (s : State) (v : CoreUnit) : ({ s with core := v } : State).resetAt = s.resetAt := rfl
@[simp] theorem State.with_core_regs (s : State) (v : CoreUnit) : ({ s with core := v } : State).regs = s.regs := rfl
@[simp] theorem State.with_core_sent (s : State) (v : CoreUnit) : ({ s with core := v } : State).sent = s.sent := rfl
@[simp] theorem State.with_core_sessions (s : State) (v : CoreUnit) : ({ s with core := v } : State).sessions = s.sessions := rfl
@[simp] theorem State.with_core_bgs (s : State) (v : CoreUnit) : ({ s with core := v } : State).bgs = s.bgs := rfl
@[simp] theorem State.with_core_chart (s : State) (v : CoreUnit) : ({ s with core := v } : State).chart = s.chart := rfl
@[simp] theorem State.with_core_chtu (s : State) (v : CoreUnit) : ({ s with core := v } : State).chtu = s.chtu := rfl
@[simp] theorem State.with_core_nv (s : State) (v : CoreUnit) : ({ s with core := v } : State).nv = s.nv := rfl
@[simp] theorem State.with_core_lvc (s : State) (v : CoreUnit) : ({ s with core := v } : State).lvc = s.lvc := rfl
@[simp] theorem State.with_core_flt (s : State) (v : CoreUnit) : ({ s with core := v } : State).flt = s.flt := rfl
@[simp] theorem State.with_core_clk (s : State) (v : CoreUnit) : ({ s with core := v } : State).clk = s.clk := rfl
@[simp] theorem State.with_core_pwr (s : State) (v : CoreUnit) : ({ s with core := v } : State).pwr = s.pwr := rfl
@[simp] theorem State.with_core_ecc (s : State) (v : CoreUnit) : ({ s with core := v } : State).ecc = s.ecc := rfl
@[simp] theorem State.with_core_lan (s : State) (v : CoreUnit) : ({ s with core := v } : State).lan = s.lan := rfl
@[simp] theorem State.with_core_lnk (s : State) (v : CoreUnit) : ({ s with core := v } : State).lnk = s.lnk := rfl
@[simp] theorem State.with_core_home (s : State) (v : CoreUnit) : ({ s with core := v } : State).home = s.home := rfl
@[simp] theorem State.with_core_seam (s : State) (v : CoreUnit) : ({ s with core := v } : State).seam = s.seam := rfl
@[simp] theorem State.with_core_lod (s : State) (v : CoreUnit) : ({ s with core := v } : State).lod = s.lod := rfl
@[simp] theorem State.with_core_cpy (s : State) (v : CoreUnit) : ({ s with core := v } : State).cpy = s.cpy := rfl
@[simp] theorem State.with_core_bnd (s : State) (v : CoreUnit) : ({ s with core := v } : State).bnd = s.bnd := rfl
@[simp] theorem State.with_core_core (s : State) (v : CoreUnit) : ({ s with core := v } : State).core = v := rfl
@[simp] theorem State.with_core_ctrs (s : State) (v : CoreUnit) : ({ s with core := v } : State).ctrs = s.ctrs := rfl
@[simp] theorem State.with_core_mgt (s : State) (v : CoreUnit) : ({ s with core := v } : State).mgt = s.mgt := rfl
@[simp] theorem State.with_core_tal (s : State) (v : CoreUnit) : ({ s with core := v } : State).tal = s.tal := rfl
@[simp] theorem State.with_core_thm (s : State) (v : CoreUnit) : ({ s with core := v } : State).thm = s.thm := rfl
@[simp] theorem State.with_core_fresh (s : State) (v : CoreUnit) : ({ s with core := v } : State).fresh = s.fresh := rfl
@[simp] theorem State.with_ctrs_pending (s : State) (v : SMap Ctr) : ({ s with ctrs := v } : State).pending = s.pending := rfl
@[simp] theorem State.with_ctrs_now (s : State) (v : SMap Ctr) : ({ s with ctrs := v } : State).now = s.now := rfl
@[simp] theorem State.with_ctrs_resetAt (s : State) (v : SMap Ctr) : ({ s with ctrs := v } : State).resetAt = s.resetAt := rfl
@[simp] theorem State.with_ctrs_regs (s : State) (v : SMap Ctr) : ({ s with ctrs := v } : State).regs = s.regs := rfl
@[simp] theorem State.with_ctrs_sent (s : State) (v : SMap Ctr) : ({ s with ctrs := v } : State).sent = s.sent := rfl
@[simp] theorem State.with_ctrs_sessions (s : State) (v : SMap Ctr) : ({ s with ctrs := v } : State).sessions = s.sessions := rfl
@[simp] theorem State.with_ctrs_bgs (s : State) (v : SMap Ctr) : ({ s with ctrs := v } : State).bgs = s.bgs := rfl
@[simp] theorem State.with_ctrs_chart (s : State) (v : SMap Ctr) : ({ s with ctrs := v } : State).chart = s.chart := rfl
@[simp] theorem State.with_ctrs_chtu (s : State) (v : SMap Ctr) : ({ s with ctrs := v } : State).chtu = s.chtu := rfl
@[simp] theorem State.with_ctrs_nv (s : State) (v : SMap Ctr) : ({ s with ctrs := v } : State).nv = s.nv := rfl
@[simp] theorem State.with_ctrs_lvc (s : State) (v : SMap Ctr) : ({ s with ctrs := v } : State).lvc = s.lvc := rfl
@[simp] theorem State.with_ctrs_flt (s : State) (v : SMap Ctr) : ({ s with ctrs := v } : State).flt = s.flt := rfl
@[simp] theorem State.with_ctrs_clk (s : State) (v : SMap Ctr) : ({ s with ctrs := v } : State).clk = s.clk := rfl
@[simp] theorem State.with_ctrs_pwr (s : State) (v : SMap Ctr) : ({ s with ctrs := v } : State).pwr = s.pwr := rfl
@[simp] theorem State.with_ctrs_ecc (s : State) (v : SMap Ctr) : ({ s with ctrs := v } : State).ecc = s.ecc := rfl
@[simp] theorem State.with_ctrs_lan (s : State) (v : SMap Ctr) : ({ s with ctrs := v } : State).lan = s.lan := rfl
@[simp] theorem State.with_ctrs_lnk (s : State) (v : SMap Ctr) : ({ s with ctrs := v } : State).lnk = s.lnk := rfl
@[simp] theorem State.with_ctrs_home (s : State) (v : SMap Ctr) : ({ s with ctrs := v } : State).home = s.home := rfl
@[simp] theorem State.with_ctrs_seam (s : State) (v : SMap Ctr) : ({ s with ctrs := v } : State).seam = s.seam := rfl
@[simp] theorem State.with_ctrs_lod (s : State) (v : SMap Ctr) : ({ s with ctrs := v } : State).lod = s.lod := rfl
@[simp] theorem State.with_ctrs_cpy (s : State) (v : SMap Ctr) : ({ s with ctrs := v } : State).cpy = s.cpy := rfl
@[simp] theorem State.with_ctrs_bnd (s : State) (v : SMap Ctr) : ({ s with ctrs := v } : State).bnd = s.bnd := rfl
@[simp] theorem State.with_ctrs_core (s : State) (v : SMap Ctr) : ({ s with ctrs := v } : State).core = s.core := rfl
@[simp] theorem State.with_ctrs_ctrs (s : State) (v : SMap Ctr) : ({ s with ctrs := v } : State).ctrs = v := rfl
@[simp] theorem State.with_ctrs_mgt (s : State) (v : SMap Ctr) : ({ s with ctrs := v } : State).mgt = s.mgt := rfl
@[simp] theorem State.with_ctrs_tal (s : State) (v : SMap Ctr) : ({ s with ctrs := v } : State).tal = s.tal := rfl
@[simp] theorem State.with_ctrs_thm (s : State) (v : SMap Ctr) : ({ s with ctrs := v } : State).thm = s.thm := rfl
@[simp] theorem State.with_ctrs_fresh (s : State) (v : SMap Ctr) : ({ s with ctrs := v } : State).fresh = s.fresh := rfl
@[simp] theorem State.with_mgt_pending (s : State) (v : MgtUnit) : ({ s with mgt := v } : State).pending = s.pending := rfl
@[simp] theorem State.with_mgt_now (s : State) (v : MgtUnit) : ({ s with mgt := v } : State).now = s.now := rfl
@[simp] theorem State.with_mgt_resetAt (s : State) (v : MgtUnit) : ({ s with mgt := v } : State).resetAt = s.resetAt := rfl
@[simp] theorem State.with_mgt_regs (s : State) (v : MgtUnit) : ({ s with mgt := v } : State).regs = s.regs := rfl
@[simp] theorem State.with_mgt_sent (s : State) (v : MgtUnit) : ({ s with mgt := v } : State).sent = s.sent := rfl
@[simp] theorem State.with_mgt_sessions (s : State) (v : MgtUnit) : ({ s with mgt := v } : State).sessions = s.sessions := rfl
@[simp] theorem State.with_mgt_bgs (s : State) (v : MgtUnit) : ({ s with mgt := v } : State).bgs = s.bgs := rfl
@[simp] theorem State.with_mgt_chart (s : State) (v : MgtUnit) : ({ s with mgt := v } : State).chart = s.chart := rfl
@[simp] theorem State.with_mgt_chtu (s : State) (v : MgtUnit) : ({ s with mgt := v } : State).chtu = s.chtu := rfl
@[simp] theorem State.with_mgt_nv (s : State) (v : MgtUnit) : ({ s with mgt := v } : State).nv = s.nv := rfl
@[simp] theorem State.with_mgt_lvc (s : State) (v : MgtUnit) : ({ s with mgt := v } : State).lvc = s.lvc := rfl
@[simp] theorem State.with_mgt_flt (s : State) (v : MgtUnit) : ({ s with mgt := v } : State).flt = s.flt := rfl
@[simp] theorem State.with_mgt_clk (s : State) (v : MgtUnit) : ({ s with mgt := v } : State).clk = s.clk := rfl
@[simp] theorem State.with_mgt_pwr (s : State) (v : MgtUnit) : ({ s with mgt := v } : State).pwr = s.pwr := rfl
@[simp] theorem State.with_mgt_ecc (s : State) (v : MgtUnit) : ({ s with mgt := v } : State).ecc = s.ecc := rfl
@[simp] theorem State.with_mgt_lan (s : State) (v : MgtUnit) : ({ s with mgt := v } : State).lan = s.lan := rfl
@[simp] theorem State.with_mgt_lnk (s : State) (v : MgtUnit) : ({ s with mgt := v } : State).lnk = s.lnk := rfl
@[simp] theorem State.with_mgt_home (s : State) (v : MgtUnit) : ({ s with mgt := v } : State).home = s.home := rfl
@[simp] theorem State.with_mgt_seam (s : State) (v : MgtUnit) : ({ s with mgt := v } : State).seam = s.seam := rfl
@[simp] theorem State.with_mgt_lod (s : State) (v : MgtUnit) : ({ s with mgt := v } : State).lod = s.lod := rfl
@[simp] theorem State.with_mgt_cpy (s : State) (v : MgtUnit) : ({ s with mgt := v } : State).cpy = s.cpy := rfl
@[simp] theorem State.with_mgt_bnd (s : State) (v : MgtUnit) : ({ s with mgt := v } : State).bnd = s.bnd := rfl
@[simp] theorem State.with_mgt_core (s : State) (v : MgtUnit) : ({ s with mgt := v } : State).core = s.core := rfl
@[simp] theorem State.with_mgt_ctrs (s : State) (v : MgtUnit) : ({ s with mgt := v } : State).ctrs = s.ctrs := rfl
@[simp] theorem State.with_mgt_mgt (s : State) (v : MgtUnit) : ({ s with mgt := v } : State).mgt = v := rfl
@[simp] theorem State.with_mgt_tal (s : State) (v : MgtUnit) : ({ s with mgt := v } : State).tal = s.tal := rfl
@[simp] theorem State.with_mgt_thm (s : State) (v : MgtUnit) : ({ s with mgt := v } : State).thm = s.thm := rfl
@[simp] theorem State.with_mgt_fresh (s : State) (v : MgtUnit) : ({ s with mgt := v } : State).fresh = s.fresh := rfl
@[simp] theorem State.with_tal_pending (s : State) (v : TallyUnit) : ({ s with tal := v } : State).pending = s.pending := rfl
@[simp] theorem State.with_tal_now (s : State) (v : TallyUnit) : ({ s with tal := v } : State).now = s.now := rfl
@[simp] theorem State.with_tal_resetAt (s : State) (v : TallyUnit) : ({ s with tal := v } : State).resetAt = s.resetAt := rfl
@[simp] theorem State.with_tal_regs (s : State) (v : TallyUnit) : ({ s with tal := v } : State).regs = s.regs := rfl
@[simp] theorem State.with_tal_sent (s : State) (v : TallyUnit) : ({ s with tal := v } : State).sent = s.sent := rfl
@[simp] theorem State.with_tal_sessions (s : State) (v : TallyUnit) : ({ s with tal := v } : State).sessions = s.sessions := rfl
@[simp] theorem State.with_tal_bgs (s : State) (v : TallyUnit) : ({ s with tal := v } : State).bgs = s.bgs := rfl
@[simp] theorem State.with_tal_chart (s : State) (v : TallyUnit) : ({ s with tal := v } : State).chart = s.chart := rfl
@[simp] theorem State.with_tal_chtu (s : State) (v : TallyUnit) : ({ s with tal := v } : State).chtu = s.chtu := rfl
@[simp] theorem State.with_tal_nv (s : State) (v : TallyUnit) : ({ s with tal := v } : State).nv = s.nv := rfl
@[simp] theorem State.with_tal_lvc (s : State) (v : TallyUnit) : ({ s with tal := v } : State).lvc = s.lvc := rfl
@[simp] theorem State.with_tal_flt (s : State) (v : TallyUnit) : ({ s with tal := v } : State).flt = s.flt := rfl
@[simp] theorem State.with_tal_clk (s : State) (v : TallyUnit) : ({ s with tal := v } : State).clk = s.clk := rfl
@[simp] theorem State.with_tal_pwr (s : State) (v : TallyUnit) : ({ s with tal := v } : State).pwr = s.pwr := rfl
@[simp] theorem State.with_tal_ecc (s : State) (v : TallyUnit) : ({ s with tal := v } : State).ecc = s.ecc := rfl
@[simp] theorem State.with_tal_lan (s : State) (v : TallyUnit) : ({ s with tal := v } : State).lan = s.lan := rfl
@[simp] theorem State.with_tal_lnk (s : State) (v : TallyUnit) : ({ s with tal := v } : State).lnk = s.lnk := rfl
@[simp] theorem State.with_tal_home (s : State) (v : TallyUnit) : ({ s with tal := v } : State).home = s.home := rfl
@[simp] theorem State.with_tal_seam (s : State) (v : TallyUnit) : ({ s with tal := v } : State).seam = s.seam := rfl
@[simp] theorem State.with_tal_lod (s : State) (v : TallyUnit) : ({ s with tal := v } : State).lod = s.lod := rfl
@[simp] theorem State.with_tal_cpy (s : State) (v : TallyUnit) : ({ s with tal := v } : State).cpy = s.cpy := rfl
@[simp] theorem State.with_tal_bnd (s : State) (v : TallyUnit) : ({ s with tal := v } : State).bnd = s.bnd := rfl
@[simp] theorem State.with_tal_core (s : State) (v : TallyUnit) : ({ s with tal := v } : State).core = s.core := rfl
@[simp] theorem State.with_tal_ctrs (s : State) (v : TallyUnit) : ({ s with tal := v } : State).ctrs = s.ctrs := rfl
@[simp] theorem State.with_tal_mgt (s : State) (v : TallyUnit) : ({ s with tal := v } : State).mgt = s.mgt := rfl
@[simp] theorem State.with_tal_tal (s : State) (v : TallyUnit) : ({ s with tal := v } : State).tal = v := rfl
@[simp] theorem State.with_tal_thm (s : State) (v : TallyUnit) : ({ s with tal := v } : State).thm = s.thm := rfl
@[simp] theorem State.with_tal_fresh (s : State) (v : TallyUnit) : ({ s with tal := v } : State).fresh = s.fresh := rfl
@[simp] theorem State.with_thm_pending (s : State) (v : ThermalUnit) : ({ s with thm := v } : State).pending = s.pending := rfl
@[simp] theorem State.with_thm_now (s : State) (v : ThermalUnit) : ({ s with thm := v } : State).now = s.now := rfl
@[simp] theorem State.with_thm_resetAt (s : State) (v : ThermalUnit) : ({ s with thm := v } : State).resetAt = s.resetAt := rfl
@[simp] theorem State.with_thm_regs (s : State) (v : ThermalUnit) : ({ s with thm := v } : State).regs = s.regs := rfl
@[simp] theorem State.with_thm_sent (s : State) (v : ThermalUnit) : ({ s with thm := v } : State).sent = s.sent := rfl
@[simp] theorem State.with_thm_sessions (s : State) (v : ThermalUnit) : ({ s with thm := v } : State).sessions = s.sessions := rfl
@[simp] theorem State.with_thm_bgs (s : State) (v : ThermalUnit) : ({ s with thm := v } : State).bgs = s.bgs := rfl
@[simp] theorem State.with_thm_chart (s : State) (v : ThermalUnit) : ({ s with thm := v } : State).chart = s.chart := rfl
@[simp] theorem State.with_thm_chtu (s : State) (v : ThermalUnit) : ({ s with thm := v } : State).chtu = s.chtu := rfl
@[simp] theorem State.with_thm_nv (s : State) (v : ThermalUnit) : ({ s with thm := v } : State).nv = s.nv := rfl
@[simp] theorem State.with_thm_lvc (s : State) (v : ThermalUnit) : ({ s with thm := v } : State).lvc = s.lvc := rfl
@[simp] theorem State.with_thm_flt (s : State) (v : ThermalUnit) : ({ s with thm := v } : State).flt = s.flt := rfl
@[simp] theorem State.with_thm_clk (s : State) (v : ThermalUnit) : ({ s with thm := v } : State).clk = s.clk := rfl
@[simp] theorem State.with_thm_pwr (s : State) (v : ThermalUnit) : ({ s with thm := v } : State).pwr = s.pwr := rfl
@[simp] theorem State.with_thm_ecc (s : State) (v : ThermalUnit) : ({ s with thm := v } : State).ecc = s.ecc := rfl
@[simp] theorem State.with_thm_lan (s : State) (v : ThermalUnit) : ({ s with thm := v } : State).lan = s.lan := rfl
@[simp] theorem State.with_thm_lnk (s : State) (v : ThermalUnit) : ({ s with thm := v } : State).lnk = s.lnk := rfl
@[simp] theorem State.with_thm_home (s : State) (v : ThermalUnit) : ({ s with thm := v } : State).home = s.home := rfl
@[simp] theorem State.with_thm_seam (s : State) (v : ThermalUnit) : ({ s with thm := v } : State).seam = s.seam := rfl
@[simp] theorem State.with_thm_lod (s : State) (v : ThermalUnit) : ({ s with thm := v } : State).lod = s.lod := rfl
@[simp] theorem State.with_thm_cpy (s : State) (v : ThermalUnit) : ({ s with thm := v } : State).cpy = s.cpy := rfl
@[simp] theorem State.with_thm_bnd (s : State) (v : ThermalUnit) : ({ s with thm := v } : State).bnd = s.bnd := rfl
@[simp] theorem State.with_thm_core (s : State) (v : ThermalUnit) : ({ s with thm := v } : State).core = s.core := rfl
@[simp] theorem State.with_thm_ctrs (s : State) (v : ThermalUnit) : ({ s with thm := v } : State).ctrs = s.ctrs := rfl
@[simp] theorem State.with_thm_mgt (s : State) (v : ThermalUnit) : ({ s with thm := v } : State).mgt = s.mgt := rfl
@[simp] theorem State.with_thm_tal (s : State) (v : ThermalUnit) : ({ s with thm := v } : State).tal = s.tal := rfl
@[simp] theorem State.with_thm_thm (s : State) (v : ThermalUnit) : ({ s with thm := v } : State).thm = v := rfl
@[simp] theorem State.with_thm_fresh (s : State) (v : ThermalUnit) : ({ s with thm := v } : State).fresh = s.fresh := rfl
@[simp] theorem State.with_fresh_pending (s : State) (v : SMap Nat) : ({ s with fresh := v } : State).pending = s.pending := rfl
@[simp] theorem State.with_fresh_now (s : State) (v : SMap Nat) : ({ s with fresh := v } : State).now = s.now := rfl
@[simp] theorem State.with_fresh_resetAt (s : State) (v : SMap Nat) : ({ s with fresh := v } : State).resetAt = s.resetAt := rfl
@[simp] theorem State.with_fresh_regs (s : State) (v : SMap Nat) : ({ s with fresh := v } : State).regs = s.regs := rfl
@[simp] theorem State.with_fresh_sent (s : State) (v : SMap Nat) : ({ s with fresh := v } : State).sent = s.sent := rfl
@[simp] theorem State.with_fresh_sessions (s : State) (v : SMap Nat) : ({ s with fresh := v } : State).sessions = s.sessions := rfl
@[simp] theorem State.with_fresh_bgs (s : State) (v : SMap Nat) : ({ s with fresh := v } : State).bgs = s.bgs := rfl
@[simp] theorem State.with_fresh_chart (s : State) (v : SMap Nat) : ({ s with fresh := v } : State).chart = s.chart := rfl
@[simp] theorem State.with_fresh_chtu (s : State) (v : SMap Nat) : ({ s with fresh := v } : State).chtu = s.chtu := rfl
@[simp] theorem State.with_fresh_nv (s : State) (v : SMap Nat) : ({ s with fresh := v } : State).nv = s.nv := rfl
@[simp] theorem State.with_fresh_lvc (s : State) (v : SMap Nat) : ({ s with fresh := v } : State).lvc = s.lvc := rfl
@[simp] theorem State.with_fresh_flt (s : State) (v : SMap Nat) : ({ s with fresh := v } : State).flt = s.flt := rfl
@[simp] theorem State.with_fresh_clk (s : State) (v : SMap Nat) : ({ s with fresh := v } : State).clk = s.clk := rfl
@[simp] theorem State.with_fresh_pwr (s : State) (v : SMap Nat) : ({ s with fresh := v } : State).pwr = s.pwr := rfl
@[simp] theorem State.with_fresh_ecc (s : State) (v : SMap Nat) : ({ s with fresh := v } : State).ecc = s.ecc := rfl
@[simp] theorem State.with_fresh_lan (s : State) (v : SMap Nat) : ({ s with fresh := v } : State).lan = s.lan := rfl
@[simp] theorem State.with_fresh_lnk (s : State) (v : SMap Nat) : ({ s with fresh := v } : State).lnk = s.lnk := rfl
@[simp] theorem State.with_fresh_home (s : State) (v : SMap Nat) : ({ s with fresh := v } : State).home = s.home := rfl
@[simp] theorem State.with_fresh_seam (s : State) (v : SMap Nat) : ({ s with fresh := v } : State).seam = s.seam := rfl
@[simp] theorem State.with_fresh_lod (s : State) (v : SMap Nat) : ({ s with fresh := v } : State).lod = s.lod := rfl
@[simp] theorem State.with_fresh_cpy (s : State) (v : SMap Nat) : ({ s with fresh := v } : State).cpy = s.cpy := rfl
@[simp] theorem State.with_fresh_bnd (s : State) (v : SMap Nat) : ({ s with fresh := v } : State).bnd = s.bnd := rfl
@[simp] theorem State.with_fresh_core (s : State) (v : SMap Nat) : ({ s with fresh := v } : State).core = s.core := rfl
@[simp] theorem State.with_fresh_ctrs (s : State) (v : SMap Nat) : ({ s with fresh := v } : State).ctrs = s.ctrs := rfl
@[simp] theorem State.with_fresh_mgt (s : State) (v : SMap Nat) : ({ s with fresh := v } : State).mgt = s.mgt := rfl
@[simp] theorem State.with_fresh_tal (s : State) (v : SMap Nat) : ({ s with fresh := v } : State).tal = s.tal := rfl
@[simp] theorem State.with_fresh_thm (s : State) (v : SMap Nat) : ({ s with fresh := v } : State).thm = s.thm := rfl
@[simp] theorem State.with_fresh_fresh (s : State) (v : SMap Nat) : ({ s with fresh := v } : State).fresh = v := rfl

end Sys2Proof.Machine
end

