-- ==== Sys2Proof/WellFormed.lean ====
section
/-! DEFINITION. Well-formed commands: those whose operands have the shapes their rules state (lengths of keys, digests, codewords, slot
writes and lines; offsets of whole words; inputs that the collector has). The machine answers every command, well-formed or not; what
the spec does with an ill-formed one that can reach the module is in its meaning. -/
namespace Sys2Proof

/-- The inputs of a collector (R11). -/
def Collector.inputs : Collector → Nat
  | .cell _ => 9
  | .block _ => 10
  | .region _ => 32
  | .hub => 20

/-- 64 bytes of data and a mask with a bit for each (R184). -/
def CohReq.wf (r : CohReq) : Bool := decide (r.data < 2 ^ 512) && decide (r.mask < 2 ^ 64)

/-- The operands of a command have the shapes that its rule states. -/
def Instr.wf (c : Instr) : Bool :=
  match c with
  | .referenceFailure .. | .referenceRecovered .. | .holdoverExpired .. | .referenceRevert .. | .referenceForce ..
  | .referenceTakeAtStart .. | .referenceStartTimeout .. | .sscMeasurement .. | .rootPllUnlock | .rootPllLock .. | .chartLoad ..
  | .chartAmend .. | .chartQuiesce .. | .chartResume .. | .chartRebase .. | .chartAbort .. | .quiesceDrained .. | .quiesceWaitExpired ..
  | .chartChecksDone .. | .chartLeaveWaitExpired .. | .chartCommitDone .. | .amendmentApplyDone .. | .chartBufWrite ..
  | .logreadDataRead .. | .chartStartup .. | .cxlLinkUp .. | .cxlTrainingFailed .. | .partnerRecoveryChange .. | .pbrAdv ..
  | .identifySwitchDevice .. | .getPhysicalPortState .. | .physicalPortControl .. | .sendPpbCxlioConfigRequest ..
  | .getVirtualCxlSwitchInfo .. | .tunnelManagementCommand .. | .sendLdCxlioConfigRequest .. | .sendLdCxlioMemoryRequest .. | .bindPleat ..
  | .getBindingState .. | .tackAdvance .. | .tackSlotWaitExpired .. | .tackRetire .. | .responseWaitExpired .. | .unbindWaitSatisfied ..
  | .unbindWaitExpired .. | .slotControlWrite .. | .presenceDebounced .. | .perstInChange .. | .admissionRequest .. | .outputNextMessage ..
  | .segmentRelease .. | .cutThroughGap .. | .poisonFill .. | .demotionEnd .. | .seamResetCommand .. | .seamResetDone ..
  | .rosePlaneLoss .. | .regenRelockTimeout .. | .boltRowRetire .. | .weightRefresh .. | .shaperSlot .. | .queueSample .. | .qhistClear ..
  | .tackCountsClear .. | .ctstatClear .. | .stgPeakClear .. | .homeAdmission .. | .rdS .. | .rdOwn .. | .upg .. | .rdCur .. | .evictS ..
  | .wrBack .. | .wrClean .. | .wrFull .. | .wrPart .. | .snData .. | .snInv .. | .snCur .. | .srI .. | .srS .. | .srCur ..
  | .biconflict .. | .snoopTimeout .. | .deadAgentSweepDone .. | .agentRevive .. | .writeBehind .. | .windowFlushStart ..
  | .windowFlushDone .. | .homeSliceFailover .. | .shadowReissue .. | .homeFailoverDone .. | .hbmStackLoss .. | .homeWorkRestart ..
  | .trkPeakClear .. | .fetchAdd .. | .compareSwap .. | .swap .. | .wait .. | .notify .. | .barrier .. | .lock .. | .unlock ..
  | .groupCreate .. | .groupJoin .. | .groupLeave .. | .groupDestroy .. | .objAlloc .. | .objFree .. | .lodestarResultReturn ..
  | .parkedTimeout .. | .allWaitingFreeze .. | .allWaitingDecision .. | .ldsPeakClear .. | .copyJobStart .. | .copyLeaveWaitExpired ..
  | .copyLeaveRenew .. | .copyEngineFailure .. | .mgtCopySubmit .. | .violClear .. | .violCountClear .. | .sextantPointDone ..
  | .fomTick .. | .rangeChangeRequest .. | .trialRetry .. | .trialEnd .. | .quietWindowGrant .. | .naturalGap .. | .suspectStep ..
  | .threshWrite .. | .sweepStart .. | .sweepLaneDone .. | .resetReq .. | .creditSync .. | .retire .. | .creditSyncTimeout ..
  | .nakTimeout .. | .replayTimeout .. | .fnlTrainingPhase .. | .fnlLinkUp .. | .presetResetTimeout .. | .watchEnd .. | .lossOfSignal ..
  | .graceExpired .. | .linkResetCommand .. | .linkUnretire .. | .cxlReplayTimeout .. | .firstRecordClear .. | .collectorSelfFault ..
  | .safeEnter .. | .safeDrainEnd .. | .safeExit .. | .c0WindowEnd .. | .attentionAck .. | .correctableError .. | .uncorrectableError ..
  | .scrubStart .. | .scrubRead .. | .scrubLeaveRenew .. | .scrubDone .. | .fuseBurn .. | .fuseBurnDone .. | .oringReverse ..
  | .feedPresent .. | .feedQualified .. | .bulkCapMeasure .. | .feedPowerGood .. | .feedStartTimeout .. | .gateCheckFailure ..
  | .feedUndervoltage .. | .feedOvervoltageLong .. | .feedOvervoltageFast .. | .feedLimitEnter .. | .feedLimitExit .. | .feedOcTrip ..
  | .feedFastTrip .. | .feedRetry .. | .feedTripCountClear .. | .feedCycled .. | .feedRelease .. | .feedUnretire .. | .rideThroughStart ..
  | .rideThroughEnd .. | .dataPlaneShed .. | .shedPlaneOff .. | .almanacSaveDone .. | .avsAckTimeout .. | .railFault .. | .brownOut
  | .ldoGoFull .. | .ldoReturnLow .. | .leaveRequest .. | .leaveRedecide .. | .leaveRenew .. | .slipExpiry .. | .slipRelease ..
  | .slipRenew .. | .leaveWithdraw .. | .lvcRequest .. | .inputPeakClear .. | .enterP2 .. | .enterP3 .. | .exitP2 ..
  | .pstateEntryComplete .. | .wake .. | .padRelease .. | .powerOnReset .. | .feedReturnReset .. | .resetL .. | .watchdogExpiry ..
  | .watchdogKick .. | .blockSwreset .. | .blockResetDone .. | .regionResetDone .. | .portReset .. | .retainDataAccess ..
  | .managementBootDone .. | .regionPowerUpDone .. | .ready .. | .counterSelect .. | .counterClear .. | .tallyFreeze .. | .tallyUnfreeze ..
  | .tallySnap .. | .tallyPeriod .. | .tallyBufferFlip .. | .tallyHoldRelease .. | .setEndpointId .. | .getEndpointId ..
  | .getVersionSupport .. | .getMessageTypeSupport .. | .getEndpointUuid .. | .getMeasurements .. | .heartbeat .. | .endSession ..
  | .sessionHeartbeatTimeout .. | .udpDatagram .. | .i3cAddressAssign .. | .identify .. | .backgroundOperationStatus ..
  | .getResponseMessageLimit .. | .requestAbortBackgroundOp .. | .getIdent .. | .fuseBurnVerify .. | .moduleReset .. | .regionReset ..
  | .blockReset .. | .mailboxGo .. | .mailboxAbort .. | .mailboxReqWrite .. | .sensorBlind .. | .throttleEnd .. | .tmaxPeakClear ..
  | .delayTrimEnd .. | .regeneratorRelock .. | .feedLeavesRange .. | .linkDownLeavesWindow .. | .cxlDataLinkDown ..
  | .histogramClearDone .. => true
  | .bindVppb _ v _ _ _ => decide (v.val < 64)
  | .unbindVppb _ v _ option => decide (v.val < 64 ∧ option.val < 3)
  | .generateAerEvent _ v _ _ => decide (v.val < 64)
  | .unbindPleat _ _ _ option => decide (option.val < 3)
  | .messageIngress _ m _ => m.coh.all CohReq.wf
  | .seamSlotReceive _ _ _ _ _ data _ _ _ _ => decide (data < 2 ^ 512)
  | .seamResendReceive _ _ _ _ _ data _ _ _ _ => decide (data < 2 ^ 512)
  | .srIData _ _ data _ => decide (data < 2 ^ 512)
  | .srSData _ _ data _ => decide (data < 2 ^ 512)
  | .srCurData _ _ data _ => decide (data < 2 ^ 512)
  | .poolResponse _ _ data _ _ _ => decide (data < 2 ^ 512)
  | .lodestarCommandWrite _ _ _ off bytes _ => off.val % 64 == 0 && bytes.length == 64
  | .copy _ _ _ off bytes _ => off.val % 64 == 0 && bytes.length == 64
  | .zero _ _ _ off bytes _ => off.val % 64 == 0 && bytes.length == 64
  | .sanitize _ _ _ off bytes _ => off.val % 64 == 0 && bytes.length == 64
  | .copyChunkDone _ data _ _ => decide (data.length ≤ 64) && data.all fun d => decide (d < 2 ^ 512)
  | .presetWrite _ a _ => a.taps.length == 12
  | .codewordReceive _ cw _ => cw.length == 288
  | .train _ b => b.credits.length == 6
  | .creditTotals _ totals => totals.length == 6
  | .errorLineEvent c events => events.all fun e => decide (e.1.val < c.inputs)
  | .wiringFault c i => decide (i.val < c.inputs)
  | .wiringPoll c i _ _ _ => decide (i.val < c.inputs)
  | .wiringRearm _ c i => decide (i.val < c.inputs)
  | .inputServiceEntry c i => decide (i.val < c.inputs)
  | .inputServiceTimeout c i => decide (i.val < c.inputs)
  | .faultInject _ c i _ => decide (i.val < c.inputs)
  | .railPoll readings _ _ => (readings.map (·.rail)).Nodup
  | .keyExchange _ key _ _ => key.length == 97
  | .setResponseMessageLimit _ limit => decide (256 ≤ limit.val ∧ limit.val ≤ 4104)
  | .regRead _ off count => off.val % 4 == 0 && decide (1 ≤ count.val ∧ count.val ≤ 1024)
  | .regWrite _ off words => off.val % 4 == 0 && decide (1 ≤ words.length ∧ words.length ≤ 1024)
  | .registerWrite _ off _ => off.val % 4 == 0
  | .keyProgram _ slot key => decide (slot.val < 4) && key.length == 97
  | .keyRevoke _ slot => decide (slot.val < 4)
  | .pinfuseSet _ pin _ => decide (pin.val ≤ 512)
  | .helmClaim _ key => key.length == 97
  | .helmRotate _ key => key.length == 97
  | .pilotEnrol _ key => key.length == 97
  | .pilotRemove _ digest => digest.length == 48
  | .berthKeySet _ k key => decide (k.val < 64) && key.all fun x => x.length == 97
  | .chartCmd _ cmd => decide (1 ≤ cmd.val ∧ cmd.val ≤ 6)
  | .mailboxResponse _ rsp _ => rsp.all fun l => decide (l.length ≤ 16384)
  | .tempSample readings _ => (readings.map (·.sensor)).Nodup
  | .mctpPacket path pkt => path != .ethernet && pkt.body.length != 0
  | .builtInSelfTest _ c i _ _ => decide (i.val < c.inputs)

end Sys2Proof
end

