-- ==== Sys2Proof/Tests/Slice0.lean ====
section
/-! SUPPORT. The tests of this model: ill-formed commands that WellFormed refuses, single commands with the result that a rule gives, and for
every statement with hypotheses, states and operands that meet them. -/
namespace Sys2Proof.Tests
set_option Elab.async false
set_option linter.unusedVariables false
open Sys2Proof Sys2Proof.Machine

/-! The small states that tests start from. -/

/-- The module after reset with some register fields set. -/
def regs (l : List (Fld × Nat)) : State := State.reset.setAll l

/-- Words of a window entry (R199): lines a to b, flags and berth, budget, horizon, pool cell. -/
def winEntry (a b flags : Nat) : List Nat := [a, flags, b, 0, 1000, 100, 4]

/-- A chart: a USP at cell 0 (virtual switch 0 of berth 3, 2 vPPBs), a DSP at cell 4, an FNL pleat at cell 8; a shared window of lines
4096 to 8191, a private one above it; one agent at the USP's port ID 10; every slice of region 0 active; the Lodestar aperture at 64 MiB. -/
def chart0 : Chart :=
  [(chartKey 1 0 0, [0x20, 1 + 2 ^ 26] ++ List.replicate 30 0),
   (chartKey 3 0 0, [0x755000]), (chartKey 3 0 4, [0x752000]), (chartKey 3 0 8, [0x713000]),
   (chartKey 4 0 0, [3 * 2 ^ 10 + 2 * 2 ^ 16 + 2 ^ 25, 0, 0]), (chartKey 4 1 9, [2 ^ 14 + 2 ^ 15 + 4]), (chartKey 4 1 10, [2 ^ 14 + 2 ^ 15]),
   (chartKey 4 1 11, [2 ^ 15 + 2 ^ 10 + 8]),
   (chartKey 4 2 5, [2 ^ 10 + 4]), (chartKey 5 0 3, [0x11, 100, 10 + 20 * 2 ^ 16, 64 + 64 * 2 ^ 12, 8, 0, 0]),
   (chartKey 6 0 0, winEntry 4096 8191 (2 ^ 14 + 3 * 2 ^ 16 + 2 ^ 22)), (chartKey 6 0 1, winEntry 8192 12287 (3 * 2 ^ 16 + 2 ^ 22)),
   (chartKey 6 1 0, [2 ^ 12 + 10]), (chartKey 7 0 0, [0xFF, 0, 0, 0]),
   (chartKey 8 0 32, [0x40, 0, 0]), (chartKey 9 1 3, [1000])]

/-- The module at READY with the given fields set, that chart in force, region 0 powered, and four sessions open: the Helm's in slot 0,
a Pilot's in slot 1, an unclaimed requester's in slot 2, berth 3's in its mailbox. -/
def T (l : List (Fld × Nat)) : State :=
  { regs ((F.rstStatReady, 1) :: (F.hubTopoRegionPowered, 1) :: l) with
    chart := chart0
    sessions := [(0, ⟨.helm, .i3c, [], 1, 0⟩), (1, ⟨.pilot 0, .ethernet, [], 2, 0⟩), (2, ⟨.unclaimed, .i3c, [], 3, 0⟩),
      (67, ⟨.berth 3, .mailbox 0, [], 4, 0⟩)] }

/-- The sessions of those states. -/
abbrev helm : Sess := .slot 0
abbrev pilot : Sess := .slot 1
abbrev nobody : Sess := .slot 2
abbrev berth3 : Sess := .berth 3

/-- Bytes that are 0. -/
def zeros (n : Nat) : List (Fin 256) := List.replicate n 0

/-! Ill-formed commands, one for each check of WellFormed. -/

def msg0 (q : Option CohReq) : MsgHeader := ⟨1, none, .memRead, .m2sReq, 4, none, 0, 16, 0, 0, 64, q, 0, 0, 0, 0, .plain, none⟩

/-- Chart, switch and link commands whose operands break the shapes of their rules. -/
theorem test_wf_refuses_link_shapes :
    [Instr.bindVppb pilot 64 0 0 0, .unbindVppb pilot 64 0 0, .unbindVppb pilot 0 0 3, .generateAerEvent pilot 64 0 0, .unbindPleat pilot 0 0 3,
     .messageIngress 0 (msg0 (some ⟨.rdS, none, 2 ^ 512, 0⟩)) 0, .messageIngress 0 (msg0 (some ⟨.rdS, none, 0, 2 ^ 64⟩)) 0,
     .seamSlotReceive 0 0 0 .a 0 (2 ^ 512) 0 0 false 0, .seamResendReceive 0 0 0 .a 0 (2 ^ 512) 0 0 false 0,
     .presetWrite 0 ⟨0, 0, []⟩ 0, .codewordReceive 0 (zeros 287) 0, .train 0 ⟨0, false, 0, 0, 0, 0, 0, false, 0, []⟩,
     .creditTotals 0 []].all (fun c => !c.wf) = true := by decide +kernel

/-- Home, Lodestar and copy commands. -/
theorem test_wf_refuses_memory_shapes :
    [Instr.srIData 0 0 (2 ^ 512) 0, .srSData 0 0 (2 ^ 512) 0, .srCurData 0 0 (2 ^ 512) 0, .poolResponse 0 false (2 ^ 512) false 0 0,
     .lodestarCommandWrite 0 0 ⟨none, 0, 0, 0⟩ 1 (zeros 64) 0, .lodestarCommandWrite 0 0 ⟨none, 0, 0, 0⟩ 0 (zeros 63) 0, .copy 0 0 ⟨none, 0, 0, 0⟩ 1 (zeros 64) 0, .copy 0 0 ⟨none, 0, 0, 0⟩ 0 [] 0,
     .zero 0 0 ⟨none, 0, 0, 0⟩ 1 (zeros 64) 0, .zero 0 0 ⟨none, 0, 0, 0⟩ 0 [] 0, .sanitize 0 0 ⟨none, 0, 0, 0⟩ 1 (zeros 64) 0, .sanitize 0 0 ⟨none, 0, 0, 0⟩ 0 [] 0,
     .copyChunkDone 0 (List.replicate 65 0) [] 0, .copyChunkDone 0 [2 ^ 512] [] 0].all (fun c => !c.wf) = true := by decide +kernel

/-- Collector, power and thermal commands. -/
theorem test_wf_refuses_input_shapes :
    [Instr.errorLineEvent (.cell 0) [(9, .c1)], .wiringFault (.block 0) 10, .wiringPoll .hub 20 [] true 0, .wiringRearm helm (.cell 0) 9,
     .inputServiceEntry .hub 20, .inputServiceTimeout (.block 0) 10, .faultInject helm .hub 31 .c0, .builtInSelfTest helm .hub 20 false false,
     .railPoll [⟨0, 0, 0, true⟩, ⟨0, 0, 0, true⟩] ⟨0, 0, 0, 0, 0, 0, 0⟩ 0, .tempSample [⟨0, none⟩, ⟨0, none⟩] 0].all
      (fun c => !c.wf) = true := by decide +kernel

/-- Management commands. -/
theorem test_wf_refuses_management_shapes :
    [Instr.keyExchange .i3c [] 0 0, .setResponseMessageLimit helm 255, .setResponseMessageLimit helm 4105, .regRead helm 2 1, .regRead helm 0 0,
     .regRead helm 0 1025, .regWrite helm 1 [0], .regWrite helm 0 [], .registerWrite helm 3 0, .keyProgram helm 4 (zeros 97), .keyProgram helm 0 [],
     .keyRevoke helm 4, .pinfuseSet helm 513 true, .helmClaim nobody [], .helmRotate helm [], .pilotEnrol helm [], .pilotRemove helm [],
     .berthKeySet helm 64 none, .berthKeySet helm 0 (some []), .chartCmd pilot 0, .chartCmd pilot 7, .mailboxResponse 0 (some (zeros 16385)) 0,
     .mctpPacket .ethernet ⟨true, true, 0, 5, [0]⟩, .mctpPacket .i3c ⟨true, true, 0, 5, []⟩].all (fun c => !c.wf) = true := by decide +kernel

/-! One command on a small state, with the result that its rule gives. -/

/-- What a predicate says of the next state; false where a command answers none. -/
def after (o : Host.Outcome State Fault Refusal) (p : State → Bool) : Bool :=
  match o with
  | .next u => p u
  | _ => false

/-- R5, R407: a word written by its owner reads back. -/
theorem test_backup_register_reads_back :
    after (exec (.registerWrite helm 0x11104 0xDEADBEEF) (T []))
      (fun u => u.get (F.almBkp 1) == 0xDEADBEEF && u.get (F.almBkp 0) == 0 && (u.word 0x11104 == 0xDEADBEEF)) = true := by decide +kernel

/-- R27, R35: the limit is 5,500 ppm, in units of 10 ppm. -/
theorem test_ssc_limit :
    after (exec (.sscMeasurement 551 33) { T [] with clk := ⟨none, none, 0, true, 0, 0, 0, 0, none⟩ }) (fun u => u.flag F.hubRefstatSscOor) = true ∧
    after (exec (.sscMeasurement 550 33) { T [] with clk := ⟨none, none, 0, true, 0, 0, 0, 0, none⟩ }) (fun u => !u.flag F.hubRefstatSscOor) = true := by decide +kernel

/-- R258: ATTN above TARGET is refused and nothing changes; 8 ≤ 50 < 60 ≤ 70 is taken. -/
theorem test_threshold_order :
    after (exec (.threshWrite pilot 0 100 120 50) (T [(F.seamStatStateA 0, 2), (F.hubXbarstatMode, 3)]))
      (fun u => u.get (F.sxtThreshAttn 0) == (T []).get (F.sxtThreshAttn 0)) = true ∧
    after (exec (.threshWrite pilot 0 70 60 50) (T [(F.seamStatStateA 0, 2), (F.hubXbarstatMode, 3)])) (fun u => u.get (F.sxtThreshAttn 0) == 60) = true := by decide +kernel

/-- R163: the slot is the XOR of the line's seven 6-bit fields. -/
theorem test_slot_of_line : slotOf 0x41 = 0 ∧ slotOf (63 + 2 ^ 6 * 21) = 42 ∧ slotOf (2 ^ 36) = 1 := by decide +kernel

/-- R255: an eye's FOM takes the whole part of the square root, at most 255. -/
theorem test_fom_root : fomRoot 99 = 9 ∧ fomRoot 100 = 10 ∧ fomRoot 100000 = 255 := by decide +kernel

/-- R414: a counter wraps at 2^48 and sets OVF. -/
theorem test_counter_wraps :
    (addCtr [(0, { newCtr with val := 2 ^ 48 - 1, en := true })] 0 2).map (fun e => (e.2.val, e.2.ovf)) = [(1, true)] := by decide +kernel

/-- R212: FETCH_ADD adds A to the word, and its record brings the old word. -/
theorem test_fetch_add :
    after (exec (.fetchAdd 0 0 0) { T [] with lod := { State.reset.lod with
      objects := [(0, ⟨0, [5, 0, 0, 0, 0, 0, 0, 0], none, 0, 0, 0, 3, false⟩)]
      pend := [⟨0, 0, 1, 0, 9, 0, 0, 3, 0, 0, 0, 3, false⟩] } })
      (fun u => (u.lod.objects.map (·.2.words.head?)) == [some 8] && u.lod.results.map (fun e => (e.2.ticket, e.2.value)) == [(9, 5)]) = true := by
  decide +kernel

/-- R323: the Helm's command enters the safe state and its record names input 0x1E. -/
theorem test_safe_command :
    after (exec (.safeEnter helm) (T [])) (fun u => u.get F.fltSafeState == 1 && u.get F.fltLastfatalSrc == 0x1E) = true ∧
    after (exec (.safeEnter pilot) (T [])) (fun u => u.get F.fltSafeState == 0) = true := by decide +kernel

/-- R359, R363: a feed that rises through 35.0 V qualifies. -/
theorem test_feed_qualifies :
    after (exec (.feedPresent 0 480 5) State.reset) (fun u => u.get (F.pwrFeedstatState 0) == 1) = true := by decide +kernel

/-- R276: x^7 times x is x^4 + x^3 + x^2 + 1 in the field. -/
theorem test_field : gfMul 128 2 = 0x1D ∧ gfMul (gfInv 7) 7 = 1 := by decide +kernel

/-- R277: the check value of this CRC-64 over the digits 1 to 9, as catalogued for its polynomial, start and final values. -/
theorem test_crc64 : crc64 [0x31, 0x32, 0x33, 0x34, 0x35, 0x36, 0x37, 0x38, 0x39] = 0x62EC59E3F1A4F00A := by decide +kernel

/-- R39, R53 (FIPS 180-4): SHA-384 of the three bytes of "abc" begins CB00753F45A35E8B. -/
theorem test_sha384 : (sha384 [0x61, 0x62, 0x63]).take 8 = [0xCB, 0, 0x75, 0x3F, 0x45, 0xA3, 0x5E, 0x8B] := by decide +kernel


/-! Witnesses of the hypotheses of the statements, one part for each clause. -/

def gg : State := T [(F.hubRefstatAGood, 1), (F.hubRefstatBGood, 1)]
def op1 (k : ChartKind) : ChartOp := ⟨k, 1, chart0, [], none, none, [], [], 0, 0, 0⟩
def op2 (k : ChartKind) (n : Nat) : State := { T [(F.chtStatusState, n)] with chtu := { ChartUnit.reset with op := some (op1 k) } }
def hdr (id out : Nat) (k : MsgKind) (fc : FcClass) : MsgHeader := ⟨id, none, k, fc, ⟨out % 1024, Nat.mod_lt _ (by decide)⟩, none, 64, 16, 0, 1, 64, none, 0, 0, 0, 0, .plain, none⟩
def msg (id src out : Nat) (fc : FcClass) : Msg := ⟨id, src, .memRead, fc, out, 17 * out, 0, 0, some 3, 0, 64, 16, 0, 1, 64, none, [], false, 0, 0, none, none, 0, 0, 0, false, 0, 0, 0, false, 0, false, 0⟩
def bolted (m : Msg) : Msg := { m with pool := 1, inBolt := 1 }
def T1 (l : List (Fld × Nat)) (f : CoreUnit → CoreUnit) : State := (T l).modCore f
def upA : List (Fld × Nat) := [(F.celLinkstatUp 0, 1), (F.celLinkstatUp 4, 1), (F.celLinkstatUp 8, 1), (F.celBindBound 4, 1)]
def txn (id line : Nat) (op : CohOp) : Txn := ⟨id, 0, line, .req op, 0, 5, some 0, false, some 3, 0, 0, false, .queued, [], none, 0, 0, false, false, none, 0, none, false, false, none⟩
def shadow (line : Nat) (moved : Bool) (count : Nat) : Shadow := ⟨8, 5, .rdS, line, 0, 136, 0, some 0, false, some 3, 0, 0, 0, 0, false, count, moved⟩
def seamT (l : List (Fld × Nat)) : State := T1 ([(F.hubXbarstatMode, 3), (F.seamStatStateA 0, 2), (F.seamStatStateB 0, 2), (F.seamStatStateA 1, 2), (F.seamStatStateB 1, 2)] ++ l) (fun u => { u with bolt := [msg 1 128 4 .m2sReq] })
def ownedT : State := (T []).modHome fun u => { u with dir := [(4096, ⟨0, 0, 2, 1, 0, false, 3, 0, 7, 0⟩)] }
def flushT (l : List (Fld × Nat)) : State := (T l).modHome fun u => { u with flushWin := some 0, flushOn := true }
def workT : State := (T [(F.homRole 0, 1)]).modHome fun u => { u with txns := [txn 1 4096 .rdS], snoops := [⟨1, 0, 4096, [0], .inv, none, [(0, 0)], []⟩] }
def workT2 : State := (T []).modHome fun u => { u with txns := [txn 1 4096 .rdS], snoops := [⟨1, 0, 4096, [0], .inv, none, [(0, 0)], []⟩] }
def cohMsg (id src out : Nat) (fc : FcClass) : Msg := { msg id src out fc with addr := 64 * 4096, coh := some ⟨.rdS, none, 0, 0⟩ }
def homeT (ts : List Txn) (sn : List Snoop) : State := (T upA).modHome fun u => { u with txns := ts, snoops := sn }
def snp : Snoop := ⟨1, 0, 4096, [0], .inv, some 3, [(0, 0)], []⟩
def gateChart (n perm : Nat) : Chart := chart0 ++ [(chartKey 11 0 (64 * n), [0, 0, 2 ^ 32 - 1, 2 ^ 14 - 1, 8, 0, 1 + 2 * perm])]
def apT (l : List (Fld × Nat)) : State := { T ((F.celBindVcs 0, 0) :: upA ++ l) with chart := gateChart gateLds 15 }
def cmdBytes (opc : Nat) : List Nat := [opc, 0, 9, 0] ++ List.replicate 60 0
def descBytes : List Nat := [0x41, 0, 9, 0, 1, 0, 0, 0] ++ List.replicate 8 0 ++ [0, 0, 8] ++ List.replicate 45 0
def lcmd (opc flags a b : Nat) : LCmd := ⟨0, 63, opc, flags, 9, 0, 7, a, b, 5, 10, 3, false⟩
def lodT (c : LCmd) (os : List (Nat × LObj)) (gs : List (Nat × Grp)) : State := (T []).modLod fun u => { u with pend := [c], objects := os, groups := gs }
def val0 : LObj := ⟨0, [0, 0, 0, 0, 0, 0, 0, 5], none, 0, 0, 0, 3, false⟩
def lock0 (h : Option Nat) : LObj := ⟨1, [0, 0, 0, 0, 0, 0, 0, 0], h, 0, 0, 0, 3, false⟩
def bar0 (n : Nat) : LObj := ⟨2, [0, 0, 0, 0, 0, 0, 0, 0], none, 0, n, 2 ^ 32 - 1, 3, false⟩
def grp0 (m : List Nat) : Grp := ⟨m, 5, none, [], false, 3, false⟩
def park0 (fr : Bool) (g : Option Nat) : Parked := ⟨lcmd 8 0 5 0, 0, 5, 0, g, fr⟩
def lodP (f : LodUnit → LodUnit) : State := (T []).modLod f
def frozenG : Grp := { grp0 [0] with since := some 0, freezing := true, frozen := [63] }
def job0 (run : Bool) (opc dst : Nat) : CopyJob := ⟨0, 1, 5, 0, 9, opc, false, 1, 0, dst, 3, run, 0, [], 0, none, false, false, false, 0, []⟩
def slip0 (p : Purpose) : Slip := ⟨4, p, 0, 0, 0, 0, 0, msec 1, false, [], [], []⟩
def cpyT (l : List (Fld × Nat)) (js : List CopyJob) : State := ({ T l with lvc := ⟨[(31, slip0 (.copyEngine 0))], none, []⟩ }).modCpy fun u => { u with jobs := js }
def laneT (l : List (Fld × Nat)) (r : LaneRec) : State := (seamT ([(F.lanModeActive 0, 1), (F.celLinkstatUp 0, 1), (F.celLinkstatUp 8, 1)] ++ l)).modLan fun u => { u with lanes := [(0, r)] }
def trial0 (run def0 : Bool) : LaneTrial := ⟨0, 1, 2, 0, 0, def0, run⟩
def step0 : LaneStep := ⟨0, 2, 0⟩
def fnlT (l : List (Fld × Nat)) (f : FnlLink) : State := (seamT ((F.celLinkstatUp 8, 1) :: l)).modLnk fun u => { u with fnl := [(8, f)] }
def suspT (n : Nat) : State := (fnlT [] newFnl).modLan fun u => { u with suspect := [(8, n)] }
def okCw : List (Fin 256) := zeros 264 ++ [16, 26, 107, 177, 211, 242, 244, 160, 126, 151, 73, 123, 26, 15, 222, 233, 99, 75, 16, 199, 255, 251, 35, 132]
def trT (l : List (Fld × Nat)) (f : FnlLink) : State := (T ([(F.fnlLinkstatState 8, 1), (F.celHotplugPresent 8, 1)] ++ l)).modLnk fun u => { u with fnl := [(8, f)] }
def lnkT (f : LinkUnit → LinkUnit) : State := (seamT upA).modLnk f
def svcT (l : List (Fld × Nat)) (c i : Nat) : State := (seamT l).setMode c i 3
def place0 : ErrPlace := .sram 0 0 4095 3 71 7 2
def scrub0 (g b : Bool) (tg n l : Nat) : ScrubJob := ⟨g, b, tg, n, l, [], 0⟩
def eccT (l : List (Fld × Nat)) (f : EccUnit → EccUnit) : State := ({ seamT l with lvc := ⟨[(0, slip0 (.scrub 0))], none, []⟩ }).modEcc f
def feedT (l : List (Fld × Nat)) : State := (T ([(F.pwrFeedctlEn 0, 1), (F.pwrFeedctlEn 1, 1)] ++ l)).setMode hubCol 15 3
def noFeed (l : List (Fld × Nat)) : State := T ([(F.pwrFeedstatOringOn 0, 0), (F.pwrFeedstatOringOn 1, 0)] ++ l)
def lvcT (l : List (Fld × Nat)) (x : List (Nat × Slip)) : State := { T l with lvc := ⟨x, none, []⟩ }
def deferT : State := (T [(F.lvcBudgetInputW, 45)]).modPwr fun u => { u with samples := [(0, 1)] }
def p2T (l : List (Fld × Nat)) (n : Nat) : State := ({ T l with chtu := { ChartUnit.reset with quiesced := true } }).modPwr fun u => { u with entry := n }
def saveT : State := (T [(F.rstStatPhase, 6)]).modPwr fun u => { u with saveStart := some 0 }
def wdT : State := T [(F.rstStatPhase, 3), (F.rstWdogEn, 1), (F.rstWdogTimeout, 7)]
def talT (l : List (Fld × Nat)) (f : TallyUnit → TallyUnit) : State := (T l).modTal f
def buf0 : TallyBuf := ⟨1, 0, false, [], [], []⟩
def mgtT (l : List (Fld × Nat)) (f : MgtUnit → MgtUnit) : State := (T ([(F.rstStatPhase, 6), (F.mgtEthcfgEn, 1)] ++ l)).modMgt f
def pkt (som eom : Bool) (ty : Fin 256) (n : Nat) : MctpPacket := ⟨som, eom, 15, ty, zeros n⟩
def keyG : List (Fin 256) := [4, 170, 135, 202, 34, 190, 139, 5, 55, 142, 177, 199, 30, 243, 32, 173, 116, 110, 29, 59, 98, 139, 167, 155, 152, 89, 247, 65, 224, 130, 84, 42, 56, 85, 2, 242, 93, 191, 85, 41, 108, 58, 84, 94, 56, 114, 118, 10, 183, 54, 23, 222, 74, 150, 38, 44, 111, 93, 158, 152, 191, 146, 146, 220, 41, 248, 244, 29, 189, 40, 154, 20, 124, 233, 218, 49, 19, 181, 240, 184, 192, 10, 96, 177, 206, 29, 126, 129, 157, 122, 67, 29, 124, 144, 234, 14, 95]
def digG : List Nat := [140, 79, 38, 36, 18, 183, 249, 237, 134, 118, 6, 112, 90, 19, 13, 229, 33, 47, 208, 72, 251, 175, 140, 56, 66, 244, 162, 64, 244, 180, 91, 160, 201, 15, 130, 25, 76, 205, 218, 62, 216, 156, 150, 176, 175, 225, 213, 29]
def nvT (l : List (Fld × Nat)) (f : NonVolatile → NonVolatile) : State := (mgtT l id).modNv f
def pilots (n : Nat) : List (Nat × List Nat) := (List.range n).map fun i => (i, [i])
def burnT (l : List (Fld × Nat)) (b : List BurnJob) : State := (T l).modMgt fun u => { u with burns := b }
def bgT (op : Nat) : State := { T [] with bgs := [⟨1, true, 0, .pilot 0, op, true, .backgroundStarted, 0, 0⟩] }
def mailT (m : Mailbox) : State := { (T upA).modMgt (fun u => { u with mail := [(0, m)] }) with chart := gateChart gateMgt 15 }
def mail0 (busy : Bool) (n : Nat) : Mailbox := ⟨busy, false, false, 0, n, 0, [], []⟩
def mailR (m : Mailbox) : State := ((mailT m).gateCheck gateMgt [9] 3 2 0).2
def nextOf : Host.Outcome State Fault Refusal → State
  | .next u => u
  | _ => State.reset

theorem witness_ReferenceEventsComplete :
    (∃ (s : State) (r : RefIn) (t : Nat), s.get F.hubRefstatSel = refNum r ∧ s.refGood (1 - refNum r) = true ∧ s.get F.hubRefctlForce = 0 ∧ s.clk.taken = true) ∧
    (∃ (s : State) (r : RefIn) (t : Nat), s.get F.hubRefstatSel = refNum r ∧ s.refGood (1 - refNum r) = false ∧ s.get F.hubRefctlForce = 0 ∧ s.clk.taken = true) ∧
    (∃ (s : State) (r : RefIn) (t : Nat), s.flag F.hubRefstatHoldover = true) ∧
    (∃ (s : State) (t : Nat), s.flag F.hubRefstatHoldover = true ∧ s.clk.holdStart + usec (10 * s.get F.hubRefctlHoldover) ≤ (s.at t).now) ∧
    (∃ (s : State) (t a : Nat), s.flag F.hubRefctlRevert = true ∧ s.get F.hubRefctlForce = 0 ∧ s.refGood (s.get F.hubRefctlPref) = true ∧ s.refSince (s.get F.hubRefctlPref) = some a ∧ a + msec (10 * s.get F.hubRefctlRevertHold) ≤ (s.at t).now) ∧
    (∃ (s : State) (r : RefIn) (t : Nat), s.clk.taken = false ∧ (s.get F.hubRefctlPref = refNum r ∨ s.clk.psGood + msec 2 ≤ (s.at t).now)) ∧
    (∃ (s : State) (t : Nat), s.clk.taken = false ∧ s.clk.psGood + msec 20 ≤ (s.at t).now ∧ s.refGood 0 = false ∧ s.refGood 1 = false) ∧
    (∃ (s : State) (spread modfreq : Fin 1024), s.clk.taken = true ∧ 550 < spread.val) ∧
    (∃ (s : State) (spread modfreq : Fin 1024), s.clk.taken = true ∧ spread.val ≤ 550) ∧
    (∃ (s : State) (t : Nat), s.clk.taken = true ∧ s.flag F.hubRefstatRootLock = false ∧ s.ready = false) :=
  ⟨⟨gg.modClk (fun u => { u with taken := true }), .a, 5, by decide +kernel⟩,
   ⟨{ T [(F.hubRefstatAGood, 1)] with clk := ⟨none, none, 0, true, 0, 0, 0, 0, none⟩ }, .a, 5, by decide +kernel⟩,
   ⟨T [(F.hubRefstatHoldover, 1)], .b, 5, by decide +kernel⟩,
   ⟨T [(F.hubRefstatHoldover, 1), (F.hubRefctlHoldover, 1)], usec 10, by decide +kernel⟩,
   ⟨{ T [(F.hubRefctlRevert, 1), (F.hubRefstatAGood, 1), (F.hubRefstatSel, 1), (F.hubRefctlRevertHold, 2)] with clk := ⟨some 3, none, 0, true, 0, 0, 0, 0, none⟩ }, 3 + msec 20, 3, by decide +kernel⟩,
   ⟨regs [], .b, msec 2, by decide +kernel⟩,
   ⟨regs [], msec 20, by decide +kernel⟩,
   ⟨{ T [] with clk := ⟨none, none, 0, true, 0, 0, 0, 0, none⟩ }, 551, 33, by decide +kernel⟩,
   ⟨{ T [] with clk := ⟨none, none, 0, true, 0, 0, 0, 0, none⟩ }, 550, 33, by decide +kernel⟩,
   ⟨{ regs [] with clk := ⟨some 0, none, 0, true, 0, 0, 0, 0, none⟩ }, 7, by decide +kernel⟩⟩

theorem witness_OnlyTheHelmForces :
    (∃ (s : State) (src : Sess) (p : Principal) (f : Fin 4), s.serves src p ∧ p.isHelm = false) ∧
    (∃ (s : State) (src : Sess) (p : Principal) (w : Fin (2 ^ 32)) (f : FieldDesc), s.serves src p ∧ p.isHelm = false ∧ f ∈ (match wordAt 0x100010 with | some x => x.fields | none => []) ∧ s.touches 0x100010 w.val f = true) ∧
    (∃ (s : State) (src : Sess) (p : Principal) (f : Fin 4), s.serves src p ∧ p.isHelm = true ∧ f.val ≠ 0 ∧ f.val ≠ 3 ∧ s.refGood (f.val - 1) = true) :=
  ⟨⟨T [], pilot, .pilot 0, 1, by decide +kernel⟩,
   ⟨T [], pilot, .pilot 0, 1, ((wordAt 0x100010).map (·.fields)).getD [] |>.getD 0 ⟨⟨0,0,0,0⟩, .ro, 0, none⟩, by decide +kernel⟩,
   ⟨gg, helm, .helm, 2, by decide +kernel⟩⟩

theorem witness_ChartCommandsBegin :
    (∃ (s : State) (src : Sess) (p : Principal), s.serves src p ∧ p.isPilot = true ∧ s.safeOn = false ∧ s.chartBusy = false ∧ s.bnd.work = none ∧ s.bnd.waits = []) ∧
    (∃ (s : State) (src : Sess) (p : Principal), s.serves src p ∧ p.isPilot = true ∧ s.safeOn = false ∧ s.chartBusy = false ∧ (s.bnd.work.isSome = true ∨ s.bnd.waits ≠ [])) ∧
    (∃ (s : State) (src : Sess) (p : Principal), s.serves src p ∧ p.isPilot = true ∧ s.safeOn = false ∧ s.get F.chtStatusState = 6) ∧
    (∃ (s : State) (src : Sess) (p : Principal) (o : ChartOp), s.serves src p ∧ p.isPilot = true ∧ s.chtu.op = some o ∧ o.kind ≠ .quiesce ∧ s.get F.chtStatusState ≤ 3 ∧ s.bnd.waits = []) ∧
    (∃ (s : State) (src : Sess) (p : Principal), s.serves src p ∧ p.isPilot = true ∧ s.chtu.op = none ∧ s.chartBusy = false) ∧
    (∃ (s : State) (src : Sess) (p : Principal) (c : Instr), s.serves src p ∧ p.isPilot = true ∧ (c = .chartLoad src ∨ c = .chartAmend src ∨ c = .chartRebase src ∨ c = .chartQuiesce src) ∧ s.safeOn = true) ∧
    (∃ (s : State) (src : Sess) (p : Principal) (c : Instr), s.serves src p ∧ p.isPilot = true ∧ (c = .chartLoad src ∨ c = .chartAmend src ∨ c = .chartRebase src ∨ c = .chartQuiesce src) ∧ s.safeOn = false ∧ s.chartBusy = true) :=
  ⟨⟨T [], pilot, .pilot 0, by decide +kernel⟩,
   ⟨{ T [] with bnd := ⟨some ⟨true, 68, 0, 1, 1, 0x5201, 0, 0, false⟩, [], [], [], [], [], [], [], [], [], [], [], [], []⟩ }, pilot, .pilot 0, by decide +kernel⟩,
   ⟨T [(F.chtStatusState, 6)], pilot, .pilot 0, by decide +kernel⟩,
   ⟨op2 .load 3, pilot, .pilot 0, op1 .load, by decide +kernel⟩,
   ⟨T [], pilot, .pilot 0, by decide +kernel⟩,
   ⟨T [(F.fltSafeState, 2)], pilot, .pilot 0, .chartAmend pilot, by decide +kernel⟩,
   ⟨T [(F.chtStatusState, 5)], pilot, .pilot 0, .chartQuiesce pilot, by decide +kernel⟩⟩

theorem witness_ChartStepsComplete :
    (∃ (s : State) (t : Nat), s.get F.chtStatusState = 5 ∧ (s.at t).drained = true ∧ s.chtu.op.isSome = true ∧ s.pwr.entry = 0) ∧
    (∃ (s : State) (t : Nat), s.get F.chtStatusState = 5 ∧ s.chtu.quiesceStart + msec (s.get F.chtCtrlQuiesceWait) ≤ (s.at t).now) ∧
    (∃ (s : State) (t : Nat) (o : ChartOp) (b : Nat × Nat × Nat), s.chtu.op = some o ∧ o.kind ≠ .quiesce ∧ s.get F.chtStatusState = 1 ∧ parseImage (fun n => SMap.getD s.chtu.buf n 0) o.kind.number = .error b) ∧
    (∃ (s : State) (t : Nat) (o : ChartOp), s.chtu.op = some o ∧ s.get F.chtStatusState = 2 ∧ o.waitFrom + msec (10 * s.get F.chtCtrlLeaveWait) ≤ (s.at t).now) ∧
    (∃ (s : State) (t : Nat) (o : ChartOp), s.chtu.op = some o ∧ s.get F.chtStatusState = 3 ∧ s.home.failover = none ∧ o.kind = .load) ∧
    (∃ (s : State) (t : Nat) (o : ChartOp), s.chtu.op = some o ∧ s.get F.chtStatusState = 3 ∧ s.home.failover = none ∧ o.kind = .rebase) ∧
    (∃ (s : State) (t : Nat) (o : ChartOp), s.chtu.op = some o ∧ s.get F.chtStatusState = 3 ∧ s.home.failover = none ∧ o.kind = .amend) ∧
    (∃ (s : State) (t : Nat) (o : ChartOp), s.chtu.op = some o ∧ s.get F.chtStatusState = 4) ∧
    (∃ (s : State) (src : Sess) (p : Principal) (word : Fin (2 ^ 23)) (w : Fin (2 ^ 32)), s.serves src p ∧ p.isPilot = true ∧ s.chartBusy = false) ∧
    (∃ (s : State) (src : Sess) (p : Principal), s.serves src p ∧ p.isOwner = true) ∧
    (∃ (s : State) (t : Nat), s.get F.rstStatPhase = 4) :=
  ⟨⟨op2 .quiesce 5, 9, by decide +kernel⟩,
   ⟨op2 .quiesce 5, msec 1000, by decide +kernel⟩,
   ⟨op2 .load 1, 9, op1 .load, match parseImage (fun n => SMap.getD ([] : SMap Nat) n 0) 1 with | Except.error b => b | Except.ok _ => (0, 0, 0), by decide +kernel⟩,
   ⟨{ op2 .amend 2 with pwr := PowerUnit.reset }, msec 10000, op1 .amend, by decide +kernel⟩,
   ⟨op2 .load 3, 9, op1 .load, by decide +kernel⟩,
   ⟨op2 .rebase 3, 9, op1 .rebase, by decide +kernel⟩,
   ⟨op2 .amend 3, 9, op1 .amend, by decide +kernel⟩,
   ⟨op2 .amend 4, 9, op1 .amend, by decide +kernel⟩,
   ⟨T [(F.chtStatusState, 6)], pilot, .pilot 0, 8388607, 0xFFFFFFFF, by decide +kernel⟩,
   ⟨T [], helm, .helm, by decide +kernel⟩,
   ⟨T [(F.rstStatPhase, 4)], 9, by decide +kernel⟩⟩

theorem witness_AbortActsBeforeTheCommit :
    (∃ (s : State) (src : Sess) (p : Principal) (o : ChartOp), s.serves src p ∧ p.isPilot = true ∧ s.chtu.op = some o ∧ o.kind ≠ .quiesce ∧ s.get F.chtStatusState ≤ 3) ∧
    (∃ (s : State) (src : Sess) (p : Principal) (o : ChartOp), s.serves src p ∧ p.isPilot = true ∧ s.chtu.op = some o ∧ o.kind ≠ .quiesce ∧ s.get F.chtStatusState = 4) :=
  ⟨⟨op2 .rebase 3, pilot, .pilot 0, op1 .rebase, by decide +kernel⟩,
   ⟨op2 .load 4, pilot, .pilot 0, op1 .load, by decide +kernel⟩⟩

theorem witness_RevocationLeavesTheChart :
    ∃ (s : State) (src : Sess) (slot : Nat) (live : Bool) (rest : List BurnJob) (t : Nat), slot < 4 ∧ s.mgt.burns = ⟨sessNum src, live, .keyRevoke slot⟩ :: rest ∧ s.mayRevoke slot = true :=
  ⟨{ T [(F.chtKeyslotProgrammed, 12)] with mgt := ⟨[⟨0, true, .keyRevoke 3⟩], [], [], 0, 0, [], []⟩ }, helm, 3, true, [], 7, by decide +kernel⟩

theorem witness_PilotQueriesAnswer :
    (∃ (s : State) (src : Sess) (who : Principal) (port : Fin 256), s.serves src who ∧ who.isPilot = true ∧ s.chart.dirCell port.val = none) ∧
    (∃ (s : State) (src : Sess) (who : Principal) (port : Fin 256) (p : Nat) (q : FmRequest) (d : List (Fin 256)) (ld : Fin 65536), s.serves src who ∧ who.isPilot = true ∧ s.chart.dirCell port.val = some p ∧ s.chart.isDsp p = true ∧ s.flag (F.celLinkstatUp p) = true ∧ s.flag (F.celBindMld p) = true ∧ (ld.val = 0xFFFF ∨ ld.val < s.get (F.celBindLdCount p))) ∧
    (∃ (s : State) (src : Sess) (who : Principal) (v i : Fin 256) (err : Fin (2 ^ 32)), s.serves src who ∧ who.isPilot = true ∧ (s.vppbPoint v.val i.val).isSome = true) :=
  ⟨⟨T [], pilot, .pilot 0, 255, by decide +kernel⟩,
   ⟨T [(F.celLinkstatUp 4, 1), (F.celBindMld 4, 1), (F.celBindLdCount 4, 2)], pilot, .pilot 0, 5, 4, ⟨true, 7, [1, 2]⟩, [3], 1, by decide +kernel⟩,
   ⟨T [(F.celBindBound 4, 1), (F.celBindVppb 4, 1)], pilot, .pilot 0, 0, 1, 9, by decide +kernel⟩⟩

theorem witness_BindAndUnbind :
    (∃ (s : State) (src : Sess) (who : Principal) (v i port : Fin 256) (p : Nat) (ld : Fin 65536) (pt : Nat), s.serves src who ∧ who.isPilot = true ∧ s.safeOn = false ∧ s.bgBusy (sessNum src) = false ∧ s.bnd.work = none ∧ s.bnd.waits = [] ∧ s.chartBusy = false ∧ s.chart.dirCell port.val = some p ∧ s.bindPoint v.val i.val p ld.val = some pt) ∧
    (∃ (s : State) (src : Sess) (who : Principal) (v i : Fin 256) (p : Fin 1024) (ld : Fin 65536) (pt : Nat), s.serves src who ∧ who.isPilot = true ∧ s.safeOn = false ∧ s.bgBusy (sessNum src) = false ∧ s.bnd.work = none ∧ s.bnd.waits = [] ∧ s.chartBusy = false ∧ s.bindPoint v.val i.val p.val ld.val = some pt) ∧
    (∃ (s : State) (src : Sess) (who : Principal) (v i : Fin 256) (pt : Nat), s.serves src who ∧ who.isPilot = true ∧ s.safeOn = false ∧ s.bgBusy (sessNum src) = false ∧ s.bnd.work = none ∧ s.bnd.waits = [] ∧ s.chartBusy = false ∧ s.vppbPoint v.val i.val = some pt) ∧
    (∃ (s : State) (src : Sess) (who : Principal) (p : Fin 1024) (ld : Fin 65536) (pt : Nat), s.serves src who ∧ who.isPilot = true ∧ s.safeOn = false ∧ s.bgBusy (sessNum src) = false ∧ s.bnd.work = none ∧ s.bnd.waits = [] ∧ s.chartBusy = false ∧ s.namedPoint p.val ld.val = some pt) ∧
    (∃ (s : State) (p : Fin 1024) (ld : Fin 17) (t : Nat) (w : BindWork), (s.at t).canAdvance (17 * p.val + ld.val) = true ∧ s.flag (stallFld (17 * p.val + ld.val)) = false ∧ s.bnd.work = some w ∧ w.point = 17 * p.val + ld.val ∧ w.waiting = false) ∧
    (∃ (s : State) (p : Fin 1024) (ld : Fin 17) (t : Nat), (s.at t).canAdvance (17 * p.val + ld.val) = true ∧ s.flag (stallFld (17 * p.val + ld.val)) = true ∧ SMap.getD s.bnd.owed (17 * p.val + ld.val) 0 = 0) ∧
    (∃ (s : State) (p : Fin 1024) (ld : Fin 17) (t : Nat), (s.at t).canAdvance (17 * p.val + ld.val) = true ∧ s.flag (stallFld (17 * p.val + ld.val)) = true ∧ SMap.getD s.bnd.owed (17 * p.val + ld.val) 0 = 1) ∧
    (∃ (s : State) (t : Nat) (w : BindWork), s.bnd.work = some w ∧ w.waiting = false ∧ (s.at t).canAdvance w.point = false ∧ w.since + msec (s.get (F.celTackctlSlotWait (pointLead w.point))) ≤ (s.at t).now) ∧
    (∃ (s : State) (t : Nat) (w : BindWork), s.bnd.work = some w ∧ w.waiting = true ∧ w.option = 0 ∧ s.flag (F.celLinkstatUp (pointLead w.point)) = false) ∧
    (∃ (s : State) (t : Nat) (w : BindWork), s.bnd.work = some w ∧ w.waiting = true ∧ w.since + sec (s.get F.hubBindctlUnbindWait) ≤ (s.at t).now) ∧
    (∃ (s : State) (src : Sess) (who : Principal) (v i port : Fin 256) (ld : Fin 65536), s.serves src who ∧ who.isPilot = true ∧ s.safeOn = true) ∧
    (∃ (s : State) (src : Sess) (who : Principal) (v i port : Fin 256) (ld : Fin 65536), s.serves src who ∧ who.isPilot = true ∧ s.safeOn = false ∧ s.bgBusy (sessNum src) = false ∧ (s.bnd.work.isSome = true ∨ s.bnd.waits ≠ [] ∨ s.chartBusy = true)) :=
  ⟨⟨T [], pilot, .pilot 0, 0, 1, 5, 4, 0xFFFF, 68, by decide +kernel⟩,
   ⟨T [(F.celBindMld 4, 1), (F.celBindLdCount 4, 2)], pilot, .pilot 0, 0, 1, 4, 1, 70, by decide +kernel⟩,
   ⟨T [(F.celBindBound 4, 1), (F.celBindVppb 4, 1)], pilot, .pilot 0, 0, 1, 68, by decide +kernel⟩,
   ⟨T [(F.celBindBound 4, 1), (F.celBindVppb 4, 1)], pilot, .pilot 0, 4, 0xFFFF, 68, by decide +kernel⟩,
   ⟨{ T [] with bnd := ⟨some ⟨true, 68, 0, 1, 1, 0x5201, 0, 0, false⟩, [], [], [], [], [], [], [], [], [], [], [], [], []⟩ }, 4, 0, 9, ⟨true, 68, 0, 1, 1, 0x5201, 0, 0, false⟩, by decide +kernel⟩,
   ⟨T [(F.celTackstatStall 4, 1)], 4, 0, 9, by decide +kernel⟩,
   ⟨(T [(F.celTackstatStall 4, 1)]).modBnd (fun u => { u with owed := [(68, 1)] }), 4, 0, 9, by decide +kernel⟩,
   ⟨{ T [(F.celTackstatDraining 4, 3)] with bnd := ⟨some ⟨true, 68, 0, 1, 1, 0x5201, 0, 0, false⟩, [], [], [], [], [], [], [], [], [], [], [], [], []⟩ }, sec 10, ⟨true, 68, 0, 1, 1, 0x5201, 0, 0, false⟩, by decide +kernel⟩,
   ⟨{ T [] with bnd := ⟨some ⟨false, 68, 0, 1, 1, 0x5202, 0, 0, true⟩, [], [], [], [], [], [], [], [], [], [], [], [], []⟩ }, 9, ⟨false, 68, 0, 1, 1, 0x5202, 0, 0, true⟩, by decide +kernel⟩,
   ⟨{ T [(F.hubBindctlUnbindWait, 3)] with bnd := ⟨some ⟨false, 68, 0, 1, 1, 0x5202, 0, 0, true⟩, [], [], [], [], [], [], [], [], [], [], [], [], []⟩ }, sec 3, ⟨false, 68, 0, 1, 1, 0x5202, 0, 0, true⟩, by decide +kernel⟩,
   ⟨T [(F.fltSafeState, 1)], pilot, .pilot 0, 0, 1, 5, 0xFFFF, by decide +kernel⟩,
   ⟨T [(F.chtStatusState, 1)], pilot, .pilot 0, 0, 1, 5, 0xFFFF, by decide +kernel⟩⟩

theorem witness_PortEventsComplete :
    (∃ (s : State) (p : Fin 1024) (a : CxlTraining) (t w r f : Nat) (e : Bool), (s.at t).mayTrain p.val = true ∧ s.chart.isUsp p.val = true ∧ s.flag (F.celLinkstatUp p.val) = false ∧ s.chart.trainWidth p.val a.good.val = some (w, e) ∧ s.chart.trainRate p.val a.rates.val a.flits.val a.cxl = some (r, f) ∧ SMap.find? s.lnk.graceAt p.val = none ∧ s.chart.isDsp p.val = false) ∧
    (∃ (s : State) (p : Fin 1024) (t : Nat), (s.at t).mayTrain p.val = true ∧ s.chart.isDsp p.val = true ∧ s.flag (F.celLinkstatUp p.val) = false) ∧
    (∃ (s : State) (p : Fin 1024) (t : Nat), s.flag (F.celLinkstatUp p.val) = true ∧ s.chart.isFnl p.val = false) ∧
    (∃ (s : State) (p : Fin 1024) (i : Fin 4096), s.chart.isFnl p.val = true ∧ s.flag (F.celLinkstatUp p.val) = true ∧ s.flag (F.celLinkstatPeerModule p.val) = true ∧ s.chart.pbrValid i.val = true ∧ s.chart.pbrLocal i.val = true) ∧
    (∃ (s : State) (p : Fin 1024) (ld : Fin 17) (tack : Fin 256) (t since : Nat), (tack.val, since) ∈ (s.at t).drainTimes (17 * p.val + ld.val) ∧ since + msec 1 ≤ (s.at t).now ∧ (s.at t).outstanding (17 * p.val + ld.val) tack.val = 0) ∧
    (∃ (s : State) (v : Fin 64) (i : Fin 256) (on : Bool), s.bnd.work = none) ∧
    (∃ (s : State) (v : Fin 64) (i : Fin 256) (on : Bool), s.vppbPoint v.val i.val = none) ∧
    (∃ (s : State) (q : Fin 256) (seated : Bool) (t : Nat), s.flag F.rstPadrelHeld = false ∧ s.ready = true) ∧
    (∃ (s u : State) (q : Fin 256) (low : Bool), s.chart.isUsp (s.chart.lead (4 * q.val)) = true ∧ u = (s.modBnd fun b => { b with lows := setIn b.lows q.val low }) ∧ s.flag (F.celHotplugPerstIn (s.chart.lead (4 * q.val))) = false ∧ u.perstLow (s.chart.lead (4 * q.val)) = true) ∧
    (∃ (s u : State) (q : Fin 256) (low : Bool), s.chart.isUsp (s.chart.lead (4 * q.val)) = true ∧ u = (s.modBnd fun b => { b with lows := setIn b.lows q.val low }) ∧ s.flag (F.celHotplugPerstIn (s.chart.lead (4 * q.val))) = true ∧ u.perstLow (s.chart.lead (4 * q.val)) = false) ∧
    (∃ (s u : State) (q : Fin 256) (low : Bool), s.chart.isUsp (s.chart.lead (4 * q.val)) = true ∧ u = (s.modBnd fun b => { b with lows := setIn b.lows q.val low }) ∧ s.flag (F.celHotplugPerstIn (s.chart.lead (4 * q.val))) = u.perstLow (s.chart.lead (4 * q.val))) :=
  ⟨⟨T [(F.celHotplugPresent 0, 1)], 0, ⟨3, 0x3F, 7, true, 0⟩, 9, 2, 5, 3, false, by decide +kernel⟩,
   ⟨T [(F.celHotplugPresent 4, 1)], 4, 9, by decide +kernel⟩,
   ⟨T [(F.celLinkstatUp 4, 1)], 4, 9, by decide +kernel⟩,
   ⟨T [(F.celLinkstatUp 8, 1), (F.celLinkstatPeerModule 8, 1)], 8, 9, by decide +kernel⟩,
   ⟨{ T [(F.celTackstatDraining 4, 1), (F.celTackDrain1 4, 255)] with bnd := ⟨none, [(68, [0])], [], [], [], [], [], [], [], [], [], [], [], []⟩ }, 4, 0, 255, msec 1, 0, by decide +kernel⟩,
   ⟨T [], 0, 1, false, by decide +kernel⟩,
   ⟨T [], 63, 255, true, by decide +kernel⟩,
   ⟨T [], 255, true, 9, by decide +kernel⟩,
   ⟨T [(F.celLinkstatUp 0, 1)], (T [(F.celLinkstatUp 0, 1)]).modBnd (fun b => { b with lows := setIn b.lows 0 true }), 0, true, by decide +kernel⟩,
   ⟨(T [(F.celHotplugPerstIn 0, 1)]).modBnd (fun b => { b with lows := [0] }), ((T [(F.celHotplugPerstIn 0, 1)]).modBnd (fun b => { b with lows := [0] })).modBnd (fun b => { b with lows := setIn b.lows 0 false }), 0, false, by decide +kernel⟩,
   ⟨T [], (T []).modBnd (fun b => { b with lows := setIn b.lows 0 false }), 0, false, by decide +kernel⟩⟩

theorem witness_SwitchCoreComplete :
    (∃ (s : State) (p : Fin 1024) (m : MsgHeader) (t k : Nat) (r : Nat × Nat × State), (s.at t).takesIn p.val = true ∧ m.mark ≠ .l1Request ∧ (s.at t).malformed p.val m = false ∧ isResponse m.kind = false ∧ (s.at t).ownRequest p.val m = none ∧ m.port = none ∧ m.coh = none ∧ (s.at t).safeOn = false ∧ (s.at t).ingressBerth p.val (m.ld.map (·.val)) m.hberth.val = some k ∧ (s.at t).chart.inAperture m.addr.val = false ∧ r = (s.at t).ingressClass p.val k m.kind m.fc m.addr.val m.hclass.val m.hcolour.val m.bytes.val) ∧
    (∃ (s : State) (m : Msg), s.partFits m m.fc = true ∧ s.partFits m .data = true) ∧
    (∃ (s : State) (p : Fin 1024) (fc : FcClass) (g : Fin 8) (t : Nat) (s1 : State), (s.at t).admissionTurn p.val fc g.val = (none, s1)) ∧
    (∃ (s : State) (p : Fin 1024) (fc : FcClass) (g : Fin 8) (t : Nat) (s1 : State) (q : Nat × FcClass) (m : Msg) (tb ta n : Nat), (s.at t).admissionTurn p.val fc g.val = (some q, s1) ∧ s1.stagingHead q.1 q.2 g.val = some m ∧ s1.safeOn = false ∧ q.1 / 128 = g.val ∧ s1.flag (F.fnlLinkstatFlushed m.out) = false ∧ s1.creditedFirst.decideAdmission m = some (tb, ta, n)) ∧
    (∃ (s : State) (m : Msg) (tb ta n : Nat), m ∈ s.core.staged ∧ m.granted = false) ∧
    (∃ (s : State) (o : Fin 1024) (t c : Nat) (d : Dwrr) (m : Msg), s.flag (F.celLinkstatUp o.val) = true ∧ SMap.find? s.core.sending o.val = none ∧ (s.at t).quietNow o.val = false ∧ (s.at t).nextClass o.val = some (c, d) ∧ ((s.at t).pickQueue o.val c).2.bind ((s.at t).queueHead o.val c) = some m ∧ (s.at t).deliverable m = true ∧ (s.at t).hasCredits o.val m = true) ∧
    (∃ (s : State) (o : Fin 1024) (t : Nat) (m : Msg), (s.at t).openMsg o.val = some m ∧ m.filled = false ∧ m.sent < m.inBolt ∧ (s.at t).cwRoom o.val = true ∧ (s.at t).quietNow o.val = false ∧ m.sent + 1 = m.segs ∧ m.direct = true) ∧
    (∃ (s : State) (o : Fin 1024) (t : Nat) (m : Msg), (s.at t).openMsg o.val = some m ∧ m.filled = false ∧ m.sent < m.inBolt ∧ (s.at t).cwRoom o.val = true ∧ (s.at t).quietNow o.val = false ∧ m.sent + 1 = m.segs ∧ m.direct = false) ∧
    (∃ (s : State) (o : Fin 1024) (slots t : Nat) (m : Msg), (s.at t).openMsg o.val = some m ∧ m.cut = true ∧ m.filled = false ∧ m.inBolt ≤ m.sent ∧ SMap.find? (s.at t).core.gaps o.val = none ∧ s.chart.isFnl o.val = false) ∧
    (∃ (s : State) (o : Fin 1024) (t since : Nat) (m : Msg), (s.at t).openMsg o.val = some m ∧ SMap.find? (s.at t).core.gaps o.val = some since ∧ since + usec ((s.at t).get (F.rgnCtctlStallMax (o.val / 128))) ≤ (s.at t).now ∧ m.inBolt ≤ m.sent ∧ (s.at t).arrivesNow m = false) ∧
    (∃ (s : State) (g : Fin 8) (p : Fin 1024) (cls : Fin 8) (t until_ : Nat), SMap.find? s.core.demoted (8192 * g.val + 8 * p.val + cls.val) = some until_ ∧ until_ ≤ (s.at t).now) :=
  ⟨⟨T upA, 0, hdr 1 4 .memRead .m2sReq, 9, 3, ((T upA).at 9).ingressClass 0 3 .memRead .m2sReq 0 0 0 64, by decide +kernel⟩,
   ⟨T [], msg 1 8 4 .req, by decide +kernel⟩,
   ⟨T1 upA (fun u => { u with staged := [msg 1 0 4 .m2sReq] }), 0, .m2sReq, 1, 9, (((T1 upA (fun u => { u with staged := [msg 1 0 4 .m2sReq] })).at 9).admissionTurn 0 .m2sReq 1).2, by decide +kernel⟩,
   ⟨T1 upA (fun u => { u with staged := [msg 1 0 4 .m2sReq] }), 0, .m2sReq, 0, 9, (((T1 upA (fun u => { u with staged := [msg 1 0 4 .m2sReq] })).at 9).admissionTurn 0 .m2sReq 0).2, (0, .m2sReq), msg 1 0 4 .m2sReq, 0, 0, 1, by decide +kernel⟩,
   ⟨T1 upA (fun u => { u with staged := [msg 1 0 4 .m2sReq] }), msg 1 0 4 .m2sReq, 0, 0, 1, by decide +kernel⟩,
   ⟨T1 upA (fun u => { u with bolt := [bolted (msg 1 0 4 .m2sReq)] }), 4, 9, 0, ⟨0, true, [(0, 2075307)]⟩, bolted (msg 1 0 4 .m2sReq), by decide +kernel⟩,
   ⟨T1 upA (fun u => { u with bolt := [{ bolted (msg 1 5 4 .m2sReq) with cut := true }], sending := [(4, 1)] }), 4, 9, { bolted (msg 1 5 4 .m2sReq) with cut := true }, by decide +kernel⟩,
   ⟨T1 upA (fun u => { u with bolt := [bolted (msg 1 0 4 .m2sReq)], sending := [(4, 1)] }), 4, 9, bolted (msg 1 0 4 .m2sReq), by decide +kernel⟩,
   ⟨T1 upA (fun u => { u with bolt := [{ bolted (msg 1 0 4 .m2sReq) with cut := true, inBolt := 0 }], sending := [(4, 1)] }), 4, 2, 9, { bolted (msg 1 0 4 .m2sReq) with cut := true, inBolt := 0 }, by decide +kernel⟩,
   ⟨T1 upA (fun u => { u with bolt := [{ bolted (msg 1 0 4 .m2sReq) with cut := true, inBolt := 0 }], sending := [(4, 1)], gaps := [(4, 0)] }), 4, usec 10, 0, { bolted (msg 1 0 4 .m2sReq) with cut := true, inBolt := 0 }, by decide +kernel⟩,
   ⟨T1 upA (fun u => { u with demoted := [(65535, 9)] }), 7, 1023, 7, 9, 9, by decide +kernel⟩⟩

theorem witness_UnboundRequestsTurnedAway :
    ∃ (s : State) (p : Fin 1024) (m : MsgHeader) (t : Nat), (s.at t).takesIn p.val = true ∧ isResponse m.kind = false ∧ m.kind ≠ .management ∧ m.mark ≠ .l1Request ∧ (s.at t).malformed p.val m = false ∧ m.cfg = none ∧ m.port = none ∧ m.coh = none ∧ s.safeOn = false ∧ s.chart.isUsp p.val = true ∧ s.chart.isFnl p.val = false ∧ s.chart.vsOf p.val = none :=
  ⟨{ T [(F.celLinkstatUp 16, 1)] with chart := [(chartKey 3 0 16, [0x755000])] }, 16, { hdr 1 4 .ioNonPosted .ioNonPosted with access := 0 }, 9, by decide +kernel⟩

theorem witness_SchedulingComplete :
    (∃ (s : State) (o : Fin 1024) (j : Fin 16) (t n : Nat), (s.shaperOf o.val j.val).slot = some n ∧ n ≤ (s.at t).now / 10000) ∧
    (∃ (s : State) (g : Fin 8) (t : Nat), s.flag F.talStatFrozen = false ∧ s.flag (F.rgnQhistctlClearing g.val) = false ∧ (s.at t).copyingBins g.val = false) ∧
    (∃ (s : State) (src : Sess) (who : Principal) (g : Fin 8), s.serves src who ∧ who.isPilot = true ∧ s.reach (0x1000000 + 0x100000 * g.val + 0x130) = true) ∧
    (∃ (s : State) (src : Sess) (who : Principal) (g : Fin 8), s.serves src who ∧ who.isPilot = true ∧ s.reach (F.rgnCtstatDemoted g.val).addr = true) ∧
    (∃ (s : State) (src : Sess) (who : Principal) (n : Fin 128) (c : Fin 8), s.serves src who ∧ who.isPilot = true ∧ s.reach (F.blkStgholdPeak n.val c.val).addr = true) ∧
    (∃ (s : State) (src : Sess) (who : Principal) (p : Fin 1024), s.serves src who ∧ who.isPilot = true ∧ s.reach (F.celTackctlSlotWait p.val).addr = true) ∧
    (∃ (s : State) (g : Fin 8) (t : Nat), s.flag (F.rgnQhistctlClearing g.val) = true ∧ (s.at t).copyingBins g.val = false) :=
  ⟨⟨T1 [] (fun u => { u with shapers := [(16 * 4 + 15, ⟨5, 0, some 3⟩)] }), 4, 15, 30000, 3, by decide +kernel⟩,
   ⟨T [], 7, 9, by decide +kernel⟩,
   ⟨T [(F.seamStatStateA 0, 2), (F.hubXbarstatMode, 1)], pilot, .pilot 0, 0, by decide +kernel⟩,
   ⟨T [(F.seamStatStateA 0, 2), (F.hubXbarstatMode, 1)], pilot, .pilot 0, 0, by decide +kernel⟩,
   ⟨T [(F.seamStatStateA 0, 2), (F.hubXbarstatMode, 1)], pilot, .pilot 0, 0, 7, by decide +kernel⟩,
   ⟨T [(F.seamStatStateA 0, 2), (F.hubXbarstatMode, 1)], pilot, .pilot 0, 8, by decide +kernel⟩,
   ⟨T [(F.rgnQhistctlClearing 7, 1)], 7, 9, by decide +kernel⟩⟩

theorem witness_SeamsComplete :
    (∃ (s : State) (o : Fin 1024) (id : Nat) (idx : Fin 64) (pl : Plane) (h : Fin 40) (data t : Nat) (sp0 sp1 : Fin 256) (m : Msg), s.crossing o.val id (planeNum pl) = some m ∧ s.planeOf m idx.val = planeNum pl ∧ s.parityHolds (o.val / 128) (80 + 40 * planeNum pl + h.val) data sp0.val sp1.val = true) ∧
    (∃ (s : State) (o : Fin 1024) (id : Nat) (idx : Fin 64) (pl : Plane) (h : Fin 40) (data t : Nat) (sp0 sp1 : Fin 256) (m : Msg), s.crossing o.val id (planeNum pl) = some m ∧ s.planeOf m idx.val ≠ planeNum pl) ∧
    (∃ (s : State) (o : Fin 1024) (id : Nat) (idx : Fin 64) (pl : Plane) (h : Fin 40) (data t : Nat) (sp0 sp1 : Fin 256) (m : Msg) (b : BadSlot), s.crossing o.val id (planeNum pl) = some m ∧ (s.seam.bad.find? fun b => b.seg == ⟨o.val, id, idx.val⟩) = some b ∧ s.parityHolds (o.val / 128) (80 + 40 * planeNum pl + h.val) data sp0.val sp1.val = true) ∧
    (∃ (s : State) (src : Sess) (who : Principal) (g : Fin 8) (pl : Plane), s.serves src who ∧ who.isHelm = true ∧ s.reach (F.seamErrResends g.val).addr = true ∧ s.get (seamState g.val (planeNum pl)) = 2 ∧ s.get (seamState g.val (1 - planeNum pl)) = 2 ∧ s.seam.waiting = []) ∧
    (∃ (s : State) (g : Fin 8) (pl : Plane) (t : Nat), s.get (seamState g.val (planeNum pl)) = 1 ∧ s.seam.waiting = []) ∧
    (∃ (s : State) (pl : Plane) (t : Nat), s.get F.hubXbarstatMode = 3 ∧ s.flt.reactions = [(hubCol, 8 + planeNum pl)]) ∧
    (∃ (s : State) (g : Fin 8) (t : Nat), s.flag (F.seamStatRegenLock g.val) = false) :=
  ⟨⟨seamT [], 4, 1, 1, .b, 39, 0, 9, 0, 0, msg 1 128 4 .m2sReq, by decide +kernel⟩,
   ⟨seamT [], 4, 1, 0, .b, 39, 0, 9, 0, 0, msg 1 128 4 .m2sReq, by decide +kernel⟩,
   ⟨(seamT []).modSeam (fun u => { u with bad := [⟨⟨4, 1, 0⟩, 1, 80, 1⟩] }), 4, 1, 0, .b, 39, 0, 9, 0, 0, msg 1 128 4 .m2sReq, ⟨⟨4, 1, 0⟩, 1, 80, 1⟩, by decide +kernel⟩,
   ⟨seamT [], helm, .helm, 0, .b, by decide +kernel⟩,
   ⟨seamT [(F.seamStatStateA 0, 1)], 0, .a, 9, by decide +kernel⟩,
   ⟨(T [(F.hubXbarstatMode, 3)]).modFlt (fun u => { u with reactions := [(hubCol, 9)] }), .b, 9, by decide +kernel⟩,
   ⟨T [], 7, 9, by decide +kernel⟩⟩

theorem witness_OnePlaneOfASeamAtATime :
    ∃ (s : State) (g : Fin 8) (l : Fin 2), (¬ (s.get (seamState g.val 0) = 1 ∧ s.get (seamState g.val 1) = 1)) :=
  ⟨T [(F.seamStatStateA 7, 1), (F.seamStatStateB 7, 2)], 7, 1, by decide +kernel⟩

theorem witness_HomeRequestsComplete :
    (∃ (s r : State) (p : Fin 1024) (fc : FcClass) (g : Fin 8) (t : Nat) (m : Msg) (q : CohReq), r = s.at t ∧ r.stagingHead p.val fc g.val = some m ∧ m.coh = some q ∧ r.safeOn = false ∧ (r.home.shadows.filter fun x => x.cell == p.val).length < 512 * r.chart.cells p.val ∧ r.homeGrants (r.lineHome (m.addr / 64)) (m.addr / 64) m.berth = true) ∧
    (∃ (s r : State) (p : Fin 1024) (fc : FcClass) (g : Fin 8) (t : Nat) (m : Msg) (q : CohReq), r = s.at t ∧ r.stagingHead p.val fc g.val = some m ∧ m.coh = some q ∧ r.safeOn = false ∧ (r.home.shadows.filter fun x => x.cell == p.val).length < 512 * r.chart.cells p.val ∧ r.homeGrants (r.lineHome (m.addr / 64)) (m.addr / 64) m.berth = false ∧ r.chart.isFnl p.val = true) ∧
    (∃ (s r : State) (line : Fin (2 ^ 46)) (t : Nat) (x : Txn), r = s.at t ∧ r.queueFront line.val = some x ∧ x.stage = .queued ∧ r.opNow x = some .rdS) ∧
    (∃ (s r : State) (line : Fin (2 ^ 46)) (t : Nat) (x : Txn), r = s.at t ∧ r.queueFront line.val = some x ∧ x.stage = .queued ∧ r.opNow x = some .rdOwn) ∧
    (∃ (s r : State) (line : Fin (2 ^ 46)) (t : Nat) (x : Txn), r = s.at t ∧ r.queueFront line.val = some x ∧ x.stage = .queued ∧ r.opNow x = some .upg) ∧
    (∃ (s r : State) (line : Fin (2 ^ 46)) (t : Nat) (x : Txn), r = s.at t ∧ r.queueFront line.val = some x ∧ x.stage = .queued ∧ r.opNow x = some .rdCur) ∧
    (∃ (s r : State) (line : Fin (2 ^ 46)) (t : Nat) (x : Txn), r = s.at t ∧ r.queueFront line.val = some x ∧ x.stage = .queued ∧ r.opNow x = some .evictS) ∧
    (∃ (s r : State) (line : Fin (2 ^ 46)) (t : Nat) (x : Txn), r = s.at t ∧ r.queueFront line.val = some x ∧ x.stage = .queued ∧ r.opNow x = some .wrFull) ∧
    (∃ (s r : State) (line : Fin (2 ^ 46)) (t : Nat) (x : Txn), r = s.at t ∧ r.queueFront line.val = some x ∧ x.stage = .queued ∧ r.opNow x = some .wrPart) ∧
    (∃ (s r : State) (line : Fin (2 ^ 46)) (t : Nat) (x : Txn), r = s.at t ∧ r.queueFront line.val = some x ∧ x.stage = .queued ∧ r.opNow x = some .wrBack ∧ (x.agent.bind fun a => r.snoopTo a line.val) = none) ∧
    (∃ (s r : State) (line : Fin (2 ^ 46)) (t : Nat) (x : Txn), r = s.at t ∧ r.queueFront line.val = some x ∧ x.stage = .queued ∧ r.opNow x = some .wrClean ∧ (x.agent.bind fun a => r.snoopTo a line.val) = none) ∧
    (∃ (s r : State) (line : Fin (2 ^ 46)) (t : Nat) (x : Txn) (y : Snoop), r = s.at t ∧ r.queueFront line.val = some x ∧ x.stage = .queued ∧ (x.agent.bind fun a => r.snoopTo a line.val) = some y ∧ r.opNow x = some .wrBack) ∧
    (∃ (s r : State) (line : Fin (2 ^ 46)) (t : Nat) (x : Txn) (y : Snoop), r = s.at t ∧ r.queueFront line.val = some x ∧ x.stage = .queued ∧ (x.agent.bind fun a => r.snoopTo a line.val) = some y ∧ r.opNow x = some .wrClean) ∧
    (∃ (s r : State) (p : Fin 1024) (tag : Nat) (port : Fin 4096) (line : Fin (2 ^ 46)) (t : Nat), r = s.at t ∧ s.flag (F.celLinkstatUp p.val) = true ∧ s.chart.uspOfPort port.val = none) ∧
    (∃ (s r : State) (p : Fin 1024) (tag : Nat) (port : Fin 4096) (line : Fin (2 ^ 46)) (t : Nat) (h : Nat), r = s.at t ∧ s.flag (F.celLinkstatUp p.val) = true ∧ s.chart.uspOfPort port.val = some h) ∧
    (∃ (s r : State) (port : Fin 4096) (line : Fin (2 ^ 46)) (d t a : Nat) (x : Snoop), r = s.at t ∧ r.chart.agentOfPort port.val = some a ∧ r.snoopTo a line.val = some x ∧ r.staleSnoop x a = false) ∧
    (∃ (s r u : State) (port : Fin 4096) (line : Fin (2 ^ 46)) (d t a : Nat) (x : Snoop), r = s.at t ∧ r.chart.agentOfPort port.val = some a ∧ r.snoopTo a line.val = some x ∧ r.staleSnoop x a = true ∧ u = (r.bump (F.celStaleRspDiscard (r.chart.agentLink a)) 1).raiseBinding x.berth) ∧
    (∃ (s : State) (p : Fin 1024) (tag : Nat) (line : Fin (2 ^ 46)) (t : Nat), ((s.chart.agentOfUsp p.val).any fun a => (s.snoopTo a line.val).isSome) = false ∧ (s.home.forwarded.any fun f => f.2.2.1 == p.val && f.2.2.2 == line.val) = false) ∧
    (∃ (s r : State) (line : Fin (2 ^ 46)) (data : Nat) (poison : Bool) (status : Fin 11) (t : Nat) (x : Txn), r = s.at t ∧ r.home.txns.find? (fun y => y.line == line.val && y.stage == .read && y.value.isNone) = some x ∧ status.val = 0) ∧
    (∃ (s r : State) (line : Fin (2 ^ 46)) (a : Fin 64) (t : Nat) (x : Snoop), r = s.at t ∧ r.snoopTo a.val line.val = some x ∧ r.snoopRuns a.val = true ∧ SMap.getD x.sent a.val 0 + usec (r.get (F.homSnpctlTimeout x.home)) ≤ r.now) ∧
    (∃ (s r : State) (line : Fin (2 ^ 46)) (a : Fin 64) (t : Nat) (x : Snoop), r = s.at t ∧ r.snoopTo a.val line.val = some x ∧ r.now < SMap.getD x.sent a.val 0 + usec (r.get (F.homSnpctlTimeout x.home))) ∧
    (∃ (s r : State) (line : Fin (2 ^ 46)) (a : Fin 64) (t : Nat) (x : Snoop), r = s.at t ∧ r.snoopTo a.val line.val = some x ∧ r.staleSnoop x a.val = true) ∧
    (∃ (s r : State) (line : Fin (2 ^ 46)) (a : Fin 64) (t : Nat) (x : Snoop), r = s.at t ∧ r.snoopTo a.val line.val = some x ∧ r.snoopRuns a.val = false ∧ r.flag (F.fnlLinkstatFlushed (r.chart.agentLink a.val)) = true) :=
  ⟨⟨T1 upA (fun u => { u with staged := [cohMsg 1 0 4 .h2dReq] }), (T1 upA (fun u => { u with staged := [cohMsg 1 0 4 .h2dReq] })).at 9, 0, .h2dReq, 0, 9, cohMsg 1 0 4 .h2dReq, ⟨.rdS, none, 0, 0⟩, by decide +kernel⟩,
   ⟨T1 upA (fun u => { u with staged := [{ cohMsg 1 8 8 .req with berth := none }] }), (T1 upA (fun u => { u with staged := [{ cohMsg 1 8 8 .req with berth := none }] })).at 9, 8, .req, 0, 9, { cohMsg 1 8 8 .req with berth := none }, ⟨.rdS, none, 0, 0⟩, by decide +kernel⟩,
   ⟨homeT [txn 1 4096 .rdS] [], (homeT [txn 1 4096 .rdS] []).at 9, 4096, 9, txn 1 4096 .rdS, by decide +kernel⟩,
   ⟨homeT [txn 1 4096 .rdOwn] [], (homeT [txn 1 4096 .rdOwn] []).at 9, 4096, 9, txn 1 4096 .rdOwn, by decide +kernel⟩,
   ⟨homeT [txn 1 8191 .upg] [], (homeT [txn 1 8191 .upg] []).at 9, 8191, 9, txn 1 8191 .upg, by decide +kernel⟩,
   ⟨homeT [txn 1 4096 .rdCur] [], (homeT [txn 1 4096 .rdCur] []).at 9, 4096, 9, txn 1 4096 .rdCur, by decide +kernel⟩,
   ⟨homeT [txn 1 4096 .evictS] [], (homeT [txn 1 4096 .evictS] []).at 9, 4096, 9, txn 1 4096 .evictS, by decide +kernel⟩,
   ⟨homeT [txn 1 4096 .wrFull] [], (homeT [txn 1 4096 .wrFull] []).at 9, 4096, 9, txn 1 4096 .wrFull, by decide +kernel⟩,
   ⟨homeT [txn 1 4096 .wrPart] [], (homeT [txn 1 4096 .wrPart] []).at 9, 4096, 9, txn 1 4096 .wrPart, by decide +kernel⟩,
   ⟨homeT [txn 1 4096 .wrBack] [], (homeT [txn 1 4096 .wrBack] []).at 9, 4096, 9, txn 1 4096 .wrBack, by decide +kernel⟩,
   ⟨homeT [txn 1 4096 .wrClean] [], (homeT [txn 1 4096 .wrClean] []).at 9, 4096, 9, txn 1 4096 .wrClean, by decide +kernel⟩,
   ⟨homeT [txn 1 4096 .wrBack] [snp], (homeT [txn 1 4096 .wrBack] [snp]).at 9, 4096, 9, txn 1 4096 .wrBack, snp, by decide +kernel⟩,
   ⟨homeT [txn 1 4096 .wrClean] [snp], (homeT [txn 1 4096 .wrClean] [snp]).at 9, 4096, 9, txn 1 4096 .wrClean, snp, by decide +kernel⟩,
   ⟨T upA, (T upA).at 9, 8, 5, 4095, 4096, 9, by decide +kernel⟩,
   ⟨T upA, (T upA).at 9, 8, 5, 10, 4096, 9, 0, by decide +kernel⟩,
   ⟨homeT [] [snp], (homeT [] [snp]).at 9, 10, 4096, 0, 9, 0, snp, by decide +kernel⟩,
   ⟨homeT [txn 1 4096 .rdOwn] [{ snp with tacks := [(0, 1)] }], (homeT [txn 1 4096 .rdOwn] [{ snp with tacks := [(0, 1)] }]).at 9, (((homeT [txn 1 4096 .rdOwn] [{ snp with tacks := [(0, 1)] }]).at 9).bump (F.celStaleRspDiscard (((homeT [txn 1 4096 .rdOwn] [{ snp with tacks := [(0, 1)] }]).at 9).chart.agentLink 0)) 1).raiseBinding (some 3), 10, 4096, 0, 9, 0, { snp with tacks := [(0, 1)] }, by decide +kernel⟩,
   ⟨T upA, 0, 5, 4096, 9, by decide +kernel⟩,
   ⟨homeT [{ txn 1 4096 .rdS with stage := .read }] [], (homeT [{ txn 1 4096 .rdS with stage := .read }] []).at 9, 4096, 7, false, 0, 9, { txn 1 4096 .rdS with stage := .read }, by decide +kernel⟩,
   ⟨homeT [txn 1 4096 .rdOwn] [snp], (homeT [txn 1 4096 .rdOwn] [snp]).at (msec 20), 4096, 0, msec 20, snp, by decide +kernel⟩,
   ⟨homeT [txn 1 4096 .rdOwn] [snp], (homeT [txn 1 4096 .rdOwn] [snp]).at 9, 4096, 0, 9, snp, by decide +kernel⟩,
   ⟨homeT [txn 1 4096 .rdOwn] [{ snp with tacks := [(0, 1)] }], (homeT [txn 1 4096 .rdOwn] [{ snp with tacks := [(0, 1)] }]).at 9, 4096, 0, 9, { snp with tacks := [(0, 1)] }, by decide +kernel⟩,
   ⟨({ homeT [txn 1 4096 .rdOwn] [snp] with regs := (T [(F.fnlLinkstatFlushed 0, 1)]).regs } : State), (({ homeT [txn 1 4096 .rdOwn] [snp] with regs := (T [(F.fnlLinkstatFlushed 0, 1)]).regs } : State)).at 9, 4096, 0, 9, snp, by decide +kernel⟩⟩

theorem witness_DirectoryRowsKeepEntriesCoherent :
    (∃ (j : Job) (t : Txn) (x : DirEntry) (compat room : Bool) (store now : Nat) (bad : Bool), x.coherent) ∧
    (∃ (t : Txn) (x : DirEntry) (a : Nat) (compat room : Bool) (store now : Nat), t.agent = some a) ∧
    (∃ (j : Job) (t : Txn) (x : DirEntry) (compat room : Bool) (store now : Nat) (bad : Bool), x.poison = true ∧ j ≠ .flush ∧ j ≠ .req .wrFull ∧ j ≠ .req .wrBack) :=
  ⟨⟨.writeBehind, txn 1 4096 .rdS, ⟨0, 0, 2, 1, 0, false, 3, 0, 7, 0⟩, true, true, 3, 9, false, by decide +kernel⟩,
   ⟨txn 1 4096 .rdOwn, ⟨0, 0, 1, 1, 0, false, 0, 0, 0, 0⟩, 0, true, false, 3, 9, by decide +kernel⟩,
   ⟨.req .wrPart, txn 1 4096 .wrPart, ⟨0, 0, 1, 1, 0, true, 0, 0, 0, 0⟩, true, false, 3, 9, true, by decide +kernel⟩⟩

theorem witness_HomeUpkeepCompletes :
    (∃ (s r : State) (t : Nat) (a : Fin 64), r = (s.at t).settle ∧ r.get F.hubDeadsweepAgent = a.val ∧ r.flag F.hubDeadsweepBusy = true ∧ r.home.sweepTodo = [] ∧ (∀ x ∈ r.home.txns, x.job ≠ .sweep) ∧ r.home.restarts = []) ∧
    (∃ (s r : State) (t : Nat), r = (s.at t).settle ∧ (r.flag F.hubDeadsweepBusy = false ∨ r.home.sweepTodo ≠ [] ∨ r.home.restarts ≠ [] ∨ ∃ x ∈ r.home.txns, x.job = .sweep)) ∧
    (∃ (s : State) (src : Sess) (who : Principal) (a : Fin 64), s.serves src who ∧ who.isPilot = true ∧ s.agentDead a.val = true ∧ s.flag (F.hubAgentSwept a.val) = true) ∧
    (∃ (s : State) (src : Sess) (who : Principal) (a : Fin 64), s.serves src who ∧ who.isPilot = true ∧ s.agentDead a.val = true ∧ s.flag (F.hubAgentSwept a.val) = false) ∧
    (∃ (s : State) (src : Sess) (who : Principal), s.serves src who ∧ who.isPilot = true ∧ s.flag F.hubWflushBusy = true) ∧
    (∃ (s : State) (src : Sess) (who : Principal), s.serves src who ∧ who.isPilot = true ∧ s.flag F.hubWflushBusy = false) ∧
    (∃ (s : State) (src : Sess) (who : Principal) (n : Fin 72), s.serves src who ∧ who.isPilot = true ∧ s.reach (F.homTrkPeak n.val).addr = true) ∧
    (∃ (s r : State) (line : Fin (2 ^ 46)) (t : Nat), r = s.at t ∧ r.behindDue line.val = true ∧ r.behindRuns line.val = false ∧ r.mayOriginate (s.lineHome line.val) = true) ∧
    (∃ (s : State) (line : Fin (2 ^ 46)) (t : Nat), (s.at t).behindDue line.val = false) ∧
    (∃ (s r : State) (t w : Nat), r = s.at t ∧ s.home.flushWin = some w ∧ s.home.flushOn = true ∧ s.home.flushTodo = [] ∧ s.home.restarts = [] ∧ s.lvc.queue = [] ∧ (∀ x ∈ s.home.txns, x.job ≠ .flush) ∧ (∀ v : Fin 64, s.flag (F.hubHomemapUnknown v.val) = false)) ∧
    (∃ (s r : State) (port : Fin 4096) (line : Fin (2 ^ 46)) (d t : Nat), r = s.at t ∧ s.chart.agentOfPort port.val = none ∧ s.chart.uspOfPort port.val = none ∧ (s.chart.sharedWindow line.val).isSome = true) :=
  ⟨⟨T [(F.hubDeadsweepAgent, 63), (F.hubDeadsweepBusy, 1)], ((T [(F.hubDeadsweepAgent, 63), (F.hubDeadsweepBusy, 1)]).at 9).settle, 9, 63, by decide +kernel⟩,
   ⟨T [], ((T []).at 9).settle, 9, by decide +kernel⟩,
   ⟨T [(F.hubAgentDead 63, 1), (F.hubAgentSwept 63, 1)], pilot, .pilot 0, 63, by decide +kernel⟩,
   ⟨T [(F.hubAgentDead 0, 1)], pilot, .pilot 0, 0, by decide +kernel⟩,
   ⟨T [(F.hubWflushBusy, 1)], pilot, .pilot 0, by decide +kernel⟩,
   ⟨T [], pilot, .pilot 0, by decide +kernel⟩,
   ⟨seamT [], pilot, .pilot 0, 0, by decide +kernel⟩,
   ⟨ownedT, ownedT.at (usec 1000), 4096, usec 1000, by decide +kernel⟩,
   ⟨ownedT, 4096, usec 1000 - 1, by decide +kernel⟩,
   ⟨flushT [], (flushT []).at 9, 9, 0, by decide +kernel⟩,
   ⟨T [], (T []).at 9, 4095, 8191, 7, 9, by decide +kernel⟩⟩

theorem witness_FailoverCompletes :
    (∃ (s r : State) (n : Fin 72) (t : Nat), r = (s.at t).takeReaction (inSlice n.val).1 (inSlice n.val).2 ∧ r.get (F.homRole n.val) ≠ 2 ∧ n.val ∉ r.home.waiting ∧ r.home.failover = none) ∧
    (∃ (s r : State) (n : Fin 72) (t : Nat), r = (s.at t).takeReaction (inSlice n.val).1 (inSlice n.val).2 ∧ r.get (F.homRole n.val) = 2) ∧
    (∃ (s r : State) (g : Fin 8) (t : Nat), r = (s.at t).takeReaction (inHbm g.val).1 (inHbm g.val).2 ∧ 72 + g.val ∉ r.home.waiting ∧ g.val ∉ r.home.lostStacks ∧ r.home.failover = none) ∧
    (∃ (s : State) (p : Fin 1024) (t : Nat) (x : Shadow), s.home.shadows = [x] ∧ x.cell = p.val ∧ x.moved = true ∧ x.count < 3) ∧
    (∃ (s : State) (p : Fin 1024) (t : Nat) (x : Shadow), s.home.shadows = [x] ∧ x.cell = p.val ∧ x.moved = true ∧ x.count = 3) ∧
    (∃ (s : State) (t : Nat) (f : Failover), s.home.failover = some f ∧ (∀ x ∈ s.home.shadows, x.moved = false) ∧ s.home.waiting = []) ∧
    (∃ (s r : State) (n : Fin 72) (t : Nat), r = s.at t ∧ n.val ∈ s.home.restarts ∧ (∀ x ∈ s.home.shadows, x.moved = true → s.slotSlice x.slot ≠ n.val)) ∧
    (∃ (s : State) (n : Fin 72) (t : Nat), n.val ∉ s.home.restarts) :=
  ⟨⟨T [], ((T []).at 9).takeReaction (inSlice 71).1 (inSlice 71).2, 71, 9, by decide +kernel⟩,
   ⟨T [(F.homRole 71, 2)], ((T [(F.homRole 71, 2)]).at 9).takeReaction (inSlice 71).1 (inSlice 71).2, 71, 9, by decide +kernel⟩,
   ⟨T [], ((T []).at 9).takeReaction (inHbm 7).1 (inHbm 7).2, 7, 9, by decide +kernel⟩,
   ⟨(T []).modHome (fun u => { u with shadows := [shadow 4096 true 2] }), 8, 9, shadow 4096 true 2, by decide +kernel⟩,
   ⟨(T []).modHome (fun u => { u with shadows := [shadow 4096 true 3] }), 8, 9, shadow 4096 true 3, by decide +kernel⟩,
   ⟨(T []).modHome (fun u => { u with failover := some ⟨[0], [3], false⟩ }), 9, ⟨[0], [3], false⟩, by decide +kernel⟩,
   ⟨flushT [] |>.modHome (fun u => { u with restarts := [0], dir := [(4096, ⟨0, 0, 2, 1, 0, false, 3, 0, 7, 0⟩)] }), (flushT [] |>.modHome (fun u => { u with restarts := [0], dir := [(4096, ⟨0, 0, 2, 1, 0, false, 3, 0, 7, 0⟩)] })).at 9, 0, 9, by decide +kernel⟩,
   ⟨T [], 71, 9, by decide +kernel⟩⟩

theorem witness_ARetiredSliceServesNoSlot :
    (∃ (s : State) (n m : Fin 72) (v : Fin 64), m ≠ n ∧ s.regionPowered (m.val / 9) = true ∧ (s.get (F.homRole m.val) = 0 ∨ (s.get (F.homRole m.val) = 1 ∧ m.val / 9 ≠ n.val / 9))) ∧
    (∃ (s : State) (n m : Fin 72) (x : _), m ≠ n ∧ s.regionPowered (m.val / 9) = true ∧ (s.get (F.homRole m.val) = 0 ∨ (s.get (F.homRole m.val) = 1 ∧ m.val / 9 ≠ n.val / 9)) ∧ x ∈ (s.failSlice n.val).home.txns) ∧
    (∃ (s : State) (n m : Fin 72) (x : _), m ≠ n ∧ s.regionPowered (m.val / 9) = true ∧ (s.get (F.homRole m.val) = 0 ∨ (s.get (F.homRole m.val) = 1 ∧ m.val / 9 ≠ n.val / 9)) ∧ x ∈ (s.failSlice n.val).home.snoops) :=
  ⟨⟨T [], 1, 0, 63, by decide +kernel⟩,
   ⟨workT2, 1, 0, txn 1 4096 .rdS, by decide +kernel⟩,
   ⟨workT2, 1, 0, ⟨1, 0, 4096, [0], .inv, none, [(0, 0)], []⟩, by decide +kernel⟩⟩

theorem witness_ApertureWritesComplete :
    (∃ (s r y : State) (p : Fin 1024) (id k : Nat) (h : SyncHeader) (off : Fin (2 ^ 26)) (bytes : List (Fin 256)) (t : Nat), r = s.at t ∧ r.chart.ldsValid = true ∧ r.takesIn p.val = true ∧ r.safeOn = false ∧ r.ingressBerth p.val (h.ld.map (·.val)) h.hberth.val = some k ∧ y = (r.ingressClass p.val k (if r.chart.isFnl p.val then .fnlRequest else .memWrite) .req (r.chart.ldsBase + off.val) h.hclass.val h.hcolour.val bytes.length).2.2 ∧ (y.gateCheck gateLds [(y.chart.ldsBase + off.val) / 64] k 6 p.val).1 = [] ∧ y.copyDenied off.val = false ∧ off.val < 2 ^ 24) ∧
    (∃ (s r y : State) (p : Fin 1024) (id k : Nat) (h : SyncHeader) (off : Fin (2 ^ 26)) (bytes : List (Fin 256)) (t : Nat), r = s.at t ∧ r.chart.ldsValid = true ∧ r.takesIn p.val = true ∧ r.safeOn = false ∧ r.ingressBerth p.val (h.ld.map (·.val)) h.hberth.val = some k ∧ y = (r.ingressClass p.val k (if r.chart.isFnl p.val then .fnlRequest else .memWrite) .req (r.chart.ldsBase + off.val) h.hclass.val h.hcolour.val bytes.length).2.2 ∧ (y.gateCheck gateLds [(y.chart.ldsBase + off.val) / 64] k 6 p.val).1 = [] ∧ y.copyDenied off.val = false ∧ 2 ^ 25 ≤ off.val ∧ off.val < 3 * 2 ^ 24) ∧
    (∃ (s r : State) (p : Fin 1024) (id : Nat) (h : SyncHeader) (off : Fin (2 ^ 26)) (bytes : List (Fin 256)) (t : Nat), r = s.at t ∧ r.chart.ldsValid = true ∧ r.takesIn p.val = true ∧ r.ingressBerth p.val (h.ld.map (·.val)) h.hberth.val = none) ∧
    (∃ (s : State) (k off : Nat) (b : List Nat), b.length = 64 ∧ off % 64 = 0 ∧ off < 2 ^ 24 ∧ b.getD 1 0 < 16 ∧ leField b 4 4 < 2 ^ 29 ∧ (∀ i, i < 34 → b.getD (30 + i) 0 = 0) ∧ knownOpc (b.getD 0 0) = true ∧ (s.lrec (off / 64)).state ≠ 1) ∧
    (∃ (s : State) (k off : Nat) (b : List Nat), off < 2 ^ 24 ∧ (s.lrec (off / 64)).state = 1) ∧
    (∃ (s : State) (k off : Nat) (b : List Nat), b.length = 64 ∧ off % 64 = 0 ∧ descOk b false = true ∧ (s.crec (64 * (off / 2 ^ 12 % 256) + off / 64 % 64)).state ≠ 1) ∧
    (∃ (s r : State) (p : Fin 1024) (id k : Nat) (h : SyncHeader) (off : Fin (2 ^ 26)) (bytes : List (Fin 256)) (t : Nat), r = s.at t ∧ r.chart.ldsValid = true ∧ r.takesIn p.val = true ∧ r.safeOn = true ∧ r.ingressBerth p.val (h.ld.map (·.val)) h.hberth.val = some k) ∧
    (∃ (s : State) (p : Fin 1024) (id : Nat) (h : SyncHeader) (off : Fin (2 ^ 26)) (bytes : List (Fin 256)) (t : Nat), s.chart.ldsValid = false) :=
  ⟨⟨apT [], (apT []).at 9, (((apT []).at 9).ingressClass 0 3 .memWrite .req (((apT []).at 9).chart.ldsBase + 0xFFFFC0) 0 0 64).2.2, 0, 5, 3, ⟨none, 3, 0, 0⟩, 0xFFFFC0, zeros 64, 9, by decide +kernel⟩,
   ⟨apT [], (apT []).at 9, (((apT []).at 9).ingressClass 0 3 .memWrite .req (((apT []).at 9).chart.ldsBase + 0x2000000) 0 0 64).2.2, 0, 5, 3, ⟨none, 3, 0, 0⟩, 0x2000000, zeros 64, 9, by decide +kernel⟩,
   ⟨{ T [(F.celLinkstatUp 16, 1)] with chart := [(chartKey 1 0 0, [0x20, 1 + 2 ^ 26] ++ List.replicate 30 0), (chartKey 3 0 16, [0x755000]), (chartKey 7 0 0, [0xFF, 0, 0, 0]), (chartKey 8 0 32, [0x40, 0, 0])] }, ({ T [(F.celLinkstatUp 16, 1)] with chart := [(chartKey 1 0 0, [0x20, 1 + 2 ^ 26] ++ List.replicate 30 0), (chartKey 3 0 16, [0x755000]), (chartKey 7 0 0, [0xFF, 0, 0, 0]), (chartKey 8 0 32, [0x40, 0, 0])] } : State).at 9, 16, 5, ⟨none, 3, 0, 0⟩, 0, zeros 64, 9, by decide +kernel⟩,
   ⟨T [], 3, 0xFFFFC0, cmdBytes 1, by decide +kernel⟩,
   ⟨(T []).modLod (fun u => { u with records := [(1, { emptyRec with state := 1 })] }), 3, 64, [], by decide +kernel⟩,
   ⟨T [], 3, 0x2000040, descBytes, by decide +kernel⟩,
   ⟨apT [(F.fltSafeState, 1)], (apT [(F.fltSafeState, 1)]).at 9, 0, 5, 3, ⟨none, 3, 0, 0⟩, 0, zeros 64, 9, by decide +kernel⟩,
   ⟨T1 [] id |>.modChart (fun _ => []), 0, 5, ⟨none, 3, 0, 0⟩, 0, zeros 64, 9, by decide +kernel⟩⟩

theorem witness_LodestarOperationsComplete :
    (∃ (s : State) (ch : Fin 4096) (k : Fin 64) (t : Nat) (c : LCmd) (o : LObj), s.lodQuiet ∧ s.lodTurn c ch.val k.val ∧ s.onLive c o ∧ c.opc = 0x01) ∧
    (∃ (s : State) (ch : Fin 4096) (k : Fin 64) (t : Nat) (c : LCmd) (o : LObj), s.lodQuiet ∧ s.lodTurn c ch.val k.val ∧ s.onLive c o ∧ c.opc = 0x02 ∧ o.words.getD c.word 0 = c.a) ∧
    (∃ (s : State) (ch : Fin 4096) (k : Fin 64) (t : Nat) (c : LCmd) (o : LObj), s.lodQuiet ∧ s.lodTurn c ch.val k.val ∧ s.onLive c o ∧ c.opc = 0x02 ∧ o.words.getD c.word 0 ≠ c.a) ∧
    (∃ (s : State) (ch : Fin 4096) (k : Fin 64) (t : Nat) (c : LCmd) (o : LObj), s.lodQuiet ∧ s.lodTurn c ch.val k.val ∧ s.onLive c o ∧ c.opc = 0x03) ∧
    (∃ (s : State) (ch : Fin 4096) (k : Fin 64) (t : Nat) (c : LCmd) (o : LObj), s.lodQuiet ∧ s.lodTurn c ch.val k.val ∧ s.onLive c o ∧ c.opc = 0x08 ∧ o.words.getD c.word 0 ≠ c.a) ∧
    (∃ (s : State) (ch : Fin 4096) (k : Fin 64) (t : Nat) (c : LCmd) (o : LObj), s.lodQuiet ∧ s.lodTurn c ch.val k.val ∧ s.onLive c o ∧ c.opc = 0x08 ∧ o.words.getD c.word 0 = c.a ∧ s.waiters (s.cmdSlice c) < 16384) ∧
    (∃ (s : State) (ch : Fin 4096) (k : Fin 64) (t : Nat) (c : LCmd) (o : LObj), s.lodQuiet ∧ s.lodTurn c ch.val k.val ∧ s.onLive c o ∧ c.opc = 0x09) ∧
    (∃ (s : State) (ch : Fin 4096) (k : Fin 64) (t : Nat) (c : LCmd) (o : LObj), s.lodQuiet ∧ s.lodTurn c ch.val k.val ∧ s.onLive c o ∧ c.opc = 0x0A ∧ (s.lod.parked.filter fun p => p.cmd.opc == 0x0A && p.cmd.obj == c.obj).length + 1 < o.parties ∧ s.waiters (s.cmdSlice c) < 16384) ∧
    (∃ (s : State) (ch : Fin 4096) (k : Fin 64) (t : Nat) (c : LCmd) (o : LObj), s.lodQuiet ∧ s.lodTurn c ch.val k.val ∧ s.onLive c o ∧ c.opc = 0x0A ∧ o.parties ≤ (s.lod.parked.filter fun p => p.cmd.opc == 0x0A && p.cmd.obj == c.obj).length + 1) ∧
    (∃ (s : State) (ch : Fin 4096) (k : Fin 64) (t : Nat) (c : LCmd) (o : LObj), s.lodQuiet ∧ s.lodTurn c ch.val k.val ∧ s.onLive c o ∧ c.opc = 0x0B ∧ o.holder = none ∧ (∀ p ∈ s.lod.parked, p.cmd.opc ≠ 0x0B ∨ p.cmd.obj ≠ c.obj) ∧ c.flags.testBit 3 = true) ∧
    (∃ (s : State) (ch : Fin 4096) (k : Fin 64) (t : Nat) (c : LCmd) (o : LObj), s.lodQuiet ∧ s.lodTurn c ch.val k.val ∧ s.onLive c o ∧ c.opc = 0x0B ∧ o.holder = none ∧ (∀ p ∈ s.lod.parked, p.cmd.opc ≠ 0x0B ∨ p.cmd.obj ≠ c.obj) ∧ c.flags.testBit 3 = false ∧ o.shared = 0) ∧
    (∃ (s : State) (ch : Fin 4096) (k : Fin 64) (t : Nat) (c : LCmd) (o : LObj), s.lodQuiet ∧ s.lodTurn c ch.val k.val ∧ s.onLive c o ∧ c.opc = 0x0C ∧ c.flags.testBit 3 = false ∧ o.holder ≠ some c.chan) ∧
    (∃ (s : State) (ch : Fin 4096) (k : Fin 64) (t : Nat) (c : LCmd) (o : LObj), s.lodQuiet ∧ s.lodTurn c ch.val k.val ∧ s.onLive c o ∧ c.opc = 0x0C ∧ c.flags.testBit 3 = false ∧ o.holder = some c.chan ∧ (∀ p ∈ s.lod.parked, p.cmd.opc ≠ 0x0B ∨ p.cmd.obj ≠ c.obj)) ∧
    (∃ (s : State) (ch : Fin 4096) (k : Fin 64) (t : Nat) (c : LCmd) (o : LObj), s.lodQuiet ∧ s.lodTurn c ch.val k.val ∧ s.onLive c o ∧ c.opc = 0x19) ∧
    (∃ (s : State) (ch : Fin 4096) (k : Fin 64) (t : Nat) (c : LCmd), s.lodQuiet ∧ s.lodTurn c ch.val k.val ∧ c.opc = 0x10 ∧ s.chart.grpFirst c.berth ≤ c.group ∧ c.group ≤ s.chart.grpLast c.berth ∧ SMap.find? s.lod.groups c.group = none) ∧
    (∃ (s : State) (ch : Fin 4096) (k : Fin 64) (t : Nat) (c : LCmd) (g : Grp), s.lodQuiet ∧ s.lodTurn c ch.val k.val ∧ SMap.find? s.lod.groups c.group = some g ∧ g.lost = false ∧ c.opc = 0x11 ∧ c.chan ∉ g.members ∧ g.members.length < 56) ∧
    (∃ (s : State) (ch : Fin 4096) (k : Fin 64) (t : Nat) (c : LCmd) (g : Grp), s.lodQuiet ∧ s.lodTurn c ch.val k.val ∧ SMap.find? s.lod.groups c.group = some g ∧ g.lost = false ∧ c.opc = 0x12 ∧ c.chan ∈ g.members) ∧
    (∃ (s : State) (ch : Fin 4096) (k : Fin 64) (t : Nat) (c : LCmd) (g : Grp), s.lodQuiet ∧ s.lodTurn c ch.val k.val ∧ SMap.find? s.lod.groups c.group = some g ∧ g.lost = false ∧ c.opc = 0x13 ∧ g.members = [] ∧ (∀ x ∈ s.lod.pend, x.held = false)) ∧
    (∃ (s : State) (ch : Fin 4096) (k : Fin 64) (t : Nat) (c : LCmd) (n : Nat), s.lodQuiet ∧ s.lodTurn c ch.val k.val ∧ c.opc = 0x18 ∧ c.a ≤ 2 ∧ (c.a = 2 → 1 ≤ c.b ∧ c.b ≤ 65535) ∧ s.objUse c.berth < s.chart.objQuota c.berth ∧ (s.allocSlot c.chan).bind s.freeObject = some n) :=
  ⟨⟨lodT (lcmd 1 0 (2 ^ 64 - 1) 0) [(0, val0)] [], 0, 63, 9, lcmd 1 0 (2 ^ 64 - 1) 0, val0, by decide +kernel⟩,
   ⟨lodT (lcmd 2 0 5 8) [(0, val0)] [], 0, 63, 9, lcmd 2 0 5 8, val0, by decide +kernel⟩,
   ⟨lodT (lcmd 2 0 6 8) [(0, val0)] [], 0, 63, 9, lcmd 2 0 6 8, val0, by decide +kernel⟩,
   ⟨lodT (lcmd 3 0 6 0) [(0, val0)] [], 0, 63, 9, lcmd 3 0 6 0, val0, by decide +kernel⟩,
   ⟨lodT (lcmd 8 0 6 0) [(0, val0)] [], 0, 63, 9, lcmd 8 0 6 0, val0, by decide +kernel⟩,
   ⟨lodT (lcmd 8 0 5 0) [(0, val0)] [], 0, 63, 9, lcmd 8 0 5 0, val0, by decide +kernel⟩,
   ⟨lodT (lcmd 9 2 0 0) [(0, val0)] [], 0, 63, 9, lcmd 9 2 0 0, val0, by decide +kernel⟩,
   ⟨lodT (lcmd 10 0 0 0) [(0, bar0 2)] [], 0, 63, 9, lcmd 10 0 0 0, bar0 2, by decide +kernel⟩,
   ⟨lodT (lcmd 10 0 0 0) [(0, bar0 1)] [], 0, 63, 9, lcmd 10 0 0 0, bar0 1, by decide +kernel⟩,
   ⟨lodT (lcmd 11 8 0 0) [(0, lock0 none)] [], 0, 63, 9, lcmd 11 8 0 0, lock0 none, by decide +kernel⟩,
   ⟨lodT (lcmd 11 0 0 0) [(0, lock0 none)] [], 0, 63, 9, lcmd 11 0 0 0, lock0 none, by decide +kernel⟩,
   ⟨lodT (lcmd 12 0 0 0) [(0, lock0 (some 1))] [], 0, 63, 9, lcmd 12 0 0 0, lock0 (some 1), by decide +kernel⟩,
   ⟨lodT (lcmd 12 0 0 0) [(0, lock0 (some 0))] [], 0, 63, 9, lcmd 12 0 0 0, lock0 (some 0), by decide +kernel⟩,
   ⟨lodT (lcmd 25 0 0 0) [(0, val0)] [], 0, 63, 9, lcmd 25 0 0 0, val0, by decide +kernel⟩,
   ⟨lodT (lcmd 16 0 7 0) [] [], 0, 63, 9, lcmd 16 0 7 0, by decide +kernel⟩,
   ⟨lodT (lcmd 17 0 0 0) [] [(10, grp0 [1])], 0, 63, 9, lcmd 17 0 0 0, grp0 [1], by decide +kernel⟩,
   ⟨lodT (lcmd 18 0 0 0) [] [(10, grp0 [0])], 0, 63, 9, lcmd 18 0 0 0, grp0 [0], by decide +kernel⟩,
   ⟨lodT (lcmd 19 0 0 0) [] [(10, grp0 [])], 0, 63, 9, lcmd 19 0 0 0, grp0 [], by decide +kernel⟩,
   ⟨lodT (lcmd 24 0 2 65535) [] [], 0, 63, 9, lcmd 24 0 2 65535, ((lodT (lcmd 24 0 2 65535) [] []).allocSlot 0 |>.bind (lodT (lcmd 24 0 2 65535) [] []).freeObject).getD 0, by decide +kernel⟩⟩

theorem witness_RecordsAndGroupsComplete :
    (∃ (s : State) (ch : Fin 4096) (k : Fin 64) (t : Nat) (r : LRec), s.lod.results.find? (fun e => e.1 == 64 * ch.val + k.val) = some (64 * ch.val + k.val, r) ∧ (s.lrec (64 * ch.val + k.val)).state = 1) ∧
    (∃ (s : State) (ch : Fin 4096) (k : Fin 64) (t : Nat) (p : Parked), s.lod.parked.find? (fun q => q.cmd.key == 64 * ch.val + k.val) = some p ∧ p.frozen = false ∧ p.since + usec p.limit ≤ (s.at t).now ∧ (s.at t).wokenNow p = false) ∧
    (∃ (s : State) (ch : Fin 4096) (k : Fin 64) (t : Nat) (p : Parked), s.lod.parked.find? (fun q => q.cmd.key == 64 * ch.val + k.val) = some p ∧ (p.frozen = true ∨ (s.at t).now < p.since + usec p.limit ∨ (s.at t).wokenNow p = true)) ∧
    (∃ (s : State) (grp : Fin 65536) (t x : Nat) (g : Grp), SMap.find? s.lod.groups grp.val = some g ∧ g.since = some x ∧ g.freezing = false ∧ x + usec g.interval ≤ (s.at t).now) ∧
    (∃ (s : State) (grp : Fin 65536) (t x : Nat) (g : Grp), SMap.find? s.lod.groups grp.val = some g ∧ g.since = some x ∧ g.freezing = false ∧ (s.at t).now < x + usec g.interval) ∧
    (∃ (s : State) (grp : Fin 65536) (t : Nat) (g : Grp), SMap.find? s.lod.groups grp.val = some g ∧ g.freezing = false) ∧
    (∃ (s : State) (src : Sess) (who : Principal) (n : Fin 72), s.serves src who ∧ who.isPilot = true ∧ s.reach (F.ldsStatPeak n.val).addr = true) :=
  ⟨⟨lodP (fun u => { u with results := [(63, { emptyRec with state := 2 })], records := [(63, { emptyRec with state := 1 })] }), 0, 63, 9, { emptyRec with state := 2 }, by decide +kernel⟩,
   ⟨lodP (fun u => { u with parked := [park0 false none] }), 0, 63, usec 5, park0 false none, by decide +kernel⟩,
   ⟨lodP (fun u => { u with parked := [park0 false none] }), 0, 63, usec 5 - 1, park0 false none, by decide +kernel⟩,
   ⟨lodP (fun u => { u with groups := [(10, { grp0 [0] with since := some 0 })], parked := [park0 false (some 10)] }), 10, usec 5, 0, { grp0 [0] with since := some 0 }, by decide +kernel⟩,
   ⟨lodP (fun u => { u with groups := [(65535, { grp0 [0] with since := some 0 })] }), 65535, usec 5 - 1, 0, { grp0 [0] with since := some 0 }, by decide +kernel⟩,
   ⟨lodP (fun u => { u with groups := [(10, grp0 [0])] }), 10, 9, grp0 [0], by decide +kernel⟩,
   ⟨T [(F.seamStatStateA 0, 2), (F.hubXbarstatMode, 1), (F.ldsStatPeak 0, 3)], pilot, .pilot 0, 0, by decide +kernel⟩⟩

theorem witness_AllWaitingDecides :
    (∃ (s : State) (grp : Fin 65536) (t : Nat) (g : Grp), SMap.find? s.lod.groups grp.val = some g ∧ g.freezing = true ∧ g.berth < 64 ∧ (∀ c ∈ s.lod.pend, c.held = false) ∧ (∀ key ∈ g.frozen, ∃ p ∈ s.lod.parked, p.group = some grp.val ∧ p.cmd.key = key)) ∧
    (∃ (s : State) (grp : Fin 65536) (t : Nat) (g : Grp), SMap.find? s.lod.groups grp.val = some g ∧ g.freezing = true ∧ g.berth < 64 ∧ (∀ c ∈ s.lod.pend, c.held = false) ∧ (∃ key ∈ g.frozen, ∀ p ∈ s.lod.parked, p.group = some grp.val → p.cmd.key ≠ key)) :=
  ⟨⟨lodP (fun u => { u with groups := [(10, frozenG)], parked := [park0 true (some 10)] }), 10, 9, frozenG, by decide +kernel⟩,
   ⟨lodP (fun u => { u with groups := [(10, frozenG)], parked := [] }), 10, 9, frozenG, by decide +kernel⟩⟩

theorem witness_CopyEnginesComplete :
    (∃ (s r : State) (g : Fin 8) (t : Nat) (j : CopyJob), r = s.at t ∧ r.nextJob g.val = some j ∧ s.holds (.copyEngine g) = true ∧ (s.cpy.jobs.filter fun x => x.g == g.val && x.running).length < 16) ∧
    (∃ (s : State) (g : Fin 8) (t : Nat), s.nextJob g.val = none) ∧
    (∃ (s : State) (g : Fin 8) (data dirty : List Nat) (t w : Nat) (j : CopyJob), s.cpy.jobs = [j] ∧ j.g = g.val ∧ j.running = true ∧ j.waits = [] ∧ j.opc = 0x41 ∧ j.lines = 1 ∧ j.next = 0 ∧ j.done = 0 ∧ j.verify = false ∧ j.denied = false ∧ j.failed = false ∧ j.chan < 256 ∧ s.home.engine = [] ∧ s.flag (F.cpeStatPaused g.val) = false ∧ s.chart.windowOf (j.dst / 64) = some w ∧ s.chart.winShared w = false ∧ s.chart.sharedWindow (j.dst / 64) = none ∧ s.verdict (s.chart.winPool w) (j.dst / 64) j.berth 2 = none ∧ s.lvc.queue = []) ∧
    (∃ (s : State) (g : Fin 8) (t x : Nat) (j : CopyJob), SMap.find? s.cpy.asked g.val = some x ∧ s.cpy.jobs.find? (fun y => y.g == g.val && !y.running) = some j ∧ s.holds (.copyEngine g) = false ∧ x + msec (s.get (F.cpeCtlLeaveWait g.val)) ≤ (s.at t).now) ∧
    (∃ (s : State) (g : Fin 8) (t i : Nat) (x : Slip) (j : CopyJob), j ∈ s.cpy.jobs ∧ j.g = g.val ∧ j.running = true ∧ ((s.lvc.slips.filter fun e => e.2.purpose == .copyEngine g).head?) = some (i, x) ∧ ((s.at t).renewSlip i).2 = none) ∧
    (∃ (s : State) (g : Fin 8) (t : Nat), inCopy g.val ∈ s.flt.reactions ∧ s.lvc.queue = []) ∧
    (∃ (s : State) (src : Sess) (who : Principal) (g : Fin 8), s.serves src who ∧ who.isPilot = true ∧ s.reach (F.cpeStatPaused g.val).addr = true ∧ s.flag (F.cpeMgtsubmitBusy g.val) = true) ∧
    (∃ (s : State) (src : Sess) (who : Principal) (g : Fin 8), s.serves src who ∧ who.isPilot = true ∧ s.reach (F.cpeStatPaused g.val).addr = true ∧ s.flag (F.cpeMgtsubmitBusy g.val) = false ∧ descOk (s.mgtDesc g.val) true = true) :=
  ⟨⟨cpyT [] [job0 false 0x41 0], (cpyT [] [job0 false 0x41 0]).at 9, 0, 9, job0 false 0x41 0, by decide +kernel⟩,
   ⟨T [], 7, 9, by decide +kernel⟩,
   ⟨{ cpyT [] [job0 true 0x41 (64 * 8192)] with chart := gateChart 4 15 }, 0, [], [], 9, 1, job0 true 0x41 (64 * 8192), by decide +kernel⟩,
   ⟨({ T [] with lvc := ⟨[], none, []⟩ }).modCpy (fun u => { u with jobs := [job0 false 0x41 0], asked := [(0, 0)] }), 0, msec 60000, 0, job0 false 0x41 0, by decide +kernel⟩,
   ⟨cpyT [(F.pwrInputPNow, 100)] [job0 true 0x41 0], 0, 9, 31, slip0 (.copyEngine 0), job0 true 0x41 0, by decide +kernel⟩,
   ⟨(T []).modFlt (fun u => { u with reactions := [inCopy 7] }), 7, 9, by decide +kernel⟩,
   ⟨seamT [(F.cpeMgtsubmitBusy 0, 1)], pilot, .pilot 0, 0, by decide +kernel⟩,
   ⟨seamT [(F.cpeMgtdesc 0 0, 0x41), (F.cpeMgtdesc 0 1, 1)], pilot, .pilot 0, 0, by decide +kernel⟩⟩

theorem witness_GatesDenyAndRecord :
    (∃ (s : State) (n line berth kind source : Nat), s.deniedLines n [line] berth kind = []) ∧
    (∃ (c : Chart) (n line berth kind : Nat), c.matchWindow n line = none) ∧
    (∃ (s : State) (n line berth kind source w why : Nat), n < 1098 ∧ line < 2 ^ 46 ∧ berth < 64 ∧ w ≤ 64 ∧ s.verdict n line berth kind = some (w, why)) ∧
    (∃ (s : State) (src : Sess) (who : Principal) (n : Fin 1098), s.serves src who ∧ who.isPilot = true ∧ s.reach (F.gatViolValid n.val).addr = true) :=
  ⟨⟨{ T [] with chart := gateChart 1097 15 }, 1097, 4096, 3, 1, 0, by decide +kernel⟩,
   ⟨gateChart 4 15, 5, 4096, 3, 1, by decide +kernel⟩,
   ⟨T [], 1097, 2 ^ 46 - 1, 63, 1, 0, 0x40, 0, by decide +kernel⟩,
   ⟨seamT [], pilot, .pilot 0, 0, by decide +kernel⟩⟩

theorem witness_SextantMeasures :
    (∃ (s : State) (l : Fin 2048) (mism t : Nat), s.flag (F.lanModeActive l.val) = true ∧ (s.lane l.val).trial = none ∧ l.val ∉ s.lan.sweeping ∧ (s.lane l.val).next + 1 < 64 * s.laneEyes (l.val / 2)) ∧
    (∃ (s : State) (l : Nat), max (s.get (F.sxtEdgeLeft l)) (s.get (F.sxtEdgeRight l)) < min (s.get (F.sxtEdgeLeft l)) (s.get (F.sxtEdgeRight l)) + 16 ∧ s.get (F.sxtThreshTarget l) ≤ s.get (F.sxtFom l)) ∧
    (∃ (s : State) (l : Nat), max (s.get (F.sxtEdgeLeft l)) (s.get (F.sxtEdgeRight l)) < min (s.get (F.sxtEdgeLeft l)) (s.get (F.sxtEdgeRight l)) + 16 ∧ s.get (F.sxtFom l) < s.get (F.sxtThreshTarget l) ∧ s.get (F.lanRxeqCtlePeak l) < 8 ∧ s.get (F.lanRxeqCtleRange l) ≠ 0) ∧
    (∃ (s : State) (l : Nat), max (s.get (F.sxtEdgeLeft l)) (s.get (F.sxtEdgeRight l)) < min (s.get (F.sxtEdgeLeft l)) (s.get (F.sxtEdgeRight l)) + 16 ∧ s.get (F.sxtFom l) < s.get (F.sxtThreshTarget l) ∧ 8 ≤ s.get (F.lanRxeqCtlePeak l) ∧ s.get (F.lanRxeqCtleRange l) ≠ 3) ∧
    (∃ (s : State) (p : Fin 1024) (t : Nat), s.flag (F.celLinkstatUp p.val) = false) ∧
    (∃ (s r : State) (p : Fin 1024) (t l : Nat), r = s.at t ∧ s.flag (F.celLinkstatUp p.val) = true ∧ SMap.getD s.lnk.lanes p.val [] = [l] ∧ l ∉ s.lan.sweeping ∧ (s.lane l).reached = false ∧ s.get (F.sxtFom l) < s.get (F.sxtThreshLow l) ∧ l < 2048 ∧ s.get (F.fnlWatchcntLowfom p.val) < 255 ∧ s.get (F.fnlWatchcntLowfom p.val) + 1 < s.get (F.fnlLinkctlLowfomMax p.val)) ∧
    (∃ (s r : State) (p : Fin 1024) (t l : Nat), r = s.at t ∧ s.flag (F.celLinkstatUp p.val) = true ∧ SMap.getD s.lnk.lanes p.val [] = [l] ∧ l ∉ s.lan.sweeping ∧ (s.lane l).reached = false ∧ s.get (F.sxtFom l) < s.get (F.sxtThreshLow l) ∧ l < 2048 ∧ s.get (F.fnlWatchcntLowfom p.val) < 255 ∧ s.get (F.fnlLinkctlLowfomMax p.val) = s.get (F.fnlWatchcntLowfom p.val) + 1 ∧ s.chart.isFnl p.val = true) ∧
    (∃ (s : State) (src : Sess) (who : Principal) (l : Fin 2048) (target attn low : Fin 256), s.serves src who ∧ who.isPilot = true ∧ s.reach (F.sxtThreshLow l.val).addr = true ∧ (8 ≤ low.val ∧ low.val < attn.val ∧ attn.val ≤ target.val ∧ target.val ≤ 200)) ∧
    (∃ (s : State) (src : Sess) (who : Principal) (l : Fin 2048) (target attn low : Fin 256), s.serves src who ∧ who.isPilot = true ∧ s.reach (F.sxtThreshLow l.val).addr = true ∧ (¬ (8 ≤ low.val ∧ low.val < attn.val ∧ attn.val ≤ target.val ∧ target.val ≤ 200))) :=
  ⟨⟨laneT [(F.celLinkstatRateNow 0, 4)] { newLane with next := 62 }, 0, 9, 9, by decide +kernel⟩,
   ⟨T [(F.sxtEdgeLeft 0, 20), (F.sxtEdgeRight 0, 35), (F.sxtFom 0, 96)], 0, by decide +kernel⟩,
   ⟨T [(F.sxtFom 0, 95), (F.lanRxeqCtlePeak 0, 7), (F.lanRxeqCtleRange 0, 1)], 0, by decide +kernel⟩,
   ⟨T [(F.sxtFom 0, 95), (F.lanRxeqCtlePeak 0, 8), (F.lanRxeqCtleRange 0, 2)], 0, by decide +kernel⟩,
   ⟨T [], 0, 9, by decide +kernel⟩,
   ⟨(laneT [(F.sxtFom 0, 31)] newLane).modLnk (fun u => { u with lanes := [(0, [0])] }), ((laneT [(F.sxtFom 0, 31)] newLane).modLnk (fun u => { u with lanes := [(0, [0])] })).at 9, 0, 9, 0, by decide +kernel⟩,
   ⟨(laneT [(F.sxtFom 16, 31), (F.fnlWatchcntLowfom 8, 15)] newLane).modLnk (fun u => { u with lanes := [(8, [16])] }), ((laneT [(F.sxtFom 16, 31), (F.fnlWatchcntLowfom 8, 15)] newLane).modLnk (fun u => { u with lanes := [(8, [16])] })).at 9, 8, 9, 16, by decide +kernel⟩,
   ⟨seamT [], pilot, .pilot 0, 0, 200, 200, 8, by decide +kernel⟩,
   ⟨seamT [], pilot, .pilot 0, 0, 201, 200, 8, by decide +kernel⟩⟩

theorem witness_RangeChangesAndTrials :
    (∃ (s : State) (l : Fin 2048) (t : Nat), s.flag (F.lanModeActive l.val) = true ∧ s.get (F.lanRxeqCtleRange l.val) = 3) ∧
    (∃ (s : State) (l : Fin 2048) (t : Nat), s.flag (F.lanModeActive l.val) = true ∧ s.get (F.lanRxeqCtleRange l.val) = 0) ∧
    (∃ (s : State) (l : Fin 2048) (t : Nat), s.flag (F.lanModeActive l.val) = true ∧ s.get (F.lanRxeqCtleRange l.val) < 3) ∧
    (∃ (s : State) (l kind old new : Nat), (s.lane l).step = none ∧ (s.lane l).trial = none ∧ kind < 4 ∧ old < 4 ∧ new < 4) ∧
    (∃ (s : State) (l : Fin 2048) (t : Nat) (x : LaneTrial), (s.lane l.val).trial = some x ∧ x.running = false ∧ x.start + usec 8 ≤ (s.at t).now ∧ l.val ∉ s.lan.sweeping) ∧
    (∃ (s : State) (l : Fin 2048) (t1 t2 : Fin 256) (push : Bool) (t : Nat) (x : LaneTrial), (s.lane l.val).trial = some x ∧ x.running = true ∧ max t1.val t2.val - min t1.val t2.val ≤ s.get (F.sxtRangectlSlopeMax l.val) ∧ s.get (F.sxtFom l.val) + s.get (F.sxtRangectlGainMin l.val) ≤ t2.val) ∧
    (∃ (s : State) (l : Fin 2048) (t1 t2 : Fin 256) (push : Bool) (t : Nat) (x : LaneTrial), (s.lane l.val).trial = some x ∧ x.running = true ∧ max t1.val t2.val - min t1.val t2.val ≤ s.get (F.sxtRangectlSlopeMax l.val) ∧ t2.val < s.get (F.sxtFom l.val) + s.get (F.sxtRangectlGainMin l.val)) ∧
    (∃ (s : State) (l : Fin 2048) (t1 t2 : Fin 256) (push : Bool) (t : Nat) (x : LaneTrial), (s.lane l.val).trial = some x ∧ x.running = true ∧ s.get (F.sxtRangectlSlopeMax l.val) < max t1.val t2.val - min t1.val t2.val ∧ push = false ∧ (s.at t).now < x.first + usec (s.get (F.sxtRangectlDeferMax l.val))) :=
  ⟨⟨laneT [(F.lanRxeqCtleRange 0, 3)] newLane, 0, 9, by decide +kernel⟩,
   ⟨laneT [] newLane, 0, 9, by decide +kernel⟩,
   ⟨laneT [(F.lanRxeqCtleRange 0, 2)] newLane, 0, 9, by decide +kernel⟩,
   ⟨T [], 2047, 3, 3, 0, by decide +kernel⟩,
   ⟨laneT [] { newLane with trial := some (trial0 false true) }, 0, usec 8, trial0 false true, by decide +kernel⟩,
   ⟨laneT [(F.sxtFom 0, 10)] { newLane with trial := some (trial0 true false) }, 0, 6, 14, false, 9, trial0 true false, by decide +kernel⟩,
   ⟨laneT [(F.sxtFom 0, 10)] { newLane with trial := some (trial0 true false) }, 0, 5, 13, false, 9, trial0 true false, by decide +kernel⟩,
   ⟨laneT [] { newLane with trial := some (trial0 true false) }, 0, 0, 9, false, usec 50 - 1, trial0 true false, by decide +kernel⟩⟩

theorem witness_StepsAndSweepsComplete :
    (∃ (s : State) (p : Fin 1024) (t : Nat), s.flag (F.celLinkstatUp p.val) = true ∧ s.flag (F.lanQwstatReqIn (2 * p.val)) = true ∧ s.get (F.lanQwctlLen (2 * p.val)) * 1000000000 ≤ (s.at t).budget p.val) ∧
    (∃ (s : State) (p : Fin 1024) (t : Nat), (s.at t).budget p.val < s.get (F.lanQwctlLen (2 * p.val)) * 1000000000) ∧
    (∃ (s : State) (p : Fin 1024) (t : Nat), s.flag (F.celLinkstatUp p.val) = true ∧ s.chart.isFnl p.val = false) ∧
    (∃ (s r : State) (l : Fin 2048) (t : Nat) (x : LaneStep), r = s.at t ∧ (s.lane l.val).step = some x ∧ s.flag (F.celLinkstatUp (s.lanePleat l.val)) = true ∧ l.val ∉ s.lan.sweeping ∧ x.since + usec (10 * s.get (F.lanQwctlGapWait (2 * s.lanePleat l.val))) ≤ r.now) ∧
    (∃ (s : State) (l : Fin 2048) (a : LaneSettings) (t g w : Nat), s.flag (F.lanModeActive l.val) = true ∧ (s.lane l.val).goodSince = some g ∧ g + sec 1 ≤ (s.at t).now ∧ (s.lane l.val).wrote = none ∧ SMap.find? s.lnk.watchAt (s.lanePleat l.val) = some w ∧ w ≤ (s.at t).now ∧ SMap.find? s.nv.presets l.val = none) ∧
    (∃ (s : State) (l : Fin 2048) (a : LaneSettings) (t : Nat), (s.lane l.val).goodSince = none) ∧
    (∃ (s : State) (src : Sess) (who : Principal), s.serves src who ∧ who.isPilot = true ∧ s.flag F.hubSweepBusy = true) ∧
    (∃ (s : State) (src : Sess) (who : Principal), s.serves src who ∧ who.isPilot = true ∧ s.flag F.hubSweepBusy = false ∧ s.get F.hubSweepCount ≤ 64 ∧ (s.sweepLanes.filter fun l => s.flag (F.lanModeActive l)) ≠ [] ∧ (∀ l ∈ s.sweepLanes, l < 2048)) ∧
    (∃ (s : State) (l : Fin 2048) (ho vo : Fin 257) (eye : Fin 3) (t : Nat), s.lan.sweepOn = true ∧ s.lan.sweeping = [l.val] ∧ s.flag (F.lanModeActive l.val) = true ∧ s.lvc.queue = []) :=
  ⟨⟨laneT [(F.lanQwstatReqIn 16, 1)] newLane, 8, 9, by decide +kernel⟩,
   ⟨(T []).modLan (fun u => { u with budgets := [(8, (39999999999, 0))] }), 8, 0, by decide +kernel⟩,
   ⟨laneT [] newLane, 0, 9, by decide +kernel⟩,
   ⟨laneT [] { newLane with step := some step0 }, (laneT [] { newLane with step := some step0 }).at (usec 100), 0, usec 100, step0, by decide +kernel⟩,
   ⟨(laneT [] { newLane with goodSince := some 0 }).modLnk (fun u => { u with watchAt := [(0, 0)] }), 0, ⟨0, 0, List.replicate 12 0⟩, sec 1, 0, 0, by decide +kernel⟩,
   ⟨laneT [] newLane, 0, ⟨0, 0, List.replicate 12 0⟩, sec 1, by decide +kernel⟩,
   ⟨T [(F.hubSweepBusy, 1)], pilot, .pilot 0, by decide +kernel⟩,
   ⟨T [(F.hubSweepCount, 64), (F.hubSweepFirst, 1984), (F.lanModeActive 2047, 1)], pilot, .pilot 0, by decide +kernel⟩,
   ⟨(T [(F.lanModeActive 2047, 1)]).modLan (fun u => { u with sweepOn := true, sweeping := [2047] }), 2047, 256, 0, 2, 9, by decide +kernel⟩⟩

theorem witness_CodewordsComplete :
    (∃ (s : State) (p : Fin 1024) (cw : List (Fin 256)) (t : Nat), (s.chart.isFnl p.val = false ∨ s.flag (F.celLinkstatUp p.val) = false)) ∧
    (∃ (s r : State) (p : Fin 1024) (cw : List (Fin 256)) (t n : Nat), r = s.at t ∧ s.chart.isFnl p.val = true ∧ s.flag (F.celLinkstatUp p.val) = true ∧ SMap.find? s.lan.suspect p.val = some n ∧ 2 ≤ n) ∧
    (∃ (s : State) (p : Fin 1024) (cw : List (Fin 256)) (t : Nat), s.chart.isFnl p.val = true ∧ s.flag (F.celLinkstatUp p.val) = true ∧ SMap.find? s.lan.suspect p.val = none ∧ SMap.find? s.lan.asked p.val = none ∧ decodeCodeword (cw.map (·.val)) = none ∧ (s.fnl p.val).nakOut = false ∧ (s.fnl p.val).badRun ≠ 1 ∧ (s.fnl p.val).lockRun < 7 ∧ s.get (F.fnlWatchcntUncor p.val) < 255 ∧ s.get (F.fnlWatchcntUncor p.val) + 1 < s.get (F.fnlLinkctlUncorMax p.val)) ∧
    (∃ (s r : State) (p : Fin 1024) (cw : List (Fin 256)) (t : Nat) (w : List Nat), r = s.at t ∧ s.chart.isFnl p.val = true ∧ s.flag (F.celLinkstatUp p.val) = true ∧ SMap.find? s.lan.suspect p.val = none ∧ decodeCodeword (cw.map (·.val)) = some (w, 0) ∧ (r.goodCw p.val w).get (F.lanQwrcvd (2 * p.val)) = s.get (F.lanQwrcvd (2 * p.val))) ∧
    (∃ (s : State) (p : Fin 1024) (cw : List Nat) (h : Nat), h = (cw.take 8).foldr (fun b a => b + 256 * a) 0 ∧ s.flag (F.celLinkstatUp p.val) = true ∧ bitsOf h 36 2 = 0 ∧ bitsOf h 62 1 = 0 ∧ bitsOf h 63 1 = 0 ∧ bitsOf h 12 8 = 2 ∧ (s.fnl p.val).openData = 1 ∧ bitsOf h 0 12 = s.get (F.fnlSeqRxNext p.val)) :=
  ⟨⟨T [], 0, okCw, 9, by decide +kernel⟩,
   ⟨suspT 2, (suspT 2).at 9, 8, okCw, 9, 2, by decide +kernel⟩,
   ⟨fnlT [(F.fnlWatchcntUncor 8, 14)] { newFnl with lockRun := 6 }, 8, zeros 288, 9, by decide +kernel⟩,
   ⟨fnlT [] newFnl, (fnlT [] newFnl).at 9, 8, okCw, 9, okCw.map (·.val), by decide +kernel⟩,
   ⟨fnlT [(F.fnlSeqRxNext 8, 4095)] { newFnl with openData := 1 }, 8, [255, 47] ++ List.replicate 286 0, 0x2FFF, by decide +kernel⟩⟩

theorem witness_FnlControlsAndTimersComplete :
    (∃ (s : State) (p : Fin 1024) (b : TrainBlock), s.chart.isFnl p.val = true ∧ s.flag (F.celLinkstatUp p.val) = false) ∧
    (∃ (s : State) (p : Fin 1024) (b : TrainBlock), s.chart.isFnl p.val = true ∧ s.flag (F.celLinkstatUp p.val) = true) ∧
    (∃ (s : State) (p : Fin 1024) (l : List (Fin 65536)), s.chart.isFnl p.val = true) ∧
    (∃ (s : State) (p : Fin 1024), s.chart.isFnl p.val = false) ∧
    (∃ (s : State) (p : Fin 1024) (t a : Nat), s.flag (F.celLinkstatUp p.val) = true ∧ (s.fnl p.val).csyncAt = some a ∧ a + usec 1 ≤ (s.at t).now) ∧
    (∃ (s : State) (p : Fin 1024) (t a : Nat), s.flag (F.celLinkstatUp p.val) = true ∧ (s.fnl p.val).nakOut = true ∧ (s.fnl p.val).nakAt + s.replayTimeout p.val ≤ (s.at t).now) ∧
    (∃ (s : State) (p : Fin 1024) (t a : Nat) (c : SentCw) (l : List SentCw), s.flag (F.celLinkstatUp p.val) = true ∧ (s.fnl p.val).buffer = c :: l ∧ c.sentAt + s.replayTimeout p.val ≤ (s.at t).now ∧ (s.fnl p.val).oldReplays < s.get (F.fnlReplayctlReplayMax p.val)) ∧
    (∃ (s : State) (p : Fin 1024) (t a : Nat) (c : SentCw) (l : List SentCw), s.flag (F.celLinkstatUp p.val) = true ∧ (s.fnl p.val).buffer = c :: l ∧ c.sentAt + s.replayTimeout p.val ≤ (s.at t).now ∧ s.get (F.fnlReplayctlReplayMax p.val) ≤ (s.fnl p.val).oldReplays) ∧
    (∃ (s : State) (p : Fin 1024) (t : Nat), s.flag (F.celLinkstatUp p.val) = false) :=
  ⟨⟨T [], 8, ⟨4, false, 0, 3, 0, 65535, 4095, true, 0, List.replicate 6 9⟩, by decide +kernel⟩,
   ⟨fnlT [] newFnl, 8, ⟨4, false, 0, 3, 0, 65535, 4095, true, 0, List.replicate 6 9⟩, by decide +kernel⟩,
   ⟨fnlT [] newFnl, 8, List.replicate 6 65535, by decide +kernel⟩,
   ⟨T [], 0, by decide +kernel⟩,
   ⟨fnlT [] { newFnl with csyncAt := some 0 }, 8, usec 1, 0, by decide +kernel⟩,
   ⟨fnlT [] { newFnl with nakOut := true }, 8, usec 2, 0, by decide +kernel⟩,
   ⟨fnlT [] { newFnl with buffer := [⟨4095, 0, 1, 0, 0, false⟩], oldReplays := 3 }, 8, usec 2, 0, ⟨4095, 0, 1, 0, 0, false⟩, [], by decide +kernel⟩,
   ⟨fnlT [] { newFnl with buffer := [⟨4095, 0, 1, 0, 0, false⟩], oldReplays := 4 }, 8, usec 2, 0, ⟨4095, 0, 1, 0, 0, false⟩, [], by decide +kernel⟩,
   ⟨T [], 8, 9, by decide +kernel⟩⟩

theorem witness_TrainingCompletes :
    (∃ (s r : State) (p : Fin 1024) (good : Fin 65536) (t : Nat), r = s.at t ∧ s.chart.isFnl p.val = true ∧ s.get (F.fnlLinkstatState p.val) = 1 ∧ (s.fnl p.val).stage = 1) ∧
    (∃ (s r : State) (p : Fin 1024) (good : Fin 65536) (t : Nat), r = s.at t ∧ s.chart.isFnl p.val = true ∧ s.get (F.fnlLinkstatState p.val) = 1 ∧ (s.fnl p.val).stage = 2) ∧
    (∃ (s r : State) (p : Fin 1024) (good : Fin 65536) (t : Nat), r = s.at t ∧ s.chart.isFnl p.val = true ∧ s.get (F.fnlLinkstatState p.val) = 1 ∧ (s.fnl p.val).stage = 3) ∧
    (∃ (s r : State) (p : Fin 1024) (good : Fin 65536) (t : Nat) (w : Nat) (h : Bool), r = s.at t ∧ s.chart.isFnl p.val = true ∧ s.get (F.fnlLinkstatState p.val) = 1 ∧ (s.fnl p.val).stage = 4 ∧ s.chart.widest p.val (fun i => (s.fnl p.val).good.testBit i && (s.fnl p.val).peerGood.testBit i) = some (w, h)) ∧
    (∃ (s r : State) (p : Fin 1024) (good : Fin 65536) (t : Nat), r = s.at t ∧ s.chart.isFnl p.val = true ∧ s.get (F.fnlLinkstatState p.val) = 1 ∧ (s.fnl p.val).stage = 4 ∧ s.chart.widest p.val (fun i => (s.fnl p.val).good.testBit i && (s.fnl p.val).peerGood.testBit i) = none ∧ (s.fnl p.val).rate = 1) ∧
    (∃ (s r : State) (p : Fin 1024) (good : Fin 65536) (t : Nat), r = s.at t ∧ s.chart.isFnl p.val = true ∧ s.get (F.fnlLinkstatState p.val) = 1 ∧ (s.fnl p.val).stage = 4 ∧ s.chart.widest p.val (fun i => (s.fnl p.val).good.testBit i && (s.fnl p.val).peerGood.testBit i) = none ∧ (s.fnl p.val).rate = 0 ∧ s.flag (F.celHotplugPresent p.val) = true) ∧
    (∃ (s : State) (p : Fin 1024) (t : Nat), s.chart.isFnl p.val = true ∧ (s.at t).mayTrain p.val = true ∧ (s.fnl p.val).peerPhase = 4 ∧ s.get (F.fnlLinkstatState p.val) = 1 ∧ (s.fnl p.val).stage = 5 ∧ s.flag (F.fnlLinkstatGraceOn p.val) = false ∧ (s.fnl p.val).width ≤ 2 * s.chart.cells p.val ∧ s.chart.cells p.val ≤ 8 ∧ SMap.find? s.lnk.graceAt p.val = none) ∧
    (∃ (s : State) (p : Fin 1024) (t a : Nat), s.get (F.fnlLinkstatState p.val) = 2 ∧ SMap.find? s.lnk.resetAt p.val = some a ∧ a + usec 25 ≤ (s.at t).now) ∧
    (∃ (s : State) (p : Fin 1024) (t a : Nat), s.get (F.fnlLinkstatState p.val) = 2 ∧ SMap.find? s.lnk.resetAt p.val = some a ∧ (s.at t).now < a + usec 25) :=
  ⟨⟨trT [] newFnl, (trT [] newFnl).at 9, 8, 3, 9, by decide +kernel⟩,
   ⟨trT [] { newFnl with stage := 2 }, (trT [] { newFnl with stage := 2 }).at 9, 8, 3, 9, by decide +kernel⟩,
   ⟨trT [] { newFnl with stage := 3 }, (trT [] { newFnl with stage := 3 }).at 9, 8, 65535, 9, by decide +kernel⟩,
   ⟨trT [] { newFnl with stage := 4, good := 65535, peerGood := 65535 }, (trT [] { newFnl with stage := 4, good := 65535, peerGood := 65535 }).at 9, 8, 3, 9, 2 * chart0.cells 8, false, by decide +kernel⟩,
   ⟨trT [] { newFnl with stage := 4 }, (trT [] { newFnl with stage := 4 }).at 9, 8, 3, 9, by decide +kernel⟩,
   ⟨trT [] { newFnl with stage := 4, rate := 0 }, (trT [] { newFnl with stage := 4, rate := 0 }).at 9, 8, 3, 9, by decide +kernel⟩,
   ⟨trT [] { newFnl with stage := 5, peerPhase := 4, width := 2 }, 8, 9, by decide +kernel⟩,
   ⟨(T [(F.fnlLinkstatState 8, 2)]).modLnk (fun u => { u with resetAt := [(8, 0)] }), 8, usec 25, 0, by decide +kernel⟩,
   ⟨(T [(F.fnlLinkstatState 8, 2)]).modLnk (fun u => { u with resetAt := [(8, 0)] }), 8, usec 25 - 1, 0, by decide +kernel⟩⟩

theorem witness_LinkDownsComplete :
    (∃ (s : State) (p cause : Nat), s.flag (F.celLinkstatUp p) = false) ∧
    (∃ (s : State) (p : Fin 1024) (cause : Nat), s.flag (F.celLinkstatUp p.val) = true ∧ cause < 16 ∧ hasGrace cause = true ∧ s.get (F.fnlLinkctlGrace p.val) ≠ 0 ∧ s.chart.cells p.val ≤ 8 ∧ (countsDown cause = true → (s.recentDowns p.val).length + 1 < s.get (F.fnlRetirectlRetireCount p.val))) ∧
    (∃ (s : State) (p : Fin 1024) (t : Nat), s.chart.isFnl p.val = true) ∧
    (∃ (s : State) (p : Fin 1024) (t : Nat), s.chart.isFnl p.val = false) ∧
    (∃ (s : State) (p : Fin 1024) (t : Nat), s.chart.isUsp p.val = true) ∧
    (∃ (s : State) (p : Fin 1024) (t : Nat), s.chart.isDsp p.val = true) ∧
    (∃ (s : State) (p : Fin 1024) (t a : Nat), SMap.find? s.lnk.watchAt p.val = some a ∧ a + usec (100 * s.get (F.fnlLinkctlWatch p.val)) ≤ (s.at t).now) ∧
    (∃ (s : State) (p : Fin 1024) (t a : Nat), SMap.find? s.lnk.graceAt p.val = some a ∧ a + usec (100 * s.get (F.fnlLinkctlGrace p.val)) ≤ (s.at t).now) ∧
    (∃ (s : State) (p : Fin 1024) (t a : Nat), SMap.find? s.lnk.graceAt p.val = some a ∧ (s.at t).now < a + usec (100 * s.get (F.fnlLinkctlGrace p.val))) ∧
    (∃ (s : State) (src : Sess) (who : Principal) (p : Fin 1024), s.serves src who ∧ who.isPilot = true ∧ s.reach (F.fnlRetirectlReset p.val).addr = true ∧ s.get (F.fnlLinkstatState (s.chart.lead p.val)) ≠ 4) ∧
    (∃ (s : State) (src : Sess) (who : Principal) (p : Fin 1024), s.serves src who ∧ who.isPilot = true ∧ s.reach (F.fnlRetirectlReset p.val).addr = true ∧ s.get (F.fnlLinkstatState (s.chart.lead p.val)) = 4 ∧ (s.chart.lead p.val) < 1024) ∧
    (∃ (s : State) (p : Fin 1024) (t : Nat), s.flag (F.celLinkstatUp p.val) = true ∧ s.chart.isFnl p.val = false) :=
  ⟨⟨T [], 0, 15, by decide +kernel⟩,
   ⟨T upA, 0, 8, by decide +kernel⟩,
   ⟨T upA, 8, 9, by decide +kernel⟩,
   ⟨T upA, 0, 9, by decide +kernel⟩,
   ⟨T upA, 0, 9, by decide +kernel⟩,
   ⟨T upA, 4, 9, by decide +kernel⟩,
   ⟨lnkT (fun u => { u with watchAt := [(1023, 0)] }), 1023, usec 100000, 0, by decide +kernel⟩,
   ⟨lnkT (fun u => { u with graceAt := [(8, 0)] }), 8, usec 100000, 0, by decide +kernel⟩,
   ⟨lnkT (fun u => { u with graceAt := [(8, 5)] }), 8, 5, 5, by decide +kernel⟩,
   ⟨seamT [], pilot, .pilot 0, 8, by decide +kernel⟩,
   ⟨seamT [(F.fnlLinkstatState 8, 4)], pilot, .pilot 0, 8, by decide +kernel⟩,
   ⟨T upA, 0, 9, by decide +kernel⟩⟩

theorem witness_CollectorEventsComplete :
    (∃ (s : State) (c : Collector) (i : Fin 32) (cls : FaultClass), i.val < colInputs (colNum c)) ∧
    (∃ (s : State) (c i cls : Nat), s.inputMode c i ≠ 3) ∧
    (∃ (s : State) (c i cls : Nat), s.inputMode c i = 3 ∧ (s.get (F.colWiring (colBase c))).testBit i = true) ∧
    (∃ (s : State) (i : Nat), i < 20 ∧ s.inputMode hubCol i = 3 ∧ (s.get (F.colWiring (colBase hubCol))).testBit i = false ∧ s.flag (F.colFirstValid (colBase hubCol)) = false) ∧
    (∃ (s : State) (c : Collector) (i : Fin 32), i.val < colInputs (colNum c) ∧ s.inputMode (colNum c) i.val = 3 ∧ (s.get (F.colWiring (colBase (colNum c)))).testBit i.val = false) ∧
    (∃ (s : State) (c : Collector) (i : Fin 32), i.val < colInputs (colNum c) ∧ s.inputMode (colNum c) i.val ≠ 3 ∧ (s.get (F.colSsw (colBase (colNum c)))).testBit i.val = false) ∧
    (∃ (s : State) (c : Collector) (i : Fin 32), i.val < colInputs (colNum c) ∧ s.inputMode (colNum c) i.val ≠ 3 ∧ (s.get (F.colSsw (colBase (colNum c)))).testBit i.val = true ∧ (colNum c ≠ hubCol ∨ holdsReset i.val = false)) ∧
    (∃ (s : State) (c : Collector) (i : Fin 32) (t : Nat), (s.get (F.colWiring (colBase (colNum c)))).testBit i.val = true ∧ SMap.find? s.flt.quiet (32 * colNum c + i.val) = none) ∧
    (∃ (s : State) (src : Sess) (who : Principal) (c : Collector) (i : Fin 32) (q : Nat), s.serves src who ∧ who.isPilot = true ∧ s.reach (colBase (colNum c)) = true ∧ SMap.find? s.flt.quiet (32 * colNum c + i.val) = some q ∧ q + msec 1 ≤ s.now) ∧
    (∃ (s : State) (src : Sess) (who : Principal) (c : Collector) (i : Fin 32) (q : Nat), s.serves src who ∧ who.isPilot = true ∧ s.reach (colBase (colNum c)) = true ∧ SMap.find? s.flt.quiet (32 * colNum c + i.val) = some q ∧ s.now < q + msec 1) :=
  ⟨⟨T [], .hub, 19, .c1, by decide +kernel⟩,
   ⟨T [], 1160, 19, 2, by decide +kernel⟩,
   ⟨svcT [(F.colWiring (colBase 0), 256)] 0 8, 0, 8, 1, by decide +kernel⟩,
   ⟨svcT [] hubCol 19, 19, by decide +kernel⟩,
   ⟨svcT [] 0 8, .cell 0, 8, by decide +kernel⟩,
   ⟨T [], .region 7, 31, by decide +kernel⟩,
   ⟨T [(F.colSsw (colBase 1024), 512)], .block 0, 9, by decide +kernel⟩,
   ⟨T [(F.colWiring (colBase 0), 256)], .cell 0, 8, 9, by decide +kernel⟩,
   ⟨{ (seamT []).modFlt (fun u => { u with quiet := [(8, 0)] }) with now := msec 1 }, pilot, .pilot 0, .cell 0, 8, 0, by decide +kernel⟩,
   ⟨{ (seamT []).modFlt (fun u => { u with quiet := [(8, 0)] }) with now := msec 1 - 1 }, pilot, .pilot 0, .cell 0, 8, 0, by decide +kernel⟩⟩

theorem witness_SafeStateEntryAndRecord :
    (∃ (s : State) (src : Sess) (who : Principal), s.serves src who ∧ who.isHelm = true) ∧
    (∃ (s : State) (src : Sess) (who : Principal), s.serves src who ∧ who.isHelm = false) ∧
    (∃ (s : State) (cause c src : Nat), s.safeOn = true) ∧
    (∃ (s : State) (cause src : Nat) (c : Collector), s.safeOn = false ∧ cause < 8 ∧ src < 32 ∧ s.cpy.jobs = [] ∧ s.lvc.queue = [] ∧ s.lvc.slips = [] ∧ s.ecc.scrubs = []) :=
  ⟨⟨T [], helm, .helm, by decide +kernel⟩,
   ⟨T [], pilot, .pilot 0, by decide +kernel⟩,
   ⟨T [(F.fltSafeState, 2)], 7, 0, 31, by decide +kernel⟩,
   ⟨T [], 7, 31, .hub, by decide +kernel⟩⟩

theorem witness_AttentionAndInjection :
    (∃ (s : State) (t : Nat), s.flt.c0Start + sec 1 ≤ (s.at t).now) ∧
    (∃ (s : State) (t : Nat), (s.at t).now < s.flt.c0Start + sec 1) ∧
    (∃ (s : State) (src : Sess) (who : Principal) (a : Fin 66) (mask : Fin 65536), s.serves src who ∧ who ≠ .unclaimed ∧ who.audience = a.val ∧ s.get (F.fltAttnAckSeq a.val) = s.get (F.fltAttnSeq a.val) ∧ s.safeOn = false ∧ s.get (F.fltAttnPend a.val) < 65536) ∧
    (∃ (s : State) (src : Sess) (who : Principal) (a : Fin 66) (mask : Fin 65536), s.serves src who ∧ who ≠ .unclaimed ∧ who.audience = a.val ∧ s.get (F.fltAttnAckSeq a.val) ≠ s.get (F.fltAttnSeq a.val)) ∧
    (∃ (s : State) (src : Sess) (who : Principal) (a : Fin 66) (mask : Fin 65536), s.serves src who ∧ who.audience ≠ a.val) ∧
    (∃ (s : State) (src : Sess) (who : Principal) (c : Collector) (i : Fin 32) (cls : FaultClass), s.serves src who ∧ who.isHelm = true ∧ s.reach (colBase (colNum c)) = true ∧ i.val < colInputs (colNum c)) ∧
    (∃ (s : State) (src : Sess) (who : Principal) (c : Collector) (i : Fin 32) (b : Bool), s.serves src who ∧ who.isHelm = true ∧ s.testable (colNum c) i.val = true ∧ i.val < colInputs (colNum c)) ∧
    (∃ (s : State) (src : Sess) (who : Principal) (c : Collector) (i : Fin 32) (b : Bool), s.serves src who ∧ who.isHelm = true ∧ s.testable (colNum c) i.val = false) ∧
    (∃ (s : State) (src : Sess) (c : Collector) (i : Fin 32), s.inputMode (colNum c) i.val = 1) :=
  ⟨⟨T [], sec 1, by decide +kernel⟩,
   ⟨T [], sec 1 - 1, by decide +kernel⟩,
   ⟨T [(F.fltAttnSeq 65, 7), (F.fltAttnAckSeq 65, 7), (F.fltAttnPend 65, 65535)], helm, .helm, ⟨audHelm, by decide⟩, 65535, by decide +kernel⟩,
   ⟨T [(F.fltAttnSeq audHelm, 7)], helm, .helm, ⟨audHelm, by decide⟩, 1, by decide +kernel⟩,
   ⟨T [], pilot, .pilot 0, 0, 1, by decide +kernel⟩,
   ⟨T [], helm, .helm, .hub, 19, .c3, by decide +kernel⟩,
   ⟨T [], helm, .helm, .hub, 19, true, by decide +kernel⟩,
   ⟨svcT [] hubCol 19, helm, .helm, .hub, 19, false, by decide +kernel⟩,
   ⟨(T []).setMode 0 8 1, helm, .cell 0, 8, by decide +kernel⟩⟩

theorem witness_StoredDataComplete :
    (∃ (s : State) (u : Fin 9) (p : ErrPlace) (after : Bool) (w : Spoiled) (t : Nat), placeIn u.val p = true ∧ s.unitOn u.val = true) ∧
    (∃ (s : State) (u : Fin 9) (p : ErrPlace) (after : Bool) (w : Spoiled) (t : Nat), (placeIn u.val p = false ∨ s.unitOn u.val = false)) ∧
    (∃ (s : State) (src : Sess) (who : Principal) (u : Fin 9), s.serves src who ∧ who.isOwner = true ∧ s.reach (eccBase u.val) = true ∧ s.flag (F.eccScrubBusy (eccBase u.val)) = true) ∧
    (∃ (s : State) (src : Sess) (who : Principal) (u : Fin 9), s.serves src who ∧ who.isOwner = true ∧ s.reach (eccBase u.val) = true ∧ s.flag (F.eccScrubBusy (eccBase u.val)) = false ∧ s.unitOn u.val = true ∧ (s.get (F.eccScrubTarget (eccBase u.val)) = 0x3F → u.val ≠ 8 ∧ u.val ∉ s.home.lostStacks)) ∧
    (∃ (s : State) (u : Fin 9) (t : Nat) (j : ScrubJob), SMap.find? s.ecc.scrubs u.val = some j ∧ j.granted = true ∧ s.flag (F.eccScrubPaused (eccBase u.val)) = false ∧ (j.target = 0x3F → j.next ≤ j.last)) ∧
    (∃ (s : State) (u : Fin 9) (t : Nat) (j : ScrubJob) (found : List MemError), SMap.find? s.ecc.scrubs u.val = some j ∧ (j.granted = false ∨ s.flag (F.eccScrubPaused (eccBase u.val)) = true)) ∧
    (∃ (s : State) (u : Fin 9) (t i : Nat) (x : Slip) (j : ScrubJob), SMap.find? s.ecc.scrubs u.val = some j ∧ j.granted = true ∧ ((s.lvc.slips.filter fun e => e.2.purpose == .scrub u).head?) = some (i, x) ∧ ((s.at t).renewSlip i).2 = none) ∧
    (∃ (s : State) (u : Fin 9) (t : Nat) (j : ScrubJob), SMap.find? s.ecc.scrubs u.val = some j ∧ j.granted = true ∧ (j.target = 0x3F → j.last < j.next) ∧ s.lvc.queue = []) ∧
    (∃ (s : State) (src : Sess) (who : Principal), s.serves src who ∧ who.isHelm = true ∧ s.flag F.eccFusecmdBusy = true) ∧
    (∃ (s : State) (src : Sess) (who : Principal), s.serves src who ∧ who.isHelm = true ∧ s.flag F.eccFusecmdBusy = false ∧ s.get F.eccFusecmdInstance ≤ 8 ∧ s.get (F.eccRepairqState (eccBase (s.get F.eccFusecmdInstance)) (s.get F.eccFusecmdEntry)) = 2) ∧
    (∃ (s : State) (t u e key : Nat), s.ecc.burning = some (u, e, key) ∧ u ≤ 8 ∧ e < 16 ∧ s.get (F.eccRepairqState (eccBase u) e) = 2) ∧
    (∃ (s : State) (g : Fin 8) (e : Fin 16) (t : Nat), s.get (F.eccRepairqState (eccBase g.val) e.val) ≠ 4) ∧
    (∃ (s : State) (g : Fin 8) (e : Fin 16) (t key : Nat), s.get (F.eccRepairqState (eccBase g.val) e.val) = 4 ∧ s.get (F.eccRepairqKind (eccBase g.val) e.val) = 0 ∧ s.get (F.eccRepairqGroup (eccBase g.val) e.val) < 16 ∧ 2 ≤ s.freePool g.val ∧ s.rowFree g.val (s.get (F.eccRepairqGroup (eccBase g.val) e.val)) (s.get (F.eccRepairqMacro (eccBase g.val) e.val)) (s.get (F.eccRepairqIndex (eccBase g.val) e.val)) = true ∧ key = repairKey g.val 0 (s.get (F.eccRepairqGroup (eccBase g.val) e.val)) (s.get (F.eccRepairqMacro (eccBase g.val) e.val)) (s.get (F.eccRepairqIndex (eccBase g.val) e.val)) ∧ key ∉ s.ecc.rowsOut) :=
  ⟨⟨T [], 8, .sram 3 255 4095 3 71 7 2, true, .directoryCache, 9, by decide +kernel⟩,
   ⟨T [], 8, .sram 4 0 0 0 0 0 0, true, .directoryCache, 9, by decide +kernel⟩,
   ⟨seamT [(F.eccScrubBusy (eccBase 0), 1)], pilot, .pilot 0, 0, by decide +kernel⟩,
   ⟨seamT [(F.eccScrubTarget (eccBase 0), 0x3F)], pilot, .pilot 0, 0, by decide +kernel⟩,
   ⟨eccT [] (fun u => { u with scrubs := [(0, scrub0 true false 0x3F 7 7)] }), 0, 9, scrub0 true false 0x3F 7 7, by decide +kernel⟩,
   ⟨eccT [] (fun u => { u with scrubs := [(8, scrub0 false false 3 0 7)] }), 8, 9, scrub0 false false 3 0 7, [], by decide +kernel⟩,
   ⟨eccT [] (fun u => { u with scrubs := [(0, scrub0 true true 0x3F 7 7)] }), 0, 9, 0, slip0 (.scrub 0), scrub0 true true 0x3F 7 7, by decide +kernel⟩,
   ⟨eccT [] (fun u => { u with scrubs := [(0, scrub0 true true 0x3F 8 7)] }), 0, 9, scrub0 true true 0x3F 8 7, by decide +kernel⟩,
   ⟨T [(F.eccFusecmdBusy, 1)], helm, .helm, by decide +kernel⟩,
   ⟨T [(F.eccFusecmdInstance, 8), (F.eccFusecmdEntry, 15), (F.eccRepairqState (eccBase 8) 15, 2)], helm, .helm, by decide +kernel⟩,
   ⟨eccT [(F.eccRepairqState (eccBase 8) 15, 2)] (fun u => { u with burning := some (8, 15, 5) }), 9, 8, 15, 5, by decide +kernel⟩,
   ⟨T [], 7, 15, 9, by decide +kernel⟩,
   ⟨T [(F.eccRepairqState (eccBase 0) 15, 4), (F.rgnBoltcapCapacity 0, 2), (F.eccRepairqGroup (eccBase 0) 15, 15)], 0, 15, 9, repairKey 0 0 15 0 0, by decide +kernel⟩⟩

theorem witness_FeedsComplete :
    (∃ (s : State) (f : Fin 2) (v : Fin 1001) (t : Nat), s.feed f.val = fsAbsent ∧ 350 < v.val) ∧
    (∃ (s : State) (f : Fin 2) (v : Fin 1001) (t : Nat), s.feed f.val = fsQualify ∧ v.val ≤ 350) ∧
    (∃ (s : State) (f : Fin 2) (t : Nat), s.feed f.val = fsQualify ∧ (s.at t).mayStart f.val = true ∧ (s.feedTimer f.val).since + msec (10 * s.get (F.pwrFeedctlQual f.val)) ≤ (s.at t).now) ∧
    (∃ (s : State) (f : Fin 2) (t : Nat), s.feed f.val = fsStart ∧ s.pwr.feedA.qualified = false ∧ s.pwr.feedB.qualified = false ∧ (¬ (s.get F.rstStatPhase = 0 ∧ s.get F.rstCauseSource = 3))) ∧
    (∃ (s : State) (f : Fin 2) (v : Fin 330) (t : Nat), s.feedIn f.val [fsStart, fsOn, fsLimit] = true ∧ s.riding = false) ∧
    (∃ (s : State) (f : Fin 2) (t : Nat), s.feedIn f.val [fsStart, fsOn, fsLimit] = true) ∧
    (∃ (s : State) (f : Fin 2) (t : Nat), s.feed f.val = fsLimit ∧ (s.feedTimer f.val).since + usec (100 * s.get (F.pwrFeedctlOcTime f.val)) ≤ (s.at t).now) ∧
    (∃ (s : State) (f : Fin 2) (t : Nat), s.feed f.val = fsStart ∧ (s.feedTimer f.val).since + msec (10 * s.get (F.pwrFeedctlStartTime f.val)) ≤ (s.at t).now) ∧
    (∃ (s : State) (f : Fin 2) (t : Nat), s.feed f.val = fsWaitRetry ∧ (s.feedTimer f.val).since + msec (100 * s.get (F.pwrFeedctlRetryInt f.val)) ≤ (s.at t).now) ∧
    (∃ (s : State) (f : Fin 2) (t : Nat), s.feed f.val = fsOn ∧ (s.feedTimer f.val).since + sec 60 ≤ (s.at t).now) ∧
    (∃ (s : State) (f : Fin 2) (cause : Nat), cause < 8 ∧ s.inputMode hubCol 15 = 3 ∧ (s.get (F.colWiring (colBase hubCol))).testBit 15 = false ∧ s.get (F.pwrFeedstatRetryCount f.val) < s.get (F.pwrFeedctlRetries f.val)) ∧
    (∃ (s : State) (f : Fin 2) (t : Nat), s.feed f.val = fsStart ∧ (s.feedTimer f.val).since + msec 2 ≤ (s.at t).now ∧ s.inputMode hubCol 15 = 3 ∧ (s.get (F.colWiring (colBase hubCol))).testBit 15 = false) ∧
    (∃ (s : State) (src : Sess) (who : Principal) (f : Fin 2), s.serves src who ∧ who.isHelm = true ∧ s.feed f.val = fsLatched) ∧
    (∃ (s : State) (src : Sess) (who : Principal) (f : Fin 2), s.serves src who ∧ who.isHelm = true ∧ s.feed f.val ≠ fsLatched) ∧
    (∃ (s : State) (src : Sess) (who : Principal) (f : Fin 2), s.serves src who ∧ who.isHelm = true ∧ s.feed f.val = fsRetired) ∧
    (∃ (s : State) (src : Sess) (who : Principal) (f : Fin 2), s.serves src who ∧ who.isHelm = true ∧ s.ldoSlipOk (s.get F.pwrLdoSlip) = true) ∧
    (∃ (s : State) (src : Sess) (who : Principal) (f : Fin 2), s.serves src who ∧ who.isHelm = true ∧ s.ldoSlipOk (s.get F.pwrLdoSlip) = false) ∧
    (∃ (s : State) (f : Fin 2) (t : Nat), s.feed f.val = fsAbsent) :=
  ⟨⟨T [], 1, 351, 9, by decide +kernel⟩,
   ⟨T [(F.pwrFeedstatState 1, 1)], 1, 350, 9, by decide +kernel⟩,
   ⟨feedT [(F.pwrFeedstatState 1, 1), (F.pwrFeedctlQual 1, 3)], 1, msec 30, by decide +kernel⟩,
   ⟨feedT [(F.pwrFeedstatState 0, 2)], 0, 9, by decide +kernel⟩,
   ⟨feedT [(F.pwrFeedstatState 0, 4)], 0, 329, 9, by decide +kernel⟩,
   ⟨feedT [(F.pwrFeedstatState 0, 3)], 0, 9, by decide +kernel⟩,
   ⟨feedT [(F.pwrFeedstatState 0, 4), (F.pwrFeedctlOcTime 0, 5)], 0, usec 500, by decide +kernel⟩,
   ⟨feedT [(F.pwrFeedstatState 0, 2), (F.pwrFeedctlStartTime 0, 5)], 0, msec 50, by decide +kernel⟩,
   ⟨feedT [(F.pwrFeedstatState 0, 5), (F.pwrFeedctlRetryInt 0, 5)], 0, msec 500, by decide +kernel⟩,
   ⟨feedT [(F.pwrFeedstatState 0, 3)], 0, sec 60, by decide +kernel⟩,
   ⟨feedT [(F.pwrFeedstatState 0, 3), (F.pwrFeedctlRetries 0, 3), (F.pwrFeedstatRetryCount 0, 2)], 0, 7, by decide +kernel⟩,
   ⟨feedT [(F.pwrFeedstatState 0, 2)], 0, msec 2, by decide +kernel⟩,
   ⟨feedT [(F.pwrFeedstatState 0, 6)], helm, .helm, 0, by decide +kernel⟩,
   ⟨feedT [(F.pwrFeedstatState 0, 5)], helm, .helm, 0, by decide +kernel⟩,
   ⟨feedT [(F.pwrFeedstatState 1, 7)], helm, .helm, 1, by decide +kernel⟩,
   ⟨{ T [] with lvc := ⟨[(0, { slip0 .ldoFull with kind := 11 })], none, []⟩ }, helm, .helm, 0, by decide +kernel⟩,
   ⟨T [], helm, .helm, 0, by decide +kernel⟩,
   ⟨T [], 1, 9, by decide +kernel⟩⟩

theorem witness_StoreAndRailsComplete :
    (∃ (s : State) (v : Fin 1001) (t : Nat), s.get (F.pwrFeedstatOringOn 0) = 0 ∧ s.get (F.pwrFeedstatOringOn 1) = 0 ∧ s.pwr.oringOff + usec 2 ≤ (s.at t).now ∧ s.riding = false ∧ s.shed = false) ∧
    (∃ (s : State) (f : Fin 2) (t : Nat), s.riding = true ∧ s.shed = false ∧ (s.at t).now ≤ s.pwr.rideStart + s.shedDelay ∧ s.lvc.queue = []) ∧
    (∃ (s : State) (t : Nat), s.riding = false) ∧
    (∃ (s : State) (t : Nat), s.riding = true ∧ s.shed = false ∧ s.get (F.pwrFeedstatOringOn 0) = 0 ∧ s.get (F.pwrFeedstatOringOn 1) = 0 ∧ s.pwr.rideStart + s.shedDelay ≤ (s.at t).now ∧ s.lvc.slips = [] ∧ s.lvc.queue = [] ∧ s.cpy.jobs = [] ∧ s.ecc.scrubs = []) ∧
    (∃ (s : State) (r : Fin 26), s.flag (F.pwrRailFrozen r.val) = true) ∧
    (∃ (s : State) (r : Fin 26), s.flag (F.pwrRailFrozen r.val) = false ∧ s.inputMode hubCol 15 = 3 ∧ (s.get (F.colWiring (colBase hubCol))).testBit 15 = false ∧ min (s.get (F.pwrRailTimeouts r.val) + 1) (2 ^ (F.pwrRailTimeouts r.val).width - 1) < s.get F.pwrAvsctlFailMax) ∧
    (∃ (s : State) (x : RailReading) (m : InputMeas) (t : Nat), s.flag (F.pwrRailFrozen x.rail.val) = false) ∧
    (∃ (s : State) (t : Nat), s.lvc.saveSlip = none ∧ (∀ e ∈ s.lvc.slips, e.2.kind = 11 → e.2.extended = true) ∧ s.lvc.queue = []) ∧
    (∃ (s : State) (f : Fin 2) (v : Fin 1001) (t : Nat), s.feed f.val = fsLatched ∧ v.val ≤ 350) :=
  ⟨⟨noFeed [], 480, usec 2, by decide +kernel⟩,
   ⟨noFeed [(F.pwrRideRiding, 1), (F.pwrRideShedDelay, 3)], 0, usec 3, by decide +kernel⟩,
   ⟨T [], 9, by decide +kernel⟩,
   ⟨noFeed [(F.pwrRideRiding, 1), (F.pwrRideShedDelay, 3)], usec 3, by decide +kernel⟩,
   ⟨T [(F.pwrRailFrozen 25, 1)], 25, by decide +kernel⟩,
   ⟨feedT [(F.pwrAvsctlFailMax, 3), (F.pwrRailTimeouts 0, 1)], 0, by decide +kernel⟩,
   ⟨T [], ⟨25, 4095, 9, true⟩, ⟨480, 480, 0, 3, 0, 100, 9⟩, 9, by decide +kernel⟩,
   ⟨{ T [] with lvc := ⟨[(0, { slip0 .ldoFull with kind := 11, extended := true })], none, []⟩ }, 9, by decide +kernel⟩,
   ⟨feedT [(F.pwrFeedstatState 0, 6)], 0, 350, 9, by decide +kernel⟩⟩

theorem witness_LeaveCommandsComplete :
    (∃ (s : State) (q : Purpose) (t : Nat), s.hasLeave q = true) ∧
    (∃ (s r : State) (q : Purpose) (t : Nat), r = s.at t ∧ s.hasLeave q = false ∧ r.decideLeave (r.leaveFigures q) none = .grant) ∧
    (∃ (s r : State) (q : Purpose) (t : Nat) (why : Nat), r = s.at t ∧ s.hasLeave q = false ∧ r.decideLeave (r.leaveFigures q) none = .refuse why) ∧
    (∃ (s r : State) (q : Purpose) (t : Nat) (why : Nat), r = s.at t ∧ s.hasLeave q = false ∧ r.decideLeave (r.leaveFigures q) none = .defer why ∧ s.lvc.queue.length < 32) ∧
    (∃ (s : State) (q : LeaveReq), q.kind ≠ 10 ∧ (∃ g : Fin 8, q.purpose = .copyEngine g)) ∧
    (∃ (s : State) (q : LeaveReq) (mine : Option Nat), s.safeOn = true ∧ q.kind ≠ 10 ∧ q.kind ≠ 11) ∧
    (∃ (s : State) (t : Nat), s.lvc.queue = []) ∧
    (∃ (s r : State) (t : Nat), r = s.at t ∧ (∀ q ∈ s.lvc.queue, r.limitedWait q = false)) ∧
    (∃ (s r y : State) (t : Nat) (q : LeaveReq), r = s.at t ∧ s.lvc.queue = [q] ∧ r.limitedWait q = false ∧ y = r.modLvc (fun u => { u with queue := [] }) ∧ r.decideLeave q none = .grant) ∧
    (∃ (s r y : State) (t : Nat) (q : LeaveReq) (why : Nat), r = s.at t ∧ s.lvc.queue = [q] ∧ r.limitedWait q = false ∧ y = r.modLvc (fun u => { u with queue := [] }) ∧ r.decideLeave q none = .refuse why) ∧
    (∃ (s r y : State) (t : Nat) (q : LeaveReq) (why : Nat), r = s.at t ∧ s.lvc.queue = [q] ∧ r.limitedWait q = false ∧ y = r.modLvc (fun u => { u with queue := [] }) ∧ r.decideLeave q none = .defer why) ∧
    (∃ (s r : State) (t : Nat) (q : LeaveReq), r = s.at t ∧ s.lvc.queue = [q] ∧ r.limitedWait q = true) ∧
    (∃ (s : State) (i : Fin 32) (t : Nat) (x : Slip), SMap.find? s.lvc.slips i.val = some x ∧ ((s.at t).renewSlip i.val).2 = none) ∧
    (∃ (s : State) (i : Fin 32) (t : Nat) (x : Slip), SMap.find? s.lvc.slips i.val = some x ∧ (s.at t).now < x.expiry) ∧
    (∃ (s : State) (i : Fin 32) (t : Nat) (x : Slip), SMap.find? s.lvc.slips i.val = some x ∧ x.expiry ≤ (s.at t).now ∧ x.extended = false ∧ x.kind ≠ 11 ∧ s.lvc.queue = []) ∧
    (∃ (s : State) (src : Sess) (who : Principal), s.serves src who ∧ who.isOwner = true ∧ (s.ownSlip who) = none) ∧
    (∃ (s : State) (src : Sess) (who : Principal) (x : Slip), s.serves src who ∧ who.isOwner = true ∧ s.ownSlip who = some x ∧ x.kind ≠ 11) ∧
    (∃ (s : State) (src : Sess) (who : Principal), s.serves src who ∧ who.isOwner = true ∧ s.get F.lvcReqKind = 0xB ∧ who.isHelm = true) ∧
    (∃ (s : State) (src : Sess) (who : Principal), s.serves src who ∧ who.isOwner = true ∧ s.get F.lvcReqKind = 0xC) ∧
    (∃ (s : State) (src : Sess) (who : Principal), s.serves src who ∧ who.isOwner = true ∧ s.get F.lvcReqKind ≠ 0xB ∧ s.get F.lvcReqKind ≠ 0xC) :=
  ⟨⟨lvcT [] [(31, slip0 .bulkSweep)], .bulkSweep, 9, by decide +kernel⟩,
   ⟨T [], (T []).at 9, .copyEngine 7, 9, by decide +kernel⟩,
   ⟨T [(F.fltSafeState, 2)], (T [(F.fltSafeState, 2)]).at 9, .copyEngine 7, 9, reasonSafe, by decide +kernel⟩,
   ⟨deferT, deferT.at 9, .copyEngine 7, 9, reasonInput, by decide +kernel⟩,
   ⟨lvcT [] (List.range 31 |>.map fun i => (i, slip0 .bulkSweep)), ⟨4, .copyEngine 7, 0, 7, 45000, 2000, [], [], [], 0⟩, by decide +kernel⟩,
   ⟨T [(F.fltSafeState, 1)], ⟨4, .copyEngine 7, 0, 7, 45000, 2000, [], [], [], 0⟩, none, by decide +kernel⟩,
   ⟨T [], 9, by decide +kernel⟩,
   ⟨T [], (T []).at 9, 9, by decide +kernel⟩,
   ⟨(T []).modLvc (fun u => { u with queue := [⟨4, .copyEngine 7, 0, 7, 45000, 2000, [], [], [], 0⟩] }), ((T []).modLvc (fun u => { u with queue := [⟨4, .copyEngine 7, 0, 7, 45000, 2000, [], [], [], 0⟩] })).at 9, (((T []).modLvc (fun u => { u with queue := [⟨4, .copyEngine 7, 0, 7, 45000, 2000, [], [], [], 0⟩] })).at 9).modLvc (fun u => { u with queue := [] }), 9, ⟨4, .copyEngine 7, 0, 7, 45000, 2000, [], [], [], 0⟩, by decide +kernel⟩,
   ⟨(T [(F.fltSafeState, 2)]).modLvc (fun u => { u with queue := [⟨4, .copyEngine 7, 0, 7, 45000, 2000, [], [], [], 0⟩] }), ((T [(F.fltSafeState, 2)]).modLvc (fun u => { u with queue := [⟨4, .copyEngine 7, 0, 7, 45000, 2000, [], [], [], 0⟩] })).at 9, (((T [(F.fltSafeState, 2)]).modLvc (fun u => { u with queue := [⟨4, .copyEngine 7, 0, 7, 45000, 2000, [], [], [], 0⟩] })).at 9).modLvc (fun u => { u with queue := [] }), 9, ⟨4, .copyEngine 7, 0, 7, 45000, 2000, [], [], [], 0⟩, reasonSafe, by decide +kernel⟩,
   ⟨(deferT).modLvc (fun u => { u with queue := [⟨4, .copyEngine 7, 0, 7, 45000, 2000, [], [], [], 0⟩] }), ((deferT).modLvc (fun u => { u with queue := [⟨4, .copyEngine 7, 0, 7, 45000, 2000, [], [], [], 0⟩] })).at 9, (((deferT).modLvc (fun u => { u with queue := [⟨4, .copyEngine 7, 0, 7, 45000, 2000, [], [], [], 0⟩] })).at 9).modLvc (fun u => { u with queue := [] }), 9, ⟨4, .copyEngine 7, 0, 7, 45000, 2000, [], [], [], 0⟩, reasonInput, by decide +kernel⟩,
   ⟨(T [(F.chtCtrlLeaveWait, 0)]).modLvc (fun u => { u with queue := [⟨2, .bulkSweep, 0, 15, 25, 1, [], [], [], 0⟩] }), ((T [(F.chtCtrlLeaveWait, 0)]).modLvc (fun u => { u with queue := [⟨2, .bulkSweep, 0, 15, 25, 1, [], [], [], 0⟩] })).at 9, 9, ⟨2, .bulkSweep, 0, 15, 25, 1, [], [], [], 0⟩, by decide +kernel⟩,
   ⟨lvcT [] [(31, slip0 (.copyEngine 0))], 31, 9, slip0 (.copyEngine 0), by decide +kernel⟩,
   ⟨lvcT [] [(31, slip0 (.copyEngine 0))], 31, msec 1 - 1, slip0 (.copyEngine 0), by decide +kernel⟩,
   ⟨lvcT [] [(31, slip0 (.copyEngine 0))], 31, msec 1, slip0 (.copyEngine 0), by decide +kernel⟩,
   ⟨lvcT [] [], helm, .helm, by decide +kernel⟩,
   ⟨lvcT [(F.lvcCtlSlip, 31)] [(31, { slip0 (.otherMgt true) with kind := 12, owner := 1 })], helm, .helm, { slip0 (.otherMgt true) with kind := 12, owner := 1 }, by decide +kernel⟩,
   ⟨T [(F.lvcReqKind, 11)], helm, .helm, by decide +kernel⟩,
   ⟨T [(F.lvcReqKind, 12)], pilot, .pilot 0, by decide +kernel⟩,
   ⟨T [(F.lvcReqKind, 13)], pilot, .pilot 0, by decide +kernel⟩⟩

theorem witness_PowerStatesComplete :
    (∃ (s : State) (src : Sess) (who : Principal), s.serves src who ∧ who.isHelm = true ∧ s.pstateRefusal 2 ≠ 0) ∧
    (∃ (s : State) (src : Sess) (who : Principal), s.serves src who ∧ who.isHelm = true ∧ s.pstateRefusal 3 ≠ 0) ∧
    (∃ (s : State) (src : Sess) (who : Principal), s.serves src who ∧ who.isHelm = true ∧ s.pstateRefusal 0 ≠ 0) ∧
    (∃ (s : State) (src : Sess) (who : Principal), s.serves src who ∧ who.isHelm = true ∧ s.pstateRefusal 2 = 0) ∧
    (∃ (s : State) (src : Sess) (who : Principal), s.serves src who ∧ who.isHelm = true ∧ s.pstateRefusal 3 = 0) ∧
    (∃ (s : State) (src : Sess) (who : Principal), s.serves src who ∧ who.isHelm = true ∧ s.pstateRefusal 0 = 0) ∧
    (∃ (s : State) (src : Sess) (who : Principal), s.serves src who ∧ who.isHelm = true ∧ s.flag F.rstPadrelHeld = false) ∧
    (∃ (s : State) (src : Sess) (who : Principal), s.serves src who ∧ who.isHelm = true ∧ s.flag F.rstPadrelHeld = true) ∧
    (∃ (s : State) (req : Nat), s.home.dir ≠ []) ∧
    (∃ (s : State) (t : Nat), s.chtu.quiesced = true ∧ s.pwr.saveStart = none ∧ s.pwr.entry = 2) ∧
    (∃ (s : State) (t : Nat), s.chtu.quiesced = true ∧ s.pwr.saveStart = none ∧ s.pwr.entry = 3 ∧ s.pwr.laterWake = 0) ∧
    (∃ (s : State) (wakeL : Bool) (t : Nat), s.pwr.entry = 3) ∧
    (∃ (s : State) (wakeL : Bool) (t : Nat), s.pwr.entry ≠ 3 ∧ s.unpowered = true ∧ s.pwr.shedPhase = 0 ∧ (s.feed 0 = fsStandby ∨ s.feed 1 = fsStandby)) :=
  ⟨⟨T [(F.pwrRideRiding, 1)], helm, .helm, by decide +kernel⟩,
   ⟨T [(F.fltSafeState, 1)], helm, .helm, by decide +kernel⟩,
   ⟨T [], helm, .helm, by decide +kernel⟩,
   ⟨T [], helm, .helm, by decide +kernel⟩,
   ⟨T [], helm, .helm, by decide +kernel⟩,
   ⟨T [(F.rstPstateCur, 2)], helm, .helm, by decide +kernel⟩,
   ⟨T [], helm, .helm, by decide +kernel⟩,
   ⟨T [(F.rstPadrelHeld, 1)], helm, .helm, by decide +kernel⟩,
   ⟨ownedT, 2, by decide +kernel⟩,
   ⟨p2T [] 2, 9, by decide +kernel⟩,
   ⟨p2T [] 3, 9, by decide +kernel⟩,
   ⟨p2T [] 3, true, 9, by decide +kernel⟩,
   ⟨regs [(F.pwrFeedstatState 1, 8)], false, 9, by decide +kernel⟩⟩

theorem witness_ResetsComplete :
    (∃ (s : State) (source : Nat) (whole : Bool), source < 8) ∧
    (∃ (s : State) (t : Nat), s.unpowered = true ∧ s.pwr.shedPhase = 0 ∧ s.flag F.almStatPending = false ∧ s.feedIn 0 [fsOn, fsLimit] = true) ∧
    (∃ (s : State) (t : Nat), s.unpowered = true ∧ s.pwr.shedPhase = 4 ∧ s.feedIn 0 [fsOn, fsLimit] = true) ∧
    (∃ (s : State) (t : Nat), s.unpowered = false) ∧
    (∃ (s : State) (ns t : Nat), ns < 2000) ∧
    (∃ (s : State) (ns t : Nat), 2000 ≤ ns ∧ s.unpowered = false ∧ s.pwr.saveStart = none) ∧
    (∃ (s : State) (ns t : Nat), 2000 ≤ ns ∧ s.unpowered = false ∧ s.pwr.saveStart.isSome = true ∧ s.pwr.laterReset = 0) ∧
    (∃ (s : State) (t : Nat), s.flag F.rstWdogEn = true ∧ 3 ≤ s.get F.rstStatPhase ∧ s.pwr.saveStart = none ∧ s.pwr.kicked + msec (100 * s.get F.rstWdogTimeout) ≤ (s.at t).now) ∧
    (∃ (s : State) (t : Nat), s.flag F.rstWdogEn = true ∧ 3 ≤ s.get F.rstStatPhase ∧ s.pwr.saveStart = none ∧ (s.at t).now < s.pwr.kicked + msec (100 * s.get F.rstWdogTimeout)) ∧
    (∃ (s : State) (src : Sess) (who : Principal), s.serves src who ∧ who.isHelm = true ∧ s.pwr.saveStart = none) ∧
    (∃ (s : State) (src : Sess) (who : Principal) (n : Fin 128), s.serves src who ∧ who.isPilot = true ∧ s.reach (F.blkSwresetGo n.val).addr = true ∧ (∀ p : Nat, s.inbandPleat src = some p → p / 8 ≠ n.val) ∧ s.flag (F.blkSwresetBusy n.val) = false ∧ s.bgBusy (sessNum src) = false) ∧
    (∃ (s : State) (src : Sess) (who : Principal) (n : Fin 128), s.serves src who ∧ who.isPilot = true ∧ s.reach (F.blkSwresetGo n.val).addr = true ∧ (∀ p : Nat, s.inbandPleat src = some p → p / 8 ≠ n.val) ∧ s.flag (F.blkSwresetBusy n.val) = true) ∧
    (∃ (s : State) (src : Sess) (who : Principal) (n : Fin 128) (p : Nat), s.serves src who ∧ who.isPilot = true ∧ s.reach (F.blkSwresetGo n.val).addr = true ∧ s.inbandPleat src = some p ∧ p / 8 = n.val) ∧
    (∃ (s : State) (src : Sess) (who : Principal) (g : Fin 8), s.serves src who ∧ who.isOwner = true ∧ s.bgBusy (sessNum src) = false ∧ (∃ v : Fin 64, s.slotSlice v.val / 9 = g.val)) ∧
    (∃ (s : State) (src : Sess) (who : Principal) (g : Fin 8), s.serves src who ∧ who.isOwner = true ∧ s.bgBusy (sessNum src) = false ∧ (∀ v : Fin 64, s.slotSlice v.val / 9 ≠ g.val) ∧ s.regionPowered g.val = true) ∧
    (∃ (s : State) (p : Fin 1024) (t : Nat), s.chart.isLead p.val = true ∧ s.chart.isOff p.val = false) :=
  ⟨⟨T [], 7, true, by decide +kernel⟩,
   ⟨regs [(F.pwrFeedstatState 0, 3)], 9, by decide +kernel⟩,
   ⟨(regs [(F.pwrFeedstatState 0, 4)]).modPwr (fun u => { u with shedPhase := 4 }), 9, by decide +kernel⟩,
   ⟨wdT, 9, by decide +kernel⟩,
   ⟨wdT, 1999, 9, by decide +kernel⟩,
   ⟨wdT, 2000, 9, by decide +kernel⟩,
   ⟨saveT, 2000, 9, by decide +kernel⟩,
   ⟨wdT, msec 700, by decide +kernel⟩,
   ⟨wdT, msec 700 - 1, by decide +kernel⟩,
   ⟨wdT, helm, .helm, by decide +kernel⟩,
   ⟨seamT [], pilot, .pilot 0, 0, by decide +kernel, by decide +kernel, by decide +kernel, fun p h => absurd (h.symm.trans (show (seamT []).inbandPleat pilot = none by decide +kernel)) (by simp), by decide +kernel, by decide +kernel⟩,
   ⟨seamT [(F.blkSwresetBusy 0, 1)], pilot, .pilot 0, 0, by decide +kernel, by decide +kernel, by decide +kernel, fun p h => absurd (h.symm.trans (show (seamT [(F.blkSwresetBusy 0, 1)]).inbandPleat pilot = none by decide +kernel)) (by simp), by decide +kernel⟩,
   ⟨{ seamT [] with sessions := [(1, ⟨.pilot 0, .inband 7, [], 2, 0⟩)] }, pilot, .pilot 0, 0, 7, by decide +kernel⟩,
   ⟨T [], helm, .helm, 0, by decide +kernel⟩,
   ⟨{ T [(F.hubTopoRegionPowered, 3)] with chart := chart0 }, helm, .helm, 1, by decide +kernel⟩,
   ⟨T [], 8, 9, by decide +kernel⟩⟩

theorem witness_StartUpAndAlmanacComplete :
    (∃ (s : State) (took : Fin 501) (t : Nat), s.get F.rstStatPhase = 2 ∧ s.get F.rstCauseSource ≠ 2 ∧ s.get F.rstCauseSource ≠ 3) ∧
    (∃ (s : State) (took : Nat), s.get F.rstCauseSource = 3 ∧ s.flag F.almStatPending = true ∧ s.flag F.almStatSlot0Valid = false ∧ s.flag F.almStatSlot1Valid = false) ∧
    (∃ (s : State) (took : Fin 501) (t : Nat), s.get F.rstStatPhase ≠ 2) ∧
    (∃ (s : State) (g : Fin 8) (t : Nat), g.val ∉ s.pwr.powering) ∧
    (∃ (s : State) (g : Fin 8) (t : Nat), g.val ∈ s.pwr.powering ∧ s.lvc.queue = []) ∧
    (∃ (s : State) (t : Nat), (s.get F.rstStatPhase ≠ 5 ∨ s.flt.holdReset = true)) ∧
    (∃ (s : State) (t : Nat), s.get F.rstStatPhase = 5 ∧ s.flt.holdReset = false ∧ (∀ g : Fin 8, s.chart.attached.testBit g.val = true → s.regionPowered g.val = true ∨ g.val ∈ s.seam.out) ∧ s.flag F.rstPadrelHeld = true) ∧
    (∃ (s : State) (t a : Nat), s.pwr.saveStart = some a ∧ s.pwr.saveEvent ≠ 2 ∧ s.pwr.laterReset = 0 ∧ s.flag F.almStatSlot0Valid = false ∧ s.flag F.almStatSlot1Valid = false) ∧
    (∃ (s : State) (t : Nat), s.pwr.shedPhase ≠ 1) ∧
    (∃ (s : State) (t : Nat), s.pwr.shedPhase = 1 ∧ s.pwr.saveStart.isSome = true) ∧
    (∃ (s : State) (r : Fin 26), 24 ≤ r.val) ∧
    (∃ (s : State) (r : Fin 26), r.val < 24 ∧ s.regionPowered (r.val / 3) = true) ∧
    (∃ (s : State) (r : Fin 26), r.val < 24 ∧ s.regionPowered (r.val / 3) = false) ∧
    (∃ (s : State) (src : Sess) (who : Principal) (w : Fin (2 ^ 32)), s.serves src who ∧ who.isHelm = true) :=
  ⟨⟨T [(F.rstStatPhase, 2)], 500, 9, by decide +kernel⟩,
   ⟨T [(F.rstCauseSource, 3), (F.almStatPending, 1)], 9, by decide +kernel⟩,
   ⟨T [(F.rstStatPhase, 4)], 500, 9, by decide +kernel⟩,
   ⟨T [], 7, 9, by decide +kernel⟩,
   ⟨(T []).modPwr (fun u => { u with powering := [7] }), 7, 9, by decide +kernel⟩,
   ⟨T [(F.rstStatPhase, 6)], 9, by decide +kernel⟩,
   ⟨{ T [(F.rstStatPhase, 5), (F.rstPadrelHeld, 1)] with chart := [(chartKey 1 0 0, [1, 0])] }, 9, by decide +kernel⟩,
   ⟨(T []).modPwr (fun u => { u with saveStart := some 0, saveEvent := 3 }), 9, 0, by decide +kernel⟩,
   ⟨T [], 9, by decide +kernel⟩,
   ⟨(T []).modPwr (fun u => { u with shedPhase := 1, saveStart := some 0 }), 9, by decide +kernel⟩,
   ⟨T [], 25, by decide +kernel⟩,
   ⟨T [], 2, by decide +kernel⟩,
   ⟨T [], 23, by decide +kernel⟩,
   ⟨T [(F.almRetainOffset, 16383)], helm, .helm, 0xFFFFFFFF, by decide +kernel⟩⟩

theorem witness_SafeStateExit :
    (∃ (s : State) (t : Nat), s.get F.fltSafeState = 1 ∧ s.flt.safeAt + usec 100 ≤ (s.at t).now) ∧
    (∃ (s : State) (t : Nat), (s.at t).now < s.flt.safeAt + usec 100) ∧
    (∃ (s : State) (src : Sess) (who : Principal), s.serves src who ∧ who.isHelm = true ∧ s.get F.fltSafeState = 0) ∧
    (∃ (s : State) (src : Sess) (who : Principal), s.serves src who ∧ who.isHelm = true ∧ s.get F.fltSafeState = 1) ∧
    (∃ (s : State) (src : Sess) (who : Principal), s.serves src who ∧ who.isHelm = true ∧ s.get F.fltSafeState = 2 ∧ s.causePersists = true) ∧
    (∃ (s : State) (src : Sess) (who : Principal), s.serves src who ∧ who.isHelm = true ∧ s.get F.fltSafeState = 2 ∧ s.causePersists = false) :=
  ⟨⟨T [(F.fltSafeState, 1)], usec 100, by decide +kernel⟩,
   ⟨T [(F.fltSafeState, 1)], usec 100 - 1, by decide +kernel⟩,
   ⟨T [], helm, .helm, by decide +kernel⟩,
   ⟨T [(F.fltSafeState, 1)], helm, .helm, by decide +kernel⟩,
   ⟨(T [(F.fltSafeState, 2), (F.fltSafeCause, 2)]).modFlt (fun u => { u with selfLive := [0] }), helm, .helm, by decide +kernel⟩,
   ⟨T [(F.fltSafeState, 2), (F.hubRefstatAGood, 1), (F.hubRefstatRootLock, 1), (F.hubXbarstatMode, 3)], helm, .helm, by decide +kernel⟩⟩

theorem witness_CountersAndTallyComplete :
    (∃ (s : State) (src : Sess) (who : Principal) (k : Fin 1824) (event : Fin 256) (mode : Fin 4) (sub : Fin 256) (berth : Fin 64) (be ch en : Bool), s.serves src who ∧ who.isPilot = true ∧ s.reach (ctrAddr k.val) = true) ∧
    (∃ (s : State) (src : Sess) (who : Principal) (k : Fin 1824), s.serves src who ∧ who.isPilot = true ∧ s.reach (ctrAddr k.val) = true) ∧
    (∃ (s : State) (src : Sess) (who : Principal) (k : Fin 1824), s.serves src who ∧ who.isPilot = true ∧ s.reach (ctrAddr k.val) = false) ∧
    (∃ (s : State) (src : Sess) (who : Principal), s.serves src who ∧ who.isPilot = true ∧ s.flag F.talStatBusy = false) ∧
    (∃ (s : State) (src : Sess) (who : Principal), s.serves src who ∧ who.isPilot = true ∧ s.flag F.talStatBusy = true ∧ s.tal.byPeriod = false) ∧
    (∃ (s : State) (src : Sess) (who : Principal), s.serves src who ∧ who.isPilot = true ∧ s.tal.waiting = true) ∧
    (∃ (s : State) (src : Sess) (who : Principal), s.serves src who ∧ who.isPilot = true ∧ s.tal.waiting = false) ∧
    (∃ (s : State) (loc : Nat × Nat) (code n : Nat) (sub : Nat → Bool) (berth : Option Nat), s.flag F.talStatFrozen = true) ∧
    (∃ (s : State) (t : Nat), s.get F.talCtlPeriod = 0) ∧
    (∃ (s : State) (t : Nat), s.get F.talCtlPeriod ≠ 0 ∧ s.tal.periodAt + usec (100 * s.get F.talCtlPeriod) ≤ (s.at t).now) ∧
    (∃ (s : State) (t : Nat), s.tal.latch = none) ∧
    (∃ (s : State) (t : Nat) (b : TallyBuf), s.tal.latch = some b ∧ s.get F.talStatFront = 0 ∧ s.get F.talSeq < 2 ^ 32 - 1 ∧ s.flag F.talCtlHold = false) ∧
    (∃ (s : State) (t : Nat) (b : TallyBuf), s.tal.latch = some b ∧ s.get F.talStatFront = 0 ∧ s.get F.talSeq < 2 ^ 32 - 1 ∧ s.flag F.talCtlHold = true) :=
  ⟨⟨seamT [], pilot, .pilot 0, 0, 255, 3, 255, 63, true, true, true, by decide +kernel⟩,
   ⟨seamT [], pilot, .pilot 0, 0, by decide +kernel⟩,
   ⟨T [], pilot, .pilot 0, 8, by decide +kernel⟩,
   ⟨T [], pilot, .pilot 0, by decide +kernel⟩,
   ⟨T [(F.talStatBusy, 1)], pilot, .pilot 0, by decide +kernel⟩,
   ⟨talT [(F.talCtlHold, 1)] (fun u => { u with waiting := true, latch := some buf0 }), pilot, .pilot 0, by decide +kernel⟩,
   ⟨talT [(F.talCtlHold, 1)] id, pilot, .pilot 0, by decide +kernel⟩,
   ⟨T [(F.talStatFrozen, 1)], (0, 0), 255, 1, anySub, none, by decide +kernel⟩,
   ⟨T [], 9, by decide +kernel⟩,
   ⟨T [(F.talCtlPeriod, 5)], usec 500, by decide +kernel⟩,
   ⟨T [], 9, by decide +kernel⟩,
   ⟨talT [(F.talSeq, 2 ^ 32 - 2)] (fun u => { u with latch := some buf0 }), usec 500, buf0, by decide +kernel⟩,
   ⟨talT [(F.talCtlHold, 1)] (fun u => { u with latch := some buf0 }), usec 500, buf0, by decide +kernel⟩⟩

theorem witness_ThermalComplete :
    (∃ (s : State) (r : TempReading) (v : Fin 1521), r.value = some v ∧ s.sensorLive r.sensor.val = true) ∧
    (∃ (s : State) (r : TempReading), r.value = none) ∧
    (∃ (s : State) (l : List TempReading) (t : Nat), s.unpowered = true) ∧
    (∃ (s r : State) (l : List TempReading) (t : Nat), s.unpowered = false ∧ r = (l.foldl State.takeReading (s.at t)).staleSensors) ∧
    (∃ (s : State), s.lvc.queue = []) ∧
    (∃ (s : State) (d : Fin 9) (t : Nat), (s.at t).dieBlind d.val = false) ∧
    (∃ (s r : State) (d : Fin 9) (t : Nat), r = s.at t ∧ r.dieBlind d.val = true) ∧
    (∃ (s : State) (t a : Nat), s.get F.hubThermState = 1 ∧ s.thm.coolSince = some a ∧ a + sec 1 ≤ (s.at t).now) ∧
    (∃ (s : State) (t a : Nat), s.get F.hubThermState = 1 ∧ s.thm.coolSince = some a ∧ (s.at t).now < a + sec 1) ∧
    (∃ (s : State) (src : Sess) (who : Principal), s.serves src who ∧ who.isHelm = true) :=
  ⟨⟨T [(F.rstStatPhase, 6)], ⟨0, some 1520⟩, 1520, by decide +kernel⟩,
   ⟨T [], ⟨27, none⟩, by decide +kernel⟩,
   ⟨regs [], [⟨0, some 1520⟩], 9, by decide +kernel⟩,
   ⟨wdT, ([⟨0, some 1520⟩].foldl State.takeReading (wdT.at 9)).staleSensors, [⟨0, some 1520⟩], 9, by decide +kernel⟩,
   ⟨T [], by decide +kernel⟩,
   ⟨wdT, 0, 9, by decide +kernel⟩,
   ⟨wdT, wdT.at (msec 1), 0, msec 1, by decide +kernel⟩,
   ⟨(T [(F.hubThermState, 1)]).modThm (fun u => { u with coolSince := some 0 }), sec 1, 0, by decide +kernel⟩,
   ⟨(T [(F.hubThermState, 1)]).modThm (fun u => { u with coolSince := some 0 }), sec 1 - 1, 0, by decide +kernel⟩,
   ⟨T [], helm, .helm, by decide +kernel⟩⟩

theorem witness_EndpointCommandsComplete :
    (∃ (s : State) (path : MgtPath) (eid : Fin 256), s.pathUp path = true ∧ carriesMctp path = true ∧ eid.val ≠ 0 ∧ eid.val ≠ 0xFF) ∧
    (∃ (s : State) (path : MgtPath) (eid : Fin 256), s.pathUp path = true ∧ carriesMctp path = true ∧ (eid.val = 0 ∨ eid.val = 0xFF)) ∧
    (∃ (s : State) (path : MgtPath) (ty : Fin 256), s.pathUp path = true ∧ carriesMctp path = true ∧ ty.val ∈ [0, 5, 6, 7]) ∧
    (∃ (s : State) (path : MgtPath) (ty : Fin 256), s.pathUp path = true ∧ carriesMctp path = true ∧ ty.val ∉ [0, 5, 6, 7, 0xFF]) ∧
    (∃ (s : State) (path : MgtPath) (eid ty : Fin 256), (s.pathUp path = false ∨ carriesMctp path = false)) ∧
    (∃ (s : State) (da : Fin 128) (a : Fin 128), s.pathUp .i3c = true ∧ a.val = 0x38 + Sys2Proof.Config.straps.val) ∧
    (∃ (s : State) (da : Fin 128) (a : Fin 128), s.pathUp .i3c = true ∧ a.val ≠ 0x38 + Sys2Proof.Config.straps.val) ∧
    (∃ (s : State) (da : Fin 128), s.pathUp .i3c = true ∧ s.get F.mgtI3cstatDa = 0) ∧
    (∃ (s : State) (da : Fin 128), s.pathUp .i3c = true ∧ s.get F.mgtI3cstatDa ≠ 0) :=
  ⟨⟨mgtT [] id, .i3c, 254, by decide +kernel⟩,
   ⟨mgtT [] id, .i3c, 255, by decide +kernel⟩,
   ⟨mgtT [] id, .i3c, 7, by decide +kernel⟩,
   ⟨mgtT [] id, .ethernet, 8, by decide +kernel⟩,
   ⟨regs [], .i3c, 9, 5, by decide +kernel⟩,
   ⟨mgtT [] id, 9, ⟨0x38 + Sys2Proof.Config.straps.val, by omega⟩, by decide +kernel, rfl⟩,
   ⟨mgtT [] id, 9, 0x37, by decide +kernel, by show 0x37 ≠ 0x38 + Sys2Proof.Config.straps.val; omega⟩,
   ⟨mgtT [] id, 127, by decide +kernel⟩,
   ⟨mgtT [(F.mgtI3cstatDa, 9)] id, 127, by decide +kernel⟩⟩

theorem witness_PacketsAndDatagramsComplete :
    (∃ (s : State) (path : MgtPath) (pkt : MctpPacket), s.pathUp path = true ∧ carriesMctp path = true ∧ path ≠ .ethernet ∧ pkt.body.length ≤ 64 ∧ pkt.som = true ∧ pkt.eom = true ∧ pkt.mtype.val ∉ [0, 5, 6, 7]) ∧
    (∃ (s : State) (path : MgtPath) (pkt : MctpPacket), s.pathUp path = true ∧ carriesMctp path = true ∧ path ≠ .ethernet ∧ pkt.body.length ≤ 64 ∧ pkt.som = true ∧ pkt.eom = true ∧ pkt.mtype.val = 7) ∧
    (∃ (s : State) (pkt : MctpPacket), s.pathUp .i3c = true ∧ 64 < pkt.body.length) ∧
    (∃ (s : State) (pkt : MctpPacket), s.pathUp .i3c = true ∧ pkt.body.length ≤ 64 ∧ pkt.som = false ∧ SMap.find? s.mgt.asm pkt.tag.val = none) ∧
    (∃ (s : State) (pkt : MctpPacket), s.pathUp .i3c = true ∧ pkt.body.length ≤ 64 ∧ pkt.som = true ∧ pkt.eom = false) ∧
    (∃ (s : State) (d : Datagram) (t : Nat), (s.at t).pathUp .ethernet = false) ∧
    (∃ (s r : State) (d : Datagram) (t n : Nat), r = s.at t ∧ r.pathUp .ethernet = true ∧ n = (if r.mgt.ethSecond = r.now / sec 1 then r.mgt.ethCount + 1 else 1) ∧ 10000 < n) ∧
    (∃ (s r : State) (d : Datagram) (t n : Nat), r = s.at t ∧ r.pathUp .ethernet = true ∧ n = (if r.mgt.ethSecond = r.now / sec 1 then r.mgt.ethCount + 1 else 1) ∧ n ≤ 10000) ∧
    (∃ (s : State) (a : Fin (2 ^ 32)), s.flag F.mgtEthcfgStatic = false ∧ s.flag F.mgtEthstatAddrOk = false) :=
  ⟨⟨mgtT [] id, .i3c, pkt true true 8 64, by decide +kernel⟩,
   ⟨mgtT [] id, .i3c, pkt true true 7 64, by decide +kernel⟩,
   ⟨mgtT [] id, pkt true true 7 65, by decide +kernel⟩,
   ⟨mgtT [] id, pkt false true 7 64, by decide +kernel⟩,
   ⟨mgtT [] id, pkt true false 7 64, by decide +kernel⟩,
   ⟨regs [], .dhcpLease 5, 9, by decide +kernel⟩,
   ⟨mgtT [] (fun u => { u with ethCount := 10000 }), (mgtT [] (fun u => { u with ethCount := 10000 })).at 9, .dhcpLease 5, 9, 10001, by decide +kernel⟩,
   ⟨mgtT [] (fun u => { u with ethCount := 9999 }), (mgtT [] (fun u => { u with ethCount := 9999 })).at 9, .dhcpLease 5, 9, 10000, by decide +kernel⟩,
   ⟨mgtT [] id, 0xFFFFFFFF, by decide +kernel⟩⟩

theorem witness_SessionsOpenAndEnd :
    (∃ (s r : State) (path : MgtPath) (key : List (Fin 256)) (id : Fin (2 ^ 32)) (t : Nat), r = s.at t ∧ r.pathUp path = true ∧ r.freeSession path = none) ∧
    (∃ (s r : State) (path : MgtPath) (key : List (Fin 256)) (id : Fin (2 ^ 32)) (t : Nat) (n : Nat), r = s.at t ∧ r.pathUp path = true ∧ r.freeSession path = some n ∧ (isPublicKey (key.map (·.val)) = false ∨ r.whoHolds path (sha384 (key.map (·.val))) = none)) ∧
    (∃ (s r : State) (path : MgtPath) (key : List (Fin 256)) (id : Fin (2 ^ 32)) (t : Nat) (n : Nat) (p : Principal), r = s.at t ∧ r.pathUp path = true ∧ r.freeSession path = some n ∧ isPublicKey (key.map (·.val)) = true ∧ r.whoHolds path (sha384 (key.map (·.val))) = some p) ∧
    (∃ (s : State) (path : MgtPath) (key : List (Fin 256)) (id : Fin (2 ^ 32)) (t : Nat), (s.at t).pathUp path = false ∧ s.pathUp path = false) ∧
    (∃ (s : State) (d : List Nat) (p : Fin 1024), s.get F.mgtCredHelmProg = 0) ∧
    (∃ (s : State) (d : List Nat) (v : Fin 64) (p : Principal), s.whoHolds (.mailbox v) d = some p) ∧
    (∃ (s : State) (path : MgtPath), s.pathUp path = true) ∧
    (∃ (s r : State) (src : Sess) (t : Nat) (x : SessionRec), r = s.at t ∧ s.session src = some x ∧ x.last + sec 10 ≤ r.now) ∧
    (∃ (s r : State) (src : Sess) (t : Nat) (x : SessionRec), r = s.at t ∧ s.session src = some x ∧ r.now < x.last + sec 10) ∧
    (∃ (s : State) (n : Nat) (m : Nat), m ≠ n) ∧
    (∃ (s : State) (src : Sess) (t : Nat), s.session src = none) :=
  ⟨⟨{ mgtT [] id with sessions := (List.range 8).map fun i => (i, ⟨.helm, .i3c, [], 1, 0⟩) }, ({ mgtT [] id with sessions := (List.range 8).map fun i => (i, ⟨.helm, .i3c, [], 1, 0⟩) } : State).at 9, .i3c, [], 1, 9, by decide +kernel⟩,
   ⟨mgtT [] id, (mgtT [] id).at 9, .ethernet, zeros 97, 1, 9, 3, by decide +kernel⟩,
   ⟨mgtT [] id, (mgtT [] id).at 9, .i3c, keyG, 1, 9, 3, .unclaimed, by decide +kernel⟩,
   ⟨T [(F.rstStatPhase, 3)], .i3c, zeros 1, 1, 9, by decide +kernel⟩,
   ⟨T [], [], 0, by decide +kernel⟩,
   ⟨nvT [] (fun v => { v with berthKeys := [(3, [1])] }), [1], 0, .berth 3, by decide +kernel⟩,
   ⟨mgtT [] id, .i3c, by decide +kernel⟩,
   ⟨T [], (T []).at (sec 10), helm, sec 10, ⟨.helm, .i3c, [], 1, 0⟩, by decide +kernel⟩,
   ⟨T [], (T []).at (sec 10 - 1), helm, sec 10 - 1, ⟨.helm, .i3c, [], 1, 0⟩, by decide +kernel⟩,
   ⟨T [], 0, 1, by decide +kernel⟩,
   ⟨T [], .slot 3, 9, by decide +kernel⟩⟩

theorem witness_GenericCommandsComplete :
    (∃ (s : State) (src : Sess) (p : Principal) (n : Fin 65536), s.serves src p ∧ p.claimed = true ∧ 256 ≤ n.val ∧ n.val ≤ 4104) ∧
    (∃ (s : State) (src : Sess) (p : Principal) (n : Fin 65536), s.serves src p ∧ p.claimed = true ∧ (n.val < 256 ∨ 4104 < n.val)) ∧
    (∃ (s : State) (src : Sess) (p : Principal), s.serves src p ∧ p.claimed = true ∧ (s.bgs.any fun b => b.sess == sessNum src && b.live && b.running && b.opcode == 0xC040) = false) ∧
    (∃ (s : State) (src : Sess) (p : Principal), s.serves src p ∧ p.claimed = true ∧ (s.bgs.any fun b => b.sess == sessNum src && b.live && b.running && b.opcode == 0xC040) = true) ∧
    (∃ (s : State) (src : Sess) (p : Principal) (cmd : Fin 256), s.serves src p ∧ p.isPilot = true ∧ (cmd.val = 0 ∨ 6 < cmd.val)) ∧
    (∃ (s : State) (src : Sess) (p : Principal) (cmd : Fin 256), s.serves src p ∧ p.isPilot = true ∧ 1 ≤ cmd.val ∧ cmd.val ≤ 6 ∧ s.bgBusy (sessNum src) = true) ∧
    (∃ (s : State) (src : Sess) (p : Principal) (cmd : Fin 256), s.serves src p ∧ p.isPilot = true ∧ 1 ≤ cmd.val ∧ cmd.val ≤ 6 ∧ s.bgBusy (sessNum src) = false) ∧
    (∃ (s : State) (src : Sess) (p : Principal) (c : Fin 1024), s.serves src p ∧ p.isPilot = true ∧ s.reach (0x2000000 + 0x1000 * c.val) = true) ∧
    (∃ (s : State) (src : Sess) (p : Principal) (c : Fin 1024), s.serves src p ∧ p.isPilot = true ∧ s.reach (0x2000000 + 0x1000 * c.val) = false) :=
  ⟨⟨T [], helm, .helm, 256, by decide +kernel⟩,
   ⟨T [], helm, .helm, 4105, by decide +kernel⟩,
   ⟨T [], helm, .helm, by decide +kernel⟩,
   ⟨bgT 0xC040, pilot, .pilot 0, by decide +kernel⟩,
   ⟨T [], pilot, .pilot 0, 7, by decide +kernel⟩,
   ⟨bgT 0x5201, pilot, .pilot 0, 1, by decide +kernel⟩,
   ⟨T [], pilot, .pilot 0, 6, by decide +kernel⟩,
   ⟨seamT [], pilot, .pilot 0, 4, by decide +kernel⟩,
   ⟨T [], pilot, .pilot 0, 4, by decide +kernel⟩⟩

theorem witness_FuseCommandsComplete :
    (∃ (s : State) (src : Sess) (p : Principal) (slot : Fin 256) (key : List (Fin 256)), s.serves src p ∧ p.isHelm = true ∧ s.mayProgram slot.val = true ∧ isPublicKey (key.map (·.val)) = true) ∧
    (∃ (s : State) (src : Sess) (p : Principal) (slot : Fin 256) (key : List (Fin 256)), s.serves src p ∧ p.isHelm = true ∧ (s.mayProgram slot.val = false ∨ isPublicKey (key.map (·.val)) = false)) ∧
    (∃ (s : State) (src : Sess) (p : Principal) (slot : Fin 256), s.serves src p ∧ p.isHelm = true ∧ s.mayRevoke slot.val = true) ∧
    (∃ (s : State) (src : Sess) (p : Principal) (slot : Fin 256), s.serves src p ∧ p.isHelm = true ∧ s.mayRevoke slot.val = false) ∧
    (∃ (s : State) (src : Sess) (p : Principal) (pin : Fin 65536) (b : Bool), s.serves src p ∧ p.isHelm = true ∧ s.pinFuse pin.val = some b ∧ b = false) ∧
    (∃ (s : State) (src : Sess) (p : Principal) (pin : Fin 65536) (b : Bool), s.serves src p ∧ p.isHelm = true ∧ s.pinFuse pin.val = some b ∧ b = true) ∧
    (∃ (s : State) (src : Sess) (p : Principal) (key : List (Fin 256)) (old : Nat), s.serves src p ∧ p.isHelm = true ∧ s.helmSlot = some old ∧ isPublicKey (key.map (·.val)) = true ∧ (∀ i : Nat, i < 4 → (s.get F.mgtCredHelmProg).testBit i = true)) ∧
    (∃ (s : State) (src : Sess) (p : Principal) (key : List (Fin 256)) (old : Nat) (n : Nat), s.serves src p ∧ p.isHelm = true ∧ s.helmSlot = some old ∧ isPublicKey (key.map (·.val)) = true ∧ n < 4 ∧ (s.get F.mgtCredHelmProg).testBit n = false ∧ (∀ i : Nat, i < n → (s.get F.mgtCredHelmProg).testBit i = true)) ∧
    (∃ (s : State) (src : Sess) (x : SessionRec) (key : List (Fin 256)), s.serves src .unclaimed ∧ s.session src = some x ∧ s.get F.mgtCredHelmProg = 0 ∧ isPublicKey (key.map (·.val)) = true) ∧
    (∃ (s : State) (src : Sess) (x : SessionRec) (key : List (Fin 256)), s.serves src .unclaimed ∧ s.session src = some x ∧ (s.get F.mgtCredHelmProg ≠ 0 ∨ isPublicKey (key.map (·.val)) = false)) ∧
    (∃ (s : State) (src : Sess) (t slot : Nat) (d : List Nat) (live : Bool) (rest : List BurnJob), slot < 4 ∧ s.mgt.burns = ⟨sessNum src, live, .keyProgram slot d⟩ :: rest ∧ s.mayProgram slot = true) ∧
    (∃ (s : State) (src : Sess) (t slot : Nat) (d : List Nat) (live : Bool) (rest : List BurnJob), slot < 4 ∧ s.mgt.burns = ⟨sessNum src, live, .keyProgram slot d⟩ :: rest ∧ live = true) ∧
    (∃ (s : State) (src : Sess) (t : Nat) (i c : List Nat) (rest : List BurnJob), s.mgt.burns = ⟨sessNum src, true, .helmClaim i c⟩ :: rest ∧ s.get F.mgtCredHelmProg = 0) ∧
    (∃ (s : State) (src : Sess) (t n old : Nat) (d : List Nat) (rest : List BurnJob), n < 4 ∧ old < 4 ∧ s.mgt.burns = ⟨sessNum src, true, .helmRotate n d old⟩ :: rest ∧ (s.get F.mgtCredHelmProg).testBit n = false ∧ s.helmSlot = some old) ∧
    (∃ (s : State) (src : Sess) (ok burned : Bool) (t : Nat), (∀ j ∈ s.mgt.burns, j.sess ≠ sessNum src)) :=
  ⟨⟨T [], helm, .helm, 3, keyG, by decide +kernel⟩,
   ⟨T [], helm, .helm, 4, keyG, by decide +kernel⟩,
   ⟨nvT [(F.chtKeyslotProgrammed, 3)] id, helm, .helm, 1, by decide +kernel⟩,
   ⟨nvT [(F.chtKeyslotProgrammed, 1)] id, helm, .helm, 0, by decide +kernel⟩,
   ⟨T [], helm, .helm, 512, false, by decide +kernel⟩,
   ⟨T [(F.rstPinfuseMgeRst, 1)], helm, .helm, 512, true, by decide +kernel⟩,
   ⟨T [(F.mgtCredHelmProg, 15), (F.mgtCredHelmRev, 7)], helm, .helm, keyG, 3, by decide +kernel⟩,
   ⟨T [(F.mgtCredHelmProg, 1)], helm, .helm, keyG, 0, 1, by decide +kernel⟩,
   ⟨T [], nobody, ⟨.unclaimed, .i3c, [], 3, 0⟩, keyG, by decide +kernel⟩,
   ⟨T [(F.mgtCredHelmProg, 1)], nobody, ⟨.unclaimed, .i3c, [], 3, 0⟩, keyG, by decide +kernel⟩,
   ⟨burnT [] [⟨0, true, .keyProgram 3 digG⟩], helm, 9, 3, digG, true, [], by decide +kernel⟩,
   ⟨burnT [] [⟨0, true, .keyProgram 0 digG⟩], helm, 9, 0, digG, true, [], by decide +kernel⟩,
   ⟨burnT [] [⟨2, true, .helmClaim [1] [2]⟩], nobody, 9, [1], [2], [], by decide +kernel⟩,
   ⟨burnT [(F.mgtCredHelmProg, 1)] [⟨0, true, .helmRotate 3 [1] 0⟩], helm, 9, 3, 0, [1], [], by decide +kernel⟩,
   ⟨burnT [] [⟨0, true, .keyProgram 0 digG⟩], nobody, true, true, 9, by decide +kernel⟩⟩

theorem witness_CredentialsComplete :
    (∃ (s : State) (src : Sess) (p : Principal) (key : List (Fin 256)) (n : Nat), s.serves src p ∧ p.isHelm = true ∧ n < 4 ∧ SMap.find? s.nv.pilotKeys n = none ∧ (∀ i : Nat, i < n → (SMap.find? s.nv.pilotKeys i).isSome = true) ∧ isPublicKey (key.map (·.val)) = true) ∧
    (∃ (s : State) (src : Sess) (p : Principal) (key : List (Fin 256)) (n : Nat), s.serves src p ∧ p.isHelm = true ∧ n < 4 ∧ SMap.find? s.nv.pilotKeys n = none ∧ (∀ i : Nat, i < n → (SMap.find? s.nv.pilotKeys i).isSome = true) ∧ isPublicKey (key.map (·.val)) = false) ∧
    (∃ (s : State) (src : Sess) (p : Principal) (key : List (Fin 256)), s.serves src p ∧ p.isHelm = true ∧ (∀ i : Nat, i < 4 → (SMap.find? s.nv.pilotKeys i).isSome = true)) ∧
    (∃ (s : State) (src : Sess) (p : Principal) (d : List (Fin 256)), s.serves src p ∧ p.isHelm = true ∧ (∀ i : Nat, i < 4 → SMap.find? s.nv.pilotKeys i ≠ some (d.map (·.val)))) ∧
    (∃ (s : State) (src : Sess) (p : Principal) (d : List (Fin 256)) (n : Nat), s.serves src p ∧ p.isHelm = true ∧ n < 4 ∧ SMap.find? s.nv.pilotKeys n = some (d.map (·.val)) ∧ (∀ i : Nat, i < n → SMap.find? s.nv.pilotKeys i ≠ some (d.map (·.val)))) ∧
    (∃ (s : State) (src : Sess) (p : Principal) (k : Fin 256) (key : List (Fin 256)), s.serves src p ∧ p.isPilot = true ∧ k.val < 64 ∧ isPublicKey (key.map (·.val)) = true) ∧
    (∃ (s : State) (src : Sess) (p : Principal) (k : Fin 256) (key : Option (List (Fin 256))), s.serves src p ∧ p.isPilot = true ∧ 64 ≤ k.val) :=
  ⟨⟨nvT [] (fun v => { v with pilotKeys := pilots 3 }), helm, .helm, keyG, 3, by decide +kernel⟩,
   ⟨nvT [] (fun v => { v with pilotKeys := pilots 0 }), helm, .helm, zeros 97, 0, by decide +kernel⟩,
   ⟨nvT [] (fun v => { v with pilotKeys := pilots 4 }), helm, .helm, keyG, by decide +kernel⟩,
   ⟨nvT [] (fun v => { v with pilotKeys := pilots 4 }), helm, .helm, [4], by decide +kernel⟩,
   ⟨nvT [] (fun v => { v with pilotKeys := pilots 4 }), helm, .helm, [3], 3, by decide +kernel⟩,
   ⟨T [], pilot, .pilot 0, 63, keyG, by decide +kernel⟩,
   ⟨T [], pilot, .pilot 0, 64, none, by decide +kernel⟩⟩

theorem witness_MailboxComplete :
    (∃ (s r : State) (v : Fin 64) (line : Fin (2 ^ 46)), s.pathUp (.mailbox v) = true ∧ s.gateCheck gateMgt [line.val] (s.chart.vsBerth v.val) 2 (s.chart.vsUsp v.val) = ([], r) ∧ (s.mailbox v.val).busy = false ∧ 1 ≤ (s.mailbox v.val).reqLen ∧ (s.mailbox v.val).reqLen ≤ 12288) ∧
    (∃ (s r : State) (v : Fin 64) (line : Fin (2 ^ 46)), s.pathUp (.mailbox v) = true ∧ s.gateCheck gateMgt [line.val] (s.chart.vsBerth v.val) 2 (s.chart.vsUsp v.val) = ([], r) ∧ (s.mailbox v.val).busy = false ∧ ((s.mailbox v.val).reqLen = 0 ∨ 12288 < (s.mailbox v.val).reqLen)) ∧
    (∃ (s r : State) (v : Fin 64) (line : Fin (2 ^ 46)), s.pathUp (.mailbox v) = true ∧ s.gateCheck gateMgt [line.val] (s.chart.vsBerth v.val) 2 (s.chart.vsUsp v.val) = ([], r) ∧ (s.mailbox v.val).busy = true ∧ s.now < (s.mailbox v.val).goAt + mgtCycle) ∧
    (∃ (s r : State) (v : Fin 64) (line : Fin (2 ^ 46)), s.pathUp (.mailbox v) = true ∧ s.gateCheck gateMgt [line.val] (s.chart.vsBerth v.val) 2 (s.chart.vsUsp v.val) = ([], r) ∧ ((s.mailbox v.val).busy = false ∨ (s.mailbox v.val).goAt + mgtCycle ≤ s.now)) ∧
    (∃ (s r : State) (v : Fin 64) (line : Fin (2 ^ 46)) (w : Fin (2 ^ 32)) (i : Fin 32768), s.pathUp (.mailbox v) = true ∧ s.gateCheck gateMgt [line.val] (s.chart.vsBerth v.val) 2 (s.chart.vsUsp v.val) = ([], r) ∧ i.val % 4 = 0 ∧ 0x1000 ≤ i.val ∧ i.val < 0x4000 ∧ (s.mailbox v.val).busy = false) ∧
    (∃ (s r : State) (v : Fin 64) (line : Fin (2 ^ 46)) (w : Fin (2 ^ 32)) (i : Fin 32768), s.pathUp (.mailbox v) = true ∧ s.gateCheck gateMgt [line.val] (s.chart.vsBerth v.val) 2 (s.chart.vsUsp v.val) = ([], r) ∧ i.val % 4 = 0 ∧ 0x1000 ≤ i.val ∧ i.val < 0x4000 ∧ (s.mailbox v.val).busy = true) ∧
    (∃ (s r : State) (v : Fin 64) (line : Fin (2 ^ 46)) (w : Fin (2 ^ 32)) (i : Fin 32768), s.pathUp (.mailbox v) = true ∧ s.gateCheck gateMgt [line.val] (s.chart.vsBerth v.val) 2 (s.chart.vsUsp v.val) = ([], r) ∧ i.val ≠ 8 ∧ (i.val < 0x1000 ∨ 0x4000 ≤ i.val)) ∧
    (∃ (s r : State) (v : Fin 64) (line : Fin (2 ^ 46)) (w : Fin (2 ^ 32)) (i : Fin 32768) (z : Fin 65), s.pathUp (.mailbox v) = true ∧ s.gateCheck gateMgt [line.val] (s.chart.vsBerth v.val) 2 (s.chart.vsUsp v.val) = ([], r) ∧ (z.val ≠ 4 ∨ i.val % 4 ≠ 0)) ∧
    (∃ (s : State) (v : Fin 64) (line : Fin (2 ^ 46)) (i : Fin 32768) (z : Fin 65) (w : Fin (2 ^ 32)), s.pathUp (.mailbox v) = true ∧ (s.gateCheck gateMgt [line.val] (s.chart.vsBerth v.val) 2 (s.chart.vsUsp v.val)).1 ≠ []) ∧
    (∃ (s : State) (v : Fin 64) (line : Fin (2 ^ 46)) (i : Fin 32768) (z : Fin 65) (w : Fin (2 ^ 32)), s.pathUp (.mailbox v) = false) ∧
    (∃ (s r : State) (v : Fin 64) (t : Nat) (x : Option (List (Fin 256))), r = s.at t ∧ r.mailTaken (s.mailbox v.val) = false) ∧
    (∃ (s r : State) (v : Fin 64) (t : Nat) (l : List (Fin 256)), r = s.at t ∧ r.mailTaken (s.mailbox v.val) = true ∧ l.length ≤ 16384) :=
  ⟨⟨mailT (mail0 false 12288), mailR (mail0 false 12288), 0, 9, by decide +kernel⟩,
   ⟨mailT (mail0 false 12289), mailR (mail0 false 12289), 0, 9, by decide +kernel⟩,
   ⟨(mailT (mail0 true 1)), mailR (mail0 true 1), 0, 9, by decide +kernel⟩,
   ⟨(mailT (mail0 false 1)), mailR (mail0 false 1), 0, 9, by decide +kernel⟩,
   ⟨mailT (mail0 false 1), mailR (mail0 false 1), 0, 9, 1, 0x1000, by decide +kernel⟩,
   ⟨mailT (mail0 true 1), mailR (mail0 true 1), 0, 9, 1, 0x3FFC, by decide +kernel⟩,
   ⟨mailT (mail0 false 1), mailR (mail0 false 1), 0, 9, 1, 0x4000, by decide +kernel⟩,
   ⟨mailT (mail0 false 1), mailR (mail0 false 1), 0, 9, 1, 0x1000, 8, by decide +kernel⟩,
   ⟨T upA, 0, 9, 0x1000, 4, 1, by decide +kernel⟩,
   ⟨T [], 0, 9, 0x1000, 4, 1, by decide +kernel⟩,
   ⟨mailT (mail0 true 1), (mailT (mail0 true 1)).at (mgtCycle - 1), 0, mgtCycle - 1, none, by decide +kernel⟩,
   ⟨mailT (mail0 true 1), (mailT (mail0 true 1)).at mgtCycle, 0, mgtCycle, zeros 8, by decide +kernel⟩⟩

theorem witness_RegisterCommandsComplete :
    (∃ (s r : State) (src : Sess) (p : Principal) (off : Fin (2 ^ 28)) (count : Fin 65536), s.serves src p ∧ p.claimed = true ∧ r = s.touch src ∧ (off.val % 4 ≠ 0 ∨ count.val = 0 ∨ 1024 < count.val)) ∧
    (∃ (s r : State) (src : Sess) (p : Principal) (off : Fin (2 ^ 28)) (count : Fin 65536), s.serves src p ∧ p.claimed = true ∧ r = s.touch src ∧ off.val % 4 = 0 ∧ 1 ≤ count.val ∧ count.val ≤ 1024 ∧ (∀ i : Nat, i < count.val → r.wordFails p (off.val + 4 * i) none = none)) ∧
    (∃ (s r : State) (src : Sess) (p : Principal) (off : Fin (2 ^ 28)) (count : Fin 65536) (i : Nat) (b : Bool), s.serves src p ∧ p.claimed = true ∧ r = s.touch src ∧ off.val % 4 = 0 ∧ 1 ≤ count.val ∧ count.val ≤ 1024 ∧ i < count.val ∧ (∀ j : Nat, j < i → r.wordFails p (off.val + 4 * j) none = none) ∧ r.wordFails p (off.val + 4 * i) none = some b) ∧
    (∃ (s r : State) (src : Sess) (p : Principal) (off : Fin (2 ^ 28)) (ws : List (Fin (2 ^ 32))) (l : List (Nat × Nat)), s.serves src p ∧ p.claimed = true ∧ r = s.touch src ∧ l = (wordAddrs off.val ws.length).zip (ws.map (·.val)) ∧ (off.val % 4 ≠ 0 ∨ ws = [] ∨ 1024 < ws.length)) ∧
    (∃ (s r : State) (src : Sess) (p : Principal) (off : Fin (2 ^ 28)) (ws : List (Fin (2 ^ 32))) (l : List (Nat × Nat)) (u : State) (e : Option (Nat × Nat)), s.serves src p ∧ p.claimed = true ∧ r = s.touch src ∧ l = (wordAddrs off.val ws.length).zip (ws.map (·.val)) ∧ off.val % 4 = 0 ∧ ws ≠ [] ∧ ws.length ≤ 1024 ∧ (∀ x ∈ r.writeChecks p l, x = none) ∧ State.writeWords src p l 0 r = (u, e) ∧ e = none) ∧
    (∃ (s r : State) (src : Sess) (p : Principal) (off : Fin (2 ^ 28)) (ws : List (Fin (2 ^ 32))) (l : List (Nat × Nat)) (u : State) (e : Option (Nat × Nat)) (i st : Nat), s.serves src p ∧ p.claimed = true ∧ r = s.touch src ∧ l = (wordAddrs off.val ws.length).zip (ws.map (·.val)) ∧ off.val % 4 = 0 ∧ ws ≠ [] ∧ ws.length ≤ 1024 ∧ (∀ x ∈ r.writeChecks p l, x = none) ∧ State.writeWords src p l 0 r = (u, e) ∧ e = some (i, st)) ∧
    (∃ (s r : State) (src : Sess) (p : Principal) (off : Fin (2 ^ 28)) (ws : List (Fin (2 ^ 32))) (l : List (Nat × Nat)) (i : Nat) (b : Bool), s.serves src p ∧ p.claimed = true ∧ r = s.touch src ∧ l = (wordAddrs off.val ws.length).zip (ws.map (·.val)) ∧ off.val % 4 = 0 ∧ ws ≠ [] ∧ ws.length ≤ 1024 ∧ (r.writeChecks p l)[i]? = some (some b) ∧ (∀ j : Nat, j < i → (r.writeChecks p l)[j]? = some none)) ∧
    (∃ (s r : State) (src : Sess) (p : Principal) (off : Fin (2 ^ 28)), s.principal src = some p ∧ s.fgBusy (sessNum src) = false ∧ s.ready = false ∧ p.claimed = true ∧ r = s.touch src ∧ statusWord off.val = true ∧ r.wordFails p off.val none = none ∧ off.val ≠ 0x11204) ∧
    (∃ (s r : State) (src : Sess) (p : Principal) (off : Fin (2 ^ 28)), s.principal src = some p ∧ s.fgBusy (sessNum src) = false ∧ s.ready = false ∧ p.claimed = true ∧ r = s.touch src ∧ statusWord off.val = false) :=
  ⟨⟨T [], (T []).touch helm, helm, .helm, 0x11100, 1025, by decide +kernel⟩,
   ⟨T [], (T []).touch helm, helm, .helm, 0x11100, 2, by decide +kernel⟩,
   ⟨T [], (T []).touch helm, helm, .helm, 0x8000000, 1, 0, false, by decide +kernel⟩,
   ⟨T [], (T []).touch helm, helm, .helm, 0x11100, [], [], by decide +kernel⟩,
   ⟨T [], (T []).touch helm, helm, .helm, 0x11100, [5], [(0x11100, 5)], ((T []).touch helm).set (F.almBkp 0) 5, none, by decide +kernel⟩,
   ⟨T [(F.fltSafeState, 1)], (T [(F.fltSafeState, 1)]).touch helm, helm, .helm, 0x14000, [8], [(0x14000, 8)], (State.writeWords helm .helm [(0x14000, 8)] 0 ((T [(F.fltSafeState, 1)]).touch helm)).1, some (0, stDenied), 0, stDenied, by decide +kernel⟩,
   ⟨T [], (T []).touch helm, helm, .helm, 0x8000000, [5], [(0x8000000, 5)], 0, false, by decide +kernel⟩,
   ⟨{ T [(F.rstStatReady, 0)] with chart := chart0 }, (T [(F.rstStatReady, 0)]).touch helm, helm, .helm, 0x10000, by decide +kernel⟩,
   ⟨{ T [(F.rstStatReady, 0)] with chart := chart0 }, (T [(F.rstStatReady, 0)]).touch helm, helm, .helm, 0x2000000, by decide +kernel⟩⟩

theorem witness_BackupRegistersHaveTheirWriters :
    (∃ (s : State) (src : Sess) (p : Principal) (i : Fin 32) (off : Fin (2 ^ 28)) (w : Fin (2 ^ 32)), s.serves src p ∧ p.isOwner = true ∧ off.val = 0x11100 + 4 * i.val ∧ (i.val < 16 ∧ p.isHelm = true) ∨ (16 ≤ i.val ∧ p.isPilot = true)) ∧
    (∃ (s : State) (src : Sess) (p : Principal) (i : Fin 32) (off : Fin (2 ^ 28)) (w : Fin (2 ^ 32)), s.serves src p ∧ p.isOwner = true ∧ off.val = 0x11100 + 4 * i.val ∧ (i.val < 16 ∧ p.isPilot = true) ∨ (16 ≤ i.val ∧ p.isHelm = true) ∧ w.val ≠ s.get (F.almBkp i.val) % 2 ^ 32) :=
  ⟨⟨T [], helm, .helm, 15, 0x1113C, 5, by decide +kernel⟩,
   ⟨T [], helm, .helm, 16, 0x11140, 5, by decide +kernel⟩⟩

theorem witness_UnreachableWordsAreRefused :
    (∃ (s : State) (src : Sess) (p : Principal) (off : Fin (2 ^ 28)) (n : Nat) (count : Fin 65536), s.serves src p ∧ p.claimed = true ∧ off.val % 4 = 0 ∧ (∃ i : Nat, i < n ∧ (mapped (off.val + 4 * i) = false ∨ s.reach (off.val + 4 * i) = false)) ∧ count.val = n ∧ n ≤ 1024) ∧
    (∃ (s : State) (src : Sess) (p : Principal) (off : Fin (2 ^ 28)) (n : Nat) (ws : List (Fin (2 ^ 32))), s.serves src p ∧ p.claimed = true ∧ off.val % 4 = 0 ∧ (∃ i : Nat, i < n ∧ (mapped (off.val + 4 * i) = false ∨ s.reach (off.val + 4 * i) = false)) ∧ ws.length = n ∧ n ≤ 1024) ∧
    (∃ (s : State) (src : Sess) (p : Principal) (off : Fin (2 ^ 28)) (count : Fin 65536) (i : Nat), s.serves src p ∧ p.claimed = true ∧ off.val % 4 = 0 ∧ i < count.val ∧ count.val ≤ 1024 ∧ (∀ j : Nat, j < i → (s.touch src).wordFails p (off.val + 4 * j) none = none) ∧ (mapped (off.val + 4 * i) = false ∨ s.reach (off.val + 4 * i) = false)) ∧
    (∃ (s : State) (src : Sess) (p : Principal) (off : Fin (2 ^ 28)) (ws : List (Fin (2 ^ 32))) (i : Nat), s.serves src p ∧ p.claimed = true ∧ off.val % 4 = 0 ∧ i < ws.length ∧ ws.length ≤ 1024 ∧ (∀ j : Nat, j < i → ((s.touch src).writeChecks p ((wordAddrs off.val ws.length).zip (ws.map (·.val))))[j]? = some none) ∧ (mapped (off.val + 4 * i) = false ∨ s.reach (off.val + 4 * i) = false)) ∧
    (∃ (a : Nat), 0x8000000 ≤ a) ∧
    (∃ (a : Nat), wordAt a = none ∧ bufferAt a = false) ∧
    (∃ (s : State) (g a : Nat), g < 8 ∧ (s.get F.hubTopoRegionPowered).testBit g = false ∧ inReach regionRanges g a = true) ∧
    (∃ (s : State) (n a : Nat), n < 128 ∧ (∀ i : Nat, i < 8 → s.chart.isOff (8 * n + i) = true) ∧ inReach blockRanges n a = true) ∧
    (∃ (s : State) (a : Nat), (0x100000 ≤ a ∧ a < 0x200000) ∨ (0x14000 ≤ a ∧ a < 0x15000) ∨ (0x12000 ≤ a ∧ a < 0x13000) ∨ (0x13000 ≤ a ∧ a < 0x14000) ∨ (0x4000000 ≤ a ∧ a < 0x8000000) ∨ (0x11000 ≤ a ∧ a < 0x12000) ∨ (0x10000 ≤ a ∧ a < 0x11000) ∨ (0x3000000 ≤ a ∧ a < 0x3800000)) :=
  ⟨⟨T [], helm, .helm, 0x7FFFFFC, 2, 2, by decide +kernel⟩,
   ⟨T [], helm, .helm, 0x8000000, 1, [5], by decide +kernel⟩,
   ⟨T [], helm, .helm, 0x8000000, 1, 0, by decide +kernel⟩,
   ⟨T [], helm, .helm, 0x8000000, [5], 0, by decide +kernel⟩,
   ⟨0x8000000, by decide +kernel⟩,
   ⟨0x8000000, by decide +kernel⟩,
   ⟨T [(F.hubTopoRegionPowered, 254)], 0, 0x200000, by decide +kernel⟩,
   ⟨{ T [] with chart := [(chartKey 1 0 0, [])] }, 127, 0x600000 + 0x800 * 127, by decide +kernel⟩,
   ⟨T [], 0x37FFFFF, by decide +kernel⟩⟩

theorem witness_StepTakesTheFront :
    ∃ (s : State), s.pending = [] :=
  ⟨T [], by decide +kernel⟩

theorem witness_ReservedCommandsAreRefusedToOthers :
    (∃ (s : State) (c : Instr) (src : Sess) (may : Principal → Bool) (p : Principal), Instr.reserved c = some (src, may) ∧ s.serves src p ∧ may p = false) ∧
    (∃ (s : State) (c : Instr) (src : Sess) (may : Principal → Bool), Instr.reserved c = some (src, may) ∧ s.principal src = none) ∧
    (∃ (s : State) (c : Instr) (src : Sess) (may : Principal → Bool) (p : Principal), Instr.reserved c = some (src, may) ∧ s.principal src = some p ∧ (s.ready = false ∨ s.fgBusy (sessNum src) = true)) :=
  ⟨⟨T [], .safeEnter pilot, pilot, Principal.isHelm, .pilot 0, rfl, by decide +kernel, rfl⟩,
   ⟨T [], .safeEnter (.slot 3), .slot 3, Principal.isHelm, rfl, by decide +kernel⟩,
   ⟨T [(F.rstStatReady, 0)], .safeEnter pilot, pilot, Principal.isHelm, .pilot 0, rfl, by decide +kernel⟩⟩

theorem witness_BerthAgentsChangeOnlyTheirAttention :
    ∃ (s u : State) (c : Instr) (src : Sess) (k : Nat) (f : Fld), k < 64 ∧ Instr.session c = some src ∧ s.principal src = some (.berth k) ∧ (∀ b ∈ s.bgs, b.sess = sessNum src → b.live = true → b.opcode ≠ 0xC040) ∧ exec c s = .next u ∧ (f.addr < 0x14100 + 16 * k ∨ 0x14100 + 16 * k + 16 ≤ f.addr) ∧ f.key ≠ F.mgtMctpstatUnsecured.key :=
  ⟨T [], nextOf (exec (.attentionAck berth3 3 5) (T [])), .attentionAck berth3 3 5, berth3, 3, F.talSeq, by decide +kernel, rfl, by decide +kernel, by decide +kernel, rfl, by decide +kernel⟩

theorem witness_EveryStepKeepsQueueTimeAndFloor :
    ∃ (s t : State), step s = .next t :=
  ⟨T [], nextOf (step (T [])), rfl⟩

end Sys2Proof.Tests
end

/-! Scope: what a command that the spec reserves to some principals does to the others (R2, R331, R405, R434, R438, R440, R441), and the
state after reset (R5, R42, R55, R398, R423, R437). -/
namespace Sys2Proof.Machine

/-- In an open session a command before READY, or behind an unfinished foreground command of the session, is answered Busy (R405, R438). -/
theorem State.command_busy {s : State} {src : Sess} {p : Principal} (hp : s.principal src = some p)
    (hb : s.ready = false ∨ s.fgBusy (sessNum src) = true) (rights : Principal → Bool) (act : Principal → State → State) :
    s.command src rights act = (s.touch src).respond src .busy stRetry 0 [] := by
  rcases hb with hready | hfg
  · simp [State.command, State.commandWhen, hp, hready]
  · simp [State.command, State.commandWhen, hp, hfg]

/-- A register write to an instance that may be unpowered is a command of its session under the same rights (R391). -/
theorem State.regCommandAt_is_command (s : State) (src : Sess) (a : Nat) (rights : Principal → Bool)
    (act : Principal → State → State × Nat) :
    ∃ f : Principal → State → State, s.regCommandAt src a rights act = s.command src rights f := by
  rw [State.regCommandAt]
  exact ⟨_, rfl⟩

/-- A write of CHT.CMD is a Pilot's command (R58, R441). -/
theorem chartCommand_is_command (cmd : Nat) (src : Sess) (s : State) :
    ∃ f : Principal → State → State, chartCommand cmd src s = s.command src Principal.isPilot f := by
  rw [chartCommand]
  exact ⟨_, rfl⟩

/-- The start of a built-in self-test is a Helm's command. -/
theorem execBuiltInSelfTest_start_is_command (src : Sess) (c : Collector) (i : Fin 32) (failed : Bool) (s : State) :
    ∃ f : Principal → State → State, execBuiltInSelfTest src c i failed false s = .next (s.command src Principal.isHelm f) := by
  rw [execBuiltInSelfTest, if_neg Bool.false_ne_true]
  exact ⟨_, rfl⟩

/-- The one fact the scope rests on: a reserved command reaches the state through `State.command` alone, under the rights that reserve it
(R2, R441). The cases follow the shapes of the commands' meanings; the last one holds the plain commands and register writes, and the
commands reserved to nobody. -/
theorem exec_of_reserved {c : Instr} {src : Sess} {may : Principal → Bool} (h : Instr.reserved c = some (src, may)) (s : State) :
    ∃ act : Principal → State → State, exec c s = .next (s.command src may act) := by
  cases c with
  | chartLoad | chartAmend | chartQuiesce | chartResume | chartRebase | chartAbort =>
    cases h
    exact (chartCommand_is_command _ _ s).imp fun _ => congrArg _
  | seamResetCommand | faultInject | counterSelect | counterClear | qhistClear | tackCountsClear | ctstatClear | stgPeakClear
  | trkPeakClear | ldsPeakClear | mgtCopySubmit | violClear | violCountClear | threshWrite | linkResetCommand | linkUnretire
  | wiringRearm | firstRecordClear | blockSwreset | scrubStart =>
    cases h
    exact (State.regCommandAt_is_command s _ _ _ _).imp fun _ => congrArg _
  | builtInSelfTest _ _ _ _ ends =>
    cases ends <;> cases h
    exact execBuiltInSelfTest_start_is_command _ _ _ _ s
  | _ =>
    cases h <;> exact ⟨_, rfl⟩

/-- After reset no field has an entry, so each reads its reset value (R5). -/
theorem State.reset_get (f : Fld) : State.reset.get f = f.reset := rfl

/-- After reset the tables of registers, sessions and counters are empty, so their keys rise. -/
theorem State.reset_tidy : State.reset.tidy := ⟨rfl, rfl, rfl⟩

/-- READY reads 0 after reset (R398, R404). -/
theorem State.reset_not_ready : State.reset.ready = false := by
  rw [State.ready, State.flag, State.reset_get]
  rfl

/-- Settles O58: a reserved command is a `State.command`, which refuses, discards or puts off whom its rights do not serve. -/
theorem reservedCommandsAreRefusedToOthers : Obligations.ReservedCommandsAreRefusedToOthers := by
  unfold Obligations.ReservedCommandsAreRefusedToOthers
  intro s c src may hc
  obtain ⟨act, hexec⟩ := exec_of_reserved hc s
  refine ⟨fun p hserves hmay => ?_, fun hnone => ?_, fun p hp hbusy => ?_, ?_⟩
  · rw [hexec, State.command_refused hserves hmay]
  · rw [hexec, State.command_unopened hnone]
  · rw [hexec, State.command_busy hp hbusy]
  · rw [State.touch_eq]

/-- Settles O57: after reset every table is empty, and every field reads its reset value. -/
theorem resetIsAsTheSpecSays : Obligations.ResetIsAsTheSpecSays := by
  unfold Obligations.ResetIsAsTheSpecSays
  refine ⟨State.reset_get, ?_, ?_, ?_, ?_, ?_, ?_, ?_, ?_, ?_, ?_, ?_, ?_, ?_, State.reset_not_ready, State.reset_tidy⟩
  all_goals rfl

end Sys2Proof.Machine

/-! The architecture chapter: time and the queue (R18, R444), the references and who forces them (R20 to R25), the seams and the planes of the
Rose (R302 to R308). First the rules for time, registers and attention codes that the statements about them rest on. -/
namespace Sys2Proof.Machine

/-- The passing of time touches the time, the note of this cycle's bits, and the Tally's counters alone. -/
theorem State.at_eq (s : State) (t : Nat) :
    s.at t = { s with now := max s.now t, fresh := (s.at t).fresh, ctrs := (s.at t).ctrs } := by
  unfold State.at
  split
  · rw [max_eq_left ‹_›]
  · rw [max_eq_right (by omega)]

@[simp] theorem State.at_regs (s : State) (t : Nat) : (s.at t).regs = s.regs := by rw [State.at_eq]
@[simp] theorem State.at_get (s : State) (t : Nat) (f : Fld) : (s.at t).get f = s.get f := by rw [State.at_eq]; rfl
@[simp] theorem State.at_chart (s : State) (t : Nat) : (s.at t).chart = s.chart := by rw [State.at_eq]
@[simp] theorem State.at_core (s : State) (t : Nat) : (s.at t).core = s.core := by rw [State.at_eq]
@[simp] theorem State.at_seam (s : State) (t : Nat) : (s.at t).seam = s.seam := by rw [State.at_eq]
@[simp] theorem State.at_flt (s : State) (t : Nat) : (s.at t).flt = s.flt := by rw [State.at_eq]
@[simp] theorem State.at_clk (s : State) (t : Nat) : (s.at t).clk = s.clk := by rw [State.at_eq]

/-- A field reads what the registers hold. -/
theorem State.get_of_regs {s u : State} (h : u.regs = s.regs) (f : Fld) : u.get f = s.get f := by
  unfold State.get
  rw [h]

/-- The state without its registers, the note of this cycle's bits, and the Tally's counters: its units, which register writes and counted
events leave as they are. -/
def State.units (s : State) : State := { s with regs := [], fresh := [], ctrs := [] }

theorem State.core_of_units {s u : State} (h : u.units = s.units) : u.core = s.core :=
  congrArg (a₁ := u.units) (a₂ := s.units) State.core h
theorem State.chart_of_units {s u : State} (h : u.units = s.units) : u.chart = s.chart :=
  congrArg (a₁ := u.units) (a₂ := s.units) State.chart h
theorem State.seam_of_units {s u : State} (h : u.units = s.units) : u.seam = s.seam :=
  congrArg (a₁ := u.units) (a₂ := s.units) State.seam h

@[simp] theorem State.set_units (s : State) (f : Fld) (v : Nat) : (s.set f v).units = s.units := rfl
@[simp] theorem State.bump_units (s : State) (f : Fld) (n : Nat) : (s.bump f n).units = s.units := rfl

/-- A fold of steps each of which leaves a view of the state leaves that view. -/
theorem foldl_keeps {α β : Type} (view : State → β) {g : State → α → State} (h : ∀ s a, view (g s a) = view s) (l : List α) (s : State) :
    view (l.foldl g s) = view s := by
  induction l generalizing s with
  | nil => rfl
  | cons a r ih => rw [List.foldl_cons, ih, h]

@[simp] theorem State.setAll_units (s : State) (l : List (Fld × Nat)) : (s.setAll l).units = s.units :=
  foldl_keeps State.units (fun s _ => s.set_units _ _) l s

@[simp] theorem State.count_units (s : State) (loc : Nat × Nat) (code : Nat) (sub : Nat → Bool) (berth : Option Nat) (n : Nat) :
    (s.count loc code sub berth n).units = s.units := by
  unfold State.count
  split <;> rfl

@[simp] theorem State.count_regs (s : State) (loc : Nat × Nat) (code : Nat) (sub : Nat → Bool) (berth : Option Nat) (n : Nat) :
    (s.count loc code sub berth n).regs = s.regs := by
  unfold State.count
  split <;> rfl

theorem State.get_bump_of_ne (s : State) {f g : Fld} (n : Nat) (h : f.key ≠ g.key) : (s.bump f n).get g = s.get g :=
  s.get_set_of_ne f g _ h

/-! Attention codes (R327, R329). -/

@[simp] theorem State.raiseOne_units (s : State) (code a : Nat) : (s.raiseOne code a).units = s.units := rfl

/-- A raise writes the audience's pending codes and its raise count, and no other field. -/
theorem State.get_raiseOne_of_ne (s : State) (code : Nat) {a : Nat} {f : Fld} (hpend : (F.fltAttnPend a).key ≠ f.key)
    (hseq : (F.fltAttnSeq a).key ≠ f.key) : (s.raiseOne code a).get f = s.get f := by
  rw [State.raiseOne, State.wrapAdd, State.get_set_of_ne _ _ _ _ hseq, State.get_set_of_ne _ _ _ _ hpend]

/-- A code raised is pending for its audience. -/
theorem State.raiseOne_pending (s : State) {code : Nat} (a : Nat) (h : code < 16) :
    ((s.raiseOne code a).get (F.fltAttnPend a)).testBit code = true := by
  have hne : (F.fltAttnSeq a).key ≠ (F.fltAttnPend a).key := by simp [Fld.key, F.fltAttnSeq, F.fltAttnPend]
  rw [State.raiseOne, State.wrapAdd, State.get_set_of_ne _ _ _ _ hne, State.get_set_same]
  change ((_ ||| 2 ^ code) % 2 ^ 16).testBit code = true
  rw [Nat.testBit_mod_two_pow]
  simp [h]

/-- DEGRADED for the Pilot goes to the Helm as well. -/
theorem State.raise_degraded (s : State) :
    s.raise atDegraded [audPilot] = (s.raiseOne atDegraded audPilot).raiseOne atDegraded audHelm := rfl

/-! Steps of the block. -/

/-- Every command answers a next state: none faults and none is refused (log entry 2). -/
theorem exec_next (c : Instr) (s : State) : ∃ u : State, exec c s = .next u := by
  cases c <;> exact ⟨_, rfl⟩

/-- A step on a queue whose front is a command. -/
theorem step_cons (s : State) (c : Instr) (rest : List Instr) :
    step { s with pending := c :: rest } = exec c { s with pending := rest } := rfl

/-- A step on an empty queue. -/
theorem step_nil {s : State} (h : s.pending = []) : step s = .next s.idle := by
  simp [step, h]

theorem step_next (s : State) : ∃ u : State, step s = .next u := by
  unfold step
  split
  · exact ⟨_, rfl⟩
  · exact exec_next _ _

/-- Settles O56: a step is `exec` of the front command, or one idle cycle, which `State.at_eq` describes. -/
theorem stepTakesTheFront : Obligations.StepTakesTheFront := by
  unfold Obligations.StepTakesTheFront
  refine ⟨step_cons, fun s hempty => ⟨s.idle, step_nil hempty, ?_, ?_⟩, step_next⟩
  all_goals rw [State.idle, State.at_eq]
  exact max_eq_right (Nat.le_add_right _ _)

/-! The references (R20 to R25). -/

/-- The Helm's force of a good reference selects it (R23). -/
theorem writeForce_of_refGood {s : State} {v : Nat} (hv : v ≠ 0) (hlt : v < 3) (hgood : s.refGood (v - 1) = true) :
    writeForce v s = ((s.set F.hubRefctlForce v).set F.hubRefstatForceIgnored 0).switchTo (v - 1) := by
  have hforce : (s.set F.hubRefctlForce v).get F.hubRefctlForce = v := by
    rw [State.get_set_same]
    exact Nat.mod_eq_of_lt (by simp [F.hubRefctlForce]; omega)
  have hkept : (s.set F.hubRefctlForce v).refGood (v - 1) = true := by
    have hne : F.hubRefctlForce.key ≠ (goodFld (v - 1)).key := by unfold goodFld; split <;> decide
    rwa [State.refGood, State.flag, State.get_set_of_ne _ _ _ _ hne]
  rw [writeForce, if_neg (by omega), State.applyForce, hforce, if_neg hv, if_pos hkept]

/-- A word that a write would change is refused to a principal who does not write it (R2, R442). -/
theorem State.wordFails_of_not_writer {s : State} {p : Principal} {a kind v : Nat} {x : WordAt} {f : FieldDesc} (hmapped : mapped a = true)
    (hreach : s.reach a = true) (hlead : s.leadWord a = a) (hword : wordAt a = some x) (hf : f ∈ x.fields)
    (htouches : s.touches a v f = true) (hwrites : s.writes p x.writer a = false) : s.wordFails p a (some (kind, v)) = some true := by
  have hany : x.fields.any (s.touches a v) = true := List.any_eq_true.2 ⟨f, hf, htouches⟩
  simp [State.wordFails, hmapped, hreach, hlead, hword, hany, hwrites]

/-- A command of one word that its principal may not write is refused DENIED (R440, R442). -/
theorem State.regWrite_one_refused {s : State} {src : Sess} {p : Principal} {a v : Nat} (hserves : s.serves src p) (hclaimed : p.claimed = true)
    (ha : a % 4 = 0) (hfails : ∀ kind : Nat, (s.touch src).wordFails p a (some (kind, v)) = some true) :
    s.regWrite src a [v] = (s.touch src).respond src .invalidSecurity stDenied 0 [] := by
  rw [State.regWrite, State.command_served hserves hclaimed]
  simp [ha, wordAddrs, State.writeChecks, hfails, firstFailing, State.refuseWords]

/-- HUB.REFCTL is a word of the register map that the Helm writes (R33). -/
theorem wordAt_refctl : ∃ x : WordAt, wordAt 0x100010 = some x ∧ x.writer = .helm := ⟨_, rfl, rfl⟩

theorem mapped_refctl : mapped 0x100010 = true := by decide +kernel

/-- No principal but the Helm writes HUB.REFCTL. -/
theorem State.writes_refctl_of_not_helm (s : State) {p : Principal} (h : p.isHelm = false) : s.writes p .helm 0x100010 = false := by
  cases p with
  | helm => exact absurd h (by decide)
  | pilot n => rfl
  | berth k => simp [State.writes, State.berthMay]; omega
  | unclaimed => rfl

/-- What a write of HUB.REFCTL changes does not depend on when a session was last heard. -/
theorem State.touch_touches_refctl (s : State) (src : Sess) (v : Nat) (f : FieldDesc) :
    (s.touch src).touches 0x100010 v f = s.touches 0x100010 v f := rfl

/-- The Rose's own registers can be reached in every state (R391). -/
theorem State.reach_refctl (s : State) : s.reach 0x100010 = true := rfl

/-- HUB.REFCTL belongs to no pleat. -/
theorem State.leadWord_refctl (s : State) : s.leadWord 0x100010 = 0x100010 := rfl

/-- A write that would change HUB.REFCTL is refused to every principal but the Helm (R25). -/
theorem registerWrite_refctl_refused {s : State} {src : Sess} {p : Principal} {w : Fin (2 ^ 32)} {f : FieldDesc} {x : WordAt}
    (hserves : s.serves src p) (hhelm : p.isHelm = false) (hword : wordAt 0x100010 = some x) (hf : f ∈ x.fields)
    (htouches : s.touches 0x100010 w.val f = true) :
    exec (.registerWrite src 0x100010 w) s = .next ((s.touch src).respond src .invalidSecurity stDenied 0 []) := by
  obtain ⟨y, hy, hwriter⟩ := wordAt_refctl
  obtain rfl : y = x := Option.some.inj (hy.symm.trans hword)
  refine congrArg Host.Outcome.next (?_ : s.regWrite src 0x100010 [w.val] = _)
  cases hclaimed : p.claimed with
  | false => exact State.command_refused hserves hclaimed _
  | true =>
    refine State.regWrite_one_refused hserves hclaimed rfl fun kind => ?_
    have hwrites : (s.touch src).writes p y.writer 0x100010 = false := by rw [hwriter, State.writes_refctl_of_not_helm _ hhelm]
    exact State.wordFails_of_not_writer mapped_refctl (State.reach_refctl _) (State.leadWord_refctl _) hword hf
      ((State.touch_touches_refctl s src _ f).trans htouches) hwrites

/-- Settles O2: rights refuse the other principals' command and word; the Helm's force goes through `writeForce`. -/
theorem onlyTheHelmForces : Obligations.OnlyTheHelmForces := by
  unfold Obligations.OnlyTheHelmForces
  refine ⟨fun s src p f hserves hhelm => ?_, fun s src p w f hserves hhelm hf htouches => ?_,
    fun s src p f hserves hhelm hzero hthree hgood => ?_⟩
  · exact congrArg _ (State.command_refused hserves hhelm _)
  · obtain ⟨x, hword, -⟩ := wordAt_refctl
    rw [hword] at hf
    exact registerWrite_refctl_refused hserves hhelm hword hf htouches
  · have hact := writeForce_of_refGood (s := s.touch src) hzero (by omega) hgood
    exact congrArg _ ((State.regCommand_served hserves hhelm _).trans (by rw [hact]; rfl))

/-- The module after 20 ms from the power-stage good signal with neither reference good: the reference fault holds it in reset (R24). -/
def State.heldInReset : State := doReferenceStartTimeout (msec 20) State.reset

/-- It is one command away from reset. -/
theorem exec_referenceStartTimeout_of_reset : exec (.referenceStartTimeout (msec 20)) State.reset = .next State.heldInReset := rfl

theorem State.heldInReset_holdReset : State.heldInReset.flt.holdReset = true := by decide +kernel

theorem State.heldInReset_not_taken : State.heldInReset.clk.taken = false := by decide +kernel

/-- A module held in reset takes no reference at start-up (R24). -/
theorem exec_referenceTakeAtStart_of_holdReset {s : State} (h : s.flt.holdReset = true) (r : RefIn) (t : Nat) :
    exec (.referenceTakeAtStart r t) s = .next (s.at t) := by
  have hstay : doReferenceTakeAtStart r t s = s.at t := by simp [doReferenceTakeAtStart, h]
  exact congrArg Host.Outcome.next hstay

/-- Refutes O1: its start-up clause does not except the module that the reference fault holds in reset, where the preferred reference is
good at last and is still not taken. -/
theorem not_referenceEventsComplete : ¬ Obligations.ReferenceEventsComplete := by
  unfold Obligations.ReferenceEventsComplete
  rintro ⟨-, -, -, -, -, hstart, -⟩
  obtain ⟨u, hu, htaken, -⟩ := hstart State.heldInReset .a 0 State.heldInReset_not_taken (.inl (by decide +kernel))
  rw [exec_referenceTakeAtStart_of_holdReset State.heldInReset_holdReset] at hu
  rw [← Host.Outcome.next.inj hu, State.at_clk, State.heldInReset_not_taken] at htaken
  exact Bool.false_ne_true htaken

/-! The seams and the planes of the Rose (R302 to R308). -/

/-- The rules of a slot's parity read the spare map alone. -/
theorem State.parityHolds_of_regs {s u : State} (h : u.regs = s.regs) (g n data sp0 sp1 : Nat) :
    u.parityHolds g n data sp0 sp1 = s.parityHolds g n data sp0 sp1 := by
  unfold State.parityHolds State.flag State.get
  rw [h]

@[simp] theorem State.at_crossing (s : State) (t o id l : Nat) : (s.at t).crossing o id l = s.crossing o id l := by
  simp [State.crossing, State.seamUp]

@[simp] theorem State.at_planeOf (s : State) (t : Nat) (m : Msg) (idx : Nat) : (s.at t).planeOf m idx = s.planeOf m idx := by
  simp [State.planeOf, State.seamUp]

@[simp] theorem State.blockSlot_regs (s : State) (m : Msg) : (s.blockSlot m).regs = s.regs := rfl

@[simp] theorem State.crossSlots_regs (s : State) (m : Msg) (l : Nat) : (s.crossSlots m l).regs = s.regs := rfl

@[simp] theorem State.sendCredits_regs (s : State) (p : Nat) (fc : FcClass) (headers data : Nat) :
    (s.sendCredits p fc headers data).regs = s.regs := by
  unfold State.sendCredits
  split <;> rfl

@[simp] theorem State.returnCredits_regs (s : State) (m : Msg) : (s.returnCredits m).regs = s.regs := by
  rw [State.returnCredits]
  split
  · rfl
  · exact State.sendCredits_regs ..

@[simp] theorem State.dropStaged_regs (s : State) (m : Msg) : (s.dropStaged m).regs = s.regs := by
  rw [State.dropStaged]
  split
  · rfl
  · exact State.returnCredits_regs ..

@[simp] theorem State.leaveStaging_regs (s : State) (m : Msg) (idx : Nat) : (s.leaveStaging m idx).regs = s.regs := by
  unfold State.leaveStaging
  split
  · rfl
  · split
    · exact State.dropStaged_regs _ _
    · rfl

@[simp] theorem State.modSeam_regs (s : State) (f : SeamUnit → SeamUnit) : (s.modSeam f).regs = s.regs := rfl

/-- A slot that crosses writes no register (R101, R304). -/
theorem State.crossed_regs (s : State) (m : Msg) (idx l : Nat) : (s.crossed m idx l).regs = s.regs := by
  unfold State.crossed
  dsimp only
  split <;> simp

/-- A good slot on the plane whose turn it is goes in order to bolt memory (R16, R303). -/
theorem doSeamSlotReceive_good {s : State} {o id idx l h data sp0 sp1 : Nat} {m : Msg} (hcross : s.crossing o id l = some m)
    (hplane : s.planeOf m idx = l) (hparity : s.parityHolds (o / 128) (80 + 40 * l + h) data sp0 sp1 = true) (t : Nat) :
    doSeamSlotReceive o id idx l h data sp0 sp1 false t s = ((s.at t).crossed m idx l).segmentIn m idx := by
  have hregs : ((s.at t).crossed m idx l).regs = s.regs := (State.crossed_regs _ m idx l).trans (s.at_regs t)
  simp [doSeamSlotReceive, hcross, Option.filter_some, hplane, State.parityHolds_of_regs hregs, hparity]

/-- A slot that the Rose found bad is counted and asked for again (R303, R304). -/
theorem doSeamSlotReceive_rose {s : State} {o id idx l : Nat} {m : Msg} (hcross : s.crossing o id l = some m)
    (hplane : s.planeOf m idx = l) (h data sp0 sp1 t : Nat) :
    doSeamSlotReceive o id idx l h data sp0 sp1 true t s = ((s.at t).crossed m idx l).segmentBad m idx l h data true := by
  simp [doSeamSlotReceive, hcross, Option.filter_some, hplane]

/-- A slot on the plane whose turn it is not is not taken (R16). -/
theorem doSeamSlotReceive_otherPlane {s : State} {o id idx l : Nat} {m : Msg} (hcross : s.crossing o id l = some m)
    (hplane : s.planeOf m idx ≠ l) (h data sp0 sp1 : Nat) (rose : Bool) (t : Nat) :
    doSeamSlotReceive o id idx l h data sp0 sp1 rose t s = s.at t := by
  simp [doSeamSlotReceive, hcross, Option.filter_some, hplane]

/-- A good resend takes the bad slot's place and charges the wires on which the two copies differ (R304, R305). -/
theorem doSeamResendReceive_good {s : State} {o id idx l h data sp0 sp1 : Nat} {m : Msg} {b : BadSlot} (hcross : s.crossing o id l = some m)
    (hbad : (s.seam.bad.find? fun b => b.seg == ⟨o, id, idx⟩) = some b)
    (hparity : s.parityHolds (o / 128) (80 + 40 * l + h) data sp0 sp1 = true) (t : Nat) :
    doSeamResendReceive o id idx l h data sp0 sp1 false t s = (diffWires b.data data).foldl (fun u w => u.wireError b.seam b.entry w)
      (((s.at t).modSeam fun u => { u with bad := u.bad.filter (·.seg != b.seg) }).segmentIn m idx) := by
  simp [doSeamResendReceive, hcross, hbad, State.parityHolds_of_regs (s.at_regs t), hparity]

/-! A plane's state among the fields of its seam. -/

theorem seamState_width (g l : Nat) : (seamState g l).width = 2 := by unfold seamState; split <;> rfl

theorem State.get_set_seamState (s : State) (g l : Nat) {v : Nat} (h : v < 4) : (s.set (seamState g l) v).get (seamState g l) = v := by
  rw [State.get_set_same, seamState_width]
  exact Nat.mod_eq_of_lt h

theorem seamErrResends_key_ne_seamState (n g l : Nat) : (F.seamErrResends n).key ≠ (seamState g l).key := by
  unfold seamState
  split <;> simp only [Fld.key, F.seamErrResends, F.seamStatStateA, F.seamStatStateB] <;> omega

theorem seamStatResets_key_ne_seamState (n g l : Nat) : (F.seamStatResets n).key ≠ (seamState g l).key := by
  unfold seamState
  split <;> simp only [Fld.key, F.seamStatResets, F.seamStatStateA, F.seamStatStateB] <;> omega

theorem seamState_key_ne_other (g : Nat) (pl : Plane) : (seamState g (planeNum pl)).key ≠ (seamState g (1 - planeNum pl)).key := by
  cases pl <;> simp [planeNum, seamState, Fld.key, F.seamStatStateA, F.seamStatStateB]

@[simp] theorem State.setMode_get (s : State) (c i m : Nat) (f : Fld) : (s.setMode c i m).get f = s.get f := rfl

@[simp] theorem State.setMode_core (s : State) (c i m : Nat) : (s.setMode c i m).core = s.core := rfl
@[simp] theorem State.setMode_chart (s : State) (c i m : Nat) : (s.setMode c i m).chart = s.chart := rfl

@[simp] theorem State.resendRing_units (s : State) (g l : Nat) : (s.resendRing g l).units = s.units := by
  rw [State.resendRing, State.count_units, State.bump_units]

/-- Sending a ring again writes the count of resends alone. -/
theorem State.resendRing_seamState (s : State) (n l g k : Nat) : (s.resendRing n l).get (seamState g k) = s.get (seamState g k) := by
  rw [State.resendRing, State.get_of_regs (State.count_regs ..), State.get_bump_of_ne _ _ (seamErrResends_key_ne_seamState n g k)]

/-- A reset of a plane begins at once while both planes of its seam carry traffic and none waits (R306). -/
theorem State.resetPlane_of_both_up {s : State} {g l : Nat} (hown : s.get (seamState g l) = 2) (hother : s.get (seamState g (1 - l)) = 2)
    (hwaiting : s.seam.waiting = []) :
    s.resetPlane g l = ((s.resendRing g l).set (seamState g l) 1).setMode (inSeam g l).1 (inSeam g l).2 2 := by
  simp [State.resetPlane, hown, hother, hwaiting]

/-- The Helm's reset of a plane while both carry traffic: that plane is in reset, the other is not, and the messages in the core and the
chart stay (R306). -/
theorem execSeamResetCommand_of_both_up {s : State} {src : Sess} {who : Principal} {g : Fin 8} {pl : Plane} (hserves : s.serves src who)
    (hhelm : who.isHelm = true) (hreach : s.reach (F.seamErrResends g.val).addr = true)
    (hown : s.get (seamState g.val (planeNum pl)) = 2) (hother : s.get (seamState g.val (1 - planeNum pl)) = 2)
    (hwaiting : s.seam.waiting = []) :
    ∃ u : State, exec (.seamResetCommand src g pl) s = .next (u.done src) ∧ u.get (seamState g.val (planeNum pl)) = 1 ∧
      u.get (seamState g.val (1 - planeNum pl)) = 2 ∧ u.core = s.core ∧ u.chart = s.chart := by
  have hreset := State.resetPlane_of_both_up (s := s.touch src) hown hother hwaiting
  have hact : commandReset g.val (planeNum pl) (s.touch src) = (s.touch src).resetPlane g.val (planeNum pl) := by
    simp [commandReset, hown]
  have hunits : (((s.touch src).resendRing g.val (planeNum pl)).set (seamState g.val (planeNum pl)) 1).units = (s.touch src).units := by
    rw [State.set_units, State.resendRing_units]
  have hrun : (s.regCommandAt src (F.seamErrResends g.val).addr Principal.isHelm fun _ s => (commandReset g.val (planeNum pl) s, stOk)) =
      ((s.touch src).resetPlane g.val (planeNum pl)).done src := by
    rw [State.regCommandAt_served hserves hreach hhelm]
    simp only [hact, cciOf_ok, State.done]
  refine ⟨(s.touch src).resetPlane g.val (planeNum pl), congrArg Host.Outcome.next hrun, ?_, ?_, ?_, ?_⟩
  · rw [hreset, State.setMode_get, State.get_set_seamState _ _ _ (by decide)]
  · rw [hreset, State.setMode_get, State.get_set_of_ne _ _ _ _ (seamState_key_ne_other g.val pl), State.resendRing_seamState]
    exact hother
  · rw [hreset, State.setMode_core, State.core_of_units hunits]
    rfl
  · rw [hreset, State.setMode_chart, State.chart_of_units hunits]
    rfl

/-- The remaps a reset puts into force are register writes (R305). -/
theorem State.applySpares_units (s : State) (g l : Nat) : (s.applySpares g l).units = s.units := by
  refine foldl_keeps State.units (fun u n => ?_) _ s
  dsimp only
  split_ifs <;> simp

/-- The end of a plane's reset while no other waits (R306): the spares are in force, the plane carries traffic and its reset is counted. -/
theorem doSeamResetDone_of_inReset {s : State} {g l : Nat} (hreset : s.get (seamState g l) = 1) (hwaiting : s.seam.waiting = []) (t : Nat) :
    doSeamResetDone g l t s = ((((s.at t).applySpares g l).set (seamState g l) 2).bump (F.seamStatResets g) 1).setMode
      (inSeam g l).1 (inSeam g l).2 3 := by
  have hnone : (((((s.at t).applySpares g l).set (seamState g l) 2).bump (F.seamStatResets g) 1).setMode
      (inSeam g l).1 (inSeam g l).2 3).seam.waiting = [] :=
    (congrArg SeamUnit.waiting ((State.seam_of_units ((s.at t).applySpares_units g l)).trans (s.at_seam t))).trans hwaiting
  simp only [doSeamResetDone, State.at_get, hreset, if_true]
  rw [hnone]
  rfl

/-- A plane whose reset ends carries traffic again, and the messages in the core stay (R306). -/
theorem execSeamResetDone_of_inReset {s : State} {g : Fin 8} {pl : Plane} (hreset : s.get (seamState g.val (planeNum pl)) = 1)
    (hwaiting : s.seam.waiting = []) (t : Nat) :
    ∃ u : State, exec (.seamResetDone g pl t) s = .next u ∧ u.get (seamState g.val (planeNum pl)) = 2 ∧ u.core = s.core := by
  refine ⟨_, congrArg Host.Outcome.next (doSeamResetDone_of_inReset hreset hwaiting t), ?_, ?_⟩
  · rw [State.setMode_get, State.get_bump_of_ne _ _ (seamStatResets_key_ne_seamState _ _ _), State.get_set_seamState _ _ _ (by decide)]
  · have hunits : ((((s.at t).applySpares g.val (planeNum pl)).set (seamState g.val (planeNum pl)) 2).bump (F.seamStatResets g.val) 1).units =
        (s.at t).units := by rw [State.bump_units, State.set_units, State.applySpares_units]
    rw [State.setMode_core, State.core_of_units hunits, State.at_core]

/-- The Rose with both planes loses one (R307): the rings of all regions are sent again, the other plane carries on, and DEGRADED is raised. -/
def State.roseWithout (s : State) (l : Nat) : State :=
  (((List.range 8).foldl (fun s g => s.resendRing g l) s).setAll [(F.hubXbarstatMode, 3 - 2 ^ l), (F.hubXbarstatSpeedup, 115),
    (if l = 0 then F.hubTopoPlaneAUp else F.hubTopoPlaneBUp, 0)]).raise atDegraded [audPilot]

theorem State.roseWithout_units (s : State) (l : Nat) : (s.roseWithout l).units = s.units := by
  rw [State.roseWithout, State.raise_degraded, State.raiseOne_units, State.raiseOne_units, State.setAll_units]
  exact foldl_keeps State.units (fun s g => s.resendRing_units g l) _ s

/-- Raising DEGRADED for the Pilot and the Helm writes no field outside the attention registers. -/
theorem State.get_raise_degraded_of_lt (s : State) {f : Fld} (h : (F.fltAttnSeq audHelm).key < f.key) :
    (s.raise atDegraded [audPilot]).get f = s.get f := by
  have hpilot : (F.fltAttnSeq audPilot).key < f.key ∧ (F.fltAttnPend audPilot).key < f.key ∧ (F.fltAttnPend audHelm).key < f.key :=
    ⟨lt_trans (by decide) h, lt_trans (by decide) h, lt_trans (by decide) h⟩
  obtain ⟨hseq, hpend, hpendHelm⟩ := hpilot
  rw [State.raise_degraded, State.get_raiseOne_of_ne _ _ hpendHelm.ne h.ne, State.get_raiseOne_of_ne _ _ hpend.ne hseq.ne]

/-- The plane that is lost carries no traffic any more. -/
theorem State.roseWithout_mode (s : State) (pl : Plane) : (s.roseWithout (planeNum pl)).get F.hubXbarstatMode = 3 - 2 ^ planeNum pl := by
  rw [State.roseWithout, State.get_raise_degraded_of_lt _ (by decide)]
  simp only [State.setAll, List.foldl_cons, List.foldl_nil]
  rw [State.get_set_of_ne _ _ _ _ (by cases pl <;> decide), State.get_set_of_ne _ _ _ _ (by decide), State.get_set_same]
  cases pl <;> rfl

theorem State.roseWithout_speedup (s : State) (pl : Plane) : (s.roseWithout (planeNum pl)).get F.hubXbarstatSpeedup = 115 := by
  rw [State.roseWithout, State.get_raise_degraded_of_lt _ (by decide)]
  simp only [State.setAll, List.foldl_cons, List.foldl_nil]
  rw [State.get_set_of_ne _ _ _ _ (by cases pl <;> decide), State.get_set_same]
  rfl

/-- DEGRADED is pending for the Pilot, whom the Helm's raise after it leaves alone. -/
theorem State.roseWithout_degraded (s : State) (l : Nat) : ((s.roseWithout l).get (F.fltAttnPend 64)).testBit 14 = true := by
  rw [State.roseWithout, State.raise_degraded, State.get_raiseOne_of_ne _ _ (by decide) (by decide)]
  exact State.raiseOne_pending _ audPilot (by decide)

/-- The loss of a plane whose fault waits at the chip collector, while both planes carry traffic (R307, R315). -/
theorem doRosePlaneLoss_of_both_up {s : State} {pl : Plane} (hmode : s.get F.hubXbarstatMode = 3)
    (hwaits : s.flt.reactions = [(hubCol, 8 + planeNum pl)]) (t : Nat) :
    doRosePlaneLoss (planeNum pl) t s = ((s.at t).modFlt fun u => { u with reactions := [] }).roseWithout (planeNum pl) := by
  have htaken : (s.at t).takeReaction hubCol (8 + planeNum pl) = (s.at t).modFlt fun u => { u with reactions := [] } := by
    simp [State.takeReaction, State.modFlt, hwaits]
  have hmode' : ((s.at t).modFlt fun u => { u with reactions := [] }).get F.hubXbarstatMode = 3 := (s.at_get t _).trans hmode
  have hcarries : Nat.testBit 3 (planeNum pl) = true := by cases pl <;> rfl
  simp only [doRosePlaneLoss, htaken, hmode', hcarries, if_true]
  rfl

theorem execRosePlaneLoss_of_both_up {s : State} {pl : Plane} (hmode : s.get F.hubXbarstatMode = 3)
    (hwaits : s.flt.reactions = [(hubCol, 8 + planeNum pl)]) (t : Nat) :
    ∃ u : State, exec (.rosePlaneLoss pl t) s = .next u ∧ u.get F.hubXbarstatMode = 3 - 2 ^ planeNum pl ∧
      u.get F.hubXbarstatSpeedup = 115 ∧ (u.get (F.fltAttnPend 64)).testBit 14 = true ∧ u.core = s.core ∧ u.chart = s.chart := by
  refine ⟨_, congrArg Host.Outcome.next (doRosePlaneLoss_of_both_up hmode hwaits t), State.roseWithout_mode _ pl,
    State.roseWithout_speedup _ pl, State.roseWithout_degraded _ _, ?_, ?_⟩
  · rw [State.core_of_units (State.roseWithout_units ..)]
    exact s.at_core t
  · rw [State.chart_of_units (State.roseWithout_units ..)]
    exact s.at_chart t

/-- A regenerator that does not relock takes its region out of service (R308). -/
theorem execRegenRelockTimeout_of_unlocked {s : State} {g : Fin 8} (h : s.flag (F.seamStatRegenLock g.val) = false) (t : Nat) :
    exec (.regenRelockTimeout g t) s = .next (((s.at t).takeReaction (inRegen g.val).1 (inRegen g.val).2).regionOut g.val) := by
  have hflag : (s.at t).flag (F.seamStatRegenLock g.val) = false := by rw [State.flag, State.at_get, ← State.flag, h]
  refine congrArg Host.Outcome.next (?_ : doRegenRelockTimeout g.val t s = _)
  rw [doRegenRelockTimeout, hflag]
  rfl

/-- Settles O13: each clause is the lemma of its event; the relock and the trim's end are their meanings as they stand. -/
theorem seamsComplete : Obligations.SeamsComplete := by
  unfold Obligations.SeamsComplete
  refine ⟨fun s o id idx pl h data t sp0 sp1 m hcross hplane hparity => ?good,
    fun s o id idx pl h data t sp0 sp1 m hcross => ⟨fun hplane => ?bad, fun hplane => ?otherPlane⟩,
    fun s o id idx pl h data t sp0 sp1 m b hcross hbad hparity => ?resend,
    fun s src who g pl hserves hhelm hreach hown hother hwaiting => ?reset, fun s g pl t hreset hwaiting => ?resetDone,
    fun s pl t hmode hwaits => ?roseLoss, fun s g t h => ?relockTimeout, fun s g pl t => rfl, fun s g n w t => rfl⟩
  case good => exact congrArg Host.Outcome.next (doSeamSlotReceive_good hcross hplane hparity t)
  case bad => exact congrArg Host.Outcome.next (doSeamSlotReceive_rose hcross hplane h.val data sp0.val sp1.val t)
  case otherPlane => exact congrArg Host.Outcome.next (doSeamSlotReceive_otherPlane hcross hplane h.val data sp0.val sp1.val true t)
  case resend => exact congrArg Host.Outcome.next (doSeamResendReceive_good hcross hbad hparity t)
  case reset => exact execSeamResetCommand_of_both_up hserves hhelm hreach hown hother hwaiting
  case resetDone => exact execSeamResetDone_of_inReset hreset hwaiting t
  case roseLoss => exact execRosePlaneLoss_of_both_up hmode hwaits t
  case relockTimeout => exact execRegenRelockTimeout_of_unlocked h t

end Sys2Proof.Machine

/-! What every step keeps (R42, R398, R444): the queue, the time and the anti-rollback floor, from the spine of each operation. -/
namespace Sys2Proof.Machine

/-- An outcome is a next state that has the queue as it is, and neither the time nor the floor gone back. -/
def State.Advances (s : State) (o : Host.Outcome State Fault Refusal) : Prop :=
  ∃ u : State, o = .next u ∧ u.pending = s.pending ∧ s.now ≤ u.now ∧ s.nv.floor ≤ u.nv.floor

/-- A raise of the floor, and a time that has not gone back, advance the state. -/
theorem State.Advances.of_spine_eq {s u : State} {t g : Nat} (h : u.spine = (s.pending, max s.now t, max s.nv.floor g)) :
    s.Advances (.next u) := by
  obtain ⟨hpending, hnow, hfloor⟩ : u.pending = s.pending ∧ u.now = max s.now t ∧ u.nv.floor = max s.nv.floor g := by
    simpa [State.spine] using h
  exact ⟨u, rfl, hpending, hnow ▸ le_max_left .., hfloor ▸ le_max_left ..⟩

/-- A timed command leaves what the passing of time alone leaves. -/
theorem State.Advances.timed {s u : State} {t : Nat} (h : u.spine = (s.at t).spine) : s.Advances (.next u) :=
  .of_spine_eq (t := t) (g := 0) (by rw [h, State.at_spine, Nat.max_zero])

theorem State.Advances.untimed {s u : State} (h : u.spine = s.spine) : s.Advances (.next u) :=
  .timed (h.trans s.at_now_spine.symm)

theorem State.Advances.command {s : State} {src : Sess} {rights : Principal → Bool} {act : Principal → State → State}
    (h : ∀ p u, (act p u).spine = u.spine) : s.Advances (.next (s.command src rights act)) :=
  .untimed (State.command_spine h)

theorem State.Advances.regCommand {s : State} {src : Sess} {rights : Principal → Bool} {act : Principal → State → State × Nat}
    (h : ∀ p u, (act p u).1.spine = u.spine) : s.Advances (.next (s.regCommand src rights act)) :=
  .untimed (State.regCommand_spine h)

theorem State.Advances.regCommandAt {s : State} {src : Sess} {a : Nat} {rights : Principal → Bool} {act : Principal → State → State × Nat}
    (h : ∀ p u, (act p u).1.spine = u.spine) : s.Advances (.next (s.regCommandAt src a rights act)) :=
  .untimed (State.regCommandAt_spine h)

/-- The one command that may raise the floor: the commit of a chart (R42). -/
theorem State.Advances.chartCommitDone (t : Nat) (s : State) : s.Advances (execChartCommitDone t s) := by
  obtain ⟨g, hspine⟩ := doChartCommitDone_spine t s
  have hnow : (s.at t).now = max s.now t := by rw [State.at_eq]
  exact .of_spine_eq (t := t) (g := g) (by rw [State.serveWaiting_spine, hspine, hnow])

/-- PINFUSE_SET answers or begins a burn (R403). -/
theorem State.Advances.pinfuseSet (src : Sess) (pin : Fin 65536) (value : Bool) (s : State) :
    s.Advances (execPinfuseSet src pin value s) := by
  refine .command fun _ u => ?_
  split
  · exact State.beginBurn_spine ..
  · exact ite_keep (fun _ => State.respond_spine ..) fun _ => State.beginBurn_spine ..

/-- A packet of the Ethernet path comes as a datagram (R431); every other one is taken. -/
theorem State.Advances.mctpPacket (path : MgtPath) (pkt : MctpPacket) (s : State) : s.Advances (execMctpPacket path pkt s) := by
  cases path with
  | ethernet => exact .untimed rfl
  | i3c | inband | mailbox => exact .untimed (takePacket_spine ..)

/-- A built-in self-test starts as a Helm's command and ends by itself. -/
theorem State.Advances.builtInSelfTest (src : Sess) (c : Collector) (i : Fin 32) (failed ends : Bool) (s : State) :
    s.Advances (execBuiltInSelfTest src c i failed ends s) := by
  cases ends with
  | false =>
    rw [execBuiltInSelfTest, if_neg Bool.false_ne_true]
    exact .regCommand fun _ _ => ite_keep1 (fun _ => State.setMode_spine ..) fun _ => rfl
  | true =>
    rw [execBuiltInSelfTest, if_pos rfl]
    exact .untimed (ite_keep (fun _ => (State.setMode_spine ..).trans (ite_keep (fun _ => State.setBit_spine ..) fun _ => rfl)) fun _ => rfl)

/-- Every command advances the state: a timed one by its spine at its time, a command of a session by that of its effect. -/
theorem exec_advances (c : Instr) (s : State) : s.Advances (exec c s) := by
  cases c with
  | referenceFailure => exact .timed (doReferenceFailure_spine ..)
  | referenceRecovered => exact .timed (doReferenceRecovered_spine ..)
  | holdoverExpired => exact .timed (doHoldoverExpired_spine ..)
  | referenceRevert => exact .timed (doReferenceRevert_spine ..)
  | referenceForce => exact .regCommand fun _ _ => writeForce_spine ..
  | referenceTakeAtStart => exact .timed (doReferenceTakeAtStart_spine ..)
  | referenceStartTimeout => exact .timed (doReferenceStartTimeout_spine ..)
  | sscMeasurement => exact .untimed (doSscMeasurement_spine ..)
  | rootPllUnlock => exact .untimed (doRootPllUnlock_spine ..)
  | rootPllLock => exact .timed (doRootPllLock_spine ..)
  | chartLoad | chartAmend | chartQuiesce | chartResume | chartRebase | chartAbort => exact .untimed (chartCommand_spine ..)
  | quiesceDrained => exact .timed ((State.serveWaiting_spine _).trans (doQuiesceDrained_spine ..))
  | quiesceWaitExpired => exact .timed ((State.serveWaiting_spine _).trans (doQuiesceWaitExpired_spine ..))
  | chartChecksDone => exact .timed ((State.serveWaiting_spine _).trans (doChartChecksDone_spine ..))
  | chartLeaveWaitExpired => exact .timed ((State.serveWaiting_spine _).trans (doChartLeaveWaitExpired_spine ..))
  | chartCommitDone t => exact .chartCommitDone t s
  | amendmentApplyDone => exact .timed ((State.serveWaiting_spine _).trans (doAmendmentApplyDone_spine ..))
  | chartBufWrite => exact .regCommand fun _ _ => writeBuf_spine ..
  | logreadDataRead => exact .command fun _ _ => (State.respond_spine ..).trans (readLog_spine _)
  | chartStartup => exact .timed (doChartStartup_spine ..)
  | cxlLinkUp => exact .timed (doCxlLinkUp_spine ..)
  | cxlTrainingFailed => exact .timed (doCxlTrainingFailed_spine ..)
  | partnerRecoveryChange => exact .timed (doPartnerRecoveryChange_spine ..)
  | pbrAdv => exact .untimed (doPbrAdv_spine ..)
  | identifySwitchDevice | getVirtualCxlSwitchInfo | identify | backgroundOperationStatus | getResponseMessageLimit | getIdent =>
    exact .command fun _ _ => State.respond_spine ..
  | getPhysicalPortState | getBindingState =>
    exact .command fun _ _ => ite_keep (fun _ => State.respond_spine ..) fun _ => State.respond_spine ..
  | physicalPortControl => exact .command fun _ _ => State.onDsp_spine fun _ _ => (State.respond_spine ..).trans (portControl_spine ..)
  | sendPpbCxlioConfigRequest => exact .command fun _ _ => State.onDsp_spine fun _ _ => State.throughPleat_spine ..
  | bindVppb | bindPleat => exact .command fun _ _ => bindTo_spine ..
  | unbindVppb | unbindPleat => exact .command fun _ _ => State.takeTurn_spine fun _ => unbindNow_spine ..
  | generateAerEvent =>
    exact .command fun _ _ => ite_keep (fun _ => (State.respond_spine ..).trans (State.emit_spine ..)) fun _ => State.respond_spine ..
  | tunnelManagementCommand =>
    exact .command fun _ _ => State.onDsp_spine fun _ _ => ite_keep (fun _ => State.throughPleat_spine ..) fun _ => State.respond_spine ..
  | sendLdCxlioConfigRequest | sendLdCxlioMemoryRequest => exact .command fun _ _ => sendLd_spine ..
  | tackAdvance => exact .timed (doTackAdvance_spine ..)
  | tackSlotWaitExpired => exact .timed (doTackSlotWaitExpired_spine ..)
  | tackRetire => exact .timed (doTackRetire_spine ..)
  | responseWaitExpired => exact .timed (doResponseWaitExpired_spine ..)
  | unbindWaitSatisfied => exact .timed (doUnbindWaitSatisfied_spine ..)
  | unbindWaitExpired => exact .timed (doUnbindWaitExpired_spine ..)
  | slotControlWrite => exact .untimed (doSlotControlWrite_spine ..)
  | presenceDebounced => exact .timed (doPresenceDebounced_spine ..)
  | perstInChange => exact .untimed (doPerstInChange_spine ..)
  | messageIngress => exact .timed (doMessageIngress_spine ..)
  | admissionRequest => exact .timed (doAdmissionRequest_spine ..)
  | outputNextMessage => exact .timed (doOutputNextMessage_spine ..)
  | segmentRelease => exact .timed (doSegmentRelease_spine ..)
  | cutThroughGap => exact .timed (doCutThroughGap_spine ..)
  | poisonFill => exact .timed (doPoisonFill_spine ..)
  | demotionEnd => exact .timed (doDemotionEnd_spine ..)
  | seamSlotReceive => exact .timed (doSeamSlotReceive_spine ..)
  | seamResendReceive => exact .timed (doSeamResendReceive_spine ..)
  | seamResetCommand => exact .regCommandAt fun _ _ => commandReset_spine ..
  | seamResetDone => exact .timed (doSeamResetDone_spine ..)
  | rosePlaneLoss => exact .timed (doRosePlaneLoss_spine ..)
  | regenRelockTimeout => exact .timed (doRegenRelockTimeout_spine ..)
  | boltRowRetire => exact .timed (doBoltRowRetire_spine ..)
  | weightRefresh => exact .timed (doWeightRefresh_spine ..)
  | shaperSlot => exact .timed (doShaperSlot_spine ..)
  | queueSample => exact .timed (doQueueSample_spine ..)
  | qhistClear => exact .regCommandAt fun _ _ => clearHistograms_spine ..
  | tackCountsClear => exact .regCommandAt fun _ _ => clearStale_spine ..
  | ctstatClear => exact .regCommandAt fun _ _ => clearCtstat_spine ..
  | stgPeakClear => exact .regCommandAt fun _ _ => clearStgPeak_spine ..
  | homeAdmission => exact .timed (doHomeAdmission_spine ..)
  | rdS | rdOwn | upg | rdCur | evictS | wrBack | wrClean | wrFull | wrPart => exact .timed (doActivate_spine ..)
  | snData | snInv | snCur => exact .timed (doSnoopIn_spine ..)
  | srI | srS | srIData | srSData | srCurData | srCur => exact .timed (doSnoopResponse_spine ..)
  | biconflict => exact .timed (doBiconflict_spine ..)
  | poolResponse => exact .timed (doPoolResponse_spine ..)
  | snoopTimeout => exact .timed (doSnoopTimeout_spine ..)
  | deadAgentSweepDone => exact .timed (doDeadAgentSweepDone_spine ..)
  | agentRevive => exact .regCommand fun _ _ => reviveAgent_spine ..
  | writeBehind => exact .timed (doWriteBehind_spine ..)
  | windowFlushStart => exact .regCommand fun _ _ => startWindowFlush_spine ..
  | windowFlushDone => exact .timed (doWindowFlushDone_spine ..)
  | homeSliceFailover => exact .timed (doHomeSliceFailover_spine ..)
  | shadowReissue => exact .timed (doShadowReissue_spine ..)
  | homeFailoverDone => exact .timed (doHomeFailoverDone_spine ..)
  | hbmStackLoss => exact .timed (doHbmStackLoss_spine ..)
  | homeWorkRestart => exact .timed (doHomeWorkRestart_spine ..)
  | trkPeakClear => exact .regCommandAt fun _ _ => clearTrkPeak_spine ..
  | lodestarCommandWrite | copy | zero | sanitize => exact .timed (doApertureWrite_spine ..)
  | fetchAdd | compareSwap | swap | wait | notify | barrier | lock | unlock | groupCreate | groupJoin | groupLeave | groupDestroy |
  objAlloc | objFree =>
    exact .timed (doLodestarOp_spine ..)
  | lodestarResultReturn => exact .timed (doLodestarResultReturn_spine ..)
  | parkedTimeout => exact .timed (doParkedTimeout_spine ..)
  | allWaitingFreeze => exact .timed (doAllWaitingFreeze_spine ..)
  | allWaitingDecision => exact .timed (doAllWaitingDecision_spine ..)
  | ldsPeakClear => exact .regCommandAt fun _ _ => clearLdsPeak_spine ..
  | copyJobStart => exact .timed (doCopyJobStart_spine ..)
  | copyChunkDone => exact .timed (doCopyChunkDone_spine ..)
  | copyLeaveWaitExpired => exact .timed (doCopyLeaveWaitExpired_spine ..)
  | copyLeaveRenew => exact .timed (doCopyLeaveRenew_spine ..)
  | copyEngineFailure => exact .timed (doCopyEngineFailure_spine ..)
  | mgtCopySubmit => exact .regCommandAt fun _ _ => submitCopy_spine ..
  | violClear => exact .regCommandAt fun _ _ => clearViolation_spine ..
  | violCountClear => exact .regCommandAt fun _ _ => clearViolations_spine ..
  | sextantPointDone => exact .timed (doSextantPointDone_spine ..)
  | fomTick => exact .timed (doFomTick_spine ..)
  | rangeChangeRequest => exact .timed (doRangeChangeRequest_spine ..)
  | trialRetry => exact .timed (doTrialRetry_spine ..)
  | trialEnd => exact .timed (doTrialEnd_spine ..)
  | quietWindowGrant => exact .timed (doQuietWindowGrant_spine ..)
  | naturalGap => exact .timed (doNaturalGap_spine ..)
  | suspectStep => exact .timed (doSuspectStep_spine ..)
  | presetWrite => exact .timed (doPresetWrite_spine ..)
  | threshWrite => exact .regCommandAt fun _ _ => writeThresh_spine ..
  | sweepStart => exact .regCommand fun _ _ => startSweep_spine ..
  | sweepLaneDone => exact .timed (doSweepLaneDone_spine ..)
  | codewordReceive => exact .timed (doCodewordReceive_spine ..)
  | train => exact .untimed (doTrain_spine ..)
  | resetReq => exact .untimed (onFnl_spine fun _ => State.linkDown_spine ..)
  | creditSync => exact .untimed (onFnl_spine fun _ => State.sendTotals_spine ..)
  | retire => exact .untimed (onFnl_spine fun _ => State.setFnl_spine ..)
  | creditTotals => exact .untimed (onFnl_spine fun _ => State.takeTotals_spine ..)
  | creditSyncTimeout => exact .timed (doCreditSyncTimeout_spine ..)
  | nakTimeout => exact .timed (doNakTimeout_spine ..)
  | replayTimeout => exact .timed (doReplayTimeout_spine ..)
  | fnlTrainingPhase => exact .timed (doFnlTrainingPhase_spine ..)
  | fnlLinkUp => exact .timed (doFnlLinkUp_spine ..)
  | presetResetTimeout => exact .timed (doPresetResetTimeout_spine ..)
  | watchEnd => exact .timed (doWatchEnd_spine ..)
  | lossOfSignal => exact .timed (doLossOfSignal_spine ..)
  | graceExpired => exact .timed (doGraceExpired_spine ..)
  | linkResetCommand => exact .regCommandAt fun _ _ => resetLink_spine ..
  | linkUnretire => exact .regCommandAt fun _ _ => State.unretire_spine ..
  | cxlReplayTimeout => exact .timed (doCxlReplayTimeout_spine ..)
  | errorLineEvent => exact .untimed (doErrorLineEvent_spine ..)
  | wiringFault => exact .untimed (doWiringFault_spine ..)
  | wiringPoll => exact .timed (doWiringPoll_spine ..)
  | wiringRearm => exact .regCommandAt fun _ _ => rearmLine_spine ..
  | inputServiceEntry => exact .untimed (doInputServiceEntry_spine ..)
  | inputServiceTimeout => exact .untimed (doInputServiceTimeout_spine ..)
  | firstRecordClear => exact .regCommandAt fun _ _ => clearFirst_spine ..
  | collectorSelfFault => exact .untimed (doCollectorSelfFault_spine ..)
  | safeEnter => exact .regCommand fun _ _ => safeCommand_spine ..
  | safeDrainEnd => exact .timed (doSafeDrainEnd_spine ..)
  | safeExit => exact .regCommand fun _ _ => exitSafe_spine ..
  | c0WindowEnd => exact .timed (doC0WindowEnd_spine ..)
  | attentionAck => exact .regCommand fun _ _ => ackMask_spine ..
  | faultInject => exact .regCommandAt fun _ _ => injectFault_spine ..
  | correctableError => exact .timed (doCorrectableError_spine ..)
  | uncorrectableError => exact .timed (doUncorrectableError_spine ..)
  | scrubStart => exact .regCommandAt fun _ _ => startScrub_spine ..
  | scrubRead => exact .timed (doScrubRead_spine ..)
  | scrubLeaveRenew => exact .timed (doScrubLeaveRenew_spine ..)
  | scrubDone => exact .timed (doScrubDone_spine ..)
  | fuseBurn => exact .regCommand fun _ _ => startBurn_spine ..
  | fuseBurnDone => exact .timed (doFuseBurnDone_spine ..)
  | oringReverse => exact .timed (doOringReverse_spine ..)
  | feedPresent => exact .timed (doFeedPresent_spine ..)
  | feedQualified => exact .timed (doFeedQualified_spine ..)
  | bulkCapMeasure => exact .untimed (doBulkCapMeasure_spine ..)
  | feedPowerGood => exact .timed (doFeedPowerGood_spine ..)
  | feedStartTimeout => exact .timed (doFeedStartTimeout_spine ..)
  | gateCheckFailure => exact .timed (doGateCheckFailure_spine ..)
  | feedUndervoltage => exact .timed (doFeedUndervoltage_spine ..)
  | feedOvervoltageLong | feedOvervoltageFast => exact .timed (doFeedOvervoltage_spine ..)
  | feedLimitEnter => exact .timed (doFeedLimitEnter_spine ..)
  | feedLimitExit => exact .timed (doFeedLimitExit_spine ..)
  | feedOcTrip => exact .timed (doFeedOcTrip_spine ..)
  | feedFastTrip => exact .timed (doFeedFastTrip_spine ..)
  | feedRetry => exact .timed (doFeedRetry_spine ..)
  | feedTripCountClear => exact .timed (doFeedTripCountClear_spine ..)
  | feedCycled => exact .timed (doFeedCycled_spine ..)
  | feedRelease => exact .regCommand fun _ _ => releaseFeed_spine ..
  | feedUnretire => exact .regCommand fun _ _ => unretireFeed_spine ..
  | rideThroughStart => exact .timed (doRideThroughStart_spine ..)
  | rideThroughEnd => exact .timed (doRideThroughEnd_spine ..)
  | dataPlaneShed => exact .timed (doDataPlaneShed_spine ..)
  | shedPlaneOff => exact .timed (doShedPlaneOff_spine ..)
  | almanacSaveDone => exact .timed (doAlmanacSaveDone_spine ..)
  | avsAckTimeout => exact .untimed (doAvsAckTimeout_spine ..)
  | railPoll => exact .timed (doRailPoll_spine ..)
  | railFault => exact .untimed (doRailFault_spine ..)
  | brownOut => exact .untimed (doBrownOut_spine ..)
  | ldoGoFull => exact .regCommand fun _ _ => ldoGoFull_spine ..
  | ldoReturnLow => exact .timed (doLdoReturnLow_spine ..)
  | leaveRequest => exact .timed (doLeaveRequest_spine ..)
  | leaveRedecide => exact .timed (doLeaveRedecide_spine ..)
  | leaveRenew => exact .timed (doLeaveRenew_spine ..)
  | slipExpiry => exact .timed (doSlipExpiry_spine ..)
  | slipRelease => exact .regCommand fun _ _ => releaseSlip_spine ..
  | slipRenew => exact .regCommand fun _ _ => renewOwn_spine ..
  | leaveWithdraw => exact .regCommand fun _ _ => withdrawOwn_spine ..
  | lvcRequest => exact .regCommand fun _ _ => lvcRequest_spine ..
  | inputPeakClear => exact .regCommand fun _ _ => clearInputPeak_spine ..
  | enterP2 | enterP3 | exitP2 => exact .regCommand fun _ _ => writePstate_spine ..
  | pstateEntryComplete => exact .timed (doPstateEntryComplete_spine ..)
  | wake => exact .timed (State.leaveStandby_spine ..)
  | padRelease => exact .regCommand fun _ _ => releasePads_spine ..
  | powerOnReset => exact .timed (doPowerOnReset_spine ..)
  | feedReturnReset => exact .timed (doFeedReturnReset_spine ..)
  | resetL => exact .timed (doResetL_spine ..)
  | watchdogExpiry => exact .timed (doWatchdogExpiry_spine ..)
  | watchdogKick => exact .timed (doWatchdogKick_spine ..)
  | blockSwreset => exact .regCommandAt fun _ _ => resetBlock_spine ..
  | blockResetDone => exact .timed (doBlockResetDone_spine ..)
  | regionResetDone => exact .timed (doRegionResetDone_spine ..)
  | portReset => exact .timed (doPortReset_spine ..)
  | retainDataAccess => exact .command fun _ _ => (State.respond_spine ..).trans (retainAccess_spine ..)
  | managementBootDone => exact .timed (doManagementBootDone_spine ..)
  | regionPowerUpDone => exact .timed (doRegionPowerUpDone_spine ..)
  | ready => exact .timed (doReady_spine ..)
  | counterSelect => exact .regCommandAt fun _ _ => State.selectCtr_spine ..
  | counterClear => exact .regCommandAt fun _ _ => State.clearCtr_spine ..
  | tallyFreeze | tallyUnfreeze => exact .regCommand fun _ _ => setFreeze_spine ..
  | tallySnap => exact .regCommand fun _ _ => State.trigger_spine ..
  | tallyPeriod => exact .timed (doTallyPeriod_spine ..)
  | tallyBufferFlip => exact .timed (doTallyBufferFlip_spine ..)
  | tallyHoldRelease => exact .regCommand fun _ _ => releaseHold_spine ..
  | setEndpointId => exact .untimed (doSetEndpointId_spine ..)
  | getEndpointId => exact .untimed (doGetEndpointId_spine ..)
  | getVersionSupport => exact .untimed (doGetVersionSupport_spine ..)
  | getMessageTypeSupport => exact .untimed (doGetMessageTypeSupport_spine ..)
  | getEndpointUuid => exact .untimed (doGetEndpointUuid_spine ..)
  | keyExchange => exact .timed (doKeyExchange_spine ..)
  | getMeasurements => exact .untimed (doGetMeasurements_spine ..)
  | heartbeat => exact .timed (doHeartbeat_spine ..)
  | endSession => exact .untimed (doEndSession_spine ..)
  | sessionHeartbeatTimeout => exact .timed (doSessionHeartbeatTimeout_spine ..)
  | udpDatagram => exact .timed (doUdpDatagram_spine ..)
  | i3cAddressAssign => exact .untimed (doI3cAddressAssign_spine ..)
  | setResponseMessageLimit =>
    exact .command fun _ _ => ite_keep (fun _ => (State.respond_spine ..).trans (State.modMgt_spine ..)) fun _ => State.respond_spine ..
  | requestAbortBackgroundOp =>
    exact .command fun _ _ => (State.respond_spine ..).trans (ite_keep (fun _ => State.abortChart_spine _) fun _ => rfl)
  | regRead => exact .untimed (State.regRead_spine ..)
  | regWrite | registerWrite => exact .untimed (State.regWrite_spine ..)
  | keyProgram | keyRevoke | helmClaim | helmRotate => exact .command fun _ _ => State.beginBurn_spine ..
  | pinfuseSet => exact .pinfuseSet ..
  | pilotEnrol => exact .command fun _ _ => enrolPilot_spine ..
  | pilotRemove => exact .command fun _ _ => removePilot_spine ..
  | berthKeySet => exact .command fun _ _ => setBerthKey_spine ..
  | fuseBurnVerify => exact .timed (doFuseBurnVerify_spine ..)
  | moduleReset => exact .command fun _ _ => (State.softReset_spine ..).trans (State.respond_spine ..)
  | regionReset => exact .command fun _ _ => State.bgReset_spine (resetRegion_spine _)
  | blockReset => exact .command fun _ _ => State.bgReset_spine fun _ => ite_keep1 (fun _ => resetBlock_spine ..) fun _ => rfl
  | chartCmd => exact .command fun _ _ => ite_keep (fun _ => State.startBg_spine (issueChart_spine _ _)) fun _ => State.respond_spine ..
  | mailboxGo => exact .untimed (doMailboxGo_spine ..)
  | mailboxAbort => exact .untimed (doMailboxAbort_spine ..)
  | mailboxReqWrite => exact .untimed (doMailboxReqWrite_spine ..)
  | mailboxResponse => exact .timed (doMailboxResponse_spine ..)
  | tempSample => exact .timed (doTempSample_spine ..)
  | sensorBlind => exact .timed (doSensorBlind_spine ..)
  | throttleEnd => exact .timed (doThrottleEnd_spine ..)
  | tmaxPeakClear => exact .regCommand fun _ _ => clearPeak_spine ..
  | delayTrimEnd => exact .timed (State.wireFail_spine ..)
  | regeneratorRelock => exact .timed (doRegeneratorRelock_spine ..)
  | feedLeavesRange => exact .timed (doFeedLeavesRange_spine ..)
  | linkDownLeavesWindow => exact .timed (doLinkDownLeavesWindow_spine ..)
  | mctpPacket => exact .mctpPacket ..
  | cxlDataLinkDown => exact .timed (doCxlDataLinkDown_spine ..)
  | builtInSelfTest => exact .builtInSelfTest ..
  | histogramClearDone => exact .timed (doHistogramClearDone_spine ..)

/-- A step takes the front command and runs it, or lets one idle cycle pass. -/
theorem step_advances (s : State) : ({ s with pending := s.pending.tail } : State).Advances (step s) := by
  unfold step
  split
  · next hempty =>
    have hsame : ({ s with pending := s.pending.tail } : State) = s := by rw [hempty, List.tail_nil, ← hempty]
    rw [hsame]
    exact .timed s.idle_spine
  · next c rest hqueue =>
    rw [hqueue]
    exact exec_advances c _

/-- Settles O60: every command advances the state, and the step takes its command out of the queue first. -/
theorem everyStepKeepsQueueTimeAndFloor : Obligations.EveryStepKeepsQueueTimeAndFloor := by
  unfold Obligations.EveryStepKeepsQueueTimeAndFloor
  intro s t hstep
  obtain ⟨u, hu, hpending, hnow, hfloor⟩ := step_advances s
  obtain rfl : t = u := Host.Outcome.next.inj (hstep.symm.trans hu)
  exact ⟨hpending, hnow, hfloor⟩

end Sys2Proof.Machine

/-! Sessions: what a message in one leaves of it (R437). -/
namespace Sys2Proof

theorem SMap.find?_alter {α : Type} (m : SMap α) (k j : Nat) (f : α → α) :
    SMap.find? (SMap.alter m k f) j = if k = j then (SMap.find? m j).map f else SMap.find? m j := by
  unfold SMap.alter
  split
  · next hnone => split_ifs with hkj
                  · subst hkj; rw [hnone, Option.map_none]
                  · rfl
  · next v hsome => rw [SMap.find?_put]
                    split_ifs with hkj
                    · subst hkj; rw [hsome, Option.map_some]
                    · rfl

end Sys2Proof

namespace Sys2Proof.Machine

/-- A message of a session notes when it came, and leaves the rest of the session. -/
theorem State.touch_session (s : State) (src : Sess) : (s.touch src).session src = (s.session src).map fun r => { r with last := s.now } := by
  rw [State.session, State.touch, SMap.find?_alter, if_pos rfl, State.session]

theorem State.touch_inbandPleat (s : State) (src : Sess) : (s.touch src).inbandPleat src = s.inbandPleat src := by
  rw [State.inbandPleat, State.inbandPleat, State.touch_session]
  cases s.session src with
  | none => rfl
  | some r =>
    obtain ⟨who, path, key, id, last⟩ := r
    cases path <;> rfl

@[simp] theorem State.respond_chart (s : State) (src : Sess) (c : Cci) (st d : Nat) (l : List Nat) :
    (s.respond src c st d l).chart = s.chart := rfl
@[simp] theorem State.respond_chtu (s : State) (src : Sess) (c : Cci) (st d : Nat) (l : List Nat) :
    (s.respond src c st d l).chtu = s.chtu := rfl
@[simp] theorem State.respond_nv (s : State) (src : Sess) (c : Cci) (st d : Nat) (l : List Nat) :
    (s.respond src c st d l).nv = s.nv := rfl

end Sys2Proof.Machine

/-! The chart's commands (R45, R49, R50, R57, R58). -/
namespace Sys2Proof.Machine

/-- A write of CHT.CMD by the Pilot is answered with the status of its command. -/
theorem chartCommand_served {s : State} {src : Sess} {p : Principal} (hserves : s.serves src p) (hpilot : p.isPilot = true) {cmd : Nat}
    {u : State} {status : Nat} (hcmd : (s.touch src).chartCmd cmd (s.inbandPleat src) none = (u, status)) :
    chartCommand cmd src s = u.respond src (cciOf status) status 0 [] := by
  rw [chartCommand, State.regCommand_served hserves hpilot, State.touch_inbandPleat, hcmd]

/-- The state in which an operation has begun (R45, R46, R48, R53): the image is being checked, or the data plane quiesced. -/
def State.chartBegun (s : State) (kind : ChartKind) (via asker : Option Nat) : State :=
  (s.set F.chtStatusState (if kind = .quiesce then 5 else 1)).modChtu fun u => { u with
    op := some ⟨kind, 0, [], [], via, asker, [], [], 0, 0, s.now⟩
    quiesceStart := if kind = .quiesce then s.now else u.quiesceStart }

section
variable {s : State} {kind : ChartKind} {via asker : Option Nat}

theorem State.startChart_of_safe (hsafe : s.safeOn = true) : s.startChart kind via asker = (s.chartTurnedAway rcSafeState, stDenied) := by
  rw [State.startChart, if_pos hsafe]

theorem State.startChart_of_busy (hsafe : s.safeOn = false) (hbusy : s.chartBusy = true) :
    s.startChart kind via asker = (s.chartTurnedAway 1, stRetry) := by
  simp [State.startChart, hsafe, hbusy]

theorem State.startChart_of_waits (hsafe : s.safeOn = false) (hbusy : s.chartBusy = false)
    (hahead : s.bnd.work.isSome = true ∨ s.bnd.waits ≠ []) :
    s.startChart kind via asker = (s.modBnd fun u => { u with waits := u.waits ++ [.chart kind via asker] }, stOk) := by
  have hturn : (s.bnd.work.isSome || !s.bnd.waits.isEmpty) = true := by simpa using hahead
  rw [State.startChart, hsafe, hbusy, hturn]
  rfl

theorem State.startChart_of_free (hsafe : s.safeOn = false) (hbusy : s.chartBusy = false) (hwork : s.bnd.work = none)
    (hwaits : s.bnd.waits = []) : s.startChart kind via asker = (s.chartBegun kind via asker, stOk) := by
  rw [State.startChart, hsafe, hbusy, hwork, hwaits]
  rfl

end

/-- RESUME of a quiesced data plane (R45). -/
theorem State.resumeChart_of_quiesced {s : State} (h : s.get F.chtStatusState = 6) :
    s.resumeChart = (((s.modChtu fun u => { u with quiesced := false }).modLnk fun u => { u with held := false }).setAll
      [(F.chtStatusState, 0), (F.chtResultCode, 0), (F.chtResultSection, 0), (F.chtErrlocOffset, 0), (F.chtResultDone, 1)]).startLinks
        fun _ => true := by
  simp [State.resumeChart, h]

theorem State.chartCmd_resume_of_quiesced {s : State} {via asker : Option Nat} (hsafe : s.safeOn = false) (h : s.get F.chtStatusState = 6) :
    s.chartCmd 4 via asker = (s.resumeChart, stOk) := by
  simp [State.chartCmd, hsafe, h]

/-- ABORT of an operation on an image that has not begun to apply (R50). -/
theorem State.chartCmd_abort_of_op {s : State} {o : ChartOp} {via asker : Option Nat} (hop : s.chtu.op = some o) (hkind : o.kind ≠ .quiesce)
    (hstate : s.get F.chtStatusState ≤ 3) : s.chartCmd 6 via asker = (s.abortChart, stDenied) := by
  have hstops : s.abortStatus = stDenied := by simp [State.abortStatus, hop, hkind, hstate]; rfl
  exact congrArg (Prod.mk s.abortChart) hstops

theorem State.chartCmd_abort_of_applying {s : State} {o : ChartOp} {via asker : Option Nat} (hop : s.chtu.op = some o)
    (hstate : s.get F.chtStatusState = 4) : s.chartCmd 6 via asker = (s, stOk) := by
  simp [State.chartCmd, State.abortChart, State.abortStatus, hop, hstate]

theorem State.chartCmd_abort_of_idle {s : State} {via asker : Option Nat} (hop : s.chtu.op = none) (hbusy : s.chartBusy = false) :
    s.chartCmd 6 via asker = (s.chartTurnedAway 0, stOk) := by
  simp [State.chartCmd, State.abortChart, State.abortStatus, hop, hbusy]

end Sys2Proof.Machine

/-! What the homes' work and the Leave Controller's decisions leave as it is: the chart in force, the kept state and binding. -/
namespace Sys2Proof.Machine

/-- The chart in force, what no reset clears, and binding. -/
def State.kept (s : State) : Chart × NonVolatile × BindUnit := (s.chart, s.nv, s.bnd)

theorem State.kept_of_units {s u : State} (h : u.units = s.units) : u.kept = s.kept :=
  congrArg (a₁ := u.units) (a₂ := s.units) State.kept h

theorem State.chart_of_kept {s u : State} (h : u.kept = s.kept) : u.chart = s.chart := congrArg (·.1) h
theorem State.nv_of_kept {s u : State} (h : u.kept = s.kept) : u.nv = s.nv := congrArg (·.2.1) h
theorem State.bnd_of_kept {s u : State} (h : u.kept = s.kept) : u.bnd = s.bnd := congrArg (·.2.2) h

theorem State.kept_ite {c : Prop} [Decidable c] {a b : State} {x : Chart × NonVolatile × BindUnit} (ha : a.kept = x) (hb : b.kept = x) :
    (if c then a else b).kept = x := by
  split
  · exact ha
  · exact hb

@[simp] theorem State.set_kept (s : State) (f : Fld) (v : Nat) : (s.set f v).kept = s.kept := rfl
@[simp] theorem State.bump_kept (s : State) (f : Fld) (n : Nat) : (s.bump f n).kept = s.kept := rfl
@[simp] theorem State.wrapAdd_kept (s : State) (f : Fld) (n : Nat) : (s.wrapAdd f n).kept = s.kept := rfl
@[simp] theorem State.emit_kept (s : State) (e : Emit) : (s.emit e).kept = s.kept := rfl
@[simp] theorem State.modHome_kept (s : State) (f : HomeUnit → HomeUnit) : (s.modHome f).kept = s.kept := rfl
@[simp] theorem State.modCore_kept (s : State) (f : CoreUnit → CoreUnit) : (s.modCore f).kept = s.kept := rfl
theorem State.with_pwr_kept (s : State) (v : PowerUnit) : ({ s with pwr := v } : State).kept = s.kept := rfl
theorem State.with_ecc_kept (s : State) (v : EccUnit) : ({ s with ecc := v } : State).kept = s.kept := rfl
theorem State.with_home_kept (s : State) (v : HomeUnit) : ({ s with home := v } : State).kept = s.kept := rfl
theorem State.with_lvc_kept (s : State) (v : LeaveUnit) : ({ s with lvc := v } : State).kept = s.kept := rfl
@[simp] theorem State.setAll_kept (s : State) (l : List (Fld × Nat)) : (s.setAll l).kept = s.kept := State.kept_of_units (s.setAll_units l)
@[simp] theorem State.count_kept (s : State) (loc : Nat × Nat) (code : Nat) (sub : Nat → Bool) (berth : Option Nat) (n : Nat) :
    (s.count loc code sub berth n).kept = s.kept := State.kept_of_units (s.count_units ..)
@[simp] theorem State.raise_kept (s : State) (code : Nat) (auds : List Nat) : (s.raise code auds).kept = s.kept :=
  foldl_keeps State.kept (fun u a => State.kept_of_units (u.raiseOne_units code a)) _ s

/-! The homes (R160 to R201). -/

@[simp] theorem State.setTxn_kept (s : State) (t : Txn) : (s.setTxn t).kept = s.kept := rfl
@[simp] theorem State.dropTxn_kept (s : State) (t : Txn) : (s.dropTxn t).kept = s.kept := rfl
@[simp] theorem State.freeShadow_kept (s : State) (cell tag : Nat) : (s.freeShadow cell tag).kept = s.kept := rfl
@[simp] theorem State.filterUp_kept (s : State) (line : Nat) : (s.filterUp line).kept = s.kept := rfl
@[simp] theorem State.filterDown_kept (s : State) (line : Nat) : (s.filterDown line).kept = s.kept := rfl
@[simp] theorem State.freeFilter_kept (s : State) (n : Nat) : (s.freeFilter n).kept = s.kept := State.kept_ite rfl rfl

@[simp] theorem State.useEntry_kept (s : State) (line : Nat) : (s.useEntry line).kept = s.kept := by
  unfold State.useEntry
  split <;> rfl

@[simp] theorem State.putEntry_kept (s : State) (line : Nat) (x : DirEntry) : (s.putEntry line x).kept = s.kept := by
  unfold State.putEntry
  dsimp only
  split_ifs <;> simp

@[simp] theorem State.poisonEntry_kept (s : State) (home line : Nat) : (s.poisonEntry home line).kept = s.kept := State.putEntry_kept ..
@[simp] theorem State.poisonLine_kept (s : State) (home line : Nat) : (s.poisonLine home line).kept = s.kept := by simp [State.poisonLine]

@[simp] theorem State.lookup_kept (s : State) (home line : Nat) : (s.lookup home line).kept = s.kept := by
  unfold State.lookup
  split
  · rfl
  · exact State.kept_ite (State.poisonLine_kept ..) (State.kept_ite rfl (State.putEntry_kept ..))

theorem State.makeRoom_kept (s : State) (size : Nat) (held : List Nat) (line : Nat) : (s.makeRoom size held line).2.kept = s.kept := by
  unfold State.makeRoom
  split <;> rfl

@[simp] theorem State.dirCache_kept (s : State) (home line : Nat) : (s.dirCache home line).kept = s.kept := by
  simp [State.dirCache, State.makeRoom_kept]

@[simp] theorem State.poolWrite_kept (s : State) (id line data : Nat) (poison : Bool) : (s.poolWrite id line data poison).kept = s.kept := by
  unfold State.poolWrite
  split <;> rfl

@[simp] theorem State.sendSnoop_kept (s : State) (t : Txn) (line : Nat) (agents : List Nat) (op : SnpOp) :
    (s.sendSnoop t line agents op).kept = s.kept := by
  unfold State.sendSnoop
  exact foldl_keeps State.kept (fun _ _ => by simp) _ _

@[simp] theorem State.sendSnoops_kept (s : State) (t : Txn) (line : Nat) (l : List (Nat × SnpOp)) : (s.sendSnoops t line l).kept = s.kept := by
  unfold State.sendSnoops
  refine foldl_keeps State.kept (fun u x => ?_) _ s
  split
  · rfl
  · exact State.kept_ite (State.sendSnoop_kept ..) rfl

@[simp] theorem State.homeReply_kept (s : State) (cell tag : Nat) (berth : Option Nat) (what : HomeReply) (status : Nat) (data : Option Nat)
    (poison : Bool) : (s.homeReply cell tag berth what status data poison).kept = s.kept := by
  unfold State.homeReply
  dsimp only
  split_ifs <;> simp

@[simp] theorem State.answerTxn_kept (s : State) (t : Txn) (what : HomeReply) (status : Nat) (data : Option Nat) (poison : Bool) :
    (s.answerTxn t what status data poison).kept = s.kept := by simp [State.answerTxn]

theorem State.violation_kept (s : State) (n line berth kind source : Nat) (parts : Bool) :
    (s.violation n line berth kind source parts).kept = s.kept := by
  unfold State.violation
  split
  dsimp only
  split_ifs <;> simp

theorem State.gateCheck_kept (s : State) (n : Nat) (lines : List Nat) (berth kind source : Nat) :
    (s.gateCheck n lines berth kind source).2.kept = s.kept := by
  unfold State.gateCheck
  split
  · rfl
  · exact State.violation_kept ..

theorem State.refuseRequest_kept {s u : State} {t : Txn} {op : CohOp} {x : DirEntry} (h : s.refuseRequest t op x = some u) :
    u.kept = s.kept := by
  unfold State.refuseRequest at h
  dsimp only at h
  split at h
  · cases h
  · split at h
    · obtain rfl := Option.some.inj h
      simp
    · split at h
      · split at h
        · cases h
        · obtain rfl := Option.some.inj h
          simp [State.gateCheck_kept]
      · cases h

@[simp] theorem State.proceed_kept (fuel id : Nat) (s : State) : (State.proceed fuel id s).kept = s.kept := by
  induction fuel generalizing id s with
  | zero => rfl
  | succ fuel ih =>
    unfold State.proceed
    split
    · rfl
    · extract_lets +onlyGivenNames w compat x op go unknown needEntry again
      have hgo (st : Stage) (u : State) : (go st u).kept = u.kept := by
        dsimp only [go]
        rw [ih]
        split <;> rfl
      have hagain (u : State) : (again u).kept = u.kept := by
        dsimp only [again]
        rw [hgo]
        split <;> rfl
      clear_value w compat x op go unknown needEntry again
      repeat' first | (simp [hgo, hagain]; done) | split | dsimp only

@[simp] theorem State.startTxn_kept (s : State) (t : Txn) : (s.startTxn t).kept = s.kept := by
  unfold State.startTxn
  extract_lets hit s1 s2 s3 x
  have hs3 : s3.kept = s.kept := by
    have hs2 : s2.kept = s1.kept := State.kept_ite rfl (State.count_kept ..)
    simp [s3, hs2, s1]
  clear_value s3
  split
  · split
    · next hrefuse => exact (State.refuseRequest_kept hrefuse).trans hs3
    · simp [hs3]
  · simp [hs3]
  · split_ifs <;> simp [hs3]
  · split_ifs <;> simp [hs3]

@[simp] theorem State.originate_kept (s : State) (line : Nat) (j : Job) : (s.originate line j).kept = s.kept := rfl

@[simp] theorem State.scanWork_kept (s : State) : (s.scanWork).kept = s.kept := by
  unfold State.scanWork
  dsimp only
  rw [foldl_keeps State.kept, foldl_keeps State.kept]
  all_goals
    intro u l
    split
    · rfl
    · exact State.kept_ite rfl rfl

@[simp] theorem State.addTxn_kept (s : State) (n : Nat) (x : Shadow) (replay : Bool) : (s.addTxn n x replay).kept = s.kept := by
  simp [State.addTxn]

@[simp] theorem State.admitEngines_kept (s : State) : (s.admitEngines).kept = s.kept :=
  foldl_keeps State.kept (fun u x => State.kept_ite (by simp [State.keepShadow]) rfl) _ s

@[simp] theorem State.settleOnce_kept (s : State) : (s.settleOnce).kept = s.kept := by
  unfold State.settleOnce
  extract_lets s1
  have hs1 : s1.kept = s.kept := by
    refine foldl_keeps State.kept (fun u t => ?_) _ s
    split
    · rfl
    · split
      · rfl
      · exact State.kept_ite (by simp) (State.kept_ite (by simp) rfl)
  rw [foldl_keeps State.kept, State.scanWork_kept, hs1]
  intro u t
  split
  · rfl
  · exact State.kept_ite (by simp) (State.kept_ite (by simp) rfl)

@[simp] theorem State.settleHomes_kept (n : Nat) (s : State) : (State.settleHomes n s).kept = s.kept := by
  induction n generalizing s with
  | zero => rfl
  | succ n ih => exact State.kept_ite rfl ((ih _).trans s.settleOnce_kept)

@[simp] theorem State.settle_kept (s : State) : (s.settle).kept = s.kept := by simp [State.settle, State.clearHomeOver]

/-! The Leave Controller (R377 to R380). -/

@[simp] theorem State.endBg_kept (s : State) (n opcode : Nat) (code : Cci) (status detail : Nat) :
    (s.endBg n opcode code status detail).kept = s.kept := rfl

@[simp] theorem State.endChart_kept (s : State) (code sect loc : Nat) : (s.endChart code sect loc).kept = s.kept := by
  unfold State.endChart
  extract_lets s1 s2
  have hs1 : s1.kept = s.kept := State.setAll_kept ..
  clear_value s1
  have hs2 : s2.kept = s1.kept := by
    dsimp only [s2]
    split
    · exact State.endBg_kept ..
    · rfl
  clear_value s2
  exact hs2.trans hs1

@[simp] theorem State.onGrant_kept (s : State) (q : LeaveReq) (i : Nat) : (s.onGrant q i).kept = s.kept := by
  unfold State.onGrant
  cases q.purpose with
  | regionPower | bulkSweep => rfl
  | chartResets | chartCommit | copyEngine => exact State.set_kept ..
  | scrub => exact (State.with_ecc_kept ..).trans (State.set_kept ..)
  | almanacSave => exact (State.with_pwr_kept ..).trans (State.set_kept ..)
  | deadSweep => exact (State.settle_kept _).trans ((State.modHome_kept ..).trans (State.setAll_kept ..))
  | windowFlush | ldoFull | otherMgt => simp

@[simp] theorem State.onRefuse_kept (s : State) (q : Purpose) (reason : Nat) : (s.onRefuse q reason).kept = s.kept := by
  unfold State.onRefuse
  cases q with
  | regionPower | copyEngine | deadSweep | almanacSave => rfl
  | bulkSweep => exact State.setAll_kept (s.modLan _) _
  | chartResets | chartCommit | ldoFull | otherMgt => simp
  | scrub => exact State.kept_ite rfl ((State.with_ecc_kept ..).trans (State.setAll_kept ..))
  | windowFlush => exact (State.with_home_kept ..).trans (State.setAll_kept ..)

@[simp] theorem State.grantLeave_kept (s : State) (q : LeaveReq) : (s.grantLeave q).kept = s.kept :=
  State.kept_ite (State.onGrant_kept ..) (State.onGrant_kept ..)

@[simp] theorem State.refuseLeave_kept (s : State) (q : Purpose) (reason : Nat) : (s.refuseLeave q reason).kept = s.kept :=
  State.onRefuse_kept ..

theorem State.redecideList_kept (s : State) (stop : Bool) (l : List LeaveReq) : (s.redecideList stop l).kept = s.kept := by
  induction l generalizing s stop with
  | nil => rfl
  | cons q r ih =>
    unfold State.redecideList
    split
    · exact State.kept_ite (ih ..) ((ih ..).trans (State.grantLeave_kept ..))
    · exact (ih ..).trans (State.refuseLeave_kept ..)
    · exact ih ..

@[simp] theorem State.releaseFor_kept (s : State) (q : Purpose) : (s.releaseFor q).kept = s.kept := State.redecideList_kept ..

@[simp] theorem State.withdrawFor_kept (s : State) (q : Purpose) : (s.withdrawFor q).kept = s.kept := State.kept_ite rfl rfl

end Sys2Proof.Machine

/-! The end of a chart operation (R50, R57, R58). -/
namespace Sys2Proof.Machine

theorem State.endChart_op (s : State) (code sect loc : Nat) : (s.endChart code sect loc).chtu.op = none := rfl

theorem State.chtu_of_units {s u : State} (h : u.units = s.units) : u.chtu = s.chtu :=
  congrArg (a₁ := u.units) (a₂ := s.units) State.chtu h

/-- What the end of an operation writes: its result, and STATE. -/
def State.withResult (s : State) (code sect loc : Nat) : State :=
  s.setAll [(F.chtResultCode, code), (F.chtResultSection, sect), (F.chtErrlocOffset, loc), (F.chtResultDone, 1),
    (F.chtStatusState, if s.chtu.quiesced then 6 else 0)]

/-- What the end of an operation is to a view that a background command's completion and the operation's own record are no part of:
the writing of its result. -/
theorem State.endChart_view {α : Type} (view : State → α) (hbg : ∀ u n opcode code status detail,
    view (State.endBg u n opcode code status detail) = view u)
    (hop : ∀ u : State, view { u with chtu := { u.chtu with op := none } } = view u) (s : State) (code sect loc : Nat) :
    view (s.endChart code sect loc) = view (s.withResult code sect loc) := by
  rw [State.endChart, ← State.withResult]
  dsimp only
  rw [hop]
  split
  · exact hbg ..
  · rfl

theorem State.endChart_quiesced (s : State) (code sect loc : Nat) : (s.endChart code sect loc).chtu.quiesced = s.chtu.quiesced :=
  (State.endChart_view (fun u => u.chtu.quiesced) (fun _ _ _ _ _ _ => rfl) (fun _ => rfl) s code sect loc).trans
    (congrArg ChartUnit.quiesced (State.chtu_of_units (s.setAll_units _)))

theorem State.endChart_get (s : State) (code sect loc : Nat) (f : Fld) :
    (s.endChart code sect loc).get f = (s.withResult code sect loc).get f :=
  State.get_of_regs (State.endChart_view State.regs (fun _ _ _ _ _ _ => rfl) (fun _ => rfl) s code sect loc) f

theorem State.endChart_code (s : State) {code : Nat} (hcode : code < 256) (sect loc : Nat) :
    (s.endChart code sect loc).get F.chtResultCode = code := by
  rw [State.endChart_get]
  simp only [State.withResult, State.setAll, List.foldl_cons, List.foldl_nil]
  rw [State.get_set_of_ne _ _ _ _ (by decide), State.get_set_of_ne _ _ _ _ (by decide), State.get_set_of_ne _ _ _ _ (by decide),
    State.get_set_of_ne _ _ _ _ (by decide), State.get_set_same]
  exact Nat.mod_eq_of_lt hcode

theorem State.endChart_done (s : State) (code sect loc : Nat) : (s.endChart code sect loc).get F.chtResultDone = 1 := by
  rw [State.endChart_get]
  simp only [State.withResult, State.setAll, List.foldl_cons, List.foldl_nil]
  rw [State.get_set_of_ne _ _ _ _ (by decide), State.get_set_same]
  rfl

/-- STATE reads QUIESCED again when the data plane is quiesced. -/
theorem State.endChart_state_of_quiesced {s : State} (h : s.chtu.quiesced = true) (code sect loc : Nat) :
    (s.endChart code sect loc).get F.chtStatusState = 6 := by
  rw [State.endChart_get]
  simp only [State.withResult, h, State.setAll, List.foldl_cons, List.foldl_nil]
  rw [State.get_set_same]
  rfl

/-- An operation on an image stopped by ABORT (R50): its leave is given back, and it ends ABORTED. -/
def State.chartStopped (s : State) : State :=
  ((((s.withdrawFor .chartResets).withdrawFor .chartCommit).releaseFor .chartResets).releaseFor .chartCommit).endChart rcAborted 0 0

theorem State.abortChart_of_op {s : State} {o : ChartOp} (hop : s.chtu.op = some o) (hkind : o.kind ≠ .quiesce)
    (hstate : s.get F.chtStatusState ≤ 3) : s.abortChart = s.chartStopped.serveWaiting := by
  rw [State.abortChart, hop]
  exact if_pos ⟨hkind, hstate⟩

/-- An ABORT leaves the chart in force, the kept state and binding. -/
theorem State.chartStopped_kept (s : State) : s.chartStopped.kept = s.kept := by simp [State.chartStopped]

theorem State.chartStopped_ended (s : State) : s.chartStopped.chtu.op = none ∧ s.chartStopped.get F.chtResultCode = rcAborted ∧
    s.chartStopped.get F.chtResultDone = 1 :=
  ⟨State.endChart_op .., State.endChart_code _ (by decide) _ _, State.endChart_done ..⟩

/-- With no command waiting none is served. -/
theorem State.serveWaiting_of_none {s : State} (h : s.bnd.waits = []) : s.serveWaiting = s := by
  rw [State.serveWaiting, h]

/-- ABORT of an operation on an image before its apply: it is stopped, the commands that wait are served, and the answer is DENIED. -/
theorem execChartAbort_of_op {s : State} {src : Sess} {p : Principal} {o : ChartOp} (hserves : s.serves src p) (hpilot : p.isPilot = true)
    (hop : s.chtu.op = some o) (hkind : o.kind ≠ .quiesce) (hstate : s.get F.chtStatusState ≤ 3) :
    exec (.chartAbort src) s = .next ((s.touch src).chartStopped.serveWaiting.respond src .invalidInput stDenied 0 []) := by
  have hcmd := State.chartCmd_abort_of_op (s := s.touch src) (via := s.inbandPleat src) (asker := none) hop hkind hstate
  rw [State.abortChart_of_op (s := s.touch src) hop hkind hstate] at hcmd
  exact congrArg Host.Outcome.next (chartCommand_served hserves hpilot hcmd)

/-- Settles O5: an ABORT before the apply is `State.chartStopped`; in APPLYING it finds nothing to do. -/
theorem abortActsBeforeTheCommit : Obligations.AbortActsBeforeTheCommit := by
  unfold Obligations.AbortActsBeforeTheCommit
  intro s src p o hserves hpilot hop hkind
  refine ⟨fun hstate => ?_, fun hstate => ?_⟩
  · obtain ⟨hnone, hcode, hdone⟩ := (s.touch src).chartStopped_ended
    have hkept := (s.touch src).chartStopped_kept
    exact ⟨_, execChartAbort_of_op hserves hpilot hop hkind hstate, hnone, hcode, hdone, State.chart_of_kept hkept,
      State.nv_of_kept hkept⟩
  · exact congrArg Host.Outcome.next (chartCommand_served hserves hpilot (State.chartCmd_abort_of_applying (s := s.touch src) hop hstate))

/-- The value of CHT.CTRL.CMD that asks for an operation (R58), and the command that writes it. -/
def ChartKind.cmd : ChartKind → Nat
  | .load => 1
  | .amend => 2
  | .quiesce => 3
  | .rebase => 5

def ChartKind.command (kind : ChartKind) (src : Sess) : Instr :=
  match kind with
  | .load => .chartLoad src
  | .amend => .chartAmend src
  | .quiesce => .chartQuiesce src
  | .rebase => .chartRebase src

theorem ChartKind.exec_command (kind : ChartKind) (src : Sess) (s : State) :
    exec (kind.command src) s = .next (chartCommand kind.cmd src s) := by
  cases kind <;> rfl

theorem State.chartCmd_of_kind (s : State) (kind : ChartKind) (via asker : Option Nat) :
    s.chartCmd kind.cmd via asker = s.startChart kind via asker := by
  cases kind <;> rfl

/-- A command that asks for an operation is answered with the status of its start. -/
theorem ChartKind.exec_served {s : State} {src : Sess} {p : Principal} (hserves : s.serves src p) (hpilot : p.isPilot = true)
    (kind : ChartKind) {u : State} {status : Nat} (h : (s.touch src).startChart kind (s.inbandPleat src) none = (u, status)) :
    exec (kind.command src) s = .next (u.respond src (cciOf status) status 0 []) := by
  rw [kind.exec_command, chartCommand_served hserves hpilot ((State.chartCmd_of_kind ..).trans h)]

/-- Settles O3: each command is `State.startChart`, `State.resumeChart` or `State.abortChart` in one of its cases. -/
theorem chartCommandsBegin : Obligations.ChartCommandsBegin := by
  unfold Obligations.ChartCommandsBegin
  refine ⟨fun s src p hserves hpilot hsafe hbusy hwork hwaits => ?begins, fun s src p hserves hpilot hsafe hbusy hahead => ?waits,
    fun s src p hserves hpilot hsafe hquiesced => ?resume, fun s src p o hserves hpilot hop hkind hstate hwaits => ?abort,
    fun s src p hserves hpilot hop hbusy => ?abortIdle, fun s src p c hserves hpilot hc => ?turnedAway⟩
  case begins =>
    have hbegin (kind : ChartKind) := kind.exec_served hserves hpilot
      (State.startChart_of_free (s := s.touch src) hsafe hbusy hwork hwaits)
    exact ⟨hbegin .load, hbegin .amend, hbegin .rebase, hbegin .quiesce⟩
  case waits =>
    have hwait (kind : ChartKind) := kind.exec_served hserves hpilot (State.startChart_of_waits (s := s.touch src) hsafe hbusy hahead)
    exact ⟨hwait .load, hwait .amend, hwait .rebase, hwait .quiesce⟩
  case resume =>
    have hcmd := State.chartCmd_resume_of_quiesced (s := s.touch src) (via := s.inbandPleat src) (asker := none) hsafe hquiesced
    rw [State.resumeChart_of_quiesced (s := s.touch src) hquiesced] at hcmd
    exact congrArg Host.Outcome.next (chartCommand_served hserves hpilot hcmd)
  case abort =>
    obtain ⟨hnone, hcode, hdone⟩ := (s.touch src).chartStopped_ended
    have hkept := (s.touch src).chartStopped_kept
    have hserved : (s.touch src).chartStopped.serveWaiting = (s.touch src).chartStopped :=
      State.serveWaiting_of_none ((congrArg BindUnit.waits (State.bnd_of_kept hkept)).trans hwaits)
    have hexec := execChartAbort_of_op hserves hpilot hop hkind hstate
    rw [hserved] at hexec
    refine ⟨_, hexec, ?_⟩
    rw [State.respond_chtu, State.respond_get, State.respond_get, State.respond_chart, State.respond_nv]
    exact ⟨hnone, hcode, hdone, State.chart_of_kept hkept, congrArg NonVolatile.gen (State.nv_of_kept hkept)⟩
  case abortIdle =>
    exact congrArg Host.Outcome.next (chartCommand_served hserves hpilot (State.chartCmd_abort_of_idle (s := s.touch src) hop hbusy))
  case turnedAway =>
    obtain ⟨kind, rfl⟩ : ∃ kind : ChartKind, c = kind.command src := by
      rcases hc with rfl | rfl | rfl | rfl
      exacts [⟨.load, rfl⟩, ⟨.amend, rfl⟩, ⟨.rebase, rfl⟩, ⟨.quiesce, rfl⟩]
    exact ⟨fun hsafe => kind.exec_served hserves hpilot (State.startChart_of_safe (s := s.touch src) hsafe),
      fun hsafe hbusy => kind.exec_served hserves hpilot (State.startChart_of_busy (s := s.touch src) hsafe hbusy)⟩

end Sys2Proof.Machine

/-! The steps of chart operations (R43 to R54, R58). -/
namespace Sys2Proof.Machine

@[simp] theorem State.at_chtu (s : State) (t : Nat) : (s.at t).chtu = s.chtu := by rw [State.at_eq]
@[simp] theorem State.at_pwr (s : State) (t : Nat) : (s.at t).pwr = s.pwr := by rw [State.at_eq]
@[simp] theorem State.at_home (s : State) (t : Nat) : (s.at t).home = s.home := by rw [State.at_eq]

/-! Links held in reset (R45 step 3). -/

/-- What the end of a link's traffic leaves: the chart in force, the power stage, and whether links are held. -/
def State.linkView (s : State) : Chart × PowerUnit × Bool := (s.chart, s.pwr, s.lnk.held)

theorem State.linkView_of_units {s u : State} (h : u.units = s.units) : u.linkView = s.linkView :=
  congrArg (a₁ := u.units) (a₂ := s.units) State.linkView h

theorem State.chart_of_linkView {s : State} {c : Chart} {w : PowerUnit} {held : Bool} (h : s.linkView = (c, w, held)) : s.chart = c :=
  congrArg (·.1) h

theorem State.pwr_of_linkView {s : State} {c : Chart} {w : PowerUnit} {held : Bool} (h : s.linkView = (c, w, held)) : s.pwr = w :=
  congrArg (·.2.1) h

theorem State.held_of_linkView {s : State} {c : Chart} {w : PowerUnit} {held : Bool} (h : s.linkView = (c, w, held)) :
    s.lnk.held = held :=
  congrArg (·.2.2) h

@[simp] theorem State.setAll_linkView (s : State) (l : List (Fld × Nat)) : (s.setAll l).linkView = s.linkView :=
  State.linkView_of_units (s.setAll_units l)

theorem State.setForward_linkView (s : State) (p : Nat) : (s.setForward p).linkView = s.linkView :=
  foldl_keeps State.linkView (fun u _ => u.setAll_linkView _) _ s

theorem State.dropCalibration_linkView (s : State) (p : Nat) : (s.dropCalibration p).linkView = s.linkView := by
  refine (foldl_keeps State.linkView (fun u l => ?_) _ _).trans (State.setAll_linkView (s.modLan _) _)
  dsimp only
  split
  · exact State.setAll_linkView ..
  · exact State.setAll_linkView ..

theorem State.slotEvent_linkView (s : State) (v i : Nat) (presence dll attention : Bool) :
    (s.slotEvent v i presence dll attention).linkView = s.linkView := rfl

theorem State.dllEvent_linkView (s : State) (p : Nat) : (s.dllEvent p).linkView = s.linkView :=
  foldl_keeps State.linkView (fun u _ => u.slotEvent_linkView ..) _ s

theorem State.dropLink_linkView (s : State) (p : Nat) : (s.dropLink p).linkView = s.linkView := by
  unfold State.dropLink
  extract_lets was s1
  have hs1 : s1.linkView = s.linkView :=
    (State.dropCalibration_linkView ..).trans ((State.setForward_linkView ..).trans (State.setAll_linkView ..))
  clear_value s1
  split
  · exact (s1.dllEvent_linkView p).trans hs1
  · exact hs1

/-- Held links carry nothing, and nothing else of the chart or the power stage changes. -/
theorem State.holdLinks_linkView (s : State) : s.holdLinks.linkView = (s.chart, s.pwr, true) := by
  refine foldl_keeps State.linkView (fun u p => ?_) _ _
  dsimp only
  split
  · exact u.dropLink_linkView p
  · exact u.dropLink_linkView p

/-- The end of an operation leaves the chart in force, the power stage and the links. -/
theorem State.endChart_linkView (s : State) (code sect loc : Nat) : (s.endChart code sect loc).linkView = s.linkView :=
  (State.endChart_view State.linkView (fun _ _ _ _ _ _ => rfl) (fun _ => rfl) s code sect loc).trans (s.setAll_linkView _)

theorem State.modChtu_linkView (s : State) (f : ChartUnit → ChartUnit) : (s.modChtu f).linkView = s.linkView := rfl

end Sys2Proof.Machine

/-! The end of a quiesce (R45 step 3). -/
namespace Sys2Proof.Machine

/-- The state in which a quiesce has taken effect: links held, and the data plane marked quiesced. -/
def State.linksHeld (s : State) : State := s.holdLinks.modChtu fun u => { u with quiesced := true }

theorem State.linksHeld_linkView (s : State) : s.linksHeld.linkView = (s.chart, s.pwr, true) :=
  (State.modChtu_linkView ..).trans s.holdLinks_linkView

theorem State.entryWork_of_idle {s : State} (h : s.pwr.entry = 0) : s.entryWork = s := by
  rw [State.entryWork, h]
  rfl

/-- A quiesce that runs ends QUIESCED with result 0. -/
theorem State.quiesceEnd_of_op {s : State} (hop : s.chtu.op.isSome = true) (hentry : s.pwr.entry = 0) :
    s.quiesceEnd = s.linksHeld.endChart 0 0 0 := by
  have hview : (s.linksHeld.endChart 0 0 0).linkView = (s.chart, s.pwr, true) :=
    (State.endChart_linkView ..).trans s.linksHeld_linkView
  rw [State.quiesceEnd, ← State.linksHeld, if_pos hop]
  exact State.entryWork_of_idle ((congrArg PowerUnit.entry (State.pwr_of_linkView hview)).trans hentry)

end Sys2Proof.Machine

/-! The amendment log's read pointer and CHT.BUF (R58). -/
namespace Sys2Proof.Machine

/-- The pointer's register keeps the address in units of 64 bytes, and the unit the byte within one. -/
theorem readLog_pointer (s : State) : 64 * (readLog s).2.get F.chtLogreadOffset + (readLog s).2.chtu.logByte =
    (64 * s.get F.chtLogreadOffset + s.chtu.logByte + 4) % 2 ^ (F.chtLogreadOffset.width + 6) := by
  have hget : (readLog s).2.get F.chtLogreadOffset = (64 * s.get F.chtLogreadOffset + s.chtu.logByte + 4) / 64 % 2 ^ 22 :=
    State.get_set_same ..
  have hbyte : (readLog s).2.chtu.logByte = (64 * s.get F.chtLogreadOffset + s.chtu.logByte + 4) % 64 := rfl
  have hwidth : F.chtLogreadOffset.width + 6 = 28 := rfl
  rw [hget, hbyte, hwidth]
  generalize 64 * s.get F.chtLogreadOffset + s.chtu.logByte + 4 = a
  omega

/-- A word enters the buffer as its 4 bytes. -/
theorem writeBuf_of_idle {s : State} (h : s.chartBusy = false) (off w : Nat) : writeBuf off w s = (s.modChtu fun u => { u with
    buf := SMap.put (SMap.put (SMap.put (SMap.put u.buf off (w % 256)) (off + 1) (w / 256 % 256)) (off + 2) (w / 65536 % 256))
      (off + 3) (w / 16777216 % 256) }, stOk) := by
  simp [writeBuf, h, List.range_succ]

end Sys2Proof.Machine

/-! The steps' cases. -/
namespace Sys2Proof.Machine

theorem doQuiesceDrained_of_drained {s : State} {t : Nat} (hstate : s.get F.chtStatusState = 5) (hdrained : (s.at t).drained = true) :
    doQuiesceDrained t s = (s.at t).quiesceEnd := if_pos ⟨(s.at_get t _).trans hstate, hdrained⟩

theorem doQuiesceWaitExpired_of_late {s : State} {t : Nat} (hstate : s.get F.chtStatusState = 5)
    (hlate : s.chtu.quiesceStart + msec (s.get F.chtCtrlQuiesceWait) ≤ (s.at t).now) :
    doQuiesceWaitExpired t s = (s.at t).flushAll.quiesceEnd := by
  refine if_pos ⟨(s.at_get t _).trans hstate, ?_⟩
  rw [State.at_chtu, State.at_get]
  exact hlate

theorem doChartChecksDone_of_op {s : State} {t : Nat} {o : ChartOp} (hop : s.chtu.op = some o) (hkind : o.kind ≠ .quiesce)
    (hstate : s.get F.chtStatusState = 1) : doChartChecksDone t s = (s.at t).chartChecked o := by
  rw [doChartChecksDone, State.at_chtu, hop]
  exact if_pos ⟨(s.at_get t _).trans hstate, hkind⟩

theorem doChartLeaveWaitExpired_of_late {s : State} {t : Nat} {o : ChartOp} (hop : s.chtu.op = some o)
    (hstate : s.get F.chtStatusState = 2) (hlate : o.waitFrom + msec (10 * s.get F.chtCtrlLeaveWait) ≤ (s.at t).now) :
    doChartLeaveWaitExpired t s =
      (((s.at t).withdrawFor .chartResets).withdrawFor .chartCommit).endChart rcLeaveRefused 0 0 := by
  rw [doChartLeaveWaitExpired, State.at_chtu, hop]
  refine if_pos ⟨(s.at_get t _).trans hstate, ?_⟩
  rw [State.at_get]
  exact hlate

/-- What the end of the writes does, for each kind of image (R46 step 4, R48 step 3, R53). -/
def State.chartCommitted (s : State) (o : ChartOp) : State :=
  match o.kind with
  | .load => ((s.commitImage o).releaseFor .chartCommit).applyFull o
  | .rebase => ((s.commitImage o).releaseFor .chartCommit).endChart 0 0 0
  | .amend => (s.commitAmendment o).beginApply o
  | .quiesce => s

theorem doChartCommitDone_of_op {s : State} {t : Nat} {o : ChartOp} (hop : s.chtu.op = some o) (hstate : s.get F.chtStatusState = 3)
    (hfailover : s.home.failover = none) : doChartCommitDone t s = (s.at t).chartCommitted o := by
  have hnow : ¬((s.at t).get F.chtStatusState ≠ 3 ∨ (o.kind = .amend ∧ (s.at t).home.failover.isSome = true)) := by
    simp [hstate, hfailover]
  rw [doChartCommitDone, State.at_chtu, hop]
  exact if_neg hnow

theorem doAmendmentApplyDone_of_op {s : State} {t : Nat} {o : ChartOp} (hop : s.chtu.op = some o)
    (hstate : s.get F.chtStatusState = 4) : doAmendmentApplyDone t s = (s.at t).endApply o := by
  rw [doAmendmentApplyDone, State.at_chtu, hop]
  exact if_pos ((s.at_get t _).trans hstate)

theorem doChartStartup_of_phase {s : State} {t : Nat} (hphase : s.get F.rstStatPhase = 4) :
    doChartStartup t s = ((((s.at t).startChartUp.attachRegions).bringUp).set F.rstStatPhase 5).startLinks fun _ => true :=
  if_pos ((s.at_get t _).trans hphase)

/-- A step that serves the commands that wait answers what its effect comes to. -/
theorem next_serveWaiting {u v : State} (h : u = v) :
    (.next u.serveWaiting : Host.Outcome State Fault Refusal) = .next v.serveWaiting := by
  rw [h]

/-- Settles O4: each step's case in which its condition holds. -/
theorem chartStepsComplete : Obligations.ChartStepsComplete := by
  unfold Obligations.ChartStepsComplete
  refine ⟨fun s t hstate hdrained hop hentry => ?drained, fun s t hstate hlate => ?overdue,
    fun s t o b hop hkind hstate hparse => ?badImage, fun s t o i next hop hkind hstate hparse hcheck => ?goodImage,
    fun s t o hop hstate hlate => ?leaveWait, fun s t o hop hstate hfailover => ?commit, fun s t o hop hstate => ?applied,
    fun s src p word w hserves hpilot hbusy => ?buffer, fun s src p hserves howner => ?logRead, fun s t hphase => ?startUp⟩
  case drained =>
    have hend := State.quiesceEnd_of_op (s := s.at t) (by simpa using hop) (by simpa using hentry)
    have hview := (State.endChart_linkView (s.at t).linksHeld 0 0 0).trans (s.at t).linksHeld_linkView
    refine ⟨_, next_serveWaiting ((doQuiesceDrained_of_drained hstate hdrained).trans hend), State.endChart_state_of_quiesced rfl .., ?_,
      State.endChart_op .., State.held_of_linkView hview, State.endChart_code _ (by decide) .., State.endChart_done ..,
      (State.chart_of_linkView hview).trans (s.at_chart t)⟩
    exact State.endChart_quiesced ..
  case overdue => exact next_serveWaiting (doQuiesceWaitExpired_of_late hstate hlate)
  case badImage =>
    have hchecked : (s.at t).chartChecked o = (s.at t).endChart b.1 b.2.1 b.2.2 := by
      rw [State.chartChecked, State.at_chtu, hparse]
    exact next_serveWaiting ((doChartChecksDone_of_op hop hkind hstate).trans hchecked)
  case goodImage =>
    have hchecked : (s.at t).chartChecked o = (s.at t).chartPassed o i next := by
      rw [State.chartChecked, State.at_chtu, hparse]
      dsimp only
      rw [hcheck]
    exact next_serveWaiting ((doChartChecksDone_of_op hop hkind hstate).trans hchecked)
  case leaveWait => exact next_serveWaiting (doChartLeaveWaitExpired_of_late hop hstate hlate)
  case commit =>
    have hcommit {u : State} (h : (s.at t).chartCommitted o = u) : exec (.chartCommitDone t) s = .next u.serveWaiting :=
      next_serveWaiting ((doChartCommitDone_of_op hop hstate hfailover).trans h)
    refine ⟨fun hkind => hcommit ?_, fun hkind => hcommit ?_, fun hkind => hcommit ?_⟩ <;> rw [State.chartCommitted, hkind]
  case applied => exact next_serveWaiting (doAmendmentApplyDone_of_op hop hstate)
  case buffer =>
    refine congrArg Host.Outcome.next ((State.regCommand_served hserves hpilot _).trans ?_)
    rw [writeBuf_of_idle (s := s.touch src) hbusy]
    rfl
  case logRead =>
    exact ⟨(readLog (s.touch src)).2, congrArg Host.Outcome.next (State.command_served hserves howner _), rfl, readLog_pointer (s.touch src)⟩
  case startUp => exact congrArg Host.Outcome.next (doChartStartup_of_phase hphase)

end Sys2Proof.Machine

/-! Fuses and the time: rules for the operations that burns are made of. -/
namespace Sys2Proof.Machine

@[simp] theorem State.at_mgt (s : State) (t : Nat) : (s.at t).mgt = s.mgt := by rw [State.at_eq]
@[simp] theorem State.at_nv (s : State) (t : Nat) : (s.at t).nv = s.nv := by rw [State.at_eq]
@[simp] theorem State.at_sent (s : State) (t : Nat) : (s.at t).sent = s.sent := by rw [State.at_eq]

theorem State.get_setBit_same (s : State) (f : Fld) (i : Nat) : (s.setBit f i).get f = (s.get f ||| 2 ^ i) % 2 ^ f.width :=
  s.get_set_same ..

theorem State.get_setBit_of_ne (s : State) {f g : Fld} (i : Nat) (h : f.key ≠ g.key) : (s.setBit f i).get g = s.get g :=
  s.get_set_of_ne _ _ _ h

/-- A bit set in a field reads 1. -/
theorem State.testBit_setBit (s : State) {f : Fld} {i : Nat} (h : i < f.width) : ((s.setBit f i).get f).testBit i = true := by
  rw [State.get_setBit_same, Nat.testBit_mod_two_pow, Nat.testBit_or, Nat.testBit_two_pow_self]
  simp [h]

@[simp] theorem State.mayProgram_at (s : State) (t slot : Nat) : (s.at t).mayProgram slot = s.mayProgram slot := by
  rw [State.mayProgram, State.mayProgram, State.at_get]

@[simp] theorem State.usableKey_at (s : State) (t slot : Nat) : (s.at t).usableKey slot = s.usableKey slot := by
  rw [State.usableKey, State.usableKey, State.at_get, State.at_get]

@[simp] theorem State.mayRevoke_at (s : State) (t slot : Nat) : (s.at t).mayRevoke slot = s.mayRevoke slot := by
  simp only [State.mayRevoke, State.usableKey_at]

@[simp] theorem State.helmSlot_at (s : State) (t : Nat) : (s.at t).helmSlot = s.helmSlot := by
  simp only [State.helmSlot, State.at_get]

theorem State.burnStands_at (s : State) (t : Nat) (w : BurnWhat) : (s.at t).burnStands w = s.burnStands w := by
  cases w <;> simp only [State.burnStands, State.mayProgram_at, State.mayRevoke_at, State.helmSlot_at, State.at_get]

end Sys2Proof.Machine

/-! The end of a burn (R441). -/
namespace Sys2Proof.Machine

/-- The answer to a burn is sent, and nothing else changes. -/
theorem State.answerBurn_eq (s : State) (src : Sess) (j : BurnJob) (ok : Bool) :
    s.answerBurn src j ok = { s with sent := (s.answerBurn src j ok).sent } := by
  unfold State.answerBurn
  split_ifs <;> rfl

@[simp] theorem State.answerBurn_get (s : State) (src : Sess) (j : BurnJob) (ok : Bool) (f : Fld) :
    (s.answerBurn src j ok).get f = s.get f := by
  rw [State.answerBurn_eq]
  rfl
@[simp] theorem State.answerBurn_nv (s : State) (src : Sess) (j : BurnJob) (ok : Bool) : (s.answerBurn src j ok).nv = s.nv := by
  rw [State.answerBurn_eq]
@[simp] theorem State.answerBurn_chart (s : State) (src : Sess) (j : BurnJob) (ok : Bool) : (s.answerBurn src j ok).chart = s.chart := by
  rw [State.answerBurn_eq]
@[simp] theorem State.answerBurn_mgt (s : State) (src : Sess) (j : BurnJob) (ok : Bool) : (s.answerBurn src j ok).mgt = s.mgt := by
  rw [State.answerBurn_eq]

/-- Time passes, and a burn under way is taken off its list. -/
def State.burnTaken (s : State) (t : Nat) (rest : List BurnJob) : State := (s.at t).modMgt fun u => { u with burns := rest }

@[simp] theorem State.burnTaken_get (s : State) (t : Nat) (rest : List BurnJob) (f : Fld) : (s.burnTaken t rest).get f = s.get f :=
  s.at_get t f
@[simp] theorem State.burnTaken_nv (s : State) (t : Nat) (rest : List BurnJob) : (s.burnTaken t rest).nv = s.nv := s.at_nv t
@[simp] theorem State.burnTaken_chart (s : State) (t : Nat) (rest : List BurnJob) : (s.burnTaken t rest).chart = s.chart := s.at_chart t
@[simp] theorem State.burnTaken_sent (s : State) (t : Nat) (rest : List BurnJob) : (s.burnTaken t rest).sent = s.sent := s.at_sent t

section
variable {s : State} {src : Sess} {j : BurnJob} {rest : List BurnJob} {t : Nat}

theorem burn_taken (hburns : s.mgt.burns = j :: rest) :
    ((s.at t).modMgt fun u => { u with burns := u.burns.erase j }) = s.burnTaken t rest := by
  rw [State.burnTaken, State.modMgt, State.modMgt, State.at_mgt, hburns, List.erase_cons_head]

/-- A burn that verifies and still has its place sets its fuses, is answered, and ends the sessions it ends. -/
theorem exec_fuseBurnVerify_verified (hburns : s.mgt.burns = j :: rest) (hsess : j.sess = sessNum src)
    (hstands : s.burnStands j.what = true) : exec (.fuseBurnVerify src true true t) s =
      .next ((((s.burnTaken t rest).applyBurn j.what).answerBurn src j true).endBurnt j) := by
  refine congrArg Host.Outcome.next ?_
  have hfind : (s.at t).mgt.burns.find? (fun j => j.sess == sessNum src) = some j := by simp [hburns, hsess]
  rw [doFuseBurnVerify]
  dsimp only
  rw [hfind]
  dsimp only
  rw [State.burnStands_at, hstands, burn_taken hburns]
  rfl

/-- A burn that does not verify, with nothing burned, is answered DENIED. -/
theorem exec_fuseBurnVerify_failed (hburns : s.mgt.burns = j :: rest) (hsess : j.sess = sessNum src) :
    exec (.fuseBurnVerify src false false t) s = .next ((s.burnTaken t rest).answerBurn src j false) := by
  refine congrArg Host.Outcome.next ?_
  have hfind : (s.at t).mgt.burns.find? (fun j => j.sess == sessNum src) = some j := by simp [hburns, hsess]
  rw [doFuseBurnVerify]
  dsimp only
  rw [hfind]
  dsimp only
  rw [burn_taken hburns]
  rfl

/-- The end of a burn in a session that has none changes nothing but the time. -/
theorem exec_fuseBurnVerify_none {ok burned : Bool} (h : ∀ j ∈ s.mgt.burns, j.sess ≠ sessNum src) :
    exec (.fuseBurnVerify src ok burned t) s = .next (s.at t) := by
  refine congrArg Host.Outcome.next ?_
  have hfind : (s.at t).mgt.burns.find? (fun j => j.sess == sessNum src) = none := by simpa using h
  rw [doFuseBurnVerify]
  dsimp only
  rw [hfind]

end

/-- An image that names a revoked slot fails its key check (R41). -/
theorem State.checkKey_of_revoked {s : State} {i : Image} (h : (s.get F.chtKeyslotRevoked).testBit i.slot = true) :
    s.checkKey i = .error (rcKeyRevoked, 0xFF, i.bytes.length - 256) := if_pos h

/-- Settles O6: the burn sets the slot's fuse alone, and the key check reads that fuse. -/
theorem revocationLeavesTheChart : Obligations.RevocationLeavesTheChart := by
  unfold Obligations.RevocationLeavesTheChart
  intro s src slot live rest t hslot hburns hmay
  have hbit : ((((s.burnTaken t rest).setBit F.chtKeyslotRevoked slot).answerBurn src
      ⟨sessNum src, live, .keyRevoke slot⟩ true).get F.chtKeyslotRevoked).testBit slot = true := by
    rw [State.answerBurn_get]
    exact State.testBit_setBit _ hslot
  refine ⟨_, exec_fuseBurnVerify_verified hburns rfl hmay, (State.answerBurn_chart ..).trans (s.burnTaken_chart t rest),
    (State.answerBurn_nv ..).trans (s.burnTaken_nv t rest), hbit, fun i hi => ⟨_, State.checkKey_of_revoked (hi ▸ hbit)⟩⟩

end Sys2Proof.Machine

/-! The sessions a burn ends (R436, R437). -/
namespace Sys2Proof

theorem SMap.mem_of_find? {α : Type} {m : SMap α} {k : Nat} {v : α} (h : SMap.find? m k = some v) : (k, v) ∈ m := by
  induction m with
  | nil => cases h
  | cons e r ih =>
    obtain ⟨a, w⟩ := e
    rw [SMap.find?] at h
    split_ifs at h with hak
    · cases h
      exact hak ▸ List.mem_cons_self ..
    · exact List.mem_cons_of_mem _ (ih h)

end Sys2Proof

namespace Sys2Proof.Machine

/-- A session left open by an end of sessions is none of those picked. -/
theorem State.not_picked_of_endSessions {s : State} {f : Nat → SessionRec → Bool} {n : Nat} {x : SessionRec}
    (h : SMap.find? (s.endSessions f).sessions n = some x) : f n x = false := by
  have hmem := SMap.mem_of_find? h
  rw [State.endSessions, List.mem_filter] at hmem
  simpa using hmem.2

theorem State.endSession_session (s : State) (src : Sess) : (s.endSession (sessNum src)).session src = none := by
  cases hfind : (s.endSession (sessNum src)).session src with
  | none => rfl
  | some x => exact absurd (State.not_picked_of_endSessions hfind) (by simp)

end Sys2Proof.Machine

/-! Commands that begin a burn (R40, R403, R436). -/
namespace Sys2Proof.Machine

section
variable {s : State} {src : Sess} {p : Principal} (hserves : s.serves src p)
include hserves

theorem exec_keyProgram_served (hhelm : p.isHelm = true) (slot : Fin 256) (key : List (Fin 256)) :
    exec (.keyProgram src slot key) s = .next ((s.touch src).beginBurn src
      (if s.mayProgram slot.val && isPublicKey (key.map (·.val)) then some (.keyProgram slot.val (sha384 (key.map (·.val)))) else none)) :=
  congrArg Host.Outcome.next (State.command_served hserves hhelm _)

theorem exec_keyRevoke_served (hhelm : p.isHelm = true) (slot : Fin 256) : exec (.keyRevoke src slot) s =
    .next ((s.touch src).beginBurn src (if s.mayRevoke slot.val then some (.keyRevoke slot.val) else none)) :=
  congrArg Host.Outcome.next (State.command_served hserves hhelm _)

theorem exec_pinfuseSet_served (hhelm : p.isHelm = true) (pin : Fin 65536) {b : Bool} (hpin : s.pinFuse pin.val = some b) (value : Bool) :
    exec (.pinfuseSet src pin value) s = .next (if b = value then (s.touch src).done src
      else (s.touch src).beginBurn src (if value then some (.pinFuse pin.val) else none)) := by
  refine congrArg Host.Outcome.next ((State.command_served hserves hhelm _).trans ?_)
  have htouch : (s.touch src).pinFuse pin.val = some b := hpin
  rw [htouch]
  rfl

theorem exec_helmRotate_served (hhelm : p.isHelm = true) {key : List (Fin 256)} (hkey : isPublicKey (key.map (·.val)) = true) {old : Nat}
    (hold : s.helmSlot = some old) : exec (.helmRotate src key) s = .next ((s.touch src).beginBurn src
      (((List.range 4).find? fun i => !(s.get F.mgtCredHelmProg).testBit i).map fun n => .helmRotate n (sha384 (key.map (·.val))) old)) := by
  refine congrArg Host.Outcome.next ((State.command_served hserves hhelm _).trans (congrArg (State.beginBurn _ src) ?_))
  have htouch : (s.touch src).helmSlot = some old := hold
  rw [htouch, hkey, State.touch_get]
  cases (List.range 4).find? fun i => !(s.get F.mgtCredHelmProg).testBit i <;> rfl

end

theorem exec_helmClaim_served {s : State} {src : Sess} (hserves : s.serves src .unclaimed) {x : SessionRec} (hsession : s.session src = some x)
    (key : List (Fin 256)) : exec (.helmClaim src key) s = .next ((s.touch src).beginBurn src
      (if s.get F.mgtCredHelmProg = 0 ∧ isPublicKey (key.map (·.val)) = true then some (.helmClaim x.key (sha384 (key.map (·.val)))) else none)) := by
  refine congrArg Host.Outcome.next ((State.command_served hserves rfl _).trans (congrArg (State.beginBurn _ src) ?_))
  rw [State.touch_session, hsession]
  rfl

/-- A KEY_PROGRAM writes one field. -/
theorem State.applyBurn_keyProgram_get_of_ne (s : State) (slot : Nat) (d : List Nat) {f : Fld} (h : f.key ≠ F.chtKeyslotProgrammed.key) :
    (s.applyBurn (.keyProgram slot d)).get f = s.get f := s.get_setBit_of_ne _ (Ne.symm h)

theorem State.applyBurn_helmClaim (s : State) (i c : List Nat) (h : s.get F.mgtCredHelmProg = 0) :
    (s.applyBurn (.helmClaim i c)).get F.mgtCredHelmProg = 1 ∧
      ((s.applyBurn (.helmClaim i c)).get F.chtKeyslotProgrammed).testBit 0 = true := by
  have hprog : ((s.setBit F.mgtCredHelmProg 0).setBit F.chtKeyslotProgrammed 0).get F.mgtCredHelmProg = 1 := by
    rw [State.get_setBit_of_ne _ _ (by decide), State.get_setBit_same, h]
    rfl
  exact ⟨hprog, State.testBit_setBit _ (by decide)⟩

theorem State.applyBurn_helmRotate (s : State) {n old : Nat} (hn : n < 4) (hold : old < 4) (d : List Nat) :
    ((s.applyBurn (.helmRotate n d old)).get F.mgtCredHelmProg).testBit n = true ∧
      ((s.applyBurn (.helmRotate n d old)).get F.mgtCredHelmRev).testBit old = true := by
  have hprog : (((s.setBit F.mgtCredHelmProg n).setBit F.mgtCredHelmRev old).get F.mgtCredHelmProg).testBit n = true := by
    rw [State.get_setBit_of_ne _ _ (by decide)]
    exact State.testBit_setBit _ hn
  exact ⟨hprog, State.testBit_setBit _ hold⟩

/-- Settles O50: what may burn begins one burn, and its verified end sets the fuses `State.applyBurn` names. -/
theorem fuseCommandsComplete : Obligations.FuseCommandsComplete := by
  unfold Obligations.FuseCommandsComplete
  refine ⟨fun s src p hserves hhelm => ⟨fun slot key => ?program, fun slot => ?revoke, fun pin b hpin => ?pin,
      fun key old hold hkey => ?rotate⟩,
    fun s src x key hserves hsession => ?claim, fun s src t slot d live rest hslot hburns => ⟨fun hmay => ?programmed, fun hlive => ?failed⟩,
    fun s src t i c rest hburns hnone => ?claimed, fun s src t n old d rest hn hold hburns hfree hslot => ?rotated,
    fun s src ok burned t h => exec_fuseBurnVerify_none h⟩
  case program =>
    rw [exec_keyProgram_served hserves hhelm]
    refine ⟨fun hmay hkey => ?_, fun hnot => ?_⟩
    · rw [hmay, hkey]
      rfl
    · rw [if_neg (by rcases hnot with h | h <;> simp [h])]
      rfl
  case revoke =>
    rw [exec_keyRevoke_served hserves hhelm]
    refine ⟨fun hmay => ?_, fun hmay => ?_⟩ <;> rw [hmay] <;> rfl
  case pin =>
    have hexec := exec_pinfuseSet_served hserves hhelm pin hpin
    refine ⟨?_, fun hb => ?_, fun hb => ?_⟩
    · rw [hexec, if_pos rfl]
      rfl
    · rw [hexec, hb]
      rfl
    · rw [hexec, hb]
      rfl
  case rotate =>
    rw [exec_helmRotate_served hserves hhelm hkey hold]
    refine ⟨fun hall => ?_, fun n hn hfree hbelow => ?_⟩
    · rw [List.find?_range_eq_none.mpr (by simpa using hall)]
      rfl
    · have hfirst : (List.range 4).find? (fun i => !(s.get F.mgtCredHelmProg).testBit i) = some n :=
        List.find?_range_eq_some.mpr ⟨by simp [hfree], List.mem_range.mpr hn, fun j hj => by simp [hbelow j hj]⟩
      rw [hfirst]
      rfl
  case claim =>
    rw [exec_helmClaim_served hserves hsession]
    refine ⟨fun hnone hkey => ?_, fun hnot => ?_⟩
    · rw [if_pos ⟨hnone, hkey⟩]
      rfl
    · rw [if_neg (by rcases hnot with h | h <;> simp [h])]
      rfl
  case programmed =>
    refine ⟨_, exec_fuseBurnVerify_verified hburns rfl hmay, ?_, ?_, ?_, ?_, fun f hf => ?_, fun hlive => ?_⟩
    · exact (State.answerBurn_get ..).trans (((s.burnTaken t rest).get_setBit_same ..).trans (by rw [State.burnTaken_get]))
    · refine (congrArg (fun v => SMap.find? v.chartKeys slot) (State.answerBurn_nv ..)).trans ?_
      exact SMap.find?_put_same ..
    · exact congrArg MgtUnit.burns (State.answerBurn_mgt ..)
    · exact (State.answerBurn_chart ..).trans (s.burnTaken_chart t rest)
    · exact (State.answerBurn_get ..).trans ((State.applyBurn_keyProgram_get_of_ne _ slot d hf).trans (s.burnTaken_get t rest f))
    · subst hlive
      exact s.burnTaken_sent t rest
  case failed =>
    rw [exec_fuseBurnVerify_failed hburns rfl, hlive]
    rfl
  case claimed =>
    have hburnt := (s.burnTaken t rest).applyBurn_helmClaim i c ((s.burnTaken_get ..).trans hnone)
    refine ⟨_, exec_fuseBurnVerify_verified hburns rfl (by simp [State.burnStands, hnone]), ?_, ?_, ?_, ?_, State.endSession_session ..⟩
    · exact (State.answerBurn_get ..).trans hburnt.1
    · exact (congrArg (Nat.testBit · 0) (State.answerBurn_get ..)).trans hburnt.2
    · refine (congrArg (fun v => SMap.find? v.helmKeys 0) (State.answerBurn_nv ..)).trans ?_
      exact SMap.find?_put_same ..
    · refine (congrArg (fun v => SMap.find? v.chartKeys 0) (State.answerBurn_nv ..)).trans ?_
      exact SMap.find?_put_same ..
  case rotated =>
    have hburnt := (s.burnTaken t rest).applyBurn_helmRotate hn hold d
    refine ⟨_, exec_fuseBurnVerify_verified hburns rfl (by simp [State.burnStands, hfree, hslot]), ?_, ?_, ?_,
      fun m x hfind => State.not_picked_of_endSessions hfind⟩
    · exact (congrArg (Nat.testBit · n) (State.answerBurn_get ..)).trans hburnt.1
    · exact (congrArg (Nat.testBit · old) (State.answerBurn_get ..)).trans hburnt.2
    · refine (congrArg (fun v => SMap.find? v.helmKeys n) (State.answerBurn_nv ..)).trans ?_
      exact SMap.find?_put_same ..

end Sys2Proof.Machine

/-! Generic commands (R438), CHART_CMD (R58) and Get Binding State (R90). -/
namespace Sys2Proof.Machine

/-- A served command answers with what its action makes of the state its message leaves. -/
theorem command_acts {s : State} {src : Sess} {p : Principal} (hserves : s.serves src p) {rights : Principal → Bool} (hr : rights p = true)
    {act : Principal → State → State} {u : State} (h : act p (s.touch src) = u) :
    (.next (s.command src rights act) : Host.Outcome State Fault Refusal) = .next u :=
  congrArg Host.Outcome.next ((State.command_served hserves hr act).trans h)

/-- The limit of one session is set, and no other session's (R438). -/
theorem State.responseLimit_put (s : State) (n limit m : Nat) :
    (s.modMgt fun u => { u with limits := SMap.put u.limits n limit }).responseLimit m = if n = m then limit else s.responseLimit m := by
  simp only [State.responseLimit, SMap.getD, State.modMgt, SMap.find?_put]
  split_ifs <;> rfl

theorem State.startBg_of_busy {s : State} {src : Sess} (h : s.bgBusy (sessNum src) = true) (p : Principal) (opcode target : Nat)
    (act : State → State) : s.startBg src p opcode target act = s.respond src .busy stRetry 0 [] := if_pos h

theorem State.startBg_of_idle {s : State} {src : Sess} (h : s.bgBusy (sessNum src) = false) (p : Principal) (opcode target : Nat)
    (act : State → State) : s.startBg src p opcode target act =
      act (({ s with bgs := ⟨sessNum src, true, target, p, opcode, true, .backgroundStarted, stOk, 0⟩ :: s.bgs } : State).respond
        src .backgroundStarted stOk 0 []) := if_neg (by simp [h])

/-- Settles O49: each command's branch for its arguments. -/
theorem genericCommandsComplete : Obligations.GenericCommandsComplete := by
  unfold Obligations.GenericCommandsComplete
  refine ⟨fun s src p hserves => ⟨command_acts hserves rfl rfl, fun hclaimed => ⟨command_acts hserves hclaimed rfl,
      command_acts hserves hclaimed rfl, command_acts hserves hclaimed rfl, fun n hlow hhigh => ?limit, fun n hout => ?badLimit,
      fun hnone => ?nothingToAbort, fun hany => ?abort⟩⟩,
    fun s src p cmd hserves hpilot => ⟨fun hcmd => ?unknown, fun hlow hhigh => ⟨fun hbusy => ?busy, fun hidle => ?starts⟩⟩,
    fun s src p c hserves hpilot => ⟨fun hreach => ?reached, fun hreach => ?unreached⟩⟩
  case limit =>
    have hput := (s.touch src).responseLimit_put (sessNum src) n.val
    refine ⟨_, command_acts hserves hclaimed (if_pos ⟨hlow, hhigh⟩), (hput _).trans (if_pos rfl), rfl, fun m hm =>
      (hput m).trans (if_neg (Ne.symm hm))⟩
  case badLimit => exact command_acts hserves hclaimed (if_neg (by omega))
  case nothingToAbort =>
    exact command_acts hserves hclaimed (congrArg (fun u : State => u.done src) (if_neg (Bool.eq_false_iff.mp hnone)))
  case abort => exact command_acts hserves hclaimed (congrArg (fun u : State => u.done src) (if_pos hany))
  case unknown => exact command_acts hserves hpilot (if_neg (by omega))
  case busy => exact command_acts hserves hpilot ((if_pos ⟨hlow, hhigh⟩).trans (State.startBg_of_busy (s := s.touch src) hbusy ..))
  case starts => exact command_acts hserves hpilot ((if_pos ⟨hlow, hhigh⟩).trans (State.startBg_of_idle (s := s.touch src) hidle ..))
  case reached => exact command_acts hserves hpilot (if_pos hreach)
  case unreached => exact command_acts hserves hpilot (if_neg (Bool.eq_false_iff.mp hreach))

end Sys2Proof.Machine

/-! Binds and unbinds take their turn (R49, R73, R74, R86). -/
namespace Sys2Proof.Machine

@[simp] theorem State.at_bnd (s : State) (t : Nat) : (s.at t).bnd = s.bnd := by rw [State.at_eq]

@[simp] theorem State.at_flag (s : State) (t : Nat) (f : Fld) : (s.at t).flag f = s.flag f := congrArg (· == 1) (s.at_get t f)

/-- What a background command does as it starts may be said of any state that differs in background commands and answers alone. -/
theorem State.startBg_congr {s : State} {act act' : State → State}
    (h : ∀ bgs sent, act { s with bgs := bgs, sent := sent } = act' { s with bgs := bgs, sent := sent })
    (src : Sess) (p : Principal) (opcode target : Nat) : s.startBg src p opcode target act = s.startBg src p opcode target act' := by
  unfold State.startBg
  split
  · rfl
  · exact h _ _

section
variable {s : State} {src : Sess} {w : Waiting} {act : State → State}

theorem State.takeTurn_of_safe (h : s.safeOn = true) : s.takeTurn src w act = s.respond src .internalError stSafe 0 [] := if_pos h

/-- With nothing under way and nothing that waits, a command acts at once. -/
theorem State.takeTurn_of_free (hsafe : s.safeOn = false) (hbg : s.bgBusy (sessNum src) = false) (hwork : s.bnd.work = none)
    (hwaits : s.bnd.waits = []) (hbusy : s.chartBusy = false) : s.takeTurn src w act = act s := by
  simp [State.takeTurn, State.turnFree, hsafe, hbg, hwork, hwaits, hbusy]

/-- Behind a bind, an unbind, a chart operation or a command that waits, a command waits too. -/
theorem State.takeTurn_of_waits (hsafe : s.safeOn = false) (hbg : s.bgBusy (sessNum src) = false)
    (hahead : s.bnd.work.isSome = true ∨ s.bnd.waits ≠ [] ∨ s.chartBusy = true) :
    s.takeTurn src w act = s.modBnd fun u => { u with waits := u.waits ++ [w] } := by
  have hturn : (s.turnFree && s.bnd.waits.isEmpty) = false := by
    rcases hahead with h | h | h
    · simp [State.turnFree, Option.isNone_eq_false_iff.mpr h]
    · simp [h]
    · simp [State.turnFree, h]
  simp [State.takeTurn, hsafe, hbg, hturn]

/-- A bind that passes its checks starts (R73). -/
theorem bindNow_of_point {who : Principal} {opcode v i p ld pt : Nat} (hpoint : s.bindPoint v i p ld = some pt) :
    bindNow src who opcode v i (some p) ld s = s.startBg src who opcode 0 fun u => u.modBnd fun b => { b with
      work := some ⟨true, pt, v, i, sessNum src, opcode, 0, s.now, false⟩ } := by
  rw [bindNow, Option.bind_some, hpoint]
  exact State.startBg_congr (fun _ _ => rfl) ..

/-- An unbind by option 0 waits while its pleat's link is up, and one by option 2 does not (R74). -/
theorem unbindNow_of_bound {who : Principal} {opcode option pt : Nat} (hmost : option ≤ 2) (hquiet : option ≠ 1) :
    unbindNow src who opcode option (some pt) s = s.startBg src who opcode 0 fun u => u.modBnd fun b => { b with
      work := some ⟨false, pt, s.pointVcs pt, s.pointVppb pt, sessNum src, opcode, option, s.now,
        option == 0 && s.flag (F.celLinkstatUp (pointLead pt))⟩ } := by
  have hnotButton : (option == 1) = false := by simpa using hquiet
  simp only [unbindNow, if_neg hquiet, if_neg (Nat.not_lt.mpr hmost), hnotButton, Bool.false_or]
  exact State.startBg_congr (fun _ _ => rfl) ..

end

end Sys2Proof.Machine

/-! The steps of a bind and an unbind (R74, R75, R79). -/
namespace Sys2Proof.Machine

section
variable {s : State} {t pt : Nat} {w : BindWork}

/-- The advance a bind or unbind asked for ends it. -/
theorem doTackAdvance_of_work (hfree : (s.at t).canAdvance pt = true) (hstall : s.flag (stallFld pt) = false) (hwork : s.bnd.work = some w)
    (hpoint : w.point = pt) (hwaiting : w.waiting = false) : doTackAdvance pt t s = (s.at t).finishBind w := by
  simp [doTackAdvance, hfree, hstall, hwork, hpoint, hwaiting]

/-- The last advance that stalled without limit lets the pleat train, and one of two is made and no longer owed. -/
theorem doTackAdvance_of_lastStall (hfree : (s.at t).canAdvance pt = true) (hstall : s.flag (stallFld pt) = true)
    (howed : SMap.getD s.bnd.owed pt 0 = 0) : doTackAdvance pt t s =
      (((s.at t).advanceTack pt).set (stallFld pt) 0).startTraining (s.chart.lead (pointLead pt)) := by
  simp [doTackAdvance, hfree, hstall, howed]

theorem doTackAdvance_of_owedStall (hfree : (s.at t).canAdvance pt = true) (hstall : s.flag (stallFld pt) = true)
    (howed : SMap.getD s.bnd.owed pt 0 = 1) : doTackAdvance pt t s =
      ((s.at t).advanceTack pt).modBnd fun u => { u with owed := SMap.del u.owed pt } := by
  simp [doTackAdvance, hfree, hstall, howed]

theorem doTackSlotWaitExpired_of_late (hwork : s.bnd.work = some w) (hwaiting : w.waiting = false)
    (hfull : (s.at t).canAdvance w.point = false)
    (hlate : w.since + msec (s.get (F.celTackctlSlotWait (pointLead w.point))) ≤ (s.at t).now) :
    doTackSlotWaitExpired t s = (s.at t).endBind w .retryRequired stRetry := by
  rw [doTackSlotWaitExpired, State.at_bnd, hwork]
  refine if_pos ⟨hwaiting, hfull, ?_⟩
  rw [State.at_get]
  exact hlate

theorem doUnbindWaitSatisfied_of_linkDown (hwork : s.bnd.work = some w) (hwaiting : w.waiting = true) (hoption : w.option = 0)
    (hdown : s.flag (F.celLinkstatUp (pointLead w.point)) = false) : doUnbindWaitSatisfied t s =
      (s.at t).modBnd fun b => { b with work := some { w with waiting := false, since := (s.at t).now } } := by
  rw [doUnbindWaitSatisfied, State.at_bnd, hwork]
  exact if_pos (by simp [hwaiting, hoption, hdown])

theorem doUnbindWaitExpired_of_late (hwork : s.bnd.work = some w) (hwaiting : w.waiting = true)
    (hlate : w.since + sec (s.get F.hubBindctlUnbindWait) ≤ (s.at t).now) :
    doUnbindWaitExpired t s = (s.at t).endBind w .retryRequired stTimeout := by
  rw [doUnbindWaitExpired, State.at_bnd, hwork]
  refine if_pos ⟨hwaiting, ?_⟩
  rw [State.at_get]
  exact hlate

end

/-- Settles O8: a command's turn decides what it does, and each step is its case in which its condition holds. -/
theorem bindAndUnbind : Obligations.BindAndUnbind := by
  unfold Obligations.BindAndUnbind
  refine ⟨fun s src who v i port p ld pt hserves hpilot hsafe hbg hwork hwaits hbusy hdir hpoint => ?bindVppb,
    fun s src who v i p ld pt hserves hpilot hsafe hbg hwork hwaits hbusy hpoint => ?bindPleat,
    fun s src who v i pt hserves hpilot hsafe hbg hwork hwaits hbusy hpoint => ?unbindVppb,
    fun s src who p ld pt hserves hpilot hsafe hbg hwork hwaits hbusy hpoint => ?unbindPleat,
    fun s p ld t w hfree hstall hwork hpoint hwaiting =>
      congrArg Host.Outcome.next (doTackAdvance_of_work hfree hstall hwork hpoint hwaiting),
    fun s p ld t hfree hstall => ⟨fun howed => congrArg Host.Outcome.next (doTackAdvance_of_lastStall hfree hstall howed),
      fun howed => congrArg Host.Outcome.next (doTackAdvance_of_owedStall hfree hstall howed)⟩,
    fun s t w hwork hwaiting hfull hlate => congrArg Host.Outcome.next (doTackSlotWaitExpired_of_late hwork hwaiting hfull hlate),
    fun s t w hwork hwaiting hoption hdown =>
      congrArg Host.Outcome.next (doUnbindWaitSatisfied_of_linkDown hwork hwaiting hoption hdown),
    fun s t w hwork hwaiting hlate => congrArg Host.Outcome.next (doUnbindWaitExpired_of_late hwork hwaiting hlate),
    fun s src who v i port ld hserves hpilot => ⟨fun hsafe => ?safe, fun hsafe hbg hahead => ?waits⟩⟩
  case bindVppb =>
    refine command_acts hserves hpilot ((State.takeTurn_of_free (s := s.touch src) hsafe hbg hwork hwaits hbusy).trans ?_)
    have hlead : (s.touch src).chart.dirCell port.val = some p := hdir
    rw [hlead]
    exact bindNow_of_point (s := s.touch src) hpoint
  case bindPleat =>
    exact command_acts hserves hpilot ((State.takeTurn_of_free (s := s.touch src) hsafe hbg hwork hwaits hbusy).trans
      (bindNow_of_point (s := s.touch src) hpoint))
  case unbindVppb =>
    refine command_acts hserves hpilot ((State.takeTurn_of_free (s := s.touch src) hsafe hbg hwork hwaits hbusy).trans ?_)
    have hbound : (s.touch src).vppbPoint v.val i.val = some pt := hpoint
    rw [hbound]
    exact unbindNow_of_bound (s := s.touch src) (by decide) (by decide)
  case unbindPleat =>
    refine command_acts hserves hpilot ((State.takeTurn_of_free (s := s.touch src) hsafe hbg hwork hwaits hbusy).trans ?_)
    have hbound : (s.touch src).namedPoint p.val ld.val = some pt := hpoint
    rw [hbound]
    exact unbindNow_of_bound (s := s.touch src) (by decide) (by decide)
  case safe =>
    exact ⟨command_acts hserves hpilot (State.takeTurn_of_safe (s := s.touch src) hsafe),
      command_acts hserves hpilot (State.takeTurn_of_safe (s := s.touch src) hsafe)⟩
  case waits =>
    exact ⟨command_acts hserves hpilot (State.takeTurn_of_waits (s := s.touch src) hsafe hbg hahead),
      command_acts hserves hpilot (State.takeTurn_of_waits (s := s.touch src) hsafe hbg hahead)⟩

end Sys2Proof.Machine

/-! The Pilot's queries and requests of the FM API (R69, R72, R85). -/
namespace Sys2Proof.Machine

section
variable {s : State} {src : Sess} {port p : Nat}

theorem State.onDsp_of_dsp (hdir : s.chart.dirCell port = some p) (hdsp : s.chart.isDsp p = true) (act : Nat → State → State) :
    s.onDsp src port act = act p s := by
  rw [State.onDsp, hdir]
  exact if_pos hdsp

/-- Over a link that is up the partner's answer comes back (R72). -/
theorem State.throughPleat_of_up (hup : s.flag (F.celLinkstatUp p) = true) (what : Emit) (d : List (Fin 256)) :
    s.throughPleat src p what (some d) = (s.emit what).respond src .success stOk 0 (d.map (·.val)) := by
  rw [State.throughPleat, hup]
  rfl

/-- A request to a logical device that the partner offers, or to its FM-owned one, is delivered (R69). -/
theorem sendLd_of_up (hdir : s.chart.dirCell port = some p) (hdsp : s.chart.isDsp p = true) (hup : s.flag (F.celLinkstatUp p) = true)
    (hmld : s.flag (F.celBindMld p) = true) {ld : Nat} (hld : ld = 0xFFFF ∨ ld < s.get (F.celBindLdCount p)) (q : FmRequest)
    (d : List (Fin 256)) : sendLd src port ld q (some d) s =
      (s.emit (.fmRequest p (some ld) q.write q.addr.val (q.data.map (·.val)))).respond src .success stOk 0 (d.map (·.val)) := by
  have hoffered : (s.flag (F.celBindMld p) && (ld == 0xFFFF || decide (ld < s.get (F.celBindLdCount p)))) = true := by simpa [hmld] using hld
  rw [sendLd, State.onDsp_of_dsp hdir hdsp]
  exact (if_pos hoffered).trans (State.throughPleat_of_up hup ..)

end

/-- Settles O7: each command is served, and its directory port, its link and its binding choose its branch. -/
theorem pilotQueriesAnswer : Obligations.PilotQueriesAnswer := by
  unfold Obligations.PilotQueriesAnswer
  intro s src who hserves hpilot
  refine ⟨command_acts hserves hpilot rfl, command_acts hserves hpilot rfl, fun port p hdir => ?state, fun port hdir => ?missing,
    fun port p hdir hdsp => ?dsp, fun v i err hbound => ?aer⟩
  case state =>
    have hlead : (s.touch src).chart.dirCell port.val = some p := hdir
    refine command_acts hserves hpilot ((if_neg (by simp [hlead])).trans ?_)
    simp only [List.filterMap_cons, List.filterMap_nil, hlead, Option.map_some, List.flatten_cons, List.flatten_nil, List.append_nil]
    rfl
  case missing =>
    have hlead : (s.touch src).chart.dirCell port.val = none := hdir
    exact command_acts hserves hpilot (if_pos (by simp [hlead]))
  case dsp =>
    have honDsp (act : Nat → State → State) : (s.touch src).onDsp src port.val act = act p (s.touch src) :=
      State.onDsp_of_dsp (s := s.touch src) hdir hdsp act
    refine ⟨command_acts hserves hpilot (honDsp _), command_acts hserves hpilot (honDsp _), command_acts hserves hpilot (honDsp _),
      fun hup q d => ⟨?_, fun hmld => ⟨?_, fun ld hld => ?_⟩⟩⟩
    · exact command_acts hserves hpilot ((honDsp _).trans (State.throughPleat_of_up (s := s.touch src) hup ..))
    · exact command_acts hserves hpilot ((honDsp _).trans ((if_pos hmld).trans (State.throughPleat_of_up (s := s.touch src) hup ..)))
    · have hsend := sendLd_of_up (s := s.touch src) (src := src) hdir hdsp hup hmld hld q d
      exact ⟨command_acts hserves hpilot hsend, command_acts hserves hpilot hsend⟩
  case aer => exact command_acts hserves hpilot (if_pos hbound)

end Sys2Proof.Machine

/-! A request comes in (R77, R472): rules for counters, and for a request that goes further than the module's own functions. -/
namespace Sys2Proof.Machine

@[simp] theorem State.at_lnk (s : State) (t : Nat) : (s.at t).lnk = s.lnk := by rw [State.at_eq]
@[simp] theorem State.at_safeOn (s : State) (t : Nat) : (s.at t).safeOn = s.safeOn := congrArg (· != 0) (s.at_get t _)

/-- A counter counts up to the largest value of its field (R5). -/
theorem State.get_bump_same (s : State) (f : Fld) (n : Nat) : (s.bump f n).get f = min (s.get f + n) (2 ^ f.width - 1) := by
  have hpos : 0 < 2 ^ f.width := Nat.two_pow_pos _
  exact (s.get_set_same ..).trans (Nat.mod_eq_of_lt (by omega))

theorem State.home_of_units {s u : State} (h : u.units = s.units) : u.home = s.home :=
  congrArg (a₁ := u.units) (a₂ := s.units) State.home h
theorem State.nv_of_units {s u : State} (h : u.units = s.units) : u.nv = s.nv :=
  congrArg (a₁ := u.units) (a₂ := s.units) State.nv h
theorem State.sent_of_units {s u : State} (h : u.units = s.units) : u.sent = s.sent :=
  congrArg (a₁ := u.units) (a₂ := s.units) State.sent h

theorem State.emit_units (s : State) (e : Emit) : (s.emit e).units = s.units.emit e := rfl

section
variable {s : State} {p : Nat} {m : MsgHeader}

/-- A request that is neither for the module's own functions nor routed by port goes on to its berth and class. -/
theorem doMessageIngress_of_request {t : Nat} (htakes : (s.at t).takesIn p = true) (hmark : m.mark ≠ .l1Request)
    (hformed : (s.at t).malformed p m = false) (hrequest : isResponse m.kind = false) (hown : (s.at t).ownRequest p m = none)
    (hport : m.port = none) : doMessageIngress p m t s = (s.at t).requestIn p m := by
  have hroute : (s.at t).route p m = some m := by rw [State.route, hport]
  simp [doMessageIngress, htakes, hmark, hformed, hrequest, hown, hroute]

/-- A USP of no virtual switch has no functions of its own, but for configuration accesses, which it answers (R68). -/
theorem State.ownRequest_of_no_switch (hswitch : s.chart.vsOf p = none) (hcfg : m.cfg = none) : s.ownRequest p m = none := by
  simp [State.ownRequest, State.barOffset, hswitch, hcfg]

/-- A USP of no virtual switch gives its requests no berth (R128). -/
theorem State.ingressBerth_of_no_switch (husp : s.chart.isUsp p = true) (hfnl : s.chart.isFnl p = false) (hswitch : s.chart.vsOf p = none)
    (ld : Option Nat) (hberth : Nat) : s.ingressBerth p ld hberth = none := by
  have hlead : pointLead (pointOf p none) = p := by simp [pointLead, pointOf]
  simp [State.ingressBerth, State.pointBerth, hfnl, husp, hlead, hswitch]

/-- A request with no berth is refused where it comes in (R472). -/
theorem State.requestIn_of_no_berth (hcoh : m.coh = none) (hsafe : s.safeOn = false) (hkind : m.kind ≠ .management)
    (hberth : s.ingressBerth p (m.ld.map (·.val)) m.hberth.val = none) : s.requestIn p m = s.refuseBerthless p m.id m.kind := by
  simp only [State.requestIn, hcoh, hsafe, hberth]
  cases h : m.kind <;> simp_all

/-- BINDING for the Pilot goes to nobody else (R327). -/
theorem State.raise_binding (s : State) : s.raise atBinding [audPilot] = s.raiseOne atBinding audPilot := rfl

theorem State.refuseBerthless_eq (s : State) (p id : Nat) (kind : MsgKind) : s.refuseBerthless p id kind =
    ((s.bump (F.celStaleReqUnbound p) 1).raiseOne atBinding audPilot).emit (.answer p id (answerOf kind stUnbound)) := by
  rw [State.refuseBerthless, State.raise_binding]

theorem State.refuseBerthless_count (s : State) (p : Fin 1024) (id : Nat) (kind : MsgKind) :
    (s.refuseBerthless p.val id kind).get (F.celStaleReqUnbound p.val) =
      min (s.get (F.celStaleReqUnbound p.val) + 1) (2 ^ (F.celStaleReqUnbound p.val).width - 1) := by
  have hpend : (F.fltAttnPend audPilot).key ≠ (F.celStaleReqUnbound p.val).key := by
    simp only [Fld.key, F.fltAttnPend, F.celStaleReqUnbound, audPilot]
    omega
  have hseq : (F.fltAttnSeq audPilot).key ≠ (F.celStaleReqUnbound p.val).key := by
    simp only [Fld.key, F.fltAttnSeq, F.celStaleReqUnbound, audPilot]
    omega
  rw [State.refuseBerthless_eq, State.emit_get, State.get_raiseOne_of_ne _ _ hpend hseq, State.get_bump_same]

/-- BINDING is pending for the Pilot. -/
theorem State.refuseBerthless_pending (s : State) (p id : Nat) (kind : MsgKind) :
    ((s.refuseBerthless p id kind).get (F.fltAttnPend audPilot)).testBit atBinding = true := by
  rw [State.refuseBerthless_eq, State.emit_get]
  exact State.raiseOne_pending _ audPilot (by decide)

/-- The refusal sends its answer and writes registers: no unit changes. -/
theorem State.refuseBerthless_units (s : State) (p id : Nat) (kind : MsgKind) :
    (s.refuseBerthless p id kind).units = (s.emit (.answer p id (answerOf kind stUnbound))).units := by
  rw [State.refuseBerthless_eq, State.emit_units, State.raiseOne_units, State.bump_units, ← State.emit_units]

end

/-- Settles O11: the request gets no berth, so `State.refuseBerthless` is all that happens. -/
theorem unboundRequestsTurnedAway : Obligations.UnboundRequestsTurnedAway := by
  unfold Obligations.UnboundRequestsTurnedAway
  intro s p m t htakes hrequest hkind hmark hformed hcfg hport hcoh hsafe husp hfnl hswitch
  have hswitch' : (s.at t).chart.vsOf p.val = none := by rw [State.at_chart, hswitch]
  have hberth := State.ingressBerth_of_no_switch (s := s.at t) (by rw [State.at_chart, husp]) (by rw [State.at_chart, hfnl]) hswitch'
    (m.ld.map (·.val)) m.hberth.val
  have hrun : doMessageIngress p.val m t s = (s.at t).refuseBerthless p.val m.id m.kind :=
    (doMessageIngress_of_request htakes hmark hformed hrequest (State.ownRequest_of_no_switch hswitch' hcfg) hport).trans
      (State.requestIn_of_no_berth hcoh ((s.at_safeOn t).trans hsafe) hkind hberth)
  have hcount := (s.at t).refuseBerthless_count p m.id m.kind
  have hunits := (s.at t).refuseBerthless_units p.val m.id m.kind
  rw [State.at_get] at hcount
  exact ⟨_, congrArg Host.Outcome.next hrun, (State.sent_of_units hunits).trans (congrArg _ (s.at_sent t)), hcount,
    State.refuseBerthless_pending .., (State.core_of_units hunits).trans (s.at_core t), (State.home_of_units hunits).trans (s.at_home t),
    (State.chart_of_units hunits).trans (s.at_chart t), (State.nv_of_units hunits).trans (s.at_nv t)⟩

end Sys2Proof.Machine

/-! Staging (R96 to R98): what the messages of staging and bolt memory are after each operation of the switch core. -/
namespace Sys2Proof.Machine

/-- The messages in staging and in bolt memory. -/
def State.msgs (s : State) : List Msg × List Msg := (s.core.staged, s.core.bolt)

/-- What credits, counters and draws of the switch core leave: its messages, the chart in force, the kept state and the homes. -/
def State.plane (s : State) : (List Msg × List Msg) × Chart × NonVolatile × HomeUnit := (s.msgs, s.chart, s.nv, s.home)

theorem State.plane_of_units {s u : State} (h : u.units = s.units) : u.plane = s.plane :=
  congrArg (a₁ := u.units) (a₂ := s.units) State.plane h

theorem State.plane_ite {c : Prop} [Decidable c] {a b : State} {x : (List Msg × List Msg) × Chart × NonVolatile × HomeUnit}
    (ha : a.plane = x) (hb : b.plane = x) : (if c then a else b).plane = x := by
  split
  · exact ha
  · exact hb

@[simp] theorem State.set_plane (s : State) (f : Fld) (v : Nat) : (s.set f v).plane = s.plane := rfl
@[simp] theorem State.bump_plane (s : State) (f : Fld) (n : Nat) : (s.bump f n).plane = s.plane := rfl
@[simp] theorem State.emit_plane (s : State) (e : Emit) : (s.emit e).plane = s.plane := rfl
@[simp] theorem State.modLnk_plane (s : State) (f : LinkUnit → LinkUnit) : (s.modLnk f).plane = s.plane := rfl
@[simp] theorem State.count_plane (s : State) (loc : Nat × Nat) (code : Nat) (sub : Nat → Bool) (berth : Option Nat) (n : Nat) :
    (s.count loc code sub berth n).plane = s.plane := State.plane_of_units (s.count_units ..)
@[simp] theorem State.countCell_plane (s : State) (p code : Nat) (berth : Option Nat) (n : Nat) :
    (s.countCell p code berth n).plane = s.plane := State.count_plane ..
@[simp] theorem State.notePeak_plane (s : State) (p : Nat) : (s.notePeak p).plane = s.plane := rfl

@[simp] theorem State.sendCredits_plane (s : State) (p : Nat) (fc : FcClass) (headers data : Nat) :
    (s.sendCredits p fc headers data).plane = s.plane := State.plane_ite rfl rfl

@[simp] theorem State.returnCredits_plane (s : State) (m : Msg) : (s.returnCredits m).plane = s.plane :=
  State.plane_ite rfl (State.sendCredits_plane ..)

/-- A message that fits its partition is staged, in the shared area or not, and nothing else is (R98). -/
theorem State.stage_plane_of_fits {s : State} {m : Msg} (hclass : s.partFits m m.fc = true) (hdata : s.partFits m .data = true) :
    ∃ up : Bool, (s.stage m).plane = ((s.core.staged ++ [{ m with shared := up }], s.core.bolt), s.chart, s.nv, s.home) := by
  rw [State.stage, if_pos ⟨hclass, hdata⟩]
  extract_lets up s1
  have hs1 : s1.plane = ((s.core.staged ++ [{ m with shared := up }], s.core.bolt), s.chart, s.nv, s.home) :=
    (State.countCell_plane ..).trans (State.notePeak_plane ..)
  exact ⟨up, State.plane_ite ((s1.returnCredits_plane m).trans hs1) hs1⟩

end Sys2Proof.Machine

/-! Admission (R99 to R105). -/
namespace Sys2Proof.Machine

@[simp] theorem State.slotGrant_plane (s : State) (k : Nat) (weight : Nat → Nat) (r : List Nat) (forced : Option Nat) :
    (s.slotGrant k weight r forced).2.plane = s.plane := rfl

@[simp] theorem State.blockSlot_plane (s : State) (m : Msg) : (s.blockSlot m).plane = s.plane := State.slotGrant_plane ..

@[simp] theorem State.writeSeg_plane (s : State) (m : Msg) (idx : Nat) : (s.writeSeg m idx).plane = s.plane := rfl

/-- A message taken out of staging is gone from it, and bolt memory keeps what it has. -/
theorem State.dropStaged_msgs (s : State) (m : Msg) : (s.dropStaged m).msgs = (s.core.staged.filter (· != m), s.core.bolt) := by
  unfold State.dropStaged
  extract_lets _ s1
  have hcredits : (s1.returnCredits m).msgs = s1.msgs := congrArg (·.1) (s1.returnCredits_plane m)
  split
  · rfl
  · exact hcredits

/-- What a grant makes of the message (R105, R109). -/
def State.grantedMsg (s : State) (m : Msg) (tb ta p : Nat) : Msg :=
  { m with qcls := s.chart.effClass m.out m.cls, own := m.berth.bind fun k => s.chart.hemOf m.out (s.chart.effClass m.out m.cls) (some k),
           any := s.chart.hemOf m.out (s.chart.effClass m.out m.cls) none, tb := tb, ta := ta, pool := p,
           cut := s.grantsCut m (s.chart.effClass m.out m.cls), admitted := s.now,
           inBolt := if m.src / 128 == m.out / 128 then m.segs else 0, sent := 0, granted := true }

/-- Staging after a grant: a message for its own region has left it, and one for another stands there as granted (R101). -/
def stagedAfterGrant (l : List Msg) (m : Msg) : List Msg :=
  if m.src / 128 == m.out / 128 then l.filter (· != m) else l.map fun x => if x = m then { m with granted := true } else x

/-- The message as it stood in staging is there no more. -/
theorem not_mem_stagedAfterGrant (l : List Msg) {m : Msg} (h : m.granted = false) : m ∉ stagedAfterGrant l m := by
  unfold stagedAfterGrant
  split
  · simp
  · rw [List.mem_map]
    rintro ⟨x, -, hx⟩
    split at hx
    · rw [← hx] at h
      cases h
    · next hne => exact hne hx

theorem State.takeToBolt_msgs (s : State) (m : Msg) (tb ta p : Nat) :
    (s.takeToBolt m tb ta p).msgs = (stagedAfterGrant s.core.staged m, s.core.bolt ++ [s.grantedMsg m tb ta p]) := by
  unfold State.takeToBolt
  extract_lets qc own any cut near m1 s0 s1 s2 s3 s4
  have hs0 : s0.msgs = (stagedAfterGrant s.core.staged m, s.core.bolt) := by
    dsimp only [s0, stagedAfterGrant, near]
    split
    · have hwritten : ((List.range m.segs).foldl (fun s i => s.writeSeg m i) (s.blockSlot m)).msgs = s.msgs :=
        (foldl_keeps State.msgs (g := fun u i => u.writeSeg m i) (fun _ _ => rfl) _ _).trans rfl
      rw [State.dropStaged_msgs]
      exact congrArg (fun l : List Msg × List Msg => (l.1.filter (· != m), l.2)) hwritten
    · rfl
  have hs1 : s1.msgs = (stagedAfterGrant s.core.staged m, s.core.bolt ++ [m1]) := congrArg (fun l : List Msg × List Msg => (l.1, l.2 ++ [m1])) hs0
  have hs2 : s2.plane = s1.plane := foldl_keeps State.plane (fun u e => by cases e <;> rfl) _ _
  have hs3 : s3.plane = s1.plane := (State.countCell_plane ..).trans ((State.count_plane ..).trans hs2)
  have hs4 : s4.plane = s1.plane := State.plane_ite ((State.count_plane ..).trans hs3) hs3
  have hend : (if qc = m.cls then s4 else s4.bump (F.celSchedstatRemapped m.out) 1).plane = s1.plane := State.plane_ite hs4 hs4
  exact (congrArg (·.1) hend).trans hs1

theorem State.takeToBolt_staged (s : State) (m : Msg) (tb ta p : Nat) :
    (s.takeToBolt m tb ta p).core.staged = stagedAfterGrant s.core.staged m := congrArg (·.1) (s.takeToBolt_msgs m tb ta p)

theorem State.takeToBolt_bolt (s : State) (m : Msg) (tb ta p : Nat) :
    (s.takeToBolt m tb ta p).core.bolt = s.core.bolt ++ [s.grantedMsg m tb ta p] := congrArg (·.2) (s.takeToBolt_msgs m tb ta p)

/-- A head of the region's own block, in service, with room for it, is granted (R99, R105). -/
theorem State.decideHead_of_granted {s : State} {p g tb ta n : Nat} {fc : FcClass} {m : Msg} (hhead : s.stagingHead p fc g = some m)
    (hsafe : s.safeOn = false) (hown : p / 128 = g) (hheld : s.flag (F.fnlLinkstatFlushed m.out) = false)
    (hroom : s.creditedFirst.decideAdmission m = some (tb, ta, n)) : s.decideHead p fc g = s.takeToBolt m tb ta n := by
  simp [State.decideHead, hhead, hsafe, hown, hheld, hroom]

end Sys2Proof.Machine

/-! The commands' cases. -/
namespace Sys2Proof.Machine

section
variable {s : State}

/-- A request that gets a berth and is not for the Lodestar aperture is classed, metered and staged (R127, R142). -/
theorem State.requestIn_of_berth {p k : Nat} {m : MsgHeader} (hcoh : m.coh = none) (hsafe : s.safeOn = false)
    (hberth : s.ingressBerth p (m.ld.map (·.val)) m.hberth.val = some k) (haperture : s.chart.inAperture m.addr.val = false)
    {r : Nat × Nat × State} (hr : r = s.ingressClass p k m.kind m.fc m.addr.val m.hclass.val m.hcolour.val m.bytes.val) :
    s.requestIn p m = r.2.2.stage { newMsg p m (pointOf m.out.val (m.ld.map (·.val))) (s.tack (pointOf m.out.val (m.ld.map (·.val)))) r.1
      (some k) r.2.1 s.now with coh := none } := by
  subst hr
  simp only [State.requestIn, hcoh, hsafe, hberth, haperture]
  simp

theorem doAdmissionRequest_of_noTurn {p g t : Nat} {fc : FcClass} {s1 : State} (h : (s.at t).admissionTurn p fc g = (none, s1)) :
    doAdmissionRequest p fc g t s = s1 := by
  rw [doAdmissionRequest, h]

theorem doAdmissionRequest_of_turn {p g t : Nat} {fc : FcClass} {q : Nat × FcClass} {s1 : State}
    (h : (s.at t).admissionTurn p fc g = (some q, s1)) : doAdmissionRequest p fc g t s = s1.decideHead q.1 q.2 g := by
  rw [doAdmissionRequest, h]

theorem doOutputNextMessage_of_head {o t c : Nat} {d : Dwrr} {m : Msg} (hup : s.flag (F.celLinkstatUp o) = true)
    (hfree : SMap.find? s.core.sending o = none) (hquiet : (s.at t).quietNow o = false) (hclass : (s.at t).nextClass o = some (c, d))
    (hhead : ((s.at t).pickQueue o c).2.bind ((s.at t).queueHead o c) = some m) (hbound : (s.at t).deliverable m = true)
    (hcredits : (s.at t).hasCredits o m = true) :
    doOutputNextMessage o t s = (s.at t).sendChecked o c d ((s.at t).pickQueue o c).1 m := by
  simp [doOutputNextMessage, hup, hfree, hquiet, hclass, hhead, hbound, hcredits]

/-- The last segment of a message ends it (R106). -/
theorem doSegmentRelease_of_last {o t : Nat} {m : Msg} (hopen : (s.at t).openMsg o = some m) (hfilled : m.filled = false)
    (hthere : m.sent < m.inBolt) (hroom : (s.at t).cwRoom o = true) (hquiet : (s.at t).quietNow o = false) (hlast : m.sent + 1 = m.segs) :
    doSegmentRelease o t s = (if m.direct then (((s.at t).readSeg m).sendCw o m).countCell o 0x11 m.berth 1
      else ((((s.at t).readSeg m).sendCw o m).countCell o 0x11 m.berth 1).count (ctrRgn (o / 128)) 0x21 anySub m.berth 1).endMsg o m
        false := by
  simp [doSegmentRelease, hopen, hfilled, hthere, hroom, hquiet, hlast]

/-- The gap of a cut-through message opens at a CXL output (R111). -/
theorem doCutThroughGap_of_opening {o slots t : Nat} {m : Msg} (hopen : (s.at t).openMsg o = some m) (hcut : m.cut = true)
    (hfilled : m.filled = false) (habsent : m.inBolt ≤ m.sent) (hgap : SMap.find? (s.at t).core.gaps o = none)
    (hfnl : s.chart.isFnl o = false) : doCutThroughGap o slots t s =
      ((((s.at t).bump (F.rgnCtstatUnderruns (o / 128)) 1).count (ctrRgn (o / 128)) 0x26 anySub none 1).modCore fun u =>
        { u with gaps := SMap.put u.gaps o (s.at t).now }).emit (.emptySlots o slots) := by
  rw [State.at_core] at hgap
  simp [doCutThroughGap, hopen, hcut, hfilled, habsent, hgap, hfnl]

theorem doPoisonFill_of_stalled {o t since : Nat} {m : Msg} (hopen : (s.at t).openMsg o = some m)
    (hgap : SMap.find? (s.at t).core.gaps o = some since)
    (hlate : since + usec ((s.at t).get (F.rgnCtctlStallMax (o / 128))) ≤ (s.at t).now) (habsent : m.inBolt ≤ m.sent)
    (harrives : (s.at t).arrivesNow m = false) : doPoisonFill o t s = (s.at t).fillMsg o m := by
  rw [doPoisonFill, hopen, hgap]
  exact if_pos ⟨hlate, habsent, harrives⟩

/-- A demotion whose time is over ends (R112). -/
theorem doDemotionEnd_of_over {g p cls t until_ : Nat} (hfind : SMap.find? s.core.demoted (8192 * g + 8 * p + cls) = some until_)
    (hover : until_ ≤ (s.at t).now) : ∃ u : State, doDemotionEnd g p cls t s = u ∧
      u.core = { s.core with demoted := SMap.del s.core.demoted (8192 * g + 8 * p + cls) } ∧ u.sent = s.sent := by
  have hany : (SMap.find? (s.at t).core.demoted (8192 * g + 8 * p + cls)).any (fun u => decide (u ≤ (s.at t).now)) = true := by
    simp [hfind, hover]
  refine ⟨_, if_pos hany, ?_, s.at_sent t⟩
  exact congrArg (fun c : CoreUnit => { c with demoted := SMap.del c.demoted (8192 * g + 8 * p + cls) }) (s.at_core t)

end

/-- Settles O10: each command's branch for the message it finds. -/
theorem switchCoreComplete : Obligations.SwitchCoreComplete := by
  unfold Obligations.SwitchCoreComplete
  refine ⟨fun s p m t k r htakes hmark hformed hrequest hown hport hcoh hsafe hberth haperture hr => ?ingress,
    fun s m hclass hdata => ?staged, fun s p fc g t s1 => ⟨fun hturn => ?noTurn, fun q hturn => ⟨?turn, ?granted⟩⟩,
    fun s m tb ta n hstaged hgranted => ?moved,
    fun s o t c d m hup hfree hquiet hclass hhead hbound hcredits =>
      congrArg Host.Outcome.next (doOutputNextMessage_of_head hup hfree hquiet hclass hhead hbound hcredits),
    fun s o t m hopen hfilled hthere hroom hquiet hlast => ⟨fun hdirect => ?direct, fun hdirect => ?fromBolt⟩,
    fun s o slots t m hopen hcut hfilled habsent hgap hfnl =>
      congrArg Host.Outcome.next (doCutThroughGap_of_opening hopen hcut hfilled habsent hgap hfnl),
    fun s o t since m hopen hgap hlate habsent harrives =>
      congrArg Host.Outcome.next (doPoisonFill_of_stalled hopen hgap hlate habsent harrives),
    fun s g p cls t until_ hfind hover => ?demotion⟩
  case ingress =>
    exact congrArg Host.Outcome.next ((doMessageIngress_of_request htakes hmark hformed hrequest hown hport).trans
      (State.requestIn_of_berth hcoh hsafe hberth haperture hr))
  case staged =>
    obtain ⟨up, hplane⟩ := State.stage_plane_of_fits hclass hdata
    exact ⟨_, rfl, ⟨up, congrArg (·.1.1) hplane⟩, congrArg (·.1.2) hplane, congrArg (·.2.1) hplane, congrArg (·.2.2.1) hplane,
      congrArg (·.2.2.2) hplane⟩
  case noTurn => exact congrArg Host.Outcome.next (doAdmissionRequest_of_noTurn hturn)
  case turn => exact congrArg Host.Outcome.next (doAdmissionRequest_of_turn hturn)
  case granted =>
    exact fun m tb ta n hhead hsafe hown hheld hroom => congrArg Host.Outcome.next
      ((doAdmissionRequest_of_turn hturn).trans (State.decideHead_of_granted hhead hsafe hown hheld hroom))
  case moved =>
    refine ⟨s.grantedMsg m tb ta n, ?_, rfl, rfl, rfl, rfl, rfl, ?_⟩
    · rw [State.takeToBolt_bolt]
      exact List.mem_append_right _ (List.mem_singleton_self _)
    · rw [State.takeToBolt_staged]
      exact not_mem_stagedAfterGrant s.core.staged hgranted
  case direct | fromBolt =>
    have hrun := doSegmentRelease_of_last hopen hfilled hthere hroom hquiet hlast
    rw [hdirect] at hrun
    exact congrArg Host.Outcome.next hrun
  case demotion =>
    obtain ⟨u, hrun, hcore, hsent⟩ := doDemotionEnd_of_over hfind hover
    refine ⟨u, congrArg Host.Outcome.next hrun, ?_, ?_, ?_, hsent⟩ <;> rw [hcore]

end Sys2Proof.Machine

/-! Fields of registers under folds and filters: rules for reading one after many have been written. -/
namespace Sys2Proof

theorem SMap.find?_filter_of_true {α : Type} (m : SMap α) {k : Nat} {f : Nat × α → Bool} (h : ∀ v, f (k, v) = true) :
    SMap.find? (m.filter f) k = SMap.find? m k := by
  induction m with
  | nil => rfl
  | cons e r ih =>
    obtain ⟨a, v⟩ := e
    by_cases hak : a = k
    · subst hak
      simp [h v, SMap.find?]
    · cases hf : f (a, v) <;> simpa [hf, SMap.find?, hak] using ih

theorem SMap.find?_filter_of_false {α : Type} (m : SMap α) {k : Nat} {f : Nat × α → Bool} (h : ∀ v, f (k, v) = false) :
    SMap.find? (m.filter f) k = none := by
  induction m with
  | nil => rfl
  | cons e r ih =>
    obtain ⟨a, v⟩ := e
    by_cases hak : a = k
    · subst hak
      simpa [h v] using ih
    · cases hf : f (a, v) <;> simpa [hf, SMap.find?, hak] using ih

end Sys2Proof

namespace Sys2Proof.Machine

/-- Fields of different words have different keys. -/
theorem Fld.key_ne_of_addr_ne {f g : Fld} (hf : f.lsb < 32) (hg : g.lsb < 32) (h : f.addr ≠ g.addr) : f.key ≠ g.key := by
  simp only [Fld.key]
  omega

/-- A field in a range of addresses that goes back to reset values reads its own (R398). -/
theorem State.get_resetRange (s : State) {lo hi : Nat} {f : Fld} (hlsb : f.lsb < 32) (hlo : lo ≤ f.addr) (hhi : f.addr < hi) :
    (s.resetRange lo hi).get f = f.reset := by
  have haddr : f.key / 32 = f.addr := by
    simp only [Fld.key]
    omega
  have hgone : SMap.find? (dropRegs s.regs lo hi fun _ => false) f.key = none :=
    SMap.find?_filter_of_false _ fun v => by simp [haddr, hlo, hhi]
  exact congrArg (Option.getD · f.reset) hgone

/-- A fold keeps a view of the state that each of its steps keeps. -/
theorem foldl_keeps_of_mem {α β : Type} (view : State → β) {g : State → α → State} {l : List α}
    (h : ∀ s, ∀ a ∈ l, view (g s a) = view s) (s : State) : view (l.foldl g s) = view s := by
  induction l generalizing s with
  | nil => rfl
  | cons a r ih =>
    rw [List.foldl_cons, ih fun s b hb => h s b (List.mem_cons_of_mem _ hb), h s a (List.mem_cons_self ..)]

/-- A field that one step of a fold writes, and no other, reads what that step gives it; what it gives may depend on a view of the state
that every step keeps. -/
theorem foldl_range_get {β : Type} (view : State → β) {g : State → Nat → State} (hview : ∀ u a, view (g u a) = view u) {s : State} {f : Fld}
    {v k n : Nat} (hk : k < n) (hwrites : ∀ u, view u = view s → (g u k).get f = v)
    (hothers : ∀ u, ∀ a < n, a ≠ k → (g u a).get f = u.get f) : ((List.range n).foldl g s).get f = v := by
  induction n with
  | zero => omega
  | succ n ih =>
    rw [List.range_succ, List.foldl_append]
    by_cases hlast : k = n
    · subst hlast
      exact hwrites _ (foldl_keeps view hview _ _)
    · exact (hothers _ n (Nat.lt_succ_self n) (Ne.symm hlast)).trans
        (ih (by omega) fun u a ha hne => hothers u a (by omega) hne)

end Sys2Proof.Machine

/-! The refresh of the arbiters' weights (R134). -/
namespace Sys2Proof.Machine

/-- The messages of bolt memory whose segments are still to come. -/
def State.inTransit (s : State) : List Msg := s.core.bolt.filter fun m => !m.filled && decide (m.inBolt < m.segs)

/-- The messages that a region's admission arbiter weighs: those that ask for admission, and those whose segments are to come. -/
def State.weighed (s : State) : List Msg := s.core.staged.filter s.asksAdmission ++ s.inTransit

/-- The weights of one block at a region and at its seam, of a region, and of one input of the Rose. -/
def refreshBlock (weighed transit : List Msg) (g : Nat) (s : State) (i : Nat) : State := s.setAll
  [(F.rgnArbwAdmitW g i, s.sourceWeight (weighed.filter fun m => m.src / 8 == 16 * g + i && m.out / 128 == g)),
   (F.rgnArbwSeamW g i, s.sourceWeight (transit.filter fun m => m.src / 8 == 16 * g + i))]

def refreshRegion (weighed transit : List Msg) (s : State) (g : Nat) : State :=
  let s1 := (List.range 16).foldl (refreshBlock weighed transit g) s
  s1.set (F.rgnArbwAdmitW g 16) (s.sourceWeight (weighed.filter fun m => m.src / 128 != g && m.out / 128 == g))

def refreshRose (transit : List Msg) (s : State) (n : Nat) : State :=
  s.set (F.hubArbw n) (s.sourceWeight (transit.filter fun m => m.src / 128 == n / 8 && m.out / 128 == n % 8))

/-- The registers as a refresh leaves them. -/
def State.refreshed (s : State) : State :=
  (List.range 64).foldl (refreshRose s.inTransit) ((List.range 8).foldl (refreshRegion s.weighed s.inTransit) s)

/-- A refresh writes these registers and the weights of the outputs' arbiters. -/
theorem doWeightRefresh_eq (t : Nat) (s : State) :
    ∃ w : CoreUnit → SMap Nat, doWeightRefresh t s = (s.at t).refreshed.modCore fun u => { u with weights := w u } := by
  unfold doWeightRefresh
  exact ⟨_, rfl⟩

theorem refreshBlock_units (weighed transit : List Msg) (g : Nat) (s : State) (i : Nat) :
    (refreshBlock weighed transit g s i).units = s.units := State.setAll_units ..

theorem refreshRegion_units (weighed transit : List Msg) (s : State) (g : Nat) : (refreshRegion weighed transit s g).units = s.units :=
  (State.set_units ..).trans (foldl_keeps State.units (refreshBlock_units weighed transit g) _ s)

theorem refreshRose_units (transit : List Msg) (s : State) (n : Nat) : (refreshRose transit s n).units = s.units := State.set_units ..

theorem State.refreshed_units (s : State) : s.refreshed.units = s.units :=
  (foldl_keeps State.units (refreshRose_units _) _ _).trans (foldl_keeps State.units (refreshRegion_units _ _) _ _)

/-- A source's weight is read from the chart. -/
theorem State.sourceWeight_of_units {s u : State} (h : u.units = s.units) (l : List Msg) : u.sourceWeight l = s.sourceWeight l := by
  rw [State.sourceWeight, State.sourceWeight, State.chart_of_units h]

theorem State.sourceWeight_lt (s : State) (l : List Msg) : s.sourceWeight l < 2 ^ 14 := by
  rw [State.sourceWeight]
  omega

section
variable (weighed transit : List Msg) (s : State) {g i : Nat}

/-- A block's admission weight is written once in its region (R158: 32 words of 4 bytes). -/
theorem refreshBlock_admitW : (refreshBlock weighed transit g s i).get (F.rgnArbwAdmitW g i) =
    s.sourceWeight (weighed.filter fun m => m.src / 8 == 16 * g + i && m.out / 128 == g) := by
  have hne : (F.rgnArbwSeamW g i).key ≠ (F.rgnArbwAdmitW g i).key := by simp [Fld.key, F.rgnArbwSeamW, F.rgnArbwAdmitW]
  simp only [refreshBlock, State.setAll, List.foldl_cons, List.foldl_nil]
  rw [State.get_set_of_ne _ _ _ _ hne, State.get_set_same]
  exact Nat.mod_eq_of_lt (s.sourceWeight_lt _)

theorem refreshBlock_admitW_of_ne {h j : Nat} (hne : 262144 * h + j ≠ 262144 * g + i) :
    (refreshBlock weighed transit h s j).get (F.rgnArbwAdmitW g i) = s.get (F.rgnArbwAdmitW g i) := by
  simp only [refreshBlock, State.setAll, List.foldl_cons, List.foldl_nil]
  rw [State.get_set_of_ne, State.get_set_of_ne] <;> simp only [Fld.key, F.rgnArbwSeamW, F.rgnArbwAdmitW] <;> omega

theorem refreshRegion_admitW (hi : i < 16) : (refreshRegion weighed transit s g).get (F.rgnArbwAdmitW g i) =
    s.sourceWeight (weighed.filter fun m => m.src / 8 == 16 * g + i && m.out / 128 == g) := by
  have hne : (F.rgnArbwAdmitW g 16).key ≠ (F.rgnArbwAdmitW g i).key := by
    simp only [Fld.key, F.rgnArbwAdmitW]
    omega
  refine (State.get_set_of_ne _ _ _ _ hne).trans ?_
  refine foldl_range_get State.units (refreshBlock_units weighed transit g) hi (fun u hu => ?_) fun u a _ ha => ?_
  · rw [refreshBlock_admitW, State.sourceWeight_of_units hu]
  · exact refreshBlock_admitW_of_ne weighed transit u (by omega)

theorem refreshRegion_admitW_of_ne {h : Nat} (hi : i < 16) (hne : h ≠ g) :
    (refreshRegion weighed transit s h).get (F.rgnArbwAdmitW g i) = s.get (F.rgnArbwAdmitW g i) := by
  have hne16 : (F.rgnArbwAdmitW h 16).key ≠ (F.rgnArbwAdmitW g i).key := by
    simp only [Fld.key, F.rgnArbwAdmitW]
    omega
  refine (State.get_set_of_ne _ _ _ _ hne16).trans ?_
  refine foldl_keeps_of_mem (fun u => u.get (F.rgnArbwAdmitW g i)) (fun u j hj => ?_) s
  have hj16 := List.mem_range.mp hj
  exact refreshBlock_admitW_of_ne weighed transit u (by omega)

end

theorem State.refreshed_admitW (s : State) {g i : Nat} (hg : g < 8) (hi : i < 16) : s.refreshed.get (F.rgnArbwAdmitW g i) =
    s.sourceWeight (s.weighed.filter fun m => m.src / 8 == 16 * g + i && m.out / 128 == g) := by
  have hrose : s.refreshed.get (F.rgnArbwAdmitW g i) =
      ((List.range 8).foldl (refreshRegion s.weighed s.inTransit) s).get (F.rgnArbwAdmitW g i) := by
    refine foldl_keeps_of_mem (fun u => u.get (F.rgnArbwAdmitW g i)) (fun u n hn => State.get_set_of_ne _ _ _ _ ?_) _
    have hn64 := List.mem_range.mp hn
    simp only [Fld.key, F.hubArbw, F.rgnArbwAdmitW]
    omega
  rw [hrose]
  refine foldl_range_get State.units (refreshRegion_units _ _) hg (fun u hu => ?_) fun u h _ hne => ?_
  · rw [refreshRegion_admitW _ _ _ hi, State.sourceWeight_of_units hu]
  · exact refreshRegion_admitW_of_ne _ _ _ hi hne

end Sys2Proof.Machine

/-! Queue histograms (R151, R152). -/
namespace Sys2Proof.Machine

theorem depthBin_le (n : Nat) : depthBin n ≤ 15 := by
  unfold depthBin
  split <;> omega

theorem sojournBin_le (t : Nat) : sojournBin t ≤ 15 := by
  unfold sojournBin
  split <;> omega

/-- One queue's sample: its depth bin and its sojourn bin count one more. -/
def countBins (g depth sojourn : Nat) (s : State) (q : Nat) : State :=
  (s.bump (F.rgnQhistDepth g q depth) 1).bump (F.rgnQhistSojourn g q sojourn) 1

theorem countBins_units (g depth sojourn : Nat) (s : State) (q : Nat) : (countBins g depth sojourn s q).units = s.units :=
  (State.bump_units ..).trans (State.bump_units ..)

/-- The bins of a region lie in its 128 KiB of histograms. -/
theorem countBins_get {g depth sojourn q : Nat} (hdepth : depth ≤ 15) (hsojourn : sojourn ≤ 15) (hq : q < 1024) (s : State) {f : Fld}
    (hout : f.addr < 0x1080000 + 0x100000 * g ∨ 0x10A0000 + 0x100000 * g ≤ f.addr) (hlsb : f.lsb < 32) :
    (countBins g depth sojourn s q).get f = s.get f := by
  rw [countBins, State.get_bump_of_ne, State.get_bump_of_ne]
  · refine Fld.key_ne_of_addr_ne (by simp [F.rgnQhistDepth]) hlsb ?_
    simp only [F.rgnQhistDepth]
    omega
  · refine Fld.key_ne_of_addr_ne (by simp [F.rgnQhistSojourn]) hlsb ?_
    simp only [F.rgnQhistSojourn]
    omega

/-- One sample of a queue: of a lead cell's only. -/
def sampleQueue (v : State) (g : Nat) (s : State) (q : Nat) : State :=
  let l := v.core.bolt.filter fun m => m.out == 128 * g + q / 8 && !(m.filled && m.sent == m.segs) && m.qcls == q % 8
  if v.chart.isLead (128 * g + q / 8) then countBins g (depthBin (sumOf (l.map Msg.held)))
    (match l with | [] => 0 | m :: _ => sojournBin (v.now - m.admitted)) s q else s

theorem sampleQueue_units (v : State) (g : Nat) (s : State) (q : Nat) : (sampleQueue v g s q).units = s.units := by
  unfold sampleQueue
  dsimp only
  split
  · exact countBins_units ..
  · rfl

theorem sampleQueue_get {v : State} {g q : Nat} (hq : q < 1024) (s : State) {f : Fld}
    (hout : f.addr < 0x1080000 + 0x100000 * g ∨ 0x10A0000 + 0x100000 * g ≤ f.addr) (hlsb : f.lsb < 32) :
    (sampleQueue v g s q).get f = s.get f := by
  unfold sampleQueue
  extract_lets l
  clear_value l
  split
  · refine countBins_get (depthBin_le _) ?_ hq s hout hlsb
    cases l with
    | nil => exact Nat.zero_le _
    | cons m r => exact sojournBin_le _
  · rfl

/-- A sample that is neither frozen out nor put off takes every queue of the region (R151, R417, R421). -/
theorem doQueueSample_of_free {s : State} {g t : Nat} (hfrozen : s.flag F.talStatFrozen = false)
    (hclear : s.flag (F.rgnQhistctlClearing g) = false) (hcopy : (s.at t).copyingBins g = false) :
    doQueueSample g t s = (List.range 1024).foldl (sampleQueue (s.at t) g) (s.at t) := by
  have hsampled : ¬((s.at t).flag F.talStatFrozen || (s.at t).flag (F.rgnQhistctlClearing g)) = true := by simp [hfrozen, hclear]
  exact (if_neg hsampled).trans (if_neg (by simp [hcopy]))

/-- A region's clear leaves every bin at 0 (R152). -/
theorem doHistogramClearDone_of_clearing {s : State} {g t : Nat} (hclear : s.flag (F.rgnQhistctlClearing g) = true)
    (hcopy : (s.at t).copyingBins g = false) : doHistogramClearDone g t s =
      ((s.at t).resetRange (0x1080000 + 0x100000 * g) (0x10A0000 + 0x100000 * g)).set (F.rgnQhistctlClearing g) 0 := by
  have hlo : 0x1000000 + 0x100000 * g + 0x80000 = 0x1080000 + 0x100000 * g := by omega
  have hhi : 0x1000000 + 0x100000 * g + 0xA0000 = 0x10A0000 + 0x100000 * g := by omega
  simp [doHistogramClearDone, hclear, hcopy, hlo, hhi]

end Sys2Proof.Machine

/-! The Pilot's clears (R90, R120, R122, R152), and the settling of O12. -/
namespace Sys2Proof.Machine

/-- A register write of a session at a place that can be reached has its effect and is answered Success. -/
theorem State.regCommandAt_acts {s : State} {src : Sess} {p : Principal} (hserves : s.serves src p) {a : Nat} (hreach : s.reach a = true)
    {rights : Principal → Bool} (hr : rights p = true) (act : State → State) :
    s.regCommandAt src a rights (fun _ u => (act u, stOk)) = s.acts src act := by
  rw [State.regCommandAt_served hserves hreach hr]
  rfl

theorem doShaperSlot_of_due {s : State} {o j t n : Nat} (hslot : (s.shaperOf o j).slot = some n) (hdue : n ≤ (s.at t).now / 10000) :
    doShaperSlot o j t s = (s.at t).shaperSlot o j := by
  have hslot' : ((s.at t).shaperOf o j).slot = some n := by rw [State.shaperOf, State.at_core, ← State.shaperOf, hslot]
  rw [doShaperSlot, hslot']
  exact if_pos hdue

/-- New weights of the outputs' arbiters, besides register writes, change no message. -/
theorem State.modWeights_keeps {s v : State} (hunits : v.units = s.units) (w : CoreUnit → SMap Nat) {u : State}
    (hu : v.modCore (fun c => { c with weights := w c }) = u) : u.core.staged = s.core.staged ∧ u.core.bolt = s.core.bolt ∧
      u.core.sending = s.core.sending ∧ u.chart = s.chart ∧ u.sent = s.sent ∧ ∀ f : Fld, u.get f = v.get f := by
  subst hu
  have hcore : v.core = s.core := State.core_of_units hunits
  exact ⟨(congrArg CoreUnit.staged hcore :), (congrArg CoreUnit.bolt hcore :), (congrArg CoreUnit.sending hcore :),
    (State.chart_of_units hunits :), (State.sent_of_units hunits :), fun _ => rfl⟩

/-- A refresh changes no message, and writes each block's admission weight (R134). -/
theorem doWeightRefresh_weights (s : State) (t : Nat) : ∃ u : State, doWeightRefresh t s = u ∧ u.core.staged = s.core.staged ∧
    u.core.bolt = s.core.bolt ∧ u.core.sending = s.core.sending ∧ u.chart = s.chart ∧ u.sent = s.sent ∧
    ∀ (g : Fin 8) (i : Fin 16), u.get (F.rgnArbwAdmitW g.val i.val) = (s.at t).sourceWeight ((s.at t).weighed.filter fun m =>
      m.src / 8 == 16 * g.val + i.val && m.out / 128 == g.val) := by
  obtain ⟨w, hrun⟩ := doWeightRefresh_eq t s
  obtain ⟨hstaged, hbolt, hsending, hchart, hsent, hget⟩ := State.modWeights_keeps (s.at t).refreshed_units w hrun.symm
  rw [State.at_core] at hstaged hbolt hsending
  exact ⟨_, rfl, hstaged, hbolt, hsending, hchart.trans (s.at_chart t), hsent.trans (s.at_sent t), fun g i =>
    (hget _).trans ((s.at t).refreshed_admitW g.isLt i.isLt)⟩

/-- A sample changes no message, and no register outside the region's histograms (R151). -/
theorem doQueueSample_keeps {s : State} {g t : Nat} (hfrozen : s.flag F.talStatFrozen = false)
    (hclear : s.flag (F.rgnQhistctlClearing g) = false) (hcopy : (s.at t).copyingBins g = false) :
    (doQueueSample g t s).core = s.core ∧ (doQueueSample g t s).sent = s.sent ∧
      ∀ f : Fld, (f.addr < 0x1080000 + 0x100000 * g ∨ 0x10A0000 + 0x100000 * g ≤ f.addr) → f.lsb < 32 →
        (doQueueSample g t s).get f = s.get f := by
  have hunits : ((List.range 1024).foldl (sampleQueue (s.at t) g) (s.at t)).units = (s.at t).units :=
    foldl_keeps State.units (sampleQueue_units _ _) _ _
  rw [doQueueSample_of_free hfrozen hclear hcopy]
  refine ⟨(State.core_of_units hunits).trans (s.at_core t), (State.sent_of_units hunits).trans (s.at_sent t), fun f hout hlsb => ?_⟩
  refine (foldl_keeps_of_mem (fun u => u.get f) (fun u q hq => ?_) (s.at t)).trans (s.at_get t f)
  exact sampleQueue_get (List.mem_range.mp hq) u hout hlsb

/-- Settles O12: what each command writes, and what its writes leave. -/
theorem schedulingComplete : Obligations.SchedulingComplete := by
  unfold Obligations.SchedulingComplete
  refine ⟨fun s t => ?weights, fun s o j t n hslot hdue => congrArg Host.Outcome.next (doShaperSlot_of_due hslot hdue),
    fun s g t hfrozen hclear hcopy => ?sample, fun s src who hserves hpilot => ⟨fun g hreach => ?histograms, fun g hreach => ?cutThrough,
      fun n c hreach => ?peaks, fun p hreach => ?stale⟩, fun s g t hclear hcopy => ?cleared⟩
  case weights =>
    obtain ⟨u, hrun, hkeeps⟩ := doWeightRefresh_weights s t
    exact ⟨u, congrArg Host.Outcome.next hrun, hkeeps⟩
  case sample => exact ⟨_, rfl, doQueueSample_keeps hfrozen hclear hcopy⟩
  case histograms =>
    have haddr : (F.rgnQhistctlClearing g.val).addr = 0x1000000 + 0x100000 * g.val + 0x130 := by
      simp only [F.rgnQhistctlClearing]
      omega
    exact congrArg Host.Outcome.next (State.regCommandAt_acts hserves (haddr ▸ hreach) hpilot _)
  case cutThrough => exact congrArg Host.Outcome.next (State.regCommandAt_acts hserves hreach hpilot (clearCtstat g.val))
  case peaks => exact congrArg Host.Outcome.next (State.regCommandAt_acts hserves hreach hpilot (clearStgPeak (8 * n.val + c.val)))
  case stale => exact congrArg Host.Outcome.next (State.regCommandAt_acts hserves hreach hpilot (clearStale p.val))
  case cleared =>
    refine ⟨_, congrArg Host.Outcome.next (doHistogramClearDone_of_clearing hclear hcopy), ?_, fun q b => ⟨?_, ?_⟩⟩
    · rw [State.flag, State.get_set_same]
      rfl
    · rw [State.get_set_of_ne, State.get_resetRange]
      all_goals simp only [Fld.key, F.rgnQhistDepth, F.rgnQhistctlClearing]
      all_goals omega
    · rw [State.get_set_of_ne, State.get_resetRange]
      all_goals simp only [Fld.key, F.rgnQhistSojourn, F.rgnQhistctlClearing]
      all_goals omega

end Sys2Proof.Machine

/-! Links of USP and DSP pleats (R61 to R63, R71, R301). -/
namespace Sys2Proof.Machine

section
variable {s : State} {p t : Nat}

/-- A USP comes up at the width and rate the chart lets it choose (R61, R62); with no grace period nothing is dropped. -/
theorem doCxlLinkUp_of_usp {a : CxlTraining} {w r f : Nat} {e : Bool} (hmay : (s.at t).mayTrain p = true) (husp : s.chart.isUsp p = true)
    (hdown : s.flag (F.celLinkstatUp p) = false) (hwidth : s.chart.trainWidth p a.good.val = some (w, e))
    (hrate : s.chart.trainRate p a.rates.val a.flits.val a.cxl = some (r, f)) (hgrace : SMap.find? s.lnk.graceAt p = none)
    (hdsp : s.chart.isDsp p = false) : doCxlLinkUp p a t s = ((s.at t).raiseLink p w r f a.cxl false e).advertise p := by
  simp [doCxlLinkUp, hmay, husp, hdown, hwidth, hrate, hgrace, hdsp]

/-- A DSP that finds no rate or no width trains again from Detect. -/
theorem doCxlTrainingFailed_of_dsp (hmay : (s.at t).mayTrain p = true) (hdsp : s.chart.isDsp p = true)
    (hdown : s.flag (F.celLinkstatUp p) = false) : doCxlTrainingFailed p t s =
      ((s.at t).set (F.fnlLinkstatState p) 1).modLnk fun u => { u with resetAt := SMap.put u.resetAt p (s.at t).now } := by
  simp [doCxlTrainingFailed, hmay, hdsp, hdown]

theorem doPartnerRecoveryChange_of_up (hup : s.flag (F.celLinkstatUp p) = true) (hfnl : s.chart.isFnl p = false) (retrains : Bool) :
    doPartnerRecoveryChange p retrains t s = if retrains then (s.at t).emit (.recovery p) else (s.at t).linkDown p 0xE := by
  simp [doPartnerRecoveryChange, hup, hfnl]

/-- One ID that a local pleat holds collides (R71). -/
theorem doPbrAdv_of_collision {i : Nat} (hfnl : s.chart.isFnl p = true) (hup : s.flag (F.celLinkstatUp p) = true)
    (hpeer : s.flag (F.celLinkstatPeerModule p) = true) (hvalid : s.chart.pbrValid i = true) (hlocal : s.chart.pbrLocal i = true) :
    doPbrAdv p [i] s = (((s.modBnd fun b => { b with advs := SMap.put b.advs p [i] }).showCollisions
      (SMap.getD s.bnd.advs p [] ++ [i])).bump F.hubPbrstatCollisions 1).raise atBinding [audPilot] := by
  have hbad : ([i].eraseDups.filter fun j => s.chart.pbrValid j && s.chart.pbrLocal j) = [i] := by
    have honce : [i].eraseDups = [i] := rfl
    simp [honce, hvalid, hlocal]
  simp [doPbrAdv, hfnl, hup, hpeer, hbad]

end

end Sys2Proof.Machine

/-! Tacks and records (R79, R80). -/
namespace Sys2Proof.Machine

@[simp] theorem State.at_tack (s : State) (t pt : Nat) : (s.at t).tack pt = s.tack pt := by
  unfold State.tack
  split <;> rw [State.at_get]

/-- A tack that has drained for 1 ms with nothing outstanding under it retires. -/
theorem doTackRetire_of_drained {s : State} {pt tack t since : Nat} (hdrains : (tack, since) ∈ (s.at t).drainTimes pt)
    (hlate : since + msec 1 ≤ (s.at t).now) (hout : (s.at t).outstanding pt tack = 0) : doTackRetire pt tack t s =
      (s.at t).setTacks pt (s.tack pt) (((s.at t).drainTimes pt).filter fun e => e.1 != tack) := by
  have hany : ((s.at t).drainTimes pt).any (fun e => e.1 == tack && decide (e.2 + msec 1 ≤ (s.at t).now)) = true :=
    List.any_eq_true.mpr ⟨_, hdrains, by simp [hlate]⟩
  simp [doTackRetire, hany, hout]

/-- A record is dropped exactly when its request is the one named and has waited RSP_WAIT. -/
theorem mem_records_doResponseWaitExpired {s : State} {p id t : Nat} {r : ReqRecord} : r ∈ (doResponseWaitExpired p id t s).core.records ↔
    r ∈ s.core.records ∧ ¬(pointLead r.point = p ∧ r.id = id ∧ r.since + msec (s.get (F.celTackctlRspWait p)) ≤ (s.at t).now) := by
  simp [doResponseWaitExpired, State.modCore, or_assoc, imp_iff_not_or]

end Sys2Proof.Machine

/-! Slots, presence and PERST_L (R76, R82, R83, R85, R91). -/
namespace Sys2Proof.Machine

/-- The attention indicator of a vPPB that is not bound lights no LED. -/
theorem doSlotControlWrite_attention_of_unbound {s : State} {v i : Nat} (hpoint : s.vppbPoint v i = none) (on : Bool) :
    doSlotControlWrite v i (.attention on) s = s.modBnd fun b => { b with attnOn := setIn b.attnOn (256 * v + i) on } := by
  unfold doSlotControlWrite
  dsimp only
  rw [hpoint]

/-- Showing the undebounced presence writes no register below the cells' own (R87). -/
theorem State.showRaw_get (s : State) (q : Nat) {f : Fld} (hlow : f.addr < 0x2000000) (hlsb : f.lsb < 32) :
    (s.showRaw q).get f = s.get f := by
  refine foldl_keeps (fun u => u.get f) (fun u p => State.get_set_of_ne _ _ _ _ ?_) _ s
  refine Fld.key_ne_of_addr_ne (by simp [F.celHotplugPrsntRaw]) hlsb ?_
  simp only [F.celHotplugPrsntRaw]
  omega

/-- What is shown of a quarter's presence input when it changes, stable or not (R91). -/
def State.rawShown (s : State) (q : Nat) (seated : Bool) (t : Nat) : State :=
  ((s.at t).modBnd fun b => { b with raw := setIn b.raw q seated }).showRaw q

theorem State.rawShown_flag (s : State) (q : Nat) (seated : Bool) (t : Nat) {f : Fld} (hlow : f.addr < 0x2000000) (hlsb : f.lsb < 32) :
    (s.rawShown q seated t).flag f = s.flag f :=
  congrArg (· == 1) ((State.showRaw_get _ q hlow hlsb).trans (s.at_get t f))

/-- In service a stable presence is acted on (R83). -/
theorem doPresenceDebounced_of_stable {s : State} (hheld : s.flag F.rstPadrelHeld = false) (hready : s.ready = true) (q : Nat)
    (seated : Bool) (t : Nat) : doPresenceDebounced q seated true t s =
      ((s.rawShown q seated t).modBnd fun b => { b with quarters := setIn b.quarters q seated }).quarterChange q := by
  have hheld' : ¬(s.rawShown q seated t).flag F.rstPadrelHeld = true := by
    rw [State.rawShown_flag _ _ _ _ (by decide) (by decide), hheld]
    decide
  have hready' : (s.rawShown q seated t).ready = true := (State.rawShown_flag _ _ _ _ (by decide) (by decide)).trans hready
  exact (if_neg hheld').trans (if_pos hready')

section
variable {s u : State} {q p : Nat} {low : Bool} (hu : s.modBnd (fun b => { b with lows := setIn b.lows q low }) = u)
  (hp : s.chart.lead (4 * q) = p) (husp : s.chart.isUsp p = true)
include hu hp husp

/-- A host's PERST_L acts on a USP pleat when it changes what the pleat sees (R85). -/
theorem doPerstInChange_of_usp : doPerstInChange q low s = if s.flag (F.celHotplugPerstIn p) = u.perstLow p then u
    else if u.perstLow p then (u.set (F.celHotplugPerstIn p) 1).fullReset p 0xD
    else (u.set (F.celHotplugPerstIn p) 0).startTraining p := by
  have hruns : doPerstInChange q low s = if (s.chart.isUsp p && s.flag (F.celHotplugPerstIn p) != u.perstLow p) = true then
      (if u.perstLow p then (u.set (F.celHotplugPerstIn p) 1).fullReset p 0xD else (u.set (F.celHotplugPerstIn p) 0).startTraining p)
      else u := by
    subst hu hp
    rfl
  rw [hruns, husp]
  by_cases hsame : s.flag (F.celHotplugPerstIn p) = u.perstLow p <;> simp [hsame]

end

/-- Settles O9: each event's branch in which its condition holds. -/
theorem portEventsComplete : Obligations.PortEventsComplete := by
  unfold Obligations.PortEventsComplete
  refine ⟨fun s p a t w r f e hmay husp hdown hwidth hrate hgrace hdsp =>
      congrArg Host.Outcome.next (doCxlLinkUp_of_usp hmay husp hdown hwidth hrate hgrace hdsp),
    fun s p t hmay hdsp hdown => congrArg Host.Outcome.next (doCxlTrainingFailed_of_dsp hmay hdsp hdown),
    fun s p t hup hfnl => ⟨congrArg Host.Outcome.next (doPartnerRecoveryChange_of_up hup hfnl true),
      congrArg Host.Outcome.next (doPartnerRecoveryChange_of_up hup hfnl false)⟩,
    fun s p i hfnl hup hpeer hvalid hlocal => congrArg Host.Outcome.next (doPbrAdv_of_collision hfnl hup hpeer hvalid hlocal),
    fun s p ld tack t since hdrains hlate hout => congrArg Host.Outcome.next (doTackRetire_of_drained hdrains hlate hout),
    fun s p id t => ⟨_, rfl, fun r hr hlead hid hlate => ?dropped, fun r hr hother => ?kept, s.at_regs t, s.at_sent t⟩,
    fun s v i on hwork => ?power, fun s v i on hpoint => ?attention, fun s v i mask => ⟨_, rfl, rfl, rfl, SMap.find?_put_same ..⟩,
    fun s q seated t hheld hready => congrArg Host.Outcome.next (doPresenceDebounced_of_stable hheld hready q.val seated t),
    fun s q seated t => rfl, fun s u q low husp hu => ?perst⟩
  case dropped => exact fun hmem => (mem_records_doResponseWaitExpired.mp hmem).2 ⟨hlead, hid, hlate⟩
  case kept => exact mem_records_doResponseWaitExpired.mpr ⟨hr, fun ⟨hlead, hid, _⟩ => hother.elim (· hlead) (· hid)⟩
  case power =>
    have hidle : ¬(s.bnd.work.any fun w => w.bind && w.vcs == v.val && w.vppb == i.val) = true := by simp [hwork]
    exact congrArg Host.Outcome.next (if_neg hidle)
  case attention => exact congrArg Host.Outcome.next (doSlotControlWrite_attention_of_unbound hpoint on)
  case perst =>
    have hrun := doPerstInChange_of_usp (low := low) hu.symm rfl husp
    refine ⟨fun hin hsees => ?_, fun hin hsees => ?_, fun hsame => ?_⟩
    · exact congrArg Host.Outcome.next (hrun.trans ((if_neg (by simp [hin, hsees])).trans (if_pos hsees)))
    · exact congrArg Host.Outcome.next (hrun.trans ((if_neg (by simp [hin, hsees])).trans (if_neg (by simp [hsees]))))
    · exact congrArg Host.Outcome.next (hrun.trans (if_pos hsame))

end Sys2Proof.Machine

/-! The phases of a cold train (R290), and a preset reset that takes too long (R291). -/
namespace Sys2Proof.Machine

@[simp] theorem State.at_fnl (s : State) (t p : Nat) : (s.at t).fnl p = s.fnl p := by rw [State.fnl, State.fnl, State.at_lnk]

@[simp] theorem State.at_startRate (s : State) (t p : Nat) : (s.at t).startRate p = s.startRate p := by
  rw [State.startRate, State.startRate, State.at_chart, State.at_fnl]

/-- The widest width over the lanes found good on both sides (R61, R290). -/
def State.agreedWidth (s : State) (p : Nat) : Option (Nat × Bool) :=
  s.chart.widest p fun i => (s.fnl p).good.testBit i && (s.fnl p).peerGood.testBit i

section
variable {s : State} {p t : Nat} (hfnl : s.chart.isFnl p = true) (hstate : s.get (F.fnlLinkstatState p) = 1) (good : Nat)
include hfnl hstate

theorem doFnlTrainingPhase_detect (h : (s.fnl p).stage = 1) : doFnlTrainingPhase p good t s =
    (s.at t).setFnl p { s.fnl p with stage := 2, rate := s.startRate p } := by
  simp [doFnlTrainingPhase, hfnl, hstate, h]

theorem doFnlTrainingPhase_equalise (h : (s.fnl p).stage = 2) : doFnlTrainingPhase p good t s =
    (s.at t).setFnl p { s.fnl p with stage := 3 } := by
  simp [doFnlTrainingPhase, hfnl, hstate, h]

theorem doFnlTrainingPhase_adapt (h : (s.fnl p).stage = 3) : doFnlTrainingPhase p good t s =
    (s.at t).setFnl p { s.fnl p with stage := 4, good := good } := by
  simp [doFnlTrainingPhase, hfnl, hstate, h]

/-- What ends the fourth phase: the width agreed, or none. -/
theorem doFnlTrainingPhase_width (h : (s.fnl p).stage = 4) :
    doFnlTrainingPhase p good t s = match s.agreedWidth p with
      | some (w, high) => (s.at t).setFnl p { s.fnl p with stage := 5, width := w, high := high }
      | none =>
        if (s.fnl p).rate = 1 then (s.at t).setFnl p { s.fnl p with stage := 2, rate := 0 }
        else if s.flag (F.celHotplugPresent p) then (s.at t).retire p false
        else ((s.at t).setFnl p { s.fnl p with stage := 1 }).set (F.fnlLinkstatState p) 0 := by
  unfold doFnlTrainingPhase State.agreedWidth
  simp only [State.at_chart, State.at_get, State.at_fnl, State.at_flag, hfnl, hstate, h]
  rfl

theorem doFnlTrainingPhase_agreed (h : (s.fnl p).stage = 4) {w : Nat} {high : Bool} (hw : s.agreedWidth p = some (w, high)) :
    doFnlTrainingPhase p good t s = (s.at t).setFnl p { s.fnl p with stage := 5, width := w, high := high } := by
  rw [doFnlTrainingPhase_width hfnl hstate good h, hw]

/-- With no width at the high rate the link tries 56 Gbit/s. -/
theorem doFnlTrainingPhase_slower (h : (s.fnl p).stage = 4) (hw : s.agreedWidth p = none) (hrate : (s.fnl p).rate = 1) :
    doFnlTrainingPhase p good t s = (s.at t).setFnl p { s.fnl p with stage := 2, rate := 0 } := by
  rw [doFnlTrainingPhase_width hfnl hstate good h, hw]
  exact if_pos hrate

/-- With no width at 56 Gbit/s either it is retired while a partner is there (R295). -/
theorem doFnlTrainingPhase_failed (h : (s.fnl p).stage = 4) (hw : s.agreedWidth p = none) (hrate : (s.fnl p).rate = 0)
    (hpresent : s.flag (F.celHotplugPresent p) = true) : doFnlTrainingPhase p good t s = (s.at t).retire p false := by
  rw [doFnlTrainingPhase_width hfnl hstate good h, hw]
  dsimp only
  rw [if_neg (by omega), if_pos hpresent]

end

theorem doPresetResetTimeout_of_reset {s : State} {p t a : Nat} (hstate : s.get (F.fnlLinkstatState p) = 2)
    (hreset : SMap.find? s.lnk.resetAt p = some a) : doPresetResetTimeout p t s = if a + usec 25 ≤ (s.at t).now then
      ((s.at t).setFnl p { s.fnl p with stage := 1 }).set (F.fnlLinkstatState p) 1 else s.at t := by
  have hdue : (SMap.find? (s.at t).lnk.resetAt p).any (fun u => decide (u + usec 25 ≤ (s.at t).now)) =
      decide (a + usec 25 ≤ (s.at t).now) := by
    rw [State.at_lnk, hreset, Option.any_some]
  unfold doPresetResetTimeout
  dsimp only
  rw [hdue, State.at_get, State.at_fnl]
  exact if_congr (by rw [decide_eq_true_iff, and_iff_right hstate]) rfl rfl

end Sys2Proof.Machine

/-! Fields after several at once are set. -/
namespace Sys2Proof.Machine

theorem State.get_setAll_of_ne (s : State) {l : List (Fld × Nat)} {f : Fld} (h : ∀ e ∈ l, e.1.key ≠ f.key) :
    (s.setAll l).get f = s.get f :=
  foldl_keeps_of_mem (fun u => u.get f) (fun u e he => u.get_set_of_ne _ _ _ (h e he)) s

/-- A field set once reads what it was set to, whatever else is set after it. -/
theorem State.get_setAll_of_mem (s : State) (before after : List (Fld × Nat)) {f : Fld} {v : Nat} (h : ∀ e ∈ after, e.1.key ≠ f.key) :
    (s.setAll (before ++ (f, v) :: after)).get f = v % 2 ^ f.width := by
  rw [State.setAll, List.foldl_append, List.foldl_cons]
  exact (State.get_setAll_of_ne _ h).trans (State.get_set_same ..)

end Sys2Proof.Machine

/-! A link comes up (R61, R88, R120, R292): what its lanes, its forwarding rate and its vPPBs write. -/
namespace Sys2Proof.Machine

/-- The fields of a link that has come up. -/
def State.linkFields (s : State) (p lanes rate flit : Nat) (cxl peer : Bool) : List (Fld × Nat) :=
  [(F.celLinkstatUp p, 1), (F.celLinkstatWidthNow p, widthCode lanes),
    (F.celLinkstatDegraded p, if lanes < 2 * s.chart.cells p then 1 else 0), (F.celLinkstatRateNow p, rate),
    (F.celLinkstatFlitNow p, flit), (F.celLinkstatCxl p, if cxl then 1 else 0), (F.celLinkstatPeerModule p, if peer then 1 else 0),
    (F.fnlLinkstatState p, 3), (F.fnlLinkstatFlushed p, 0), (F.fnlLinkstatGraceOn p, 0), (F.fnlWatchcntUncor p, 0),
    (F.fnlWatchcntLowfom p, 0)]

/-- The registers of the lanes and of the blocks' forwarding rates lie between those of the FNL link layers and of the cells. -/
abbrev Fld.besideLanes (f : Fld) : Prop := f.lsb < 32 ∧ (f.addr < 0x700000 ∨ 0x2000000 ≤ f.addr)

section
variable {s : State} {f : Fld} (hf : f.besideLanes)
include hf

/-- A write to a word of the lanes or of the blocks' forwarding rates. -/
theorem State.get_setAll_of_lanes {l : List (Fld × Nat)} (h : ∀ e ∈ l, e.1.lsb < 32 ∧ 0x700000 ≤ e.1.addr ∧ e.1.addr < 0x2000000) :
    (s.setAll l).get f = s.get f := by
  obtain ⟨hlsb, haddr⟩ := hf
  refine s.get_setAll_of_ne fun e he => ?_
  obtain ⟨hlsb', hlo, hhi⟩ := h e he
  exact Fld.key_ne_of_addr_ne hlsb' hlsb (by omega)

theorem State.showFom_get {l : Nat} (hl : l < 65536) : (s.showFom l).get f = s.get f := by
  refine State.get_setAll_of_lanes hf ?_
  simp [F.sxtFom, F.sxtFomHo, F.sxtFomVo, F.sxtFomWorstEye, F.sxtEdgeLeft, F.sxtEdgeRight, F.sxtEdgeUp, F.sxtEdgeDown]
  omega

theorem State.activateLanes_get {ls : List Nat} (hls : ∀ l ∈ ls, l < 65536) (pam4 : Bool) :
    (s.activateLanes ls pam4).get f = s.get f := by
  refine foldl_keeps (fun u => u.get f) (fun u i => ?_) _ s
  have hl : ls.getD i 0 < 65536 := by
    rw [List.getD_eq_getElem?_getD]
    cases h : ls[i]? with
    | none => decide
    | some l => exact hls l (List.mem_of_getElem? h)
  generalize ls.getD i 0 = l at hl
  rw [State.showFom_get hf hl, State.get_setAll_of_lanes hf]
  simp [F.lanModeActive, F.lanModePam4, F.lanModeLinkLane]
  omega

theorem State.setForward_get {p : Nat} (hcells : s.chart.cells p ≤ 8) : (s.setForward p).get f = s.get f := by
  refine foldl_keeps_of_mem (fun u => u.get f) (fun u c hc => ?_) s
  have hc1032 : c < 1032 := by
    obtain ⟨i, hi, rfl⟩ := List.mem_map.mp hc
    have hlead : s.chart.lead p < 1024 := Nat.mod_lt _ (by decide)
    have hcell := List.mem_range.mp hi
    omega
  refine State.get_setAll_of_lanes hf ?_
  simp [F.blkFwdrateRate, F.blkFwdrateCtOk]
  omega

end

theorem Chart.trainedLanes_lt {c : Chart} {p lanes : Nat} (hp : p < 1024) (hlanes : lanes ≤ 2 * c.cells p) (hcells : c.cells p ≤ 8)
    (high : Bool) : ∀ l ∈ c.trainedLanes p lanes high, l < 65536 := by
  intro l hl
  obtain ⟨i, hi, rfl⟩ := List.mem_map.mp hl
  have hi16 := List.mem_range.mp hi
  unfold Chart.linkLane
  split <;> omega

/-- A pleat that speaks FNL is bound to no vPPB (R67). -/
theorem State.dllEvent_of_fnl {s : State} {p : Nat} (h : s.chart.isFnl p = true) : s.dllEvent p = s := by
  have hdsp : s.chart.isDsp p = false := by
    simp only [Chart.isFnl, Chart.isDsp, beq_iff_eq, beq_eq_false_iff_ne] at h ⊢
    omega
  simp [State.dllEvent, State.boundVppbs, hdsp]

/-- What the lanes of a link leave: what has been sent, the chart, and the FNL link layers. -/
def State.fabric (s : State) : List Emit × Chart × SMap FnlLink := (s.sent, s.chart, s.lnk.fnl)

theorem State.fabric_of_units {s u : State} (h : u.units = s.units) : u.fabric = s.fabric :=
  congrArg (a₁ := u.units) (a₂ := s.units) State.fabric h

@[simp] theorem State.setAll_fabric (s : State) (l : List (Fld × Nat)) : (s.setAll l).fabric = s.fabric :=
  State.fabric_of_units (s.setAll_units l)

theorem State.modCore_fabric (s : State) (act : CoreUnit → CoreUnit) : (s.modCore act).fabric = s.fabric := rfl

theorem State.modLnk_fabric (s : State) (act : LinkUnit → LinkUnit) (h : (act s.lnk).fnl = s.lnk.fnl) : (s.modLnk act).fabric = s.fabric := by
  simp [State.fabric, State.modLnk, h]

theorem State.activateLanes_fabric (s : State) (ls : List Nat) (pam4 : Bool) : (s.activateLanes ls pam4).fabric = s.fabric :=
  foldl_keeps State.fabric (fun _ _ => (State.setAll_fabric ..).trans (State.setAll_fabric ..)) _ s

theorem State.setForward_fabric (s : State) (p : Nat) : (s.setForward p).fabric = s.fabric :=
  foldl_keeps State.fabric (fun _ _ => State.setAll_fabric ..) _ s

/-- The rise of an FNL link writes its fields, and beside the lanes no other; it sends nothing and leaves the chart and the link layers. -/
theorem State.raiseLink_of_fnl {s : State} {p lanes : Nat} (hp : p < 1024) (hfnl : s.chart.isFnl p = true)
    (hlanes : lanes ≤ 2 * s.chart.cells p) (hcells : s.chart.cells p ≤ 8) (rate flit : Nat) (cxl peer high : Bool) :
    (s.raiseLink p lanes rate flit cxl peer high).fabric = s.fabric ∧ ∀ f : Fld, f.besideLanes →
      (s.raiseLink p lanes rate flit cxl peer high).get f = (s.setAll (s.linkFields p lanes rate flit cxl peer)).get f := by
  unfold State.raiseLink
  extract_lets pam4 s1 s2 s3
  have hs1 : s1.fabric = s.fabric := s.setAll_fabric _
  have hs2 : s2.fabric = s.fabric := (State.modLnk_fabric _ _ rfl).trans ((State.modCore_fabric ..).trans hs1)
  have hs3 : s3.fabric = s.fabric ∧ s3.regs = s1.regs := by
    dsimp only [s3]
    split <;> exact ⟨hs2, rfl⟩
  obtain ⟨hfabric, hregs⟩ := hs3
  have hlit : ((s3.activateLanes (s.chart.trainedLanes p lanes high) pam4).setForward p).fabric = s.fabric :=
    (State.setForward_fabric ..).trans ((State.activateLanes_fabric ..).trans hfabric)
  have hchart {u : State} (h : u.fabric = s.fabric) : u.chart = s.chart := congrArg (·.2.1) h
  rw [State.dllEvent_of_fnl (by rw [hchart hlit]; exact hfnl)]
  refine ⟨hlit, fun f hf => ?_⟩
  rw [State.setForward_get hf (by rw [hchart ((State.activateLanes_fabric ..).trans hfabric)]; exact hcells),
    State.activateLanes_get hf (Chart.trainedLanes_lt hp hlanes hcells high)]
  exact State.get_of_regs hregs f

end Sys2Proof.Machine

/-! An FNL link comes up fresh (R292). -/
namespace Sys2Proof.Machine

@[simp] theorem State.fnl_setFnl (s : State) (p : Nat) (l : FnlLink) : (s.setFnl p l).fnl p = l := by
  simp [State.fnl, State.setFnl, State.modLnk, SMap.getD]

@[simp] theorem State.setFnl_get (s : State) (p : Nat) (l : FnlLink) (f : Fld) : (s.setFnl p l).get f = s.get f := rfl
@[simp] theorem State.setFnl_sent (s : State) (p : Nat) (l : FnlLink) : (s.setFnl p l).sent = s.sent := rfl
@[simp] theorem State.setFnl_chart (s : State) (p : Nat) (l : FnlLink) : (s.setFnl p l).chart = s.chart := rfl

theorem State.of_fabric {s : State} {l : List Emit} {c : Chart} {m : SMap FnlLink} (h : s.fabric = (l, c, m)) :
    s.sent = l ∧ s.chart = c ∧ s.lnk.fnl = m := by
  simpa [State.fabric] using h

/-- The link layer that starts afresh, with the credits it gives. -/
def State.freshLayer (s : State) (p : Nat) : FnlLink := { freshFnl (s.fnl p) with given := s.advertised p }

/-- The fields of a link layer that starts afresh. -/
def freshFields (p : Nat) : List (Fld × Nat) :=
  [(F.fnlSeqTxNext p, 0), (F.fnlSeqAcked p, 0xFFF), (F.fnlSeqRxNext p, 0), (F.fnlSeqOutstanding p, 0), (F.fnlLinkstatResumed p, 0)]

/-- A link with nothing to resume: its link layer starts afresh, and its lanes carry it at the agreed width and rate. -/
def State.risenLink (s : State) (p : Nat) : State :=
  ((s.freshUp p).raiseLink p (s.fnl p).width (s.fnl p).rate 0 false (s.fnl p).peerZalhel (s.fnl p).high).set (F.fnlSeqDepth p)
    (s.chart.cells p)

/-- Nothing says any more that its partner is retiring it. -/
def State.freshLink (s : State) (p : Nat) : State := (s.risenLink p).setFnl p { (s.risenLink p).fnl p with retiring := false }

/-- The fields of a link that has come up fresh, in the order of their writes. -/
def State.risenFields (s : State) (p : Nat) : List (Fld × Nat) :=
  freshFields p ++ s.linkFields p (s.fnl p).width (s.fnl p).rate 0 false (s.fnl p).peerZalhel

theorem freshFields_distinct (p : Nat) : (freshFields p).Pairwise fun a b => b.1.key ≠ a.1.key := by
  simp [freshFields, Fld.key, F.fnlSeqTxNext, F.fnlSeqAcked, F.fnlSeqRxNext, F.fnlSeqOutstanding, F.fnlLinkstatResumed]
  omega

/-- They lie beside the lanes, and no other field of a link that comes up is one of them. -/
theorem State.freshFields_apart (s : State) {p : Nat} (hp : p < 1024) {e : Fld × Nat} (he : e ∈ freshFields p) :
    e.1.besideLanes ∧ (F.fnlSeqDepth p).key ≠ e.1.key ∧
      ∀ e' ∈ s.linkFields p (s.fnl p).width (s.fnl p).rate 0 false (s.fnl p).peerZalhel, e'.1.key ≠ e.1.key := by
  simp only [freshFields, List.mem_cons, List.not_mem_nil, or_false] at he
  rcases he with rfl | rfl | rfl | rfl | rfl
  all_goals
    simp [State.linkFields, Fld.besideLanes, Fld.key, F.fnlSeqDepth, F.celLinkstatUp, F.celLinkstatWidthNow, F.celLinkstatDegraded,
      F.celLinkstatRateNow, F.celLinkstatFlitNow, F.celLinkstatCxl, F.celLinkstatPeerModule, F.fnlLinkstatState, F.fnlLinkstatFlushed,
      F.fnlLinkstatGraceOn, F.fnlWatchcntUncor, F.fnlWatchcntLowfom, F.fnlSeqTxNext, F.fnlSeqAcked, F.fnlSeqRxNext, F.fnlSeqOutstanding,
      F.fnlLinkstatResumed]
    omega

section
variable {s : State} {p : Nat} (hgrace : s.flag (F.fnlLinkstatGraceOn p) = false)
include hgrace

/-- Outside a grace period there is nothing to flush. -/
theorem State.freshUp_of_graceless : s.freshUp p = (s.setFnl p (s.freshLayer p)).setAll (freshFields p) := by
  simp [State.freshUp, hgrace, freshFields, State.freshLayer]

theorem State.freshUp_fabric : (s.freshUp p).fabric = (s.sent, s.chart, SMap.put s.lnk.fnl p (s.freshLayer p)) := by
  rw [State.freshUp_of_graceless hgrace, State.setAll_fabric]
  rfl

/-- The rise of a fresh link in full: none but a link in its grace period resumes. -/
theorem doFnlLinkUp_fresh {r : State} {t : Nat} (hat : r.at t = s) (hfnl : s.chart.isFnl p = true) (htrain : s.mayTrain p = true)
    (hpeer : (s.fnl p).peerPhase = 4) (hstate : s.get (F.fnlLinkstatState p) = 1) (hstage : (s.fnl p).stage = 5) :
    doFnlLinkUp p t r =
      if (s.fnl p).peerZalhel then (s.freshLink p).emit (.pbrAdv p (s.freshLink p).localIds) else s.freshLink p := by
  have hresumes : s.resumes p = false := by simp [State.resumes, hgrace]
  unfold doFnlLinkUp State.freshLink State.risenLink
  dsimp only
  rw [hat, if_pos (by simp [hfnl, htrain, hpeer, hstate, hstage])]
  simp only [hstate, hresumes, Bool.false_eq_true, reduceIte, OfNat.one_ne_ofNat]

section
variable (hp : p < 1024) (hfnl : s.chart.isFnl p = true) (hwidth : (s.fnl p).width ≤ 2 * s.chart.cells p) (hcells : s.chart.cells p ≤ 8)
include hp hfnl hwidth hcells

/-- It sends nothing and leaves the chart and the other link layers; beside the lanes it writes the depth of the sequence numbers, the
fields of a link that has come up and those of a fresh layer. -/
theorem State.risenLink_writes : (s.risenLink p).fabric = (s.sent, s.chart, SMap.put s.lnk.fnl p (s.freshLayer p)) ∧
    ∀ f : Fld, f.besideLanes → (F.fnlSeqDepth p).key ≠ f.key →
      (s.risenLink p).get f = ((s.setFnl p (s.freshLayer p)).setAll (s.risenFields p)).get f := by
  have hfresh := State.freshUp_fabric hgrace
  obtain ⟨-, hchart, -⟩ := State.of_fabric hfresh
  rw [← hchart] at hfnl hwidth hcells
  obtain ⟨hfabric, hget⟩ := State.raiseLink_of_fnl hp hfnl hwidth hcells (s.fnl p).rate 0 false (s.fnl p).peerZalhel (s.fnl p).high
  refine ⟨(State.fabric_of_units (State.set_units ..)).trans (hfabric.trans hfresh), fun f hf hdepth => ?_⟩
  rw [State.risenLink, State.get_set_of_ne _ _ _ _ hdepth, hget f hf, State.linkFields, hchart, State.freshUp_of_graceless hgrace,
    State.setAll, State.setAll, State.setAll, ← List.foldl_append]
  rfl

theorem State.freshLink_units : (s.freshLink p).sent = s.sent ∧ (s.freshLink p).chart = s.chart ∧
    (s.freshLink p).fnl p = { s.freshLayer p with retiring := false } := by
  obtain ⟨hfabric, -⟩ := State.risenLink_writes hgrace hp hfnl hwidth hcells
  obtain ⟨hsent, hchart, hlayers⟩ := State.of_fabric hfabric
  have hlayer : (s.risenLink p).fnl p = s.freshLayer p := by
    rw [State.fnl, hlayers, SMap.getD, SMap.find?_put_same, Option.getD_some]
  rw [State.freshLink, State.setFnl_sent, State.setFnl_chart, State.fnl_setFnl, hlayer]
  exact ⟨hsent, hchart, rfl⟩

/-- A field of a link that has come up reads what its last write gives. -/
theorem State.freshLink_get {f : Fld} {v : Nat} {before after : List (Fld × Nat)} (hfields : s.risenFields p = before ++ (f, v) :: after)
    (hf : f.besideLanes) (hdepth : (F.fnlSeqDepth p).key ≠ f.key) (hafter : ∀ e ∈ after, e.1.key ≠ f.key) :
    (s.freshLink p).get f = v % 2 ^ f.width := by
  obtain ⟨-, hget⟩ := State.risenLink_writes hgrace hp hfnl hwidth hcells
  rw [State.freshLink, State.setFnl_get, hget f hf hdepth, hfields, State.get_setAll_of_mem _ _ _ hafter]

/-- The link is up and in state UP. -/
theorem State.freshLink_shows : (s.freshLink p).flag (F.celLinkstatUp p) = true ∧ (s.freshLink p).get (F.fnlLinkstatState p) = 3 := by
  refine ⟨beq_iff_eq.mpr (State.freshLink_get hgrace hp hfnl hwidth hcells (before := freshFields p) (v := 1) rfl ?_ ?_ ?_),
    State.freshLink_get hgrace hp hfnl hwidth hcells
      (before := freshFields p ++ (s.linkFields p (s.fnl p).width (s.fnl p).rate 0 false (s.fnl p).peerZalhel).take 7) (v := 3) rfl ?_ ?_ ?_⟩
  all_goals
    simp [Fld.besideLanes, Fld.key, F.fnlSeqDepth, F.celLinkstatUp, F.celLinkstatWidthNow, F.celLinkstatDegraded, F.celLinkstatRateNow,
      F.celLinkstatFlitNow, F.celLinkstatCxl, F.celLinkstatPeerModule, F.fnlLinkstatState, F.fnlLinkstatFlushed, F.fnlLinkstatGraceOn,
      F.fnlWatchcntUncor, F.fnlWatchcntLowfom]
    omega

/-- A field of the layer that starts afresh stands at its first value. -/
theorem State.freshLink_starts {f : Fld} {v : Nat} (h : (f, v) ∈ freshFields p) : (s.freshLink p).get f = v % 2 ^ f.width := by
  obtain ⟨hf, hdepth, hlink⟩ := s.freshFields_apart hp h
  obtain ⟨before, after, hsplit⟩ := List.append_of_mem h
  have hdistinct := freshFields_distinct p
  rw [hsplit, List.pairwise_append, List.pairwise_cons] at hdistinct
  obtain ⟨-, ⟨hafter, -⟩, -⟩ := hdistinct
  refine State.freshLink_get hgrace hp hfnl hwidth hcells (by rw [State.risenFields, hsplit, List.append_assoc, List.cons_append]) hf hdepth
    fun e he => ?_
  exact (List.mem_append.mp he).elim (hafter e) (hlink e)

/-- What the registers of a link that has come up fresh show, whatever is sent then. -/
theorem State.freshLink_registers {u : State} (hregs : u.regs = (s.freshLink p).regs) :
    u.flag (F.celLinkstatUp p) = true ∧ u.get (F.fnlLinkstatState p) = 3 ∧ u.get (F.fnlSeqTxNext p) = 0 ∧ u.get (F.fnlSeqRxNext p) = 0 ∧
      u.get (F.fnlSeqAcked p) = 0xFFF ∧ u.flag (F.fnlLinkstatResumed p) = false := by
  have hstarts {f : Fld} {v : Nat} (h : (f, v) ∈ freshFields p) := State.freshLink_starts hgrace hp hfnl hwidth hcells h
  simp only [State.flag, State.get_of_regs hregs]
  obtain ⟨hup, hstate⟩ := State.freshLink_shows hgrace hp hfnl hwidth hcells
  have htx := hstarts (f := F.fnlSeqTxNext p) (v := 0) (by simp [freshFields])
  have hrx := hstarts (f := F.fnlSeqRxNext p) (v := 0) (by simp [freshFields])
  have hacked := hstarts (f := F.fnlSeqAcked p) (v := 0xFFF) (by simp [freshFields])
  have hresumed := hstarts (f := F.fnlLinkstatResumed p) (v := 0) (by simp [freshFields])
  exact ⟨hup, hstate, htx, hrx, hacked, by rw [hresumed]; rfl⟩

end

end

end Sys2Proof.Machine

/-! O31. -/
namespace Sys2Proof.Machine

/-- Settles O31: each phase of a cold train ends in the next; only a link in its grace period resumes, so any other comes up fresh; a
preset reset becomes a cold train 25 µs after its start. -/
theorem trainingCompletes : Obligations.TrainingCompletes := by
  unfold Obligations.TrainingCompletes
  refine ⟨fun s r p good t hr hfnl hstate => ?phases, fun s p t hfnl htrain hpeer hstate hstage hgrace hwidth hcells _ => ?fresh,
    fun s p t a hstate hreset => ?reset⟩
  case phases =>
    subst hr
    refine ⟨fun h => ?detect, fun h => ?equalise, fun h => ?adapt, fun h => ⟨fun w high hw => ?agreed, fun hw => ⟨fun hrate => ?slower,
      fun hrate hpresent => ?failed⟩⟩⟩
    case detect => exact congrArg Host.Outcome.next (doFnlTrainingPhase_detect hfnl hstate good.val h)
    case equalise => exact congrArg Host.Outcome.next (doFnlTrainingPhase_equalise hfnl hstate good.val h)
    case adapt => exact congrArg Host.Outcome.next (doFnlTrainingPhase_adapt hfnl hstate good.val h)
    case agreed => exact congrArg Host.Outcome.next (doFnlTrainingPhase_agreed hfnl hstate good.val h hw)
    case slower => exact congrArg Host.Outcome.next (doFnlTrainingPhase_slower hfnl hstate good.val h hw hrate)
    case failed => exact congrArg Host.Outcome.next (doFnlTrainingPhase_failed hfnl hstate good.val h hw hrate hpresent)
  case fresh =>
    obtain ⟨r, hr⟩ : ∃ r, s.at t = r := ⟨_, rfl⟩
    rw [← s.at_chart t, hr] at hfnl hwidth hcells
    rw [← s.at_fnl t, hr] at hpeer hstage hwidth
    rw [hr] at htrain
    rw [← s.at_get t, hr] at hstate
    rw [← s.at_flag t, hr] at hgrace
    obtain ⟨hsent, hchart, hlayer⟩ := State.freshLink_units hgrace p.isLt hfnl hwidth hcells
    have hshows {u : State} (h : u.regs = (r.freshLink p).regs) := State.freshLink_registers hgrace p.isLt hfnl hwidth hcells h
    have hids : (r.freshLink p).localIds = s.localIds := by
      rw [State.localIds, State.localIds, hchart, ← hr, State.at_chart]
    have hbefore : r.sent = s.sent := by rw [← hr, State.at_sent]
    have hcredits : ((r.freshLink p).fnl p).credits = (r.fnl p).peerCredits := by rw [hlayer]; rfl
    have hbuffer : ((r.freshLink p).fnl p).buffer = [] := by rw [hlayer]; rfl
    have hrun := doFnlLinkUp_fresh hgrace hr hfnl htrain hpeer hstate hstage
    rw [← s.at_fnl t, hr]
    cases hpartner : (r.fnl p).peerZalhel with
    | true =>
      obtain ⟨hup, hlinkstate, htx, hrx, hacked, hresumed⟩ := hshows (u := (r.freshLink p).emit (.pbrAdv p (r.freshLink p).localIds)) rfl
      exact ⟨_, congrArg Host.Outcome.next (hrun.trans (if_pos hpartner)), hup, hlinkstate, htx, hrx, hacked, hresumed, hcredits, hbuffer,
        fun _ => by rw [State.emit, hids, hsent, hbefore], nofun⟩
    | false =>
      obtain ⟨hup, hlinkstate, htx, hrx, hacked, hresumed⟩ := hshows (u := r.freshLink p) rfl
      exact ⟨_, congrArg Host.Outcome.next (hrun.trans (if_neg (by simp [hpartner]))), hup, hlinkstate, htx, hrx, hacked, hresumed,
        hcredits, hbuffer, nofun, fun _ => hsent.trans hbefore⟩
  case reset =>
    have hrun := doPresetResetTimeout_of_reset (t := t) hstate hreset
    exact ⟨fun h => congrArg Host.Outcome.next (hrun.trans (if_pos h)),
      fun h => congrArg Host.Outcome.next (hrun.trans (if_neg (Nat.not_le.mpr h)))⟩

end Sys2Proof.Machine

/-! A reset that reaches the management complex (R398). -/
namespace Sys2Proof.Machine

/-- Two states of the same units have them one by one. -/
theorem State.eq_of_units {u v : State} (h : u.units = v.units) : u.nv = v.nv ∧ u.pending = v.pending ∧ u.now = v.now ∧
    u.resetAt = v.resetAt ∧ u.sessions = v.sessions ∧ u.lvc = v.lvc ∧ u.home = v.home ∧ u.core = v.core ∧ u.lod = v.lod :=
  have part {α : Type} (f : State → α) : f u.units = f v.units := congrArg f h
  ⟨part State.nv, part State.pending, part State.now, part State.resetAt, part State.sessions, part State.lvc, part State.home,
    part State.core, part State.lod⟩

theorem State.get_of_find?_none {s : State} {f : Fld} (h : SMap.find? s.regs f.key = none) : s.get f = f.reset := by
  rw [State.get, h]
  rfl

/-- The state of a reset but for its cause: the registers no reset clears, the commands waiting, the time and the kept store stay. -/
theorem State.moduleReset_eq (s : State) (source : Nat) (whole : Bool) : ∃ v : State,
    s.moduleReset source whole =
      (v.setAll [(F.pwrLdoMode, 0), (F.pwrLdoOverstay, 0), (F.rstCauseSource, source)]).bump F.rstCauseCount 1 ∧
    v.regs = s.regs.filter (fun e => persists e.1 || powerKey whole e.1 || keptPins e.1) ∧
    v.nv = s.nv ∧ v.pending = s.pending ∧ v.now = s.now ∧ v.resetAt = s.now ∧ v.sessions = [] ∧ v.lvc = State.reset.lvc ∧
    v.home = State.reset.home ∧ v.core = State.reset.core ∧ v.lod = State.reset.lod :=
  ⟨_, rfl, rfl, rfl, rfl, rfl, rfl, rfl, rfl, rfl, rfl, rfl⟩

/-- READY is kept by no reset: it is neither in the Almanac nor in a fuse, the power stage or a pin. -/
theorem rstStatReady_unkept (whole : Bool) :
    (persists F.rstStatReady.key || powerKey whole F.rstStatReady.key || keptPins F.rstStatReady.key) = false := by
  cases whole <;> decide

/-- What a reset empties and what it leaves. -/
theorem State.moduleReset_units (s : State) (source : Nat) (whole : Bool) {u : State} (hu : s.moduleReset source whole = u) :
    u.nv = s.nv ∧ u.pending = s.pending ∧ u.now = s.now ∧ u.resetAt = s.now ∧ u.sessions = [] ∧ u.lvc.slips = [] ∧ u.lvc.queue = [] ∧
      u.home.dir = [] ∧ u.core.bolt = [] ∧ u.core.staged = [] ∧ u.lod.objects = [] := by
  obtain ⟨v, hrun, -, hnv, hpending, hnow, hat, hsessions, hlvc, hhome, hcore, hlod⟩ := s.moduleReset_eq source whole
  have hunits : u.units = v.units := by rw [← hu, hrun, State.bump_units, State.setAll_units]
  obtain ⟨hnv', hpending', hnow', hat', hsessions', hlvc', hhome', hcore', hlod'⟩ := State.eq_of_units hunits
  rw [hlvc', hhome', hcore', hlod', hlvc, hhome, hcore, hlod]
  exact ⟨hnv'.trans hnv, hpending'.trans hpending, hnow'.trans hnow, hat'.trans hat, hsessions'.trans hsessions, rfl, rfl, rfl, rfl, rfl, rfl⟩

/-- The cause is recorded, READY falls, and the always-on domain is in low-power mode. -/
theorem State.moduleReset_shows (s : State) {source : Nat} (hsource : source < 8) (whole : Bool) :
    (s.moduleReset source whole).get F.rstCauseSource = source ∧ (s.moduleReset source whole).get F.rstStatReady = 0 ∧
      (s.moduleReset source whole).get F.pwrLdoMode = 0 := by
  obtain ⟨v, hrun, hregs, -⟩ := s.moduleReset_eq source whole
  rw [hrun]
  refine ⟨?source, ?ready, ?ldo⟩
  case source =>
    rw [State.get_bump_of_ne _ _ (by decide)]
    exact (v.get_setAll_of_mem [(F.pwrLdoMode, 0), (F.pwrLdoOverstay, 0)] [] (by simp)).trans
      (Nat.mod_eq_of_lt (hsource.trans (by decide)))
  case ready =>
    rw [State.get_bump_of_ne _ _ (by decide), State.get_setAll_of_ne _ (by simp; decide)]
    exact State.get_of_find?_none (by rw [hregs]; exact SMap.find?_filter_of_false _ fun _ => rstStatReady_unkept whole)
  case ldo =>
    rw [State.get_bump_of_ne _ _ (by decide)]
    exact v.get_setAll_of_mem [] [(F.pwrLdoOverstay, 0), (F.rstCauseSource, source)] (by simp; decide)

end Sys2Proof.Machine

/-! What brings a reset (R398 to R400, R441). -/
namespace Sys2Proof.Machine

@[simp] theorem State.at_unpowered (s : State) (t : Nat) : (s.at t).unpowered = s.unpowered := congrArg (· == 0) (s.at_get t _)

@[simp] theorem State.at_feedIn (s : State) (t f : Nat) (l : List Nat) : (s.at t).feedIn f l = s.feedIn f l := by
  rw [State.feedIn, State.feedIn, State.feed, State.feed, State.at_get]

theorem doPowerOnReset_of_unpowered {s : State} (t : Nat) (hpower : s.unpowered = true) (hshed : s.pwr.shedPhase = 0)
    (hpending : s.flag F.almStatPending = false) (hfeed : s.feedIn 0 [fsOn, fsLimit] = true) :
    doPowerOnReset t s = ((s.at t).moduleReset 1 true).startUp := by
  unfold doPowerOnReset
  exact if_pos (by simp [hpower, hshed, hpending, hfeed])

theorem doFeedReturnReset_of_unpowered {s : State} (t : Nat) (hpower : s.unpowered = true) (hshed : s.pwr.shedPhase = 4)
    (hfeed : s.feedIn 0 [fsOn, fsLimit] = true) : doFeedReturnReset t s = (((s.at t).moduleReset 2 true).startUp).notify atPower := by
  unfold doFeedReturnReset
  exact if_pos (by simp [hpower, hshed, hfeed])

/-- A module that has its power sees neither. -/
theorem doPowerOnReset_of_powered {s : State} (t : Nat) (hpower : s.unpowered = false) : doPowerOnReset t s = s.at t := by
  unfold doPowerOnReset
  exact if_neg (by simp [hpower])

theorem doFeedReturnReset_of_powered {s : State} (t : Nat) (hpower : s.unpowered = false) : doFeedReturnReset t s = s.at t := by
  unfold doFeedReturnReset
  exact if_neg (by simp [hpower])

/-- A reset that spares the power stage comes at once while nothing is being saved. -/
theorem State.softReset_of_idle {s : State} (h : s.pwr.saveStart = none) (source : Nat) :
    s.softReset source = (s.moduleReset source false).startUp := if_neg (by simp [h])

/-- During a save it waits. -/
theorem State.softReset_of_saving {s : State} (h : s.pwr.saveStart.isSome = true) (hlater : s.pwr.laterReset = 0) (source : Nat) :
    s.softReset source = s.modPwr fun u => { u with laterReset := source } := by
  refine (if_pos h).trans ?_
  simp [State.modPwr, hlater]

/-- A short pulse of RESET_L is none. -/
theorem doResetL_of_short {s : State} {ns : Nat} (t : Nat) (h : ns < 2000) : doResetL ns t s = s.at t := if_pos (Or.inl h)

theorem doResetL_of_powered {s : State} {ns : Nat} (t : Nat) (h : 2000 ≤ ns) (hpower : s.unpowered = false) :
    doResetL ns t s = (s.at t).softReset 4 := by
  unfold doResetL
  exact if_neg (by simp [hpower, h])

theorem doWatchdogExpiry_of_enabled {s : State} (t : Nat) (hen : s.flag F.rstWdogEn = true) (hphase : 3 ≤ s.get F.rstStatPhase) :
    doWatchdogExpiry t s =
      if s.pwr.kicked + msec (100 * s.get F.rstWdogTimeout) ≤ (s.at t).now then (s.at t).softReset 5 else s.at t := by
  unfold doWatchdogExpiry
  dsimp only
  rw [State.at_flag, State.at_get, State.at_get, State.at_pwr]
  exact if_congr (by rw [and_iff_right hen, and_iff_right hphase]) rfl rfl

/-- A pleat's reset acts on its lead cell. -/
theorem doPortReset_of_pleat {s : State} {p : Nat} (t : Nat) (hlead : s.chart.isLead p = true) (hoff : s.chart.isOff p = false) :
    doPortReset p t s = (s.at t).fullReset p 0xD := by
  unfold doPortReset
  exact if_pos (by simp [hlead, hoff])

end Sys2Proof.Machine

/-! Resets of blocks and regions begin (R401, R402, R438). -/
namespace Sys2Proof.Machine

section
variable {s : State} {src : Sess} (hidle : s.bgBusy (sessNum src) = false) (p : Principal) (opcode target : Nat) {act : State → State × Nat}
include hidle

/-- A reset that is accepted runs as a background command. -/
theorem State.bgReset_of_ok (hact : (act s).2 = stOk) :
    s.bgReset src p opcode target act = s.startBg src p opcode target fun u => (act u).1 :=
  (if_neg (by simp [hidle])).trans (if_neg (by simp [hact]))

theorem State.bgReset_of_denied (hact : (act s).2 = stDenied) :
    s.bgReset src p opcode target act = s.respond src (cciOf stDenied) stDenied 0 [] := by
  refine (if_neg (by simp [hidle])).trans ((if_pos (by rw [hact]; decide)).trans ?_)
  rw [hact]

end

/-- A register write that is served answers with its effect's status. -/
theorem State.regCommandAt_eq {s : State} {src : Sess} {p : Principal} (hserves : s.serves src p) {a : Nat} (hreach : s.reach a = true)
    {rights : Principal → Bool} (hr : rights p = true) {act : Principal → State → State × Nat} {u : State} {st : Nat}
    (h : act p (s.touch src) = (u, st)) : s.regCommandAt src a rights act = u.respond src (cciOf st) st 0 [] := by
  rw [State.regCommandAt_served hserves hreach hr, h]

/-- Whether a register write came in through a pleat of a block. -/
theorem inbandPleat_any_iff (s : State) (src : Sess) (n : Nat) :
    ((s.inbandPleat src).any fun p => p / 8 == n) = true ↔ ∃ p, s.inbandPleat src = some p ∧ p / 8 = n := by
  rw [Option.any_eq_true]
  simp only [beq_iff_eq]

section
variable {s : State} {src : Sess} {n : Nat}

/-- A block's reset is refused to one who would lose its own way in. -/
theorem resetBlock_of_own {p : Nat} (hp : s.inbandPleat src = some p) (hblock : p / 8 = n) : resetBlock src n s = (s, stDenied) :=
  if_pos ((inbandPleat_any_iff s src n).mpr ⟨p, hp, hblock⟩)

section
variable (hother : ∀ p : Nat, s.inbandPleat src = some p → p / 8 ≠ n)
include hother

theorem resetBlock_of_idle (hbusy : s.flag (F.blkSwresetBusy n) = false) : resetBlock src n s = (startBlockReset n s, stOk) := by
  have hany : ¬((s.inbandPleat src).any fun p => p / 8 == n) = true := fun h =>
    have ⟨p, hp, hblock⟩ := (inbandPleat_any_iff s src n).mp h
    hother p hp hblock
  exact (if_neg hany).trans (if_neg (by simp [hbusy]))

theorem resetBlock_of_busy (hbusy : s.flag (F.blkSwresetBusy n) = true) : resetBlock src n s = (s, stOk) := by
  have hany : ¬((s.inbandPleat src).any fun p => p / 8 == n) = true := fun h =>
    have ⟨p, hp, hblock⟩ := (inbandPleat_any_iff s src n).mp h
    hother p hp hblock
  exact (if_neg hany).trans (if_pos hbusy)

end

end

/-- A region that homes a slot is not reset. -/
theorem resetRegion_of_homed {s : State} {g : Nat} (h : ∃ v : Fin 64, s.slotSlice v.val / 9 = g) : (resetRegion g s).2 = stDenied := by
  obtain ⟨v, hv⟩ := h
  have hany : ((List.range 64).any fun v => s.slotSlice v / 9 == g) = true :=
    List.any_eq_true.mpr ⟨v.val, List.mem_range.mpr v.isLt, beq_iff_eq.mpr hv⟩
  rw [resetRegion, if_pos hany]

theorem resetRegion_of_free {s : State} {g : Nat} (h : ∀ v : Fin 64, s.slotSlice v.val / 9 ≠ g) (hpower : s.regionPowered g = true) :
    (resetRegion g s).2 = stOk := by
  have hany : ¬((List.range 64).any fun v => s.slotSlice v / 9 == g) = true := fun hv =>
    have ⟨v, hlt, hhome⟩ := List.any_eq_true.mp hv
    h ⟨v, List.mem_range.mp hlt⟩ (beq_iff_eq.mp hhome)
  rw [resetRegion, if_neg hany, if_neg (by simp [hpower])]
  split <;> rfl

end Sys2Proof.Machine

/-! Resets of blocks and regions end (R401, R402). -/
namespace Sys2Proof.Machine

/-- What the end of a reset leaves of a state: bolt memory and staging, the kept store, the background commands and the power stage. -/
def State.calm (s : State) : CoreUnit × NonVolatile × List BgRec × PowerUnit := (s.core, s.nv, s.bgs, s.pwr)

theorem State.calm_of_units {s u : State} (h : u.units = s.units) : u.calm = s.calm :=
  congrArg (a₁ := u.units) (a₂ := s.units) State.calm h

theorem State.of_calm {s : State} {c : CoreUnit} {v : NonVolatile} {l : List BgRec} {u : PowerUnit} (h : s.calm = (c, v, l, u)) :
    s.core = c ∧ s.nv = v ∧ s.bgs = l ∧ s.pwr = u := by
  simpa [State.calm] using h

theorem State.showPresence_calm (s : State) (f : Nat → Bool) : (s.showPresence f).calm = s.calm :=
  foldl_keeps State.calm (fun _ _ => State.calm_of_units (State.setAll_units ..)) _ s

theorem State.modLnk_calm (s : State) (f : LinkUnit → LinkUnit) : (s.modLnk f).calm = s.calm := rfl

theorem State.startTraining_calm (s : State) (p : Nat) : (s.startTraining p).calm = s.calm := by
  unfold State.startTraining
  split
  · exact (State.modLnk_calm ..).trans (State.calm_of_units (State.set_units ..))
  · rfl

theorem State.startLinks_calm (s : State) (f : Nat → Bool) : (s.startLinks f).calm = s.calm :=
  foldl_keeps State.calm (fun _ _ => State.startTraining_calm ..) _ s

/-- The registers of presence lie above those of the blocks. -/
theorem State.showPresence_get (s : State) (f : Nat → Bool) {g : Fld} (hlsb : g.lsb < 32) (haddr : g.addr < 0x2000000) :
    (s.showPresence f).get g = s.get g := by
  refine foldl_keeps (fun u => u.get g) (fun u p => ?_) _ s
  refine State.get_setAll_of_ne _ fun e he => ?_
  simp only [List.mem_cons, List.not_mem_nil, or_false] at he
  rcases he with rfl | rfl | rfl <;> simp only [Fld.key, F.celHotplugPresent, F.celHotplugPrsntRaw, F.celHotplugPerstIn] <;> omega

theorem State.startTraining_get (s : State) {p : Nat} (hp : p < 1024) {g : Fld} (hlsb : g.lsb < 32) (haddr : 0x700000 ≤ g.addr) :
    (s.startTraining p).get g = s.get g := by
  unfold State.startTraining
  split
  · refine (State.get_of_regs (s := s.set (F.fnlLinkstatState p) 1) rfl g).trans (s.get_set_of_ne _ _ _ ?_)
    simp only [Fld.key, F.fnlLinkstatState]
    omega
  · rfl

/-- The state of a link lies below the registers of the blocks. -/
theorem State.startLinks_get (s : State) {f : Nat → Bool} (hf : ∀ p, f p = true → p < 1024) {g : Fld} (hlsb : g.lsb < 32)
    (haddr : 0x700000 ≤ g.addr) : (s.startLinks f).get g = s.get g := by
  refine foldl_keeps_of_mem (fun u => u.get g) (fun u p hp => ?_) s
  simp only [List.mem_filter, Bool.and_eq_true] at hp
  exact u.startTraining_get (hf p hp.2.1) hlsb haddr

/-- A command that works on a target runs no more once it has ended. -/
theorem State.endBgOn_ends (s : State) (opcode target : Nat) (code : Cci) (status : Nat) :
    ∀ b ∈ (s.endBgOn opcode target code status).bgs, b.opcode = opcode → b.target = target → b.running = false := by
  intro b hb hop htarget
  obtain ⟨c, -, hc⟩ := List.mem_map.mp hb
  split at hc
  · exact hc ▸ rfl
  · next hother =>
    subst hc
    simpa [hop, htarget] using hother

theorem doBlockResetDone_calm (n t : Nat) (s : State) :
    (doBlockResetDone n t s).calm = ((s.at t).endBgOn 0xC032 n .success stOk).calm := by
  unfold doBlockResetDone
  dsimp only
  split
  · exact (State.startLinks_calm ..).trans ((State.showPresence_calm ..).trans
      (State.calm_of_units ((State.bump_units ..).trans (State.set_units ..))))
  · rfl

/-- The block is in reset no more. -/
theorem doBlockResetDone_busy {n : Nat} (hn : n < 128) (t : Nat) (s : State) :
    (doBlockResetDone n t s).flag (F.blkSwresetBusy n) = false := by
  unfold doBlockResetDone
  dsimp only
  split
  · have hlow : (F.blkSwresetBusy n).addr < 0x2000000 := by simp only [F.blkSwresetBusy]; omega
    have hhigh : 0x700000 ≤ (F.blkSwresetBusy n).addr := by simp only [F.blkSwresetBusy]; omega
    have hlsb : (F.blkSwresetBusy n).lsb < 32 := by simp [F.blkSwresetBusy]
    have hcells (p : Nat) (h : (p / 8 == n) = true) : p < 1024 := by
      rw [beq_iff_eq] at h
      omega
    have hcount : (F.blkSwresetCount n).key ≠ (F.blkSwresetBusy n).key := by simp [Fld.key, F.blkSwresetCount, F.blkSwresetBusy]
    rw [State.flag, State.startLinks_get _ hcells hlsb hhigh, State.showPresence_get _ _ hlsb hlow, State.get_bump_of_ne _ _ hcount,
      State.get_set_same, Nat.zero_mod]
    rfl
  · next hidle => exact Bool.eq_false_iff.mpr hidle

theorem State.modPwr_calm (s : State) (f : PowerUnit → PowerUnit) : (s.modPwr f).calm = (s.core, s.nv, s.bgs, f s.pwr) := rfl

theorem State.modCpy_calm (s : State) (f : CopyUnit → CopyUnit) : (s.modCpy f).calm = s.calm := rfl

/-- The region's reset is taken off the list of those under way, if it stands there. -/
theorem doRegionResetDone_calm (g t : Nat) {s r : State} (hr : (s.at t).endBgOn 0xC031 g .success stOk = r) :
    (doRegionResetDone g t s).calm = (r.core, r.nv, r.bgs, { r.pwr with regionReset := r.pwr.regionReset.filter (· != g) }) := by
  unfold doRegionResetDone
  dsimp only
  rw [hr]
  split
  · refine (State.startLinks_calm ..).trans ((State.showPresence_calm ..).trans ((State.modCpy_calm ..).trans
      ((State.modPwr_calm ..).trans ?_)))
    generalize hu : r.setAll _ = u
    have hcalm : u.calm = r.calm := by rw [← hu]; exact State.calm_of_units (State.setAll_units ..)
    obtain ⟨hcore, hnv, hbgs, hpwr⟩ := State.of_calm hcalm
    rw [hcore, hnv, hbgs, hpwr]
  · next hidle =>
    have hfilter : r.pwr.regionReset.filter (· != g) = r.pwr.regionReset :=
      List.filter_eq_self.mpr fun a ha => bne_iff_ne.mpr fun h => hidle (List.contains_iff_mem.mpr (h ▸ ha))
    rw [hfilter]
    rfl

end Sys2Proof.Machine

/-! O41. -/
namespace Sys2Proof.Machine

/-- Settles O41: a reset keeps its record and clears the rest; what brings it is a branch each; a block's and a region's reset end with the
links released, which touches no other unit. -/
theorem resetsComplete : Obligations.ResetsComplete := by
  unfold Obligations.ResetsComplete
  refine ⟨fun s source whole hsource => ?module, fun s t hpower hshed hpending hfeed => ?powerOn, fun s t hpower hshed hfeed => ?feedReturn,
    fun s t hpower => ⟨?noPowerOn, ?noFeedReturn⟩,
    fun s ns t => ⟨fun h => ?short, fun h hpower hsave => ?resets, fun h hpower hsave hlater => ?waits⟩,
    fun s t hen hphase hsave => ⟨fun h => ?expired, fun h => ?kicked⟩, fun s t => ?kick, fun s src who hserves hhelm hsave => ?helm,
    fun s src who n hserves hpilot hreach => ⟨fun hother => ⟨fun hbusy => ⟨?block, fun hidle => ?blockCommand⟩, fun hbusy => ?blockBusy⟩,
      fun p hp hblock => ?blockOwn⟩,
    fun s src who g hserves howner hidle => ⟨fun hhome => ?regionHomed, fun hfree hpower => ?region⟩,
    fun s n t => ?blockDone, fun s g t => ?regionDone, fun s p t hlead hoff => ?port⟩
  case module =>
    obtain ⟨hnv, hpending, hnow, hat, hsessions, hslips, hqueue, hdir, hbolt, hstaged, hobjects⟩ := s.moduleReset_units source whole rfl
    obtain ⟨hcause, hready, hldo⟩ := s.moduleReset_shows hsource whole
    exact ⟨_, rfl, hnv, hpending, hnow, hat, hsessions, hslips, hqueue, hdir, hbolt, hstaged, hobjects, hcause, hready, hldo⟩
  case powerOn => exact congrArg Host.Outcome.next (doPowerOnReset_of_unpowered t hpower hshed hpending hfeed)
  case feedReturn => exact congrArg Host.Outcome.next (doFeedReturnReset_of_unpowered t hpower hshed hfeed)
  case noPowerOn => exact congrArg Host.Outcome.next (doPowerOnReset_of_powered t hpower)
  case noFeedReturn => exact congrArg Host.Outcome.next (doFeedReturnReset_of_powered t hpower)
  case short => exact congrArg Host.Outcome.next (doResetL_of_short t h)
  case resets =>
    exact congrArg Host.Outcome.next ((doResetL_of_powered t h hpower).trans (State.softReset_of_idle (by rw [State.at_pwr]; exact hsave) 4))
  case waits =>
    exact congrArg Host.Outcome.next ((doResetL_of_powered t h hpower).trans
      (State.softReset_of_saving (by rw [State.at_pwr]; exact hsave) (by rw [State.at_pwr]; exact hlater) 4))
  case expired =>
    exact congrArg Host.Outcome.next ((doWatchdogExpiry_of_enabled t hen hphase).trans ((if_pos h).trans
      (State.softReset_of_idle (by rw [State.at_pwr]; exact hsave) 5)))
  case kicked => exact congrArg Host.Outcome.next ((doWatchdogExpiry_of_enabled t hen hphase).trans (if_neg (Nat.not_le.mpr h)))
  case kick => exact ⟨_, rfl, rfl, s.at_regs t, s.at_sent t⟩
  case helm =>
    have hafter : ((s.touch src).respond src .success stOk 0 []).pwr.saveStart = none := hsave
    have hrun := State.softReset_of_idle hafter 6
    exact command_acts hserves hhelm hrun
  case block =>
    have hact := resetBlock_of_idle (s := s.touch src) (fun p hp => hother p ((s.touch_inbandPleat src).symm.trans hp)) hbusy
    have hrun := State.regCommandAt_eq hserves hreach hpilot (act := fun _ => resetBlock src n.val) hact
    exact congrArg Host.Outcome.next hrun
  case blockCommand =>
    have hact := resetBlock_of_idle (s := s.touch src) (fun p hp => hother p ((s.touch_inbandPleat src).symm.trans hp)) hbusy
    have hserved : (s.touch src).reach (F.blkSwresetGo n.val).addr = true := hreach
    have hidle' : (s.touch src).bgBusy (sessNum src) = false := hidle
    have hrun := State.bgReset_of_ok hidle' who 0xC032 n.val
      (act := fun u => if u.reach (F.blkSwresetGo n.val).addr then resetBlock src n.val u else (u, stDenied)) (by rw [if_pos hserved, hact])
    exact command_acts hserves hpilot hrun
  case blockBusy =>
    have hact := resetBlock_of_busy (s := s.touch src) (fun p hp => hother p ((s.touch_inbandPleat src).symm.trans hp)) hbusy
    have hrun := State.regCommandAt_eq hserves hreach hpilot (act := fun _ => resetBlock src n.val) hact
    exact congrArg Host.Outcome.next hrun
  case blockOwn =>
    have hact := resetBlock_of_own ((s.touch_inbandPleat src).trans hp) hblock
    have hrun := State.regCommandAt_eq hserves hreach hpilot (act := fun _ => resetBlock src n.val) hact
    exact congrArg Host.Outcome.next hrun
  case regionHomed =>
    have hact : (resetRegion g.val (s.touch src)).2 = stDenied := resetRegion_of_homed hhome
    have hidle' : (s.touch src).bgBusy (sessNum src) = false := hidle
    have hrun := State.bgReset_of_denied hidle' who 0xC031 g.val hact
    exact command_acts hserves howner hrun
  case region =>
    have hact : (resetRegion g.val (s.touch src)).2 = stOk := resetRegion_of_free hfree hpower
    have hidle' : (s.touch src).bgBusy (sessNum src) = false := hidle
    have hrun := State.bgReset_of_ok hidle' who 0xC031 g.val hact
    exact command_acts hserves howner hrun
  case blockDone =>
    obtain ⟨hcore, hnv, hbgs, -⟩ := State.of_calm (doBlockResetDone_calm n.val t s)
    exact ⟨_, rfl, doBlockResetDone_busy n.isLt t s, hcore.trans (s.at_core t), hnv.trans (s.at_nv t),
      fun b hb => State.endBgOn_ends _ _ _ _ _ b (hbgs ▸ hb)⟩
  case regionDone =>
    obtain ⟨hcore, hnv, hbgs, hpwr⟩ := State.of_calm (doRegionResetDone_calm g.val t (s := s) rfl)
    exact ⟨_, rfl, by rw [hpwr]; simp, hcore.trans (s.at_core t), hnv.trans (s.at_nv t),
      fun b hb => State.endBgOn_ends _ _ _ _ _ b (hbgs ▸ hb)⟩
  case port => exact congrArg Host.Outcome.next (doPortReset_of_pleat t hlead hoff)

end Sys2Proof.Machine

/-! Records of Lodestar's result slots and of the copy engines' slots (R210, R211): what one reads after it is written. -/
namespace Sys2Proof.Machine

@[simp] theorem State.at_lod (s : State) (t : Nat) : (s.at t).lod = s.lod := by rw [State.at_eq]
@[simp] theorem State.at_cpy (s : State) (t : Nat) : (s.at t).cpy = s.cpy := by rw [State.at_eq]

@[simp] theorem State.lrec_setLrec_same (s : State) (key : Nat) (r : LRec) : (s.setLrec key r).lrec key = r := by
  simp [State.lrec, State.setLrec, State.modLod]

@[simp] theorem State.crec_setCrec_same (s : State) (key : Nat) (r : LRec) : (s.setCrec key r).crec key = r := by
  simp [State.crec, State.setCrec, State.modCpy]

end Sys2Proof.Machine

/-! Command and descriptor slots (R204, R209, R211, R226, R228). -/
namespace Sys2Proof.Machine

/-- The record of an accepted write (R211): PENDING with the new operation and ticket, OVERRUN cleared. -/
def acceptedRec (b : List Nat) : LRec := { emptyRec with state := 1, opc := b.getD 0 0, ticket := leField b 2 2 }

/-- The command that the 64 bytes of a write bring, in the layout of R209. -/
def writtenCommand (k off : Nat) (b : List Nat) : LCmd :=
  ⟨off / 2 ^ 12 % 4096, off / 64 % 64, b.getD 0 0, b.getD 1 0, leField b 2 2, leField b 4 4 % 2 ^ 26, leField b 4 4 / 2 ^ 26 % 8,
    leField b 8 8, leField b 16 8, leField b 24 4, leField b 28 2, k, false⟩

/-- The record of the command slot that an offset lies in, by its channel and slot (R202). -/
def commandKey (off : Nat) : Nat := 64 * (off / 2 ^ 12 % 4096) + off / 64 % 64

/-- In the command part of the aperture the slots are numbered as they lie. -/
theorem commandKey_of_lt {off : Nat} (h : off < 2 ^ 24) : commandKey off = off / 64 := by
  unfold commandKey
  omega

section
variable {s : State} {off : Nat} {b : List Nat}

/-- A command to a slot that is still PENDING is discarded: OVERRUN is set and the home of the channel counts it (R211). -/
theorem State.commandSlot_of_pending (k : Nat) (hbusy : (s.lrec (commandKey off)).state = 1) :
    s.commandSlot k off b = (s.setLrec (commandKey off) { s.lrec (commandKey off) with overrun := true }).bump
      (F.ldsErrstatSlotBusy (s.chanHome (off / 2 ^ 12 % 4096))) 1 :=
  if_pos hbusy

/-- A free command slot takes a command of R209's layout: its record reads PENDING and the command waits at its object. -/
theorem State.commandSlot_of_free (k : Nat) (hfree : (s.lrec (commandKey off)).state ≠ 1) (hlength : b.length = 64)
    (haligned : off % 64 = 0) (hflags : b.getD 1 0 < 16) (hobject : leField b 4 4 < 2 ^ 29)
    (hreserved : ∀ i, i < 34 → b.getD (30 + i) 0 = 0) (hknown : knownOpc (b.getD 0 0) = true) :
    s.commandSlot k off b =
      (s.setLrec (commandKey off) (acceptedRec b)).modLod fun u => { u with pend := u.pend ++ [writtenCommand k off b] } := by
  have hshape : ¬(b.length ≠ 64 ∨ off % 64 ≠ 0) := by omega
  have hzeros : (List.range 34).any (fun i => b.getD (30 + i) 0 != 0) = false :=
    List.any_eq_false.mpr fun i hi => by rw [hreserved i (List.mem_range.mp hi)]; decide
  have hfields : ¬(16 ≤ b.getD 1 0 ∨ 2 ^ 29 ≤ leField b 4 4 ∨ (List.range 34).any (fun i => b.getD (30 + i) 0 != 0) = true ∨
      knownOpc (b.getD 0 0) = false) := by
    rintro (h | h | h | h)
    · exact Nat.not_le.mpr hflags h
    · exact Nat.not_le.mpr hobject h
    · exact Bool.false_ne_true (hzeros.symm.trans h)
    · exact Bool.false_ne_true (h.symm.trans hknown)
  exact (if_neg hfree).trans ((if_neg hshape).trans (if_neg hfields))

/-- A free descriptor slot takes a descriptor that R226 permits: its record reads PENDING and its job joins the queue (R228). -/
theorem State.descriptorSlot_of_free (k : Nat) (hfree : (s.crec (64 * (off / 2 ^ 12 % 256) + off / 64 % 64)).state ≠ 1)
    (hlength : b.length = 64) (haligned : off % 64 = 0) (hdesc : descOk b false = true) :
    s.descriptorSlot k off b = (s.setCrec (64 * (off / 2 ^ 12 % 256) + off / 64 % 64) (acceptedRec b)).queueJob
      (off / 2 ^ 12 % 256 % 8) (off / 2 ^ 12 % 256) (off / 64 % 64) k b := by
  have hshape : ¬(b.length ≠ 64 ∨ off % 64 ≠ 0 ∨ descOk b false = false) := by
    rintro (h | h | h)
    · exact h hlength
    · exact h haligned
    · exact Bool.false_ne_true (h.symm.trans hdesc)
  exact (if_neg hfree).trans (if_neg hshape)

end

end Sys2Proof.Machine

/-! A write to the Lodestar aperture (R127, R128, R202, R243, R472), by what stops it on its way to its part. -/
namespace Sys2Proof.Machine

/-- The kind of message that a write to the aperture at a pleat is. -/
def State.apertureKind (s : State) (p : Nat) : MsgKind := if s.chart.isFnl p then .fnlRequest else .memWrite

/-- What the part of the aperture that a permitted write falls in does with it (R202, R204). -/
def State.aperturePart (s : State) (k off : Nat) (b : List Nat) : State :=
  match off / 2 ^ 24 with
  | 0 => s.commandSlot k off b
  | 1 => s.bump (F.ldsErrstatFormat (s.chanHome (off / 2 ^ 12 % 4096))) 1
  | 2 => s.descriptorSlot k off b
  | _ => s.bump (F.cpeStatFormat (off / 2 ^ 12 % 256 % 8)) 1

theorem State.aperturePart_command (s : State) (k : Nat) {off : Nat} (b : List Nat) (h : off < 2 ^ 24) :
    s.aperturePart k off b = s.commandSlot k off b := by
  have hpart : off / 2 ^ 24 = 0 := Nat.div_eq_of_lt h
  simp only [State.aperturePart, hpart]

theorem State.aperturePart_descriptor (s : State) (k : Nat) {off : Nat} (b : List Nat) (hlow : 2 ^ 25 ≤ off) (hhigh : off < 3 * 2 ^ 24) :
    s.aperturePart k off b = s.descriptorSlot k off b := by
  have hpart : off / 2 ^ 24 = 2 := by omega
  simp only [State.aperturePart, hpart]

/-- The reply is all that leaves (R204): no register and no unit of Lodestar or the copy engines changes. -/
theorem State.apertureDone_replies (s : State) (p : Fin 1024) (id k status : Nat) :
    s.apertureDone p.val id k status =
      s.emit (.homeReply p.val id .done (if s.chart.isFnl p.val then status else stOk) (s.shown k) none false) :=
  if_pos p.isLt

theorem doApertureWrite_of_closed {s : State} (h : s.chart.ldsValid = false) (p id : Nat) (hdr : SyncHeader) (off : Nat)
    (bytes : List (Fin 256)) (t : Nat) : doApertureWrite p id hdr off bytes t s = s.at t :=
  if_pos (Or.inl ((congrArg Chart.ldsValid (s.at_chart t)).trans h))

section
variable {s r : State} {p : Nat} {hdr : SyncHeader} {t : Nat} (hr : r = s.at t) (hvalid : r.chart.ldsValid = true)
  (htakes : r.takesIn p = true)
include hr hvalid htakes

theorem doApertureWrite_of_berthless (hberth : r.ingressBerth p (hdr.ld.map (·.val)) hdr.hberth.val = none) (id off : Nat)
    (bytes : List (Fin 256)) : doApertureWrite p id hdr off bytes t s = r.refuseBerthless p id (r.apertureKind p) := by
  subst hr
  simp only [doApertureWrite, hvalid, htakes, hberth, Bool.true_eq_false, or_self, if_false]
  rfl

variable {k : Nat} (hberth : r.ingressBerth p (hdr.ld.map (·.val)) hdr.hberth.val = some k)
include hberth

theorem doApertureWrite_of_safe (hsafe : r.safeOn = true) (id off : Nat) (bytes : List (Fin 256)) :
    doApertureWrite p id hdr off bytes t s = r.apertureDone p id k stSafe := by
  subst hr
  simp only [doApertureWrite, hvalid, htakes, hberth, hsafe, Bool.true_eq_false, or_self, if_false, if_true]

/-- Out of the safe state, and permitted by the gate, a write reaches its part and is answered OK. -/
theorem doApertureWrite_of_permitted (hsafe : r.safeOn = false) {off : Nat} {bytes : List (Fin 256)} {y : State}
    (hy : y = (r.ingressClass p k (r.apertureKind p) .req (r.chart.ldsBase + off) hdr.hclass.val hdr.hcolour.val bytes.length).2.2)
    (hgate : (y.gateCheck gateLds [(y.chart.ldsBase + off) / 64] k 6 p).1 = []) (hcopy : y.copyDenied off = false) (id : Nat) :
    doApertureWrite p id hdr off bytes t s = (y.aperturePart k off (bytes.map (·.val))).apertureDone p id k stOk := by
  subst hr hy
  rw [State.apertureKind] at hgate hcopy ⊢
  simp only [doApertureWrite, hvalid, htakes, hberth, hsafe, hgate, hcopy, List.length_map, Bool.true_eq_false, Bool.false_eq_true,
    ne_eq, not_true, or_self, if_false]
  rfl

end

/-- Settles O20: what stops a write decides its answer, and a permitted one is taken by the slot of the part it falls in. -/
theorem apertureWritesComplete : Obligations.ApertureWritesComplete := by
  unfold Obligations.ApertureWritesComplete
  refine ⟨fun s r y p id k h off bytes t hr hvalid htakes hsafe hberth hy hgate hcopy => ?permitted,
    fun s r p id h off bytes t hr hvalid htakes hberth => ?berthless,
    fun s k off b hlength haligned hpart hflags hobject hreserved hknown hfree => ?command, fun s k off b hpart hbusy => ?overrun,
    fun s k off b hlength haligned hdesc hfree => ?descriptor, fun s r p id k h off bytes t hr hvalid htakes hsafe hberth => ?safe,
    fun s p id h off bytes t hclosed => ?closed⟩
  case permitted =>
    have hrun := doApertureWrite_of_permitted hr hvalid htakes hberth hsafe hy hgate hcopy id
    refine ⟨fun hpart => ?_, fun hlow hhigh => ?_⟩
    · rw [State.aperturePart_command _ _ _ hpart] at hrun
      exact congrArg Host.Outcome.next hrun
    · rw [State.aperturePart_descriptor _ _ _ hlow hhigh] at hrun
      have hnext := congrArg (Host.Outcome.next (φ := Fault) (ρ := Refusal)) hrun
      exact ⟨hnext, hnext, hnext⟩
  case berthless => exact congrArg Host.Outcome.next (doApertureWrite_of_berthless hr hvalid htakes hberth id off.val bytes)
  case command =>
    rw [← commandKey_of_lt hpart] at hfree ⊢
    have hrun := State.commandSlot_of_free k hfree hlength haligned hflags hobject hreserved hknown
    have hrec := s.lrec_setLrec_same (commandKey off) (acceptedRec b)
    exact ⟨_, hrun, congrArg LRec.state hrec, congrArg LRec.opc hrec, congrArg LRec.ticket hrec, rfl,
      ⟨writtenCommand k off b, rfl, rfl, rfl, rfl, rfl⟩, rfl⟩
  case overrun =>
    rw [← commandKey_of_lt hpart] at hbusy ⊢
    have hrec := s.lrec_setLrec_same (commandKey off) { s.lrec (commandKey off) with overrun := true }
    exact ⟨_, State.commandSlot_of_pending k hbusy, (congrArg LRec.state hrec).trans hbusy, congrArg LRec.overrun hrec, rfl, rfl⟩
  case descriptor =>
    have hrec := s.crec_setCrec_same (64 * (off / 2 ^ 12 % 256) + off / 64 % 64) (acceptedRec b)
    exact ⟨_, State.descriptorSlot_of_free k hfree hlength haligned hdesc, congrArg LRec.state hrec,
      ⟨_, rfl, rfl, rfl, rfl, rfl, rfl, rfl, rfl⟩, rfl⟩
  case safe =>
    have hrun := doApertureWrite_of_safe hr hvalid htakes hberth hsafe id off.val bytes
    rw [State.apertureDone_replies] at hrun
    subst hr
    refine ⟨_, congrArg Host.Outcome.next hrun, s.at_lod t, s.at_cpy t, s.at_regs t, fun hfnl => ⟨(s.at t).shown k, ?_⟩,
      fun hcxl => ⟨(s.at t).shown k, ?_⟩⟩
    · rw [s.at_chart, hfnl]
      exact congrArg _ (s.at_sent t)
    · rw [s.at_chart, hcxl]
      exact congrArg _ (s.at_sent t)
  case closed => exact congrArg Host.Outcome.next (doApertureWrite_of_closed hclosed p.val id h off.val bytes t)

end Sys2Proof.Machine

/-! The rows of the directory's transition tables (R169, R171 to R173). -/
namespace Sys2Proof.Machine

/-- An entry after a row that leaves no holder. -/
def DirEntry.cleared (x : DirEntry) : DirEntry := { x with st := 0, sharers := 0, owner := 0, store := 0, value := 0 }

/-- An entry after a row that leaves the agents of a mask as sharers, if it names any. -/
def DirEntry.sharedBy (x : DirEntry) (m : Nat) : DirEntry :=
  { x with st := if m = 0 then 0 else 1, sharers := m, owner := 0, store := 0, value := 0 }

theorem DirEntry.cleared_coherent (x : DirEntry) : x.cleared.coherent := by simp [DirEntry.coherent, DirEntry.cleared]

theorem DirEntry.sharedBy_coherent (x : DirEntry) (m : Nat) : (x.sharedBy m).coherent := by
  by_cases h : m = 0 <;> simp [DirEntry.coherent, DirEntry.sharedBy, h]

section
variable (t : Txn) (x : DirEntry) (compat room : Bool) (store now : Nat) (bad : Bool)

/-- A read to share of a line with an owner leaves the owner, unless it went to I, and the requester, unless the read failed, as
sharers: in O where the home may keep the modified data, else in S (R172). -/
theorem rowEntry_rdS_of_owned (h : 3 ≤ x.st) : ∃ m, rowEntry (.req .rdS) t x compat room store now bad = x.sharedBy m ∨
    ∃ d, rowEntry (.req .rdS) t x compat room store now bad =
      { x with st := 2, sharers := m, owner := 0, store := store, value := d, since := now } := by
  refine ⟨(if t.down = 2 then 0 else 2 ^ x.owner) ||| (if bad then 0 else 2 ^ t.agent.getD 0), ?_⟩
  simp only [rowEntry, if_pos h]
  split
  · next d _ =>
    split
    · exact .inr ⟨d, rfl⟩
    · exact .inl rfl
  · exact .inl rfl

/-- A read to share of a line without an owner adds the requester as a sharer, or as the owner in E, unless it failed (R172, R173). -/
theorem rowEntry_rdS_of_unowned (h : ¬3 ≤ x.st) : rowEntry (.req .rdS) t x compat room store now bad =
    if bad then x else if x.st = 0 ∧ compat = true then { x with st := 4, owner := t.agent.getD 0 }
    else { x with st := if x.st = 0 then 1 else x.st, sharers := x.sharers ||| 2 ^ t.agent.getD 0 } := by
  simp only [rowEntry, if_neg h]

theorem rowEntry_rdCur : rowEntry (.req .rdCur) t x compat room store now bad =
    if 3 ≤ x.st then (if t.down = 0 then x else if t.down = 1 then x.sharedBy (2 ^ x.owner) else x.cleared) else x := rfl

theorem rowEntry_rdOwn : rowEntry (.req .rdOwn) t x compat room store now bad =
    if bad then x.cleared else { x.cleared with st := 3, owner := t.agent.getD 0 } := rfl

theorem rowEntry_evictS : rowEntry (.req .evictS) t x compat room store now bad =
    if x.st = 2 then { x with sharers := dropAgent x.sharers (t.agent.getD 0) }
    else if x.st = 1 then x.sharedBy (dropAgent x.sharers (t.agent.getD 0)) else x.cleared := rfl

/-- Adding an agent leaves a sharer. -/
theorem or_two_pow_ne_zero (m a : Nat) : m ||| 2 ^ a ≠ 0 := by
  have hpos : 0 < 2 ^ a := Nat.two_pow_pos a
  have hle : 2 ^ a ≤ m ||| 2 ^ a := Nat.right_le_or
  omega

theorem rowEntry_rdS_coherent (hx : x.coherent) : (rowEntry (.req .rdS) t x compat room store now bad).coherent := by
  by_cases howned : 3 ≤ x.st
  · obtain ⟨m, h | ⟨d, h⟩⟩ := rowEntry_rdS_of_owned t x compat room store now bad howned
    · rw [h]
      exact x.sharedBy_coherent m
    · rw [h]
      simp [DirEntry.coherent]
  · rw [rowEntry_rdS_of_unowned t x compat room store now bad howned]
    obtain ⟨hle, -, -, hnone⟩ := id hx
    have hjoined := or_two_pow_ne_zero x.sharers (t.agent.getD 0)
    split
    · exact hx
    · split
      · next hinvalid => simp [DirEntry.coherent, hnone hinvalid.1]
      · by_cases hinvalid : x.st = 0
        · simp [DirEntry.coherent, hinvalid, hjoined]
        · rw [if_neg hinvalid]
          exact ⟨hle, fun h => absurd h howned, fun _ => hjoined, fun h => absurd h hinvalid⟩

theorem rowEntry_rdOwn_coherent : (rowEntry (.req .rdOwn) t x compat room store now bad).coherent := by
  rw [rowEntry_rdOwn]
  split
  · exact x.cleared_coherent
  · simp [DirEntry.coherent, DirEntry.cleared]

/-- Every row leaves a coherent entry (R169, R171). -/
theorem rowEntry_coherent (j : Job) (hx : x.coherent) : (rowEntry j t x compat room store now bad).coherent := by
  cases j with
  | writeBehind => exact x.sharedBy_coherent x.sharers
  | flush => exact x.cleared_coherent
  | sweep => exact hx
  | req op =>
    cases op with
    | rdS => exact rowEntry_rdS_coherent t x compat room store now bad hx
    | rdOwn | upg => exact rowEntry_rdOwn_coherent t x compat room store now bad
    | rdCur =>
      rw [rowEntry_rdCur]
      split_ifs
      exacts [hx, x.sharedBy_coherent _, x.cleared_coherent, hx]
    | evictS =>
      rw [rowEntry_evictS]
      split_ifs with howned
      · simp [DirEntry.coherent, howned]
      · exact x.sharedBy_coherent _
      · exact x.cleared_coherent
    | wrClean => exact x.sharedBy_coherent _
    | wrBack | wrFull | wrPart => exact x.cleared_coherent
    | memWr | memWrS | specRd | other => exact hx

theorem rowEntry_rdOwn_poison : (rowEntry (.req .rdOwn) t x compat room store now bad).poison = x.poison := by
  rw [rowEntry_rdOwn]
  split_ifs <;> rfl

/-- Only a full write, a write-back and a flush clear POISON (R174). -/
theorem rowEntry_poison (j : Job) (hflush : j ≠ .flush) (hfull : j ≠ .req .wrFull) (hback : j ≠ .req .wrBack) :
    (rowEntry j t x compat room store now bad).poison = x.poison := by
  cases j with
  | writeBehind | sweep => rfl
  | flush => exact absurd rfl hflush
  | req op =>
    cases op with
    | rdS =>
      by_cases howned : 3 ≤ x.st
      · obtain ⟨m, h | ⟨d, h⟩⟩ := rowEntry_rdS_of_owned t x compat room store now bad howned
        all_goals exact (congrArg DirEntry.poison h).trans rfl
      · rw [rowEntry_rdS_of_unowned t x compat room store now bad howned]
        split_ifs <;> rfl
    | rdOwn | upg =>
      exact rowEntry_rdOwn_poison t x compat room store now bad
    | rdCur =>
      rw [rowEntry_rdCur]
      split_ifs <;> rfl
    | evictS =>
      rw [rowEntry_evictS]
      split_ifs <;> rfl
    | wrFull => exact absurd rfl hfull
    | wrBack => exact absurd rfl hback
    | wrClean | wrPart | memWr | memWrS | specRd | other => rfl

end

/-- A read to own that succeeds leaves its agent as the owner in M, and no other holder (R172). -/
theorem rowEntry_rdOwn_of_ok {t : Txn} {a : Nat} (hagent : t.agent = some a) (x : DirEntry) (compat room : Bool) (store now : Nat) :
    (rowEntry (.req .rdOwn) t x compat room store now false).st = 3 ∧
      holders (rowEntry (.req .rdOwn) t x compat room store now false) = [a] := by
  rw [rowEntry_rdOwn, hagent]
  simp [holders, agentsIn, DirEntry.cleared]

/-- Settles O16: each row leaves the entry as it was, cleared, shared by a mask, or with one owner. -/
theorem directoryRowsKeepEntriesCoherent : Obligations.DirectoryRowsKeepEntriesCoherent := by
  unfold Obligations.DirectoryRowsKeepEntriesCoherent
  refine ⟨fun j t x compat room store now bad hx => rowEntry_coherent t x compat room store now bad j hx,
    fun t x a compat room store now hagent => rowEntry_rdOwn_of_ok hagent x compat room store now,
    fun j t x compat room store now bad hpoison hflush hfull hback => ?_⟩
  exact (rowEntry_poison t x compat room store now bad j hflush hfull hback).trans hpoison

end Sys2Proof.Machine

/-! What Lodestar leaves of the homes (R202, R221): their unit, and the register fields at the bottom of their words, among them those of
HUB.HOMEMAP and HOM.ROLE that name the slices. -/
namespace Sys2Proof.Machine

/-- The homes' unit, and the register entries at bit 0 of each word. -/
def State.homing (s : State) : HomeUnit × (Nat → Option Nat) := (s.home, fun a => SMap.find? s.regs (32 * a))

theorem State.home_of_homing {s u : State} (h : u.homing = s.homing) : u.home = s.home := congrArg (·.1) h

theorem State.get_of_homing {s u : State} (h : u.homing = s.homing) {f : Fld} (hf : f.lsb = 0) : u.get f = s.get f := by
  have hkey : f.key = 32 * f.addr := by
    rw [Fld.key, hf]
    omega
  unfold State.get
  rw [hkey]
  exact congrArg (Option.getD · f.reset) (congrFun (congrArg (·.2) h) f.addr)

theorem State.homing_ite {c : Prop} [Decidable c] {a b : State} {x : HomeUnit × (Nat → Option Nat)} (ha : a.homing = x)
    (hb : b.homing = x) : (if c then a else b).homing = x := by
  split
  · exact ha
  · exact hb

/-- A field above bit 0 of its word is no part of what the homes are read from. -/
theorem State.set_homing (s : State) {f : Fld} (v : Nat) (hlow : 0 < f.lsb) (hhigh : f.lsb < 32) : (s.set f v).homing = s.homing := by
  refine Prod.ext rfl (funext fun a => ?_)
  have hkey : f.key ≠ 32 * a := by
    simp only [Fld.key]
    omega
  change SMap.find? (s.set f v).regs (32 * a) = SMap.find? s.regs (32 * a)
  rw [State.set_regs]
  split
  · exact SMap.find?_del_of_ne _ hkey
  · exact SMap.find?_put_of_ne _ _ hkey

@[simp] theorem State.modLod_homing (s : State) (f : LodUnit → LodUnit) : (s.modLod f).homing = s.homing := rfl
@[simp] theorem State.setLrec_homing (s : State) (key : Nat) (r : LRec) : (s.setLrec key r).homing = s.homing := rfl
@[simp] theorem State.setObj_homing (s : State) (n : Nat) (o : LObj) : (s.setObj n o).homing = s.homing := rfl
@[simp] theorem State.noteGroups_homing (s : State) : s.noteGroups.homing = s.homing := rfl
@[simp] theorem State.restartGroup_homing (s : State) (gid : Nat) : (s.restartGroup gid).homing = s.homing := rfl
@[simp] theorem State.unfreeze_homing (s : State) (gid : Nat) : (s.unfreeze gid).homing = s.homing := rfl

@[simp] theorem State.count_homing (s : State) (loc : Nat × Nat) (code : Nat) (sub : Nat → Bool) (berth : Option Nat) (n : Nat) :
    (s.count loc code sub berth n).homing = s.homing :=
  Prod.ext (State.home_of_units (s.count_units ..)) (funext fun _ => by rw [State.homing, State.count_regs]; rfl)

@[simp] theorem State.sendResult_homing (s : State) (c : LCmd) (status detail value aux : Nat) (flag : Bool) (elapsed : Nat) :
    (s.sendResult c status detail value aux flag elapsed).homing = s.homing := by
  rw [State.sendResult, State.modLod_homing]
  exact State.homing_ite (s.set_homing _ (by simp [F.ldsErrstatRetry]) (by simp [F.ldsErrstatRetry])) rfl

@[simp] theorem State.endParked_homing (s : State) (p : Parked) (status detail value aux : Nat) :
    (s.endParked p status detail value aux).homing = s.homing := by simp [State.endParked]

@[simp] theorem State.leaveParked_homing (s : State) (p : Parked) (status : Nat) : (s.leaveParked p status).homing = s.homing := by
  unfold State.leaveParked
  split <;> simp

theorem State.foldl_leaveParked_homing (s : State) (l : List Parked) (status : Nat) :
    (l.foldl (fun u p => u.leaveParked p status) s).homing = s.homing :=
  foldl_keeps State.homing (fun u p => u.leaveParked_homing p status) l s

@[simp] theorem State.park_homing (s : State) (c : LCmd) : (s.park c).homing = s.homing := by
  refine State.homing_ite (s.sendResult_homing ..) ?_
  rw [State.noteGroups_homing, State.set_homing] <;> simp [F.ldsStatPeak]

@[simp] theorem State.wake_homing (s : State) (obj word : Nat) (all : Bool) : (s.wake obj word all).1.homing = s.homing :=
  State.foldl_leaveParked_homing ..

@[simp] theorem State.handOver_homing (s : State) (obj : Nat) : (s.handOver obj).1.homing = s.homing :=
  State.foldl_leaveParked_homing ..

@[simp] theorem State.atomic_homing (s : State) (c : LCmd) (o : LObj) (new : Nat) (took flag : Bool) :
    (s.atomic c o new took flag).homing = s.homing := by
  unfold State.atomic
  extract_lets s1 r
  have hs1 : s1.homing = s.homing := State.homing_ite (s.setObj_homing ..) rfl
  have hr : r.1.homing = s1.homing := by
    dsimp only [r]
    split <;> simp
  rw [State.sendResult_homing, hr, hs1]

theorem opWait_homing (s : State) (c : LCmd) (o : LObj) : (opWait s c o).homing = s.homing :=
  State.homing_ite (s.sendResult_homing ..) (s.park_homing c)

theorem opNotify_homing (s : State) (c : LCmd) (o : LObj) : (opNotify s c o).homing = s.homing := by simp [opNotify]

theorem opBarrier_homing (s : State) (c : LCmd) (o : LObj) : (opBarrier s c o).homing = s.homing :=
  State.homing_ite (s.park_homing c) (by simp [State.foldl_leaveParked_homing])

theorem opLock_homing (s : State) (c : LCmd) (o : LObj) : (opLock s c o).homing = s.homing :=
  State.homing_ite (by simp) (State.homing_ite (by simp) (s.park_homing c))

theorem opUnlock_homing (s : State) (c : LCmd) (o : LObj) : (opUnlock s c o).homing = s.homing := by
  refine State.homing_ite (State.homing_ite (by simp) ?_) (State.homing_ite (by simp) (by simp))
  rw [State.sendResult_homing]
  split <;> simp

theorem opObjFree_homing (s : State) (c : LCmd) (o : LObj) : (opObjFree s c o).homing = s.homing := by
  rw [opObjFree, State.sendResult_homing, State.modLod_homing]
  exact foldl_keeps State.homing (fun u p => u.endParked_homing ..) _ s

theorem opGroupCreate_homing (s : State) (c : LCmd) : (opGroupCreate s c).homing = s.homing :=
  State.homing_ite (by simp) (State.homing_ite (by simp) (by simp))

theorem opGroupJoin_homing (s : State) (c : LCmd) : (opGroupJoin s c).homing = s.homing := by
  unfold opGroupJoin
  split
  · simp
  · split_ifs <;> simp

theorem opGroupLeave_homing (s : State) (c : LCmd) : (opGroupLeave s c).homing = s.homing := by
  unfold opGroupLeave
  split
  · simp
  · split_ifs <;> simp

theorem opGroupDestroy_homing (s : State) (c : LCmd) : (opGroupDestroy s c).homing = s.homing := by
  unfold opGroupDestroy
  split
  · simp
  · split_ifs <;> simp

theorem opObjAlloc_homing (s : State) (c : LCmd) : (opObjAlloc s c).homing = s.homing := by
  refine State.homing_ite (by simp) (State.homing_ite (by simp) ?_)
  split <;> simp

/-- A command on an object leaves the homes where its operation does. -/
theorem State.onObject_homing {op : State → LCmd → LObj → State} (hop : ∀ s c o, (op s c o).homing = s.homing) (s : State)
    (c : LCmd) : (s.onObject c op).homing = s.homing := by
  unfold State.onObject
  split
  · simp
  · refine State.homing_ite (by simp) (State.homing_ite (by simp) ?_)
    split
    · simp
    · exact hop ..

theorem State.execute_homing (s : State) (c : LCmd) : (s.execute c).homing = s.homing := by
  unfold State.execute
  split
  case h_1 | h_2 | h_3 => exact State.onObject_homing (fun s c o => s.atomic_homing ..) s c
  case h_4 => exact State.onObject_homing opWait_homing s c
  case h_5 => exact State.onObject_homing opNotify_homing s c
  case h_6 => exact State.onObject_homing opBarrier_homing s c
  case h_7 => exact State.onObject_homing opLock_homing s c
  case h_8 => exact State.onObject_homing opUnlock_homing s c
  case h_9 => exact opGroupCreate_homing s c
  case h_10 => exact opGroupJoin_homing s c
  case h_11 => exact opGroupLeave_homing s c
  case h_12 => exact opGroupDestroy_homing s c
  case h_13 => exact opObjAlloc_homing s c
  case h_14 => exact State.onObject_homing opObjFree_homing s c
  case h_15 => rfl

theorem State.runCmd_homing (s : State) (c : LCmd) : (s.runCmd c).homing = s.homing :=
  State.homing_ite rfl ((State.noteGroups_homing _).trans ((State.count_homing ..).trans (s.execute_homing c)))

theorem State.runHeld_homing (s : State) : s.runHeld.homing = s.homing :=
  foldl_keeps State.homing (fun u _ => (State.runCmd_homing _ _).trans (u.modLod_homing _)) _ s

theorem State.bump_ldsErrstatUnknown_homing (s : State) (n k : Nat) : (s.bump (F.ldsErrstatUnknown n) k).homing = s.homing :=
  s.set_homing _ (by simp [F.ldsErrstatUnknown]) (by simp [F.ldsErrstatUnknown])

theorem State.unknownRec_homing (s : State) (key n elapsed : Nat) : (s.unknownRec key n elapsed).homing = s.homing :=
  State.homing_ite (State.bump_ldsErrstatUnknown_homing ..) rfl

/-- Lodestar at a failover leaves the homes as the failover has made them (R221). -/
theorem State.afterMove_homing (s : State) (n : Nat) (slots : List Nat) (stack : Bool) : (s.afterMove n slots stack).homing = s.homing := by
  rw [State.afterMove, State.lodFailover, State.noteGroups_homing, State.runHeld_homing]
  rw [foldl_keeps State.homing fun _ _ => State.bump_ldsErrstatUnknown_homing ..]
  exact foldl_keeps State.homing (fun _ _ => State.unknownRec_homing ..) _ _

end Sys2Proof.Machine

/-! A slice's failover moves its slots (R191, R192). -/
namespace Sys2Proof.Machine

/-- Fields at different bits of their words have different keys. -/
theorem Fld.key_ne_of_lsb_ne {f g : Fld} (hf : f.lsb < 32) (hg : g.lsb < 32) (h : f.lsb ≠ g.lsb) : f.key ≠ g.key := by
  simp only [Fld.key]
  omega

/-- The words of HUB.HOMEMAP lie below those of HOM.ROLE. -/
theorem hubHomemapSlice_key_ne_homRole {v : Nat} (hv : v < 64) (n : Nat) : (F.hubHomemapSlice v).key ≠ (F.homRole n).key := by
  simp only [Fld.key, F.hubHomemapSlice, F.homRole]
  omega

theorem hubHomemapSlice_key_ne_of_ne {v w : Nat} (h : v ≠ w) : (F.hubHomemapSlice v).key ≠ (F.hubHomemapSlice w).key := by
  simp only [Fld.key, F.hubHomemapSlice]
  omega

theorem homRole_key_ne_of_ne {m n : Nat} (h : m ≠ n) : (F.homRole m).key ≠ (F.homRole n).key := by
  simp only [Fld.key, F.homRole]
  omega

/-- A slot that moves writes, at the bottom of a word, its own entry of the home map and the role of its new home alone. -/
theorem State.moveSlot_get (s : State) (failed v m : Nat) (unknown : Bool) {f : Fld} (hlsb : f.lsb = 0)
    (hrole : (F.homRole m).key ≠ f.key) : (s.moveSlot failed v m unknown).get f = (s.set (F.hubHomemapSlice v) m).get f := by
  have hhigh {g : Fld} (hlow : 0 < g.lsb) (hlt : g.lsb < 32) : g.key ≠ f.key := Fld.key_ne_of_lsb_ne hlt (by omega) (by omega)
  unfold State.moveSlot
  extract_lets s1 s2
  have hs1 : s1.get f = (s.set (F.hubHomemapSlice v) m).get f := by
    refine State.get_setAll_of_ne (s.set (F.hubHomemapSlice v) m) ?_
    simp only [List.forall_mem_cons]
    refine ⟨hhigh ?_ ?_, hrole, hhigh ?_ ?_, hhigh ?_ ?_, by simp⟩ <;> simp [F.hubHomemapMoved, F.homRoleServesFor, F.dirPartValid]
  have hs2 : s2.get f = s1.get f := by
    dsimp only [s2]
    split
    · refine State.get_setAll_of_ne _ ?_
      simp only [List.forall_mem_cons]
      refine ⟨hhigh ?_ ?_, hhigh ?_ ?_, by simp⟩ <;> simp [F.hubHomemapUnknown, F.homRoleUnknown]
    · rfl
  exact hs2.trans hs1

/-- A slot that moves is served by its new home. -/
theorem State.moveSlot_slotSlice_same (s : State) (failed : Nat) {v m : Nat} (hv : v < 64) (hm : m < 72) (unknown : Bool) :
    (s.moveSlot failed v m unknown).slotSlice v = m := by
  have hwidth : m < 2 ^ (F.hubHomemapSlice v).width := by
    simp only [F.hubHomemapSlice]
    omega
  rw [State.slotSlice, State.moveSlot_get _ _ _ _ _ rfl (hubHomemapSlice_key_ne_homRole hv m).symm, State.get_set_same]
  exact Nat.mod_eq_of_lt hwidth

/-- The transactions and snoops of the homes. -/
def State.homeWaits (s : State) : List Txn × List Snoop := (s.home.txns, s.home.snoops)

theorem State.setAll_home (s : State) (l : List (Fld × Nat)) : (s.setAll l).home = s.home := State.home_of_units (s.setAll_units l)

theorem State.moveSlot_homeWaits (s : State) (failed v m : Nat) (unknown : Bool) :
    (s.moveSlot failed v m unknown).homeWaits = s.homeWaits := by
  have hwaits (u : State) (l : List (Fld × Nat)) : (u.setAll l).homeWaits = u.homeWaits :=
    congrArg (fun h : HomeUnit => (h.txns, h.snoops)) (u.setAll_home l)
  unfold State.moveSlot
  extract_lets s1 s2
  have hs2 : s2.homeWaits = s1.homeWaits := by
    dsimp only [s2]
    split
    · exact hwaits ..
    · rfl
  exact hs2.trans (hwaits ..)

/-- A move of slots away from slice `n`: afterwards it serves none of them, and none that it did not serve before; its role, and the
transactions and snoops of the homes, stay. -/
structure State.MovesOff (n : Nat) (s u : State) (slots : List Nat) : Prop where
  served : ∀ w < 64, w ∈ slots ∨ s.slotSlice w ≠ n → u.slotSlice w ≠ n
  role : u.get (F.homRole n) = s.get (F.homRole n)
  waits : u.homeWaits = s.homeWaits

namespace State.MovesOff
variable {n : Nat} {s u v : State} {l k : List Nat}

theorem refl (n : Nat) (s : State) : MovesOff n s s [] := ⟨fun _ _ h => h.resolve_left List.not_mem_nil, rfl, rfl⟩

theorem trans (h : MovesOff n s u l) (g : MovesOff n u v k) : MovesOff n s v (l ++ k) where
  served w hw hor := g.served w hw <| by
    rw [List.mem_append, or_assoc] at hor
    obtain hl | hk | hs := hor
    · exact .inr (h.served w hw (.inl hl))
    · exact .inl hk
    · exact .inr (h.served w hw (.inr hs))
  role := g.role.trans h.role
  waits := g.waits.trans h.waits

/-- One slot moves to another slice. -/
theorem moveSlot (s : State) (failed : Nat) {w m : Nat} (hw : w < 64) (hm : m < 72) (hne : m ≠ n) (unknown : Bool) :
    MovesOff n s (s.moveSlot failed w m unknown) [w] where
  served x hx hor := by
    by_cases hsame : w = x
    · subst hsame
      rw [State.moveSlot_slotSlice_same s failed hw hm]
      exact hne
    · rw [State.slotSlice, State.moveSlot_get _ _ _ _ _ rfl (hubHomemapSlice_key_ne_homRole hx m).symm,
        State.get_set_of_ne _ _ _ _ (hubHomemapSlice_key_ne_of_ne hsame)]
      exact hor.resolve_left (by simpa using Ne.symm hsame)
  role := (State.moveSlot_get _ _ _ _ _ rfl (homRole_key_ne_of_ne hne)).trans
    (State.get_set_of_ne _ _ _ _ (hubHomemapSlice_key_ne_homRole hw n))
  waits := State.moveSlot_homeWaits ..

/-- The slots of a list move, each to another slice. -/
theorem foldl {α : Type} {g : State → α → State} {slot : α → Nat} {l : List α}
    (h : ∀ s, ∀ a ∈ l, MovesOff n s (g s a) [slot a]) (s : State) : MovesOff n s (l.foldl g s) (l.map slot) := by
  induction l generalizing s with
  | nil => exact refl n s
  | cons a r ih => exact (h s a (List.mem_cons_self ..)).trans (ih (fun u b hb => h u b (List.mem_cons_of_mem _ hb)) (g s a))

end State.MovesOff

/-- Every slot is dealt to one of the slices at hand. -/
theorem deal_of_rest {slots rest : List Nat} (h : rest ≠ []) :
    (deal slots [] rest).map (·.1) = slots ∧ ∀ e ∈ deal slots [] rest, e.2 ∈ rest := by
  have hlen : 0 < rest.length := List.length_pos_iff.2 h
  have hdeal : deal slots [] rest = (List.range slots.length).map fun i => (slots.getD i 0, rest.getD (i % rest.length) 0) := by
    simp [deal, h, List.filterMap_eq_map']
  rw [hdeal]
  refine ⟨?_, fun e he => ?_⟩
  · rw [List.map_map]
    refine List.ext_getElem (by simp) fun i hi hi' => ?_
    simp [hi']
  · obtain ⟨i, -, rfl⟩ := List.mem_map.1 he
    have hi : i % rest.length < rest.length := Nat.mod_lt _ hlen
    simp [List.getElem?_eq_getElem hi]

theorem State.mem_slicesOf {s : State} {role m : Nat} {f : Nat → Bool} :
    m ∈ s.slicesOf role f ↔ m < 72 ∧ s.get (F.homRole m) = role ∧ s.regionPowered (m / 9) = true ∧ f (m / 9) = true := by
  simp [State.slicesOf, and_assoc]

theorem State.mem_slotsOf {s : State} {n v : Nat} : v ∈ s.slotsOf n ↔ v < 64 ∧ s.slotSlice v = n := by
  simp [State.slotsOf]

end Sys2Proof.Machine

/-! The slice that is retired (R191). -/
namespace Sys2Proof.Machine

/-- A slice out of service, its slots not yet moved: its transactions and snoops are gone, and its role reads 2. -/
def State.sliceRetired (s : State) (n : Nat) : State :=
  (s.dropSlice n).setAll [(F.homRole n, 2), (F.homRoleUnknown n, 0), (F.dirPartValid n, 0)]

theorem State.sliceRetired_role (s : State) (n : Nat) : (s.sliceRetired n).get (F.homRole n) = 2 := by
  refine (State.get_setAll_of_mem _ [] _ ?_).trans rfl
  simp only [List.forall_mem_cons, Fld.key, F.homRole, F.homRoleUnknown, F.dirPartValid]
  refine ⟨?_, ?_, by simp⟩ <;> omega

theorem State.sliceRetired_get_of_ne (s : State) {n : Nat} {f : Fld} (hrole : (F.homRole n).key ≠ f.key) (hlsb : f.lsb < 32)
    (hunknown : f.lsb ≠ 2) (hvalid : f.lsb ≠ 7) : (s.sliceRetired n).get f = s.get f := by
  refine (State.get_setAll_of_ne _ ?_).trans rfl
  simp only [List.forall_mem_cons]
  exact ⟨hrole, Fld.key_ne_of_lsb_ne (by simp [F.homRoleUnknown]) hlsb hunknown.symm,
    Fld.key_ne_of_lsb_ne (by simp [F.dirPartValid]) hlsb hvalid.symm, by simp⟩

theorem State.sliceRetired_slotSlice (s : State) (n : Nat) {v : Nat} (hv : v < 64) : (s.sliceRetired n).slotSlice v = s.slotSlice v :=
  s.sliceRetired_get_of_ne (hubHomemapSlice_key_ne_homRole hv n).symm (by simp [F.hubHomemapSlice]) (by simp [F.hubHomemapSlice])
    (by simp [F.hubHomemapSlice])

theorem State.sliceRetired_role_of_ne (s : State) {n m : Nat} (h : m ≠ n) :
    (s.sliceRetired n).get (F.homRole m) = s.get (F.homRole m) :=
  s.sliceRetired_get_of_ne (homRole_key_ne_of_ne h.symm) (by simp [F.homRole]) (by simp [F.homRole]) (by simp [F.homRole])

theorem State.sliceRetired_regionPowered (s : State) (n g : Nat) : (s.sliceRetired n).regionPowered g = s.regionPowered g := by
  refine congrArg (Nat.testBit · g) (s.sliceRetired_get_of_ne ?_ ?_ ?_ ?_)
  · simp only [Fld.key, F.homRole, F.hubTopoRegionPowered]
    omega
  all_goals simp [F.hubTopoRegionPowered]

/-- No transaction and no snoop of the slice is left. -/
theorem State.sliceRetired_homeWaits (s : State) (n : Nat) :
    (s.sliceRetired n).homeWaits = (s.home.txns.filter (·.home != n), s.home.snoops.filter (·.home != n)) :=
  congrArg (fun h : HomeUnit => (h.txns, h.snoops)) (State.setAll_home ..)

/-- A slice that has a role other than 2 once slice `n` is retired is not slice `n`. -/
theorem State.ne_of_mem_slicesOf {s : State} {n role m : Nat} {f : Nat → Bool} (hn : s.get (F.homRole n) = 2) (hrole : role ≠ 2)
    (hm : m ∈ s.slicesOf role f) : m < 72 ∧ m ≠ n := by
  obtain ⟨hlt, hget, -, -⟩ := State.mem_slicesOf.1 hm
  refine ⟨hlt, ?_⟩
  rintro rfl
  exact hrole (hget.symm.trans hn)

namespace State.MovesOff
variable {n : Nat} {s u v : State} {l : List Nat}

/-- A change that leaves the home map, the slice's role, and what waits at the homes moves nothing. -/
theorem of_same (hmap : ∀ w < 64, u.slotSlice w = s.slotSlice w) (hrole : u.get (F.homRole n) = s.get (F.homRole n))
    (hwaits : u.homeWaits = s.homeWaits) : MovesOff n s u [] :=
  ⟨fun w hw h => (hmap w hw).trans_ne (h.resolve_left List.not_mem_nil), hrole, hwaits⟩

theorem trans_same (h : MovesOff n s u l) (g : MovesOff n u v []) : MovesOff n s v l := by
  simpa using h.trans g

/-- What Lodestar does after the move, and the failover's own record, move nothing. -/
theorem afterMove (h : MovesOff n s u l) (slots : List Nat) (stack : Bool) (f : Option Failover) :
    MovesOff n s ((u.afterMove n slots stack).modHome fun k => { k with failover := f }) l := by
  have hhoming : (u.afterMove n slots stack).homing = u.homing := u.afterMove_homing ..
  have hwaits : (u.afterMove n slots stack).homeWaits = u.homeWaits :=
    congrArg (fun k : HomeUnit => (k.txns, k.snoops)) (State.home_of_homing hhoming)
  generalize u.afterMove n slots stack = v at hhoming hwaits
  exact h.trans_same <| .of_same (fun w _ => State.get_of_homing (f := F.hubHomemapSlice w) hhoming rfl)
    (State.get_of_homing (f := F.homRole n) hhoming rfl) hwaits

/-- Every slot of a list moves to one slice. -/
theorem foldl_moveSlot {slots : List Nat} (hslots : ∀ v ∈ slots, v < 64) {m : Nat} (hm : m < 72 ∧ m ≠ n)
    (unknown : State → Nat → Bool) (s : State) : MovesOff n s (slots.foldl (fun u v => u.moveSlot n v m (unknown u v)) s) slots := by
  have hfold := foldl (n := n) (slot := id) (l := slots) (g := fun u v => u.moveSlot n v m (unknown u v))
    (fun u v hv => moveSlot u n (hslots v hv) hm.1 hm.2 _) s
  rwa [List.map_id] at hfold

/-- The slots of a list are dealt to other slices. -/
theorem foldl_deal {slots rest : List Nat} (hslots : ∀ v ∈ slots, v < 64) (hne : rest ≠ []) (hrest : ∀ m ∈ rest, m < 72 ∧ m ≠ n)
    (s : State) : MovesOff n s ((deal slots [] rest).foldl (fun u e => u.moveSlot n e.1 e.2 true) s) slots := by
  obtain ⟨hmap, hmem⟩ := deal_of_rest (slots := slots) hne
  have hfold := foldl (n := n) (slot := (·.1)) (l := deal slots [] rest) (g := fun u e => u.moveSlot n e.1 e.2 true)
    (fun u e he => moveSlot u n (hslots e.1 (hmap ▸ List.mem_map_of_mem he)) (hrest e.2 (hmem e he)).1 (hrest e.2 (hmem e he)).2 _) s
  rwa [hmap] at hfold

/-- The new home's part of the directory is set up. -/
theorem setAll_adopted (s : State) {m : Nat} (hm : m < 72) (stack index : Nat) :
    MovesOff n s (s.setAll [(F.homRoleAdopted m, 1), (F.dirPartStack m, stack), (F.dirPartIndex m, index)]) [] := by
  refine of_same (fun w hw => State.get_setAll_of_ne _ ?_) (State.get_setAll_of_ne _ ?_)
    (congrArg (fun h : HomeUnit => (h.txns, h.snoops)) (State.setAll_home ..))
  all_goals
    simp only [List.forall_mem_cons, Fld.key, F.homRoleAdopted, F.dirPartStack, F.dirPartIndex, F.hubHomemapSlice, F.homRole]
    refine ⟨?_, ?_, ?_, by simp⟩ <;> omega

end State.MovesOff

/-- A region's idle spare, or an active slice of another region, takes the slots of a slice that is retired (R191). -/
theorem State.failSlice_movesOff {s : State} {n m : Nat} (hm : m < 72) (hne : m ≠ n) (hpower : s.regionPowered (m / 9) = true)
    (hrole : s.get (F.homRole m) = 0 ∨ (s.get (F.homRole m) = 1 ∧ m / 9 ≠ n / 9)) :
    State.MovesOff n (s.sliceRetired n) (s.failSlice n) (s.slotsOf n) := by
  have hslots : ∀ v ∈ s.slotsOf n, v < 64 := fun v hv => (State.mem_slotsOf.1 hv).1
  have hgone : (s.sliceRetired n).get (F.homRole n) = 2 := s.sliceRetired_role n
  have hoff {k role : Nat} {f : Nat → Bool} (h2 : role ≠ 2) (hk : k ∈ (s.sliceRetired n).slicesOf role f) : k < 72 ∧ k ≠ n :=
    State.ne_of_mem_slicesOf hgone h2 hk
  have hhas {role : Nat} {f : Nat → Bool} (h : s.get (F.homRole m) = role) (hf : f (m / 9) = true) :
      m ∈ (s.sliceRetired n).slicesOf role f :=
    State.mem_slicesOf.2 ⟨hm, (s.sliceRetired_role_of_ne hne).trans h, (s.sliceRetired_regionPowered n _).trans hpower, hf⟩
  refine .afterMove ?_ ..
  split
  next k rest hnear =>
    have hk : k < 72 ∧ k ≠ n := hoff (by decide) (hnear ▸ List.mem_cons_self ..)
    split
    next hempty =>
      rw [hempty]
      exact .refl n (s.sliceRetired n)
    next =>
      refine .trans_same (.trans (l := []) ?_ (.foldl_moveSlot hslots hk _ _)) (.setAll_adopted _ hk.1 _ _)
      exact .of_same (fun _ _ => rfl) rfl rfl
  next hnear =>
    have hpart : State.MovesOff n (s.sliceRetired n) ((s.sliceRetired n).dropPartition n) [] := .of_same (fun _ _ => rfl) rfl rfl
    have hidle : s.get (F.homRole m) = 0 → m / 9 ≠ n / 9 := fun h0 hsame =>
      List.not_mem_nil (hnear ▸ hhas (f := (· == n / 9)) h0 (by simp [hsame]))
    dsimp only
    split
    next k rest hfar =>
      have hk : k < 72 ∧ k ≠ n := hoff (by decide) (f := (· != n / 9)) (hfar ▸ List.mem_cons_self ..)
      exact hpart.trans (.foldl_moveSlot hslots hk (fun _ _ => true) _)
    next hfar =>
      have hactive : s.get (F.homRole m) = 1 ∧ m / 9 ≠ n / 9 := by
        refine hrole.resolve_left fun h0 => ?_
        exact List.not_mem_nil (hfar ▸ hhas (f := (· != n / 9)) h0 (by simpa using hidle h0))
      have htaker := hhas (f := (· != n / 9)) hactive.1 (by simpa using hactive.2)
      exact hpart.trans (.foldl_deal hslots (List.ne_nil_of_mem htaker) (fun k hk => hoff (by decide) hk) _)

/-- Settles O19: the slice is retired before its slots move, each to another slice, and Lodestar leaves the homes as they are then. -/
theorem aRetiredSliceServesNoSlot : Obligations.ARetiredSliceServesNoSlot := by
  unfold Obligations.ARetiredSliceServesNoSlot
  intro s n m hne hpower hrole
  obtain ⟨hserved, hretired, hwaits⟩ := State.failSlice_movesOff m.isLt (Fin.val_ne_of_ne hne) hpower hrole
  rw [s.sliceRetired_homeWaits] at hwaits
  obtain ⟨htxns, hsnoops⟩ := Prod.mk.inj hwaits
  refine ⟨fun v => hserved v v.isLt ?_, hretired.trans (s.sliceRetired_role n.val), ?_, ?_⟩
  · rw [s.sliceRetired_slotSlice n.val v.isLt, State.mem_slotsOf]
    by_cases hslot : s.slotSlice v.val = n.val
    · exact .inl ⟨v.isLt, hslot⟩
    · exact .inr hslot
  · rw [htxns]
    simp
  · rw [hsnoops]
    simp

end Sys2Proof.Machine

/-! Failovers begin, re-issue, and end (R191 to R196, R473). -/
namespace Sys2Proof.Machine

@[simp] theorem State.at_slotSlice (s : State) (t v : Nat) : (s.at t).slotSlice v = s.slotSlice v := s.at_get t _

@[simp] theorem State.raise_units (s : State) (code : Nat) (auds : List Nat) : (s.raise code auds).units = s.units :=
  foldl_keeps State.units (fun u a => u.raiseOne_units code a) _ s

section
variable {s r : State} {n g t : Nat}

/-- With no failover running a slice's failover begins at once. -/
theorem State.beginFailover_slice (hnone : s.home.failover = none) (hn : n < 72) : s.beginFailover n = s.failSlice n := by
  simp [State.beginFailover, hnone, hn]

theorem State.stackLoss_of_idle (hstands : g ∉ s.home.lostStacks) (hnone : s.home.failover = none) : s.stackLoss g = s.failStack g := by
  simp [State.stackLoss, State.beginFailover, hstands, hnone]

theorem doHomeSliceFailover_of_serving (hr : r = (s.at t).takeReaction (inSlice n).1 (inSlice n).2) (hn : n < 72)
    (hrole : r.get (F.homRole n) ≠ 2) (hwaits : n ∉ r.home.waiting) (hnone : r.home.failover = none) :
    doHomeSliceFailover n t s = r.failSlice n := by
  rw [doHomeSliceFailover, ← hr, ← State.beginFailover_slice hnone hn]
  exact if_neg (by simp [hrole, hwaits])

theorem doHomeSliceFailover_of_retired (hr : r = (s.at t).takeReaction (inSlice n).1 (inSlice n).2)
    (hrole : r.get (F.homRole n) = 2) : doHomeSliceFailover n t s = r := by
  rw [doHomeSliceFailover, ← hr]
  exact if_pos (.inl hrole)

theorem doHbmStackLoss_of_standing (hr : r = (s.at t).takeReaction (inHbm g).1 (inHbm g).2) (hwaits : 72 + g ∉ r.home.waiting)
    (hstands : g ∉ r.home.lostStacks) (hnone : r.home.failover = none) : doHbmStackLoss g t s = r.failStack g := by
  rw [doHbmStackLoss, ← hr, ← State.stackLoss_of_idle hstands hnone]
  exact if_neg (by simp [hwaits])

end

/-! Re-issue of a shadow (R192). -/

/-- The transaction of a request that has a tracker at a slice. -/
def Shadow.txn (x : Shadow) (id n : Nat) (replay : Bool) : Txn :=
  ⟨id, n, x.line, .req x.op, x.cell, x.tag, x.agent, x.fnl, x.berth, x.data, x.mask, replay, .queued, [], none, 0, 0, false, false, none, 0,
    none, false, false, none⟩

/-- A request gets a tracker: its transaction joins the others, and no other unit changes. -/
theorem State.addTxn_units (s : State) (n : Nat) (x : Shadow) (replay : Bool) : (s.addTxn n x replay).units =
    (s.modHome fun u => { u with next := u.next + 1, txns := u.txns ++ [x.txn u.next n replay] }).units :=
  (State.count_units ..).trans (State.set_units ..)

/-- A reply to a cell's request leaves the module, whatever else it raises (R174, R184). -/
theorem State.homeReply_units (s : State) {cell : Nat} (h : cell < 1024) (tag : Nat) (berth : Option Nat) (what : HomeReply) (status : Nat)
    (data : Option Nat) (poison : Bool) : ∃ e, (s.homeReply cell tag berth what status data poison).units = (s.emit e).units := by
  unfold State.homeReply
  extract_lets s1
  have hs1 : s1.units = s.units := by
    dsimp only [s1]
    split
    · exact s.raise_units ..
    · rfl
  rw [if_pos h]
  exact ⟨_, (s1.emit_units _).trans ((congrArg (State.emit · _) hs1).trans (s.emit_units _).symm)⟩

section
variable {s : State} {x : Shadow} {p : Nat}

/-- A cell with one shadow whose slot moved re-issues that one. -/
theorem doShadowReissue_of_single (hshadows : s.home.shadows = [x]) (hcell : x.cell = p) (hmoved : x.moved = true) (t : Nat) :
    doShadowReissue p t s = (s.at t).reissue x := by
  simp [doShadowReissue, hshadows, hcell, hmoved]

/-- What a re-issue makes of the homes before the request gets its tracker. -/
def State.reissuing (s : State) (x : Shadow) : State :=
  s.modHome fun u => { u with
    shadows := u.shadows.map (fun y => if y = x then { x with count := x.count + 1, moved := false } else y)
    failover := u.failover.map fun f => { f with berths := (f.berths ++ x.berth.toList).eraseDups } }

theorem State.reissue_of_lt (h : x.count < 3) : s.reissue x = (s.reissuing x).addTxn (s.slotSlice x.slot) x true :=
  if_neg (by omega)

/-- A request re-issued three times is answered, and its shadow is freed. -/
theorem State.reissue_of_three (hcount : x.count = 3) (hcell : x.cell < 1024) :
    ∃ e, (s.reissue x).units = ((s.emit e).freeShadow x.cell x.tag).units := by
  obtain ⟨e, he⟩ := s.homeReply_units hcell x.tag x.berth (rowReply x.op false false) stPoison
    (if hasPayload x.op || x.op == .evictS then none else some 0) (!hasPayload x.op && x.op != .evictS)
  have hreissue : s.reissue x = _ := if_pos (by omega)
  exact ⟨e, (congrArg State.units hreissue).trans (congrArg (State.freeShadow · x.cell x.tag) he)⟩

end

/-! A failover ends, and work restarts at a new home (R192, R196, R473). -/

section
variable {s r : State} {t : Nat}

/-- With no moved shadow left and no failover waiting, the end is announced and the copy engines' requests are admitted. -/
theorem doHomeFailoverDone_of_settled {f : Failover} (hr : r = s.at t) (hfailover : r.home.failover = some f)
    (hmoved : ∀ x ∈ r.home.shadows, x.moved = false) (hwaits : r.home.waiting = []) : doHomeFailoverDone t s =
      (((r.raise (if f.stack then atDegraded else atHome) (audPilot :: (f.berths ++ r.ownersOf f.slots))).modHome fun u =>
        { u with failover := none }).admitEngines) := by
  have hany : (r.home.shadows.any fun x => x.moved && decide (x.cell < 1024)) = false :=
    List.any_eq_false.2 fun x hx => by simp [hmoved x hx]
  have hfilter : r.home.shadows.filter (·.moved) = [] := List.filter_eq_nil_iff.2 fun x hx => by simp [hmoved x hx]
  have hraised (code : Nat) (auds : List Nat) : (r.raise code auds).home.waiting = [] :=
    (congrArg HomeUnit.waiting (State.home_of_units (r.raise_units code auds))).trans hwaits
  rw [doHomeFailoverDone, ← hr]
  simp [hfailover, hany, hfilter, hraised]

theorem State.reissued_of_forall {n : Nat} (h : ∀ x ∈ s.home.shadows, x.moved = true → s.slotSlice x.slot ≠ n) :
    s.reissued n = true := by
  have hany : (s.home.shadows.any fun x => x.moved && decide (x.cell < 1024) && s.slotSlice x.slot == n) = false :=
    List.any_eq_false.2 fun x hx => by
      by_cases hmoved : x.moved = true
      · simp [hmoved, h x hx hmoved]
      · simp [hmoved]
  simp [State.reissued, hany]

end

/-- Settles O18: each command is one operation of a failover, in the case the clause names. -/
theorem failoverCompletes : Obligations.FailoverCompletes := by
  unfold Obligations.FailoverCompletes
  refine ⟨fun s r n t hr hrole hwaits hnone => ?slice, fun s r n t hr hrole => ?retired, fun s r g t hr hwaits hstands hnone => ?stack,
    fun s p t x hshadows hcell hmoved hcount => ?reissue, fun s p t x hshadows hcell hmoved hcount => ?answered,
    fun s t f hfailover hmoved hwaits => ?done, fun s r n t hr hdue hadmitted => ?restart, fun s n t hdue => ?noRestart⟩
  case slice => exact congrArg Host.Outcome.next (doHomeSliceFailover_of_serving hr n.isLt hrole hwaits hnone)
  case retired => exact congrArg Host.Outcome.next (doHomeSliceFailover_of_retired hr hrole)
  case stack => exact congrArg Host.Outcome.next (doHbmStackLoss_of_standing hr hwaits hstands hnone)
  case reissue =>
    have hrun := (doShadowReissue_of_single hshadows hcell hmoved t).trans (State.reissue_of_lt hcount)
    have hunits := ((s.at t).reissuing x).addTxn_units ((s.at t).slotSlice x.slot) x true
    have hhome := State.home_of_units hunits
    refine ⟨_, congrArg Host.Outcome.next hrun, ?_, ⟨x.txn s.home.next (s.slotSlice x.slot) true, ?_, rfl, rfl, rfl, rfl, rfl, rfl⟩,
      (State.sent_of_units hunits).trans (s.at_sent t), (State.chart_of_units hunits).trans (s.at_chart t),
      (State.core_of_units hunits).trans (s.at_core t)⟩
    · rw [hhome]
      simp [State.reissuing, State.modHome, hshadows]
    · rw [hhome]
      simp [State.reissuing, State.modHome]
  case answered =>
    have hrun := doShadowReissue_of_single hshadows hcell hmoved t
    obtain ⟨e, hunits⟩ := State.reissue_of_three (s := s.at t) hcount (hcell.trans_lt p.isLt)
    have hhome := State.home_of_units hunits
    refine ⟨_, congrArg Host.Outcome.next hrun, ?_, ?_, e, (State.sent_of_units hunits).trans (congrArg (e :: ·) (s.at_sent t))⟩
    · rw [hhome]
      simp [State.freeShadow, State.modHome, State.emit, hshadows]
    · rw [hhome]
      simp [State.freeShadow, State.modHome, State.emit]
  case done =>
    refine congrArg Host.Outcome.next (doHomeFailoverDone_of_settled rfl ?_ ?_ ?_)
    all_goals rw [s.at_home]
    exacts [hfailover, hmoved, hwaits]
  case restart =>
    subst hr
    have hdone : (s.at t).home.restarts.contains n.val = true ∧ (s.at t).reissued n.val = true := by
      refine ⟨by simpa using hdue, State.reissued_of_forall ?_⟩
      simpa using hadmitted
    have hrun : doHomeWorkRestart n.val t s = _ := if_pos (by rw [hdone.1, hdone.2]; rfl)
    exact congrArg Host.Outcome.next hrun
  case noRestart =>
    have hrun : doHomeWorkRestart n.val t s = s.at t := if_neg (by simp [hdue])
    exact congrArg Host.Outcome.next hrun

end Sys2Proof.Machine

/-! What homes do besides requests (R164, R175, R177, R188, R195, R197, R200). -/
namespace Sys2Proof.Machine

@[simp] theorem State.at_lvc (s : State) (t : Nat) : (s.at t).lvc = s.lvc := by rw [State.at_eq]
@[simp] theorem State.at_lineHome (s : State) (t line : Nat) : (s.at t).lineHome line = s.lineHome line := s.at_slotSlice t _

/-! The dead-agent sweep (R188). -/

/-- A sweep has visited every entry it found: it runs, and no line, transaction or restart of it is left. -/
abbrev State.sweepVisited (s : State) : Prop :=
  s.flag F.hubDeadsweepBusy = true ∧ s.home.sweepTodo = [] ∧ (∀ x ∈ s.home.txns, x.job ≠ .sweep) ∧ s.home.restarts = []

section
variable {s r : State} {t : Nat}

theorem State.sweepVisited_iff : (s.flag F.hubDeadsweepBusy && s.home.sweepTodo.isEmpty && !(s.home.txns.any fun x => x.job == .sweep) &&
    s.home.restarts.isEmpty) = true ↔ s.sweepVisited := by
  simp [and_assoc]

theorem doDeadAgentSweepDone_of_visited (hr : r = (s.at t).settle) {a : Fin 64} (ha : r.get F.hubDeadsweepAgent = a.val)
    (hvisited : r.sweepVisited) : doDeadAgentSweepDone t s =
      (((r.setAll [(F.hubAgentSwept a.val, 1), (F.hubDeadsweepBusy, 0), (F.hubDeadsweepDone, 1)]).modHome fun u => { u with
        sweeps := u.sweeps.filter (· != a.val) }).releaseFor (.deadSweep a)).askSweep := by
  rw [doDeadAgentSweepDone, ← hr]
  dsimp only
  rw [if_pos (State.sweepVisited_iff.2 hvisited), dif_pos (ha.trans_lt a.isLt)]
  simp only [ha]

theorem doDeadAgentSweepDone_of_unvisited (hr : r = (s.at t).settle) (h : ¬r.sweepVisited) : doDeadAgentSweepDone t s = r := by
  rw [doDeadAgentSweepDone, ← hr]
  exact if_neg (h ∘ State.sweepVisited_iff.1)

end

/-! The Pilot's register writes at the homes (R188, R197, R200). -/

section
variable {s : State} {src : Sess} {who : Principal}

/-- A register write of a session has its effect and is answered Success. -/
theorem State.regCommand_acts (hserves : s.serves src who) {rights : Principal → Bool} (hr : rights who = true)
    {act : Principal → State → State × Nat} {effect : State → State} (h : act who (s.touch src) = (effect (s.touch src), stOk)) :
    s.regCommand src rights act = s.acts src effect := by
  rw [State.regCommand_served hserves hr, h]
  rfl

/-- A register write that a rule refuses is answered DENIED and changes nothing. -/
theorem State.regCommand_denied (hserves : s.serves src who) {rights : Principal → Bool} (hr : rights who = true)
    {act : Principal → State → State × Nat} (h : act who (s.touch src) = (s.touch src, stDenied)) :
    s.regCommand src rights act = (s.touch src).respond src (cciOf stDenied) stDenied 0 [] := by
  rw [State.regCommand_served hserves hr, h]

theorem reviveAgent_of_swept {a : Nat} (hdead : s.agentDead a = true) (hswept : s.flag (F.hubAgentSwept a) = true) :
    reviveAgent a s = ((s.set (F.hubAgentDead a) 0).set (F.hubAgentMisses a) 0, stOk) := by
  simp [reviveAgent, hdead, hswept, State.setAll]

theorem reviveAgent_of_unswept {a : Nat} (hdead : s.agentDead a = true) (hswept : s.flag (F.hubAgentSwept a) = false) :
    reviveAgent a s = (s, stDenied) := by
  simp [reviveAgent, hdead, hswept]

theorem startWindowFlush_of_running (h : s.flag F.hubWflushBusy = true) : startWindowFlush s = s := by
  simp [startWindowFlush, h]

/-- The flush of the window that HUB.WFLUSH names begins and asks for leave (R197). -/
def State.windowFlushAsked (s : State) : State :=
  (((s.set F.hubWflushBusy 1).set F.hubWflushstatLines 0).modHome fun h => { h with
    flushOn := false, flushWin := some (s.get F.hubWflushWindow), flushTodo := [] }).requestLeave .windowFlush

theorem startWindowFlush_of_idle (h : s.flag F.hubWflushBusy = false) : startWindowFlush s = s.windowFlushAsked := by
  simp [startWindowFlush, h, State.setAll, State.windowFlushAsked]

end

/-! Write-behind (R177). -/

section
variable {s r : State} {line t : Nat}

theorem doWriteBehind_of_due (hr : r = s.at t) (hdue : r.behindDue line = true) (hruns : r.behindRuns line = false)
    (hroom : r.mayOriginate (s.lineHome line) = true) : doWriteBehind line t s = (r.originate line .writeBehind).settle := by
  subst hr
  rw [← s.at_lineHome t] at hroom
  exact if_pos (by rw [hdue, hruns, hroom]; rfl)

theorem doWriteBehind_of_not_due (h : (s.at t).behindDue line = false) : doWriteBehind line t s = s.at t := by
  simp [doWriteBehind, h]

end

/-! The end of a window flush (R195, R197). -/

/-- A fold whose every step leaves the state leaves it. -/
theorem foldl_of_fixed {α : Type} {g : State → α → State} {s : State} {l : List α} (h : ∀ a ∈ l, g s a = s) : l.foldl g s = s := by
  induction l with
  | nil => rfl
  | cons a r ih => rw [List.foldl_cons, h a (List.mem_cons_self ..), ih fun b hb => h b (List.mem_cons_of_mem _ hb)]

/-- With no request deferred, a release ends the operation's slips and decides nothing. -/
theorem State.releaseFor_of_no_queue {s : State} (h : s.lvc.queue = []) (q : Purpose) : ∃ l, s.releaseFor q = { s with lvc := l } := by
  refine ⟨{ s.lvc with slips := s.lvc.slips.filter fun e => e.2.purpose != q }, ?_⟩
  simp [State.releaseFor, State.redecide, redecideOrder, h, State.redecideList]

/-- What the end of a window flush records before its leave is given back. -/
def State.flushRecorded (s : State) (w : Nat) : State :=
  (s.setAll [(F.hubWflushBusy, 0), (F.hubWflushDone, 1)]).modHome fun u => { u with
    flushOn := false, flushWin := none, flushedWins := u.flushedWins.map fun e => (e.1, w :: e.2) }

section
variable {s r : State} {t w : Nat}

/-- The end of a flush leaves every field but BUSY and DONE. -/
theorem State.flushRecorded_flag_of_ne (s : State) (w : Nat) {f : Fld} (hbusy : F.hubWflushBusy.key ≠ f.key)
    (hdone : F.hubWflushDone.key ≠ f.key) :
    (s.flushRecorded w).flag f = s.flag f :=
  congrArg (· == 1) (s.get_setAll_of_ne (by simp [hbusy, hdone]))

theorem State.flushRecorded_busy (s : State) (w : Nat) : (s.flushRecorded w).flag F.hubWflushBusy = false :=
  congrArg (· == 1) (s.get_setAll_of_mem [] [(F.hubWflushDone, 1)] (f := F.hubWflushBusy) (v := 0) (by decide))

theorem State.flushRecorded_done (s : State) (w : Nat) : (s.flushRecorded w).flag F.hubWflushDone = true :=
  congrArg (· == 1) (s.get_setAll_of_mem [(F.hubWflushBusy, 0)] [] (f := F.hubWflushDone) (v := 1) (by decide))

theorem hubHomemapUnknown_key_ne_hubWflush (v : Nat) :
    F.hubWflushBusy.key ≠ (F.hubHomemapUnknown v).key ∧ F.hubWflushDone.key ≠ (F.hubHomemapUnknown v).key := by
  simp only [Fld.key, F.hubWflushBusy, F.hubWflushDone, F.hubHomemapUnknown]
  omega

/-- With no leave deferred and no slot in unknown mode, the end of a flush records it and gives its leave back. -/
theorem doWindowFlushDone_of_finished (hr : r = s.at t) (hwin : r.home.flushWin = some w) (hon : r.home.flushOn = true)
    (htodo : r.home.flushTodo = []) (hrestarts : r.home.restarts = []) (htxns : ∀ x ∈ r.home.txns, x.job ≠ .flush)
    (hqueue : r.lvc.queue = []) (hknown : ∀ v < 64, r.flag (F.hubHomemapUnknown v) = false) :
    ∃ l, doWindowFlushDone t s = { r.flushRecorded w with lvc := l } := by
  have hended : (r.home.flushOn && r.home.flushTodo.isEmpty && r.home.restarts.isEmpty &&
      !(r.home.txns.any fun x => x.job == .flush)) = true := by
    simpa [hon, htodo, hrestarts] using htxns
  obtain ⟨l, hreleased⟩ := State.releaseFor_of_no_queue (s := r.flushRecorded w) hqueue .windowFlush
  refine ⟨l, ?_⟩
  rw [doWindowFlushDone, ← hr]
  dsimp only
  rw [hwin]
  dsimp only
  rw [if_pos hended, ← State.flushRecorded, hreleased]
  refine foldl_of_fixed fun v hv => if_neg ?_
  obtain ⟨hbusy, hdone⟩ := hubHomemapUnknown_key_ne_hubWflush v
  have hflag := (r.flushRecorded_flag_of_ne w hbusy hdone).trans (hknown v (List.mem_range.1 hv))
  change ¬((r.flushRecorded w).flag (F.hubHomemapUnknown v) && _) = true
  simp [hflag]

end

/-! Snoop responses that nothing waits for (R175). -/

theorem doSnoopResponse_late {s r : State} {port line t : Nat} (hr : r = s.at t) (hagent : r.chart.agentOfPort port = none)
    (husp : r.chart.uspOfPort port = none) (hshared : (r.chart.sharedWindow line).isSome = true) (down : Nat) (data : Option Nat) :
    doSnoopResponse port line down data t s = r.bump (F.homErrstatLateRsp (r.lineHome line)) 1 := by
  rw [doSnoopResponse, ← hr]
  simp [hagent, husp, hshared]

/-- Settles O17: each clause is one command in the case it names. -/
theorem homeUpkeepCompletes : Obligations.HomeUpkeepCompletes := by
  unfold Obligations.HomeUpkeepCompletes
  refine ⟨fun s r t a hr ha hbusy htodo htxns hrestarts => ?swept, fun s r t hr hleft => ?sweeping,
    fun s src who hserves hpilot => ⟨fun a hdead hswept => ?revived, fun a hdead hswept => ?denied, fun hbusy => ?flushRuns,
      fun hidle => ?flushStarts, fun n hreach => ?peak⟩,
    fun s r line t hr hdue hruns hroom => ?behind, fun s line t hdue => ?notDue,
    fun s r t w hr hwin hon htodo hrestarts hqueue htxns hknown => ?flushed, fun s r port line d t hr hagent husp hshared => ?late⟩
  case swept => exact congrArg Host.Outcome.next (doDeadAgentSweepDone_of_visited hr ha ⟨hbusy, htodo, htxns, hrestarts⟩)
  case sweeping =>
    refine congrArg Host.Outcome.next (doDeadAgentSweepDone_of_unvisited hr ?_)
    rintro ⟨hbusy, htodo, htxns, hrestarts⟩
    obtain h | h | h | ⟨x, hx, hjob⟩ := hleft
    · rw [hbusy] at h
      cases h
    · exact h htodo
    · exact h hrestarts
    · exact htxns x hx hjob
  case revived =>
    exact congrArg Host.Outcome.next (State.regCommand_acts hserves hpilot (reviveAgent_of_swept (s := s.touch src) hdead hswept))
  case denied =>
    exact congrArg Host.Outcome.next (State.regCommand_denied hserves hpilot (reviveAgent_of_unswept (s := s.touch src) hdead hswept))
  case flushRuns =>
    exact congrArg Host.Outcome.next (State.regCommand_acts (effect := fun u => u) hserves hpilot
      (congrArg (·, stOk) (startWindowFlush_of_running (s := s.touch src) hbusy)))
  case flushStarts =>
    exact congrArg Host.Outcome.next (State.regCommand_acts (effect := State.windowFlushAsked) hserves hpilot
      (congrArg (·, stOk) (startWindowFlush_of_idle (s := s.touch src) hidle)))
  case peak => exact congrArg Host.Outcome.next (State.regCommandAt_acts hserves hreach hpilot (clearTrkPeak n.val))
  case behind => exact congrArg Host.Outcome.next (doWriteBehind_of_due hr hdue hruns hroom)
  case notDue => exact congrArg Host.Outcome.next (doWriteBehind_of_not_due hdue)
  case flushed =>
    have hhome : r.home = s.home := hr ▸ s.at_home t
    have hdir : r.home.dir = s.home.dir := congrArg HomeUnit.dir hhome
    have hsame : r.home.txns = s.home.txns := congrArg HomeUnit.txns hhome
    rw [← hhome] at hwin hon htodo hrestarts htxns
    obtain ⟨l, hrun⟩ := doWindowFlushDone_of_finished hr hwin hon htodo hrestarts htxns (by rw [hr, s.at_lvc, hqueue])
      fun v hv => by rw [hr, s.at_flag, hknown ⟨v, hv⟩]
    exact ⟨_, congrArg Host.Outcome.next hrun, r.flushRecorded_busy w, r.flushRecorded_done w, rfl, hdir, hsame, hr ▸ s.at_chart t⟩
  case late =>
    have hrun (down : Nat) (data : Option Nat) : doSnoopResponse port.val line.val down data t s =
        r.bump (F.homErrstatLateRsp (s.lineHome line.val)) 1 := by
      have hline : r.lineHome line.val = s.lineHome line.val := hr ▸ s.at_lineHome t _
      have hchart : r.chart = s.chart := hr ▸ s.at_chart t
      rw [← hchart] at hagent husp hshared
      rw [doSnoopResponse_late hr hagent husp hshared, hline]
    have hnext (down : Nat) (data : Option Nat) := congrArg (Host.Outcome.next (φ := Fault) (ρ := Refusal)) (hrun down data)
    exact ⟨hnext .., hnext .., hnext .., hnext ..⟩

end Sys2Proof.Machine

/-! A coherent request asks its home (R164, R189). -/
namespace Sys2Proof.Machine

/-- A message taken out of staging is gone from it; bolt memory, the chart, the kept state and the homes stay. -/
theorem State.dropStaged_plane (s : State) (m : Msg) :
    (s.dropStaged m).plane = ((s.core.staged.filter (· != m), s.core.bolt), s.chart, s.nv, s.home) := by
  unfold State.dropStaged
  extract_lets _ s1
  exact State.plane_ite rfl (s1.returnCredits_plane m)

/-- The shadow that a request is admitted with, its payload placed in its home's region. -/
def State.placed (s : State) (n : Nat) (x : Shadow) : Shadow :=
  { x with region := n / 9, payload := hasPayload x.op, seg := if hasPayload x.op then s.segPlace (n / 9) none else 0 }

/-- A request that is admitted leaves its shadow and a queued transaction at its home. -/
theorem State.keepShadow_units (s : State) (n : Nat) (x : Shadow) : ∃ d, (s.keepShadow n x).units =
    ((s.modHome fun u => { u with shadows := u.shadows ++ [s.placed n x], next := u.next + 1,
                                  txns := u.txns ++ [(s.placed n x).txn u.next n false] }).modCore fun u => { u with draws := d }).units :=
  ⟨_, State.addTxn_units ..⟩

/-- The shadow of a staged request. -/
def State.shadowOf (s : State) (p : Nat) (m : Msg) (q : CohReq) : Shadow :=
  ⟨p, m.id, q.op, m.addr / 64, slotOf (m.addr / 64), m.point, m.tack,
    match q.port with | some i => s.chart.agentOfPort i.val | none => s.chart.agentOfUsp p,
    s.chart.isFnl p, m.berth, q.data, q.mask, s.lineHome (m.addr / 64) / 9, 0, false, 0, false⟩

section
variable {s r : State} {p g t : Nat} {fc : FcClass} {m : Msg} {q : CohReq} (hr : r = s.at t) (hhead : r.stagingHead p fc g = some m)
  (hcoh : m.coh = some q) (hsafe : r.safeOn = false)
  (hroom : (r.home.shadows.filter fun x => x.cell == p).length < 512 * r.chart.cells p)
include hr hhead hcoh hsafe hroom

theorem doHomeAdmission_of_granted (hgrants : r.homeGrants (r.lineHome (m.addr / 64)) (m.addr / 64) m.berth = true) :
    doHomeAdmission p fc g t s = (r.dropStaged m).keepShadow (r.lineHome (m.addr / 64)) (r.shadowOf p m q) := by
  simp only [doHomeAdmission, ← hr, hhead, hcoh, hsafe, hgrants, Bool.false_or, decide_eq_true_eq, if_neg (not_le.2 hroom), if_true]
  rfl

theorem doHomeAdmission_of_refused (hgrants : r.homeGrants (r.lineHome (m.addr / 64)) (m.addr / 64) m.berth = false)
    (hfnl : r.chart.isFnl p = true) : doHomeAdmission p fc g t s =
      ((r.count (ctrHom (r.lineHome (m.addr / 64))) 0x42 anySub m.berth 1).dropStaged m).homeReply p m.id m.berth .retry stRetry none
        false := by
  simp only [doHomeAdmission, ← hr, hhead, hcoh, hsafe, hgrants, hfnl, Bool.false_or, decide_eq_true_eq, if_neg (not_le.2 hroom), if_true,
    Bool.false_eq_true, if_false]

end

/-- An admitted request has left staging for its shadow and its transaction. -/
theorem State.admitted_shows (r : State) (m : Msg) (n : Nat) (x : Shadow) : ∃ u : State, (r.dropStaged m).keepShadow n x = u ∧
    u.core.staged = r.core.staged.filter (· != m) ∧ u.home.shadows = r.home.shadows ++ [(r.dropStaged m).placed n x] ∧
    u.home.txns = r.home.txns ++ [((r.dropStaged m).placed n x).txn r.home.next n false] ∧ u.home.dir = r.home.dir ∧
    u.chart = r.chart ∧ u.nv = r.nv := by
  obtain ⟨d, hunits⟩ := (r.dropStaged m).keepShadow_units n x
  obtain ⟨hmsgs, hrest⟩ := Prod.mk.inj (r.dropStaged_plane m)
  obtain ⟨hchart, hrest⟩ := Prod.mk.inj hrest
  obtain ⟨hnv, hhome⟩ := Prod.mk.inj hrest
  have hkept := State.home_of_units hunits
  refine ⟨_, rfl, ?_, ?_, ?_, ?_, (State.chart_of_units hunits).trans hchart, (State.nv_of_units hunits).trans hnv⟩
  · rw [State.core_of_units hunits]
    exact congrArg (·.1) hmsgs
  all_goals
    rw [hkept]
    simp only [State.modCore, State.modHome, hhome]

/-! A request becomes active at its line (R165, R172, R175). -/

section
variable {s r : State} {line t : Nat} {x : Txn} {op : CohOp} (hfront : r.queueFront line = some x) (hstage : x.stage = .queued)
  (hop : r.opNow x = some op)
include hfront hstage hop

/-- The line's oldest transaction, waiting for an opcode, is the one that the opcode's command finds. -/
theorem State.find?_of_queueFront : (r.home.txns.filter fun y => y.line == line && y.stage == .queued && r.opNow y == some op).find? (fun y =>
    ((op == .wrBack || op == .wrClean) && y.agent.any (fun a => (r.snoopTo a line).isSome))
      || (r.queueFront line).map (·.id) == some y.id) = some x := by
  have hfind : r.home.txns.find? (fun y => y.line == line) = some x := by
    rw [State.queueFront] at hfront
    split at hfront
    · cases hfront
    · exact hfront
  obtain ⟨hline, before, after, htxns, hbefore⟩ := List.find?_eq_some_iff_append.1 hfind
  rw [List.find?_filter, List.find?_eq_some_iff_append]
  refine ⟨by simp [hline, hstage, hop, hfront], before, after, htxns, fun y hy => ?_⟩
  have hother : (y.line == line) = false := by simpa using hbefore y hy
  simp [hother]

/-- The row of a request that is no write-back, or whose agent is not snooped for the line, begins. -/
theorem doActivate_of_unsnooped (hr : r = s.at t) (h : op = .wrBack ∨ op = .wrClean → (x.agent.bind fun a => r.snoopTo a line) = none) :
    doActivate op line t s = (r.startTxn x).settle := by
  have hnone : (if op = .wrBack ∨ op = .wrClean then x.agent.bind fun a => r.snoopTo a line else none) = none := by
    split_ifs with hwrites
    · exact h hwrites
    · rfl
  simp only [doActivate, ← hr, State.find?_of_queueFront hfront hstage hop, hnone]

/-- A write-back that meets a snoop to its agent is taken as the snoop's data. -/
theorem doActivate_of_snooped (hr : r = s.at t) (hwrites : op = .wrBack ∨ op = .wrClean) {y : Snoop}
    (hsnoop : (x.agent.bind fun a => r.snoopTo a line) = some y) : doActivate op line t s = (r.captureWrite x y).settle := by
  simp only [doActivate, ← hr, State.find?_of_queueFront hfront hstage hop, if_pos hwrites, hsnoop]

end

/-! Snoops from other modules' homes (R183). -/

section
variable {s r : State} {p t : Nat} (hr : r = s.at t) (hup : s.flag (F.celLinkstatUp p) = true) (tag : Nat) (op : SnpOp) {port : Nat}
  (line : Nat)
include hr hup

theorem doSnoopIn_of_unbound (hport : s.chart.uspOfPort port = none) : doSnoopIn p tag op port line t s =
    (r.bump (F.celStaleReqUnbound p) 1).emit (.answer p tag (.fnlStatus stUnbound)) := by
  subst hr
  simp [doSnoopIn, hup, hport]

theorem doSnoopIn_of_usp {h : Nat} (hport : s.chart.uspOfPort port = some h) : doSnoopIn p tag op port line t s =
    (r.modHome fun u => { u with forwarded := u.forwarded ++ [(p, tag, h, line)] }).emit (.hostSnoop h op line) := by
  subst hr
  simp [doSnoopIn, hup, hport]

/-- A snoop for a host of this module is passed on, and kept until the host answers. -/
theorem doSnoopIn_forwards {h : Nat} (hport : s.chart.uspOfPort port = some h) : ∃ u : State, doSnoopIn p tag op port line t s = u ∧
    u.sent = .hostSnoop h op line :: s.sent ∧ u.home.forwarded = s.home.forwarded ++ [(p, tag, h, line)] ∧ u.regs = s.regs := by
  refine ⟨_, doSnoopIn_of_usp hr hup tag op line hport, ?_, ?_, hr ▸ s.at_regs t⟩
  · exact congrArg (_ :: ·) (hr ▸ s.at_sent t)
  · exact congrArg (fun u : HomeUnit => u.forwarded ++ [(p, tag, h, line)]) (hr ▸ s.at_home t)

end

/-! Snoops end (R77, R172, R185, R186). -/

section
variable {s r : State} {port line t a : Nat} {x : Snoop} (hr : r = s.at t)
include hr

theorem doSnoopResponse_of_fresh (hagent : r.chart.agentOfPort port = some a) (hsnoop : r.snoopTo a line = some x)
    (hfresh : r.staleSnoop x a = false) (down : Nat) (data : Option Nat) :
    doSnoopResponse port line down data t s = r.answerSnoop x a down data := by
  simp [doSnoopResponse, ← hr, hagent, hsnoop, hfresh]

theorem doSnoopResponse_of_stale (hagent : r.chart.agentOfPort port = some a) (hsnoop : r.snoopTo a line = some x)
    (hstale : r.staleSnoop x a = true) (down : Nat) (data : Option Nat) :
    doSnoopResponse port line down data t s = (r.bump (F.celStaleRspDiscard (r.chart.agentLink a)) 1).raiseBinding x.berth := by
  simp [doSnoopResponse, ← hr, hagent, hsnoop, hstale]

theorem doSnoopTimeout_of_late (hsnoop : r.snoopTo a line = some x) (hruns : r.snoopRuns a = true)
    (hlate : SMap.getD x.sent a 0 + usec (r.get (F.homSnpctlTimeout x.home)) ≤ r.now) :
    doSnoopTimeout line a .timeout t s = ((r.reportAt (inSlice x.home) 1).expireSnoop x a).askSweep := by
  simp [doSnoopTimeout, ← hr, hsnoop, hruns, hlate]

theorem doSnoopTimeout_of_early (hsnoop : r.snoopTo a line = some x)
    (hearly : r.now < SMap.getD x.sent a 0 + usec (r.get (F.homSnpctlTimeout x.home))) : doSnoopTimeout line a .timeout t s = r := by
  simp [doSnoopTimeout, ← hr, hsnoop, not_le.2 hearly]

theorem doSnoopTimeout_of_unbound (hsnoop : r.snoopTo a line = some x) (hstale : r.staleSnoop x a = true) :
    doSnoopTimeout line a .unbound t s =
      (((r.bump (F.celStaleReqUnbound (r.chart.agentLink a)) 1).raiseBinding x.berth).expireSnoop x a).askSweep := by
  simp [doSnoopTimeout, ← hr, hsnoop, hstale]

theorem doSnoopTimeout_of_flushed (hsnoop : r.snoopTo a line = some x) (hruns : r.snoopRuns a = false)
    (hflushed : r.flag (F.fnlLinkstatFlushed (r.chart.agentLink a)) = true) :
    doSnoopTimeout line a .flushed t s = (r.expireSnoop x a).askSweep := by
  simp [doSnoopTimeout, ← hr, hsnoop, hruns, hflushed]

end

@[simp] theorem State.at_snoopTo (s : State) (t a line : Nat) : (s.at t).snoopTo a line = s.snoopTo a line := by
  rw [State.snoopTo, State.snoopTo, s.at_home]

/-- A BIConflict with no snoop to its host out is answered at once (R183). -/
theorem doBiconflict_of_no_snoop {s : State} {p line : Nat}
    (hown : ((s.chart.agentOfUsp p).any fun a => (s.snoopTo a line).isSome) = false)
    (hforwarded : (s.home.forwarded.any fun f => f.2.2.1 == p && f.2.2.2 == line) = false) (tag t : Nat) :
    doBiconflict p tag line t s = (s.at t).emit (.biConflictAck p tag) := by
  simp only [doBiconflict, State.at_chart, State.at_home, State.at_snoopTo, hown, hforwarded]
  rfl

/-- A pool read that returns puts its line in the memory-side cache, and its transaction goes on (R181). -/
theorem doPoolResponse_of_read {s r : State} {line t : Nat} {x : Txn} (hr : r = s.at t)
    (hfind : r.home.txns.find? (fun y => y.line == line && y.stage == .read && y.value.isNone) = some x) (data : Nat)
    (poison : Bool) {status : Nat} (hstatus : status = 0) : doPoolResponse line false data poison status t s =
      ((((r.cachePut line (data % 2 ^ 512) poison).setTxn { x with
        value := some (data % 2 ^ 512, poison), status := 0 }).proceed 32 x.id).settle) := by
  subst hstatus
  simp only [doPoolResponse, ← hr, State.poolReadDone, hfind, Bool.false_eq_true, if_false, if_true]

/-- Settles O15: each clause is one command in the case it names; the commands of one kind share their case. -/
theorem homeRequestsComplete : Obligations.HomeRequestsComplete := by
  unfold Obligations.HomeRequestsComplete
  refine ⟨fun s r p fc g t m q hr hhead hcoh hsafe hroom => ⟨fun hgrants => ?granted, fun hgrants hfnl => ?refused⟩,
    fun s r line t x hr hfront hstage => ?active, fun s r p tag port line t hr hup => ⟨fun hport => ?unbound, fun h hport => ?forwarded⟩,
    fun s r port line d t a x hr hagent hsnoop hfresh => ?answered, fun s r u port line d t a x hr hagent hsnoop hstale hu => ?stale,
    fun s p tag line t hown hforwarded => ?conflict, fun s r line data poison status t x hr hfind hstatus => ?pool,
    fun s r line a t x hr hsnoop => ⟨fun hruns hlate => ?late, fun hearly => ?early, fun hstale => ?staleRequest,
      fun hruns hflushed => ?flushed⟩⟩
  case granted =>
    have hrun := doHomeAdmission_of_granted hr hhead hcoh hsafe hroom hgrants
    obtain ⟨u, hu, hstaged, hshadows, htxns, hdir, hchart, hnv⟩ := r.admitted_shows m (r.lineHome (m.addr / 64)) (r.shadowOf p.val m q)
    have hhome : r.home = s.home := hr ▸ s.at_home t
    have hline : r.lineHome (m.addr / 64) = s.lineHome (m.addr / 64) := hr ▸ s.at_lineHome t _
    rw [hhome] at hshadows htxns hdir
    refine ⟨u, congrArg Host.Outcome.next (hrun.trans hu), ?_, ⟨_, hshadows, rfl, rfl, rfl, rfl, rfl, rfl, rfl, rfl, rfl⟩,
      ⟨_, htxns, hline, rfl, rfl, rfl, rfl⟩, hdir, hchart.trans (hr ▸ s.at_chart t), hnv.trans (hr ▸ s.at_nv t)⟩
    rw [hstaged]
    simp
  case refused => exact congrArg Host.Outcome.next (doHomeAdmission_of_refused hr hhead hcoh hsafe hroom hgrants hfnl)
  case active =>
    have hplain {op : CohOp} (hop : r.opNow x = some op) (h : ¬(op = .wrBack ∨ op = .wrClean)) :
        doActivate op line.val t s = (r.startTxn x).settle := doActivate_of_unsnooped hfront hstage hop hr fun hwrites => absurd hwrites h
    refine ⟨fun hop => ?_, fun hop => ?_, fun hop => ?_, fun hop => ?_, fun hop => ?_, fun hop => ?_, fun hop => ?_,
      fun hop hnone => ?_, fun hop hnone => ?_, fun y hsnoop => ⟨fun hop => ?_, fun hop => ?_⟩⟩
    iterate 7 exact congrArg Host.Outcome.next (hplain hop (by decide))
    iterate 2 exact congrArg Host.Outcome.next (doActivate_of_unsnooped hfront hstage hop hr fun _ => hnone)
    · exact congrArg Host.Outcome.next (doActivate_of_snooped hfront hstage hop hr (.inl rfl) hsnoop)
    · exact congrArg Host.Outcome.next (doActivate_of_snooped hfront hstage hop hr (.inr rfl) hsnoop)
  case unbound =>
    have hnext (op : SnpOp) := congrArg (Host.Outcome.next (φ := Fault) (ρ := Refusal)) (doSnoopIn_of_unbound hr hup tag op line.val hport)
    exact ⟨hnext .data, hnext .inv, hnext .cur⟩
  case forwarded =>
    have hnext (op : SnpOp) := (doSnoopIn_forwards hr hup tag op line.val hport).imp fun u hu =>
      And.imp_left (congrArg (Host.Outcome.next (φ := Fault) (ρ := Refusal))) hu
    exact ⟨hnext .data, hnext .inv, hnext .cur⟩
  case answered =>
    have hnext (down : Nat) (data : Option Nat) := congrArg (Host.Outcome.next (φ := Fault) (ρ := Refusal))
      (doSnoopResponse_of_fresh hr hagent hsnoop hfresh down data)
    exact ⟨hnext .., hnext .., hnext .., hnext .., hnext .., hnext ..⟩
  case stale =>
    have hnext (down : Nat) (data : Option Nat) := congrArg (Host.Outcome.next (φ := Fault) (ρ := Refusal))
      ((doSnoopResponse_of_stale hr hagent hsnoop hstale down data).trans hu.symm)
    exact ⟨hnext .., hnext .., hnext .., hnext .., hnext .., hnext ..⟩
  case conflict => exact congrArg Host.Outcome.next (doBiconflict_of_no_snoop hown hforwarded tag t)
  case pool => exact congrArg Host.Outcome.next (doPoolResponse_of_read hr hfind data poison hstatus)
  case late => exact congrArg Host.Outcome.next (doSnoopTimeout_of_late hr hsnoop hruns hlate)
  case early => exact congrArg Host.Outcome.next (doSnoopTimeout_of_early hr hsnoop hearly)
  case staleRequest => exact congrArg Host.Outcome.next (doSnoopTimeout_of_unbound hr hsnoop hstale)
  case flushed => exact congrArg Host.Outcome.next (doSnoopTimeout_of_flushed hr hsnoop hruns hflushed)

end Sys2Proof.Machine

/-! What Lodestar's operations leave beside their unit, and what a table keeps when only its entries change. -/
namespace Sys2Proof

theorem SMap.find?_map_snd {α : Type} (m : SMap α) (f : Nat → α → α) (k : Nat) :
    SMap.find? (m.map fun e => (e.1, f e.1 e.2)) k = (SMap.find? m k).map (f k) := by
  induction m with
  | nil => rfl
  | cons e r ih =>
    by_cases he : e.1 = k
    · subst he
      simp [SMap.find?]
    · simpa [SMap.find?, he] using ih

end Sys2Proof

namespace Sys2Proof.Machine

/-- The state beside what a command of Lodestar may change: its unit, the counters, the time, and the note of this cycle's bits. -/
def State.besideLod (s : State) : State := { s with lod := ⟨[], [], [], [], [], [], []⟩, ctrs := [], now := 0, fresh := [] }

theorem State.onlyLod_of_besideLod {s u : State} (h : u.besideLod = s.besideLod) : s.onlyLod u :=
  congrArg (fun v : State => { v with lod := s.lod, ctrs := s.ctrs, now := s.now, fresh := s.fresh }) h

theorem State.get_of_besideLod {s u : State} (h : u.besideLod = s.besideLod) (f : Fld) : u.get f = s.get f :=
  State.get_of_regs (congrArg (a₁ := u.besideLod) (a₂ := s.besideLod) State.regs h) f

theorem State.lod_of_units {s u : State} (h : u.units = s.units) : u.lod = s.lod :=
  congrArg (a₁ := u.units) (a₂ := s.units) State.lod h

@[simp] theorem State.set_lod (s : State) (f : Fld) (v : Nat) : (s.set f v).lod = s.lod := rfl
@[simp] theorem State.bump_lod (s : State) (f : Fld) (n : Nat) : (s.bump f n).lod = s.lod := rfl
@[simp] theorem State.raise_lod (s : State) (code : Nat) (auds : List Nat) : (s.raise code auds).lod = s.lod :=
  State.lod_of_units (s.raise_units code auds)
@[simp] theorem State.count_lod (s : State) (loc : Nat × Nat) (code : Nat) (sub : Nat → Bool) (berth : Option Nat) (n : Nat) :
    (s.count loc code sub berth n).lod = s.lod := State.lod_of_units (s.count_units ..)

@[simp] theorem State.modLod_lod (s : State) (f : LodUnit → LodUnit) : (s.modLod f).lod = f s.lod := rfl
@[simp] theorem State.modLod_get (s : State) (f : LodUnit → LodUnit) (g : Fld) : (s.modLod f).get g = s.get g := rfl
@[simp] theorem State.setObj_lod (s : State) (n : Nat) (o : LObj) :
    (s.setObj n o).lod = { s.lod with objects := SMap.put s.lod.objects n o } := rfl

@[simp] theorem State.at_besideLod (s : State) (t : Nat) : (s.at t).besideLod = s.besideLod := by rw [State.at_eq]; rfl
@[simp] theorem State.modLod_besideLod (s : State) (f : LodUnit → LodUnit) : (s.modLod f).besideLod = s.besideLod := rfl
@[simp] theorem State.setLrec_besideLod (s : State) (key : Nat) (r : LRec) : (s.setLrec key r).besideLod = s.besideLod := rfl
@[simp] theorem State.setObj_besideLod (s : State) (n : Nat) (o : LObj) : (s.setObj n o).besideLod = s.besideLod := rfl
@[simp] theorem State.noteGroups_besideLod (s : State) : s.noteGroups.besideLod = s.besideLod := rfl
@[simp] theorem State.restartGroup_besideLod (s : State) (gid : Nat) : (s.restartGroup gid).besideLod = s.besideLod := rfl
@[simp] theorem State.unfreeze_besideLod (s : State) (gid : Nat) : (s.unfreeze gid).besideLod = s.besideLod := rfl
@[simp] theorem State.count_besideLod (s : State) (loc : Nat × Nat) (code : Nat) (sub : Nat → Bool) (berth : Option Nat) (n : Nat) :
    (s.count loc code sub berth n).besideLod = s.besideLod := by
  unfold State.count
  split <;> rfl

/-! Looking at the groups again changes no more than since when they are all-waiting (R220). -/

@[simp] theorem State.noteGroups_get (s : State) (f : Fld) : s.noteGroups.get f = s.get f := rfl
@[simp] theorem State.noteGroups_objects (s : State) : s.noteGroups.lod.objects = s.lod.objects := rfl
@[simp] theorem State.noteGroups_pend (s : State) : s.noteGroups.lod.pend = s.lod.pend := rfl
@[simp] theorem State.noteGroups_parked (s : State) : s.noteGroups.lod.parked = s.lod.parked := rfl
@[simp] theorem State.noteGroups_results (s : State) : s.noteGroups.lod.results = s.lod.results := rfl
@[simp] theorem State.restartGroup_objects (s : State) (gid : Nat) : (s.restartGroup gid).lod.objects = s.lod.objects := rfl
@[simp] theorem State.restartGroup_results (s : State) (gid : Nat) : (s.restartGroup gid).lod.results = s.lod.results := rfl

/-- A group after the conditions of R220 have been looked at again. -/
def State.noted (s : State) (k : Nat) (g : Grp) : Grp :=
  { g with since := if s.allWaiting k g then (match g.since with | some x => some x | none => some s.now) else none }

theorem State.noteGroups_groups (s : State) (k : Nat) :
    SMap.find? s.noteGroups.lod.groups k = (SMap.find? s.lod.groups k).map (s.noted k) :=
  SMap.find?_map_snd s.lod.groups s.noted k

/-- A group's entry, whatever stands for the time since when it is all-waiting. -/
def State.grp (s : State) (k : Nat) : Option Grp := (SMap.find? s.lod.groups k).map fun g => { g with since := none }

@[simp] theorem State.noteGroups_grp (s : State) (k : Nat) : s.noteGroups.grp k = s.grp k := by
  rw [State.grp, State.noteGroups_groups, Option.map_map]
  rfl

@[simp] theorem State.restartGroup_grp (s : State) (gid k : Nat) : (s.restartGroup gid).grp k = s.grp k := by
  rw [State.restartGroup, State.noteGroups_grp, State.grp, State.modLod_lod, SMap.find?_alter]
  split_ifs
  · rw [Option.map_map]
    rfl
  · rfl

/-! Results (R210, R213). -/

@[simp] theorem State.sendResult_lod (s : State) (c : LCmd) (status detail value aux : Nat) (flag : Bool) (elapsed : Nat) :
    (s.sendResult c status detail value aux flag elapsed).lod = { s.lod with
      pend := s.lod.pend.filter fun x => x.key != c.key
      results := s.lod.results ++ [(c.key, ⟨2, false, flag, status, detail, c.opc, c.ticket, value, aux, min elapsed (2 ^ 32 - 1)⟩)] } := by
  unfold State.sendResult
  split_ifs <;> rfl

theorem State.sendResult_besideLod (s : State) (c : LCmd) {status : Nat} (h : status ≠ stRetry) (detail value aux : Nat) (flag : Bool)
    (elapsed : Nat) : (s.sendResult c status detail value aux flag elapsed).besideLod = s.besideLod := by
  rw [State.sendResult, if_neg h, State.modLod_besideLod]

/-! Parked commands that end (R214 to R216, R220). -/

/-- The parked commands of a list have ended with a status: they are parked no more, their results are on the way, and beside the
commands and results in flight nothing has changed. -/
structure State.Ends (status : Nat) (s u : State) (l : List Parked) : Prop where
  objects : u.lod.objects = s.lod.objects
  groups : u.lod.groups = s.lod.groups
  parked : u.lod.parked = s.lod.parked.filter (· ∉ l)
  pend : u.lod.pend ⊆ s.lod.pend
  results : s.lod.results ⊆ u.lod.results
  ended : ∀ p ∈ l, ∃ r : LRec, (p.cmd.key, r) ∈ u.lod.results ∧ r.status = status ∧ r.ticket = p.cmd.ticket
  beside : u.besideLod = s.besideLod

namespace State.Ends
variable {status : Nat} {s u v : State} {l k : List Parked}

theorem refl (status : Nat) (s : State) : Ends status s s [] :=
  ⟨rfl, rfl, by simp, fun _ h => h, fun _ h => h, by simp, rfl⟩

theorem trans (h : Ends status s u l) (g : Ends status u v k) : Ends status s v (l ++ k) where
  objects := g.objects.trans h.objects
  groups := g.groups.trans h.groups
  parked := by simp [g.parked, h.parked, List.filter_filter, Bool.and_comm]
  pend := fun _ hc => h.pend (g.pend hc)
  results := fun _ hr => g.results (h.results hr)
  ended p hp := (List.mem_append.1 hp).elim (fun hl => (h.ended p hl).imp fun _ hr => hr.imp_left (g.results ·)) (g.ended p)
  beside := g.beside.trans h.beside

theorem endParked (s : State) (p : Parked) (h : status ≠ stRetry) (detail value aux : Nat) :
    Ends status s (s.endParked p status detail value aux) [p] where
  objects := by simp [State.endParked]
  groups := by simp [State.endParked]
  parked := by simp [State.endParked, bne]; rfl
  pend := by simp [State.endParked]
  results := by simp [State.endParked]
  ended := by simp [State.endParked]
  beside := by rw [State.endParked, State.sendResult_besideLod _ _ h, State.modLod_besideLod]

theorem leaveParked (s : State) (p : Parked) (h : status ≠ stRetry) : Ends status s (s.leaveParked p status) [p] := by
  unfold State.leaveParked
  split <;> exact endParked s p h ..

theorem foldl {g : State → Parked → State} (h : ∀ s p, Ends status s (g s p) [p]) (l : List Parked) (s : State) :
    Ends status s (l.foldl g s) l := by
  induction l generalizing s with
  | nil => exact refl status s
  | cons p r ih => exact (h s p).trans (ih (g s p))

theorem mem_parked (h : Ends status s u l) {p : Parked} : p ∈ u.lod.parked ↔ p ∈ s.lod.parked ∧ p ∉ l := by simp [h.parked]

theorem not_mem_parked (h : Ends status s u l) {p : Parked} (hp : p ∈ l) : p ∉ u.lod.parked := fun hin => (h.mem_parked.1 hin).2 hp

end State.Ends

/-- Commands leave the table with the values of their objects. -/
theorem State.foldl_leaveParked_ends {status : Nat} (h : status ≠ stRetry) (l : List Parked) (s : State) :
    Ends status s (l.foldl (fun u p => u.leaveParked p status) s) l :=
  .foldl (fun u p => .leaveParked u p h) l s

end Sys2Proof.Machine

/-! A command whose turn it is executes (R213, R217, R220). -/
namespace Sys2Proof.Machine

/-- A command has completed: its result is on the way, the objects are as named, and beside Lodestar nothing has changed. -/
structure State.Completes (s u : State) (c : LCmd) (objects : SMap LObj) (r : LRec) : Prop where
  objects : u.lod.objects = objects
  result : (c.key, r) ∈ u.lod.results
  beside : u.besideLod = s.besideLod

theorem State.Completes.only {s u : State} {c : LCmd} {objects : SMap LObj} {r : LRec} (h : s.Completes u c objects r) : s.onlyLod u :=
  State.onlyLod_of_besideLod h.beside

theorem State.Completes.sendResult {s v : State} (hbeside : v.besideLod = s.besideLod) (c : LCmd) {status : Nat}
    (h : status ≠ stRetry) (detail value aux : Nat) (flag : Bool) :
    s.Completes (v.sendResult c status detail value aux flag 0) c v.lod.objects (c.answer status detail value aux flag) where
  objects := by simp
  result := by simp [LCmd.answer]
  beside := (v.sendResult_besideLod c h ..).trans hbeside

/-- What is left of the execution of a command: it is counted at its slice, and the groups are looked at again (R220). -/
def State.counted (s : State) (c : LCmd) (u : State) : State :=
  (u.count (ctrHom (s.cmdSlice c)) 0x48 anySub (some c.berth) 1).noteGroups

section
variable (s : State) (c : LCmd) (u : State)

@[simp] theorem State.counted_objects : (s.counted c u).lod.objects = u.lod.objects := by simp [State.counted]
@[simp] theorem State.counted_pend : (s.counted c u).lod.pend = u.lod.pend := by simp [State.counted]
@[simp] theorem State.counted_parked : (s.counted c u).lod.parked = u.lod.parked := by simp [State.counted]
@[simp] theorem State.counted_results : (s.counted c u).lod.results = u.lod.results := by simp [State.counted]
@[simp] theorem State.counted_besideLod : (s.counted c u).besideLod = u.besideLod := by simp [State.counted]
@[simp] theorem State.counted_grp (k : Nat) : (s.counted c u).grp k = u.grp k := by
  rw [State.counted, State.noteGroups_grp, State.grp, State.count_lod]
  rfl

end

theorem State.Completes.counted {s u : State} {c : LCmd} {objects : SMap LObj} {r : LRec} (t : Nat)
    (h : (s.at t).Completes u c objects r) : s.Completes ((s.at t).counted c u) c objects r where
  objects := by simp [h.objects]
  result := by simp [h.result]
  beside := by simp [h.beside]

/-- With nothing frozen no command is held (R220). -/
theorem State.runCmd_of_quiet {s : State} (h : s.lodQuiet) (c : LCmd) : s.runCmd c = s.counted c (s.execute c) := by
  have hthaws : thawedBy s (s.execute c) = false := List.any_eq_false.2 fun p hp => by simp [h p hp]
  simp [State.runCmd, hthaws, State.counted]

/-- No command is held, so none executes after the thaw of a group. -/
theorem State.runHeld_of_none {s : State} (h : ∀ c ∈ s.lod.pend, c.held = false) : s.runHeld = s := by
  have hnone : s.lod.pend.filter (·.held) = [] := List.filter_eq_nil_iff.2 fun c hc => by simp [h c hc]
  rw [State.runHeld, hnone, List.foldl_nil]

@[simp] theorem State.at_readyCmd (s : State) (t ch k opc : Nat) : (s.at t).readyCmd ch k opc = s.readyCmd ch k opc := by
  simp [State.readyCmd]

theorem doLodestarOp_of_turn {s : State} {c : LCmd} {ch k : Nat} (hquiet : s.lodQuiet) (hturn : s.lodTurn c ch k) (t : Nat) :
    doLodestarOp c.opc ch k t s = if c.opc = 0x13 then ((s.at t).counted c ((s.at t).execute c)).runHeld
      else (s.at t).counted c ((s.at t).execute c) := by
  obtain ⟨hready, hregion⟩ := hturn
  have hserved : ((s.at t).pwr.regionReset.contains ((s.at t).chart.slotHome (c.obj % 64) / 9) && !isGroupOp c.opc && c.opc != 0x18) =
      false := by
    rw [State.at_pwr, State.at_chart]
    obtain h | h | h := hregion <;> simp only [h] <;> simp
  have hrun : (s.at t).runCmd c = (s.at t).counted c ((s.at t).execute c) :=
    State.runCmd_of_quiet (by rwa [State.lodQuiet, State.at_lod]) c
  simp only [doLodestarOp, State.at_readyCmd, hready, hserved, hrun, Bool.false_eq_true, if_false]

/-- The operations on objects by opcode (R212). -/
def objectOp (opc : Nat) : Option (State → LCmd → LObj → State) :=
  match opc with
  | 0x01 => some opFetchAdd
  | 0x02 => some opCompareSwap
  | 0x03 => some opSwap
  | 0x08 => some opWait
  | 0x09 => some opNotify
  | 0x0A => some opBarrier
  | 0x0B => some opLock
  | 0x0C => some opUnlock
  | 0x19 => some opObjFree
  | _ => none

theorem State.execute_of_objectOp {s : State} {c : LCmd} {o : LObj} {op : State → LCmd → LObj → State} (hop : objectOp c.opc = some op)
    (hlive : s.onLive c o) : s.execute c = op s c o := by
  obtain ⟨hfind, hlost, htype, hgroup⟩ := hlive
  have hon : s.onObject c op = op s c o := by simp [State.onObject, hfind, hlost, htype, hgroup]
  rw [← hon]
  unfold objectOp at hop
  unfold State.execute
  split at hop <;> simp_all

theorem doLodestarOp_of_live {s : State} {c : LCmd} {o : LObj} {ch k : Nat} {op : State → LCmd → LObj → State} (hquiet : s.lodQuiet)
    (hturn : s.lodTurn c ch k) (hlive : s.onLive c o) (hop : objectOp c.opc = some op) (t : Nat) :
    doLodestarOp c.opc ch k t s = (s.at t).counted c (op (s.at t) c o) := by
  have hlive' : (s.at t).onLive c o := by simpa [State.onLive, State.groupDenies] using hlive
  have hop' : c.opc ≠ 0x13 := by
    rintro h
    rw [h] at hop
    cases hop
  rw [doLodestarOp_of_turn hquiet hturn, if_neg hop', State.execute_of_objectOp hop hlive']

end Sys2Proof.Machine

/-! The operations on objects (R212 to R216). -/
namespace Sys2Proof.Machine

section
variable {s : State} {c : LCmd} {o : LObj}

theorem State.wake_ends (s : State) (obj word : Nat) (all : Bool) : ∃ l, State.Ends stOk s (s.wake obj word all).1 l :=
  ⟨_, State.foldl_leaveParked_ends (by decide) _ s⟩

/-- An atomic that takes effect writes the word and returns the old one; without WAKE it wakes nobody (R212). -/
theorem State.atomic_took (s : State) (c : LCmd) (o : LObj) (new : Nat) (flag : Bool) : ∃ n,
    (c.flags.testBit 0 = false → n = 0) ∧ s.Completes (s.atomic c o new true flag) c
    (SMap.put s.lod.objects c.obj { o with words := o.words.set c.word (new % 2 ^ 64) })
    (c.answer stOk 0 (o.words.getD c.word 0) n flag) := by
  unfold State.atomic
  extract_lets s1 r
  have hs1 : s1 = s.setObj c.obj { o with words := o.words.set c.word (new % 2 ^ 64) } := rfl
  have hr : ∃ l, State.Ends stOk s1 r.1 l := by
    dsimp only [r]
    split
    · exact s1.wake_ends ..
    · exact ⟨[], .refl ..⟩
  obtain ⟨l, hends⟩ := hr
  refine ⟨r.2, fun hflag => by simp [r, hflag], ?_⟩
  have h := State.Completes.sendResult (s := s) (v := r.1) (hends.beside.trans (by simp [hs1])) c (status := stOk) (by decide) 0
    (o.words.getD c.word 0) r.2 flag
  rwa [hends.objects, hs1, State.setObj_lod] at h

theorem opFetchAdd_completes (s : State) (c : LCmd) (o : LObj) : ∃ n, (c.flags.testBit 0 = false → n = 0) ∧
    s.Completes (opFetchAdd s c o) c
    (SMap.put s.lod.objects c.obj { o with words := o.words.set c.word ((o.words.getD c.word 0 + c.a) % 2 ^ 64) })
    (c.answer stOk 0 (o.words.getD c.word 0) n false) := s.atomic_took c o _ false

theorem opCompareSwap_of_equal (h : o.words.getD c.word 0 = c.a) : ∃ n, s.Completes (opCompareSwap s c o) c
    (SMap.put s.lod.objects c.obj { o with words := o.words.set c.word (c.b % 2 ^ 64) }) (c.answer stOk 0 c.a n true) := by
  obtain ⟨n, -, hdone⟩ := s.atomic_took c o c.b true
  simp only [opCompareSwap, h, beq_self_eq_true] at hdone ⊢
  exact ⟨n, hdone⟩

theorem opCompareSwap_of_unequal (h : o.words.getD c.word 0 ≠ c.a) : s.Completes (opCompareSwap s c o) c s.lod.objects
    (c.answer stOk 0 (o.words.getD c.word 0) 0 false) := by
  simp only [opCompareSwap, State.atomic, beq_eq_false_iff_ne.2 h, Bool.false_and, Bool.false_eq_true, if_false]
  exact .sendResult rfl c (by decide) ..

theorem opSwap_completes (s : State) (c : LCmd) (o : LObj) : ∃ n, s.Completes (opSwap s c o) c
    (SMap.put s.lod.objects c.obj { o with words := o.words.set c.word (c.a % 2 ^ 64) })
    (c.answer stOk 0 (o.words.getD c.word 0) n false) := (s.atomic_took c o c.a false).imp fun _ => And.right

theorem State.park_of_room (h : s.waiters (s.cmdSlice c) < 16384) : ∃ p : Parked, p.cmd = c ∧
    (s.park c).lod.parked = s.lod.parked ++ [p] ∧ (s.park c).lod.objects = s.lod.objects ∧ (s.park c).lod.results = s.lod.results := by
  simp only [State.park, if_neg (Nat.not_le.2 h)]
  exact ⟨_, rfl, rfl, rfl, rfl⟩

theorem opWait_of_unequal (h : o.words.getD c.word 0 ≠ c.a) : s.Completes (opWait s c o) c s.lod.objects
    (c.answer stOk dtNotEqual (o.words.getD c.word 0) 0 false) := by
  rw [opWait, if_pos h]
  exact .sendResult rfl c (by decide) ..

theorem opWait_of_equal (h : o.words.getD c.word 0 = c.a) : opWait s c o = s.park c := if_neg (not_not.2 h)

/-- A NOTIFY wakes and counts the WAITs it is for (R214). -/
theorem opNotify_completes (s : State) (c : LCmd) (o : LObj) : (∀ p ∈ s.wakes c, p ∉ (opNotify s c o).lod.parked) ∧
    s.Completes (opNotify s c o) c s.lod.objects (c.answer stOk 0 (s.wakes c).length 0 false) := by
  have hends : State.Ends stOk s (s.wake c.obj c.word (c.flags.testBit 1)).1 (s.wakes c) := State.foldl_leaveParked_ends (by decide) _ s
  have hdone := State.Completes.sendResult hends.beside c (status := stOk) (by decide) 0 (s.wakes c).length 0 false
  rw [hends.objects] at hdone
  refine ⟨fun p hp => ?_, hdone⟩
  rw [opNotify, State.sendResult_lod]
  exact hends.not_mem_parked hp

/-- The commands parked on a barrier (R216). -/
def State.atBarrier (s : State) (obj : Nat) : List Parked := s.lod.parked.filter fun p => p.cmd.opc == 0x0A && p.cmd.obj == obj

theorem opBarrier_of_early (h : (s.atBarrier c.obj).length + 1 < o.parties) : opBarrier s c o = s.park c := if_pos h

/-- The last arrival releases the others and raises the generation (R216); the value is the generation before the raise, as the model
chooses (log entry 78). -/
theorem opBarrier_of_last (h : o.parties ≤ (s.atBarrier c.obj).length + 1) :
    (∀ p ∈ (opBarrier s c o).lod.parked, p.cmd.opc ≠ 0x0A ∨ p.cmd.obj ≠ c.obj) ∧ s.Completes (opBarrier s c o) c
      (SMap.put s.lod.objects c.obj { o with gen := (o.gen + 1) % 2 ^ 32 }) (c.answer stOk 0 o.gen o.parties true) := by
  have hends := State.foldl_leaveParked_ends (status := stOk) (by decide) (s.atBarrier c.obj) s
  generalize hv : (s.atBarrier c.obj).foldl (fun u p => u.leaveParked p stOk) s = v at hends
  have hrun : opBarrier s c o = (v.setObj c.obj { o with gen := (o.gen + 1) % 2 ^ 32 }).sendResult c stOk 0 o.gen o.parties true 0 := by
    rw [← hv]
    exact if_neg (Nat.not_lt.2 h)
  rw [hrun]
  have hdone := State.Completes.sendResult (s := s) (v := v.setObj c.obj { o with gen := (o.gen + 1) % 2 ^ 32 })
    (by simp [hends.beside]) c (status := stOk) (by decide) 0 o.gen o.parties true
  rw [State.setObj_lod, hends.objects] at hdone
  refine ⟨fun p hp => not_and_or.1 fun ⟨hopc, hobj⟩ => ?_, hdone⟩
  rw [State.sendResult_lod] at hp
  obtain ⟨hin, hout⟩ := hends.mem_parked.1 hp
  exact hout (by simp [State.atBarrier, hin, hopc, hobj])

/-- No LOCK waits for the object. -/
abbrev State.unwaited (s : State) (obj : Nat) : Prop := ∀ p ∈ s.lod.parked, p.cmd.opc ≠ 0x0B ∨ p.cmd.obj ≠ obj

theorem State.unwaited_iff {obj : Nat} : s.unwaited obj ↔ (s.lod.parked.any fun p => p.cmd.opc == 0x0B && p.cmd.obj == obj) = false := by
  simp [State.unwaited, imp_iff_not_or]

theorem opLock_shared (hholder : o.holder = none) (hwait : s.unwaited c.obj) (h : c.flags.testBit 3 = true) :
    s.Completes (opLock s c o) c (SMap.put s.lod.objects c.obj { o with shared := o.shared + 1 })
      (c.answer stOk 0 0xFFFF (o.shared + 1) true) := by
  simp only [opLock, State.unwaited_iff.1 hwait, h, hholder]
  exact .sendResult (s.setObj_besideLod ..) c (by decide) ..

theorem opLock_exclusive (hholder : o.holder = none) (hwait : s.unwaited c.obj) (h : c.flags.testBit 3 = false) (hshared : o.shared = 0) :
    s.Completes (opLock s c o) c (SMap.put s.lod.objects c.obj { o with holder := some c.chan }) (c.answer stOk 0 c.chan 0 true) := by
  simp only [opLock, State.unwaited_iff.1 hwait, h, hholder, hshared]
  exact .sendResult (s.setObj_besideLod ..) c (by decide) ..

theorem opUnlock_of_stranger (h : c.flags.testBit 3 = false) (hholder : o.holder ≠ some c.chan) :
    s.Completes (opUnlock s c o) c s.lod.objects (c.answer stDenied dtNotOwner 0 0 false) := by
  simp only [opUnlock, h, Bool.false_eq_true, if_false, if_pos hholder]
  exact .sendResult rfl c (by decide) ..

theorem State.handOver_of_unwaited {obj : Nat} (h : s.unwaited obj) : s.handOver obj =
    (s.modLod fun u => { u with objects := SMap.alter u.objects obj fun o => { o with holder := none, shared := 0 } }, 0) := by
  have hnone : (s.lod.parked.filter fun p => p.cmd.opc == 0x0B && p.cmd.obj == obj) = [] :=
    List.filter_eq_nil_iff.2 fun p hp => by simpa [imp_iff_not_or] using h p hp
  simp only [State.handOver, hnone]
  rfl

theorem opUnlock_of_holder (h : c.flags.testBit 3 = false) (hholder : o.holder = some c.chan) (hwait : s.unwaited c.obj) :
    ∃ m, SMap.find? m c.obj = some { o with holder := none, shared := 0 } ∧
      s.Completes (opUnlock s c o) c m (c.answer stOk 0 0 0 false) := by
  have hwait' : (s.setObj c.obj { o with holder := none }).unwaited c.obj := hwait
  simp only [opUnlock, h, Bool.false_eq_true, if_false, hholder, ne_eq, not_true_eq_false, State.handOver_of_unwaited hwait']
  refine ⟨_, ?_, .sendResult (by simp) c (by decide) ..⟩
  simp [SMap.find?_alter]

/-- OBJ_FREE ends what is parked on its object (R212). -/
theorem opObjFree_completes (s : State) (c : LCmd) (o : LObj) : (∀ p ∈ (opObjFree s c o).lod.parked, p.cmd.obj ≠ c.obj) ∧
    s.Completes (opObjFree s c o) c (SMap.del s.lod.objects c.obj) (c.answer stOk 0 c.obj 0 false) := by
  have hends : State.Ends stDenied s _ _ := .foldl (fun u p => .endParked u p (by decide) dtNoObject 0 0)
    (s.lod.parked.filter fun p => p.cmd.obj == c.obj) s
  have hdone := State.Completes.sendResult (s := s) (v := State.modLod _ fun u => { u with objects := SMap.del u.objects c.obj })
    ((State.modLod_besideLod ..).trans hends.beside) c (status := stOk) (by decide) 0 c.obj 0 false
  rw [State.modLod_lod, hends.objects] at hdone
  refine ⟨fun p hp hobj => ?_, hdone⟩
  rw [opObjFree, State.sendResult_lod] at hp
  obtain ⟨hin, hout⟩ := hends.mem_parked.1 hp
  exact hout (by simp [hin, hobj])

end
end Sys2Proof.Machine

/-! Wait groups and allocation (R205, R207, R218, R225). -/
namespace Sys2Proof.Machine

@[simp] theorem State.at_cmdSlice (s : State) (t : Nat) (c : LCmd) : (s.at t).cmdSlice c = s.cmdSlice c := by
  simp [State.cmdSlice, State.chanHome]
@[simp] theorem State.at_waiters (s : State) (t n : Nat) : (s.at t).waiters n = s.waiters n := by simp [State.waiters]
@[simp] theorem State.at_wakes (s : State) (t : Nat) (c : LCmd) : (s.at t).wakes c = s.wakes c := by simp [State.wakes]
@[simp] theorem State.at_groupInterval (s : State) (t n a : Nat) : (s.at t).groupInterval n a = s.groupInterval n a := by
  simp [State.groupInterval]
@[simp] theorem State.at_objUse (s : State) (t k : Nat) : (s.at t).objUse k = s.objUse k := by simp [State.objUse]
@[simp] theorem State.at_freeObject (s : State) (t : Nat) : (s.at t).freeObject = s.freeObject := by
  funext v
  simp [State.freeObject]
@[simp] theorem State.at_allocSlot (s : State) (t ch : Nat) : (s.at t).allocSlot ch = s.allocSlot ch := by
  simp [State.allocSlot, State.slotUsable, State.chanHome]

/-- A group as a look-up finds it, whatever stands for the time since when it is all-waiting. -/
theorem State.find?_of_grp {s : State} {k : Nat} {g : Grp} (h : s.grp k = some g) :
    ∃ x : Grp, SMap.find? s.lod.groups k = some x ∧ { x with since := none } = g := Option.map_eq_some_iff.1 h

theorem State.find?_of_grp_none {s : State} {k : Nat} (h : s.grp k = none) : SMap.find? s.lod.groups k = none :=
  Option.map_eq_none_iff.1 h

theorem State.restartGroup_completes {s u : State} {c : LCmd} {m : SMap LObj} {r : LRec} (h : s.Completes u c m r) (gid : Nat) :
    s.Completes (u.restartGroup gid) c m r := ⟨h.objects, h.result, h.beside⟩

section
variable {s : State} {c : LCmd} {g : Grp}

theorem opGroupCreate_of_free (hfirst : s.chart.grpFirst c.berth ≤ c.group) (hlast : c.group ≤ s.chart.grpLast c.berth)
    (hfree : SMap.find? s.lod.groups c.group = none) :
    (opGroupCreate s c).grp c.group = some ⟨[], s.groupInterval (s.cmdSlice c) c.a, none, [], false, c.berth, false⟩ ∧
      s.Completes (opGroupCreate s c) c s.lod.objects (c.answer stOk 0 c.group (s.groupInterval (s.cmdSlice c) c.a) false) := by
  have hdenied : ¬¬(s.chart.grpFirst c.berth ≤ c.group ∧ c.group ≤ s.chart.grpLast c.berth) := not_not.2 ⟨hfirst, hlast⟩
  simp only [opGroupCreate, if_neg hdenied, hfree, Option.any_none, Bool.false_eq_true, if_false]
  refine ⟨?_, .sendResult (s.modLod_besideLod _) c (by decide) ..⟩
  simp [State.grp]

theorem opGroupJoin_of_stranger (hg : SMap.find? s.lod.groups c.group = some g) (hlost : g.lost = false) (hnew : c.chan ∉ g.members)
    (hroom : g.members.length < 56) :
    (opGroupJoin s c).grp c.group = some { g with members := g.members ++ [c.chan], since := none } ∧
      s.Completes (opGroupJoin s c) c s.lod.objects (c.answer stOk 0 (g.members.length + 1) 0 false) := by
  have hnew' : g.members.contains c.chan = false := by simpa using hnew
  simp only [opGroupJoin, hg, hlost, hnew', if_neg (Nat.not_le.2 hroom), Bool.false_eq_true, if_false]
  refine ⟨?_, State.restartGroup_completes (.sendResult (s.modLod_besideLod _) c (by decide) ..) _⟩
  rw [State.restartGroup_grp]
  simp [State.grp]

theorem opGroupLeave_of_member (hg : SMap.find? s.lod.groups c.group = some g) (hlost : g.lost = false) (hmember : c.chan ∈ g.members) :
    (opGroupLeave s c).grp c.group = some { g with members := g.members.filter (· != c.chan), since := none } ∧
      s.Completes (opGroupLeave s c) c s.lod.objects (c.answer stOk 0 (g.members.length - 1) 0 false) := by
  have hmember' : (!g.members.contains c.chan) = false := by simpa using hmember
  simp only [opGroupLeave, hg, hlost, hmember', Bool.false_eq_true, if_false]
  refine ⟨?_, State.restartGroup_completes (.sendResult (s.modLod_besideLod _) c (by decide) ..) _⟩
  rw [State.restartGroup_grp]
  simp [State.grp]

theorem opGroupDestroy_of_empty (hg : SMap.find? s.lod.groups c.group = some g) (hlost : g.lost = false) (hempty : g.members = []) :
    (opGroupDestroy s c).lod.pend ⊆ s.lod.pend ∧ (opGroupDestroy s c).grp c.group = none ∧
      s.Completes (opGroupDestroy s c) c s.lod.objects (c.answer stOk 0 c.group 0 false) := by
  simp only [opGroupDestroy, hg, hlost, hempty, List.isEmpty_nil, Bool.not_true, Bool.false_eq_true, if_false]
  refine ⟨?_, ?_, .sendResult ((State.modLod_besideLod ..).trans (s.unfreeze_besideLod _)) c (by decide) ..⟩
  · rw [State.sendResult_lod]
    exact List.filter_subset_self _
  · simp [State.grp]

theorem opObjAlloc_of_quota {n : Nat} (htype : c.a ≤ 2) (hparties : c.a = 2 → 1 ≤ c.b ∧ c.b ≤ 65535)
    (hquota : s.objUse c.berth < s.chart.objQuota c.berth) (hplace : (s.allocSlot c.chan).bind s.freeObject = some n) :
    s.Completes (opObjAlloc s c) c
      (SMap.put s.lod.objects n ⟨c.a, List.replicate 8 0, none, 0, if c.a = 2 then c.b else 0, 0, c.berth, false⟩)
      (c.answer stOk 0 n 0 false) := by
  have hformat : ¬(2 < c.a ∨ (c.a = 2 ∧ ¬(1 ≤ c.b ∧ c.b ≤ 65535))) := by
    rintro (h | ⟨h, hno⟩)
    · exact Nat.not_lt.2 htype h
    · exact hno (hparties h)
  simp only [opObjAlloc, if_neg hformat, if_neg (Nat.not_le.2 hquota), hplace]
  exact .sendResult (s.setObj_besideLod ..) c (by decide) ..

end
end Sys2Proof.Machine

/-! The operations of Lodestar together (R205 to R225). -/
namespace Sys2Proof.Machine

/-- Settles O21: each clause is the lemma of its operation, in the state in which the command is served. -/
theorem lodestarOperationsComplete : Obligations.LodestarOperationsComplete := by
  unfold Obligations.LodestarOperationsComplete
  refine ⟨fun s ch k t c o hquiet hturn hlive => ?objects, fun s ch k t c hquiet hturn => ?groups⟩
  case objects =>
    have hnext {op : State → LCmd → LObj → State} {opc : Nat} (hopc : c.opc = opc) (hop : objectOp opc = some op) :
        Host.Outcome.next (φ := Fault) (ρ := Refusal) (doLodestarOp opc ch.val k.val t s) = .next ((s.at t).counted c (op (s.at t) c o)) := by
      subst hopc
      rw [doLodestarOp_of_live hquiet hturn hlive hop]
    have hlod : (s.at t).lod = s.lod := s.at_lod t
    have hunwaited (h : s.unwaited c.obj) : (s.at t).unwaited c.obj := by rwa [State.unwaited, hlod]
    have hroom (h : s.waiters (s.cmdSlice c) < 16384) : (s.at t).waiters ((s.at t).cmdSlice c) < 16384 := by simpa using h
    have hbarrier : (s.at t).atBarrier c.obj = s.atBarrier c.obj := by rw [State.atBarrier, hlod]; rfl
    refine ⟨fun hopc => ?fetchAdd, fun hopc heq => ?equal, fun hopc hne => ?unequal, fun hopc => ?swap, fun hopc hne => ?waitOver,
      fun hopc heq hwaiters => ?waitParks, fun hopc => ?notify, fun hopc hearly hwaiters => ?early, fun hopc hlast => ?last,
      fun hopc hholder hwait => ⟨fun hflag => ?shared, fun hflag hshared => ?exclusive⟩, fun hopc hflag hholder => ?stranger,
      fun hopc hflag hholder hwait => ?holder, fun hopc => ?objFree⟩
    case fetchAdd =>
      obtain ⟨n, hn, h⟩ := opFetchAdd_completes (s.at t) c o
      rw [hlod] at h
      exact ⟨_, n, hnext hopc rfl, (h.counted t).objects, (h.counted t).result, hn, (h.counted t).only⟩
    case equal =>
      obtain ⟨n, h⟩ := opCompareSwap_of_equal (s := s.at t) heq
      rw [hlod] at h
      exact ⟨_, n, hnext hopc rfl, (h.counted t).objects, (h.counted t).result, (h.counted t).only⟩
    case unequal =>
      have h := (opCompareSwap_of_unequal (s := s.at t) hne).counted t
      rw [hlod] at h
      exact ⟨_, hnext hopc rfl, h.objects, h.result, h.only⟩
    case swap =>
      obtain ⟨n, h⟩ := opSwap_completes (s.at t) c o
      rw [hlod] at h
      exact ⟨_, n, hnext hopc rfl, (h.counted t).objects, (h.counted t).result, (h.counted t).only⟩
    case waitOver =>
      have h := (opWait_of_unequal (s := s.at t) hne).counted t
      rw [hlod] at h
      refine ⟨_, hnext hopc rfl, h.objects, ?_, h.result, h.only⟩
      rw [State.counted_parked, opWait, if_pos hne, State.sendResult_lod, hlod]
    case waitParks =>
      obtain ⟨p, hp, hparked, hobjects, hresults⟩ := State.park_of_room (hroom hwaiters)
      rw [hlod] at hparked hobjects hresults
      exact ⟨_, p, (hnext hopc rfl).trans (by rw [opWait_of_equal heq]), by simp [hobjects], by simp [hparked], hp, by simp [hresults]⟩
    case notify =>
      obtain ⟨hwoken, h⟩ := opNotify_completes (s.at t) c o
      have h := h.counted t
      rw [State.at_wakes] at h hwoken
      rw [hlod] at h
      exact ⟨_, hnext hopc rfl, h.objects, h.only, h.result, fun p hp => by simpa using hwoken p hp⟩
    case early =>
      obtain ⟨p, hp, hparked, hobjects, -⟩ := State.park_of_room (hroom hwaiters)
      rw [hlod] at hparked hobjects
      have hpark : opBarrier (s.at t) c o = (s.at t).park c := opBarrier_of_early (by rwa [hbarrier])
      exact ⟨_, p, (hnext hopc rfl).trans (by rw [hpark]), by simp [hobjects], by simp [hparked], hp⟩
    case last =>
      obtain ⟨hreleased, h⟩ := opBarrier_of_last (s := s.at t) (c := c) (o := o) (by rwa [hbarrier])
      have h := h.counted t
      rw [hlod] at h
      exact ⟨_, hnext hopc rfl, h.only, h.objects, h.result, by simpa using hreleased⟩
    case shared =>
      have h := (opLock_shared hholder (hunwaited hwait) hflag).counted t
      rw [hlod] at h
      exact ⟨_, hnext hopc rfl, h.only, h.objects, h.result⟩
    case exclusive =>
      have h := (opLock_exclusive hholder (hunwaited hwait) hflag hshared).counted t
      rw [hlod] at h
      exact ⟨_, hnext hopc rfl, h.only, h.objects, h.result⟩
    case stranger =>
      have h := (opUnlock_of_stranger (s := s.at t) hflag hholder).counted t
      rw [hlod] at h
      exact ⟨_, hnext hopc rfl, h.only, h.objects, h.result⟩
    case holder =>
      obtain ⟨m, hm, h⟩ := opUnlock_of_holder hflag hholder (hunwaited hwait)
      have h := h.counted t
      exact ⟨_, hnext hopc rfl, h.only, h.objects ▸ hm, h.result⟩
    case objFree =>
      obtain ⟨hended, h⟩ := opObjFree_completes (s.at t) c o
      have h := h.counted t
      rw [hlod] at h
      exact ⟨_, hnext hopc rfl, h.only, h.objects, h.result, by simpa using hended⟩
  case groups =>
    have hnext {opc : Nat} (hopc : c.opc = opc) (hne : opc ≠ 0x13) {u : State} (hu : (s.at t).execute c = u) :
        Host.Outcome.next (φ := Fault) (ρ := Refusal) (doLodestarOp opc ch.val k.val t s) = .next ((s.at t).counted c u) := by
      subst hopc hu
      rw [doLodestarOp_of_turn hquiet hturn, if_neg hne]
    have hlod : (s.at t).lod = s.lod := s.at_lod t
    refine ⟨fun hopc hfirst hlast hfree => ?create, fun g hg hlost => ⟨fun hopc hnew hroom => ?join, fun hopc hmember => ?leave,
      fun hopc hempty hheld => ?destroy⟩, fun hopc htype hparties hquota n hplace => ?alloc⟩
    case create =>
      obtain ⟨hgrp, h⟩ := opGroupCreate_of_free (s := s.at t) (by simpa using hfirst) (by simpa using hlast) (by rwa [hlod])
      have h := h.counted t
      rw [hlod, State.at_cmdSlice, State.at_groupInterval] at h
      obtain ⟨x, hx, hxg⟩ := State.find?_of_grp ((State.counted_grp (s.at t) c _ _).trans hgrp)
      refine ⟨_, hnext hopc (by decide) (by simp only [State.execute, hopc]), h.only, h.objects, h.result, x, hx, congrArg Grp.members hxg,
        congrArg Grp.berth hxg, congrArg Grp.lost hxg⟩
    case join =>
      obtain ⟨hgrp, h⟩ := opGroupJoin_of_stranger (s := s.at t) (by rwa [hlod]) hlost hnew hroom
      have h := h.counted t
      obtain ⟨x, hx, hxg⟩ := State.find?_of_grp ((State.counted_grp (s.at t) c _ _).trans hgrp)
      exact ⟨_, x, hnext hopc (by decide) (by simp only [State.execute, hopc]), h.only, hx, congrArg Grp.members hxg, h.result⟩
    case leave =>
      obtain ⟨hgrp, h⟩ := opGroupLeave_of_member (s := s.at t) (by rwa [hlod]) hlost hmember
      have h := h.counted t
      obtain ⟨x, hx, hxg⟩ := State.find?_of_grp ((State.counted_grp (s.at t) c _ _).trans hgrp)
      have hmembers : x.members = g.members.filter (· != c.chan) := congrArg Grp.members hxg
      exact ⟨_, x, hnext hopc (by decide) (by simp only [State.execute, hopc]), h.only, hx, by simp [hmembers], h.result⟩
    case destroy =>
      obtain ⟨hpend, hgrp, h⟩ := opGroupDestroy_of_empty (s := s.at t) (by rwa [hlod]) hlost hempty
      have h := h.counted t
      have hnone : ∀ x ∈ ((s.at t).counted c (opGroupDestroy (s.at t) c)).lod.pend, x.held = false := fun x hx =>
        hheld x (hlod ▸ hpend (by simpa using hx))
      have hrun : doLodestarOp 0x13 ch.val k.val t s = (s.at t).counted c (opGroupDestroy (s.at t) c) := by
        have hexecute : (s.at t).execute c = opGroupDestroy (s.at t) c := by simp only [State.execute, hopc]
        rw [← hopc, doLodestarOp_of_turn hquiet hturn, if_pos hopc, hexecute, State.runHeld_of_none hnone]
      exact ⟨_, congrArg Host.Outcome.next hrun, h.only,
        State.find?_of_grp_none ((State.counted_grp (s.at t) c _ _).trans hgrp), h.result⟩
    case alloc =>
      have h := (opObjAlloc_of_quota (s := s.at t) htype hparties (by simpa using hquota) (by simpa using hplace)).counted t
      rw [hlod] at h
      exact ⟨_, hnext hopc (by decide) (by simp only [State.execute, hopc]), h.only, h.objects, h.result⟩
end Sys2Proof.Machine

/-! Results that return, limits that run out, groups that freeze (R210, R211, R214, R220). -/
namespace Sys2Proof.Machine

section
variable {s : State} {t : Nat}

@[simp] theorem State.at_lrec (s : State) (t key : Nat) : (s.at t).lrec key = s.lrec key := by simp [State.lrec]

theorem doLodestarResultReturn_of_waiting {ch k : Nat} {e : Nat × LRec} (hfind : s.lod.results.find? (fun x => x.1 == 64 * ch + k) = some e)
    (hwaits : (s.lrec (64 * ch + k)).state = 1) : doLodestarResultReturn ch k t s =
      ((s.at t).modLod fun u => { u with results := u.results.filter (· != e) }).setLrec (64 * ch + k)
        { e.2 with overrun := (s.lrec (64 * ch + k)).overrun } := by
  simp [doLodestarResultReturn, hfind, hwaits]

/-- A parked command's limit has run out, and nothing holds its timeout off (R214 to R216, R220). -/
abbrev State.timesOut (s : State) (p : Parked) : Prop :=
  p.frozen = false ∧ p.since + usec p.limit ≤ s.now ∧ s.wokenNow p = false

theorem doParkedTimeout_of_parked {ch k : Nat} {p : Parked} (hfind : s.lod.parked.find? (fun q => q.cmd.key == 64 * ch + k) = some p) :
    doParkedTimeout ch k t s = if (s.at t).timesOut p then ((s.at t).leaveParked p stTimeout).noteGroups else s.at t := by
  simp [doParkedTimeout, hfind, State.timesOut, and_assoc]

/-- The commands parked on a group freeze, and the group notes which (R220). -/
def State.frozenFor (s : State) (gid : Nat) (g : Grp) : State :=
  s.modLod fun u => { u with
    groups := SMap.put u.groups gid { g with freezing := true, frozen := (s.parkedOn gid).map (·.cmd.key) }
    parked := u.parked.map fun p => if p.group = some gid then { p with frozen := true } else p }

theorem doAllWaitingFreeze_of_waiting {gid x : Nat} {g : Grp} (hg : SMap.find? s.lod.groups gid = some g) (hsince : g.since = some x)
    (hfree : g.freezing = false) : doAllWaitingFreeze gid t s =
      if x + usec g.interval ≤ (s.at t).now then (s.at t).frozenFor gid g else s.at t := by
  simp [doAllWaitingFreeze, hg, hsince, hfree, State.frozenFor]

theorem State.frozenFor_parked {gid : Nat} {g : Grp} {p : Parked} (hp : p ∈ (s.frozenFor gid g).lod.parked) (hgroup : p.group = some gid) :
    p.frozen = true := by
  obtain ⟨q, -, rfl⟩ := List.mem_map.1 hp
  split_ifs at hgroup ⊢
  · rfl
  · contradiction

end

/-- Settles O22: each clause is its event's meaning in the case it names. -/
theorem recordsAndGroupsComplete : Obligations.RecordsAndGroupsComplete := by
  unfold Obligations.RecordsAndGroupsComplete
  refine ⟨fun s ch k t r hfind hwaits => ?returns, fun s ch k t p hfind hthawed hlate hwoken => ?timesOut,
    fun s ch k t p hfind hheld => ?stays, fun s grp t x g hg hsince hfree => ⟨fun hdue => ?freezes, fun hearly => ?runs⟩,
    fun s grp t g hg hfree => ?undecided, fun s src who n hserves hpilot hreach => ?peak⟩
  case returns =>
    refine ⟨_, congrArg Host.Outcome.next (doLodestarResultReturn_of_waiting hfind hwaits), State.lrec_setLrec_same .., ?_, ?_,
      State.onlyLod_of_besideLod (by simp)⟩
    · simp [State.setLrec]
    · simp [State.setLrec]
  case timesOut =>
    have hrun := (doParkedTimeout_of_parked hfind (t := t)).trans (if_pos ⟨hthawed, hlate, hwoken⟩)
    have hends := State.Ends.leaveParked (status := stTimeout) (s.at t) p (by decide)
    obtain ⟨r, hr, hstatus, hticket⟩ := hends.ended p (List.mem_singleton_self p)
    exact ⟨_, r, congrArg Host.Outcome.next hrun, hends.not_mem_parked (List.mem_singleton_self p), hr, hstatus, hticket,
      hends.objects.trans (by rw [State.at_lod]), State.onlyLod_of_besideLod (hends.beside.trans (s.at_besideLod t))⟩
  case stays =>
    have hstays : ¬(s.at t).timesOut p := by
      rintro ⟨hthawed, hlate, hwoken⟩
      obtain h | h | h := hheld
      · exact Bool.false_ne_true (hthawed.symm.trans h)
      · exact Nat.not_le.2 h hlate
      · exact Bool.false_ne_true (hwoken.symm.trans h)
    exact congrArg Host.Outcome.next ((doParkedTimeout_of_parked hfind).trans (if_neg hstays))
  case freezes =>
    have hrun := (doAllWaitingFreeze_of_waiting hg hsince hfree (t := t)).trans (if_pos hdue)
    refine ⟨_, congrArg Host.Outcome.next hrun, State.onlyLod_of_besideLod (s.at_besideLod t), ⟨_, SMap.find?_put_same .., rfl, rfl⟩,
      fun p hp hgroup => State.frozenFor_parked hp hgroup, ?_⟩
    simp [State.frozenFor]
  case runs =>
    exact congrArg Host.Outcome.next ((doAllWaitingFreeze_of_waiting hg hsince hfree).trans (if_neg (Nat.not_le.2 hearly)))
  case undecided =>
    have hstays : doAllWaitingDecision grp.val t s = s.at t := by simp [doAllWaitingDecision, hg, hfree]
    exact congrArg Host.Outcome.next hstays
  case peak => exact congrArg Host.Outcome.next (State.regCommandAt_acts hserves hreach hpilot _)

end Sys2Proof.Machine

/-! The second phase of all-waiting (R220). -/
namespace Sys2Proof.Machine

/-- SYNC for one berth is one raise. -/
theorem State.raise_sync (s : State) (k : Nat) : s.raise atSync [k] = s.raiseOne atSync k := rfl

/-- The registers of attention lie below those of Lodestar. -/
theorem fltAttn_key_lt {k : Nat} (hk : k < 64) (n : Nat) :
    (F.fltAttnPend k).key < (F.ldsGrpstatAllwait n).key ∧ (F.fltAttnSeq k).key < (F.ldsGrpstatAllwait n).key := by
  simp only [Fld.key, F.fltAttnPend, F.fltAttnSeq, F.ldsGrpstatAllwait]
  omega

section
variable {s : State} {gid : Nat} {g : Grp}

/-- A group that freezes no more. -/
def State.thawGroup (s : State) (gid : Nat) (g : Grp) : State :=
  s.modLod fun u => { u with groups := SMap.put u.groups gid { g with freezing := false, frozen := [], since := none } }

@[simp] theorem State.thawGroup_get (s : State) (gid : Nat) (g : Grp) (f : Fld) : (s.thawGroup gid g).get f = s.get f := rfl
@[simp] theorem State.thawGroup_lod (s : State) (gid : Nat) (g : Grp) : (s.thawGroup gid g).lod =
    { s.lod with groups := SMap.put s.lod.groups gid { g with freezing := false, frozen := [], since := none } } := rfl
@[simp] theorem State.unfreeze_get (s : State) (gid : Nat) (f : Fld) : (s.unfreeze gid).get f = s.get f := rfl
@[simp] theorem State.unfreeze_pend (s : State) (gid : Nat) : (s.unfreeze gid).lod.pend = s.lod.pend := rfl

/-- The commands of a group end ALL_WAITING, and SYNC is raised to its berth (R220). -/
def State.committed (s : State) (gid : Nat) (g : Grp) : State :=
  ((((s.parkedOn gid).foldl (fun u p => u.leaveParked p stAllWaiting) s).thawGroup gid g).raise atSync [g.berth]).bump
    (F.ldsGrpstatAllwait (s.slotSlice (gid % 64))) 1

/-- The commands of a group go on waiting (R220). -/
def State.thawed (s : State) (gid : Nat) (g : Grp) : State :=
  ((s.unfreeze gid).thawGroup gid g).bump (F.ldsGrpstatThawed (s.slotSlice (gid % 64))) 1

/-- Every command frozen for the group is still parked (R220). -/
abbrev State.allParked (s : State) (gid : Nat) (g : Grp) : Prop :=
  ∀ key ∈ g.frozen, ∃ p ∈ s.lod.parked, p.group = some gid ∧ p.cmd.key = key

theorem doAllWaitingDecision_of_freezing {t : Nat} (hg : SMap.find? s.lod.groups gid = some g) (hfreezing : g.freezing = true) :
    doAllWaitingDecision gid t s =
      if s.allParked gid g then ((s.at t).committed gid g).runHeld.noteGroups else ((s.at t).thawed gid g).runHeld.noteGroups := by
  have hall : (g.frozen.all fun key => ((s.at t).parkedOn gid).any fun p => p.cmd.key == key) = true ↔ s.allParked gid g := by
    simp [State.parkedOn]
  simp only [doAllWaitingDecision, State.at_lod, hg, hfreezing, Bool.not_true, Bool.false_eq_true, if_false, hall]
  rfl

theorem State.committed_ends (s : State) (gid : Nat) : Ends stAllWaiting s
    ((s.parkedOn gid).foldl (fun u p => u.leaveParked p stAllWaiting) s) (s.parkedOn gid) :=
  State.foldl_leaveParked_ends (by decide) _ s

theorem State.committed_pend (h : ∀ c ∈ s.lod.pend, c.held = false) : ∀ c ∈ (s.committed gid g).lod.pend, c.held = false := by
  intro c hc
  rw [State.committed, State.bump_lod, State.raise_lod, State.thawGroup_lod] at hc
  exact h c ((s.committed_ends gid).pend hc)

theorem State.committed_parked {p : Parked} (hp : p ∈ (s.committed gid g).lod.parked) : p.group ≠ some gid := by
  rw [State.committed, State.bump_lod, State.raise_lod, State.thawGroup_lod] at hp
  obtain ⟨hin, hout⟩ := (s.committed_ends gid).mem_parked.1 hp
  exact fun hgroup => hout (by simp [State.parkedOn, hin, hgroup])

theorem State.committed_results {p : Parked} (hp : p ∈ s.lod.parked) (hgroup : p.group = some gid) :
    ∃ r : LRec, (p.cmd.key, r) ∈ (s.committed gid g).lod.results ∧ r.status = stAllWaiting := by
  obtain ⟨r, hr, hstatus, -⟩ := (s.committed_ends gid).ended p (by simp [State.parkedOn, hp, hgroup])
  refine ⟨r, ?_, hstatus⟩
  rwa [State.committed, State.bump_lod, State.raise_lod]

theorem State.committed_objects : (s.committed gid g).lod.objects = s.lod.objects := by
  rw [State.committed, State.bump_lod, State.raise_lod]
  exact (s.committed_ends gid).objects

theorem State.committed_sync (hberth : g.berth < 64) : ((s.committed gid g).get (F.fltAttnPend g.berth)).testBit atSync = true := by
  rw [State.committed, State.get_bump_of_ne _ _ (fltAttn_key_lt hberth _).1.ne', State.raise_sync]
  exact State.raiseOne_pending _ _ (by decide)

theorem State.committed_allwait (hberth : g.berth < 64) {n : Nat} (hn : s.slotSlice (gid % 64) = n) :
    (s.committed gid g).get (F.ldsGrpstatAllwait n) = min (s.get (F.ldsGrpstatAllwait n) + 1) (2 ^ (F.ldsGrpstatAllwait n).width - 1) := by
  subst hn
  obtain ⟨hpend, hseq⟩ := fltAttn_key_lt hberth (s.slotSlice (gid % 64))
  rw [State.committed, State.get_bump_same, State.raise_sync, State.get_raiseOne_of_ne _ _ hpend.ne hseq.ne, State.thawGroup_get,
    State.get_of_besideLod (s.committed_ends gid).beside]

theorem State.thawed_parked {p : Parked} (hp : p ∈ (s.thawed gid g).lod.parked) (hgroup : p.group = some gid) : p.frozen = false := by
  obtain ⟨q, -, rfl⟩ := List.mem_map.1 hp
  split_ifs at hgroup ⊢
  · rfl
  · contradiction

theorem State.thawed_pend : (s.thawed gid g).lod.pend = s.lod.pend := rfl
theorem State.thawed_results : (s.thawed gid g).lod.results = s.lod.results := rfl

theorem State.thawed_cmds : (s.thawed gid g).lod.parked.map (·.cmd) = s.lod.parked.map (·.cmd) := by
  rw [State.thawed, State.bump_lod, State.thawGroup_lod]
  refine (List.map_map ..).trans (List.map_congr_left fun p _ => ?_)
  dsimp only [Function.comp]
  split <;> rfl

theorem State.thawed_count {n : Nat} (hn : s.slotSlice (gid % 64) = n) :
    (s.thawed gid g).get (F.ldsGrpstatThawed n) = min (s.get (F.ldsGrpstatThawed n) + 1) (2 ^ (F.ldsGrpstatThawed n).width - 1) := by
  subst hn
  rw [State.thawed, State.get_bump_same, State.thawGroup_get, State.unfreeze_get]

end

/-- Settles O23: with nothing held, the decision is the group's commit, or its thaw. -/
theorem allWaitingDecides : Obligations.AllWaitingDecides := by
  unfold Obligations.AllWaitingDecides
  intro s grp t g hg hfreezing hberth hheld
  have hheld' : ∀ c ∈ (s.at t).lod.pend, c.held = false := by rwa [State.at_lod]
  refine ⟨fun hall => ?commits, fun hgone => ?thaws⟩
  case commits =>
    have hrun := (doAllWaitingDecision_of_freezing hg hfreezing (t := t)).trans (if_pos hall)
    rw [State.runHeld_of_none (State.committed_pend hheld')] at hrun
    refine ⟨_, congrArg Host.Outcome.next hrun, ?_, ?_, ?_, ?_, ?_⟩
    · rw [State.noteGroups_parked]
      exact fun p hp => State.committed_parked hp
    · rw [State.noteGroups_results]
      exact fun p hp hgroup => State.committed_results (by rwa [State.at_lod]) hgroup
    · rw [State.noteGroups_get]
      exact State.committed_sync hberth
    · rw [State.noteGroups_objects, State.committed_objects, State.at_lod]
    · rw [State.noteGroups_get, State.committed_allwait hberth (s.at_slotSlice t _), State.at_get]
  case thaws =>
    have hnot : ¬s.allParked grp.val g := by
      intro hall
      obtain ⟨key, hkey, hnone⟩ := hgone
      obtain ⟨p, hp, hgroup, hpkey⟩ := hall key hkey
      exact hnone p hp hgroup hpkey
    have hrun := (doAllWaitingDecision_of_freezing hg hfreezing (t := t)).trans (if_neg hnot)
    rw [State.runHeld_of_none (by rwa [State.thawed_pend])] at hrun
    refine ⟨_, congrArg Host.Outcome.next hrun, ?_, ?_, ?_, ?_⟩
    · rw [State.noteGroups_parked, State.thawed_cmds, State.at_lod]
    · rw [State.noteGroups_parked]
      exact fun p hp hgroup => State.thawed_parked hp hgroup
    · rw [State.noteGroups_results, State.thawed_results, State.at_lod]
    · rw [State.noteGroups_get, State.thawed_count (s.at_slotSlice t _), State.at_get]

end Sys2Proof.Machine

/-! The end of a copy engine's job (R227 to R229), where a home still holds a request of it. -/
namespace Sys2Proof.Machine

/-- A ZERO job of one line to unshared memory, which runs and waits for nothing. -/
def lastLineJob : CopyJob :=
  { g := 0, id := 1, chan := 5, slot := 0, ticket := 9, opc := 0x41, fence := false, lines := 1, src := 0, dst := 64 * 8192, berth := 3,
    running := true, next := 0, waits := [], done := 0, bad := none, denied := false, failed := false, verify := false, since := 0,
    blind := [] }

/-- A request under that job's number that no home has taken yet. -/
def untakenRequest : Shadow :=
  { cell := 1024, tag := lastLineJob.id * 2 ^ 28, op := .wrFull, line := 4096, slot := 0, point := 17408, tack := 0, agent := none,
    fnl := false, berth := some 3, data := 0, mask := 0, region := 0, seg := 0, payload := false, count := 0, moved := false }

/-- An unshared window of lines 8192 to 12287 at pool cell 4, whose gate lets berth 3 write. -/
def unsharedWindowChart : Chart :=
  [(chartKey 6 0 1, [8192, 3 * 2 ^ 16 + 2 ^ 22, 12287, 0, 1000, 100, 4]),
   (chartKey 11 0 (64 * 4), [0, 0, 2 ^ 32 - 1, 2 ^ 14 - 1, 8, 0, 31])]

/-- The job runs in engine 0 while the homes still hold the request. -/
def State.jobWithRequest : State :=
  ({ State.reset with chart := unsharedWindowChart }.modCpy fun u => { u with jobs := [lastLineJob] }).modHome fun u =>
    { u with engineWait := [untakenRequest] }

/-- The end of the job takes its request from the homes (R227). -/
theorem State.jobWithRequest_ends : (doCopyChunkDone 0 [] [] 0 .jobWithRequest).home.engineWait = [] := by decide +kernel

/-- Refutes O24: the job's end also drops what its requests leave waiting at the homes, so where one stands the homes do not keep their
state. -/
theorem not_copyEnginesComplete : ¬ Obligations.CopyEnginesComplete := by
  unfold Obligations.CopyEnginesComplete
  rintro ⟨-, -, hchunk, -⟩
  obtain ⟨u, hu, -, -, -, -, -, hhome, -⟩ := hchunk .jobWithRequest 0 [] [] 0 1 lastLineJob rfl rfl rfl rfl rfl rfl rfl rfl rfl rfl rfl
    (by decide) rfl (by decide +kernel) (by decide +kernel) (by decide +kernel) (by decide +kernel) (by decide +kernel) rfl
  have hdropped : u.home.engineWait = [] := Host.Outcome.next.inj hu ▸ State.jobWithRequest_ends
  rw [hhome] at hdropped
  exact List.cons_ne_nil _ _ hdropped

end Sys2Proof.Machine

/-! The clear of a gate's violation record (R246) in the CK_MGT cycle of the violation (R8). -/
namespace Sys2Proof.Machine

/-- A write of 1 to VALID in the cycle of the violation leaves the record (R246). -/
theorem clearViolation_of_fresh {s : State} {n : Nat} (h : s.freshBits (F.gatViolValid n) ≠ 0) : clearViolation n s = s := if_neg h

/-- A served write of 1 to VALID has its effect and is answered Success. -/
theorem exec_violClear_served {s : State} {src : Sess} {who : Principal} {n : Fin 1098} (hserves : s.serves src who)
    (hpilot : who.isPilot = true) (hreach : s.reach (F.gatViolValid n.val).addr = true) :
    exec (.violClear src n) s = .next (s.acts src (clearViolation n.val)) :=
  congrArg _ (State.regCommandAt_acts hserves hreach hpilot _)

/-- The module at READY with a Pilot's session in slot 1, just after the management gate, which has no window, denied berth 3 line 0. -/
def State.justDenied : State :=
  (({ State.reset with sessions := [(1, ⟨.pilot 0, .ethernet, [], 2, 0⟩)] }.set F.rstStatReady 1).gateCheck gateMgt [0] 3 2 0).2

theorem State.justDenied_serves : State.justDenied.serves (.slot 1) (.pilot 0) := by decide +kernel

theorem State.justDenied_reach : State.justDenied.reach (F.gatViolValid gateMgt).addr = true := by decide +kernel

theorem State.justDenied_recorded : State.justDenied.get (F.gatViolValid gateMgt) = 1 := by decide +kernel

theorem State.justDenied_fresh : State.justDenied.freshBits (F.gatViolValid gateMgt) ≠ 0 := by decide +kernel

/-- Refutes O25: a Pilot's clear in the cycle of the violation leaves VALID at 1 (R8, R246), where the statement has it cleared. -/
theorem not_gatesDenyAndRecord : ¬ Obligations.GatesDenyAndRecord := by
  unfold Obligations.GatesDenyAndRecord
  rintro ⟨-, -, -, hclear⟩
  obtain ⟨hvalid, -⟩ := hclear .justDenied (.slot 1) (.pilot 0) ⟨gateMgt, by decide⟩ State.justDenied_serves rfl State.justDenied_reach
  rw [exec_violClear_served State.justDenied_serves rfl State.justDenied_reach] at hvalid
  have hacts := congrArg (State.get · (F.gatViolValid gateMgt)) (Host.Outcome.next.inj hvalid)
  have hkept : clearViolation gateMgt (State.justDenied.touch (.slot 1)) = State.justDenied.touch (.slot 1) :=
    clearViolation_of_fresh State.justDenied_fresh
  simp only [State.acts, State.done, State.respond_get, hkept, State.touch_get, State.justDenied_recorded, State.get_set_same] at hacts
  exact absurd hacts (by decide)

end Sys2Proof.Machine

/-! The berth mailbox (R236, R445, R446). -/
namespace Sys2Proof.Machine

theorem State.mgt_of_units {s u : State} (h : u.units = s.units) : u.mgt = s.mgt :=
  congrArg (a₁ := u.units) (a₂ := s.units) State.mgt h

/-- A violation is recorded in registers alone (R243, R245). -/
theorem State.violation_units (s : State) (n line berth kind source : Nat) (parts : Bool) :
    (s.violation n line berth kind source parts).units = s.units := by
  unfold State.violation
  split
  dsimp only
  split_ifs <;> simp

theorem State.gateCheck_units (s : State) (n : Nat) (lines : List Nat) (berth kind source : Nat) :
    (s.gateCheck n lines berth kind source).2.units = s.units := by
  unfold State.gateCheck
  split
  · rfl
  · exact State.violation_units ..

/-- A gate that denies no line leaves the state as it was (R242). -/
theorem State.eq_of_gateCheck_nil {s r : State} {n berth kind source : Nat} {lines : List Nat}
    (h : s.gateCheck n lines berth kind source = ([], r)) : r = s := by
  unfold State.gateCheck at h
  split at h
  · exact (Prod.mk.inj h).2.symm
  · exact absurd (Prod.mk.inj h).1 (List.cons_ne_nil _ _)

section
variable {s : State} {v : Fin 64} {line : Nat}

theorem State.mailWrite_of_down (hdown : s.pathUp (.mailbox v) = false) (act : State → State) : s.mailWrite v line act = s := by
  simp [State.mailWrite, hdown]

theorem State.mailWrite_of_permitted (hup : s.pathUp (.mailbox v) = true)
    (hgate : s.gateCheck gateMgt [line] (s.chart.vsBerth v.val) 2 (s.chart.vsUsp v.val) = ([], s)) (act : State → State) :
    s.mailWrite v line act = act s := by
  simp [State.mailWrite, hup, hgate]

theorem State.mailWrite_of_denied (hup : s.pathUp (.mailbox v) = true)
    (hgate : (s.gateCheck gateMgt [line] (s.chart.vsBerth v.val) 2 (s.chart.vsUsp v.val)).1 ≠ []) (act : State → State) :
    s.mailWrite v line act = (s.gateCheck gateMgt [line] (s.chart.vsBerth v.val) 2 (s.chart.vsUsp v.val)).2 := by
  simp [State.mailWrite, hup, hgate]

end

@[simp] theorem State.at_mailbox (s : State) (t v : Nat) : (s.at t).mailbox v = s.mailbox v := by simp [State.mailbox]

@[simp] theorem State.setMailbox_mailbox (s : State) (v : Nat) (m : Mailbox) : (s.setMailbox v m).mailbox v = m := by
  simp [State.mailbox, State.setMailbox, State.modMgt, SMap.getD]

/-- A request is discarded by an ABORT only while it is pending and not yet taken (R445; log entry 76). -/
theorem State.abortable_iff {s : State} {m : Mailbox} : (m.busy && !s.mailTaken m) = true ↔ m.busy = true ∧ s.now < m.goAt + mgtCycle := by
  cases hbusy : m.busy <;> simp [State.mailTaken, hbusy]

/-! A write of the mailbox that its gate permits acts on the mailbox. -/
section
variable {s : State} {v : Fin 64} {line : Fin (2 ^ 46)} (hup : s.pathUp (.mailbox v) = true)
  (hgate : s.gateCheck gateMgt [line.val] (s.chart.vsBerth v.val) 2 (s.chart.vsUsp v.val) = ([], s))
include hup hgate

theorem exec_mailboxGo_of_busy (hbusy : (s.mailbox v.val).busy = true) : exec (.mailboxGo v line) s = .next s :=
  congrArg Host.Outcome.next ((State.mailWrite_of_permitted hup hgate _).trans (if_pos hbusy))

theorem exec_mailboxGo_of_length (hbusy : (s.mailbox v.val).busy = false) (hlow : 1 ≤ (s.mailbox v.val).reqLen)
    (hhigh : (s.mailbox v.val).reqLen ≤ 12288) : exec (.mailboxGo v line) s =
      .next (s.setMailbox v.val { s.mailbox v.val with ready := false, error := false, busy := true, goAt := s.now }) := by
  have hnot : ¬(s.mailbox v.val).busy = true := by simp [hbusy]
  exact congrArg Host.Outcome.next
    ((State.mailWrite_of_permitted hup hgate _).trans ((if_neg hnot).trans (if_neg (by omega))))

theorem exec_mailboxGo_of_bad_length (hbusy : (s.mailbox v.val).busy = false)
    (hlength : (s.mailbox v.val).reqLen = 0 ∨ 12288 < (s.mailbox v.val).reqLen) : exec (.mailboxGo v line) s =
      .next (s.setMailbox v.val { s.mailbox v.val with ready := false, error := true }) := by
  have hnot : ¬(s.mailbox v.val).busy = true := by simp [hbusy]
  exact congrArg Host.Outcome.next ((State.mailWrite_of_permitted hup hgate _).trans ((if_neg hnot).trans (if_pos hlength)))

theorem exec_mailboxAbort_of_pending (hbusy : (s.mailbox v.val).busy = true) (hearly : s.now < (s.mailbox v.val).goAt + mgtCycle) :
    exec (.mailboxAbort v line) s = .next (s.setMailbox v.val { s.mailbox v.val with busy := false }) :=
  congrArg Host.Outcome.next
    ((State.mailWrite_of_permitted hup hgate _).trans (if_pos (State.abortable_iff.2 ⟨hbusy, hearly⟩)))

theorem exec_mailboxAbort_of_not_pending (h : (s.mailbox v.val).busy = false ∨ (s.mailbox v.val).goAt + mgtCycle ≤ s.now) :
    exec (.mailboxAbort v line) s = .next s := by
  have hnot : ¬((s.mailbox v.val).busy = true ∧ s.now < (s.mailbox v.val).goAt + mgtCycle) := by
    rintro ⟨hbusy, hearly⟩
    rcases h with hidle | hlate
    · exact Bool.false_ne_true (hidle.symm.trans hbusy)
    · omega
  exact congrArg Host.Outcome.next
    ((State.mailWrite_of_permitted hup hgate _).trans (if_neg fun h => hnot (State.abortable_iff.1 h)))

/-- An access of another size or alignment has no effect (R6). -/
theorem exec_mailboxReqWrite_of_unaligned {i : Fin 32768} {z : Fin 65} (h : z.val ≠ 4 ∨ i.val % 4 ≠ 0) (w : Fin (2 ^ 32)) :
    exec (.mailboxReqWrite v line i ⟨z, w⟩) s = .next s :=
  congrArg Host.Outcome.next ((State.mailWrite_of_permitted hup hgate _).trans (if_pos h))

/-- A write of MB.REQLEN stores 14 bits. -/
theorem exec_mailboxReqWrite_length (w : Fin (2 ^ 32)) : exec (.mailboxReqWrite v line 8 ⟨4, w⟩) s =
    .next (s.setMailbox v.val { s.mailbox v.val with reqLen := w.val % 2 ^ 14 }) :=
  congrArg Host.Outcome.next ((State.mailWrite_of_permitted hup hgate _).trans ((if_neg (by simp)).trans (if_pos rfl)))

/-- An aligned word in MB.REQ, or in none of the words that a write reaches. -/
theorem exec_mailboxReqWrite_word {i : Fin 32768} (halign : i.val % 4 = 0) (hne : i.val ≠ 8) (w : Fin (2 ^ 32)) :
    exec (.mailboxReqWrite v line i ⟨4, w⟩) s = .next
      (if 0x1000 ≤ i.val ∧ i.val < 0x4000 ∧ (s.mailbox v.val).busy = false then
        s.setMailbox v.val { s.mailbox v.val with req := SMap.put (s.mailbox v.val).req i.val w.val } else s) := by
  have hword : ¬((4 : Fin 65).val ≠ 4 ∨ i.val % 4 ≠ 0) := by simp [halign]
  exact congrArg Host.Outcome.next ((State.mailWrite_of_permitted hup hgate _).trans ((if_neg hword).trans (if_neg hne)))

/-- A word outside MB.REQLEN and MB.REQ takes nothing, aligned or not. -/
theorem exec_mailboxReqWrite_outside {i : Fin 32768} (hne : i.val ≠ 8) (hout : i.val < 0x1000 ∨ 0x4000 ≤ i.val) (w : Fin (2 ^ 32)) :
    exec (.mailboxReqWrite v line i ⟨4, w⟩) s = .next s := by
  by_cases halign : i.val % 4 = 0
  · rw [exec_mailboxReqWrite_word hup hgate halign hne, if_neg (by omega)]
  · exact exec_mailboxReqWrite_of_unaligned hup hgate (.inr halign) w

end

/-! The response (R445). -/

/-- Words put one after another at different places all stand there afterwards. -/
theorem SMap.find?_foldl_put {α : Type} {key : Nat → Nat} (hkey : Function.Injective key) (word : Nat → α) (m : SMap α) {n i : Nat}
    (hi : i < n) : SMap.find? ((List.range n).foldl (fun b j => SMap.put b (key j) (word j)) m) (key i) = some (word i) := by
  induction n with
  | zero => omega
  | succ n ih =>
    rw [List.range_succ, List.foldl_append, List.foldl_cons, List.foldl_nil, SMap.find?_put]
    split_ifs with hsame
    · rw [hkey hsame]
    · have hne : n ≠ i := fun h => hsame (congrArg key h)
      exact ih (by omega)

/-- The words of a response, put into the buffer, read as the response's bytes. -/
theorem find?_rspWords (l : List Nat) (m : SMap Nat) {i : Nat} (hi : 4 * i < l.length) :
    SMap.find? ((rspWords l).foldl (fun b e => SMap.put b e.1 e.2) m) (0x4000 + 4 * i) = some (leField l (4 * i) 4) := by
  rw [rspWords, List.foldl_map]
  exact SMap.find?_foldl_put (key := fun j => 0x4000 + 4 * j) (fun a b h => by dsimp only at h; omega)
    (fun j => leField l (4 * j) 4) m (by omega)

/-- A word of MB.RSP reads what the buffer holds. -/
theorem State.mailWord_rsp (s : State) (v : Nat) {i : Nat} (hi : 4 * i < 0x4000) :
    s.mailWord v (0x4000 + 4 * i) = SMap.getD (s.mailbox v).rsp (0x4000 + 4 * i) 0 := by
  unfold State.mailWord
  dsimp only
  rw [if_neg (by omega), if_neg (by omega), if_neg (by omega), if_neg (by omega), if_neg (by omega), if_pos (by omega)]

/-- The mailbox once a response has arrived. -/
def Mailbox.answered (m : Mailbox) (l : List Nat) : Mailbox :=
  { m with busy := false, ready := true, rspLen := l.length, rsp := (rspWords l).foldl (fun b e => SMap.put b e.1 e.2) m.rsp }

section
variable {s : State} {v t : Nat}

theorem doMailboxResponse_of_untaken (h : (s.at t).mailTaken (s.mailbox v) = false) (rsp : Option (List Nat)) :
    doMailboxResponse v rsp t s = s.at t := by
  simp [doMailboxResponse, h]

theorem doMailboxResponse_malformed (h : (s.at t).mailTaken (s.mailbox v) = true) :
    doMailboxResponse v none t s = (s.at t).setMailbox v { s.mailbox v with busy := false, error := true } := by
  simp [doMailboxResponse, h]

theorem doMailboxResponse_answer (h : (s.at t).mailTaken (s.mailbox v) = true) {l : List Nat} (hl : l.length ≤ 16384) :
    doMailboxResponse v (some l) t s = (s.at t).setMailbox v ((s.mailbox v).answered l) := by
  simp [doMailboxResponse, h, hl, Mailbox.answered]

end

/-- The words of an answered mailbox read as the response's bytes. -/
theorem State.mailWord_answered (s : State) (v : Nat) (m : Mailbox) {l : List Nat} (hl : l.length ≤ 16384) {i : Nat} (hi : 4 * i < l.length) :
    (s.setMailbox v (m.answered l)).mailWord v (0x4000 + 4 * i) = leField l (4 * i) 4 := by
  rw [State.mailWord_rsp _ _ (by omega), State.setMailbox_mailbox, SMap.getD, Mailbox.answered, find?_rspWords l _ hi, Option.getD_some]

/-- Settles O52: what each write does where the gate permits it, where it denies it and where the path is down, and what a response does
before and after its request is taken. -/
theorem mailboxComplete : Obligations.MailboxComplete := by
  unfold Obligations.MailboxComplete
  refine ⟨fun s r v line hup hgate => ?permitted, fun s v line hup hgate i z w => ?denied, fun s v line i z w hdown => ?down,
    fun s r v t hr => ?response⟩
  case permitted =>
    obtain rfl : r = s := State.eq_of_gateCheck_nil hgate
    refine ⟨exec_mailboxGo_of_busy hup hgate, exec_mailboxGo_of_length hup hgate, exec_mailboxGo_of_bad_length hup hgate,
      exec_mailboxAbort_of_pending hup hgate, exec_mailboxAbort_of_not_pending hup hgate, fun w => ⟨exec_mailboxReqWrite_length hup hgate w,
        fun i halign hlow hhigh => ⟨fun hidle => ?_, fun hbusy => ?_⟩, fun i hne hout => exec_mailboxReqWrite_outside hup hgate hne hout w,
        fun i z h => exec_mailboxReqWrite_of_unaligned hup hgate h w⟩⟩
    · rw [exec_mailboxReqWrite_word hup hgate halign (by omega), if_pos ⟨hlow, hhigh, hidle⟩]
    · rw [exec_mailboxReqWrite_word hup hgate halign (by omega), if_neg (by simp [hbusy])]
  case denied =>
    have hrun := State.mailWrite_of_denied hup hgate
    exact ⟨_, congrArg Host.Outcome.next (hrun _), congrArg Host.Outcome.next (hrun _), congrArg Host.Outcome.next (hrun _),
      congrArg MgtUnit.mail (State.mgt_of_units (State.gateCheck_units ..))⟩
  case down =>
    have hrun := State.mailWrite_of_down hdown (line := line.val)
    exact ⟨congrArg _ (hrun _), congrArg _ (hrun _), congrArg _ (hrun _)⟩
  case response =>
    subst hr
    refine ⟨fun huntaken x => congrArg _ (doMailboxResponse_of_untaken huntaken _), fun htaken =>
      ⟨congrArg _ (doMailboxResponse_malformed htaken), fun l hl => ?_⟩⟩
    have hbytes : (l.map (·.val)).length ≤ 16384 := by rwa [List.length_map]
    refine ⟨_, congrArg Host.Outcome.next (doMailboxResponse_answer htaken hbytes), ?_, ?_, ?_, rfl, fun i hi => ?_⟩
    · rw [State.setMailbox_mailbox]; rfl
    · rw [State.setMailbox_mailbox]; rfl
    · rw [State.setMailbox_mailbox]; exact List.length_map ..
    · exact State.mailWord_answered _ _ _ hbytes (by rwa [List.length_map])

end Sys2Proof.Machine

/-! The lanes (R250 to R273): what their records, and the fields read with them, are after each operation. -/
namespace Sys2Proof.Machine

@[simp] theorem State.at_lan (s : State) (t : Nat) : (s.at t).lan = s.lan := by rw [State.at_eq]
@[simp] theorem State.at_lane (s : State) (t l : Nat) : (s.at t).lane l = s.lane l := by rw [State.lane, State.lane, State.at_lan]
@[simp] theorem State.at_lanePleat (s : State) (t l : Nat) : (s.at t).lanePleat l = s.lanePleat l := by
  rw [State.lanePleat, State.lanePleat, State.at_chart]
@[simp] theorem State.at_laneEyes (s : State) (t c : Nat) : (s.at t).laneEyes c = s.laneEyes c := by simp [State.laneEyes]

theorem State.lan_of_units {s u : State} (h : u.units = s.units) : u.lan = s.lan :=
  congrArg (a₁ := u.units) (a₂ := s.units) State.lan h

theorem State.lane_of_lan {s u : State} (h : u.lan = s.lan) (l : Nat) : u.lane l = s.lane l := by rw [State.lane, State.lane, h]

@[simp] theorem State.setLane_lane_same (s : State) (l : Nat) (r : LaneRec) : (s.setLane l r).lane l = r := by
  simp [State.lane, State.setLane, State.modLan, SMap.getD]

theorem State.setLane_lane_of_ne (s : State) {l k : Nat} (h : l ≠ k) (r : LaneRec) : (s.setLane l r).lane k = s.lane k := by
  simp [State.lane, State.setLane, State.modLan, SMap.getD, SMap.find?_put_of_ne _ _ h]

@[simp] theorem State.setLane_get (s : State) (l : Nat) (r : LaneRec) (f : Fld) : (s.setLane l r).get f = s.get f := rfl
@[simp] theorem State.setLane_chart (s : State) (l : Nat) (r : LaneRec) : (s.setLane l r).chart = s.chart := rfl
@[simp] theorem State.setLane_sent (s : State) (l : Nat) (r : LaneRec) : (s.setLane l r).sent = s.sent := rfl
@[simp] theorem State.setLane_now (s : State) (l : Nat) (r : LaneRec) : (s.setLane l r).now = s.now := rfl
@[simp] theorem State.setLane_nv (s : State) (l : Nat) (r : LaneRec) : (s.setLane l r).nv = s.nv := rfl

@[simp] theorem State.setAll_lan (s : State) (m : List (Fld × Nat)) : (s.setAll m).lan = s.lan := State.lan_of_units (s.setAll_units m)
@[simp] theorem State.setAll_core (s : State) (m : List (Fld × Nat)) : (s.setAll m).core = s.core := State.core_of_units (s.setAll_units m)
@[simp] theorem State.setAll_nv (s : State) (m : List (Fld × Nat)) : (s.setAll m).nv = s.nv := State.nv_of_units (s.setAll_units m)
@[simp] theorem State.bump_lan (s : State) (f : Fld) (n : Nat) : (s.bump f n).lan = s.lan := rfl
@[simp] theorem State.bump_core (s : State) (f : Fld) (n : Nat) : (s.bump f n).core = s.core := rfl
@[simp] theorem State.bump_sent (s : State) (f : Fld) (n : Nat) : (s.bump f n).sent = s.sent := rfl
@[simp] theorem State.emit_lan (s : State) (e : Emit) : (s.emit e).lan = s.lan := rfl
@[simp] theorem State.emit_core (s : State) (e : Emit) : (s.emit e).core = s.core := rfl
@[simp] theorem State.emit_sent (s : State) (e : Emit) : (s.emit e).sent = e :: s.sent := rfl

@[simp] theorem State.modLan_get (s : State) (g : LaneUnit → LaneUnit) (f : Fld) : (s.modLan g).get f = s.get f := rfl
@[simp] theorem State.modLan_lan (s : State) (g : LaneUnit → LaneUnit) : (s.modLan g).lan = g s.lan := rfl
@[simp] theorem State.modLan_sent (s : State) (g : LaneUnit → LaneUnit) : (s.modLan g).sent = s.sent := rfl
@[simp] theorem State.modLan_lvc (s : State) (g : LaneUnit → LaneUnit) : (s.modLan g).lvc = s.lvc := rfl
@[simp] theorem State.set_lvc (s : State) (f : Fld) (v : Nat) : (s.set f v).lvc = s.lvc := rfl
@[simp] theorem State.setAll_lvc (s : State) (m : List (Fld × Nat)) : (s.setAll m).lvc = s.lvc :=
  congrArg (a₁ := (s.setAll m).units) (a₂ := s.units) State.lvc (s.setAll_units m)
@[simp] theorem State.set_lan (s : State) (f : Fld) (v : Nat) : (s.set f v).lan = s.lan := rfl

@[simp] theorem State.set_lane (s : State) (f : Fld) (v l : Nat) : (s.set f v).lane l = s.lane l := rfl
@[simp] theorem State.bump_lane (s : State) (f : Fld) (n l : Nat) : (s.bump f n).lane l = s.lane l := rfl
@[simp] theorem State.setAll_lane (s : State) (m : List (Fld × Nat)) (l : Nat) : (s.setAll m).lane l = s.lane l :=
  State.lane_of_lan (s.setAll_lan m) l
@[simp] theorem State.setAll_sent (s : State) (m : List (Fld × Nat)) : (s.setAll m).sent = s.sent := State.sent_of_units (s.setAll_units m)
@[simp] theorem State.setAll_now (s : State) (m : List (Fld × Nat)) : (s.setAll m).now = s.now := by
  obtain ⟨-, -, hnow, -⟩ := State.eq_of_units (s.setAll_units m)
  exact hnow

end Sys2Proof.Machine

/-! Range changes and their trials (R254, R265 to R267). -/
namespace Sys2Proof.Machine

/-- A chart gives each lane a lead cell of the module. -/
theorem State.lanePleat_lt (s : State) (l : Nat) : s.lanePleat l < 1024 := Nat.mod_lt _ (by decide)

section
variable {s : State} {l : Nat}

theorem State.startTrial_of_free (hstep : (s.lane l).step = none) (htrial : (s.lane l).trial = none) (kind old new : Nat) :
    s.startTrial l kind old new = (s.setLane l { s.lane l with trial := some ⟨kind, old, new, s.now, s.now, false, true⟩ }).setAll
      [(F.sxtTrialKind l, kind), (F.sxtTrialFrom l, old), (F.sxtTrialTo l, new)] := by
  simp [State.startTrial, hstep, htrial]

/-- A step that waits already is not replaced. -/
theorem State.pendStep_lane (s : State) (l kind target : Nat) : (s.pendStep l kind target).lane l =
    { s.lane l with step := some ((s.lane l).step.getD ⟨kind, target, s.now⟩) } := by
  unfold State.pendStep
  dsimp only
  cases hstep : (s.lane l).step with
  | some x => rw [if_pos (by simp), Option.getD_some, ← hstep]
  | none =>
    rw [if_neg (by simp), Option.getD_none]
    split_ifs <;> exact State.setLane_lane_same ..

/-- A step that begins to wait writes no register of the Sextant: those lie behind the lanes' (R273). -/
theorem State.pendStep_get (s : State) (hl : l < 2048) (kind target : Nat) {f : Fld} (hlsb : f.lsb < 32) (hf : 0x780000 ≤ f.addr) :
    (s.pendStep l kind target).get f = s.get f := by
  have hp := s.lanePleat_lt l
  have hset (u : State) {g : Fld} (hg : g.lsb < 32) (haddr : g.addr < 0x780000) (v : Nat) : (u.set g v).get f = u.get f :=
    u.get_set_of_ne _ _ _ (Fld.key_ne_of_addr_ne hg hlsb (by omega))
  have hpending (u : State) (v : Nat) : (u.set (F.lanRxeqStepPending l) v).get f = u.get f := by
    refine hset u ?_ ?_ v <;> simp only [F.lanRxeqStepPending] <;> omega
  have hasks (u : State) (v : Nat) : (u.set (F.lanQwstatReqOut (2 * s.lanePleat l)) v).get f = u.get f := by
    refine hset u ?_ ?_ v <;> simp only [F.lanQwstatReqOut] <;> omega
  unfold State.pendStep
  dsimp only
  split_ifs <;> simp only [State.emit_get, hasks, hpending, State.setLane_get]

@[simp] theorem State.settleTrial_lane (s : State) (l outcome : Nat) : (s.settleTrial l outcome).lane l = { s.lane l with trial := none } := by
  simp [State.settleTrial]

@[simp] theorem State.settleTrial_sent (s : State) (l outcome : Nat) : (s.settleTrial l outcome).sent = s.sent := by simp [State.settleTrial]

@[simp] theorem State.settleTrial_now (s : State) (l outcome : Nat) : (s.settleTrial l outcome).now = s.now := by simp [State.settleTrial]

theorem State.settleTrial_outcome (s : State) (l : Nat) {outcome : Nat} (h : outcome < 8) :
    (s.settleTrial l outcome).get (F.sxtTrialOutcome l) = outcome := by
  refine ((s.setLane l { s.lane l with trial := none }).get_setAll_of_mem [] [(F.lanRxeqEndStop l, 0)] ?_).trans (Nat.mod_eq_of_lt h)
  simp [Fld.key, F.lanRxeqEndStop, F.sxtTrialOutcome]
  omega

theorem State.settleTrial_get (s : State) (l outcome : Nat) {f : Fld} (houtcome : (F.sxtTrialOutcome l).key ≠ f.key)
    (hend : (F.lanRxeqEndStop l).key ≠ f.key) : (s.settleTrial l outcome).get f = s.get f := by
  rw [State.settleTrial, State.get_setAll_of_ne _ (by simp [houtcome, hend]), State.setLane_get]

@[simp] theorem State.rejectTrial_lane (s : State) (l outcome : Nat) : (s.rejectTrial l outcome).lane l = { s.lane l with trial := none } :=
  s.settleTrial_lane l outcome

theorem State.rejectTrial_sent (s : State) (l outcome : Nat) : (s.rejectTrial l outcome).sent = s.sent := s.settleTrial_sent l outcome

theorem State.rejectTrial_outcome (s : State) (l : Nat) {outcome : Nat} (h : outcome < 8) :
    (s.rejectTrial l outcome).get (F.sxtTrialOutcome l) = outcome := by
  rw [State.rejectTrial, State.get_bump_of_ne, State.settleTrial_outcome s l h]
  simp [Fld.key, F.sxtTrialcntRejects, F.sxtTrialOutcome]
  omega

/-- The measurements of a trial (R265, R273). -/
def State.measured (s : State) (l t1 t2 : Nat) : State := (s.setAll [(F.sxtTrialT1 l, t1), (F.sxtTrialT2 l, t2)]).bump (F.sxtTrialcntTrials l) 1

@[simp] theorem State.measured_lane (s : State) (l t1 t2 : Nat) : (s.measured l t1 t2).lane l = s.lane l := by simp [State.measured]
@[simp] theorem State.measured_sent (s : State) (l t1 t2 : Nat) : (s.measured l t1 t2).sent = s.sent := s.setAll_sent _
@[simp] theorem State.measured_now (s : State) (l t1 t2 : Nat) : (s.measured l t1 t2).now = s.now := s.setAll_now _

theorem State.measured_t1 (s : State) (l : Nat) (t1 : Fin 256) (t2 : Nat) : (s.measured l t1 t2).get (F.sxtTrialT1 l) = t1 := by
  rw [State.measured, State.get_bump_of_ne _ _ (by simp [Fld.key, F.sxtTrialcntTrials, F.sxtTrialT1]; omega)]
  refine (s.get_setAll_of_mem [] [(F.sxtTrialT2 l, t2)] ?_).trans (Nat.mod_eq_of_lt t1.isLt)
  simp [Fld.key, F.sxtTrialT1, F.sxtTrialT2]

theorem State.measured_t2 (s : State) (l t1 : Nat) (t2 : Fin 256) : (s.measured l t1 t2).get (F.sxtTrialT2 l) = t2 := by
  rw [State.measured, State.get_bump_of_ne _ _ (by simp [Fld.key, F.sxtTrialcntTrials, F.sxtTrialT2]; omega)]
  exact (s.get_setAll_of_mem [(F.sxtTrialT1 l, t1)] [] (by simp)).trans (Nat.mod_eq_of_lt t2.isLt)

/-- A trial that is applied leaves the change to a step, and its record shows what it measured (R266). -/
theorem State.measured_applyTrial_shows (s : State) (hl : l < 2048) (t1 t2 : Fin 256) {outcome : Nat} (h : outcome < 8) (x : LaneTrial) :
    ((s.measured l t1 t2).applyTrial l outcome x).get (F.sxtTrialOutcome l) = outcome ∧
      ((s.measured l t1 t2).applyTrial l outcome x).get (F.sxtTrialT1 l) = t1 ∧
      ((s.measured l t1 t2).applyTrial l outcome x).get (F.sxtTrialT2 l) = t2 := by
  refine ⟨(State.pendStep_get _ hl _ _ ?_ ?_).trans (State.settleTrial_outcome _ l h),
    (State.pendStep_get _ hl _ _ ?_ ?_).trans ((State.settleTrial_get _ l _ ?_ ?_).trans (s.measured_t1 l t1 t2)),
    (State.pendStep_get _ hl _ _ ?_ ?_).trans ((State.settleTrial_get _ l _ ?_ ?_).trans (s.measured_t2 l t1 t2))⟩
  all_goals simp [Fld.key, F.sxtTrialOutcome, F.sxtTrialT1, F.sxtTrialT2, F.lanRxeqEndStop]
  all_goals omega

theorem State.measured_applyTrial_lane (s : State) (l t1 t2 outcome : Nat) (x : LaneTrial) :
    ((s.measured l t1 t2).applyTrial l outcome x).lane l =
      { s.lane l with trial := none, step := some ((s.lane l).step.getD ⟨x.kind, x.to_, s.now⟩) } := by
  simp [State.applyTrial, State.pendStep_lane]

end

section
variable {s : State} {l t : Nat}

/-- At an end of the CTLE range with a range beyond it, a trial of that range is asked for (R254). -/
theorem doRangeChangeRequest_ctle (hactive : s.flag (F.lanModeActive l) = true) (up : Bool) : doRangeChangeRequest l false up t s =
    if (up && s.get (F.lanRxeqCtleRange l) == 3) || (!up && s.get (F.lanRxeqCtleRange l) == 0) then
      (s.at t).set (F.lanRxeqCtlePeak l) (if up then 15 else 0)
    else ((s.at t).set (F.lanRxeqCtlePeak l) (if up then 15 else 0)).startTrial l 0 (s.get (F.lanRxeqCtleRange l))
      (if up then s.get (F.lanRxeqCtleRange l) + 1 else s.get (F.lanRxeqCtleRange l) - 1) := by
  simp [doRangeChangeRequest, hactive]

variable {x : LaneTrial} (htrial : (s.lane l).trial = some x)
include htrial

theorem doTrialRetry_of_due (hrests : x.running = false) (hdue : x.start + usec 8 ≤ (s.at t).now) (hsweep : l ∉ s.lan.sweeping) :
    doTrialRetry l t s = (s.at t).setLane l { s.lane l with trial := some { x with start := (s.at t).now, running := true } } := by
  simp [doTrialRetry, htrial, hrests, hdue, hsweep]

variable (hruns : x.running = true) {t1 t2 : Nat}
include hruns

/-- A trial whose two readings lie close enough is decided by its gain (R265, R266). -/
theorem doTrialEnd_of_flat (hflat : max t1 t2 - min t1 t2 ≤ s.get (F.sxtRangectlSlopeMax l)) (push : Bool) :
    doTrialEnd l t1 t2 push t s = if s.get (F.sxtFom l) + s.get (F.sxtRangectlGainMin l) ≤ t2 then
      ((s.at t).measured l t1 t2).applyTrial l (if x.deferred then 4 else 1) x else ((s.at t).measured l t1 t2).rejectTrial l 2 := by
  simp [doTrialEnd, htrial, hruns, hflat, State.measured]

/-- One whose readings differ more is put off while it may be (R266). -/
theorem doTrialEnd_of_steep (hsteep : s.get (F.sxtRangectlSlopeMax l) < max t1 t2 - min t1 t2)
    (hearly : (s.at t).now < x.first + usec (s.get (F.sxtRangectlDeferMax l))) :
    doTrialEnd l t1 t2 false t s = ((s.at t).measured l t1 t2).deferTrial l x := by
  simp [doTrialEnd, htrial, hruns, Nat.not_le.mpr hsteep, Nat.not_le.mpr hearly, State.measured]

end

theorem State.deferTrial_lane (s : State) (l : Nat) (x : LaneTrial) : (s.deferTrial l x).lane l =
    { s.lane l with trial := some { x with start := s.now, deferred := true, running := false } } := by
  unfold State.deferTrial
  dsimp only
  split_ifs <;> simp

theorem State.deferTrial_sent (s : State) (l : Nat) (x : LaneTrial) : (s.deferTrial l x).sent = s.sent := by
  unfold State.deferTrial
  dsimp only
  split_ifs <;> rfl

/-- Settles O27: a range change asked for is tried where there is a range beyond; a trial that ends is applied, rejected or put off. -/
theorem rangeChangesAndTrials : Obligations.RangeChangesAndTrials := by
  unfold Obligations.RangeChangesAndTrials
  refine ⟨fun s l t hactive => ?asked, fun s l kind old new hstep htrial _ hold hnew => ?begins,
    fun s l t x htrial hrests hdue hsweep => congrArg Host.Outcome.next (doTrialRetry_of_due htrial hrests hdue hsweep),
    fun s l t1 t2 push t x htrial hruns => ⟨fun hflat hgain => ?applied, fun hflat hgain => ?rejected, fun hsteep hpush hearly => ?deferred⟩⟩
  case asked =>
    have hrun (up : Bool) := congrArg (Host.Outcome.next (φ := Fault) (ρ := Refusal)) (doRangeChangeRequest_ctle (t := t) hactive up)
    refine ⟨fun htop => ?_, fun hbottom => ?_, fun hbelow => ?_⟩
    · exact (hrun true).trans (by simp [htop])
    · exact (hrun false).trans (by simp [hbottom])
    · exact (hrun true).trans (by simp [hbelow.ne])
  case begins =>
    rw [State.startTrial_of_free hstep htrial]
    refine ⟨by simp, ?_, ?_⟩
    · exact (State.get_setAll_of_mem _ [(F.sxtTrialKind l, kind), (F.sxtTrialFrom l, old)] [] (by simp)).trans (Nat.mod_eq_of_lt hnew)
    · refine (State.get_setAll_of_mem _ [(F.sxtTrialKind l, kind)] [(F.sxtTrialTo l, new)] ?_).trans (Nat.mod_eq_of_lt hold)
      simp [Fld.key, F.sxtTrialFrom, F.sxtTrialTo]
  case applied =>
    have hrun := (doTrialEnd_of_flat (t := t) htrial hruns hflat push).trans (if_pos hgain)
    have hlane := (s.at t).measured_applyTrial_lane l.val t1 t2 (if x.deferred then 4 else 1) x
    obtain ⟨houtcome, ht1, ht2⟩ :=
      (s.at t).measured_applyTrial_shows l.isLt t1 t2 (outcome := if x.deferred then 4 else 1) (by split <;> decide) x
    refine ⟨_, congrArg Host.Outcome.next hrun, congrArg LaneRec.trial hlane, houtcome, ht1, ht2, fun hstep => ?_⟩
    rw [hlane, State.at_lane, hstep]
    rfl
  case rejected =>
    have hrun := (doTrialEnd_of_flat (t := t) htrial hruns hflat push).trans (if_neg (Nat.not_le.mpr hgain))
    have hlane : (((s.at t).measured l t1 t2).rejectTrial l 2).lane l = { s.lane l with trial := none } := by simp
    refine ⟨_, congrArg Host.Outcome.next hrun, congrArg LaneRec.trial hlane, State.rejectTrial_outcome _ l (by decide),
      (congrArg LaneRec.step hlane :), ?_⟩
    rw [State.rejectTrial_sent, State.measured_sent, State.at_sent]
  case deferred =>
    subst hpush
    refine ⟨_, congrArg Host.Outcome.next (doTrialEnd_of_steep htrial hruns hsteep hearly), ?_, ?_⟩
    · rw [State.deferTrial_lane, State.measured_now]
    · rw [State.deferTrial_sent, State.measured_sent, State.at_sent]

end Sys2Proof.Machine

/-! Reports to the collectors (R312 to R320): what an event that is not fatal writes on its way to the chip collector. -/
namespace Sys2Proof.Machine

/-- A word that reports write: one of the FLT block or of the chip collector, or one in the collector's part of another unit. -/
abbrev faultWord (a : Nat) : Prop := a < 0x101000 ∨ (0x800000 ≤ a ∧ 0x600 ≤ a % 0x1000)

/-- A field that no report writes. -/
abbrev Fld.besideReports (f : Fld) : Prop := f.lsb < 32 ∧ ¬faultWord f.addr

/-- The state without what reports write: registers, the note of this cycle's bits, counters, and the fault unit. -/
def State.beyondFaults (s : State) : State := { s.units with flt := State.reset.flt }

/-- A change such as a report makes. -/
structure State.Reports (s u : State) : Prop where
  beyond : u.beyondFaults = s.beyondFaults
  get : ∀ f : Fld, f.besideReports → u.get f = s.get f

namespace State.Reports
variable {s u v : State}

theorem refl (s : State) : Reports s s := ⟨rfl, fun _ _ => rfl⟩

theorem trans (h : Reports s u) (g : Reports u v) : Reports s v :=
  ⟨g.beyond.trans h.beyond, fun f hf => (g.get f hf).trans (h.get f hf)⟩

theorem ite {c : Prop} [Decidable c] (h : Reports s u) (g : Reports s v) : Reports s (if c then u else v) := by
  split
  · exact h
  · exact g

theorem set (s : State) {g : Fld} (hlsb : g.lsb < 32) (hword : faultWord g.addr) (v : Nat) : Reports s (s.set g v) where
  beyond := rfl
  get _ hf := s.get_set_of_ne _ _ _ (Fld.key_ne_of_addr_ne hlsb hf.1 fun h => hf.2 (h ▸ hword))

theorem flt (s : State) (x : FaultUnit) : Reports s { s with flt := x } := ⟨rfl, fun _ _ => rfl⟩

theorem lan (h : Reports s u) : u.lan = s.lan := congrArg (a₁ := u.beyondFaults) (a₂ := s.beyondFaults) State.lan h.beyond
theorem lnk (h : Reports s u) : u.lnk = s.lnk := congrArg (a₁ := u.beyondFaults) (a₂ := s.beyondFaults) State.lnk h.beyond
theorem core (h : Reports s u) : u.core = s.core := congrArg (a₁ := u.beyondFaults) (a₂ := s.beyondFaults) State.core h.beyond
theorem sent (h : Reports s u) : u.sent = s.sent := congrArg (a₁ := u.beyondFaults) (a₂ := s.beyondFaults) State.sent h.beyond

theorem fnl (h : Reports s u) (p : Nat) : u.fnl p = s.fnl p := by rw [State.fnl, State.fnl, h.lnk]

end State.Reports

/-- Every collector's words begin at a page: that of the chip, or one from the blocks' on. -/
theorem faultWord_colBase (c : Nat) {off : Nat} (hlow : 0x600 ≤ off) (hhigh : off < 0x1000) : faultWord (colBase c + off) := by
  unfold colBase faultWord
  split_ifs <;> omega

/-- A collector writes its own words (R320). -/
theorem State.takeEvent_reports (s : State) (c i cls : Nat) : s.Reports (s.takeEvent c i cls) := by
  have hset (u : State) {g : Fld} {off : Nat} (haddr : g.addr = colBase c + off) (hlow : 0x600 ≤ off) (hhigh : off < 0x1000)
      (hlsb : g.lsb < 32) (v : Nat) : u.Reports (u.set g v) := .set u hlsb (haddr ▸ faultWord_colBase c hlow hhigh) v
  have hcount : s.Reports (if cls = 0 then s.bump (F.colCountC0 (colBase c)) 1
      else if cls = 1 then s.bump (F.colCountC1 (colBase c)) 1 else s.bump (F.colCountC2 (colBase c)) 1) := by
    refine .ite (hset s rfl ?_ ?_ ?_ _) (.ite (hset s rfl ?_ ?_ ?_ _) (hset s rfl ?_ ?_ ?_ _)) <;>
      simp [F.colCountC0, F.colCountC1, F.colCountC2]
  unfold State.takeEvent
  dsimp only
  refine .ite hcount (hcount.trans (.ite (.trans (hset _ rfl ?_ ?_ ?_ _) (hset _ rfl ?_ ?_ ?_ _)) ?_))
  case refine_7 =>
    refine (hset _ rfl ?_ ?_ ?_ _).trans ((hset _ rfl ?_ ?_ ?_ _).trans ((hset _ rfl ?_ ?_ ?_ _).trans (hset _ rfl ?_ ?_ ?_ _))) <;>
      simp [F.colFirstSrc, F.colFirstClass, F.colFirstTime, F.colFirstValid]
  all_goals simp [F.colFirstOverflow, F.colPending]

theorem State.setBit_colSsw_reports (s : State) (c i : Nat) : s.Reports (s.setBit (F.colSsw (colBase c)) i) :=
  .set s (Nat.zero_lt_succ _) (faultWord_colBase c (off := 0x610) (by decide) (by decide)) _

/-- The chip collector counts a corrected event and may tell the Pilot, and keeps one of class C2 for its sequencer (R315, R328). -/
theorem State.hubAct_reports (s : State) {cls : Nat} (h : cls < 3) (origin input cause : Nat) : s.Reports (s.hubAct cls origin input cause) := by
  have hcount : s.Reports (s.bump F.fltC0win 1) := .set s (by decide) (by decide) _
  have hraise (u : State) : u.Reports (u.raiseOne atCorrected audPilot) :=
    .trans (.set u (by decide) (by decide) _) (.set _ (by decide) (by decide) _)
  unfold State.hubAct
  dsimp only
  split_ifs with hzero hnotify hone htwo
  · exact hcount.trans (.trans (.flt _ _) (hraise _))
  · exact hcount
  · exact .refl s
  · exact .flt s _
  · omega

/-- An event on a line latches the start-up status of its input, or is taken here and by the collectors above. -/
theorem State.lineEvent_reports {cls : Nat} (h : cls < 3) (origin input cause levels : Nat) (s : State) (c i : Nat) :
    s.Reports (s.lineEvent levels c i cls origin input cause) := by
  induction levels generalizing s c i with
  | zero =>
    exact .ite (s.setBit_colSsw_reports c i) (.ite (.refl s) (.ite ((s.takeEvent_reports c i cls).trans (State.hubAct_reports _ h ..))
      (s.takeEvent_reports c i cls)))
  | succ levels ih =>
    exact .ite (s.setBit_colSsw_reports c i) (.ite (.refl s) (.ite ((s.takeEvent_reports c i cls).trans (State.hubAct_reports _ h ..))
      ((s.takeEvent_reports c i cls).trans (ih ..))))

/-- A report at a cell or a block, unless it is fatal, writes words of the collectors and of the FLT block alone. -/
theorem State.reportAt_reports (s : State) {unit : Nat × Nat} (hunit : unit.1 < 1152) {cls : Nat} (h : cls < 3) :
    s.Reports (s.reportAt unit cls) := by
  rw [State.reportAt, State.report, if_neg (by omega)]
  exact State.lineEvent_reports h ..

end Sys2Proof.Machine

/-! Codewords out of the receive pipeline (R263, R278, R282, R288, R293). -/
namespace Sys2Proof.Machine

section
variable {s : State} {p t : Nat} {cw : List Nat}

theorem doCodewordReceive_of_untaken (h : s.chart.isFnl p = false ∨ s.flag (F.celLinkstatUp p) = false) :
    doCodewordReceive p cw t s = s.at t := by
  unfold doCodewordReceive
  exact if_neg (by rcases h with h | h <;> simp [h])

variable (hfnl : s.chart.isFnl p = true) (hup : s.flag (F.celLinkstatUp p) = true)
include hfnl hup

/-- A suspect codeword is not looked at, and one suspect codeword fewer is to come. -/
theorem doCodewordReceive_of_suspect {n : Nat} (hsuspect : SMap.find? s.lan.suspect p = some n) (hmore : 2 ≤ n) :
    doCodewordReceive p cw t s = ((s.at t).modLan fun u => { u with suspect := SMap.put u.suspect p (n - 1) }).nakIf p := by
  have hnot : ¬n ≤ 1 := by omega
  simp [doCodewordReceive, hfnl, hup, hsuspect, hnot]

variable (hsuspect : SMap.find? s.lan.suspect p = none)
include hsuspect

theorem doCodewordReceive_of_uncorrectable (hcw : decodeCodeword cw = none) : doCodewordReceive p cw t s = (s.at t).badCw p := by
  simp [doCodewordReceive, hfnl, hup, hsuspect, hcw]

/-- A codeword that needs no correction and opens no window goes through the procedure of R288 alone. -/
theorem doCodewordReceive_of_sound {w : List Nat} (hcw : decodeCodeword cw = some (w, 0))
    (hwindow : ((s.at t).goodCw p w).get (F.lanQwrcvd (2 * p)) = s.get (F.lanQwrcvd (2 * p))) :
    doCodewordReceive p cw t s = (s.at t).goodCw p w := by
  simp [doCodewordReceive, hfnl, hup, hsuspect, hcw, hwindow]

end

/-! NAK (R288). -/

theorem State.nakIf_of_silent {s : State} {p : Nat} (h : (s.fnl p).nakOut = false) : s.nakIf p = s.nakNow p := by simp [State.nakIf, h]

theorem State.nakNow_get (s : State) {p : Nat} {f : Fld} (h : (F.fnlEvtNakTx p).key ≠ f.key) : (s.nakNow p).get f = s.get f := by
  rw [State.nakNow, State.emit_get, State.get_bump_of_ne _ _ h, State.setFnl_get]

theorem State.nakNow_fnl (s : State) (p : Nat) : (s.nakNow p).fnl p = { s.fnl p with nakOut := true, nakAt := s.now } := s.fnl_setFnl p _

theorem State.nakNow_sent (s : State) (p : Nat) :
    (s.nakNow p).sent = .nak p ((s.get (F.fnlSeqRxNext p) + 4095) % 4096) :: s.sent := rfl

theorem State.nakNow_core (s : State) (p : Nat) : (s.nakNow p).core = s.core := rfl

/-! An uncorrectable codeword (R278, R293). -/

/-- The codeword is counted, and makes the runs of bad codewords longer. -/
def State.badCounted (s : State) (p : Nat) : State :=
  (((s.setFnl p { s.fnl p with lockRun := (s.fnl p).lockRun + 1 }).bump (F.fnlUncor p) 1).bump (F.fnlWatchcntUncor p) 1).setFnl p
    { s.fnl p with lockRun := (s.fnl p).lockRun + 1, badRun := (s.fnl p).badRun + 1 }

/-- The codeword counted is reported: as C1, or as C0 where a reference switch-over has corrupted it (R21, R313). -/
def State.badReported (s : State) (p : Nat) : State := (s.badCounted p).reportAt (inPhy p) (if s.inStep then 0 else 1)

theorem State.badCounted_fnl (s : State) (p : Nat) : (s.badCounted p).fnl p =
    { s.fnl p with lockRun := (s.fnl p).lockRun + 1, badRun := (s.fnl p).badRun + 1 } := State.fnl_setFnl ..

theorem State.badCounted_get (s : State) {p : Nat} {f : Fld} (huncor : (F.fnlUncor p).key ≠ f.key)
    (hwatch : (F.fnlWatchcntUncor p).key ≠ f.key) :
    (s.badCounted p).get f = s.get f := by
  rw [State.badCounted, State.setFnl_get, State.get_bump_of_ne _ _ hwatch, State.get_bump_of_ne _ _ huncor, State.setFnl_get]

theorem State.badCounted_watch {s : State} {p : Nat} (h : s.get (F.fnlWatchcntUncor p) < 255) :
    (s.badCounted p).get (F.fnlWatchcntUncor p) = s.get (F.fnlWatchcntUncor p) + 1 := by
  have hne : (F.fnlUncor p).key ≠ (F.fnlWatchcntUncor p).key := by
    simp [Fld.key, F.fnlUncor, F.fnlWatchcntUncor]
  rw [State.badCounted, State.setFnl_get, State.get_bump_same, State.get_bump_of_ne _ _ hne, State.setFnl_get]
  exact min_eq_left (Nat.succ_le_of_lt h)

theorem State.badReported_reports (s : State) {p : Nat} (hp : p < 1024) : (s.badCounted p).Reports (s.badReported p) :=
  State.reportAt_reports _ (unit := inPhy p) (by simp only [inPhy]; omega) (by split <;> decide)

theorem State.badReported_fnl (s : State) {p : Nat} (hp : p < 1024) : (s.badReported p).fnl p =
    { s.fnl p with lockRun := (s.fnl p).lockRun + 1, badRun := (s.fnl p).badRun + 1 } :=
  ((s.badReported_reports hp).fnl p).trans (s.badCounted_fnl p)

/-- The codeword reported is NAKed (R288). -/
def State.badNaked (s : State) (p : Nat) : State := (s.badReported p).nakNow p

section
variable (s : State) {p : Nat} (hp : p < 1024)
include hp

/-- Neither the report nor the NAK touches the count of the watch. -/
theorem State.badNaked_watch (h : s.get (F.fnlWatchcntUncor p) < 255) :
    (s.badNaked p).get (F.fnlWatchcntUncor p) = s.get (F.fnlWatchcntUncor p) + 1 := by
  rw [State.badNaked, State.nakNow_get, (s.badReported_reports hp).get, State.badCounted_watch h]
  all_goals simp only [Fld.besideReports, faultWord, Fld.key, F.fnlEvtNakTx, F.fnlWatchcntUncor]
  all_goals omega

/-- A field that belongs neither to the collectors nor to the counts of bad codewords and of NAKs stays. -/
theorem State.badNaked_get {f : Fld} (hf : f.besideReports) (huncor : 0x600020 + 0x100 * p ≠ f.addr) (hwatch : 0x60000C + 0x100 * p ≠ f.addr)
    (hnak : 0x600024 + 0x100 * p ≠ f.addr) : (s.badNaked p).get f = s.get f := by
  have hne {g : Fld} (hg : g.lsb = 0) (haddr : g.addr ≠ f.addr) : g.key ≠ f.key :=
    Fld.key_ne_of_addr_ne (hg ▸ Nat.zero_lt_succ 31) hf.1 haddr
  rw [State.badNaked, State.nakNow_get _ (hne rfl hnak), (s.badReported_reports hp).get f hf,
    State.badCounted_get _ (hne rfl huncor) (hne rfl hwatch)]

theorem State.badNaked_next : (s.badNaked p).get (F.fnlSeqRxNext p) = s.get (F.fnlSeqRxNext p) := by
  apply s.badNaked_get hp <;> simp only [Fld.besideReports, faultWord, F.fnlSeqRxNext] <;> omega

theorem State.badNaked_up : (s.badNaked p).flag (F.celLinkstatUp p) = s.flag (F.celLinkstatUp p) := by
  refine congrArg (· == 1) (s.badNaked_get hp ?_ ?_ ?_ ?_) <;> simp only [Fld.besideReports, faultWord, F.celLinkstatUp] <;> omega

theorem State.badNaked_fnl : (s.badNaked p).fnl p =
    { s.fnl p with lockRun := (s.fnl p).lockRun + 1, badRun := (s.fnl p).badRun + 1, nakOut := true, nakAt := (s.badReported p).now } := by
  rw [State.badNaked, State.nakNow_fnl, s.badReported_fnl hp]

theorem State.badNaked_sent : (s.badNaked p).sent = .nak p ((s.get (F.fnlSeqRxNext p) + 4095) % 4096) :: s.sent := by
  have hnext : (s.badNaked p).get (F.fnlSeqRxNext p) = (s.badReported p).get (F.fnlSeqRxNext p) := by
    refine State.nakNow_get _ ?_
    simp only [Fld.key, F.fnlEvtNakTx, F.fnlSeqRxNext]
    omega
  rw [State.badNaked, State.nakNow_sent, ← hnext, s.badNaked_next hp, (s.badReported_reports hp).sent]
  rfl

theorem State.badNaked_core : (s.badNaked p).core = s.core := by
  rw [State.badNaked, State.nakNow_core, (s.badReported_reports hp).core]
  rfl

end

/-- With no window open, no CREDIT_SYNC due, no NAK outstanding, and the limits of R293 not reached, the codeword is counted, reported and
NAKed. -/
theorem State.badCw_of_tolerated {s : State} {p : Nat} (hp : p < 1024) (hasked : SMap.find? s.lan.asked p = none)
    (hsilent : (s.fnl p).nakOut = false) (hrun : (s.fnl p).badRun ≠ 1) (hlock : (s.fnl p).lockRun < 7)
    (hsmall : s.get (F.fnlWatchcntUncor p) < 255) (hmax : s.get (F.fnlWatchcntUncor p) + 1 < s.get (F.fnlLinkctlUncorMax p)) :
    s.badCw p = s.badNaked p := by
  have hbad : s.badCw p = if s.get (F.fnlLinkctlUncorMax p) ≤ ((s.badReported p).nakIf p).get (F.fnlWatchcntUncor p) then
      ((s.badReported p).nakIf p).linkDown p 1
      else if 8 ≤ (s.fnl p).lockRun + 1 then ((s.badReported p).nakIf p).linkDown p 6 else (s.badReported p).nakIf p := by
    simp only [State.badCw, hasked, Option.any_none, Bool.false_eq_true, if_false, Nat.reduceEqDiff, hrun]
    rfl
  have hnak : (s.badReported p).nakIf p = s.badNaked p := State.nakIf_of_silent (by rw [s.badReported_fnl hp]; exact hsilent)
  rw [hbad, hnak, s.badNaked_watch hp hsmall, if_neg (Nat.not_le.mpr hmax), if_neg (by omega)]

/-! A codeword that decodes (R288): the one in sequence that carries data. -/

theorem State.takeAck_of_none {h : Nat} (hack : bitsOf h 36 2 = 0) (s : State) (p : Nat) (slot0 : List Nat) : s.takeAck p h slot0 = s := by
  simp [State.takeAck, hack]

theorem State.takeQuiet_of_none {h : Nat} (hrequest : bitsOf h 62 1 = 0) (hgrant : bitsOf h 63 1 = 0) (s : State) (p : Nat) :
    s.takeQuiet p h = s := by
  simp [State.takeQuiet, hrequest, hgrant]

/-- A header whose kinds of slots read 2: one slot of data, and three that are empty. -/
theorem slotKinds_of_data {h : Nat} (hkinds : bitsOf h 12 8 = 2) :
    bitsOf h 12 2 = 2 ∧ bitsOf h 14 2 = 0 ∧ bitsOf h 16 2 = 0 ∧ bitsOf h 18 2 = 0 := by
  simp only [bitsOf] at hkinds ⊢
  omega

/-- The data slot that an open message still waits for closes it, and the number expected next moves on. -/
theorem State.acceptSlots_of_lastData {s : State} {p h : Nat} (hkinds : bitsOf h 12 8 = 2) (hopen : (s.fnl p).openData = 1) (cw : List Nat) :
    s.acceptSlots p h cw = (s.setFnl p { s.fnl p with openData := 0, nakOut := false }).set (F.fnlSeqRxNext p)
      ((s.get (F.fnlSeqRxNext p) + 1) % 4096) := by
  obtain ⟨h0, h1, h2, h3⟩ := slotKinds_of_data hkinds
  simp [State.acceptSlots, takeSlot, h0, h1, h2, h3, hopen]

/-- The link layer once a codeword's CREDIT counters are taken: the runs of bad codewords end. -/
def goodLayer (f : FnlLink) (h : Nat) : FnlLink :=
  takeCredits { f with badRun := 0, lockRun := 0 } ((List.range 6).map fun i => bitsOf h (38 + 4 * i) 4) 16

theorem State.goodCw_of_lastData {s : State} {p h : Nat} {cw : List Nat} (hh : h = (cw.take 8).foldr (fun b a => b + 256 * a) 0)
    (hup : s.flag (F.celLinkstatUp p) = true) (hack : bitsOf h 36 2 = 0) (hrequest : bitsOf h 62 1 = 0) (hgrant : bitsOf h 63 1 = 0)
    (hkinds : bitsOf h 12 8 = 2) (hopen : (s.fnl p).openData = 1) (hseq : bitsOf h 0 12 = s.get (F.fnlSeqRxNext p)) :
    s.goodCw p cw = ((s.setFnl p (goodLayer (s.fnl p) h)).setFnl p { goodLayer (s.fnl p) h with openData := 0, nakOut := false }).set
      (F.fnlSeqRxNext p) ((s.get (F.fnlSeqRxNext p) + 1) % 4096) := by
  obtain ⟨h0, -⟩ := slotKinds_of_data hkinds
  have hlink : (s.setFnl p (goodLayer (s.fnl p) h)).flag (F.celLinkstatUp p) = true := hup
  have hlayer : ((s.setFnl p (goodLayer (s.fnl p) h)).fnl p).openData = 1 := by
    rw [State.fnl_setFnl]
    exact hopen
  have haccept := State.acceptSlots_of_lastData hkinds hlayer cw
  rw [State.fnl_setFnl, State.setFnl_get] at haccept
  have hcarries : ([0, 1, 2, 3].all fun i => bitsOf h (12 + 2 * i) 2 == 0 || bitsOf h (12 + 2 * i) 2 == 3) = false := by simp [h0]
  rw [← haccept]
  unfold State.goodCw
  dsimp only
  rw [← hh, State.takeAck_of_none hack, State.takeQuiet_of_none hrequest hgrant]
  change (if !(s.setFnl p (goodLayer (s.fnl p) h)).flag (F.celLinkstatUp p) then _ else _) = _
  rw [hlink, hcarries, State.setFnl_get, hseq]
  simp
  rfl

/-- Settles O29: what the pipeline does with a codeword goes by the link, the suspicion and the checks, in this order. -/
theorem codewordsComplete : Obligations.CodewordsComplete := by
  unfold Obligations.CodewordsComplete
  refine ⟨fun s p cw t h => congrArg Host.Outcome.next (doCodewordReceive_of_untaken h),
    fun s r p cw t n hr hfnl hup hsuspect hmore => ?suspect,
    fun s p cw t hfnl hup hsuspect hasked hcw hsilent hrun hlock hsmall hmax => ?bad,
    fun s r p cw t w hr hfnl hup hsuspect hcw hwindow => ?sound,
    fun s p cw h hh hup hack hrequest hgrant hkinds hopen hseq => ?accepted⟩
  case suspect =>
    subst hr
    exact congrArg Host.Outcome.next (doCodewordReceive_of_suspect hfnl hup hsuspect hmore)
  case bad =>
    have hbad : (s.at t).badCw p = (s.at t).badNaked p := by
      apply State.badCw_of_tolerated p.isLt <;> simpa
    have hlayer := (s.at t).badNaked_fnl p.isLt
    refine ⟨_, congrArg Host.Outcome.next ((doCodewordReceive_of_uncorrectable hfnl hup hsuspect hcw).trans hbad), ?_,
      congrArg FnlLink.nakOut hlayer, ?_, ?_, ?_, ?_, ?_⟩
    · rw [State.badNaked_sent _ p.isLt, State.at_get, State.at_sent]
    · rw [hlayer, State.at_fnl]
    · rw [State.badNaked_watch _ p.isLt (by rwa [State.at_get]), State.at_get]
    · rw [State.badNaked_up _ p.isLt, State.at_flag, hup]
    · rw [State.badNaked_next _ p.isLt, State.at_get]
    · rw [State.badNaked_core _ p.isLt, State.at_core]
  case sound =>
    subst hr
    exact congrArg Host.Outcome.next (doCodewordReceive_of_sound hfnl hup hsuspect hcw hwindow)
  case accepted =>
    have hrun := State.goodCw_of_lastData hh hup hack hrequest hgrant hkinds hopen hseq
    have hlayer : (s.goodCw p cw).fnl p = { goodLayer (s.fnl p) h with openData := 0, nakOut := false } := by
      rw [hrun]
      exact State.fnl_setFnl ..
    refine ⟨_, rfl, ?_, congrArg FnlLink.openData hlayer, congrArg FnlLink.nakOut hlayer, congrArg FnlLink.badRun hlayer, ?_, ?_⟩
    · rw [hrun, State.get_set_same]
      exact Nat.mod_mod _ _
    all_goals
      rw [hrun]
      rfl

end Sys2Proof.Machine

/-! The Sextant (R254 to R258): probe points, the end of a pass, FOM ticks, thresholds. -/
namespace Sys2Proof.Machine

/-- The failing points of a lane after the dwell of a point (R256). -/
def probed (failing : List Nat) (n mismatches tol : Nat) : List Nat :=
  if mismatches ≤ tol then failing.filter (· != n) else if failing.contains n then failing else failing ++ [n]

theorem mem_probed_same (failing : List Nat) (n mismatches tol : Nat) : n ∈ probed failing n mismatches tol ↔ tol < mismatches := by
  unfold probed
  split_ifs with hpass hold
  · simpa using hpass
  · simpa [List.contains_iff_mem.mp hold] using hpass
  · simpa using hpass

theorem mem_probed_of_ne {n m : Nat} (h : m ≠ n) (failing : List Nat) (mismatches tol : Nat) :
    m ∈ probed failing n mismatches tol ↔ m ∈ failing := by
  unfold probed
  split_ifs <;> simp [h]

/-- A reading of the FOM notes it in the lane's record, and beside that writes registers alone (R257, R268). -/
theorem State.noteFom_units (s : State) (l : Nat) : ∃ (armed reached : Bool) (good : Option Nat), (s.noteFom l).units =
    (s.setLane l { s.lane l with armed := armed, reached := reached, goodSince := good }).units := by
  unfold State.noteFom
  dsimp only
  split
  · exact ⟨_, _, _, State.raise_units ..⟩
  · exact ⟨_, _, _, rfl⟩

/-- The point's dwell has ended, and the pass goes on to the next point. -/
def State.pointTaken (s : State) (l mismatches : Nat) : State :=
  s.setLane l { s.lane l with
    failing := probed (s.lane l).failing (s.lane l).next mismatches (s.get (F.sxtCfgTol l))
    next := (s.lane l).next + 1 }

/-- The FOM that results is shown and noted. -/
def State.pointNoted (s : State) (l mismatches : Nat) : State := ((s.pointTaken l mismatches).showFom l).noteFom l

theorem doSextantPointDone_of_inside {s : State} {l mismatches t : Nat} (hactive : s.flag (F.lanModeActive l) = true)
    (htrial : (s.lane l).trial = none) (hsweep : l ∉ s.lan.sweeping) (hnext : (s.lane l).next + 1 < 64 * s.laneEyes (l / 2)) :
    doSextantPointDone l mismatches t s = (s.at t).pointNoted l mismatches := by
  have hpoint : (s.lane l).next % (64 * s.laneEyes (l / 2)) = (s.lane l).next := Nat.mod_eq_of_lt (by omega)
  have hafter : ((s.lane l).next + 1) % (64 * s.laneEyes (l / 2)) = (s.lane l).next + 1 := Nat.mod_eq_of_lt hnext
  simp [doSextantPointDone, State.pointNoted, State.pointTaken, probed, hactive, htrial, hsweep, hpoint, hafter, hnext.ne]

/-- What the note of a point leaves of the state. -/
theorem State.pointNoted_keeps (s : State) (l mismatches : Nat) :
    (s.pointNoted l mismatches).chart = s.chart ∧ (s.pointNoted l mismatches).sent = s.sent ∧ (s.pointNoted l mismatches).nv = s.nv ∧
      ((s.pointNoted l mismatches).lane l).next = (s.lane l).next + 1 ∧
      ((s.pointNoted l mismatches).lane l).step = (s.lane l).step ∧ ((s.pointNoted l mismatches).lane l).failing =
        probed (s.lane l).failing (s.lane l).next mismatches (s.get (F.sxtCfgTol l)) := by
  obtain ⟨armed, reached, good, hunits⟩ := ((s.pointTaken l mismatches).showFom l).noteFom_units l
  have hshown : ((s.pointTaken l mismatches).showFom l).units = (s.pointTaken l mismatches).units := State.setAll_units ..
  have htaken := State.setLane_lane_same s l { s.lane l with
    failing := probed (s.lane l).failing (s.lane l).next mismatches (s.get (F.sxtCfgTol l))
    next := (s.lane l).next + 1 }
  have hlane := State.lane_of_lan (State.lan_of_units hunits) l
  rw [State.setLane_lane_same, State.lane_of_lan (State.lan_of_units hshown), State.pointTaken, htaken] at hlane
  refine ⟨?_, ?_, ?_, (congrArg LaneRec.next hlane :), (congrArg LaneRec.step hlane :), (congrArg LaneRec.failing hlane :)⟩
  · exact (State.chart_of_units hunits).trans ((State.setLane_chart ..).trans (State.chart_of_units hshown :))
  · exact (State.sent_of_units hunits).trans ((State.setLane_sent ..).trans (State.sent_of_units hshown :))
  · exact (State.nv_of_units hunits).trans ((State.setLane_nv ..).trans (State.nv_of_units hshown :))

/-- With the worst eye centred the end of a pass looks at the FOM alone (R254). -/
theorem State.passEnd_of_centred {s : State} {l : Nat} (h : max (s.get (F.sxtEdgeLeft l)) (s.get (F.sxtEdgeRight l)) <
    min (s.get (F.sxtEdgeLeft l)) (s.get (F.sxtEdgeRight l)) + 16) : s.passEnd l =
      if s.get (F.sxtFom l) < s.get (F.sxtThreshTarget l) then
        if s.get (F.lanRxeqCtlePeak l) < 8 then
          (if s.get (F.lanRxeqCtleRange l) = 0 then s
            else s.startTrial l 0 (s.get (F.lanRxeqCtleRange l)) (s.get (F.lanRxeqCtleRange l) - 1))
        else if s.get (F.lanRxeqCtleRange l) = 3 then s
        else s.startTrial l 0 (s.get (F.lanRxeqCtleRange l)) (s.get (F.lanRxeqCtleRange l) + 1)
      else s := by
  have hoff : ¬8 ≤ (max (s.get (F.sxtEdgeLeft l)) (s.get (F.sxtEdgeRight l)) -
      min (s.get (F.sxtEdgeLeft l)) (s.get (F.sxtEdgeRight l))) / 2 := by omega
  unfold State.passEnd
  exact if_neg fun hcentre => hoff hcentre.1

/-! FOM ticks (R257). -/

theorem doFomTick_of_down {s : State} {p : Nat} (h : s.flag (F.celLinkstatUp p) = false) (t : Nat) : doFomTick p t s = s.at t := by
  simp [doFomTick, h]

/-- A low-FOM event counts in the link's watch. -/
theorem State.lowEvent_watch {s : State} {p l : Nat} (hp : p < 1024) (hl : l < 2048) (h : s.get (F.fnlWatchcntLowfom p) < 255) :
    (s.lowEvent p l).get (F.fnlWatchcntLowfom p) = s.get (F.fnlWatchcntLowfom p) + 1 := by
  have hreports := State.reportAt_reports ((s.bump (F.sxtTrialcntLowticks l) 1).bump (F.fnlWatchcntLowfom p) 1) (unit := inLane l)
    (by simp only [inLane]; omega) (cls := 0) (by decide)
  rw [State.lowEvent, hreports.get, State.get_bump_same, State.get_bump_of_ne]
  · exact min_eq_left (Nat.succ_le_of_lt h)
  all_goals simp only [Fld.besideReports, faultWord, Fld.key, F.sxtTrialcntLowticks, F.fnlWatchcntLowfom]
  all_goals omega

/-- The event of a link's only lane, whose tick begins anew. -/
def State.tickCounted (s : State) (p l : Nat) : State := (s.lowEvent p l).setLane l { s.lane l with reached := false }

theorem doFomTick_of_low {s : State} {p t l : Nat} (hp : p < 1024) (hl : l < 2048) (hup : s.flag (F.celLinkstatUp p) = true)
    (hlanes : SMap.getD s.lnk.lanes p [] = [l]) (hsweep : l ∉ s.lan.sweeping) (hreached : (s.lane l).reached = false)
    (hlow : s.get (F.sxtFom l) < s.get (F.sxtThreshLow l)) (hsmall : s.get (F.fnlWatchcntLowfom p) < 255) :
    doFomTick p t s = if s.get (F.fnlLinkctlLowfomMax p) ≤ s.get (F.fnlWatchcntLowfom p) + 1 then
      (if s.chart.isFnl p then ((s.at t).tickCounted p l).linkDown p 2
        else (((s.at t).tickCounted p l).bump (F.celLlcxlRetrains p) 1).emit (.recovery p))
      else (s.at t).tickCounted p l := by
  have hwatch := State.lowEvent_watch (s := s.at t) hp hl (by rwa [State.at_get])
  rw [State.at_get] at hwatch
  simp [doFomTick, State.tickCounted, hup, hlanes, hsweep, hreached, hlow, hwatch]

/-- Settles O26: a point's end, a pass's end and a tick follow their rules, and thresholds out of order are refused. -/
theorem sextantMeasures : Obligations.SextantMeasures := by
  unfold Obligations.SextantMeasures
  refine ⟨fun s l mism t hactive htrial hsweep hnext => ?point, fun s l hcentred => ⟨fun hgood => ?good, fun hbelow hpeak hrange => ?lower,
    fun hbelow hpeak hrange => ?higher⟩, fun s p t hdown => congrArg Host.Outcome.next (doFomTick_of_down hdown t),
    fun s r p t l hr hup hlanes hsweep hreached hlow hl hsmall => ?tick,
    fun s src who l target attn low hserves hpilot hreach => ⟨fun horder => ?taken, fun horder => ?refused⟩⟩
  case point =>
    obtain ⟨hchart, hsent, hnv, hpoint, hstep, hfailing⟩ := (s.at t).pointNoted_keeps l mism
    simp only [State.at_lane, State.at_get, State.at_chart, State.at_sent, State.at_nv] at hchart hsent hnv hpoint hstep hfailing
    refine ⟨_, congrArg Host.Outcome.next (doSextantPointDone_of_inside hactive htrial hsweep hnext), hpoint, ?_, fun n hn => ?_, hstep,
      hchart, hsent, hnv⟩
    · rw [hfailing, mem_probed_same]
    · rw [hfailing, mem_probed_of_ne hn]
  case good => rw [State.passEnd_of_centred hcentred, if_neg (Nat.not_lt.mpr hgood)]
  case lower => rw [State.passEnd_of_centred hcentred, if_pos hbelow, if_pos hpeak, if_neg hrange]
  case higher => rw [State.passEnd_of_centred hcentred, if_pos hbelow, if_neg (Nat.not_lt.mpr hpeak), if_neg hrange]
  case tick =>
    subst hr
    have hrun := doFomTick_of_low (t := t) p.isLt hl hup hlanes hsweep hreached hlow hsmall
    rw [State.tickCounted, State.at_lane] at hrun
    refine ⟨fun hfew => congrArg Host.Outcome.next (hrun.trans (if_neg (Nat.not_le.mpr hfew))), fun hmany hfnl => ?_⟩
    exact congrArg Host.Outcome.next (hrun.trans ((if_pos hmany.le).trans (if_pos hfnl)))
  case taken =>
    have hact : writeThresh l target attn low (s.touch src) = (((((s.touch src).set (F.sxtThreshTarget l) target).set
        (F.sxtThreshAttn l) attn).set (F.sxtThreshLow l) low), stOk) := if_pos horder
    exact congrArg Host.Outcome.next (State.regCommandAt_eq hserves hreach hpilot (act := fun _ => writeThresh l target attn low) hact)
  case refused =>
    have hact : writeThresh l target attn low (s.touch src) = (s.touch src, stDenied) := if_neg horder
    exact congrArg Host.Outcome.next (State.regCommandAt_eq hserves hreach hpilot (act := fun _ => writeThresh l target attn low) hact)

end Sys2Proof.Machine

/-! Quiet windows, gaps, and steps with suspect marking (R260 to R263). -/
namespace Sys2Proof.Machine

section
variable {s : State} {p t : Nat}

theorem doQuietWindowGrant_of_budget (hup : s.flag (F.celLinkstatUp p) = true) (hasked : s.flag (F.lanQwstatReqIn (2 * p)) = true)
    (hbudget : s.get (F.lanQwctlLen (2 * p)) * 1000000000 ≤ (s.at t).budget p) : doQuietWindowGrant p t s = (s.at t).openWindow p := by
  simp [doQuietWindowGrant, State.mayStep, hup, hasked, hbudget]

theorem doQuietWindowGrant_of_poor (hbudget : (s.at t).budget p < s.get (F.lanQwctlLen (2 * p)) * 1000000000) :
    doQuietWindowGrant p t s = s.at t := by
  simp [doQuietWindowGrant, hbudget]

/-- What the grant of a window writes (R261). -/
theorem State.openWindow_shows (s : State) (p : Nat) :
    (s.openWindow p).sent = .quietWindow p :: s.sent ∧ (s.openWindow p).get (F.lanQwstatReqIn (2 * p)) = 0 ∧
      SMap.find? (s.openWindow p).lan.budgets p = some (s.budget p - s.get (F.lanQwctlLen (2 * p)) * 1000000000, s.now) ∧
      SMap.find? (s.openWindow p).lan.windows p = some (s.now + s.get (F.lanQwctlLen (2 * p)) * 1000) ∧ (s.openWindow p).core = s.core := by
  have hlen : s.get (F.lanQwctlLen (2 * p)) * 1000 * 1000000 = s.get (F.lanQwctlLen (2 * p)) * 1000000000 := by omega
  have hlan : (s.openWindow p).lan = { s.lan with
      budgets := SMap.put s.lan.budgets p (s.budget p - s.get (F.lanQwctlLen (2 * p)) * 1000000000, s.now)
      windows := SMap.put s.lan.windows p (s.now + s.get (F.lanQwctlLen (2 * p)) * 1000) } := by
    rw [State.openWindow, State.emit_lan, State.bump_lan, State.setAll_lan, ← hlen]
    rfl
  refine ⟨?_, ?_, ?_, ?_, ?_⟩
  · rw [State.openWindow, State.emit_sent, State.bump_sent, State.setAll_sent]
    rfl
  · rw [State.openWindow, State.emit_get, State.get_bump_of_ne]
    · refine State.get_setAll_of_mem _ [] [_] ?_
      simp [Fld.key, F.lanQwstatReqIn, F.lanQwstatBudget]
    · simp only [Fld.key, F.lanQwsent, F.lanQwstatReqIn]
      omega
  · rw [hlan, SMap.find?_put_same]
  · rw [hlan, SMap.find?_put_same]
  · rw [State.openWindow, State.emit_core, State.bump_core, State.setAll_core]
    rfl

theorem doNaturalGap_of_cxl (hup : s.flag (F.celLinkstatUp p) = true) (hcxl : s.chart.isFnl p = false) :
    doNaturalGap p t s = (s.at t).makeSteps p := by
  simp [doNaturalGap, State.mayStep, hup, hcxl]

theorem doSuspectStep_of_due {l : Nat} {x : LaneStep} (hstep : (s.lane l).step = some x)
    (hup : s.flag (F.celLinkstatUp (s.lanePleat l)) = true) (hsweep : l ∉ s.lan.sweeping)
    (hdue : x.since + usec (10 * s.get (F.lanQwctlGapWait (2 * s.lanePleat l))) ≤ (s.at t).now) :
    doSuspectStep l t s = (((s.at t).makeStep l x).bump (F.lanCalcntSuspectSteps l) 1).markSuspect (s.lanePleat l) := by
  simp [doSuspectStep, State.mayStep, hstep, hup, hsweep, hdue]

end

/-- A step writes registers, and takes itself out of its lane's record. -/
theorem State.makeStep_units (s : State) (l : Nat) (x : LaneStep) :
    (s.makeStep l x).units = (s.setLane l { s.lane l with step := none }).units := by
  unfold State.makeStep
  dsimp only
  split_ifs <;> simp

/-- A lane's turn in a gap: the step it waits for, unless it sweeps. -/
def stepLane (p : Nat) (s : State) (i : Nat) : State :=
  match (s.lane (Chart.linkLane p i)).step with
  | some x => if s.lan.sweeping.contains (Chart.linkLane p i) then s else s.makeStep (Chart.linkLane p i) x
  | none => s

theorem State.makeSteps_eq (s : State) (p : Nat) : s.makeSteps p = (List.range (2 * s.chart.cells p)).foldl (stepLane p) s := rfl

/-- The lanes of a pleat are numbered on from those of its lead cell (R60). -/
theorem Chart.linkLane_injective (p : Nat) : Function.Injective (Chart.linkLane p) := by
  intro i j h
  simp only [Chart.linkLane] at h
  omega

/-- The state beside its registers and the lanes' records. -/
def State.besideRecords (s : State) : State := { s.units with lan := { s.lan with lanes := [] } }

section
variable (p : Nat) (s : State) (i : Nat)

/-- A lane's turn leaves the state, or takes the lane's step out of its record. -/
theorem stepLane_units : (stepLane p s i).units = s.units ∨
    (stepLane p s i).units = (s.setLane (Chart.linkLane p i) { s.lane (Chart.linkLane p i) with step := none }).units := by
  unfold stepLane
  split
  · split_ifs
    · exact .inl rfl
    · exact .inr (State.makeStep_units ..)
  · exact .inl rfl

theorem stepLane_besideRecords : (stepLane p s i).besideRecords = s.besideRecords := by
  rcases stepLane_units p s i with h | h
  · exact congrArg (fun u : State => { u with lan := { u.lan with lanes := [] } }) h
  · exact congrArg (fun u : State => { u with lan := { u.lan with lanes := [] } }) h

theorem stepLane_lane_of_ne {k : Nat} (h : Chart.linkLane p i ≠ k) : (stepLane p s i).lane k = s.lane k := by
  rcases stepLane_units p s i with hunits | hunits
  · exact State.lane_of_lan (State.lan_of_units hunits) k
  · exact (State.lane_of_lan (State.lan_of_units hunits) k).trans (s.setLane_lane_of_ne h _)

theorem stepLane_step (h : Chart.linkLane p i ∉ s.lan.sweeping) : ((stepLane p s i).lane (Chart.linkLane p i)).step = none := by
  unfold stepLane
  split
  · rw [if_neg (by simpa using h), State.lane_of_lan (State.lan_of_units (State.makeStep_units ..)), State.setLane_lane_same]
  · assumption

end

theorem State.sweeping_of_besideRecords {s u : State} (h : u.besideRecords = s.besideRecords) : u.lan.sweeping = s.lan.sweeping :=
  congrArg (a₁ := u.besideRecords) (a₂ := s.besideRecords) (fun v => v.lan.sweeping) h

/-- After the lanes' turns no lane that does not sweep waits for a step (R260, R262, R270). -/
theorem foldl_stepLane_step (p n : Nat) (s : State) {i : Nat} (hi : i < n) (hsweep : Chart.linkLane p i ∉ s.lan.sweeping) :
    (((List.range n).foldl (stepLane p) s).lane (Chart.linkLane p i)).step = none := by
  induction n with
  | zero => omega
  | succ n ih =>
    rw [List.range_succ, List.foldl_append, List.foldl_cons, List.foldl_nil]
    have hkeeps := foldl_keeps State.besideRecords (stepLane_besideRecords p) (List.range n) s
    by_cases hlast : i = n
    · subst hlast
      exact stepLane_step p _ i (by rwa [State.sweeping_of_besideRecords hkeeps])
    · rw [stepLane_lane_of_ne _ _ _ fun h => hlast (Chart.linkLane_injective p h).symm]
      exact ih (by omega)

theorem State.makeSteps_keeps (s : State) (p : Nat) :
    (s.makeSteps p).core = s.core ∧ (s.makeSteps p).sent = s.sent ∧ (s.makeSteps p).nv = s.nv := by
  have hkeeps : (s.makeSteps p).besideRecords = s.besideRecords := by
    rw [State.makeSteps_eq]
    exact foldl_keeps State.besideRecords (stepLane_besideRecords p) _ s
  have part {α : Type} (f : State → α) : f (s.makeSteps p).besideRecords = f s.besideRecords := congrArg f hkeeps
  exact ⟨part State.core, part State.sent, part State.nv⟩

end Sys2Proof.Machine

/-! Presets (R268, R269). -/
namespace Sys2Proof.Machine

/-- The settings that a lane's adaptation has reached are shown (R272). -/
def State.adapted (s : State) (l peak gain : Nat) (taps : List Nat) : State :=
  s.setAll ([(F.lanRxeqCtlePeak l, peak), (F.lanRxeqVgaGain l, gain)] ++ (dfeTaps l).zip taps)

section
variable {s : State} {l peak gain t : Nat} {taps : List Nat}

/-- They lie in words behind the one that tells whether the lane is active. -/
theorem State.adapted_active (s : State) (l peak gain : Nat) (taps : List Nat) :
    (s.adapted l peak gain taps).flag (F.lanModeActive l) = s.flag (F.lanModeActive l) := by
  have htaps : ∀ f ∈ dfeTaps l, f.key ≠ (F.lanModeActive l).key := by
    simp only [dfeTaps, List.forall_mem_cons, Fld.key, F.lanModeActive, F.lanDfeTap1, F.lanDfeTap2, F.lanDfeTap3, F.lanDfeTap4,
      F.lanDfeTap5, F.lanDfeTap6, F.lanDfeTap7, F.lanDfeTap8, F.lanDfeTap9, F.lanDfeTap10, F.lanDfeTap11, F.lanDfeTap12]
    refine ⟨?_, ?_, ?_, ?_, ?_, ?_, ?_, ?_, ?_, ?_, ?_, ?_, by simp⟩ <;> omega
  refine congrArg (· == 1) (s.get_setAll_of_ne fun e he => ?_)
  rcases List.mem_append.mp he with he | he
  · simp only [List.mem_cons, List.not_mem_nil, or_false] at he
    rcases he with rfl | rfl <;> simp only [Fld.key, F.lanModeActive, F.lanRxeqCtlePeak, F.lanRxeqVgaGain] <;> omega
  · exact htaps e.1 (List.of_mem_zip he).1

@[simp] theorem State.adapted_lan (s : State) (l peak gain : Nat) (taps : List Nat) : (s.adapted l peak gain taps).lan = s.lan := s.setAll_lan _
@[simp] theorem State.adapted_nv (s : State) (l peak gain : Nat) (taps : List Nat) : (s.adapted l peak gain taps).nv = s.nv := s.setAll_nv _
@[simp] theorem State.adapted_sent (s : State) (l peak gain : Nat) (taps : List Nat) : (s.adapted l peak gain taps).sent = s.sent :=
  s.setAll_sent _
@[simp] theorem State.adapted_now (s : State) (l peak gain : Nat) (taps : List Nat) : (s.adapted l peak gain taps).now = s.now := s.setAll_now _
@[simp] theorem State.adapted_lnk (s : State) (l peak gain : Nat) (taps : List Nat) : (s.adapted l peak gain taps).lnk = s.lnk :=
  congrArg (a₁ := (s.adapted l peak gain taps).units) (a₂ := s.units) State.lnk (s.setAll_units _)
@[simp] theorem State.adapted_lane (s : State) (l peak gain : Nat) (taps : List Nat) (k : Nat) :
    (s.adapted l peak gain taps).lane k = s.lane k := State.lane_of_lan (s.adapted_lan l peak gain taps) k
@[simp] theorem State.adapted_lanePleat (s : State) (l peak gain : Nat) (taps : List Nat) (k : Nat) :
    (s.adapted l peak gain taps).lanePleat k = s.lanePleat k :=
  congrArg (fun c : Chart => c.lead (k / 2)) (State.chart_of_units (s.setAll_units _))

/-- The preset record of a lane is written (R268). -/
def State.recorded (s : State) (l : Nat) : State :=
  (s.setLane l { s.lane l with wrote := some s.now }).modNv fun u => { u with presets := SMap.put u.presets l (s.presetNow l) }

/-- The lane's own record and the note of when it was written do not enter into it (R269). -/
theorem State.recorded_presetNow (s : State) (l : Nat) : (s.recorded l).presetNow l = s.presetNow l := by
  have hget : (s.recorded l).get = s.get := rfl
  have hchart : (s.recorded l).chart = s.chart := rfl
  simp only [State.presetNow, State.lanePleat, hget, hchart]

/-- A moment that has come, and lies so long back (R268). -/
def State.since (s : State) (x : Option Nat) (d : Nat) : Bool := x.any fun u => decide (u + d ≤ s.now)

theorem State.since_of_le {d u : Nat} {x : Option Nat} (hx : x = some u) (h : u + d ≤ s.now) : s.since x d = true := by
  rw [State.since, hx, Option.any_some]
  exact decide_eq_true h

/-- A lane's preset record is due (R268). -/
def State.presetDue (s : State) (l : Nat) : Bool :=
  s.flag (F.lanModeActive l) && s.since (SMap.find? s.lnk.watchAt (s.lanePleat l)) 0 && s.since (s.lane l).goodSince (sec 1)
    && ((s.lane l).wrote.isNone || s.since (s.lane l).wrote (sec 10))
    && ((SMap.find? s.nv.presets l).isNone || (SMap.find? s.nv.presets l).any fun x => presetDiffers x (s.presetNow l))

theorem doPresetWrite_eq (l peak gain : Nat) (taps : List Nat) (t : Nat) (s : State) :
    doPresetWrite l peak gain taps t s = if ((s.at t).adapted l peak gain taps).presetDue l then
      ((s.at t).adapted l peak gain taps).recorded l else (s.at t).adapted l peak gain taps := rfl

/-- A lane in service for long enough, that has no record yet, is due to write one. -/
theorem State.presetDue_first {g w : Nat} (hactive : s.flag (F.lanModeActive l) = true) (hgood : (s.lane l).goodSince = some g)
    (hlong : g + sec 1 ≤ s.now) (hfirst : (s.lane l).wrote = none) (hwatch : SMap.find? s.lnk.watchAt (s.lanePleat l) = some w)
    (hup : w ≤ s.now) (hnone : SMap.find? s.nv.presets l = none) : s.presetDue l = true := by
  rw [State.presetDue, hactive, State.since_of_le hwatch hup, State.since_of_le hgood hlong, hfirst, hnone]
  rfl

/-- A lane in service for long enough, that has no record yet, writes its first. -/
theorem doPresetWrite_of_first {g w : Nat} (hactive : s.flag (F.lanModeActive l) = true) (hgood : (s.lane l).goodSince = some g)
    (hlong : g + sec 1 ≤ (s.at t).now) (hfirst : (s.lane l).wrote = none) (hwatch : SMap.find? s.lnk.watchAt (s.lanePleat l) = some w)
    (hup : w ≤ (s.at t).now) (hnone : SMap.find? s.nv.presets l = none) :
    doPresetWrite l peak gain taps t s = ((s.at t).adapted l peak gain taps).recorded l := by
  have hdue : ((s.at t).adapted l peak gain taps).presetDue l = true := by
    refine State.presetDue_first (g := g) (w := w) ?_ ?_ ?_ ?_ ?_ ?_ ?_
    · rw [State.adapted_active, State.at_flag, hactive]
    · rw [State.adapted_lane, State.at_lane, hgood]
    · rwa [State.adapted_now]
    · rw [State.adapted_lane, State.at_lane, hfirst]
    · rw [State.adapted_lnk, State.adapted_lanePleat, State.at_lnk, State.at_lanePleat, hwatch]
    · rwa [State.adapted_now]
    · rw [State.adapted_nv, State.at_nv, hnone]
  rw [doPresetWrite_eq, if_pos hdue]

/-- What the write of a record leaves of the kept store (R268). -/
theorem State.recorded_shows (s : State) (l : Nat) : SMap.find? (s.recorded l).nv.presets l = some ((s.recorded l).presetNow l) ∧
    ((s.recorded l).lane l).wrote = some s.now ∧
    (∀ k : Nat, k ≠ l → SMap.find? (s.recorded l).nv.presets k = SMap.find? s.nv.presets k) ∧
    (s.recorded l).nv.journal = s.nv.journal ∧ (s.recorded l).sent = s.sent := by
  refine ⟨?_, congrArg LaneRec.wrote (s.setLane_lane_same l _), fun k hk => SMap.find?_put_of_ne _ _ hk.symm, rfl, rfl⟩
  rw [s.recorded_presetNow l]
  exact SMap.find?_put_same ..

/-- A lane whose FOM is below TARGET writes none (R268). -/
theorem doPresetWrite_of_below (h : (s.lane l).goodSince = none) :
    doPresetWrite l peak gain taps t s = (s.at t).adapted l peak gain taps := by
  have hnot : ((s.at t).adapted l peak gain taps).presetDue l = false := by
    rw [State.presetDue, State.adapted_lane, State.at_lane, h]
    simp [State.since]
  rw [doPresetWrite_eq, hnot]
  exact if_neg Bool.false_ne_true

end

end Sys2Proof.Machine

/-! Bulk sweeps (R270, R273). -/
namespace Sys2Proof.Machine

/-- The lanes of a bulk sweep whose links are up. -/
def State.upLanes (s : State) : List Nat := s.sweepLanes.filter fun l => s.flag (F.lanModeActive l)

/-- A bulk sweep has begun that needs no leave. -/
def State.sweepBegun (s : State) : State :=
  ((((s.sweepLanes.foldl (fun s l => s.set (F.sxtSweepresValid l) 0) s).modLan fun u => { u with sweeping := s.upLanes }).setAll
    [(F.hubSweepBusy, 1), (F.hubSweepstatLanesDone, s.sweepLanes.length - s.upLanes.length)]).modLan fun u => { u with sweepOn := true })

theorem startSweep_of_busy {s : State} (h : s.flag F.hubSweepBusy = true) : startSweep s = s := if_pos h

theorem State.sweepBegun_lan (s : State) : s.sweepBegun.lan.sweepOn = true ∧ s.sweepBegun.lan.sweeping = s.upLanes := by
  simp [State.sweepBegun]

theorem startSweep_of_idle {s : State} (hidle : s.flag F.hubSweepBusy = false) (hfew : s.get F.hubSweepCount ≤ 64) (hup : s.upLanes ≠ []) :
    startSweep s = s.sweepBegun := by
  have hon : s.sweepBegun.endSweep = s.sweepBegun := by
    refine if_neg ?_
    rw [s.sweepBegun_lan.2]
    simpa using hup
  unfold startSweep
  rw [if_neg (by simp [hidle])]
  exact (if_neg (Nat.not_lt.mpr hfew)).trans hon

theorem State.sweepBegun_busy (s : State) : s.sweepBegun.flag F.hubSweepBusy = true := by
  rw [State.flag, beq_iff_eq, State.sweepBegun, State.modLan_get]
  exact State.get_setAll_of_mem _ [] [_] (by simp; decide)

theorem State.sweepBegun_sent (s : State) : s.sweepBegun.sent = s.sent := by
  rw [State.sweepBegun, State.modLan_sent, State.setAll_sent, State.modLan_sent]
  exact foldl_keeps State.sent (fun u l => State.sent_of_units (u.set_units _ _)) s.sweepLanes s

/-- START is the Pilot's (R270). -/
theorem exec_sweepStart_served {s : State} {src : Sess} {p : Principal} (hserves : s.serves src p) (hpilot : p.isPilot = true) :
    exec (.sweepStart src) s = .next ((startSweep (s.touch src)).done src) :=
  congrArg Host.Outcome.next (State.regCommand_served hserves hpilot _)

/-- The margins of a lane that has swept. -/
def sweepFields (l ho vo eye : Nat) : List (Fld × Nat) :=
  [(F.sxtSweepresHo l, ho), (F.sxtSweepresVo l, vo), (F.sxtSweepresFom l, fomRoot (ho * vo)), (F.sxtSweepresEye l, eye),
    (F.sxtSweepresValid l, 1)]

/-- A lane whose link is up has finished its sweep. -/
def State.laneSwept (s : State) (l ho vo eye : Nat) : State :=
  ((s.setAll (sweepFields l ho vo eye)).modLan fun u => { u with sweeping := u.sweeping.filter (· != l) }).set F.hubSweepstatLanesDone
    (s.get F.hubSweepstatLanesDone + 1)

/-- The lane was the last: the sweep is over, its leave still to be given back. -/
def State.sweepOver (s : State) (l ho vo eye : Nat) : State :=
  ((s.laneSwept l ho vo eye).modLan fun u => { u with sweepOn := false }).setAll [(F.hubSweepBusy, 0), (F.hubSweepDone, 1)]

theorem State.laneSwept_lan (s : State) (l ho vo eye : Nat) :
    (s.laneSwept l ho vo eye).lan = { s.lan with sweeping := s.lan.sweeping.filter (· != l) } := by
  simp only [State.laneSwept, State.setAll_lan, State.modLan_lan, State.set_lan]

theorem State.sweepOver_lan (s : State) (l ho vo eye : Nat) :
    (s.sweepOver l ho vo eye).lan = { s.lan with sweepOn := false, sweeping := s.lan.sweeping.filter (· != l) } := by
  simp only [State.sweepOver, State.setAll_lan, State.modLan_lan, State.laneSwept_lan]

theorem State.sweepOver_done (s : State) (l ho vo eye : Nat) :
    (s.sweepOver l ho vo eye).get F.hubSweepBusy = 0 ∧ (s.sweepOver l ho vo eye).get F.hubSweepDone = 1 :=
  ⟨State.get_setAll_of_mem _ [] [_] (by simp; decide), State.get_setAll_of_mem _ [_] [] (by simp)⟩

/-- The sweep's own fields lie before the Sextant's (R273). -/
theorem State.sweepOver_get (s : State) (l ho vo eye : Nat) {f : Fld} (hlsb : f.lsb < 32) (hf : 0x780000 ≤ f.addr) :
    (s.sweepOver l ho vo eye).get f = (s.setAll (sweepFields l ho vo eye)).get f := by
  have hne {g : Fld} (hg : g.lsb < 32) (haddr : g.addr < 0x780000) : g.key ≠ f.key := Fld.key_ne_of_addr_ne hg hlsb (by omega)
  have hend : ∀ e ∈ [(F.hubSweepBusy, 0), (F.hubSweepDone, 1)], e.1.key ≠ f.key := by
    simp only [List.forall_mem_cons]
    exact ⟨hne (by decide) (by decide), hne (by decide) (by decide), by simp⟩
  rw [State.sweepOver, State.get_setAll_of_ne _ hend, State.modLan_get, State.laneSwept, State.get_set_of_ne _ _ _ _ (hne (by decide) (by decide)),
    State.modLan_get]

/-- The margins read as they were measured: no two of their fields are one. -/
theorem State.sweepOver_margins (s : State) (l : Nat) (ho vo : Fin 257) (eye : Fin 3) :
    (s.sweepOver l ho vo eye).get (F.sxtSweepresHo l) = ho ∧ (s.sweepOver l ho vo eye).get (F.sxtSweepresVo l) = vo ∧
      (s.sweepOver l ho vo eye).get (F.sxtSweepresEye l) = eye ∧ (s.sweepOver l ho vo eye).get (F.sxtSweepresValid l) = 1 := by
  have hho : ho.val < 2 ^ 9 := ho.isLt.trans (by decide)
  have hvo : vo.val < 2 ^ 9 := vo.isLt.trans (by decide)
  have heye : eye.val < 2 ^ 2 := eye.isLt.trans (by decide)
  have hfields {before after : List (Fld × Nat)} {f : Fld} {v : Nat} (h : sweepFields l ho vo eye = before ++ (f, v) :: after)
      (hlsb : f.lsb < 32) (hf : 0x780000 ≤ f.addr) (hafter : ∀ e ∈ after, e.1.key ≠ f.key) (hv : v < 2 ^ f.width) :
      (s.sweepOver l ho vo eye).get f = v := by
    rw [s.sweepOver_get l ho vo eye hlsb hf, h, State.get_setAll_of_mem _ _ _ hafter, Nat.mod_eq_of_lt hv]
  refine ⟨hfields (before := []) rfl ?_ ?_ ?_ hho, hfields (before := [_]) rfl ?_ ?_ ?_ hvo, hfields (before := [_, _, _]) rfl ?_ ?_ ?_ heye,
    hfields (before := [_, _, _, _]) rfl ?_ ?_ ?_ (Nat.one_lt_two_pow one_ne_zero)⟩
  all_goals simp [Fld.key, F.sxtSweepresHo, F.sxtSweepresVo, F.sxtSweepresFom, F.sxtSweepresEye, F.sxtSweepresValid]
  all_goals omega

theorem State.endSweep_of_empty {s : State} (h : s.lan.sweeping = []) : s.endSweep =
    ((s.modLan fun u => { u with sweepOn := false }).setAll [(F.hubSweepBusy, 0), (F.hubSweepDone, 1)]).releaseFor .bulkSweep :=
  if_pos (by rw [h]; rfl)

theorem doSweepLaneDone_of_sweeping {s : State} {l t : Nat} (hon : s.lan.sweepOn = true) (hsweep : l ∈ s.lan.sweeping)
    (hactive : s.flag (F.lanModeActive l) = true) (ho vo eye : Nat) :
    doSweepLaneDone l ho vo eye t s = ((s.at t).laneSwept l ho vo eye).endSweep := by
  unfold doSweepLaneDone
  dsimp only
  rw [State.at_lan, State.at_flag, hactive, if_pos (by simp [hon, hsweep]), if_pos rfl]
  rfl

/-- With no request deferred the leave of the sweep is all that is left to end. -/
theorem doSweepLaneDone_of_last {s : State} {l t : Nat} (hon : s.lan.sweepOn = true) (hlast : s.lan.sweeping = [l])
    (hactive : s.flag (F.lanModeActive l) = true) (hqueue : s.lvc.queue = []) (ho vo eye : Nat) :
    ∃ k, doSweepLaneDone l ho vo eye t s = { (s.at t).sweepOver l ho vo eye with lvc := k } := by
  have hempty : ((s.at t).laneSwept l ho vo eye).lan.sweeping = [] := by simp [State.laneSwept_lan, hlast]
  have hidle : ((s.at t).sweepOver l ho vo eye).lvc.queue = [] := by
    rw [State.sweepOver, State.setAll_lvc, State.modLan_lvc, State.laneSwept, State.set_lvc, State.modLan_lvc, State.setAll_lvc, State.at_lvc,
      hqueue]
  rw [doSweepLaneDone_of_sweeping hon (by simp [hlast]) hactive, State.endSweep_of_empty hempty]
  exact State.releaseFor_of_no_queue hidle .bulkSweep

end Sys2Proof.Machine

/-! Steps, presets and sweeps together. -/
namespace Sys2Proof.Machine

/-- Settles O28: windows are granted by budget, gaps leave no step that may be made, a late step marks what follows it as suspect; the first
preset record of a lane is written once it is due; a sweep ends with its last lane. -/
theorem stepsAndSweepsComplete : Obligations.StepsAndSweepsComplete := by
  unfold Obligations.StepsAndSweepsComplete
  refine ⟨fun s p t hup hasked hbudget => ?granted, fun s p t hpoor => congrArg Host.Outcome.next (doQuietWindowGrant_of_poor hpoor),
    fun s p t hup hcxl => ?gap, fun s r l t x hr hstep hup hsweep hdue => ?suspect,
    fun s l a t g w hactive hgood hlong hfirst hwatch hup hnone => ?preset, fun s l a t hbelow => ?below,
    fun s src who hserves hpilot => ⟨fun hbusy => ?busy, fun hidle hfew hsome _ => ?start⟩,
    fun s l ho vo eye t hon hlast hactive hqueue => ?last⟩
  case granted =>
    obtain ⟨hsent, hasked', hbudgets, hwindows, hcore⟩ := (s.at t).openWindow_shows p
    rw [State.at_get] at hbudgets hwindows
    exact ⟨_, congrArg Host.Outcome.next (doQuietWindowGrant_of_budget hup hasked hbudget), hsent.trans (congrArg _ (s.at_sent t)), hasked',
      hbudgets, hwindows, hcore.trans (s.at_core t)⟩
  case gap =>
    obtain ⟨hcore, hsent, hnv⟩ := (s.at t).makeSteps_keeps p
    refine ⟨_, congrArg Host.Outcome.next (doNaturalGap_of_cxl hup hcxl), fun i hi hsweep => ?_, hcore.trans (s.at_core t),
      hsent.trans (s.at_sent t), hnv.trans (s.at_nv t)⟩
    rw [State.makeSteps_eq]
    exact foldl_stepLane_step p _ _ (by rwa [State.at_chart]) (by rwa [State.at_lan])
  case suspect =>
    subst hr
    exact congrArg Host.Outcome.next (doSuspectStep_of_due hstep hup hsweep hdue)
  case preset =>
    have hrun := doPresetWrite_of_first (peak := a.peak) (gain := a.gain) (taps := a.taps.map (·.val)) hactive hgood hlong hfirst hwatch hup hnone
    obtain ⟨hput, hwrote, hothers, hjournal, hsent⟩ := ((s.at t).adapted l a.peak a.gain (a.taps.map (·.val))).recorded_shows l
    rw [State.adapted_now] at hwrote
    simp only [State.adapted_nv, State.at_nv] at hothers hjournal
    rw [State.adapted_sent, State.at_sent] at hsent
    exact ⟨_, congrArg Host.Outcome.next hrun, hput, hwrote, hothers, hjournal, hsent⟩
  case below =>
    have hrun := doPresetWrite_of_below (peak := a.peak) (gain := a.gain) (taps := a.taps.map (·.val)) (t := t) hbelow
    exact ⟨_, congrArg Host.Outcome.next hrun, (State.adapted_nv ..).trans (s.at_nv t), (State.adapted_lan ..).trans (s.at_lan t)⟩
  case busy => rw [exec_sweepStart_served hserves hpilot, startSweep_of_busy (s := s.touch src) hbusy, State.acts]
  case start =>
    have hrun := exec_sweepStart_served hserves hpilot
    rw [startSweep_of_idle (s := s.touch src) hidle hfew hsome] at hrun
    obtain ⟨hon, hlanes⟩ := (s.touch src).sweepBegun_lan
    exact ⟨_, hrun, State.sweepBegun_busy _, hon, hlanes, State.sweepBegun_sent _⟩
  case last =>
    obtain ⟨k, hrun⟩ := doSweepLaneDone_of_last (t := t) hon hlast hactive hqueue ho vo eye
    obtain ⟨hbusy, hdone⟩ := (s.at t).sweepOver_done l ho vo eye
    obtain ⟨hho, hvo, heye, hvalid⟩ := (s.at t).sweepOver_margins l ho vo eye
    have hlan := (s.at t).sweepOver_lan l ho vo eye
    rw [State.at_lan, hlast] at hlan
    have hempty : ((s.at t).sweepOver l ho vo eye).lan.sweeping = [] := by simp [hlan]
    have hoff : ((s.at t).sweepOver l ho vo eye).lan.sweepOn = false := by rw [hlan]
    have hget (f : Fld) : State.get { (s.at t).sweepOver l ho vo eye with lvc := k } f = ((s.at t).sweepOver l ho vo eye).get f :=
      State.get_of_regs rfl f
    refine ⟨_, congrArg Host.Outcome.next hrun, ?_, ?_, ?_, ?_, ?_, ?_, hempty, hoff⟩
    · rw [State.flag, hget, hbusy]
      rfl
    · rw [State.flag, hget, hdone]
      rfl
    · rw [hget, hho]
    · rw [hget, hvo]
    · rw [hget, heye]
    · rw [State.flag, hget, hvalid]
      rfl

end Sys2Proof.Machine

/-! FNL control codewords and the link layer's timers (R281, R286, R288 to R290, R309). -/
namespace Sys2Proof.Machine

theorem onFnl_of_fnl {s : State} {p : Nat} (h : s.chart.isFnl p = true) (act : State → State) : onFnl p act s = act s := if_pos h

/-- A control codeword means nothing to a pleat that does not speak FNL. -/
theorem onFnl_of_other {s : State} {p : Nat} (h : s.chart.isFnl p = false) (act : State → State) : onFnl p act s = s :=
  if_neg (by simp [h])

/-! Training blocks (R66, R290). -/

/-- What a training block says, in the order in which it is taken in. -/
def trainFields (b : TrainBlock) : List Nat :=
  [b.phase.val, if b.role then 1 else 0, b.moduleId.val, b.rates.val, b.width.val, b.good.val, b.rxNext.val, if b.resumeOk then 1 else 0]

/-- The link layer once a training block is taken in. -/
def trainedLayer (f : FnlLink) (b : TrainBlock) : FnlLink :=
  { f with
    peerPhase := b.phase.val, peerZalhel := b.role, peerRates := b.rates.val, peerGood := b.good.val,
    peerRx := b.rxNext.val, peerResume := b.resumeOk, peerCredits := b.credits.map (·.val) }

theorem doTrain_of_up {s : State} {p : Nat} (hfnl : s.chart.isFnl p = true) (hup : s.flag (F.celLinkstatUp p) = true) (b : TrainBlock) :
    doTrain p b s = s :=
  (onFnl_of_fnl hfnl _).trans (if_pos hup)

/-- A block that comes while the link trains goes into the link layer's record and into FNL.LINKSTAT.PEER_ID. -/
theorem doTrain_of_down {s : State} {p : Nat} (hfnl : s.chart.isFnl p = true) (hdown : s.flag (F.celLinkstatUp p) = false)
    (b : TrainBlock) :
    doTrain p b s = (s.setFnl p (trainedLayer (s.fnl p) b)).set (F.fnlLinkstatPeerId p) b.moduleId.val := by
  have hbit (x : Bool) : ((if x then 1 else 0 : Nat) == 1) = x := by cases x <;> rfl
  have htaken : s.takeBlock p (trainFields b) (b.credits.map (·.val)) =
      (s.setFnl p (trainedLayer (s.fnl p) b)).set (F.fnlLinkstatPeerId p) b.moduleId.val := by
    simp [State.takeBlock, trainFields, trainedLayer, hbit]
  exact (onFnl_of_fnl hfnl _).trans ((if_neg (by simp [hdown])).trans htaken)

/-! The timers of CREDIT_SYNC (R286) and of NAK (R288). -/

section
variable {s : State} {p t : Nat}

@[simp] theorem State.at_replayTimeout (s : State) (t p : Nat) : (s.at t).replayTimeout p = s.replayTimeout p := by
  simp [State.replayTimeout]

theorem State.sendCsync_sent (s : State) (p : Nat) : (s.sendCsync p).sent = .control p 3 [] :: s.sent := rfl

theorem State.sendCsync_fnl (s : State) (p : Nat) : (s.sendCsync p).fnl p = { s.fnl p with csyncAt := some s.now } := s.fnl_setFnl p _

theorem doCreditSyncTimeout_of_due {a : Nat} (hup : s.flag (F.celLinkstatUp p) = true) (hsent : (s.fnl p).csyncAt = some a)
    (hdue : a + usec 1 ≤ (s.at t).now) : doCreditSyncTimeout p t s = (s.at t).sendCsync p := by
  unfold doCreditSyncTimeout
  dsimp only
  rw [State.at_fnl, hsent, Option.any_some, State.at_flag, hup, decide_eq_true hdue]
  exact if_pos rfl

theorem doCreditSyncTimeout_of_down (hdown : s.flag (F.celLinkstatUp p) = false) : doCreditSyncTimeout p t s = s.at t := by
  simp [doCreditSyncTimeout, hdown]

theorem doNakTimeout_of_due (hup : s.flag (F.celLinkstatUp p) = true) (hout : (s.fnl p).nakOut = true)
    (hdue : (s.fnl p).nakAt + s.replayTimeout p ≤ (s.at t).now) : doNakTimeout p t s = (s.at t).nakNow p := by
  simp [doNakTimeout, hup, hout, hdue]

theorem doNakTimeout_of_down (hdown : s.flag (F.celLinkstatUp p) = false) : doNakTimeout p t s = s.at t := by
  simp [doNakTimeout, hdown]

/-! Replay (R289). -/

theorem State.lnk_of_units {s u : State} (h : u.units = s.units) : u.lnk = s.lnk := congrArg (a₁ := u.units) (a₂ := s.units) State.lnk h

theorem doReplayTimeout_of_due {c : SentCw} {l : List SentCw} (hup : s.flag (F.celLinkstatUp p) = true)
    (hbuffer : (s.fnl p).buffer = c :: l) (hdue : c.sentAt + s.replayTimeout p ≤ (s.at t).now) :
    doReplayTimeout p t s = (s.at t).replay p := by
  simp [doReplayTimeout, hup, hbuffer, hdue]

/-- A codeword of the replay buffer as it goes out. -/
def SentCw.emitted (p : Nat) (x : SentCw) : Emit := .codeword p x.seq x.msg x.seg x.colour x.poison

/-- The link layer of a replay: its codewords are sent now, and its oldest one has been replayed once more. -/
def replayedLayer (f : FnlLink) (now : Nat) : FnlLink :=
  { f with buffer := f.buffer.map fun c => { c with sentAt := now }, oldReplays := f.oldReplays + 1 }

/-- The codewords of a list go out in its order. -/
def State.resend (s : State) (p : Nat) (l : List SentCw) : State := l.foldl (fun u c => u.emit (c.emitted p)) s

theorem State.resend_sent (s : State) (p : Nat) (l : List SentCw) :
    (s.resend p l).sent = (l.map (SentCw.emitted p)).reverse ++ s.sent := by
  induction l generalizing s with
  | nil => rfl
  | cons c l ih => exact (ih (s.emit (c.emitted p))).trans (by simp)

@[simp] theorem State.emit_lnk (s : State) (e : Emit) : (s.emit e).lnk = s.lnk := rfl

theorem State.resend_lnk (s : State) (p : Nat) (l : List SentCw) : (s.resend p l).lnk = s.lnk := by
  rw [State.resend]
  exact foldl_keeps State.lnk (fun u c => u.emit_lnk (c.emitted p)) l s

/-- With the replay limit reached the link goes down. -/
theorem State.replay_of_spent (hbuffer : (s.fnl p).buffer ≠ []) (hspent : s.get (F.fnlReplayctlReplayMax p) ≤ (s.fnl p).oldReplays) :
    s.replay p = s.linkDown p 3 := by
  simp [State.replay, hbuffer, hspent]

/-- Below the limit the whole buffer goes out again in its order, and the event is counted. -/
theorem State.replay_units (hbuffer : (s.fnl p).buffer ≠ []) (hleft : (s.fnl p).oldReplays < s.get (F.fnlReplayctlReplayMax p)) :
    (s.replay p).units = ((s.setFnl p (replayedLayer (s.fnl p) s.now)).resend p (s.fnl p).buffer).units := by
  have hrun : s.replay p = (((s.setFnl p (replayedLayer (s.fnl p) s.now)).resend p (s.fnl p).buffer).bump (F.fnlEvtReplays p) 1).countCell
      p 0x17 none (s.fnl p).buffer.length := by
    unfold State.replay
    dsimp only
    rw [if_neg (by simpa using hbuffer), if_neg (Nat.not_le.mpr hleft)]
    rfl
  rw [hrun, State.countCell, State.count_units, State.bump_units]

theorem State.replay_sent (hbuffer : (s.fnl p).buffer ≠ []) (hleft : (s.fnl p).oldReplays < s.get (F.fnlReplayctlReplayMax p)) :
    (s.replay p).sent = ((s.fnl p).buffer.map (SentCw.emitted p)).reverse ++ s.sent :=
  (State.sent_of_units (State.replay_units hbuffer hleft)).trans (State.resend_sent ..)

theorem State.replay_fnl (hbuffer : (s.fnl p).buffer ≠ []) (hleft : (s.fnl p).oldReplays < s.get (F.fnlReplayctlReplayMax p)) :
    (s.replay p).fnl p = replayedLayer (s.fnl p) s.now := by
  have hlnk : (s.replay p).lnk = (s.setFnl p (replayedLayer (s.fnl p) s.now)).lnk :=
    (State.lnk_of_units (State.replay_units hbuffer hleft)).trans (State.resend_lnk ..)
  rw [State.fnl, hlnk, ← State.fnl, State.fnl_setFnl]

end

/-- Settles O30: each control codeword does what its code says on an FNL pleat and nothing on another; each timer that is due sends again
on a link that is up, and the replay that exceeds REPLAY_MAX takes the link down. -/
theorem fnlControlsAndTimersComplete : Obligations.FnlControlsAndTimersComplete := by
  unfold Obligations.FnlControlsAndTimersComplete
  refine ⟨fun s p hfnl => ⟨fun b hdown => ?trained, fun b hup => congrArg Host.Outcome.next (doTrain_of_up hfnl hup b),
      congrArg Host.Outcome.next (onFnl_of_fnl hfnl _), congrArg Host.Outcome.next (onFnl_of_fnl hfnl _),
      fun l => congrArg Host.Outcome.next (onFnl_of_fnl hfnl _), congrArg Host.Outcome.next (onFnl_of_fnl hfnl _)⟩,
    fun s p hother => ⟨congrArg Host.Outcome.next (onFnl_of_other hother _), congrArg Host.Outcome.next (onFnl_of_other hother _),
      congrArg Host.Outcome.next (onFnl_of_other hother _)⟩,
    fun s p t a hup => ⟨fun hsent hdue => ?creditSync, fun hout hdue => ?nak, fun c l hbuffer hdue => ⟨fun hleft => ?again, fun hspent => ?spent⟩⟩,
    fun s p t hdown => ⟨congrArg Host.Outcome.next (doCreditSyncTimeout_of_down hdown),
      congrArg Host.Outcome.next (doNakTimeout_of_down hdown)⟩⟩
  case trained =>
    have hlayer : (((s.setFnl p (trainedLayer (s.fnl p) b)).set (F.fnlLinkstatPeerId p) b.moduleId.val).fnl p) = trainedLayer (s.fnl p) b :=
      s.fnl_setFnl p _
    refine ⟨_, congrArg Host.Outcome.next (doTrain_of_down hfnl hdown b), congrArg FnlLink.peerPhase hlayer, congrArg FnlLink.peerGood hlayer,
      congrArg FnlLink.peerRx hlayer, congrArg FnlLink.peerResume hlayer, congrArg FnlLink.peerCredits hlayer, ?_, rfl, rfl⟩
    rw [State.get_set_same]
    exact Nat.mod_eq_of_lt b.moduleId.isLt
  case creditSync =>
    refine ⟨_, congrArg Host.Outcome.next (doCreditSyncTimeout_of_due hup hsent hdue), ?_, ?_⟩
    · rw [State.sendCsync_sent, State.at_sent]
    · rw [State.sendCsync_fnl]
  case nak =>
    refine ⟨_, congrArg Host.Outcome.next (doNakTimeout_of_due hup hout hdue), ?_, ?_⟩
    · rw [State.nakNow_sent, State.at_get, State.at_sent]
    · rw [State.nakNow_fnl]
  case again =>
    have hrun := doReplayTimeout_of_due hup hbuffer hdue
    have hfull : ((s.at t).fnl p).buffer ≠ [] := by simp [hbuffer]
    have hleft' : ((s.at t).fnl p).oldReplays < (s.at t).get (F.fnlReplayctlReplayMax p) := by simpa using hleft
    have hlayer := State.replay_fnl hfull hleft'
    refine ⟨_, congrArg Host.Outcome.next hrun, ?_, ?_, ?_⟩
    · rw [State.replay_sent hfull hleft', State.at_fnl, hbuffer, State.at_sent]
      rfl
    · rw [hlayer, State.at_fnl]
      rfl
    · rw [hlayer, State.at_fnl, ← hbuffer]
      simp [replayedLayer]
  case spent =>
    have hfull : ((s.at t).fnl p).buffer ≠ [] := by simp [hbuffer]
    exact congrArg Host.Outcome.next ((doReplayTimeout_of_due hup hbuffer hdue).trans (State.replay_of_spent hfull (by simpa using hspent)))

end Sys2Proof.Machine

/-! A link goes down (R76, R271, R294 to R296, R299): what each part of its fall writes, and what it leaves. -/
namespace Sys2Proof.Machine

/-- What the fall of a link leaves: the switch core, the homes, the chart in force, the kept state, and the time. -/
def State.rest (s : State) : CoreUnit × HomeUnit × Chart × NonVolatile × Nat := (s.core, s.home, s.chart, s.nv, s.now)

theorem State.rest_of_units {s u : State} (h : u.units = s.units) : u.rest = s.rest :=
  congrArg (a₁ := u.units) (a₂ := s.units) State.rest h

theorem State.Reports.rest {s u : State} (h : s.Reports u) : u.rest = s.rest :=
  congrArg (a₁ := u.beyondFaults) (a₂ := s.beyondFaults) State.rest h.beyond

theorem State.of_rest {s u : State} (h : u.rest = s.rest) :
    u.core = s.core ∧ u.home = s.home ∧ u.chart = s.chart ∧ u.nv = s.nv ∧ u.now = s.now := by
  simpa [State.rest] using h

theorem State.modLnk_rest (s : State) (f : LinkUnit → LinkUnit) : (s.modLnk f).rest = s.rest := rfl
@[simp] theorem State.modLnk_lnk (s : State) (f : LinkUnit → LinkUnit) : (s.modLnk f).lnk = f s.lnk := rfl
@[simp] theorem State.modLnk_get (s : State) (f : LinkUnit → LinkUnit) (g : Fld) : (s.modLnk f).get g = s.get g := rfl
@[simp] theorem State.modLnk_core (s : State) (f : LinkUnit → LinkUnit) : (s.modLnk f).core = s.core := rfl
@[simp] theorem State.modLnk_sent (s : State) (f : LinkUnit → LinkUnit) : (s.modLnk f).sent = s.sent := rfl

theorem State.setAll_rest (s : State) (l : List (Fld × Nat)) : (s.setAll l).rest = s.rest := State.rest_of_units (s.setAll_units l)

theorem State.slotEvent_rest (s : State) (v i : Nat) (presence dll attention : Bool) :
    (s.slotEvent v i presence dll attention).rest = s.rest := rfl

/-- The events of a vPPB are no register fields. -/
theorem State.slotEvent_regs (s : State) (v i : Nat) (presence dll attention : Bool) :
    (s.slotEvent v i presence dll attention).regs = s.regs := rfl

theorem State.dllEvent_rest (s : State) (p : Nat) : (s.dllEvent p).rest = s.rest :=
  foldl_keeps State.rest (fun u _ => u.slotEvent_rest ..) _ s

theorem State.dllEvent_regs (s : State) (p : Nat) : (s.dllEvent p).regs = s.regs :=
  foldl_keeps State.regs (fun u _ => u.slotEvent_regs ..) _ s

theorem State.setForward_rest (s : State) (p : Nat) : (s.setForward p).rest = s.rest :=
  foldl_keeps State.rest (fun u _ => u.setAll_rest _) _ s

theorem State.dropCalibration_rest (s : State) (p : Nat) : (s.dropCalibration p).rest = s.rest := by
  refine (foldl_keeps State.rest (fun u l => ?_) _ _).trans (State.setAll_rest (s.modLan _) _)
  dsimp only
  split
  · exact (State.rest_of_units (State.set_units ..)).trans (u.setAll_rest _)
  · exact u.setAll_rest _

/-- Calibration in hand stands in the registers of the lanes. -/
theorem State.dropCalibration_get {s : State} {p : Nat} (hp : p < 1024) (hcells : s.chart.cells p ≤ 8) {f : Fld} (hf : f.besideLanes) :
    (s.dropCalibration p).get f = s.get f := by
  refine (foldl_keeps_of_mem (fun u => u.get f) (fun u l hl => ?_) _).trans ((State.get_setAll_of_lanes hf ?_).trans (s.modLan_get _ f))
  · have hlane : l < 2064 := by
      obtain ⟨i, hi, rfl⟩ := List.mem_map.mp hl
      have hcell := List.mem_range.mp hi
      unfold Chart.linkLane
      omega
    have hmodes : (u.setAll [(F.lanModeActive l, 0), (F.lanRxeqStepPending l, 0), (F.lanRxeqEndStop l, 0)]).get f = u.get f := by
      refine State.get_setAll_of_lanes hf ?_
      simp [F.lanModeActive, F.lanRxeqStepPending, F.lanRxeqEndStop]
      omega
    dsimp only
    split
    · refine (State.get_setAll_of_lanes hf (l := [(F.sxtSweepresValid l, 0)]) ?_).trans hmodes
      simp [F.sxtSweepresValid]
      omega
    · exact hmodes
  · simp [F.lanQwstatReqOut, F.lanQwstatReqIn]
    omega

/-- The fields of a link that carries nothing. -/
def downFields (p : Nat) : List (Fld × Nat) := [(F.celLinkstatUp p, 0), (F.celLinkstatWidthNow p, 0), (F.celLinkstatDegraded p, 0)]

theorem State.dropLink_rest (s : State) (p : Nat) : (s.dropLink p).rest = s.rest := by
  unfold State.dropLink
  extract_lets was s1
  have hs1 : s1.rest = s.rest := (State.dropCalibration_rest ..).trans ((State.setForward_rest ..).trans (State.setAll_rest ..))
  clear_value s1
  split
  · exact (s1.dllEvent_rest p).trans hs1
  · exact hs1

/-- Beside the lanes a link that stops carrying traffic writes its own fields alone. -/
theorem State.dropLink_get {s : State} {p : Nat} (hp : p < 1024) (hcells : s.chart.cells p ≤ 8) {f : Fld} (hf : f.besideLanes) :
    (s.dropLink p).get f = (s.setAll (downFields p)).get f := by
  unfold State.dropLink
  extract_lets was s1
  have hs1 : s1.get f = (s.setAll (downFields p)).get f := by
    have hdown : (s.setAll (downFields p)).chart.cells p ≤ 8 := by rwa [State.chart_of_units (s.setAll_units _)]
    have hforward : ((s.setAll (downFields p)).setForward p).chart.cells p ≤ 8 := by
      obtain ⟨-, -, hchart, -⟩ := State.of_rest ((s.setAll (downFields p)).setForward_rest p)
      rwa [hchart]
    exact (State.dropCalibration_get hp hforward hf).trans (State.setForward_get hf hdown)
  clear_value s1
  split
  · exact (State.get_of_regs (s1.dllEvent_regs p) f).trans hs1
  · exact hs1

end Sys2Proof.Machine

/-! Link-downs with a grace period (R294 to R296). -/
namespace Sys2Proof.Machine

theorem State.linkDown_of_down {s : State} {p cause : Nat} (h : s.flag (F.celLinkstatUp p) = false) : s.linkDown p cause = s := by
  simp [State.linkDown, h]

/-- RESET_REQ goes out four times where codewords still flow. -/
def State.askReset (s : State) (p cause : Nat) : State :=
  if s.chart.isFnl p && cause != 6 && cause != 8 then (List.range 4).foldl (fun u _ => u.emit (.control p 2 [])) s else s

/-- A view that what is sent does not touch. -/
theorem State.askReset_keeps {β : Type} (view : State → β) (hview : ∀ u e, view (State.emit u e) = view u) (s : State) (p cause : Nat) :
    view (s.askReset p cause) = view s := by
  unfold State.askReset
  split
  · exact foldl_keeps view (fun u _ => hview u _) _ s
  · rfl

/-- The link is down, with its cause recorded. -/
def State.fallen (s : State) (p cause : Nat) : State := ((s.askReset p cause).set (F.fnlLinkstatLastCause p) cause).dropLink p

/-- A link-down that counts is noted, with the earlier ones of the window (R299). -/
def State.downNoted (s : State) (p cause : Nat) : State :=
  if countsDown cause then (s.fallen p cause).modLnk fun u => { u with downs := SMap.put u.downs p (s.recentDowns p ++ [s.now]) }
  else s.fallen p cause

/-- The count of the window shows. -/
def State.downCounted (s : State) (p cause : Nat) : State :=
  (s.downNoted p cause).set (F.fnlLinkstatLinkdowns p) (min 15 ((s.downNoted p cause).recentDowns p).length)

/-- A full reset and a grace period begin. -/
def State.graced (s : State) (p now : Nat) : State :=
  ((s.beginReset p).set (F.fnlLinkstatGraceOn p) 1).modLnk fun u => { u with graceAt := SMap.put u.graceAt p now }

/-- The fall with a grace period in full: the link-down reported, counted, told to the Pilot, and the grace period begun. -/
def State.fallsGraced (s : State) (p cause : Nat) : State :=
  (((s.reportAt (inLink p) 1).downCounted p cause).raise atLink [audPilot]).graced p s.now

section
variable {s : State} {p cause : Nat}

theorem State.fallen_rest (s : State) (p cause : Nat) : (s.fallen p cause).rest = s.rest :=
  (State.dropLink_rest ..).trans ((State.rest_of_units (State.set_units ..)).trans (s.askReset_keeps State.rest (fun _ _ => rfl) p cause))

theorem State.downNoted_rest (s : State) (p cause : Nat) : (s.downNoted p cause).rest = s.rest := by
  unfold State.downNoted
  split
  · exact s.fallen_rest p cause
  · exact s.fallen_rest p cause

theorem State.downNoted_get (s : State) (p cause : Nat) (f : Fld) : (s.downNoted p cause).get f = (s.fallen p cause).get f := by
  unfold State.downNoted
  split <;> rfl

/-- The recent link-downs are read from the links' records, the window and the time. -/
theorem State.recentDowns_of {u : State} (hlnk : u.lnk = s.lnk) (hnow : u.now = s.now)
    (hwindow : u.get (F.fnlRetirectlRetireWindow p) = s.get (F.fnlRetirectlRetireWindow p)) : u.recentDowns p = s.recentDowns p := by
  unfold State.recentDowns
  rw [hlnk, hnow, hwindow]

/-- The new link-down is at most one more than the window held. -/
theorem State.downNoted_recent (hcounts : countsDown cause = true) :
    ((s.downNoted p cause).recentDowns p).length ≤ (s.recentDowns p).length + 1 := by
  have hdowns : SMap.getD (s.downNoted p cause).lnk.downs p [] = s.recentDowns p ++ [s.now] := by
    rw [State.downNoted, if_pos hcounts]
    simp [State.modLnk, SMap.getD]
  unfold State.recentDowns at hdowns ⊢
  rw [hdowns]
  exact (List.length_filter_le ..).trans (by simp)

theorem State.downCounted_recent (hcounts : countsDown cause = true) :
    ((s.downCounted p cause).recentDowns p).length ≤ (s.recentDowns p).length + 1 := by
  have hne : (F.fnlLinkstatLinkdowns p).key ≠ (F.fnlRetirectlRetireWindow p).key := by
    simp only [Fld.key, F.fnlLinkstatLinkdowns, F.fnlRetirectlRetireWindow]
    omega
  have hrecent : (s.downCounted p cause).recentDowns p = (s.downNoted p cause).recentDowns p :=
    State.recentDowns_of rfl rfl (State.get_set_of_ne _ _ _ _ hne)
  rw [hrecent]
  exact State.downNoted_recent hcounts

theorem State.reportAt_link (s : State) (hp : p < 1024) : s.Reports (s.reportAt (inLink p) 1) :=
  s.reportAt_reports (by simp only [inLink]; omega) (by decide)

/-- The registers of a link's layer and of its cell lie apart from the collectors' and the FLT block's, and beside the lanes'. -/
abbrev Fld.ofLink (f : Fld) (p : Nat) : Prop := f.lsb < 32 ∧ (f.addr / 0x100 = 0x6000 + p ∨ f.addr = 0x2000004 + 0x1000 * p)

theorem celLinkstatUp_ofLink (p : Nat) : (F.celLinkstatUp p).ofLink p := ⟨Nat.zero_lt_succ 31, .inr rfl⟩

theorem fnlLinkstatLastCause_ofLink (p : Nat) : (F.fnlLinkstatLastCause p).ofLink p := by
  simp only [Fld.ofLink, F.fnlLinkstatLastCause]
  omega

theorem Fld.ofLink.besideReports {f : Fld} (h : f.ofLink p) (hp : p < 1024) : f.besideReports := by
  obtain ⟨hlsb, haddr⟩ := h
  refine ⟨hlsb, ?_⟩
  unfold faultWord
  omega

theorem Fld.ofLink.besideLanes {f : Fld} (h : f.ofLink p) (hp : p < 1024) : f.besideLanes := by
  obtain ⟨hlsb, haddr⟩ := h
  exact ⟨hlsb, by omega⟩

/-- Below RETIRE_COUNT a cause with a grace period takes the link down without retiring or flushing it. -/
theorem State.linkDown_of_grace (hp : p < 1024) (hup : s.flag (F.celLinkstatUp p) = true) (hgrace : hasGrace cause = true)
    (hperiod : s.get (F.fnlLinkctlGrace p) ≠ 0)
    (hfew : countsDown cause = true → (s.recentDowns p).length + 1 < s.get (F.fnlRetirectlRetireCount p)) :
    s.linkDown p cause = s.fallsGraced p cause := by
  have hreports := s.reportAt_link hp
  have hget {f : Fld} (h : f.ofLink p) : (s.reportAt (inLink p) 1).get f = s.get f := hreports.get f (h.besideReports hp)
  have hcount := hget (f := F.fnlRetirectlRetireCount p) (by simp only [Fld.ofLink, F.fnlRetirectlRetireCount]; omega)
  have hwindow := hget (f := F.fnlRetirectlRetireWindow p) (by simp only [Fld.ofLink, F.fnlRetirectlRetireWindow]; omega)
  have hlimit := hget (f := F.fnlLinkctlGrace p) (by simp only [Fld.ofLink, F.fnlLinkctlGrace]; omega)
  obtain ⟨-, -, -, -, hnow⟩ := State.of_rest hreports.rest
  have hrecent := State.recentDowns_of hreports.lnk hnow hwindow
  have hstays : ¬(countsDown cause = true ∧ (s.reportAt (inLink p) 1).get (F.fnlRetirectlRetireCount p) ≤
      (((s.reportAt (inLink p) 1).downCounted p cause).recentDowns p).length) := by
    rintro ⟨hcounts, hreached⟩
    have hmost := State.downCounted_recent (s := s.reportAt (inLink p) 1) (p := p) hcounts
    have hbelow := hfew hcounts
    rw [hcount] at hreached
    rw [hrecent] at hmost
    omega
  have hraised : cause ≠ 0xD := by rintro rfl; exact absurd hgrace (by decide)
  unfold State.linkDown State.fallsGraced
  rw [hup, if_neg (by decide), ← hnow]
  dsimp only
  refine (if_neg hstays).trans ((if_pos ⟨hgrace, by rwa [hlimit]⟩).trans ?_)
  rw [if_neg hraised]
  rfl

/-! What shows once a link has gone down with a grace period. -/

theorem State.raise_link (s : State) : s.raise atLink [audPilot] = s.raiseOne atLink audPilot := rfl

theorem State.beginReset_rest (s : State) (p : Nat) : (s.beginReset p).rest = s.rest :=
  (State.modLnk_rest ..).trans (State.rest_of_units ((State.set_units ..).trans (State.bump_units ..)))

theorem State.graced_rest (s : State) (p now : Nat) : (s.graced p now).rest = s.rest :=
  (State.modLnk_rest ..).trans ((State.rest_of_units (State.set_units ..)).trans (s.beginReset_rest p))

/-- Beside the count of link resets and the link's state and grace flag no field changes. -/
theorem State.graced_get (s : State) {p : Nat} (now : Nat) {f : Fld} (hresets : (F.celLinkstatLinkResets p).key ≠ f.key)
    (hstate : (F.fnlLinkstatState p).key ≠ f.key) (hgrace : (F.fnlLinkstatGraceOn p).key ≠ f.key) : (s.graced p now).get f = s.get f := by
  rw [State.graced, State.modLnk_get, State.get_set_of_ne _ _ _ _ hgrace, State.beginReset, State.modLnk_get,
    State.get_set_of_ne _ _ _ _ hstate, State.get_bump_of_ne _ _ hresets]

/-- A preset reset or a cold train is under way. -/
theorem State.beginReset_state (s : State) (p : Nat) :
    (s.beginReset p).get (F.fnlLinkstatState p) = 1 ∨ (s.beginReset p).get (F.fnlLinkstatState p) = 2 := by
  unfold State.beginReset
  extract_lets preset
  rw [State.modLnk_get, State.get_set_same]
  cases preset
  · exact .inl rfl
  · exact .inr rfl

theorem State.graced_shows (s : State) (p now : Nat) : (s.graced p now).flag (F.fnlLinkstatGraceOn p) = true ∧
    SMap.find? (s.graced p now).lnk.graceAt p = some now ∧
    ((s.graced p now).get (F.fnlLinkstatState p) = 1 ∨ (s.graced p now).get (F.fnlLinkstatState p) = 2) := by
  have hne : (F.fnlLinkstatGraceOn p).key ≠ (F.fnlLinkstatState p).key := by simp [Fld.key, F.fnlLinkstatState, F.fnlLinkstatGraceOn]
  rw [State.graced, State.flag, State.modLnk_get, State.modLnk_get, State.modLnk_lnk, State.get_set_same, State.get_set_of_ne _ _ _ _ hne]
  exact ⟨rfl, SMap.find?_put_same .., s.beginReset_state p⟩

theorem State.fallsGraced_rest (s : State) (hp : p < 1024) (cause : Nat) : (s.fallsGraced p cause).rest = s.rest :=
  (State.graced_rest ..).trans ((State.rest_of_units (State.raise_units ..)).trans ((State.rest_of_units (State.set_units ..)).trans
    ((State.downNoted_rest ..).trans (s.reportAt_link hp).rest)))

/-- LINK is pending for the Pilot. -/
theorem State.fallsGraced_pending (s : State) (p cause : Nat) :
    ((s.fallsGraced p cause).get (F.fltAttnPend audPilot)).testBit atLink = true := by
  rw [State.fallsGraced, State.graced_get, State.raise_link]
  · exact State.raiseOne_pending _ audPilot (by decide)
  all_goals simp only [Fld.key, F.celLinkstatLinkResets, F.fnlLinkstatState, F.fnlLinkstatGraceOn, F.fltAttnPend, audPilot]
  all_goals omega

/-- A field of the link beside those of the reset, the grace period and the count reads what the fall of the link gives it. -/
theorem State.fallsGraced_get (s : State) (hp : p < 1024) (cause : Nat) {f : Fld} (hf : f.ofLink p)
    (hresets : (F.celLinkstatLinkResets p).key ≠ f.key) (hstate : (F.fnlLinkstatState p).key ≠ f.key)
    (hgrace : (F.fnlLinkstatGraceOn p).key ≠ f.key) (hdowns : (F.fnlLinkstatLinkdowns p).key ≠ f.key) :
    (s.fallsGraced p cause).get f = ((s.reportAt (inLink p) 1).fallen p cause).get f := by
  obtain ⟨hlsb, haddr⟩ := hf
  have hpend : (F.fltAttnPend audPilot).key ≠ f.key :=
    Fld.key_ne_of_addr_ne (by simp [F.fltAttnPend]) hlsb (by simp only [F.fltAttnPend, audPilot]; omega)
  have hseq : (F.fltAttnSeq audPilot).key ≠ f.key :=
    Fld.key_ne_of_addr_ne (by simp [F.fltAttnSeq]) hlsb (by simp only [F.fltAttnSeq, audPilot]; omega)
  rw [State.fallsGraced, State.graced_get _ _ hresets hstate hgrace, State.raise_link, State.get_raiseOne_of_ne _ _ hpend hseq,
    State.downCounted, State.get_set_of_ne _ _ _ _ hdowns, State.downNoted_get]

theorem State.fallen_shows (s : State) (hp : p < 1024) (hcells : s.chart.cells p ≤ 8) (hcause : cause < 16) :
    (s.fallen p cause).flag (F.celLinkstatUp p) = false ∧ (s.fallen p cause).get (F.fnlLinkstatLastCause p) = cause := by
  have hchart : ((s.askReset p cause).set (F.fnlLinkstatLastCause p) cause).chart = s.chart :=
    s.askReset_keeps State.chart (fun _ _ => rfl) p cause
  have hget {f : Fld} (hf : f.ofLink p) := State.dropLink_get (s := (s.askReset p cause).set (F.fnlLinkstatLastCause p) cause) hp
    (by rwa [hchart]) (hf.besideLanes hp)
  constructor
  · have hzero : (s.fallen p cause).get (F.celLinkstatUp p) = 0 := by
      refine (hget (celLinkstatUp_ofLink p)).trans (State.get_setAll_of_mem _ [] _ ?_)
      simp [Fld.key, F.celLinkstatUp, F.celLinkstatWidthNow, F.celLinkstatDegraded]
    rw [State.flag, hzero]
    rfl
  · refine (hget (fnlLinkstatLastCause_ofLink p)).trans ((State.get_setAll_of_ne _ ?_).trans
      ((State.get_set_same ..).trans (Nat.mod_eq_of_lt hcause)))
    simp [downFields, Fld.key, F.celLinkstatUp, F.celLinkstatWidthNow, F.celLinkstatDegraded, F.fnlLinkstatLastCause]
    omega

/-- The link is down, and its cause shows. -/
theorem State.fallsGraced_shows (s : State) (hp : p < 1024) (hcells : s.chart.cells p ≤ 8) (hcause : cause < 16) :
    (s.fallsGraced p cause).flag (F.celLinkstatUp p) = false ∧ (s.fallsGraced p cause).get (F.fnlLinkstatLastCause p) = cause := by
  obtain ⟨-, -, hchart, -⟩ := State.of_rest (s.reportAt_link hp).rest
  obtain ⟨hdown, hlast⟩ := (s.reportAt (inLink p) 1).fallen_shows hp (by rwa [hchart]) hcause
  rw [State.flag] at hdown ⊢
  rw [s.fallsGraced_get hp cause (celLinkstatUp_ofLink p), s.fallsGraced_get hp cause (fnlLinkstatLastCause_ofLink p)]
  · exact ⟨hdown, hlast⟩
  all_goals
    simp only [Fld.key, F.celLinkstatLinkResets, F.fnlLinkstatState, F.fnlLinkstatGraceOn, F.fnlLinkstatLinkdowns,
      F.celLinkstatUp, F.fnlLinkstatLastCause]
    omega

end

end Sys2Proof.Machine

/-! Watches, the window of link-downs, the retirement's end, and the retries of CXL links (R293, R299 to R301). -/
namespace Sys2Proof.Machine

section
variable {s : State} {p t : Nat}

/-- The maxima of the watches, with those of the one that ends. -/
def State.watchMaxima (s : State) (p : Nat) : List (Fld × Nat) :=
  [(F.fnlWatchcntMaxuncor p, max (s.get (F.fnlWatchcntMaxuncor p)) (s.get (F.fnlWatchcntUncor p))),
    (F.fnlWatchcntMaxlow p, max (s.get (F.fnlWatchcntMaxlow p)) (s.get (F.fnlWatchcntLowfom p)))]

/-- The watch starts anew, with its maxima kept. -/
def State.watchEnded (s : State) (p : Nat) : State :=
  (s.setAll (s.watchMaxima p ++ [(F.fnlWatchcntUncor p, 0), (F.fnlWatchcntLowfom p, 0)])).modLnk fun u => { u with
    watchAt := SMap.put u.watchAt p s.now }

theorem doWatchEnd_of_due {a : Nat} (hwatch : SMap.find? s.lnk.watchAt p = some a)
    (hdue : a + usec (100 * s.get (F.fnlLinkctlWatch p)) ≤ (s.at t).now) : doWatchEnd p t s = (s.at t).watchEnded p := by
  unfold doWatchEnd
  dsimp only
  rw [State.at_lnk, hwatch, Option.any_some, State.at_get (f := F.fnlLinkctlWatch p)]
  exact if_pos (decide_eq_true hdue)

theorem State.watchEnded_counts (s : State) (p : Nat) :
    (s.watchEnded p).get (F.fnlWatchcntUncor p) = 0 ∧ (s.watchEnded p).get (F.fnlWatchcntLowfom p) = 0 := by
  rw [State.watchEnded, State.modLnk_get, State.modLnk_get]
  constructor
  · refine State.get_setAll_of_mem s (v := 0) (s.watchMaxima p) [(F.fnlWatchcntLowfom p, 0)] ?_
    simp [Fld.key, F.fnlWatchcntUncor, F.fnlWatchcntLowfom]
  · rw [List.append_cons]
    exact State.get_setAll_of_mem s (v := 0) (s.watchMaxima p ++ [(F.fnlWatchcntUncor p, 0)]) [] nofun

theorem State.watchEnded_units (s : State) (p : Nat) :
    (s.watchEnded p).units = (s.modLnk fun u => { u with watchAt := SMap.put u.watchAt p s.now }).units :=
  congrArg (fun u : State => u.modLnk fun x => { x with watchAt := SMap.put x.watchAt p s.now }) (s.setAll_units _)

theorem doGraceExpired_of_grace {a : Nat} (hgrace : SMap.find? s.lnk.graceAt p = some a) :
    doGraceExpired p t s = if a + usec (100 * s.get (F.fnlLinkctlGrace p)) ≤ (s.at t).now then (s.at t).flush p else s.at t := by
  unfold doGraceExpired
  dsimp only
  rw [State.at_lnk, hgrace, Option.any_some, State.at_get]
  exact if_congr decide_eq_true_iff rfl rfl

/-- A link that is not retired has nothing to clear. -/
theorem State.unretire_of_other (h : s.get (F.fnlLinkstatState p) ≠ 4) : s.unretire p = s := if_neg h

/-- A retired link that is cleared, before it trains: it is DOWN, and no record of its retirement and of its link-downs is left. -/
def State.pardoned (s : State) (p : Nat) : State :=
  ({ s.setAll [(F.fnlLinkstatState p, 0), (F.fnlLinkstatLinkdowns p, 0)] with
    nv := { s.nv with linkRetired := s.nv.linkRetired.filter (· != p) } } : State).modLnk fun u => { u with downs := SMap.del u.downs p }

theorem State.unretire_of_retired (h : s.get (F.fnlLinkstatState p) = 4) : s.unretire p = (s.pardoned p).startTraining p := if_pos h

theorem State.pardoned_get (s : State) (p : Nat) (f : Fld) :
    (s.pardoned p).get f = (s.setAll [(F.fnlLinkstatState p, 0), (F.fnlLinkstatLinkdowns p, 0)]).get f := rfl

theorem State.pardoned_shows (s : State) (p : Nat) :
    (s.pardoned p).get (F.fnlLinkstatState p) = 0 ∧ (s.pardoned p).get (F.fnlLinkstatLinkdowns p) = 0 := by
  constructor
  · refine (s.pardoned_get p _).trans (State.get_setAll_of_mem s (v := 0) [] [(_, _)] ?_)
    simp [Fld.key, F.fnlLinkstatState, F.fnlLinkstatLinkdowns]
  · exact (s.pardoned_get p _).trans (State.get_setAll_of_mem s (v := 0) [(_, _)] [] nofun)

theorem State.pardoned_retired (s : State) (p : Nat) : p ∉ (s.pardoned p).nv.linkRetired := fun h => by
  have hkept := (List.mem_filter.mp h).2
  simp at hkept

/-- A link that begins to train writes its state alone. -/
theorem State.startTraining_get_of_ne (s : State) (p : Nat) {f : Fld} (h : (F.fnlLinkstatState p).key ≠ f.key) :
    (s.startTraining p).get f = s.get f := by
  unfold State.startTraining
  split
  · rw [State.modLnk_get, State.get_set_of_ne _ _ _ _ h]
  · rfl

theorem State.startTraining_state (s : State) (p : Nat) : (s.startTraining p).get (F.fnlLinkstatState p) = 1 ∨
    (s.startTraining p).get (F.fnlLinkstatState p) = s.get (F.fnlLinkstatState p) := by
  unfold State.startTraining
  split
  · rw [State.modLnk_get, State.get_set_same]
    exact .inl rfl
  · exact .inr rfl

/-- A link that is cleared is retired no more, whether it trains at once or not (R300). -/
theorem State.unretire_shows (h : s.get (F.fnlLinkstatState p) = 4) : (s.unretire p).get (F.fnlLinkstatState p) ≠ 4 ∧
    p ∉ (s.unretire p).nv.linkRetired ∧ (s.unretire p).get (F.fnlLinkstatLinkdowns p) = 0 := by
  obtain ⟨hstate, hdowns⟩ := s.pardoned_shows p
  obtain ⟨-, hnv, -⟩ := State.of_calm (State.startTraining_calm (s.pardoned p) p)
  have hne : (F.fnlLinkstatState p).key ≠ (F.fnlLinkstatLinkdowns p).key := by simp [Fld.key, F.fnlLinkstatState, F.fnlLinkstatLinkdowns]
  rw [State.unretire_of_retired h, hnv, State.startTraining_get_of_ne _ _ hne]
  refine ⟨?_, s.pardoned_retired p, hdowns⟩
  rcases (s.pardoned p).startTraining_state p with hnow | hnow <;> omega

/-- A first expiry of the timer, reported and counted: one retry is under way. -/
def State.firstRetry (s : State) (p : Nat) : State :=
  (((s.reportAt (inLink p) 1).modLnk fun u => { u with retries := SMap.put u.retries p 1 }).bump (F.celLlcxlReplays p) 1).emit (.cxlReplay p)

theorem doCxlReplayTimeout_of_first (hup : s.flag (F.celLinkstatUp p) = true) (hcxl : s.chart.isFnl p = false) :
    doCxlReplayTimeout p false t s = (s.at t).firstRetry p := by
  simp [doCxlReplayTimeout, State.firstRetry, hup, hcxl]

theorem State.firstRetry_leaves (s : State) (hp : p < 1024) :
    (s.firstRetry p).sent = .cxlReplay p :: s.sent ∧ (s.firstRetry p).core = s.core := by
  rw [State.firstRetry, State.emit_sent, State.emit_core, State.bump_sent, State.bump_core, State.modLnk_sent, State.modLnk_core,
    (s.reportAt_link hp).sent, (s.reportAt_link hp).core]
  exact ⟨rfl, rfl⟩

end

/-! O32. -/

/-- Settles O32: a link-down short of retirement is `State.fallsGraced`, read part by part; the events that bring one are `State.linkDown`
of their cause, and the watch, the grace period, the window and the Pilot's clear are read from their equations. -/
theorem linkDownsComplete : Obligations.LinkDownsComplete := by
  unfold Obligations.LinkDownsComplete
  refine ⟨fun s p cause hdown => State.linkDown_of_down hdown, fun s p cause hup hcause hgrace hperiod hcells hfew => ?falls,
    fun s p t => ⟨fun hfnl => ?signal, fun hother => ?noSignal, fun husp => ?usp, fun hdsp => ?dsp⟩, fun s p t a hwatch hdue => ?watch,
    fun s p t a hgrace => ?grace, fun s src who p hserves hpilot hreach => ⟨fun hretired => ?refused, fun hother => ?reset,
      fun hother => ?nothing, fun hretired _ => ?cleared⟩,
    fun s p t hup hcxl => ?retry, fun s p t => ?window⟩
  case falls =>
    obtain ⟨hdown, hlast⟩ := s.fallsGraced_shows p.isLt hcells hcause
    obtain ⟨hon, hsince, hstate⟩ := State.graced_shows (((s.reportAt (inLink p) 1).downCounted p cause).raise atLink [audPilot]) p s.now
    obtain ⟨hcore, hhome, hchart, hnv, -⟩ := State.of_rest (s.fallsGraced_rest p.isLt cause)
    exact ⟨_, State.linkDown_of_grace p.isLt hup hgrace hperiod hfew, hdown, hlast, hon, hsince, hstate, s.fallsGraced_pending p cause,
      hcore, hhome, hchart, hnv⟩
  case signal => exact congrArg Host.Outcome.next (onFnl_of_fnl (by rwa [State.at_chart]) _)
  case noSignal => exact congrArg Host.Outcome.next (onFnl_of_other (by rwa [State.at_chart]) _)
  case usp => exact congrArg Host.Outcome.next (if_pos (by simp [husp]))
  case dsp => exact congrArg Host.Outcome.next (if_pos (by simp [hdsp]))
  case watch =>
    obtain ⟨huncor, hlow⟩ := (s.at t).watchEnded_counts p
    have hunits := (s.at t).watchEnded_units p
    refine ⟨_, congrArg Host.Outcome.next (doWatchEnd_of_due hwatch hdue), huncor, hlow, ?_, ?_, ?_⟩
    · rw [State.lnk_of_units hunits]
      exact SMap.find?_put_same ..
    · exact (State.core_of_units hunits).trans (s.at_core t)
    · exact (State.sent_of_units hunits).trans (s.at_sent t)
  case grace =>
    have hrun := doGraceExpired_of_grace (t := t) hgrace
    exact ⟨fun h => congrArg Host.Outcome.next (hrun.trans (if_pos h)),
      fun h => congrArg Host.Outcome.next (hrun.trans (if_neg (Nat.not_le.mpr h)))⟩
  case refused =>
    have hact : resetLink p (s.touch src) = (s.touch src, stDenied) := if_pos hretired
    exact congrArg Host.Outcome.next (State.regCommandAt_eq hserves hreach hpilot (act := fun _ => resetLink p) hact)
  case reset =>
    have hact : resetLink p (s.touch src) = ((s.touch src).linkDown (s.chart.lead p) 9, stOk) := if_neg hother
    exact congrArg Host.Outcome.next (State.regCommandAt_eq hserves hreach hpilot (act := fun _ => resetLink p) hact)
  case nothing =>
    have hact : ((s.touch src).unretire (s.chart.lead p), stOk) = (s.touch src, stOk) :=
      congrArg (·, stOk) (State.unretire_of_other hother)
    exact congrArg Host.Outcome.next (State.regCommandAt_eq hserves hreach hpilot
      (act := fun _ s => (s.unretire (s.chart.lead p.val), stOk)) hact)
  case cleared =>
    exact ⟨(s.touch src).unretire (s.chart.lead p), congrArg Host.Outcome.next (State.regCommandAt_eq hserves hreach hpilot
      (act := fun _ s => (s.unretire (s.chart.lead p.val), stOk)) rfl), State.unretire_shows (s := s.touch src) hretired⟩
  case retry =>
    obtain ⟨hsent, hcore⟩ := (s.at t).firstRetry_leaves p.isLt
    exact ⟨_, congrArg Host.Outcome.next (doCxlReplayTimeout_of_first hup hcxl), hsent.trans (congrArg _ (s.at_sent t)),
      hcore.trans (s.at_core t)⟩
  case window =>
    refine ⟨_, rfl, (State.get_set_same ..).trans (Nat.mod_eq_of_lt ?_), ?_, s.at_core t, s.at_sent t⟩
    · exact lt_of_le_of_lt (min_le_left ..) (by simp [F.fnlLinkstatLinkdowns])
    · exact congrArg (Option.getD · []) (SMap.find?_put_same ..)

end Sys2Proof.Machine

/-! Events at collectors (R314, R326): the loss of one copy of a region's sash. -/
namespace Sys2Proof.Machine

/-- The module once the sash input of region 0 (R314) and the chip collector's input for the region are in SERVICE, as R319 brings them there
from reset. -/
def State.sashInService : State := doInputServiceEntry hubCol 0 (doInputServiceEntry 1152 29 State.reset)

/-- A C2 event of the sash waits for its sequencer once it is reported (R315). -/
theorem State.sashInService_reported : (State.sashInService.report 1152 29 2).flt.reactions = [(1152, 29)] := by decide +kernel

/-- The loss of one of the two copies costs nothing, and its reaction ends with the event (R326, log entry 143). -/
theorem State.sashInService_event : (doErrorLineEvent 1152 [(29, 2)] .sashInService).flt.reactions = [] := by decide +kernel

/-- Refutes O33: where a C2 event tells that the first copy of a region's sash fails, the event also ends its own reaction, so it does
not leave the state that its report gives. -/
theorem not_collectorEventsComplete : ¬ Obligations.CollectorEventsComplete := by
  unfold Obligations.CollectorEventsComplete
  rintro ⟨hevent, -⟩
  have hreport : doErrorLineEvent 1152 [(29, 2)] .sashInService = State.sashInService.report 1152 29 2 :=
    Host.Outcome.next.inj (hevent .sashInService (.region 0) 29 .c2 (by decide))
  have hreactions := State.sashInService_event.symm.trans (congrArg (fun u : State => u.flt.reactions) hreport)
  rw [State.sashInService_reported] at hreactions
  exact List.cons_ne_nil _ _ hreactions.symm

end Sys2Proof.Machine

/-! Entry to the safe state (R323, R324, R336): the fields it writes, SAFE for every audience, and what it stops. -/
namespace Sys2Proof.Machine

theorem State.cpy_of_units {s u : State} (h : u.units = s.units) : u.cpy = s.cpy := congrArg (a₁ := u.units) (a₂ := s.units) State.cpy h
theorem State.lvc_of_units {s u : State} (h : u.units = s.units) : u.lvc = s.lvc := congrArg (a₁ := u.units) (a₂ := s.units) State.lvc h
theorem State.ecc_of_units {s u : State} (h : u.units = s.units) : u.ecc = s.ecc := congrArg (a₁ := u.units) (a₂ := s.units) State.ecc h

/-- Each of several fields set at once reads what it was set to, when no two of them are the same. -/
theorem State.get_setAll_of_distinct (s : State) {l : List (Fld × Nat)} (hl : l.Pairwise fun a b => b.1.key ≠ a.1.key) {f : Fld} {v : Nat}
    (h : (f, v) ∈ l) : (s.setAll l).get f = v % 2 ^ f.width := by
  obtain ⟨before, after, rfl⟩ := List.append_of_mem h
  exact s.get_setAll_of_mem before after (List.pairwise_cons.mp (List.pairwise_append.mp hl).2.1).1

/-- The record of the entry (R324, R336), and the end of a power-state entry (R406). -/
def safeFields (cause c src : Nat) : List (Fld × Nat) :=
  [(F.fltSafeState, 1), (F.fltSafeCause, cause), (F.fltLastfatalLevel, colLevel c), (F.fltLastfatalInstance, colInstance c),
   (F.fltLastfatalSrc, src), (F.fltLastfatalCause, cause), (F.fltLastfatalValid, 1), (F.rstPstateBusy, 0)]

/-- The fields that the entry writes, whatever its cause and source. -/
def safeFlds : List Fld :=
  [F.fltSafeState, F.fltSafeCause, F.fltLastfatalLevel, F.fltLastfatalInstance, F.fltLastfatalSrc, F.fltLastfatalCause,
   F.fltLastfatalValid, F.rstPstateBusy]

theorem safeFields_flds (cause c src : Nat) : (safeFields cause c src).map Prod.fst = safeFlds := rfl

theorem safeFields_distinct (cause c src : Nat) : (safeFields cause c src).Pairwise fun a b => b.1.key ≠ a.1.key := by
  have hflds : safeFlds.Pairwise fun f g => g.key ≠ f.key := by decide
  rw [← safeFields_flds cause c src] at hflds
  exact List.pairwise_map.mp hflds

/-- The fields of the record stand below those of attention. -/
theorem safeFields_below {cause c src : Nat} {e : Fld × Nat} (h : e ∈ safeFields cause c src) : e.1.key < (F.fltAttnPend 0).key := by
  have hflds : ∀ f ∈ safeFlds, f.key < (F.fltAttnPend 0).key := by decide
  exact hflds e.1 (List.mem_map_of_mem h)

/-- SAFE goes to the audiences below a number. -/
def State.safeRaised (s : State) (n : Nat) : State := (List.range n).foldl (fun u a => u.raiseOne atSafe a) s

theorem State.safeRaised_succ (s : State) (n : Nat) : s.safeRaised (n + 1) = (s.safeRaised n).raiseOne atSafe n := by
  rw [State.safeRaised, List.range_succ, List.foldl_append]
  rfl

theorem State.safeRaised_units (s : State) (n : Nat) : (s.safeRaised n).units = s.units :=
  foldl_keeps State.units (fun u a => u.raiseOne_units atSafe a) _ s

/-- SAFE is pending for every audience it was raised to. -/
theorem State.safeRaised_pending (s : State) {a n : Nat} (h : a < n) : ((s.safeRaised n).get (F.fltAttnPend a)).testBit atSafe = true := by
  induction n with
  | zero => omega
  | succ n ih =>
    rw [State.safeRaised_succ]
    rcases Nat.lt_succ_iff_lt_or_eq.mp h with hlt | rfl
    · rw [State.get_raiseOne_of_ne]
      · exact ih hlt
      all_goals simp only [Fld.key, F.fltAttnPend, F.fltAttnSeq]; omega
    · exact State.raiseOne_pending _ a (by decide)

theorem State.safeRaised_get (s : State) (n : Nat) {f : Fld} (h : f.key < (F.fltAttnPend 0).key) : (s.safeRaised n).get f = s.get f := by
  refine foldl_keeps (fun u => u.get f) (fun u a => u.get_raiseOne_of_ne atSafe ?_ ?_) _ s
  all_goals
    simp only [Fld.key, F.fltAttnPend, F.fltAttnSeq] at h ⊢
    omega

/-- The state once the entry is recorded and SAFE is raised. -/
def State.safeNoted (s : State) (cause c src : Nat) : State := (s.setAll (safeFields cause c src)).safeRaised 66

theorem State.safeNoted_units (s : State) (cause c src : Nat) : (s.safeNoted cause c src).units = s.units :=
  (State.safeRaised_units ..).trans (s.setAll_units _)

theorem State.safeNoted_get (s : State) (cause c src : Nat) : ∀ e ∈ safeFields cause c src,
    (s.safeNoted cause c src).get e.1 = e.2 % 2 ^ e.1.width := fun _ h =>
  (State.safeRaised_get _ 66 (safeFields_below h)).trans (s.get_setAll_of_distinct (safeFields_distinct ..) h)

theorem colInstance_lt (c : Nat) : colInstance c < 1024 := by
  unfold colInstance
  split_ifs <;> omega

/-- SAFE.STATE and the record of the last fatal event, for a cause and an input that their fields hold. -/
theorem State.safeNoted_record (s : State) {cause src : Nat} (c : Nat) (hcause : cause < 8) (hsrc : src < 32) :
    (s.safeNoted cause c src).get F.fltSafeState = 1 ∧ (s.safeNoted cause c src).get F.fltSafeCause = cause ∧
      (s.safeNoted cause c src).get F.fltLastfatalCause = cause ∧ (s.safeNoted cause c src).get F.fltLastfatalSrc = src ∧
      (s.safeNoted cause c src).get F.fltLastfatalInstance = colInstance c ∧
      (s.safeNoted cause c src).flag F.fltLastfatalValid = true := by
  have hreads := s.safeNoted_get cause c src
  simp only [safeFields, List.forall_mem_cons] at hreads
  obtain ⟨hstate, hcauseIs, -, hinst, hsrcIs, hlast, hvalid, -⟩ := hreads
  have hfits : cause < 2 ^ 4 := hcause.trans (by decide)
  exact ⟨hstate, hcauseIs.trans (Nat.mod_eq_of_lt hfits), hlast.trans (Nat.mod_eq_of_lt hfits), hsrcIs.trans (Nat.mod_eq_of_lt hsrc),
    hinst.trans (Nat.mod_eq_of_lt (colInstance_lt c)), congrArg (· == 1) hvalid⟩

theorem State.safeNoted_pending (s : State) (cause c src : Nat) (a : Fin 66) :
    ((s.safeNoted cause c src).get (F.fltAttnPend a)).testBit atSafe = true := State.safeRaised_pending _ a.isLt

/-! Parked commands, leave and scrubs end (R224, R344, R380). -/

/-- A parked command completes SAFE (R224). -/
def State.parkedSafe (s : State) (p : Parked) : State :=
  (s.modLod fun u => { u with parked := u.parked.filter (· != p) }).setLrec p.cmd.key
    { s.lrec p.cmd.key with state := 2, status := stSafe, detail := 0, elapsed := min ((s.now - p.since) / 1000000) (2 ^ 32 - 1) }

/-- Completing parked commands changes Lodestar's unit alone, and they are parked no more. -/
theorem State.foldl_parkedSafe_eq (l : List Parked) (s : State) : ∃ d : LodUnit, l.foldl State.parkedSafe s = { s with lod := d } ∧
    d.parked = s.lod.parked.filter (· ∉ l) := by
  induction l generalizing s with
  | nil => exact ⟨s.lod, rfl, by simp⟩
  | cons p r ih =>
    obtain ⟨d, heq, hparked⟩ := ih (s.parkedSafe p)
    refine ⟨d, heq, hparked.trans ?_⟩
    change (s.lod.parked.filter (· != p)).filter (· ∉ r) = _
    rw [List.filter_filter]
    exact List.filter_congr fun q _ => Bool.eq_iff_iff.mpr (by simp [and_comm])

theorem State.safeLodestar_eq (s : State) : ∃ d : LodUnit, s.safeLodestar = { s with lod := d } ∧ d.parked = [] := by
  obtain ⟨d, heq, hparked⟩ := State.foldl_parkedSafe_eq s.lod.parked s
  exact ⟨d, heq, hparked.trans (by simp)⟩

theorem State.endJobs_of_no_jobs {s : State} (h : s.cpy.jobs = []) (f : CopyJob → Bool) (status detail : Nat) :
    s.endJobs f status detail = s := by
  simp [State.endJobs, h]

theorem State.endDataLeave_of_no_queue {s : State} (h : s.lvc.queue = []) (reason : Nat) :
    ∃ d : LeaveUnit, s.endDataLeave reason = { s with lvc := d } := by
  simp [State.endDataLeave, h]

theorem State.abortScrubs_of_none {s : State} (h : s.ecc.scrubs = []) : ∃ d : EccUnit, s.abortScrubs = { s with ecc := d } := by
  simp [State.abortScrubs, h]

/-- With no copy job, no request for leave and no scrub, what the entry stops are the parked commands, which Lodestar's unit holds. -/
theorem State.safeStops_eq {s : State} (hjobs : s.cpy.jobs = []) (hqueue : s.lvc.queue = []) (hscrubs : s.ecc.scrubs = []) :
    ∃ (d : LodUnit) (l : LeaveUnit) (e : EccUnit), (s.safeParked.endDataLeave reasonSafe).abortScrubs = { s with lod := d, lvc := l, ecc := e } ∧
      d.parked = [] := by
  obtain ⟨d, hlod, hparked⟩ := s.safeLodestar_eq
  have hcopies : s.safeParked = { s with lod := d } := by
    rw [State.safeParked, hlod]
    exact State.endJobs_of_no_jobs (s := { s with lod := d }) hjobs _ _ _
  obtain ⟨l, hleave⟩ := State.endDataLeave_of_no_queue (s := { s with lod := d }) hqueue reasonSafe
  obtain ⟨e, hscrub⟩ := State.abortScrubs_of_none (s := { s with lod := d, lvc := l }) hscrubs
  exact ⟨d, l, e, by rw [hcopies, hleave, hscrub], hparked⟩

/-! The entry as a whole. -/

/-- In-band and mailbox sessions end, the entry's time is noted, and a power-state entry stops (R323, R406, R444). -/
def State.safeClosed (s : State) (now : Nat) : State :=
  { s.endSessions (fun _ r => r.path.inBand) with
    flt := { s.flt with safeAt := now }, pwr := { s.pwr with entry := if s.pwr.entry = 1 then 1 else 0 } }

/-- No session that is left is in-band. -/
theorem State.safeClosed_sessions (s : State) (now : Nat) : ∀ e ∈ (s.safeClosed now).sessions, e.2.path.inBand = false := by
  simp [State.safeClosed, State.endSessions]

theorem State.enterSafe_of_safe {s : State} (h : s.safeOn = true) (cause c src : Nat) : s.enterSafe cause c src = s.bump F.fltSafeLater 1 :=
  if_pos h

theorem State.enterSafe_of_outside {s : State} (h : s.safeOn = false) (cause c src : Nat) : s.enterSafe cause c src =
    (((s.safeNoted cause c src).safeParked.endDataLeave reasonSafe).abortScrubs).safeClosed s.now := by
  rw [State.enterSafe, if_neg (by simp [h])]
  extract_lets s1 s2 s3
  have hnoted : s2 = s.safeNoted cause c src := rfl
  have hstops : s3 = (s2.safeParked.endDataLeave reasonSafe).abortScrubs := rfl
  rw [← hnoted, ← hstops]
  clear_value s3
  rfl

/-- With nothing but parked commands to stop, the rest of an entry leaves the registers and what is not the safe state's. -/
theorem State.safeStops_shows {s : State} (hjobs : s.cpy.jobs = []) (hqueue : s.lvc.queue = []) (hscrubs : s.ecc.scrubs = []) (now : Nat) :
    ∃ u : State, ((s.safeParked.endDataLeave reasonSafe).abortScrubs).safeClosed now = u ∧ u.regs = s.regs ∧ u.flt.safeAt = now ∧
      u.lod.parked = [] ∧ u.core = s.core ∧ u.chart = s.chart ∧ u.nv = s.nv ∧ u.sent = s.sent ∧
      ∀ e ∈ u.sessions, e.2.path.inBand = false := by
  obtain ⟨d, l, e, hstops, hparked⟩ := State.safeStops_eq hjobs hqueue hscrubs
  rw [hstops]
  exact ⟨_, rfl, rfl, rfl, hparked, rfl, rfl, rfl, rfl, State.safeClosed_sessions _ _⟩

/-- Settles O34: an entry is its record and SAFE raised, `State.safeNoted`, and then changes of other units that leave the registers and what
the statement keeps; the commands are read from their equations. -/
theorem safeStateEntryAndRecord : Obligations.SafeStateEntryAndRecord := by
  unfold Obligations.SafeStateEntryAndRecord
  refine ⟨fun s src who hserves hhelm => ?served, fun s src who hserves hother => ?refused, fun s c => rfl,
    fun s cause c src hsafe => State.enterSafe_of_safe hsafe .., fun s cause src c hsafe hcause hsrc hjobs hqueue _ hscrubs => ?entry⟩
  case served =>
    exact congrArg Host.Outcome.next (State.regCommand_acts hserves hhelm (act := fun _ s => (safeCommand s, stOk)) rfl)
  case refused => exact congrArg Host.Outcome.next (State.command_refused hserves hother _)
  case entry =>
    have hunits := s.safeNoted_units cause (colNum c) src
    obtain ⟨hstate, hcauseIs, hlast, hsrcIs, hinst, hvalid⟩ := s.safeNoted_record (colNum c) hcause hsrc
    obtain ⟨u, hstops, hregs, hat, hparked, hcore, hchart, hnv, hsent, hsessions⟩ := State.safeStops_shows
      ((congrArg CopyUnit.jobs (State.cpy_of_units hunits)).trans hjobs)
      ((congrArg LeaveUnit.queue (State.lvc_of_units hunits)).trans hqueue)
      ((congrArg EccUnit.scrubs (State.ecc_of_units hunits)).trans hscrubs) s.now
    have hget := State.get_of_regs hregs
    refine ⟨u, (State.enterSafe_of_outside hsafe ..).trans hstops, (hget _).trans hstate, (hget _).trans hcauseIs, (hget _).trans hlast,
      (hget _).trans hsrcIs, (hget _).trans hinst, (congrArg (· == 1) (hget _)).trans hvalid, hat, fun a => ?_, hparked,
      hcore.trans (State.core_of_units hunits), hchart.trans (State.chart_of_units hunits), hnv.trans (State.nv_of_units hunits),
      hsent.trans (State.sent_of_units hunits), hsessions⟩
    rw [hget]
    exact s.safeNoted_pending cause (colNum c) src a

end Sys2Proof.Machine

/-! The drain of the safe state and the way out (R323, R325). -/
namespace Sys2Proof.Machine

theorem State.clearOverq_units (s : State) (g : Nat) : (s.clearOverq g).units = s.units := by
  unfold State.clearOverq
  refine (foldl_keeps State.units (fun u k => ?_) _ _).trans (foldl_keeps State.units (fun u i => ?_) _ s) <;>
    split <;> exact rfl

/-- An emptied switch core holds no message and no record. -/
theorem State.emptyCore_core (s : State) : s.emptyCore.core.staged = [] ∧ s.emptyCore.core.bolt = [] ∧ s.emptyCore.core.records = [] := by
  unfold State.emptyCore
  rw [State.core_of_units (foldl_keeps State.units State.clearOverq_units _ _)]
  exact ⟨rfl, rfl, rfl⟩

/-- The homes hold nothing more, and the flags of their quotas clear (R115, R323). -/
def State.homesEmptied (s : State) : State :=
  (s.modHome fun u => { u with
    txns := [], snoops := [], shadows := [], forwarded := [], conflicts := [], engine := [], engineWait := [] }).clearHomeOver

theorem State.homesEmptied_core (s : State) : s.homesEmptied.core = s.core := rfl

theorem State.homesEmptied_home (s : State) :
    s.homesEmptied.home.txns = [] ∧ s.homesEmptied.home.snoops = [] ∧ s.homesEmptied.home.shadows = [] := ⟨rfl, rfl, rfl⟩

/-- Links are disabled, but for the retired ones, which stay so. -/
def State.safeUnlinked (s : State) (l : List Nat) : State :=
  l.foldl (fun u p => (u.dropLink p).setAll
    [(F.fnlLinkstatState p, if u.get (F.fnlLinkstatState p) = 4 then 4 else 0), (F.fnlLinkstatGraceOn p, 0)]) s

theorem State.safeUnlinked_rest (s : State) (l : List Nat) : (s.safeUnlinked l).rest = s.rest :=
  foldl_keeps State.rest (fun u p => ((u.dropLink p).setAll_rest _).trans (u.dropLink_rest p)) l s

/-- The drain is over. -/
def State.safeDrained (s : State) : State :=
  (s.set F.fltSafeState 2).modLnk fun u => { u with disabled := true, graceAt := [], resetAt := [] }

theorem State.safeDrained_state (s : State) : s.safeDrained.get F.fltSafeState = 2 := s.get_set_same F.fltSafeState 2

/-- At its end the drain gives its answers, and then empties the module and disables its links. -/
theorem doSafeDrainEnd_of_due {s : State} {t : Nat} (hstate : s.get F.fltSafeState = 1) (hdue : s.flt.safeAt + usec 100 ≤ (s.at t).now) :
    ∃ (v : State) (l : List Nat), doSafeDrainEnd t s = (v.emptyCore.homesEmptied.safeUnlinked l).safeDrained := by
  have hends : (s.at t).get F.fltSafeState = 1 ∧ (s.at t).flt.safeAt + usec 100 ≤ (s.at t).now :=
    ⟨(s.at_get t _).trans hstate, by rwa [State.at_flt]⟩
  unfold doSafeDrainEnd
  extract_lets r answer s1 s2 s3 s4 s5
  rw [if_pos hends]
  have hemptied : s4 = (s3.endJobs (fun _ => true) stSafe 0).emptyCore.homesEmptied := rfl
  clear_value s4
  refine ⟨s3.endJobs (fun _ => true) stSafe 0, (List.range 1024).filter fun p => r.chart.isLead p && !r.chart.isOff p, ?_⟩
  rw [← hemptied, State.safeUnlinked, State.safeDrained]

theorem doSafeDrainEnd_of_early {s : State} {t : Nat} (h : (s.at t).now < s.flt.safeAt + usec 100) : doSafeDrainEnd t s = s.at t :=
  if_neg fun hdue => absurd hdue.2 (by rw [State.at_flt]; omega)

theorem exitSafe_of_outside {s : State} (h : s.get F.fltSafeState = 0) : exitSafe s = (s, stOk) := if_pos h

theorem exitSafe_of_draining {s : State} (h : s.get F.fltSafeState = 1) : exitSafe s = (s, stDenied) := by
  simp [exitSafe, h]

theorem exitSafe_of_persisting {s : State} (h : s.get F.fltSafeState = 2) (hcause : s.causePersists = true) : exitSafe s = (s, stDenied) := by
  simp [exitSafe, h, hcause]

theorem exitSafe_of_over {s : State} (h : s.get F.fltSafeState = 2) (hcause : s.causePersists = false) : exitSafe s = (s.safeReset, stOk) := by
  simp [exitSafe, h, hcause]

/-- A message of a session leaves the cause as it was. -/
theorem State.touch_causePersists (s : State) (src : Sess) : (s.touch src).causePersists = s.causePersists := rfl

/-- Settles O43: the drain's end empties the switch core and the homes, which the disabling of the links leaves; EXIT's answers are the
cases of `exitSafe`. -/
theorem safeStateExit : Obligations.SafeStateExit := by
  unfold Obligations.SafeStateExit
  refine ⟨fun s t hstate hdue => ?drained, fun s t hearly => congrArg Host.Outcome.next (doSafeDrainEnd_of_early hearly),
    fun s src who hserves hhelm => ⟨fun h => ?outside, fun h => ?draining, fun h hcause => ?persisting, fun h hcause => ?granted⟩⟩
  case drained =>
    obtain ⟨v, l, hrun⟩ := doSafeDrainEnd_of_due hstate hdue
    obtain ⟨hcore, hhome, -⟩ := State.of_rest (v.emptyCore.homesEmptied.safeUnlinked_rest l)
    have hempty := v.emptyCore_core
    have hhomes := v.emptyCore.homesEmptied_home
    rw [← State.homesEmptied_core, ← hcore] at hempty
    rw [← hhome] at hhomes
    obtain ⟨hstaged, hbolt, hrecords⟩ := hempty
    exact ⟨_, congrArg Host.Outcome.next hrun, State.safeDrained_state _, rfl, hstaged, hbolt, hrecords, hhomes⟩
  case outside =>
    exact congrArg Host.Outcome.next (State.regCommand_acts hserves hhelm (act := fun _ => exitSafe) (effect := fun u => u)
      (exitSafe_of_outside h))
  case draining =>
    exact congrArg Host.Outcome.next (State.regCommand_denied hserves hhelm (act := fun _ => exitSafe) (exitSafe_of_draining h))
  case persisting =>
    exact congrArg Host.Outcome.next (State.regCommand_denied hserves hhelm (act := fun _ => exitSafe)
      (exitSafe_of_persisting h ((s.touch_causePersists src).trans hcause)))
  case granted =>
    exact congrArg Host.Outcome.next (State.regCommand_acts hserves hhelm (act := fun _ => exitSafe) (effect := State.safeReset)
      (exitSafe_of_over h ((s.touch_causePersists src).trans hcause)))

end Sys2Proof.Machine

/-! The endpoint ID (R429): storing one also notes the bits it sets, which stand beside the registers (R8). -/
namespace Sys2Proof.Machine

/-- I3C is up, as from step 6 of the power-up sequence on. -/
def State.i3cUp : State := State.reset.store F.rstStatPhase 4

theorem State.i3cUp_path : State.i3cUp.pathUp .i3c = true := by decide +kernel

/-- The endpoint ID 1 is noted among the bits set in this cycle (R8). -/
theorem State.setEndpointId_notes : (doSetEndpointId .i3c 1 .i3cUp).fresh ≠ State.i3cUp.fresh := by decide +kernel

/-- Refutes O46: an ID stored is also noted as set in this CK_MGT cycle (R8), which the statement's frame keeps as it was; from
`State.i3cUp` the ID 1 is such. -/
theorem not_endpointCommandsComplete : ¬ Obligations.EndpointCommandsComplete := by
  unfold Obligations.EndpointCommandsComplete
  intro ⟨hcontrol, _⟩
  obtain ⟨u, hrun, -, -, -, hframe⟩ := (hcontrol .i3cUp .i3c State.i3cUp_path rfl).1 1 (by decide) (by decide)
  cases hrun
  have hfresh := congrArg State.fresh hframe
  exact State.setEndpointId_notes hfresh

end Sys2Proof.Machine

/-! The firmware starts (R396, R404), but not while a failed start-up check holds the module in reset (R319). -/
namespace Sys2Proof.Machine

/-- The root PLL has locked and the firmware is about to run (R404), but a temperature event of the start-up is latched when its input
enters service, so the module stays in reset (R319): four commands from reset. -/
def State.heldAtBoot : State :=
  doInputServiceEntry hubCol 16 (doErrorLineEvent hubCol [(16, 1)] (doRootPllLock 0 true (doReferenceTakeAtStart .a 0 .reset)))

theorem State.heldAtBoot_holdReset : State.heldAtBoot.flt.holdReset = true := by decide +kernel

theorem State.heldAtBoot_phase : State.heldAtBoot.get F.rstStatPhase = 2 := by decide +kernel

theorem doManagementBootDone_of_holdReset {s : State} (h : s.flt.holdReset = true) (took t : Nat) : doManagementBootDone took t s = s.at t := by
  unfold doManagementBootDone
  exact if_neg fun hstarts => by simp [h] at hstarts

/-- Refutes O42: its clause on the firmware's start does not except the module that a failed start-up check holds in reset, where the
phase stays as it is. -/
theorem not_startUpAndAlmanacComplete : ¬ Obligations.StartUpAndAlmanacComplete := by
  unfold Obligations.StartUpAndAlmanacComplete
  intro ⟨hboot, _⟩
  have hrun := hboot .heldAtBoot 0 0 State.heldAtBoot_phase (by decide +kernel) (by decide +kernel)
  have hheld : exec (.managementBootDone 0 0) .heldAtBoot = .next (State.heldAtBoot.at 0) :=
    congrArg Host.Outcome.next (doManagementBootDone_of_holdReset State.heldAtBoot_holdReset 0 0)
  have hstate := Host.Outcome.next.inj (hheld.symm.trans hrun)
  exact absurd (congrArg (State.get · F.rstStatPhase) hstate) (by decide +kernel)

end Sys2Proof.Machine

/-! Commands that read and write words (R405, R442): which word fails first, and what each command then answers. -/
namespace Sys2Proof.Machine

theorem zipIdx_failing_head (l : List (Option Bool)) (n : Nat) {i : Nat} {b : Bool} (hi : l[i]? = some (some b))
    (hbefore : ∀ j < i, l[j]? = some none) :
    ((l.zipIdx n).filterMap fun e => e.1.map fun b => (e.2, b)).head? = some (n + i, b) := by
  induction l generalizing i n with
  | nil => simp at hi
  | cons x r ih =>
    cases i with
    | zero =>
      obtain rfl : x = some b := by simpa using hi
      simp
    | succ i =>
      obtain rfl : x = none := by simpa using hbefore 0 (Nat.zero_lt_succ i)
      have hrest := ih (n + 1) (i := i) (by simpa using hi) fun j hj => by simpa using hbefore (j + 1) (Nat.succ_lt_succ hj)
      simpa [Nat.add_assoc, Nat.add_comm 1 i] using hrest

theorem firstFailing_of_some {l : List (Option Bool)} {i : Nat} {b : Bool} (hi : l[i]? = some (some b))
    (hbefore : ∀ j < i, l[j]? = some none) : firstFailing l = some (i, b) :=
  (zipIdx_failing_head l 0 hi hbefore).trans (by rw [Nat.zero_add])

theorem firstFailing_eq_none_iff {l : List (Option Bool)} : firstFailing l = none ↔ ∀ x ∈ l, x = none := by
  rw [firstFailing, List.head?_eq_none_iff, List.filterMap_eq_nil_iff]
  refine ⟨fun h x hx => ?_, fun h e he => ?_⟩
  · obtain ⟨i, hi⟩ := List.mem_iff_getElem?.mp hx
    exact Option.map_eq_none_iff.mp (h (x, i) (List.mem_zipIdx_iff_getElem?.mpr hi))
  · rw [h e.1 (List.fst_mem_of_mem_zipIdx he), Option.map_none]

theorem firstFailing_of_mem {l : List (Option Bool)} {b : Bool} (h : some b ∈ l) : ∃ e, firstFailing l = some e :=
  Option.ne_none_iff_exists'.mp fun hnone => nomatch firstFailing_eq_none_iff.mp hnone _ h

theorem getElem?_wordAddrs {off count i : Nat} (h : i < count) : (wordAddrs off count)[i]? = some (off + 4 * i) := by
  simp [wordAddrs, h]

theorem wordAddrs_one (off : Nat) : wordAddrs off 1 = [off] := rfl

section
variable {s : State} {src : Sess} {p : Principal} {off count : Nat}

/-- A command of READY's four blocks is served before READY too (R405). -/
theorem State.commandWhen_early (hp : s.principal src = some p) (hfg : s.fgBusy (sessNum src) = false) {rights : Principal → Bool}
    (hr : rights p = true) (act : Principal → State → State) : s.commandWhen src true rights act = act p (s.touch src) := by
  simp [State.commandWhen, hp, hfg, hr]

/-- What REG_READ does once it is served. -/
def State.readRange (s : State) (src : Sess) (p : Principal) (off count : Nat) : State :=
  if off % 4 ≠ 0 ∨ count = 0 ∨ 1024 < count then s.respond src .invalidInput stDenied 0 []
  else match firstFailing ((wordAddrs off count).map fun a => s.wordFails p a none) with
    | some e => s.refuseWords src e
    | none => (s.readWords p (wordAddrs off count)).2.respond src .success stOk 0 (s.readWords p (wordAddrs off count)).1

theorem State.regRead_served (hserves : s.serves src p) (hclaimed : p.claimed = true) (off count : Nat) :
    s.regRead src off count = (s.touch src).readRange src p off count := State.commandWhen_served hserves _ hclaimed _

theorem State.readRange_of_bad_range (h : off % 4 ≠ 0 ∨ count = 0 ∨ 1024 < count) :
    s.readRange src p off count = s.respond src .invalidInput stDenied 0 [] := if_pos h

theorem State.readRange_of_failing (halign : off % 4 = 0) (hlow : 1 ≤ count) (hhigh : count ≤ 1024) {e : Nat × Bool}
    (h : firstFailing ((wordAddrs off count).map fun a => s.wordFails p a none) = some e) :
    s.readRange src p off count = s.refuseWords src e := by
  rw [State.readRange, if_neg (by omega), h]

theorem State.readRange_of_sound (halign : off % 4 = 0) (hlow : 1 ≤ count) (hhigh : count ≤ 1024)
    (h : ∀ i < count, s.wordFails p (off + 4 * i) none = none) : s.readRange src p off count =
      (s.readWords p (wordAddrs off count)).2.respond src .success stOk 0 (s.readWords p (wordAddrs off count)).1 := by
  have hnone : firstFailing ((wordAddrs off count).map fun a => s.wordFails p a none) = none :=
    firstFailing_eq_none_iff.mpr (by simpa [wordAddrs] using h)
  rw [State.readRange, if_neg (by omega), hnone]

theorem State.firstFailing_reads {i : Nat} {b : Bool} (hi : i < count) (hbefore : ∀ j < i, s.wordFails p (off + 4 * j) none = none)
    (hfails : s.wordFails p (off + 4 * i) none = some b) :
    firstFailing ((wordAddrs off count).map fun a => s.wordFails p a none) = some (i, b) :=
  firstFailing_of_some (by rw [List.getElem?_map, getElem?_wordAddrs hi, Option.map_some, hfails]) fun j hj => by
    rw [List.getElem?_map, getElem?_wordAddrs (hj.trans hi), Option.map_some, hbefore j hj]

/-- What REG_WRITE does once it is served. -/
def State.writeRange (s : State) (src : Sess) (p : Principal) (off : Nat) (words : List Nat) : State :=
  if off % 4 ≠ 0 ∨ words.length = 0 ∨ 1024 < words.length then s.respond src .invalidInput stDenied 0 []
  else match firstFailing (s.writeChecks p ((wordAddrs off words.length).zip words)) with
    | some e => s.refuseWords src e
    | none => match (State.writeWords src p ((wordAddrs off words.length).zip words) 0 s).2 with
      | none => (State.writeWords src p ((wordAddrs off words.length).zip words) 0 s).1.respond src .success stOk 0 []
      | some (i, st) => (State.writeWords src p ((wordAddrs off words.length).zip words) 0 s).1.respond src (cciOf st) st (min 255 i) []

theorem State.regWrite_served (hserves : s.serves src p) (hclaimed : p.claimed = true) (off : Nat) (words : List Nat) :
    s.regWrite src off words = (s.touch src).writeRange src p off words := State.command_served hserves hclaimed _

variable {words : List Nat}

theorem State.writeRange_of_bad_range (h : off % 4 ≠ 0 ∨ words.length = 0 ∨ 1024 < words.length) :
    s.writeRange src p off words = s.respond src .invalidInput stDenied 0 [] := if_pos h

section
variable (halign : off % 4 = 0) (hlow : 1 ≤ words.length) (hhigh : words.length ≤ 1024)
include halign hlow hhigh

theorem State.writeRange_of_failing {e : Nat × Bool} (h : firstFailing (s.writeChecks p ((wordAddrs off words.length).zip words)) = some e) :
    s.writeRange src p off words = s.refuseWords src e := by
  rw [State.writeRange, if_neg (by omega), h]

theorem State.writeRange_of_done (hsound : ∀ x ∈ s.writeChecks p ((wordAddrs off words.length).zip words), x = none) {u : State}
    (h : State.writeWords src p ((wordAddrs off words.length).zip words) 0 s = (u, none)) :
    s.writeRange src p off words = u.respond src .success stOk 0 [] := by
  rw [State.writeRange, if_neg (by omega), firstFailing_eq_none_iff.mpr hsound]
  simp only [h]

theorem State.writeRange_of_stopped (hsound : ∀ x ∈ s.writeChecks p ((wordAddrs off words.length).zip words), x = none) {u : State} {i st : Nat}
    (h : State.writeWords src p ((wordAddrs off words.length).zip words) 0 s = (u, some (i, st))) :
    s.writeRange src p off words = u.respond src (cciOf st) st (min 255 i) [] := by
  rw [State.writeRange, if_neg (by omega), firstFailing_eq_none_iff.mpr hsound]
  simp only [h]

end

theorem State.getElem?_writeChecks (words : List Nat) {i : Nat} (hi : i < words.length) :
    (s.writeChecks p ((wordAddrs off words.length).zip words))[i]? =
      some (s.wordFails p (off + 4 * i) (some (s.stagedKind ((wordAddrs off words.length).zip words) i, words[i]))) := by
  have hword : ((wordAddrs off words.length).zip words)[i]? = some (off + 4 * i, words[i]) := by
    rw [List.getElem?_zip_eq_some]
    exact ⟨getElem?_wordAddrs hi, List.getElem?_eq_getElem hi⟩
  rw [State.writeChecks, List.getElem?_map, List.getElem?_zipIdx, hword]
  simp

/-- A word that is unmapped or cannot be reached fails whatever the command (R391, R448). -/
theorem State.wordFails_of_unreachable {a : Nat} (h : mapped a = false ∨ s.reach a = false) (p : Principal) (write : Option (Nat × Nat)) :
    s.wordFails p a write = some false := by
  rcases h with h | h <;> simp [State.wordFails, h]

end

end Sys2Proof.Machine

/-! REG_READ and REG_WRITE (R405, R440, R442). -/
namespace Sys2Proof.Machine

theorem State.readWords_one (s : State) (p : Principal) (a : Nat) : s.readWords p [a] = ([(s.readWord p a).1], (s.readWord p a).2) := rfl

/-- Only the log and the retained area have a pointer that a read moves (R58, R397). -/
theorem State.readWord_state {s : State} {p : Principal} {a : Nat} (hlog : a ≠ 0x4000084) (hretain : a ≠ 0x11204) :
    (s.readWord p a).2 = s := by
  rw [State.readWord, if_neg hlog, if_neg hretain]
  split <;> rfl

theorem mapped_of_wordFails_none {s : State} {p : Principal} {a : Nat} {write : Option (Nat × Nat)} (h : s.wordFails p a write = none) :
    mapped a = true := by
  by_contra hmapped
  rw [State.wordFails_of_unreachable (.inl (Bool.eq_false_of_not_eq_true hmapped))] at h
  cases h

theorem aligned_of_mapped {a : Nat} (h : mapped a = true) : a % 4 = 0 := by
  rw [mapped, Bool.and_eq_true, beq_iff_eq] at h
  exact h.1

/-- Before READY a status word is read all the same (R405). -/
theorem State.regRead_status {s : State} {src : Sess} {p : Principal} {off : Nat} (hp : s.principal src = some p)
    (hfg : s.fgBusy (sessNum src) = false) (hclaimed : p.claimed = true) (hstatus : statusWord off = true)
    (hsound : (s.touch src).wordFails p off none = none) (hretain : off ≠ 0x11204) :
    s.regRead src off 1 = (s.touch src).respond src .success stOk 0 [((s.touch src).readWord p off).1] := by
  have hall : (wordAddrs off 1).all statusWord = true := by rw [wordAddrs_one, List.all_cons, hstatus]; rfl
  have hserved : s.regRead src off 1 = (s.touch src).readRange src p off 1 := by
    rw [State.regRead, hall]
    exact State.commandWhen_early hp hfg hclaimed _
  have hlog : off ≠ 0x4000084 := by rintro rfl; exact absurd hstatus (by decide)
  rw [hserved, State.readRange_of_sound (aligned_of_mapped (mapped_of_wordFails_none hsound)) (le_refl 1) (by decide)
      (fun i hi => by rwa [Nat.lt_one_iff.mp hi]), wordAddrs_one, State.readWords_one, State.readWord_state hlog hretain]

theorem State.regRead_busy {s : State} {src : Sess} {p : Principal} {off : Nat} (hp : s.principal src = some p) (hready : s.ready = false)
    (hstatus : statusWord off = false) : s.regRead src off 1 = (s.touch src).respond src .busy stRetry 0 [] := by
  have hall : (wordAddrs off 1).all statusWord = false := by rw [wordAddrs_one, List.all_cons, hstatus]; rfl
  rw [State.regRead, hall]
  exact State.command_busy hp (.inl hready) _ _

/-- Settles O53: each clause is the command's branch for its range, for its first failing word, or for words that all pass. -/
theorem registerCommandsComplete : Obligations.RegisterCommandsComplete := by
  unfold Obligations.RegisterCommandsComplete
  refine ⟨fun s r src p off count hserves hclaimed hr => ?reads, fun s r src p off ws l hserves hclaimed hr hl => ?writes,
    fun _ _ _ _ => rfl, fun s r src p off hp hfg hready hclaimed hr => ⟨fun hstatus hsound hretain => ?status, fun hstatus => ?busy⟩⟩
  case reads =>
    subst hr
    have hrun {u : State} (h : (s.touch src).readRange src p off count = u) : exec (.regRead src off count) s = .next u :=
      congrArg Host.Outcome.next ((State.regRead_served hserves hclaimed ..).trans h)
    refine ⟨fun hbad => hrun (State.readRange_of_bad_range hbad), fun halign hlow hhigh =>
      ⟨fun hsound => hrun (State.readRange_of_sound halign hlow hhigh hsound), fun i b hi hbefore hfails => ?_⟩⟩
    exact hrun (State.readRange_of_failing halign hlow hhigh (State.firstFailing_reads hi hbefore hfails))
  case writes =>
    subst hr
    have hlength : (ws.map (·.val)).length = ws.length := List.length_map ..
    rw [← hlength] at hl
    subst hl
    have hrun {u : State} (h : (s.touch src).writeRange src p off (ws.map (·.val)) = u) : exec (.regWrite src off ws) s = .next u :=
      congrArg Host.Outcome.next ((State.regWrite_served hserves hclaimed ..).trans h)
    refine ⟨fun hbad => hrun (State.writeRange_of_bad_range (by simpa using hbad)), fun halign hsome hfew => ?_⟩
    have hlow : 1 ≤ (ws.map (·.val)).length := by rw [hlength]; exact List.length_pos_of_ne_nil hsome
    have hhigh : (ws.map (·.val)).length ≤ 1024 := by rwa [hlength]
    refine ⟨fun hsound u e hwords => ⟨fun he => ?_, fun i st he => ?_⟩, fun i b hi hbefore => ?_⟩
    · exact hrun (State.writeRange_of_done halign hlow hhigh hsound (he ▸ hwords))
    · exact hrun (State.writeRange_of_stopped halign hlow hhigh hsound (he ▸ hwords))
    · exact hrun (State.writeRange_of_failing halign hlow hhigh (firstFailing_of_some hi hbefore))
  case status =>
    subst hr
    exact congrArg Host.Outcome.next (State.regRead_status hp hfg hclaimed hstatus hsound hretain)
  case busy =>
    subst hr
    exact congrArg Host.Outcome.next (State.regRead_busy hp hready hstatus)

end Sys2Proof.Machine

/-! Where no word stands, and which instances cannot be reached (R391, R447, R448). -/
namespace Sys2Proof.Machine

theorem findBlock_eq_none {bs : List Block} {a : Nat} (h : ∀ b ∈ bs, b.base + b.stride * (b.count - 1) + b.extent ≤ a) : findBlock bs a = none := by
  induction bs with
  | nil => rfl
  | cons b r ih =>
    have hb := h b (List.mem_cons_self ..)
    rw [findBlock, if_neg (by omega)]
    exact ih fun c hc => h c (List.mem_cons_of_mem _ hc)

/-- Every block ends below the reserved range (R447). -/
theorem blocks_end_low : ∀ b ∈ blocks, b.base + b.stride * (b.count - 1) + b.extent ≤ 0x8000000 := by decide

theorem mapped_of_reserved {a : Nat} (h : 0x8000000 ≤ a) : mapped a = false := by
  have hword : wordAt a = none := by
    rw [wordAt, findBlock_eq_none fun b hb => (blocks_end_low b hb).trans h]
    exact ite_self _
  have hbuffer : bufferAt a = false := by
    simp only [bufferAt, Bool.or_eq_false_iff, beq_eq_false_iff_ne, decide_eq_false_iff_not]
    omega
  rw [mapped, hword, hbuffer]
  exact Bool.and_false _

theorem mapped_of_no_register {a : Nat} (hword : wordAt a = none) (hbuffer : bufferAt a = false) : mapped a = false := by
  rw [mapped, hword, hbuffer]
  exact Bool.and_false _

theorem inReach_iff {ranges : List (Nat × Nat)} {i a : Nat} :
    inReach ranges i a = true ↔ ∃ e ∈ ranges, e.1 + e.2 * i ≤ a ∧ a < e.1 + e.2 * (i + 1) := by
  simp [inReach]

/-- Ranges that follow each other, n instances in each, share no address between two instances. -/
theorem inReach_unique {ranges : List (Nat × Nat)} {n : Nat} (hranges : ranges.Pairwise fun e f => e.1 + e.2 * n ≤ f.1) {i j a : Nat}
    (hi : i < n) (hj : j < n) (hin : inReach ranges i a = true) (hjn : inReach ranges j a = true) : i = j := by
  obtain ⟨e, he, hlow, hhigh⟩ := inReach_iff.mp hin
  obtain ⟨f, hf, hlow', hhigh'⟩ := inReach_iff.mp hjn
  have hapart {e f : Nat × Nat} {i : Nat} (hi : i < n) (hhigh : a < e.1 + e.2 * (i + 1)) (hlow : f.1 ≤ a) : ¬e.1 + e.2 * n ≤ f.1 := by
    have : e.2 * (i + 1) ≤ e.2 * n := Nat.mul_le_mul_left _ hi
    omega
  obtain ⟨x, hx, rfl⟩ := List.getElem_of_mem he
  obtain ⟨y, hy, rfl⟩ := List.getElem_of_mem hf
  rcases lt_trichotomy x y with hxy | rfl | hxy
  · exact absurd (List.pairwise_iff_getElem.mp hranges x y hx hy hxy) (hapart hi hhigh (by omega))
  · rcases lt_trichotomy i j with hij | hij | hij
    · have : ranges[x].2 * (i + 1) ≤ ranges[x].2 * j := Nat.mul_le_mul_left _ hij
      omega
    · exact hij
    · have : ranges[x].2 * (j + 1) ≤ ranges[x].2 * i := Nat.mul_le_mul_left _ hij
      omega
  · exact absurd (List.pairwise_iff_getElem.mp hranges y x hy hx hxy) (hapart hj hhigh' (by omega))

theorem reachOf_of_inReach {ranges : List (Nat × Nat)} {n : Nat} (hranges : ranges.Pairwise fun e f => e.1 + e.2 * n ≤ f.1) {i a : Nat}
    (hi : i < n) (hin : inReach ranges i a = true) : reachOf ranges n a = some i := by
  rw [reachOf, List.find?_range_eq_some]
  refine ⟨hin, List.mem_range.mpr hi, fun j hj => ?_⟩
  rw [Bool.not_eq_true']
  exact Bool.eq_false_of_not_eq_true fun hjn => hj.ne (inReach_unique hranges (hj.trans hi) hi hjn hin)

theorem regionRanges_apart : regionRanges.Pairwise fun e f => e.1 + e.2 * 8 ≤ f.1 := by decide
theorem blockRanges_apart : blockRanges.Pairwise fun e f => e.1 + e.2 * 128 ≤ f.1 := by decide

theorem State.reach_of_unpowered_region {s : State} {g a : Nat} (hg : g < 8) (hpower : (s.get F.hubTopoRegionPowered).testBit g = false)
    (hin : inReach regionRanges g a = true) : s.reach a = false := by
  rw [State.reach, reachOf_of_inReach regionRanges_apart hg hin]
  simp only [hpower, Bool.false_and]

theorem State.reach_of_off_block {s : State} {n a : Nat} (hn : n < 128) (hoff : ∀ i : Nat, i < 8 → s.chart.isOff (8 * n + i) = true)
    (hin : inReach blockRanges n a = true) : s.reach a = false := by
  have hany : ((List.range 8).any fun i => !s.chart.isOff (8 * n + i)) = false := by simpa using hoff
  rw [State.reach, reachOf_of_inReach blockRanges_apart hn hin]
  simp only [hany, Bool.and_false]

theorem reachOf_eq_none {ranges : List (Nat × Nat)} {n a : Nat} (h : ∀ e ∈ ranges, a < e.1 ∨ e.1 + e.2 * n ≤ a) : reachOf ranges n a = none := by
  rw [reachOf, List.find?_range_eq_none]
  intro i hi
  rw [Bool.not_eq_true']
  refine Bool.eq_false_of_not_eq_true fun hin => ?_
  obtain ⟨e, he, hlow, hhigh⟩ := inReach_iff.mp hin
  have : e.2 * (i + 1) ≤ e.2 * n := Nat.mul_le_mul_left _ hi
  rcases h e he with h | h <;> omega

/-- The module-wide blocks stand in no region and in no block of cells (R29, R387). -/
theorem State.reach_of_outside {a : Nat} (h : a < 0x200000 ∨ 0x2C48000 ≤ a) (s : State) : s.reach a = true := by
  have hregion : reachOf regionRanges 8 a = none := reachOf_eq_none (by simp only [regionRanges, List.forall_mem_cons]; simp; omega)
  have hblock : reachOf blockRanges 128 a = none := reachOf_eq_none (by simp only [blockRanges, List.forall_mem_cons]; simp; omega)
  rw [State.reach, hregion, hblock]
  rfl

/-- A refusal of a command's words names no word and has status DENIED (R442). -/
theorem State.refuseWords_denied (s : State) (src : Sess) (e : Nat × Bool) :
    ∃ (code : Cci) (d : Nat), s.refuseWords src e = s.respond src code stDenied d [] := ⟨_, _, rfl⟩

/-- Settles O55: an unmapped or unreachable word fails its check, so some word is the first that fails; what is unmapped and what cannot be
reached is a matter of the ranges. -/
theorem unreachableWordsAreRefused : Obligations.UnreachableWordsAreRefused := by
  unfold Obligations.UnreachableWordsAreRefused
  refine ⟨fun s src p off n hserves hclaimed halign ⟨i, hi, hword⟩ => ⟨fun count hcount hfew => ?someRead, fun ws hlength hfew => ?someWrite⟩,
    fun s src p off count i hserves hclaimed halign hi hfew hbefore hword => ?firstRead,
    fun s src p off ws i hserves hclaimed halign hi hfew hbefore hword => ?firstWrite,
    fun a => mapped_of_reserved, fun a => mapped_of_no_register, fun s g a => State.reach_of_unpowered_region,
    fun s n a => State.reach_of_off_block, fun s a h => s.reach_of_outside (by omega)⟩
  case someRead =>
    subst hcount
    have hmem : some false ∈ (wordAddrs off.val count.val).map fun a => (s.touch src).wordFails p a none :=
      List.mem_of_getElem? (i := i) (by
        rw [List.getElem?_map, getElem?_wordAddrs hi, Option.map_some, State.wordFails_of_unreachable (s := s.touch src) hword])
    obtain ⟨e, he⟩ := firstFailing_of_mem hmem
    obtain ⟨code, d, hrefused⟩ := (s.touch src).refuseWords_denied src e
    exact ⟨code, d, congrArg Host.Outcome.next ((State.regRead_served hserves hclaimed ..).trans
      ((State.readRange_of_failing halign (by omega) hfew he).trans hrefused))⟩
  case someWrite =>
    subst hlength
    have hlength : (ws.map (·.val)).length = ws.length := List.length_map ..
    have hi' : i < (ws.map (·.val)).length := by rwa [hlength]
    obtain ⟨e, he⟩ := firstFailing_of_mem (List.mem_of_getElem? (i := i)
      ((State.getElem?_writeChecks (s := s.touch src) _ hi').trans (congrArg some (State.wordFails_of_unreachable (s := s.touch src) hword p _))))
    obtain ⟨code, d, hrefused⟩ := (s.touch src).refuseWords_denied src e
    exact ⟨code, d, congrArg Host.Outcome.next ((State.regWrite_served hserves hclaimed ..).trans
      ((State.writeRange_of_failing halign (by omega) (by omega) he).trans hrefused))⟩
  case firstRead =>
    exact congrArg Host.Outcome.next ((State.regRead_served hserves hclaimed ..).trans (State.readRange_of_failing halign (by omega) hfew
      (State.firstFailing_reads (s := s.touch src) hi hbefore (State.wordFails_of_unreachable (s := s.touch src) hword p none))))
  case firstWrite =>
    have hlength : (ws.map (·.val)).length = ws.length := List.length_map ..
    have hi' : i < (ws.map (·.val)).length := by rwa [hlength]
    rw [← hlength] at hbefore
    exact congrArg Host.Outcome.next ((State.regWrite_served hserves hclaimed ..).trans (State.writeRange_of_failing halign (by omega) (by omega)
      (firstFailing_of_some ((State.getElem?_writeChecks (s := s.touch src) _ hi').trans (congrArg some (State.wordFails_of_unreachable (s := s.touch src) hword p _))) hbefore)))

end Sys2Proof.Machine

/-! The backup registers and their writers (R397). -/
namespace Sys2Proof.Machine

section
variable (i : Fin 32)

theorem wordAt_almBkp : wordAt (0x11100 + 4 * i.val) = some ⟨0, .almBkp, [⟨F.almBkp i.val, .rw, 0, none⟩]⟩ := by
  fin_cases i <;> rfl

theorem mapped_almBkp : mapped (0x11100 + 4 * i.val) = true := by
  have haligned : ((0x11100 + 4 * i.val) % 4 == 0) = true := beq_iff_eq.mpr (by omega)
  rw [mapped, wordAt_almBkp, haligned]
  exact Bool.or_true _

theorem State.reach_almBkp (s : State) : s.reach (0x11100 + 4 * i.val) = true := State.reach_of_outside (by omega) s

theorem State.leadWord_almBkp (s : State) : s.leadWord (0x11100 + 4 * i.val) = 0x11100 + 4 * i.val := by
  rw [State.leadWord, if_neg (by omega), if_neg (by omega)]

theorem State.derived_almBkp (s : State) : s.derived (0x11100 + 4 * i.val) = [] := by
  fin_cases i <;> rfl

theorem State.readField_almBkp (s : State) :
    s.readField (s.derived (0x11100 + 4 * i.val)) ⟨F.almBkp i.val, .rw, 0, none⟩ = s.get (F.almBkp i.val) % 2 ^ 32 := by
  rw [State.derived_almBkp]
  rfl

theorem State.word_almBkp (s : State) : s.word (0x11100 + 4 * i.val) = s.get (F.almBkp i.val) % 2 ^ 32 := by
  rw [State.word, State.leadWord_almBkp]
  rw [if_neg (by omega), if_neg (by omega), if_neg (by omega), wordAt_almBkp]
  have hlsb : (F.almBkp i.val).lsb = 0 := rfl
  simp only [List.map_cons, List.map_nil, State.readField_almBkp, hlsb, sumOf, List.foldl_cons, List.foldl_nil, Nat.zero_add, Nat.pow_zero,
    Nat.mul_one]

theorem State.readWord_almBkp (s : State) (p : Principal) :
    s.readWord p (0x11100 + 4 * i.val) = (s.get (F.almBkp i.val) % 2 ^ 32, s) := by
  rw [State.readWord, if_neg (by omega), if_neg (by omega)]
  simp only
  rw [if_neg (by omega), State.word_almBkp]

theorem bitsOf_word {v : Nat} (h : v < 2 ^ 32) : bitsOf v 0 32 = v := by
  rw [bitsOf, Nat.pow_zero, Nat.div_one, Nat.mod_eq_of_lt h]

theorem State.storeFields_almBkp (s : State) {v : Nat} (h : v < 2 ^ 32) : s.storeFields (0x11100 + 4 * i.val) v = s.set (F.almBkp i.val) v := by
  rw [State.storeFields, wordAt_almBkp]
  simp only [List.foldl_cons, List.foldl_nil, FieldDesc.stored, F.almBkp, bitsOf_word h, Nat.zero_max]

theorem State.writeWord_almBkp (s : State) (src : Sess) (p : Principal) {v : Nat} (h : v < 2 ^ 32) :
    s.writeWord src p (0x11100 + 4 * i.val) v = (s.set (F.almBkp i.val) v, stOk) := by
  have hplain : s.writeWord src p (0x11100 + 4 * i.val) v = (s.storeFields (0x11100 + 4 * i.val) v, stOk) := by fin_cases i <;> rfl
  rw [hplain, State.storeFields_almBkp i s h]

theorem State.touches_almBkp (s : State) {v : Nat} (h : v < 2 ^ 32) :
    s.touches (0x11100 + 4 * i.val) v ⟨F.almBkp i.val, .rw, 0, none⟩ = (s.get (F.almBkp i.val) % 2 ^ 32 != v) := by
  have hfield := State.readField_almBkp i s
  simp only [State.touches, hfield, FieldDesc.stored]
  simp only [F.almBkp, bitsOf_word h, Nat.zero_max]

theorem State.mayRead_of_isOwner (s : State) {p : Principal} {a : Nat} (howner : p.isOwner = true) (hretain : a ≠ 0x11204) :
    s.mayRead p a = true := by
  cases p with
  | helm => rfl
  | pilot n => exact bne_iff_ne.mpr hretain
  | berth k => cases howner
  | unclaimed => cases howner

theorem Principal.claimed_of_isOwner {p : Principal} (howner : p.isOwner = true) : p.claimed = true := by
  cases p with
  | unclaimed => cases howner
  | _ => rfl

/-- The half of the backup registers decides their writer (R397). -/
theorem State.writes_almBkp (s : State) {p : Principal} (howner : p.isOwner = true) :
    s.writes p .almBkp (0x11100 + 4 * i.val) = if i.val < 16 then p.isHelm else p.isPilot := by
  have hindex : (0x11100 + 4 * i.val - 0x11100) / 4 = i.val := by omega
  cases p with
  | berth k => cases howner
  | unclaimed => cases howner
  | _ => simp only [State.writes, hindex]

/-- A write by the register's own writer passes its check, whatever the value. -/
theorem State.wordFails_almBkp_of_writer (s : State) {p : Principal} {kind v : Nat} (howner : p.isOwner = true)
    (hwriter : s.writes p .almBkp (0x11100 + 4 * i.val) = true) : s.wordFails p (0x11100 + 4 * i.val) (some (kind, v)) = none := by
  have hscope : s.outOfScope p (0x11100 + 4 * i.val) = false := by
    cases p with
    | berth k => cases howner
    | _ => rfl
  have hfirmware : firmwareOnly (0x11100 + 4 * i.val) v = false := by
    have hne : (0x11100 + 4 * i.val == 0x1000C) = false := beq_eq_false_iff_ne.mpr (by omega)
    rw [firmwareOnly, hne, Bool.false_and]
  have hleave : s.leaveRule p kind (0x11100 + 4 * i.val) v = true := by
    rw [State.leaveRule, if_neg (by omega), if_neg (by omega)]
  simp [State.wordFails, mapped_almBkp, State.reach_almBkp, hscope, State.leadWord_almBkp, wordAt_almBkp, hwriter, hfirmware, hleave]

end

theorem Principal.isPilot_eq_false_of_isHelm {p : Principal} (h : p.isHelm = true) : p.isPilot = false := by
  cases p with
  | helm => rfl
  | _ => cases h

theorem Principal.isHelm_eq_false_of_isPilot {p : Principal} (h : p.isPilot = true) : p.isHelm = false := by
  cases p with
  | pilot n => rfl
  | _ => cases h

/-- Settles O54: the word's one field is read and written as it stands, and its writer is decided by its half. -/
theorem backupRegistersHaveTheirWriters : Obligations.BackupRegistersHaveTheirWriters := by
  unfold Obligations.BackupRegistersHaveTheirWriters
  intro s src p i off hserves howner hoff
  have hclaimed := Principal.claimed_of_isOwner howner
  refine ⟨?read, fun w => ⟨fun hwriter => ?own, fun hwriter hchanges => ?other⟩⟩
  case read =>
    have hsound : ∀ j < 1, (s.touch src).wordFails p (0x11100 + 4 * i.val + 4 * j) none = none := by
      intro j hj
      obtain rfl := Nat.lt_one_iff.mp hj
      simp [State.wordFails, mapped_almBkp, State.reach_almBkp, State.mayRead_of_isOwner (s.touch src) (a := 0x11100 + 4 * i.val) howner (by omega)]
    have hread := State.readWord_almBkp i (s.touch src) p
    refine congrArg Host.Outcome.next ((congrArg (s.regRead src · 1) hoff).trans ((State.regRead_served hserves hclaimed _ _).trans
      ((State.readRange_of_sound (by omega) (le_refl 1) (by decide) hsound).trans ?_)))
    rw [wordAddrs_one, State.readWords_one, hread]
    rfl
  case own =>
    have hwrites : (s.touch src).writes p .almBkp (0x11100 + 4 * i.val) = true := by
      rw [State.writes_almBkp i _ howner]
      rcases hwriter with ⟨hi, hp⟩ | ⟨hi, hp⟩
      · rw [if_pos hi, hp]
      · rw [if_neg (by omega), hp]
    have hdone := State.writeRange_of_done (s := s.touch src) (src := src) (p := p) (off := 0x11100 + 4 * i.val) (words := [w.val])
      (u := (s.touch src).set (F.almBkp i.val) w.val) (by omega) (le_refl 1) (Nat.le_add_left 1 1023)
      (by simp [State.writeChecks, wordAddrs_one, State.wordFails_almBkp_of_writer i _ howner hwrites])
      (by simp [wordAddrs_one, State.writeWords, State.writeWord_almBkp i _ src p w.isLt])
    exact congrArg Host.Outcome.next ((congrArg (s.regWrite src · [w.val]) hoff).trans ((State.regWrite_served hserves hclaimed _ _).trans hdone))
  case other =>
    have hwrites : (s.touch src).writes p .almBkp (0x11100 + 4 * i.val) = false := by
      rw [State.writes_almBkp i _ howner]
      rcases hwriter with ⟨hi, hp⟩ | ⟨hi, hp⟩
      · rw [if_pos hi, Principal.isHelm_eq_false_of_isPilot hp]
      · rw [if_neg (by omega), Principal.isPilot_eq_false_of_isHelm hp]
    have htouches : (s.touch src).touches (0x11100 + 4 * i.val) w.val ⟨F.almBkp i.val, .rw, 0, none⟩ = true := by
      rw [State.touches_almBkp i _ w.isLt]
      exact bne_iff_ne.mpr hchanges.symm
    exact congrArg Host.Outcome.next ((congrArg (s.regWrite src · [w.val]) hoff).trans
      (State.regWrite_one_refused hserves hclaimed (by omega) fun kind => State.wordFails_of_not_writer (mapped_almBkp i)
        (State.reach_almBkp i _) (State.leadWord_almBkp i _) (wordAt_almBkp i) (List.mem_singleton_self _) htouches hwrites))

end Sys2Proof.Machine

/-! Sessions: opening, measurements, heartbeats and ends (R433 to R437). -/
namespace Sys2Proof.Machine

section
variable {s r : State} {path : MgtPath} {key : List Nat} {id t n : Nat} (hr : r = s.at t) (hup : r.pathUp path = true)
include hr hup

theorem doKeyExchange_of_full (hfree : r.freeSession path = none) : doKeyExchange path key id t s = r.emit (.spdm (pathOf path) .busy) := by
  subst hr
  simp only [doKeyExchange, if_pos hup, hfree]

theorem doKeyExchange_of_stranger (hfree : r.freeSession path = some n)
    (hwho : isPublicKey key = false ∨ r.whoHolds path (sha384 key) = none) :
    doKeyExchange path key id t s = (r.bump F.mgtMctpstatAuthfail 1).emit (.spdm (pathOf path) .error) := by
  subst hr
  have hnone : (if isPublicKey key then (s.at t).whoHolds path (sha384 key) else none) = none := by
    rcases hwho with hbad | hwho
    · rw [hbad]; rfl
    · rw [hwho, ite_self]
  simp only [doKeyExchange, if_pos hup, hfree, hnone]

theorem doKeyExchange_of_holder {p : Principal} (hfree : r.freeSession path = some n) (hkey : isPublicKey key = true)
    (hwho : r.whoHolds path (sha384 key) = some p) : doKeyExchange path key id t s =
      ({ r with sessions := SMap.put r.sessions n ⟨p, pathOf path, sha384 key, id, r.now⟩ } : State).emit (.spdm (pathOf path) (.opened id)) := by
  subst hr
  simp only [doKeyExchange, if_pos hup, hfree, if_pos hkey, hwho]

end

/-- A mailbox's principal is the berth whose key it carries (R436). -/
theorem State.berth_of_whoHolds {s : State} {v : Fin 64} {d : List Nat} {p : Principal} (h : s.whoHolds (.mailbox v) d = some p) :
    p = .berth (s.chart.vsBerth v.val) ∧ SMap.find? s.nv.berthKeys (s.chart.vsBerth v.val) = some d := by
  rw [State.whoHolds] at h
  split_ifs at h with hfind
  · cases h
    exact ⟨rfl, hfind⟩

theorem State.endSession_find?_same (s : State) (n : Nat) : SMap.find? (s.endSession n).sessions n = none :=
  SMap.find?_filter_of_false _ fun _ => congrArg not (beq_self_eq_true n)

theorem State.endSession_find?_of_ne (s : State) {n m : Nat} (h : m ≠ n) :
    SMap.find? (s.endSession n).sessions m = SMap.find? s.sessions m :=
  SMap.find?_filter_of_true _ fun _ => congrArg not (beq_false_of_ne h)

/-- Settles O48: an exchange opens a session or is answered by its branch; a heartbeat and an end act on the open session alone. -/
theorem sessionsOpenAndEnd : Obligations.SessionsOpenAndEnd := by
  unfold Obligations.SessionsOpenAndEnd
  refine ⟨fun s r path key id t hr hup => ⟨fun hfree => congrArg _ (doKeyExchange_of_full hr hup hfree), fun n hfree =>
      ⟨fun hwho => congrArg _ (doKeyExchange_of_stranger hr hup hfree hwho), fun p hkey hwho =>
        ⟨_, congrArg Host.Outcome.next (doKeyExchange_of_holder hr hup hfree hkey hwho), ?opened⟩⟩⟩,
    fun s path key id t hdown => ⟨congrArg Host.Outcome.next (if_neg (by simp [hdown])), fun hdown =>
      congrArg Host.Outcome.next (if_neg (by simp [hdown]))⟩,
    fun s d hunclaimed => ⟨if_pos hunclaimed, if_pos hunclaimed, fun p => if_pos hunclaimed⟩,
    fun s d v p => State.berth_of_whoHolds,
    fun s path hup => ⟨_, _, _, congrArg Host.Outcome.next (if_pos hup)⟩,
    fun s r src t x hr hopen => ?openSession,
    fun s n => ⟨s.endSession_find?_same n, rfl, fun m => s.endSession_find?_of_ne, List.length_map ..⟩,
    fun s src t hclosed => ?closed⟩
  case opened =>
    refine ⟨SMap.find?_put_same .., fun m hm => SMap.find?_put_of_ne _ _ hm.symm, rfl, ?_⟩
    rw [hr]
    exact congrArg _ (s.at_sent t)
  case openSession =>
    subst hr
    have hstill : (s.at t).session src = some x := by rwa [State.session, s.at_eq t]
    have hbeat : doHeartbeat src t s = ((s.at t).touch src).emit (.spdm x.path .heartbeatAck) := by simp only [doHeartbeat, hstill]
    have htimeout : doSessionHeartbeatTimeout src t s = if x.last + sec 10 ≤ (s.at t).now then (s.at t).endSession (sessNum src) else s.at t := by
      simp only [doSessionHeartbeatTimeout, hstill]
    refine ⟨⟨_, congrArg Host.Outcome.next hbeat, ?_, rfl, congrArg _ (s.at_sent t)⟩, fun hlate => congrArg _ (htimeout.trans (if_pos hlate)),
      fun hearly => congrArg _ (htimeout.trans (if_neg (by omega))), ?_⟩
    · exact (State.touch_session (s.at t) src).trans (by rw [hstill]; rfl)
    · refine congrArg Host.Outcome.next (?_ : doEndSession src s = _)
      simp only [doEndSession, hopen]
  case closed =>
    have hstill : (s.at t).session src = none := by rwa [State.session, s.at_eq t]
    refine ⟨congrArg Host.Outcome.next (?_ : doHeartbeat src t s = _), congrArg Host.Outcome.next (?_ : doSessionHeartbeatTimeout src t s = _),
      congrArg Host.Outcome.next (?_ : doEndSession src s = _)⟩
    · simp only [doHeartbeat, hstill]
    · simp only [doSessionHeartbeatTimeout, hstill]
    · simp only [doEndSession, hclosed]

end Sys2Proof.Machine

/-! The credential store: Pilot and berth keys (R435, R437, R441). -/
namespace Sys2Proof.Machine

theorem find?_range_of_first {f : Nat → Bool} {k n : Nat} (hn : n < k) (hf : f n = true) (hbefore : ∀ i < n, f i = false) :
    (List.range k).find? f = some n := by
  rw [List.find?_range_eq_some]
  exact ⟨hf, List.mem_range.mpr hn, fun i hi => by rw [hbefore i hi]; rfl⟩

theorem find?_range_of_none {f : Nat → Bool} {k : Nat} (h : ∀ i < k, f i = false) : (List.range k).find? f = none := by
  rw [List.find?_range_eq_none]
  exact fun i hi => by rw [h i hi]; rfl

section
variable {s : State} {src : Sess}

theorem enrolPilot_of_free {key : List Nat} {n : Nat} (hn : n < 4) (hfree : SMap.find? s.nv.pilotKeys n = none)
    (hbefore : ∀ i : Nat, i < n → (SMap.find? s.nv.pilotKeys i).isSome = true) : enrolPilot src key s =
      if isPublicKey key then (s.modNv fun v => { v with pilotKeys := SMap.put v.pilotKeys n (sha384 key) }).respond src .success stOk 0 []
      else s.respond src .invalidInput stDenied 0 [] := by
  have hplace : (List.range 4).find? (fun n => (SMap.find? s.nv.pilotKeys n).isNone) = some n :=
    find?_range_of_first hn (by rw [hfree]; rfl) fun i hi => by rw [Option.isNone_eq_false_iff, hbefore i hi]
  simp only [enrolPilot, hplace]

theorem enrolPilot_of_full {key : List Nat} (hfull : ∀ i : Nat, i < 4 → (SMap.find? s.nv.pilotKeys i).isSome = true) :
    enrolPilot src key s = s.respond src .invalidInput stDenied 0 [] := by
  have hplace : (List.range 4).find? (fun n => (SMap.find? s.nv.pilotKeys n).isNone) = none :=
    find?_range_of_none fun i hi => by rw [Option.isNone_eq_false_iff, hfull i hi]
  simp only [enrolPilot, hplace]

theorem removePilot_of_unknown {d : List Nat} (h : ∀ i : Nat, i < 4 → SMap.find? s.nv.pilotKeys i ≠ some d) :
    removePilot src d s = s.respond src .invalidInput stDenied 0 [] := by
  have hplace : (List.range 4).find? (fun n => SMap.find? s.nv.pilotKeys n == some d) = none :=
    find?_range_of_none fun i hi => beq_false_of_ne (h i hi)
  simp only [removePilot, hplace]

theorem removePilot_of_enrolled {d : List Nat} {n : Nat} (hn : n < 4) (hfind : SMap.find? s.nv.pilotKeys n = some d)
    (hbefore : ∀ i : Nat, i < n → SMap.find? s.nv.pilotKeys i ≠ some d) : removePilot src d s =
      (((s.modNv fun v => { v with pilotKeys := SMap.del v.pilotKeys n }).endSessions fun _ r => r.who == .pilot n).respond
        src .success stOk 0 []) := by
  have hplace : (List.range 4).find? (fun n => SMap.find? s.nv.pilotKeys n == some d) = some n :=
    find?_range_of_first hn (beq_iff_eq.mpr hfind) fun i hi => beq_false_of_ne (hbefore i hi)
  simp only [removePilot, hplace]

theorem setBerthKey_of_key {k : Nat} {key : List Nat} (hk : k < 64) (hkey : isPublicKey key = true) : setBerthKey src k (some key) s =
    ((s.modNv fun v => { v with berthKeys := SMap.put v.berthKeys k (sha384 key) }).endSession (64 + k)).respond src .success stOk 0 [] :=
  if_pos ⟨hk, hkey⟩

theorem setBerthKey_of_none {k : Nat} (hk : k < 64) : setBerthKey src k none s =
    ((s.modNv fun v => { v with berthKeys := SMap.del v.berthKeys k }).endSession (64 + k)).respond src .success stOk 0 [] :=
  if_pos ⟨hk, rfl⟩

theorem setBerthKey_of_no_berth {k : Nat} {key : Option (List Nat)} (hk : 64 ≤ k) :
    setBerthKey src k key s = s.respond src .invalidInput stDenied 0 [] := if_neg (by omega)

end

/-- Settles O51: the place a key takes, or the place it is found in, decides the answer; an end of sessions touches no register. -/
theorem credentialsComplete : Obligations.CredentialsComplete := by
  unfold Obligations.CredentialsComplete
  refine ⟨fun s src p hserves hhelm => ⟨fun key n hn hfree hbefore => ⟨fun hkey => ?enrol, fun hkey => ?noKey⟩, fun key hfull => ?full,
      fun d hunknown => ?unknown, fun d n hn hfind hbefore => ⟨_, congrArg Host.Outcome.next ((State.command_served hserves hhelm _).trans
        (removePilot_of_enrolled (s := s.touch src) hn hfind hbefore)), SMap.find?_del_same .., fun m hm => SMap.find?_del_of_ne _ hm.symm, rfl, rfl⟩⟩,
    fun s src p k hserves hpilot => ⟨fun key hk hkey => ⟨_, congrArg Host.Outcome.next ((State.command_served hserves hpilot _).trans
        (setBerthKey_of_key hk hkey)), SMap.find?_put_same .., State.endSession_find?_same .., rfl, fun m hm => SMap.find?_put_of_ne _ _ hm.symm,
        fun m hm => State.endSession_find?_of_ne _ hm⟩,
      fun hk => ⟨_, congrArg Host.Outcome.next ((State.command_served hserves hpilot _).trans (setBerthKey_of_none hk)), SMap.find?_del_same ..,
        State.endSession_find?_same .., rfl⟩,
      fun hk key => congrArg _ ((State.command_served hserves hpilot _).trans (setBerthKey_of_no_berth hk))⟩⟩
  case enrol =>
    exact congrArg _ ((State.command_served hserves hhelm _).trans ((enrolPilot_of_free (s := s.touch src) hn hfree hbefore).trans (if_pos hkey)))
  case noKey =>
    exact congrArg _ ((State.command_served hserves hhelm _).trans
      ((enrolPilot_of_free (s := s.touch src) hn hfree hbefore).trans (if_neg (by simp [hkey]))))
  case full => exact congrArg _ ((State.command_served hserves hhelm _).trans (enrolPilot_of_full (s := s.touch src) hfull))
  case unknown => exact congrArg _ ((State.command_served hserves hhelm _).trans (removePilot_of_unknown (s := s.touch src) hunknown))

end Sys2Proof.Machine

/-! MCTP packets and datagrams of the management Ethernet (R428 to R431). -/
namespace Sys2Proof.Machine

section
variable {s : State} {path : MgtPath} {pkt : MctpPacket}

theorem execMctpPacket_of_not_ethernet (h : path ≠ .ethernet) : execMctpPacket path pkt s = .next (takePacket path pkt s) := by
  cases path with
  | ethernet => exact absurd rfl h
  | _ => rfl

/-- Every path carries a packet of 64 B (R430, R431). -/
theorem bodyFits_of_le {n : Nat} (h : n ≤ 64) : bodyFits path n = true := by
  cases path with
  | i3c => exact decide_eq_true h
  | ethernet => exact decide_eq_true (by omega)
  | _ => rfl

section
variable (hup : s.pathUp path = true) (hmctp : carriesMctp path = true) (hfits : bodyFits path pkt.body.length = true)
include hup hmctp hfits

theorem takePacket_of_only (hsom : pkt.som = true) (heom : pkt.eom = true) : takePacket path pkt s =
    (s.modMgt fun u => { u with asm := SMap.del u.asm (16 * pathNumber path + pkt.tag.val) }).messageDone pkt.mtype.val := by
  simp only [takePacket, hup, hmctp, hfits, hsom, heom, Bool.and_self, if_true]

theorem takePacket_of_first (hsom : pkt.som = true) (heom : pkt.eom = false) : takePacket path pkt s =
    s.modMgt fun u => { u with asm := SMap.put u.asm (16 * pathNumber path + pkt.tag.val) (pkt.mtype.val, pkt.body.map (·.val)) } := by
  simp only [takePacket, hup, hmctp, hfits, hsom, heom, Bool.and_self, if_true, Bool.false_eq_true, if_false, List.nil_append]

theorem takePacket_of_no_first (hsom : pkt.som = false) (hnone : SMap.find? s.mgt.asm (16 * pathNumber path + pkt.tag.val) = none) :
    takePacket path pkt s = s := by
  simp only [takePacket, hup, hmctp, hfits, hsom, hnone, Bool.and_self, if_true, Bool.false_eq_true, if_false]

end

theorem takePacket_of_long (h : bodyFits path pkt.body.length = false) : takePacket path pkt s = s :=
  if_neg (by rw [h, Bool.and_false]; decide)

theorem State.messageDone_of_unsupported {mtype : Nat} (h : mtype ∉ [0, 5, 6, 7]) :
    s.messageDone mtype = s.bump F.mgtMctpstatBadtype 1 := by
  have hcontains : mctpTypes.contains mtype = false := by simpa [mctpTypes] using h
  rw [State.messageDone, hcontains]
  rfl

theorem State.messageDone_unsecured : s.messageDone 7 = s.bump F.mgtMctpstatUnsecured 1 := rfl

theorem doUdpDatagram_of_up {d : Datagram} {t n : Nat} (hup : (s.at t).pathUp .ethernet = true)
    (hn : n = if (s.at t).mgt.ethSecond = (s.at t).now / sec 1 then (s.at t).mgt.ethCount + 1 else 1) :
    doUdpDatagram d t s =
      if 10000 < n then (((s.at t).set F.mgtEthstatLink 1).modMgt fun u => { u with ethSecond := (s.at t).now / sec 1, ethCount := n }).bump
        F.mgtEthstatDropped 1
      else (((s.at t).set F.mgtEthstatLink 1).modMgt fun u => { u with ethSecond := (s.at t).now / sec 1, ethCount := n }).takeDatagram d := by
  subst hn
  exact if_pos hup

end

/-- Settles O47: a packet's flags and body decide its branch; a datagram beyond its second's limit only counts. -/
theorem packetsAndDatagramsComplete : Obligations.PacketsAndDatagramsComplete := by
  unfold Obligations.PacketsAndDatagramsComplete
  refine ⟨fun s path pkt hup hmctp hpath hshort hsom heom => ?only,
    fun s pkt hup => ⟨fun hlong => congrArg _ (takePacket_of_long (path := .i3c) (decide_eq_false (Nat.not_le.mpr hlong))), fun hshort hsom hnone => ?noFirst,
      fun hshort hsom heom => ?first⟩,
    fun s d t hdown => congrArg Host.Outcome.next (if_neg (by simp [hdown])), fun s r d t n hr hup hn => ?datagram,
    fun s => ⟨rfl, rfl, rfl, fun hstatic hlease => ⟨?arp, fun a => ⟨_, rfl, ?lease⟩⟩⟩⟩
  case only =>
    have hrun : exec (.mctpPacket path pkt) s = _ := (execMctpPacket_of_not_ethernet hpath).trans
      (congrArg Host.Outcome.next (takePacket_of_only hup hmctp (bodyFits_of_le hshort) hsom heom))
    refine ⟨fun hbad => ⟨_, hrun.trans (congrArg _ (State.messageDone_of_unsupported hbad)), State.get_bump_same .., fun f hf => ?_, rfl, rfl⟩,
      fun hseven => ?_⟩
    · exact State.get_bump_of_ne _ 1 hf.symm
    · rw [hseven] at hrun
      exact ⟨_, hrun.trans (congrArg _ State.messageDone_unsecured), State.get_bump_same .., fun f hf => State.get_bump_of_ne _ 1 hf.symm, rfl, rfl⟩
  case noFirst =>
    have hkey : 16 * pathNumber .i3c + pkt.tag.val = pkt.tag.val := Nat.zero_add _
    exact congrArg _ (takePacket_of_no_first hup rfl (bodyFits_of_le hshort) hsom (by rwa [hkey]))
  case first =>
    have hkey : 16 * pathNumber .i3c + pkt.tag.val = pkt.tag.val := Nat.zero_add _
    have hrun := takePacket_of_first hup rfl (bodyFits_of_le hshort) hsom heom
    rw [hkey] at hrun
    exact congrArg _ hrun
  case datagram =>
    subst hr
    have hrun := doUdpDatagram_of_up (d := d) hup hn
    have hlink (f : Fld) (h : F.mgtEthstatLink.key ≠ f.key) : ((s.at t).set F.mgtEthstatLink 1).get f = s.get f :=
      (State.get_set_of_ne _ _ f 1 h).trans (s.at_get t f)
    refine ⟨fun hmany => ⟨_, congrArg Host.Outcome.next (hrun.trans (if_pos hmany)), s.at_sent t, ?_, ?_, congrArg (·.asm) (s.at_mgt t)⟩,
      fun hfew => congrArg Host.Outcome.next (hrun.trans (if_neg (by omega)))⟩
    · rw [State.get_bump_same]
      exact congrArg (fun x => min (x + 1) 65535) (hlink F.mgtEthstatDropped (by decide))
    · rw [State.get_bump_of_ne _ 1 (by decide)]
      exact hlink F.mgtEthipv4 (by decide)
  case arp =>
    have hnone : s.hasIpv4 = false := by rw [State.hasIpv4, hstatic, hlease, Bool.or_self]
    exact if_neg (by rw [hnone]; decide)
  case lease =>
    have hrun : s.takeDatagram (.dhcpLease a) = (s.set F.mgtEthipv4 a.val).set F.mgtEthstatAddrOk 1 := if_neg (by rw [hstatic]; decide)
    rw [hrun, State.get_set_of_ne _ _ _ _ (by decide), State.get_set_same, State.flag, State.get_set_same]
    exact ⟨Nat.mod_eq_of_lt a.isLt, rfl⟩

end Sys2Proof.Machine

/-! Counters and the Tally (R415 to R426). -/
namespace Sys2Proof.Machine

theorem State.ctr_setCtr (s : State) (k j : Nat) (c : Ctr) : (s.setCtr k c).ctr j = if k = j then c else s.ctr j := by
  simp only [State.ctr, State.setCtr, State.modCtrs, SMap.getD]
  split
  · rename_i hnew
    rw [SMap.find?_del]
    split
    · rw [hnew]; rfl
    · rfl
  · rw [SMap.find?_put]
    split <;> rfl

theorem State.ctr_setCtr_same (s : State) (k : Nat) (c : Ctr) : (s.setCtr k c).ctr k = c := by
  rw [State.ctr_setCtr, if_pos rfl]

theorem State.ctr_setCtr_of_ne (s : State) {k j : Nat} (c : Ctr) (h : k ≠ j) : (s.setCtr k c).ctr j = s.ctr j := by
  rw [State.ctr_setCtr, if_neg h]

/-- A cleared counter is at 0, without OVF, and selects what it did (R415). -/
theorem State.ctr_clearCtr_same (s : State) (k : Nat) : (s.clearCtr k).ctr k = { s.ctr k with val := 0, ovf := false } := by
  simp only [State.clearCtr]
  split
  · rw [State.ctr_setCtr_of_ne _ _ (by omega), State.ctr_setCtr_same]
  · rw [State.ctr_setCtr_same]

/-- A clear touches the counter and its partner alone. -/
theorem State.ctr_clearCtr_of_ne (s : State) {k j : Nat} (h : j ≠ k) (hpartner : j ≠ k + 1) : (s.clearCtr k).ctr j = s.ctr j := by
  simp only [State.clearCtr]
  split
  · rw [State.ctr_setCtr_of_ne _ _ hpartner.symm, State.ctr_setCtr_of_ne _ _ h.symm]
  · rw [State.ctr_setCtr_of_ne _ _ h.symm]

theorem State.clearCtr_regs (s : State) (k : Nat) : (s.clearCtr k).regs = s.regs := by
  simp only [State.clearCtr]
  split <;> rfl

theorem State.ctr_selectCtr (s : State) (k v : Nat) : (s.selectCtr k v).ctr k = { s.ctr k with
    event := bitsOf v 0 8, mode := bitsOf v 8 2, sub := bitsOf v 10 8, berth := bitsOf v 18 6, berthEn := v.testBit 24,
    chain := v.testBit 25 && k % 2 == 1, en := v.testBit 26, val := 0, ovf := false } := by
  rw [State.selectCtr, State.ctr_clearCtr_same, State.ctr_setCtr_same]

/-- The word of CTR.SEL holds each field of a selection in its place (R426). -/
theorem selWordOf_fields {event mode sub berth : Nat} (he : event < 256) (hm : mode < 4) (hs : sub < 256) (hb : berth < 64) (be ch en : Bool) :
    bitsOf (selWordOf event mode sub berth be ch en) 0 8 = event ∧ bitsOf (selWordOf event mode sub berth be ch en) 8 2 = mode ∧
      bitsOf (selWordOf event mode sub berth be ch en) 10 8 = sub ∧ bitsOf (selWordOf event mode sub berth be ch en) 18 6 = berth ∧
      (selWordOf event mode sub berth be ch en).testBit 24 = be ∧ (selWordOf event mode sub berth be ch en).testBit 26 = en := by
  have hbe : (if be then 2 ^ 24 else 0) = 2 ^ 24 * be.toNat := by cases be <;> rfl
  have hch : (if ch then 2 ^ 25 else 0) = 2 ^ 25 * ch.toNat := by cases ch <;> rfl
  have hen : (if en then 2 ^ 26 else 0) = 2 ^ 26 * en.toNat := by cases en <;> rfl
  have hbit (b : Bool) : decide (b.toNat = 1) = b := by cases b <;> rfl
  have hbe' := be.toNat_le
  have hch' := ch.toNat_le
  have hen' := en.toNat_le
  rw [selWordOf, hbe, hch, hen]
  simp only [bitsOf, Nat.testBit_eq_decide_div_mod_eq]
  refine ⟨by omega, by omega, by omega, by omega, ?_, ?_⟩
  · exact (decide_eq_decide.mpr (by omega)).trans (hbit be)
  · exact (decide_eq_decide.mpr (by omega)).trans (hbit en)

theorem State.trigger_now (s : State) (byPeriod : Bool) : (s.trigger byPeriod).now = s.now := by
  simp only [State.trigger]
  split_ifs <;> rfl

section
variable {s : State} {t : Nat}

theorem State.trigger_of_idle (byPeriod : Bool) (h : s.flag F.talStatBusy = false) : s.trigger byPeriod = s.takeSnapshot byPeriod :=
  if_neg (by rw [h]; decide)

theorem State.trigger_of_busy (h : s.flag F.talStatBusy = true) (hwrite : s.tal.byPeriod = false) :
    s.trigger false = s.bump F.talStatMissed 1 :=
  (if_pos h).trans (if_neg fun hsame => hsame.2 hwrite)

theorem doTallyPeriod_of_due (hon : s.get F.talCtlPeriod ≠ 0) (hdue : s.tal.periodAt + usec (100 * s.get F.talCtlPeriod) ≤ (s.at t).now) :
    doTallyPeriod t s = ((s.at t).trigger true).modTal fun u => { u with periodAt := ((s.at t).trigger true).now } := by
  have htal : (s.at t).tal = s.tal := by rw [s.at_eq t]
  rw [State.trigger_now]
  exact if_pos (by rw [s.at_get, htal]; exact ⟨hon, hdue⟩)

theorem doTallyPeriod_of_off (h : s.get F.talCtlPeriod = 0) : doTallyPeriod t s = s.at t :=
  if_neg fun hon => hon.1 ((s.at_get t _).trans h)

/-- The snapshot stands whole in the back buffer. -/
def State.heldSnapshot (s : State) (b : TallyBuf) : State :=
  (s.set F.talStatBusy 0).modTal fun u => { u with
    latch := none
    waiting := true
    buf0 := if s.get F.talStatFront = 0 then u.buf0 else { b with seq := (s.get F.talSeq + 1) % 2 ^ 32 }
    buf1 := if s.get F.talStatFront = 0 then { b with seq := (s.get F.talSeq + 1) % 2 ^ 32 } else u.buf1 }

theorem State.heldSnapshot_get (s : State) (b : TallyBuf) {f : Fld} (h : F.talStatBusy.key ≠ f.key) :
    (s.heldSnapshot b).get f = s.get f := State.get_set_of_ne s _ f 0 h

theorem State.heldSnapshot_of_front (s : State) (b : TallyBuf) (h : s.get F.talStatFront = 0) :
    (s.heldSnapshot b).tal.buf0 = s.tal.buf0 ∧ (s.heldSnapshot b).tal.buf1.ctrs = b.ctrs :=
  by simp [State.heldSnapshot, State.modTal, State.set, State.store, h]

theorem State.heldSnapshot_idle (s : State) (b : TallyBuf) : (s.heldSnapshot b).flag F.talStatBusy = false :=
  beq_false_of_ne ((State.get_set_same s F.talStatBusy 0).trans_ne (by decide))

theorem doTallyBufferFlip_of_none (h : s.tal.latch = none) : doTallyBufferFlip t s = s.at t := by
  have htal : (s.at t).tal = s.tal := by rw [s.at_eq t]
  simp only [doTallyBufferFlip, htal, h]

theorem doTallyBufferFlip_of_latch {b : TallyBuf} (h : s.tal.latch = some b) :
    doTallyBufferFlip t s = if s.flag F.talCtlHold then (s.at t).heldSnapshot b else ((s.at t).heldSnapshot b).flip := by
  have htal : (s.at t).tal = s.tal := by rw [s.at_eq t]
  rw [← s.at_flag t]
  simp only [doTallyBufferFlip, htal, h, State.heldSnapshot]

theorem State.flip_get (s : State) {f : Fld} (hfront : F.talStatFront.key ≠ f.key) (hseq : F.talSeq.key ≠ f.key) :
    s.flip.get f = s.get f :=
  (State.get_set_of_ne _ _ f _ hseq).trans (State.get_set_of_ne s _ f _ hfront)

theorem State.flip_front (s : State) : s.flip.get F.talStatFront = (1 - s.get F.talStatFront) % 2 :=
  (State.get_set_of_ne _ _ F.talStatFront _ (by decide)).trans (State.get_set_same s _ _)

theorem State.flip_seq (s : State) : s.flip.get F.talSeq = (s.get F.talSeq + 1) % 2 ^ 32 :=
  (State.get_set_same _ _ _).trans (congrArg (fun x => (x + 1) % 2 ^ 32) (State.get_set_of_ne s _ F.talSeq _ (by decide)))

end

/-- Settles O44: each command is its effect on the counters or the Tally; a flip is its fields' writes. -/
theorem countersAndTallyComplete : Obligations.CountersAndTallyComplete := by
  unfold Obligations.CountersAndTallyComplete
  refine ⟨fun s src who hserves hpilot => ⟨fun k event mode sub berth be ch en hreach => ?select, fun k hreach => ?clear,
      fun k hreach => ?unreachable, congrArg _ (State.regCommand_acts hserves hpilot (act := fun _ u => (setFreeze true u, stOk)) rfl),
      congrArg _ (State.regCommand_acts hserves hpilot (act := fun _ u => (setFreeze false u, stOk)) rfl), fun hidle => ?snap,
      fun hbusy hwrite => ?missed, fun hwaits => ?shown, fun hwaits => ?free⟩,
    fun s loc code n sub berth hfrozen => if_pos hfrozen, fun s t => ⟨fun hoff => congrArg _ (doTallyPeriod_of_off hoff), fun hon hdue =>
      congrArg _ (doTallyPeriod_of_due hon hdue)⟩, fun s t hnone => congrArg _ (doTallyBufferFlip_of_none hnone),
    fun s t b hlatch hfront hseq => ?flips⟩
  case select =>
    obtain ⟨hevent, hmode, hsub, hberth, hbe, hen⟩ := selWordOf_fields event.isLt mode.isLt sub.isLt berth.isLt be ch en
    refine ⟨_, congrArg _ (State.regCommandAt_acts hserves hreach hpilot _), ?_⟩
    rw [State.ctr_selectCtr]
    exact ⟨rfl, rfl, hevent, hmode, hsub, hberth, hbe, hen, State.clearCtr_regs ..⟩
  case clear =>
    refine ⟨_, congrArg _ (State.regCommandAt_acts hserves hreach hpilot _), ?_⟩
    rw [State.ctr_clearCtr_same]
    exact ⟨rfl, rfl, rfl, fun j hj hpartner => State.ctr_clearCtr_of_ne _ hj hpartner, State.clearCtr_regs ..⟩
  case unreachable =>
    have hdenied : (if (s.touch src).reach (ctrAddr k.val) then ((s.touch src).clearCtr k.val, stOk) else (s.touch src, stDenied)) =
        (s.touch src, stDenied) := if_neg (by simp [hreach])
    exact congrArg _ (State.regCommand_denied hserves hpilot hdenied)
  case snap =>
    exact ⟨_, congrArg _ (State.regCommand_acts hserves hpilot (act := fun _ u => (u.trigger false, stOk))
      (effect := fun u => u.takeSnapshot false) (congrArg (·, stOk) (State.trigger_of_idle (s := s.touch src) false hidle))),
      beq_iff_eq.mpr (State.get_set_same _ F.talStatBusy 1), _, rfl, rfl, rfl⟩
  case missed =>
    exact congrArg _ (State.regCommand_acts hserves hpilot (congrArg (·, stOk) (State.trigger_of_busy (s := s.touch src) hbusy hwrite)))
  case shown =>
    exact congrArg _ (State.regCommand_acts hserves hpilot (act := fun _ u => (releaseHold u, stOk))
      (effect := fun u => (u.set F.talCtlHold 0).flip) (congrArg (·, stOk) (if_pos hwaits)))
  case free =>
    exact congrArg _ (State.regCommand_acts hserves hpilot (act := fun _ u => (releaseHold u, stOk))
      (effect := fun u => u.set F.talCtlHold 0) (congrArg (·, stOk) (if_neg (Bool.not_eq_true _ ▸ hwaits))))
  case flips =>
    have hrun := doTallyBufferFlip_of_latch (t := t) hlatch
    have hheld (f : Fld) (h : F.talStatBusy.key ≠ f.key) : ((s.at t).heldSnapshot b).get f = s.get f :=
      (State.heldSnapshot_get _ b h).trans (s.at_get t f)
    have hidle := (s.at t).heldSnapshot_idle b
    obtain ⟨hbuf0, hbuf1⟩ := (s.at t).heldSnapshot_of_front b ((s.at_get t _).trans hfront)
    have htal : (s.at t).tal = s.tal := by rw [s.at_eq t]
    rw [htal] at hbuf0
    refine ⟨fun hshow => ?_, fun hhold => ?_⟩
    · rw [if_neg (by rw [hshow]; decide)] at hrun
      refine ⟨_, congrArg Host.Outcome.next hrun, ?_, ?_, ?_, ?_, ?_⟩
      · rw [State.flip_front, hheld _ (by decide), hfront]
      · rw [State.flip_seq, hheld _ (by decide), Nat.mod_eq_of_lt (by omega)]
      · exact hbuf1
      · exact hbuf0
      · exact (congrArg (· == 1) (State.flip_get _ (by decide) (by decide))).trans hidle
    · rw [if_pos hhold] at hrun
      exact ⟨_, congrArg Host.Outcome.next hrun, (hheld _ (by decide)).trans hfront, rfl, hheld _ (by decide), hidle⟩

end Sys2Proof.Machine

/-! Reports of the power stage and attention codes: what they leave unchanged (R314, R320, R327). -/
namespace Sys2Proof.Machine

/-- A word of the FLT block or of the chip collector. -/
abbrev signalWord (a : Nat) : Prop := 0x14000 ≤ a ∧ a < 0x101000

/-- A change such as an attention code or a report at the chip collector makes, unless it is fatal. -/
structure State.Signals (s u : State) : Prop where
  beyond : u.beyondFaults = s.beyondFaults
  get : ∀ f : Fld, f.lsb < 32 → ¬signalWord f.addr → u.get f = s.get f

namespace State.Signals
variable {s u v : State}

theorem refl (s : State) : Signals s s := ⟨rfl, fun _ _ _ => rfl⟩

theorem trans (h : Signals s u) (g : Signals u v) : Signals s v :=
  ⟨g.beyond.trans h.beyond, fun f hlsb hf => (g.get f hlsb hf).trans (h.get f hlsb hf)⟩

theorem ite {c : Prop} [Decidable c] (h : Signals s u) (g : Signals s v) : Signals s (if c then u else v) := by
  split
  · exact h
  · exact g

theorem set (s : State) {g : Fld} (hlsb : g.lsb < 32) (hword : signalWord g.addr) (v : Nat) : Signals s (s.set g v) where
  beyond := rfl
  get _ hf hbeside := s.get_set_of_ne _ _ _ (Fld.key_ne_of_addr_ne hlsb hf fun h => hbeside (h ▸ hword))

theorem flt (s : State) (x : FaultUnit) : Signals s { s with flt := x } := ⟨rfl, fun _ _ _ => rfl⟩

theorem flag (h : Signals s u) {f : Fld} (hlsb : f.lsb < 32) (hf : ¬signalWord f.addr) : u.flag f = s.flag f :=
  congrArg (· == 1) (h.get f hlsb hf)

theorem pwr (h : Signals s u) : u.pwr = s.pwr := congrArg (a₁ := u.beyondFaults) (a₂ := s.beyondFaults) State.pwr h.beyond
theorem nv (h : Signals s u) : u.nv = s.nv := congrArg (a₁ := u.beyondFaults) (a₂ := s.beyondFaults) State.nv h.beyond
theorem lvc (h : Signals s u) : u.lvc = s.lvc := congrArg (a₁ := u.beyondFaults) (a₂ := s.beyondFaults) State.lvc h.beyond
theorem now (h : Signals s u) : u.now = s.now := congrArg (a₁ := u.beyondFaults) (a₂ := s.beyondFaults) State.now h.beyond
theorem sent (h : Signals s u) : u.sent = s.sent := congrArg (a₁ := u.beyondFaults) (a₂ := s.beyondFaults) State.sent h.beyond

end State.Signals

/-- A code goes to the words of its audience in the FLT block (R327). -/
theorem State.raiseOne_signals (s : State) (code : Nat) {a : Nat} (h : a < 66) : s.Signals (s.raiseOne code a) := by
  have hpend : signalWord (F.fltAttnPend a).addr := by
    simp only [signalWord, F.fltAttnPend]
    omega
  have hseq : signalWord (F.fltAttnSeq a).addr := by
    simp only [signalWord, F.fltAttnSeq]
    omega
  exact .trans (.set s (Nat.zero_lt_succ 31) hpend _) (.set _ (Nat.zero_lt_succ 31) hseq _)

/-- A code that no rule names an audience for goes to the Pilot and to the Helm (R327). -/
theorem State.notify_eq (s : State) (code : Nat) : s.notify code = (s.raiseOne code audPilot).raiseOne code audHelm := by
  unfold State.notify State.raise
  cases helmAlways code <;> rfl

theorem State.notify_signals (s : State) (code : Nat) : s.Signals (s.notify code) := by
  rw [State.notify_eq]
  exact (s.raiseOne_signals code (by decide)).trans (State.raiseOne_signals _ code (by decide))

theorem State.notify_helm (s : State) {code : Nat} (h : code < 16) : ((s.notify code).get (F.fltAttnPend audHelm)).testBit code = true := by
  rw [State.notify_eq]
  exact State.raiseOne_pending _ _ h

/-- The chip collector writes its own words (R320). -/
theorem State.takeEvent_hub_signals (s : State) (i cls : Nat) : s.Signals (s.takeEvent hubCol i cls) := by
  have hset (u : State) (g : Fld) (hlsb : g.lsb < 32) (hword : signalWord g.addr) (v : Nat) : u.Signals (u.set g v) := .set u hlsb hword v
  have hcount : s.Signals (if cls = 0 then s.bump (F.colCountC0 (colBase hubCol)) 1
      else if cls = 1 then s.bump (F.colCountC1 (colBase hubCol)) 1 else s.bump (F.colCountC2 (colBase hubCol)) 1) :=
    .ite (hset s _ (by decide) (by decide) _) (.ite (hset s _ (by decide) (by decide) _) (hset s _ (by decide) (by decide) _))
  unfold State.takeEvent
  dsimp only
  refine .ite hcount (hcount.trans (.ite ?overflows ?first))
  case overflows => exact .trans (hset _ _ (by decide) (by decide) _) (hset _ _ (by decide) (by decide) _)
  case first =>
    exact (hset _ (F.colFirstSrc (colBase hubCol)) (by decide) (by decide) _).trans
      ((hset _ (F.colFirstClass (colBase hubCol)) (by decide) (by decide) _).trans
        ((hset _ (F.colFirstTime (colBase hubCol)) (by decide) (by decide) _).trans (hset _ _ (by decide) (by decide) _)))

/-- What the chip collector does with an event that is not fatal stays in the FLT block (R315, R328). -/
theorem State.hubAct_signals (s : State) {cls : Nat} (h : cls < 3) (origin input cause : Nat) : s.Signals (s.hubAct cls origin input cause) := by
  have hcount : s.Signals (s.bump F.fltC0win 1) := .set s (by decide) (by decide) _
  unfold State.hubAct
  dsimp only
  split_ifs with hzero hnotify hone htwo
  · exact hcount.trans (.trans (.flt _ _) (State.raiseOne_signals _ _ (by decide)))
  · exact hcount
  · exact .refl s
  · exact .flt s _
  · omega

/-- A report at the chip collector, unless it is fatal. -/
theorem State.reportAt_hub_signals (s : State) (i : Nat) {cls : Nat} (h : cls < 3) : s.Signals (s.reportAt (hubCol, i) cls) := by
  rw [State.reportAt, State.report, if_neg (by simp [hubCol]), State.lineEvent]
  exact .ite (.set s (g := F.colSsw (colBase hubCol)) (by decide) (by decide) _) (.ite (.refl s)
    ((s.takeEvent_hub_signals i cls).trans (State.hubAct_signals _ h ..)))

end Sys2Proof.Machine

/-! The feeds of the power stage (R358 to R364). -/
namespace Sys2Proof.Machine

section
variable {s : State} {f t : Nat}

@[simp] theorem State.get_setTimer (s : State) (f : Nat) (x : FeedTimer) (g : Fld) : (s.setTimer f x).get g = s.get g := rfl
@[simp] theorem State.bump_now (s : State) (f : Fld) (n : Nat) : (s.bump f n).now = s.now := rfl
@[simp] theorem State.setAll_pwr (s : State) (l : List (Fld × Nat)) : (s.setAll l).pwr = s.pwr :=
  foldl_keeps State.pwr (g := fun (s : State) (e : Fld × Nat) => s.set e.1 e.2) (fun _ _ => rfl) l s
@[simp] theorem State.at_feed (s : State) (t f : Nat) : (s.at t).feed f = s.feed f := s.at_get t _
@[simp] theorem State.at_feedTimer (s : State) (t f : Nat) : (s.at t).feedTimer f = s.feedTimer f := by
  rw [State.feedTimer, State.feedTimer, State.at_pwr]

theorem State.get_toFeed_of_ne (s : State) {f : Nat} {g : Fld} (st : Nat) (h : (F.pwrFeedstatState f).key ≠ g.key) :
    (s.toFeed f st).get g = s.get g := State.get_set_of_ne s _ g _ h

theorem State.feed_toFeed (s : State) (f : Nat) {st : Nat} (h : st < 16) : (s.toFeed f st).feed f = st :=
  (State.get_set_same s _ _).trans (Nat.mod_eq_of_lt h)

theorem State.feedTimer_toFeed (s : State) (f st : Nat) : ((s.toFeed f st).feedTimer f).since = s.now := by
  simp only [State.feedTimer, State.toFeed, State.setTimer, State.modPwr]
  split <;> rfl

/-- The other feed's timer runs on. -/
theorem State.feedTimer_toFeed_other (s : State) {f g : Nat} (hf : f < 2) (hg : g < 2) (h : g ≠ f) (st : Nat) :
    (s.toFeed f st).feedTimer g = s.feedTimer g := by
  simp only [State.feedTimer, State.toFeed, State.setTimer, State.modPwr]
  split_ifs
  · omega
  · rfl
  · rfl
  · omega

/-- An ORing FET's turn-off touches the FET's own bit (R358). -/
theorem State.get_oringOff (s : State) (f : Nat) (g : Fld) : (s.oringOff f).get g = (s.set (F.pwrFeedstatOringOn f) 0).get g := by
  simp only [State.oringOff]
  split <;> rfl

theorem State.oringOff_now (s : State) (f : Nat) : (s.oringOff f).now = s.now := by
  simp only [State.oringOff]
  split <;> rfl

theorem State.feedOff_now (s : State) (f : Nat) : (s.feedOff f).now = s.now := by
  rw [State.feedOff]
  exact (State.setAll_now ..).trans (s.oringOff_now f)

/-- The words of PWR.FEEDSTAT, PWR.FEEDMEAS and PWR.FEEDCNT that a feed's turn-off leaves alone. -/
theorem State.get_feedOff_of_ne (s : State) {f : Nat} {g : Fld} (horing : (F.pwrFeedstatOringOn f).key ≠ g.key)
    (hgate : (F.pwrFeedstatGateOk f).key ≠ g.key) (hpg : (F.pwrFeedstatPg f).key ≠ g.key) (hiin : (F.pwrFeedmeasIin f).key ≠ g.key) :
    (s.feedOff f).get g = s.get g := by
  simp only [State.feedOff, State.setAll, List.foldl_cons, List.foldl_nil]
  rw [State.get_set_of_ne _ _ _ _ hiin, State.get_set_of_ne _ _ _ _ hpg, State.get_set_of_ne _ _ _ _ hgate, State.get_oringOff,
    State.get_set_of_ne _ _ _ _ horing]

theorem State.get_feedOff_oringOn (s : State) (f : Nat) : (s.feedOff f).get (F.pwrFeedstatOringOn f) = 0 := by
  simp (disch := (simp only [Fld.key, F.pwrFeedstatOringOn, F.pwrFeedstatGateOk, F.pwrFeedstatPg, F.pwrFeedmeasIin]; omega)) only
    [State.feedOff, State.setAll, List.foldl_cons, List.foldl_nil, State.get_set_of_ne, State.get_oringOff, State.get_set_same]
  rfl

theorem State.get_feedOff_pg (s : State) (f : Nat) : (s.feedOff f).get (F.pwrFeedstatPg f) = 0 := by
  simp (disch := (simp only [Fld.key, F.pwrFeedstatPg, F.pwrFeedmeasIin]; omega)) only
    [State.feedOff, State.setAll, List.foldl_cons, List.foldl_nil, State.get_set_of_ne, State.get_set_same]
  rfl

/-- What a turn-off at undervoltage shows (R359). -/
theorem doFeedUndervoltage_of_on {v : Nat} (hin : s.feedIn f [fsStart, fsOn, fsLimit] = true) (hriding : s.riding = false) :
    doFeedUndervoltage f v t s = ((((s.at t).setVin f v).feedOff f).toFeed f fsAbsent).set (F.pwrFeedstatLastTrip f) 6 := by
  have hstill : ((s.at t).setVin f v).feedIn f [fsStart, fsOn, fsLimit] = true := by
    rw [State.feedIn, State.feed, State.setVin, State.get_set_of_ne _ _ _ _ (by simp only [Fld.key, F.pwrFeedmeasVin, F.pwrFeedstatState]; omega),
      State.at_get]
    exact hin
  have hstore : ((s.at t).setVin f v).riding = false := by
    rw [State.riding, State.flag, State.setVin, State.get_set_of_ne _ _ _ _ (by simp only [Fld.key, F.pwrFeedmeasVin, F.pwrRideRiding]; omega),
      State.at_get]
    exact hriding
  exact if_pos (by rw [hstill, hstore]; rfl)

/-- What stands after it. -/
theorem State.feedLost_shows (s : State) (f : Nat) : (((s.feedOff f).toFeed f fsAbsent).set (F.pwrFeedstatLastTrip f) 6).feed f = fsAbsent ∧
    (((s.feedOff f).toFeed f fsAbsent).set (F.pwrFeedstatLastTrip f) 6).flag (F.pwrFeedstatOringOn f) = false ∧
    (((s.feedOff f).toFeed f fsAbsent).set (F.pwrFeedstatLastTrip f) 6).flag (F.pwrFeedstatPg f) = false := by
  simp (disch := (simp only [Fld.key, F.pwrFeedstatLastTrip, F.pwrFeedstatOringOn, F.pwrFeedstatPg, F.pwrFeedstatState]; omega)) only
    [State.feed, State.flag, State.toFeed, State.get_setTimer, State.get_set_of_ne, State.get_set_same, State.get_feedOff_oringOn,
      State.get_feedOff_pg]
  exact ⟨rfl, rfl, rfl⟩

/-- A feed turned off by a trip: its cause and its counts. -/
def State.tripped (s : State) (f cause : Nat) : State :=
  ((((s.feedOff f).setAll [(F.pwrFeedstatLastTrip f, cause), (F.pwrFeedstatTripped f, 1)]).bump (F.pwrFeedcntTrips f) 1).bump
    (F.pwrFeedstatRetryCount f) 1)

/-- A trip before the last retry: a C1 event and POWER, and the wait for the retry (R362). -/
theorem State.tripFeed_of_retry {cause : Nat} (h : s.get (F.pwrFeedstatRetryCount f) < s.get (F.pwrFeedctlRetries f)) :
    s.tripFeed f cause = (((s.tripped f cause).reportAt inPower 1).notify atPower).toFeed f fsWaitRetry := by
  have hlast : decide (s.get (F.pwrFeedctlRetries f) ≤ s.get (F.pwrFeedstatRetryCount f)) = false := decide_eq_false (by omega)
  simp only [State.tripFeed, hlast, Bool.false_eq_true, if_false, State.tripped]

theorem State.tripped_now (s : State) (f cause : Nat) : (s.tripped f cause).now = s.now := by
  simp only [State.tripped, State.bump_now, State.setAll_now, State.feedOff_now]

theorem State.tripped_get (s : State) {f cause : Nat} (hcause : cause < 8) : (s.tripped f cause).get (F.pwrFeedstatLastTrip f) = cause ∧
    (s.tripped f cause).flag (F.pwrFeedstatTripped f) = true ∧ (s.tripped f cause).flag (F.pwrFeedstatOringOn f) = false := by
  have hkeys : cause % 2 ^ 4 = cause := Nat.mod_eq_of_lt (by omega)
  simp (disch := (simp only [Fld.key, F.pwrFeedstatLastTrip, F.pwrFeedstatTripped, F.pwrFeedstatOringOn, F.pwrFeedcntTrips,
      F.pwrFeedstatRetryCount]; omega)) only [State.flag, State.tripped, State.bump, State.setAll, List.foldl_cons, List.foldl_nil,
    State.get_set_of_ne, State.get_set_same, State.get_feedOff_oringOn]
  exact ⟨hkeys, rfl, rfl⟩

theorem State.tripped_feed_other (s : State) {f g : Nat} (cause : Nat) : (s.tripped f cause).feed g = s.feed g := by
  simp (disch := (simp only [Fld.key, F.pwrFeedstatLastTrip, F.pwrFeedstatTripped, F.pwrFeedstatOringOn, F.pwrFeedcntTrips,
      F.pwrFeedstatRetryCount, F.pwrFeedstatState, F.pwrFeedstatGateOk, F.pwrFeedstatPg, F.pwrFeedmeasIin]; omega)) only
    [State.feed, State.tripped, State.bump, State.setAll, List.foldl_cons, List.foldl_nil, State.get_set_of_ne, State.get_feedOff_of_ne]

/-- The tripped feed's own words, its timer and POWER; the other feed goes on. -/
theorem State.trippedFeed_shows (s : State) {cause : Nat} (hf : f < 2) (hcause : cause < 8) {u : State}
    (hu : u = (((s.tripped f cause).reportAt inPower 1).notify atPower).toFeed f fsWaitRetry) : u.feed f = fsWaitRetry ∧
    u.get (F.pwrFeedstatLastTrip f) = cause ∧ u.flag (F.pwrFeedstatTripped f) = true ∧ u.flag (F.pwrFeedstatOringOn f) = false ∧
    (u.feedTimer f).since = s.now ∧ (u.get (F.fltAttnPend audHelm)).testBit atPower = true ∧ u.feed (1 - f) = s.feed (1 - f) := by
  subst hu
  obtain ⟨hlast, htripped, horing⟩ := s.tripped_get hcause (f := f)
  have hquiet : (s.tripped f cause).Signals (((s.tripped f cause).reportAt inPower 1).notify atPower) :=
    (State.reportAt_hub_signals _ 15 (by decide)).trans (State.notify_signals _ _)
  have hnow : (((s.tripped f cause).reportAt inPower 1).notify atPower).now = s.now := hquiet.now.trans (s.tripped_now ..)
  have hword {g : Fld} (haddr : g.addr = 0x12004 + 16 * f) : ¬signalWord g.addr := by
    simp only [signalWord, haddr]
    omega
  have hshows {g : Fld} (haddr : g.addr = 0x12004 + 16 * f) (hlow : 0 < g.lsb) (hlsb : g.lsb < 32) :
      ((((s.tripped f cause).reportAt inPower 1).notify atPower).toFeed f fsWaitRetry).get g = (s.tripped f cause).get g := by
    rw [State.get_toFeed_of_ne _ _ (by simp only [Fld.key, F.pwrFeedstatState]; omega), hquiet.get g hlsb (hword haddr)]
  have hother : ((((s.tripped f cause).reportAt inPower 1).notify atPower).toFeed f fsWaitRetry).feed (1 - f) = s.feed (1 - f) := by
    rw [State.feed, State.get_toFeed_of_ne _ _ (by simp only [Fld.key, F.pwrFeedstatState]; omega), hquiet.get _ (Nat.zero_lt_succ 31)
      (by simp only [signalWord, F.pwrFeedstatState]; omega)]
    exact s.tripped_feed_other cause
  have hhelm := congrArg (·.testBit atPower) (State.get_toFeed_of_ne (((s.tripped f cause).reportAt inPower 1).notify atPower) (f := f) (g := F.fltAttnPend audHelm)
    fsWaitRetry (by simp only [Fld.key, F.pwrFeedstatState, F.fltAttnPend, audHelm]; omega))
  refine ⟨State.feed_toFeed _ _ (by decide), (hshows rfl ?_ ?_).trans hlast,
    (congrArg (· == 1) (hshows rfl ?_ ?_)).trans htripped, (congrArg (· == 1) (hshows rfl ?_ ?_)).trans horing,
    (State.feedTimer_toFeed ..).trans hnow, hhelm.trans (State.notify_helm _ (by decide)), hother⟩
  all_goals simp [F.pwrFeedstatLastTrip, F.pwrFeedstatTripped, F.pwrFeedstatOringOn]

/-- A gate that has not risen retires its feed (R364). -/
def State.gateDamaged (s : State) (f : Nat) : State :=
  (((s.feedOff f).toFeed f fsRetired).set (F.pwrFeedstatLastTrip f) 7).modNv fun n =>
    { n with feedRetired := if n.feedRetired.contains f then n.feedRetired else f :: n.feedRetired }

theorem doGateCheckFailure_of_late (hstate : s.feed f = fsStart) (hlate : (s.feedTimer f).since + msec 2 ≤ (s.at t).now) :
    doGateCheckFailure f t s = (((s.at t).gateDamaged f).reportAt inPower 2).notify atDegraded :=
  if_pos (by rw [s.at_feed, s.at_feedTimer]; exact ⟨hstate, hlate⟩)

theorem State.gateDamaged_shows (s : State) (f : Nat) : (s.gateDamaged f).feed f = fsRetired ∧ f ∈ (s.gateDamaged f).nv.feedRetired ∧
    (s.gateDamaged f).get (F.pwrFeedstatLastTrip f) = 7 := by
  have hkey : (F.pwrFeedstatLastTrip f).key ≠ (F.pwrFeedstatState f).key := by simp only [Fld.key, F.pwrFeedstatLastTrip, F.pwrFeedstatState]; omega
  refine ⟨(State.get_set_of_ne ((s.feedOff f).toFeed f fsRetired) _ _ 7 hkey).trans (State.feed_toFeed _ f (by decide)), ?_,
    State.get_set_same ((s.feedOff f).toFeed f fsRetired) (F.pwrFeedstatLastTrip f) 7⟩
  · simp only [State.gateDamaged, State.modNv]
    split
    · rename_i hcontains
      exact List.contains_iff_mem.mp hcontains
    · exact List.mem_cons_self ..

/-- The bulk node stands at power-good from this feed (R360). -/
def State.feedGood (s : State) (f : Nat) : State :=
  (s.toFeed f fsOn).setAll [(F.pwrFeedstatPg f, 1), (F.pwrFeedstatGateOk f, 1), (F.pwrFeedstatOringOn f, 1)]

theorem State.feedGood_get (s : State) {f : Nat} {g : Fld} (h : g.addr ≠ 0x12004 + 16 * f) (hlsb : g.lsb < 32) :
    (s.feedGood f).get g = s.get g := by
  simp (disch := (have := h; have := hlsb; simp only [Fld.key, F.pwrFeedstatState, F.pwrFeedstatPg, F.pwrFeedstatGateOk, F.pwrFeedstatOringOn]; omega))
    only [State.feedGood, State.setAll, List.foldl_cons, List.foldl_nil, State.get_set_of_ne, State.get_toFeed_of_ne]

theorem State.feedGood_shows (s : State) (f : Nat) : (s.feedGood f).feed f = fsOn ∧ (s.feedGood f).flag (F.pwrFeedstatPg f) = true ∧
    (s.feedGood f).flag (F.pwrFeedstatOringOn f) = true := by
  simp (disch := (simp only [Fld.key, F.pwrFeedstatState, F.pwrFeedstatPg, F.pwrFeedstatGateOk, F.pwrFeedstatOringOn]; omega)) only
    [State.flag, State.feed, State.feedGood, State.toFeed, State.setAll, List.foldl_cons, List.foldl_nil, State.get_set_of_ne, State.get_setTimer,
      State.get_set_same]
  exact ⟨rfl, rfl, rfl⟩

/-- Power-good with no feed waiting, outside a wake's power-up (R360, R363). -/
theorem doFeedPowerGood_of_start (hf : f < 2) (hstate : s.feed f = fsStart) (ha : s.pwr.feedA.qualified = false) (hb : s.pwr.feedB.qualified = false)
    (hwake : ¬(s.get F.rstStatPhase = 0 ∧ s.get F.rstCauseSource = 3)) : doFeedPowerGood f t s = (s.at t).feedGood f := by
  have hasleep : ((s.at t).feedGood f).wakeUp = (s.at t).feedGood f := by
    refine if_neg fun ⟨hphase, hcause, _⟩ => hwake ⟨?_, ?_⟩
    · rwa [State.feedGood_get _ (by simp only [F.rstStatPhase]; omega) (by decide), s.at_get] at hphase
    · rwa [State.feedGood_get _ (by simp only [F.rstCauseSource]; omega) (by decide), s.at_get] at hcause
  have htimer : (((s.at t).feedGood f).feedTimer (1 - f)).qualified = false := by
    have hkept : ((s.at t).feedGood f).feedTimer (1 - f) = s.feedTimer (1 - f) := by
      have hpwr : ((s.at t).feedGood f).feedTimer (1 - f) = ((s.at t).toFeed f fsOn).feedTimer (1 - f) := by
        rw [State.feedTimer, State.feedTimer, State.feedGood, State.setAll_pwr]
      rw [hpwr, State.feedTimer_toFeed_other _ hf (by omega) (by omega), s.at_feedTimer]
    rw [hkept, State.feedTimer]
    split
    · exact ha
    · exact hb
  have hrun : doFeedPowerGood f t s = if (((s.at t).feedGood f).wakeUp.feedTimer (1 - f)).qualified
      && ((s.at t).feedGood f).wakeUp.feedIn (1 - f) [fsQualify, fsWaitRetry] && ((s.at t).feedGood f).wakeUp.mayStart (1 - f) then
      ((s.at t).feedGood f).wakeUp.startFeed (1 - f) else ((s.at t).feedGood f).wakeUp := if_pos (by rw [s.at_feed]; exact hstate)
  rw [hrun, hasleep, htimer]
  rfl

end

/-- Settles O37: each event is its branch in R363's table; the fields of a feed's words stand apart from each other and from a report's. -/
theorem feedsComplete : Obligations.FeedsComplete := by
  unfold Obligations.FeedsComplete
  refine ⟨fun s f t => rfl, fun s f v t hstate hv => ?present, fun s f v t hstate hv => ?leaves, fun s f t hstate hmay hlong => ?qualified,
    fun s f t hstate ha hb hwake => ?good, fun s f v t hin hriding => ?under, fun s f t hin => ?voltage, fun s f t => ?timed,
    fun s f cause hcause hmode hmask hretry => ?trip, fun s f t hstate hlate hmode hmask => ?gate, fun s src who f hserves hhelm => ?commands,
    fun s f t hstate => ?absent⟩
  case present =>
    have hkey : (F.pwrFeedmeasVin f.val).key ≠ (F.pwrFeedstatState f.val).key := by simp only [Fld.key, F.pwrFeedmeasVin, F.pwrFeedstatState]; omega
    have hfeed : ((s.at t).setVin f.val v.val).feed f.val = fsAbsent := (State.get_set_of_ne _ _ _ _ hkey).trans ((s.at_feed t _).trans hstate)
    have hvin : ((s.at t).setVin f.val v.val).get (F.pwrFeedmeasVin f.val) = v.val :=
      (State.get_set_same _ _ _).trans (Nat.mod_eq_of_lt (by simp [F.pwrFeedmeasVin]; omega))
    have hstart : doFeedPresent f.val v.val t s = ((s.at t).setVin f.val v.val).toFeed f.val fsQualify := by
      unfold doFeedPresent
      dsimp only
      rw [if_neg (by rw [hfeed]; exact fun h => absurd h.1 (by decide)), State.settleFeed, if_pos ⟨hfeed, by rwa [hvin]⟩]
    exact ⟨_, congrArg Host.Outcome.next hstart, State.feed_toFeed _ _ (by decide), (State.get_toFeed_of_ne _ _ hkey.symm).trans hvin,
      State.feedTimer_toFeed .., s.at_sent t⟩
  case leaves =>
    have hkey : (F.pwrFeedmeasVin f.val).key ≠ (F.pwrFeedstatState f.val).key := by simp only [Fld.key, F.pwrFeedmeasVin, F.pwrFeedstatState]; omega
    have hfeed : ((s.at t).setVin f.val v.val).feed f.val = fsQualify := (State.get_set_of_ne _ _ _ _ hkey).trans ((s.at_feed t _).trans hstate)
    exact ⟨_, congrArg Host.Outcome.next ((if_pos hfeed).trans (if_pos hv)), State.feed_toFeed _ _ (by decide), s.at_sent t⟩
  case qualified =>
    have hrun : doFeedQualified f.val t s = (s.at t).tryStart f.val :=
      if_pos (by rw [s.at_feed, s.at_feedTimer, s.at_get]; exact ⟨hstate, hlong⟩)
    exact congrArg _ (hrun.trans (if_pos hmay))
  case good =>
    obtain ⟨hfeed, hpg, horing⟩ := (s.at t).feedGood_shows f.val
    refine ⟨_, congrArg Host.Outcome.next (doFeedPowerGood_of_start f.isLt hstate ha hb hwake), hfeed, hpg, horing, ?_⟩
    exact (State.feedGood_get _ (by simp only [F.pwrFeedstatState]; omega) (Nat.zero_lt_succ 31)).trans (s.at_get t _)
  case under =>
    obtain ⟨hfeed, horing, hpg⟩ := ((s.at t).setVin f.val v.val).feedLost_shows f.val
    exact ⟨_, congrArg Host.Outcome.next (doFeedUndervoltage_of_on hin hriding), hfeed, State.get_set_same _ (F.pwrFeedstatLastTrip f.val) 6,
      horing, hpg⟩
  case voltage =>
    have hstill : (s.at t).feedIn f.val [fsStart, fsOn, fsLimit] = true := (s.at_feedIn t _ _).trans hin
    exact ⟨congrArg _ (if_pos hstill), congrArg _ (if_pos hstill), congrArg _ (if_pos hstill)⟩
  case timed =>
    have hfeed := s.at_feed t f.val
    have htimer := s.at_feedTimer t f.val
    refine ⟨fun hon => congrArg _ (if_pos (hfeed.trans hon)), fun hlimit => congrArg _ (if_pos (hfeed.trans hlimit)),
      fun hlimit hlong => congrArg Host.Outcome.next (if_pos ?_), fun hstart hlong => congrArg Host.Outcome.next (if_pos ?_),
      fun hwait hlong => congrArg Host.Outcome.next (if_pos ?_), fun hon hlong => congrArg Host.Outcome.next (if_pos ?_)⟩
    · rw [hfeed, htimer, s.at_get]
      exact ⟨hlimit, hlong⟩
    · rw [hfeed, htimer, s.at_get]
      exact ⟨hstart, hlong⟩
    · rw [hfeed, htimer, s.at_get]
      exact ⟨hwait, hlong⟩
    · rw [hfeed, htimer]
      exact ⟨hon, hlong⟩
  case trip =>
    exact ⟨_, State.tripFeed_of_retry hretry, s.trippedFeed_shows f.isLt hcause rfl⟩
  case gate =>
    obtain ⟨hfeed, hretired, hcause⟩ := (s.at t).gateDamaged_shows f.val
    have hquiet : ((s.at t).gateDamaged f.val).Signals ((((s.at t).gateDamaged f.val).reportAt inPower 2).notify atDegraded) :=
      (State.reportAt_hub_signals _ 15 (by decide)).trans (State.notify_signals _ _)
    refine ⟨_, congrArg Host.Outcome.next (doGateCheckFailure_of_late hstate hlate), (hquiet.get (F.pwrFeedstatState f.val) (Nat.zero_lt_succ 31) ?_).trans hfeed,
      by rwa [hquiet.nv], (hquiet.get (F.pwrFeedstatLastTrip f.val) (by simp [F.pwrFeedstatLastTrip]) ?_).trans hcause⟩
    all_goals
      simp only [signalWord, F.pwrFeedstatState, F.pwrFeedstatLastTrip]
      omega
  case commands =>
    refine ⟨fun hlatched => congrArg _ (State.regCommand_acts hserves hhelm (congrArg (·, stOk) (if_pos hlatched))),
      fun hother => congrArg _ (State.regCommand_acts hserves hhelm (congrArg (·, stOk) (if_neg hother))),
      fun hretired => congrArg _ (State.regCommand_acts hserves hhelm (congrArg (·, stOk) (if_pos hretired))),
      congrArg _ (State.regCommand_acts hserves hhelm rfl),
      fun hslip => congrArg _ (State.regCommand_acts hserves hhelm (if_pos hslip)),
      fun hslip => congrArg _ (State.regCommand_denied hserves hhelm (if_neg (ne_true_of_eq_false hslip)))⟩
  case absent =>
    have hfeed : (s.at t).feed f.val = fsAbsent := (s.at_feed t _).trans hstate
    have hnot {st : Nat} (h : fsAbsent ≠ st) {c : Prop} : ¬((s.at t).feed f.val = st ∧ c) := fun hst => h (hfeed.symm.trans hst.1)
    have hin : ¬(s.at t).feedIn f.val [fsStart, fsOn, fsLimit] = true := by
      rw [State.feedIn, hfeed]
      decide
    exact ⟨congrArg _ (if_neg hin), congrArg _ (if_neg (hnot (by decide))), congrArg _ (if_neg fun h => absurd (hfeed.symm.trans h) (by decide)),
      congrArg _ (if_neg (hnot (by decide))), congrArg _ (if_neg (hnot (by decide))), congrArg _ (if_neg (hnot (by decide)))⟩

end Sys2Proof.Machine

/-! The store, ride-through, the shed, rails and the LDO (R366 to R376). -/
namespace Sys2Proof.Machine

section
variable {s : State} {t : Nat}

theorem State.get_modPwr (s : State) (g : PowerUnit → PowerUnit) (f : Fld) : (s.modPwr g).get f = s.get f :=
  State.get_of_regs rfl f

theorem State.sent_modPwr (s : State) (g : PowerUnit → PowerUnit) : (s.modPwr g).sent = s.sent := by
  cases s
  rfl

theorem State.sent_modLvc (s : State) (g : LeaveUnit → LeaveUnit) : (s.modLvc g).sent = s.sent := by
  cases s
  rfl

/-! What asks for nothing is left as it stands. -/

theorem State.redecide_of_no_queue (h : s.lvc.queue = []) : s.redecide = s := by
  rw [State.redecide, h]
  rfl

theorem State.endDataLeave_of_none (hslips : s.lvc.slips = []) (hqueue : s.lvc.queue = []) (reason : Nat) : s.endDataLeave reason = s := by
  have hlvc : ({ s.lvc with slips := [], queue := [] } : LeaveUnit) = s.lvc := by
    cases hl : s.lvc
    simp_all
  simp only [State.endDataLeave, hqueue, hslips, List.filter_nil, List.foldl_nil, hlvc]

theorem State.abortScrubs_of_no_scrub (h : s.ecc.scrubs = []) : s.abortScrubs = s := by
  have hecc : ({ s.ecc with scrubs := [] } : EccUnit) = s.ecc := by
    cases he : s.ecc
    simp_all
  simp only [State.abortScrubs, h, List.foldl_nil, hecc]

theorem State.endUnfit_of_no_slips (h : s.lvc.slips = []) : s.endUnfit = s := by
  rw [State.endUnfit, h]
  rfl

/-- The capacitance a first start measures, before POWER is raised (R366). -/
def State.capKept (s : State) (c : Nat) : State :=
  s.setAll [(F.pwrBulkCapMeas, c), (F.pwrBulkMeasured, 1), (F.pwrBulkCapLow, if c < 5600 then 1 else 0)]

theorem doBulkCapMeasure_eq (s : State) (c : Nat) :
    doBulkCapMeasure c s = if c < 5600 then (s.capKept c).notify atPower else s.capKept c := rfl

theorem doBulkCapMeasure_signals (s : State) (c : Nat) : (s.capKept c).Signals (doBulkCapMeasure c s) := by
  rw [doBulkCapMeasure_eq]
  exact .ite (State.notify_signals _ _) (.refl _)

theorem State.capKept_shows (s : State) {c : Nat} (h : c < 16384) : (s.capKept c).get F.pwrBulkCapMeas = c ∧
    (s.capKept c).flag F.pwrBulkMeasured = true ∧ (s.capKept c).flag F.pwrBulkCapLow = decide (c < 5600) := by
  simp (disch := decide) only [State.flag, State.capKept, State.setAll, List.foldl_cons, List.foldl_nil, State.get_set_of_ne, State.get_set_same]
  refine ⟨Nat.mod_eq_of_lt h, rfl, ?_⟩
  split
  · rename_i hlow
    rw [decide_eq_true hlow]
    rfl
  · rename_i hhigh
    rw [decide_eq_false hhigh]
    rfl

/-- Ride-through begun (R368). -/
def State.rideBegun (s : State) (vbus : Nat) : State :=
  (((s.setVbus vbus).set F.pwrRideRiding 1).bump F.pwrRideRides 1).modPwr fun u => { u with rideStart := s.now }

theorem doRideThroughStart_of_dark {vbus : Nat} (ha : s.get (F.pwrFeedstatOringOn 0) = 0) (hb : s.get (F.pwrFeedstatOringOn 1) = 0)
    (hlong : s.pwr.oringOff + usec 2 ≤ (s.at t).now) (hriding : s.riding = false) (hshed : s.shed = false) :
    doRideThroughStart vbus t s = (s.at t).rideBegun vbus := by
  refine if_pos ?_
  rw [s.at_get, s.at_get, s.at_pwr, State.riding, s.at_flag, State.shed, s.at_pwr]
  exact ⟨ha, hb, hlong, hriding, hshed⟩

theorem State.rideBegun_shows (s : State) {vbus : Nat} (h : vbus < 1001) : (s.rideBegun vbus).riding = true ∧
    (s.rideBegun vbus).get F.pwrBusVbus = vbus ∧ (s.rideBegun vbus).pwr.rideStart = s.now ∧ (s.rideBegun vbus).sent = s.sent := by
  have hsent : (s.rideBegun vbus).sent = (((s.setVbus vbus).set F.pwrRideRiding 1).bump F.pwrRideRides 1).sent := by rw [State.rideBegun, State.modPwr]
  rw [State.riding, State.flag, State.rideBegun, State.get_modPwr, State.get_modPwr, State.get_bump_of_ne _ _ (by decide), State.get_bump_of_ne _ _ (by decide), State.get_set_same,
    State.get_set_of_ne _ _ _ _ (by decide), State.setVbus, State.get_set_of_ne _ _ _ _ (by decide), State.get_set_same]
  refine ⟨rfl, Nat.mod_eq_of_lt (by simp [F.pwrBusVbus]; omega), by rw [State.modPwr], hsent.trans (State.sent_of_units ?_)⟩
  rw [State.bump_units, State.set_units, State.setVbus, State.set_units, State.set_units]

/-- A feed that conducts in time ends ride-through (R368). -/
theorem doRideThroughEnd_of_riding {f : Nat} (hriding : s.riding = true) (hshed : s.shed = false)
    (hlong : (s.at t).now ≤ s.pwr.rideStart + s.shedDelay) (hqueue : s.lvc.queue = []) : doRideThroughEnd f t s =
      (((s.at t).set (F.pwrFeedstatOringOn f) 1).set F.pwrRideRiding 0).notify atPower := by
  have hget {g : Fld} (h : g.addr ≠ 0x12004 + 16 * f) (hlsb : g.lsb < 32) : ((s.at t).set (F.pwrFeedstatOringOn f) 1).get g = s.get g :=
    (State.get_set_of_ne _ _ _ _ (by simp only [Fld.key, F.pwrFeedstatOringOn]; omega)).trans (s.at_get t g)
  have hdelay : ((s.at t).set (F.pwrFeedstatOringOn f) 1).shedDelay = s.shedDelay := by
    rw [State.shedDelay, hget (by simp only [F.rstPstateCur]; omega) (by decide), hget (by simp only [F.pwrRideShedDelay]; omega) (by decide)]
    rfl
  have hin : ((s.at t).set (F.pwrFeedstatOringOn f) 1).riding = true ∧ ((s.at t).set (F.pwrFeedstatOringOn f) 1).shed = false ∧
      ((s.at t).set (F.pwrFeedstatOringOn f) 1).now ≤
        ((s.at t).set (F.pwrFeedstatOringOn f) 1).pwr.rideStart + ((s.at t).set (F.pwrFeedstatOringOn f) 1).shedDelay := by
    refine ⟨(congrArg (· == 1) (hget (by simp only [F.pwrRideRiding]; omega) (by decide))).trans hriding,
      (congrArg (fun x : PowerUnit => x.shedPhase != 0) (s.at_pwr t)).trans hshed, ?_⟩
    rw [hdelay]
    exact hlong.trans_eq (congrArg (fun x : PowerUnit => x.rideStart + s.shedDelay) (s.at_pwr t).symm)
  refine (if_pos hin).trans (State.redecide_of_no_queue ?_)
  rw [(State.notify_signals _ _).lvc]
  exact (congrArg LeaveUnit.queue (s.at_lvc t)).trans hqueue

/-- The shed recorded (R369 step 1). -/
def State.shedMarked (s : State) : State := (s.setAll [(F.pwrRideShed, 1), (F.pwrRideSaveDone, 0)]).modPwr fun u => { u with shedPhase := 1 }

/-- A shed with nothing of the data plane under way is recorded and does no more (R369). -/
theorem doDataPlaneShed_of_idle (hriding : s.riding = true) (hshed : s.shed = false) (ha : s.get (F.pwrFeedstatOringOn 0) = 0)
    (hb : s.get (F.pwrFeedstatOringOn 1) = 0) (hlong : s.pwr.rideStart + s.shedDelay ≤ (s.at t).now) (hslips : s.lvc.slips = [])
    (hqueue : s.lvc.queue = []) (hjobs : s.cpy.jobs = []) (hscrubs : s.ecc.scrubs = []) : doDataPlaneShed t s = (s.at t).shedMarked := by
  have hdue : (s.at t).riding = true ∧ (s.at t).shed = false ∧ (s.at t).get (F.pwrFeedstatOringOn 0) = 0 ∧
      (s.at t).get (F.pwrFeedstatOringOn 1) = 0 ∧ (s.at t).pwr.rideStart + (s.at t).shedDelay ≤ (s.at t).now := by
    rw [State.riding, s.at_flag, State.shed, State.shedDelay, s.at_pwr, s.at_get, s.at_get, s.at_get, s.at_get]
    exact ⟨hriding, hshed, ha, hb, hlong⟩
  have hlvc : (s.at t).shedMarked.lvc = s.lvc := s.at_lvc t
  have hcpy : (s.at t).shedMarked.cpy = s.cpy := s.at_cpy t
  have hecc : (s.at t).shedMarked.ecc = s.ecc := by rw [s.at_eq t]; rfl
  have hleave : (s.at t).shedMarked.endDataLeave reasonShed = (s.at t).shedMarked :=
    State.endDataLeave_of_none (by rw [hlvc, hslips]) (by rw [hlvc, hqueue]) _
  have hscrub : (s.at t).shedMarked.abortScrubs = (s.at t).shedMarked := State.abortScrubs_of_no_scrub (by rw [hecc, hscrubs])
  have hunfit : (s.at t).shedMarked.endUnfit = (s.at t).shedMarked := State.endUnfit_of_no_slips (by rw [hlvc, hslips])
  have hcopies : (s.at t).shedMarked.shedCopies = (s.at t).shedMarked := State.endJobs_of_no_jobs (by rw [hcpy, hjobs]) _ _ _
  have hrun : doDataPlaneShed t s = ((((s.at t).shedMarked.endDataLeave reasonShed).abortScrubs).endUnfit).shedCopies := if_pos hdue
  rw [hrun, hleave, hscrub, hunfit, hcopies]

/-- A rail's missing acknowledgement, counted and reported (R373). -/
def State.missedAck (s : State) (r : Nat) : State := (s.bump (F.pwrRailTimeouts r) 1).reportAt inPower 1

theorem State.missedAck_signals (s : State) (r : Nat) : (s.bump (F.pwrRailTimeouts r) 1).Signals (s.missedAck r) :=
  State.reportAt_hub_signals _ 15 (by decide)

theorem State.missedAck_get (s : State) {r : Nat} {f : Fld} (hlsb : f.lsb < 32) (hword : f.addr < 0x14000) :
    (s.missedAck r).get f = (s.bump (F.pwrRailTimeouts r) 1).get f := (s.missedAck_signals r).get f hlsb (by omega)

theorem doAvsAckTimeout_of_few {r : Nat} (hr : r < 26) (hfrozen : s.flag (F.pwrRailFrozen r) = false)
    (hfew : min (s.get (F.pwrRailTimeouts r) + 1) (2 ^ (F.pwrRailTimeouts r).width - 1) < s.get F.pwrAvsctlFailMax) :
    doAvsAckTimeout r s = (s.missedAck r).emit (.avsResend r) := by
  have hcount : (s.missedAck r).get (F.pwrRailTimeouts r) = min (s.get (F.pwrRailTimeouts r) + 1) (2 ^ (F.pwrRailTimeouts r).width - 1) := by
    rw [State.missedAck_get s (by simp [F.pwrRailTimeouts]) (by simp only [F.pwrRailTimeouts]; omega), State.get_bump_same]
  exact (if_neg (ne_true_of_eq_false hfrozen)).trans (if_neg (by rw [← State.missedAck, hcount]; omega))

/-- One rail's reading and the power stage's (R373, R384). -/
theorem doRailPoll_one (x : RailReading) (m : InputMeas) : doRailPoll [x] m t s = ((s.at t).readRail x).readInput m := rfl

theorem State.readRail_get (s : State) {x : RailReading} (h : s.flag (F.pwrRailFrozen x.rail.val) = false) :
    (s.readRail x).get (F.pwrRailVmeas x.rail.val) = min x.mv 4095 ∧ (s.readRail x).get (F.pwrRailTimeouts x.rail.val) = 0 ∧
    (s.readRail x).get F.pwrInputPPeak = s.get F.pwrInputPPeak ∧ (s.readRail x).sent = s.sent := by
  have hrun : s.readRail x = s.setAll [(F.pwrRailVmeas x.rail.val, min x.mv 4095), (F.pwrRailImeas x.rail.val, min x.da 4095),
      (F.pwrRailPg x.rail.val, if x.pg then 1 else 0), (F.pwrRailTimeouts x.rail.val, 0)] := if_neg (ne_true_of_eq_false h)
  rw [hrun]
  refine ⟨?_, ?_, ?_, State.sent_of_units (State.setAll_units ..)⟩
  all_goals
    simp (disch := (simp only [Fld.key, F.pwrRailVmeas, F.pwrRailImeas, F.pwrRailPg, F.pwrRailTimeouts, F.pwrInputPPeak]; omega)) only
      [State.setAll, List.foldl_cons, List.foldl_nil, State.get_set_of_ne, State.get_set_same]
  · simp only [F.pwrRailVmeas]
    omega
  · exact Nat.zero_mod _

/-- The readings of the power stage stand apart from a rail's words. -/
theorem State.readInput_get_rail (s : State) (m : InputMeas) {f : Fld} (hlow : 0x12100 ≤ f.addr) (hlsb : f.lsb < 32) :
    (s.readInput m).get f = s.get f := by
  simp (disch := (have := hlow; have := hlsb; simp only [Fld.key, F.pwrFeedmeasVin, F.pwrFeedmeasIin, F.pwrInputPNow, F.pwrInputPPeak, F.pwrLdoIAon,
      F.pwrBusVbus, F.pwrReckonEnergy]; omega)) only
    [State.readInput, State.get_modPwr, State.setVbus, State.setAll, List.foldl_cons, List.foldl_nil, State.get_set_of_ne]

theorem State.readInput_sent (s : State) (m : InputMeas) : (s.readInput m).sent = s.sent := by
  simp only [State.readInput, State.sent_modPwr]
  refine State.sent_of_units ?_
  rw [State.setAll_units, State.setVbus, State.set_units, State.set_units]

theorem State.readInput_vbus (s : State) (m : InputMeas) : (s.readInput m).get F.pwrBusVbus = min m.vbus 2047 := by
  simp (disch := decide) only
    [State.readInput, State.get_modPwr, State.setVbus, State.setAll, List.foldl_cons, List.foldl_nil, State.get_set_of_ne, State.get_set_same]
  exact Nat.mod_eq_of_lt (by simp only [F.pwrBusVbus]; omega)

theorem State.readInput_power (s : State) (m : InputMeas) : (s.readInput m).get F.pwrInputPNow = min m.pNow 4095 := by
  simp (disch := decide) only
    [State.readInput, State.get_modPwr, State.setVbus, State.setAll, List.foldl_cons, List.foldl_nil, State.get_set_of_ne, State.get_set_same]
  exact Nat.mod_eq_of_lt (by simp only [F.pwrInputPNow]; omega)

theorem State.readInput_peak (s : State) (m : InputMeas) :
    (s.readInput m).get F.pwrInputPPeak = max (s.get F.pwrInputPPeak) (min m.pNow 4095) % 4096 := by
  simp (disch := decide) only
    [State.readInput, State.get_modPwr, State.setVbus, State.setAll, List.foldl_cons, List.foldl_nil, State.get_set_of_ne, State.get_set_same]
  rfl

/-- The LDO back in low-power mode, the slips that held it ended (R376). -/
def State.ldoLow (s : State) : State :=
  (s.setAll [(F.pwrLdoMode, 0), (F.pwrLdoOverstay, 0)]).modLvc fun u => { u with slips := u.slips.filter fun e => !(e.2.kind == 11) }

theorem doLdoReturnLow_of_free (hsave : s.lvc.saveSlip = none) (hslips : ∀ e ∈ s.lvc.slips, e.2.kind = 11 → e.2.extended = true)
    (hqueue : s.lvc.queue = []) : doLdoReturnLow t s = (s.at t).ldoLow := by
  have hfree : ((s.at t).lvc.saveSlip.isSome || (s.at t).lvc.slips.any fun e => e.2.kind == 11 && !e.2.extended) = false := by
    rw [s.at_lvc, hsave, Option.isSome_none, Bool.false_or, List.any_eq_false]
    intro e he hheld
    rw [Bool.and_eq_true, beq_iff_eq, Bool.not_eq_true'] at hheld
    exact absurd (hslips e he hheld.1) (by rw [hheld.2]; decide)
  exact (if_neg (ne_true_of_eq_false hfree)).trans (State.redecide_of_no_queue ((congrArg LeaveUnit.queue (s.at_lvc t)).trans hqueue))

theorem State.ldoLow_shows (s : State) : s.ldoLow.get F.pwrLdoMode = 0 ∧ s.ldoLow.get F.pwrLdoOverstay = 0 ∧
    (∀ e ∈ s.ldoLow.lvc.slips, e.2.kind ≠ 11) ∧ s.ldoLow.sent = s.sent := by
  refine ⟨?_, State.get_set_same (s.set F.pwrLdoMode 0) F.pwrLdoOverstay 0, fun e he => ?_, ?_⟩
  · exact (State.get_set_of_ne (s.set F.pwrLdoMode 0) F.pwrLdoOverstay _ 0 (by decide)).trans (State.get_set_same s F.pwrLdoMode 0)
  · have hkind := (List.mem_filter.mp he).2
    simpa using hkind
  · rw [State.ldoLow, State.sent_modLvc]
    exact State.sent_of_units (s.setAll_units _)

/-- A latched feed cycled low is released and stays ABSENT (R362). -/
theorem doFeedCycled_of_latched {f v : Nat} (hlatched : s.feed f = fsLatched) (hv : v ≤ 350) :
    doFeedCycled f v t s = ((((s.at t).setVin f v).toFeed f fsAbsent).set (F.pwrFeedstatRetryCount f) 0) := by
  have hkey : (F.pwrFeedmeasVin f).key ≠ (F.pwrFeedstatState f).key := by simp only [Fld.key, F.pwrFeedmeasVin, F.pwrFeedstatState]; omega
  have hstill : ((s.at t).setVin f v).feed f = fsLatched := (State.get_set_of_ne _ _ _ _ hkey).trans ((s.at_feed t f).trans hlatched)
  have hlow : ((((s.at t).setVin f v).toFeed f fsAbsent).set (F.pwrFeedstatRetryCount f) 0).get (F.pwrFeedmeasVin f) ≤ 350 := by
    rw [State.get_set_of_ne _ _ _ _ (by simp only [Fld.key, F.pwrFeedstatRetryCount, F.pwrFeedmeasVin]; omega),
      State.get_toFeed_of_ne _ _ hkey.symm, State.setVin, State.get_set_same]
    exact (Nat.mod_le _ _).trans hv
  exact (if_pos hstill).trans ((if_pos hstill).trans (if_neg (by omega)))

end

/-- Settles O38: each event is its branch; what asks for nothing is left, and a report or POWER touches no word of the power stage. -/
theorem storeAndRailsComplete : Obligations.StoreAndRailsComplete := by
  unfold Obligations.StoreAndRailsComplete
  refine ⟨fun s c => ?cap, fun s v t ha hb hlong hriding hshed => ?ride, fun s f t hriding hshed hlong hqueue => ?back,
    fun s t hriding => congrArg _ (if_neg ?quiet), fun s t hriding hshed ha hb hlong hslips hqueue hjobs hscrubs =>
      congrArg _ (doDataPlaneShed_of_idle hriding hshed ha hb hlong hslips hqueue hjobs hscrubs),
    fun s r => ⟨fun hfrozen => congrArg _ (if_pos hfrozen), fun hfrozen hmode hmask hfew => ?missed⟩, fun s x m t hfrozen => ?poll,
    fun s t hsave hslips hqueue => ?low, fun s f v t hlatched hv => ?cycled⟩
  case cap =>
    have hquiet := doBulkCapMeasure_signals s c.val
    obtain ⟨hcap, hmeasured, hlow⟩ := s.capKept_shows c.isLt
    refine ⟨_, rfl, (hquiet.get F.pwrBulkCapMeas (by decide) (by decide)).trans hcap,
      (hquiet.flag (f := F.pwrBulkMeasured) (by decide) (by decide)).trans hmeasured,
      (hquiet.flag (f := F.pwrBulkCapLow) (by decide) (by decide)).trans hlow, fun hc => ?_, hquiet.sent.trans (State.sent_of_units (State.setAll_units ..))⟩
    rw [doBulkCapMeasure_eq, if_pos hc]
    exact State.notify_helm _ (by decide)
  case ride =>
    obtain ⟨hriding', hvbus, hstart, hsent⟩ := (s.at t).rideBegun_shows v.isLt
    exact ⟨_, congrArg Host.Outcome.next (doRideThroughStart_of_dark ha hb hlong hriding hshed), hriding', hvbus, hstart,
      hsent.trans (s.at_sent t)⟩
  case back =>
    have hquiet := State.notify_signals (((s.at t).set (F.pwrFeedstatOringOn f.val) 1).set F.pwrRideRiding 0) atPower
    refine ⟨_, congrArg Host.Outcome.next (doRideThroughEnd_of_riding hriding hshed hlong hqueue), ?_, ?_, State.notify_helm _ (by decide), ?_⟩
    · exact (hquiet.flag (f := F.pwrRideRiding) (by decide) (by decide)).trans (beq_false_of_ne (by rw [State.get_set_same]; decide))
    · refine (hquiet.flag (by simp [F.pwrFeedstatOringOn]) (by simp only [signalWord, F.pwrFeedstatOringOn]; omega)).trans (beq_iff_eq.mpr ?_)
      rw [State.get_set_of_ne _ _ _ _ (by simp only [Fld.key, F.pwrRideRiding, F.pwrFeedstatOringOn]; omega), State.get_set_same]
      rfl
    · rw [State.shed, hquiet.pwr]
      exact (congrArg (fun x : PowerUnit => x.shedPhase != 0) (s.at_pwr t)).trans hshed
  case quiet =>
    intro hdue
    have hstill : (s.at t).riding = false := (s.at_flag t _).trans hriding
    exact absurd hdue.1 (by rw [hstill]; decide)
  case missed =>
    refine ⟨_, congrArg Host.Outcome.next (doAvsAckTimeout_of_few r.isLt hfrozen hfew), congrArg _ (s.missedAck_signals r.val).sent, ?_, ?_⟩
    · exact (s.missedAck_get (f := F.pwrRailTimeouts r.val) (by simp [F.pwrRailTimeouts]) (by simp only [F.pwrRailTimeouts]; omega)).trans
        (State.get_bump_same ..)
    · refine (congrArg (· == 1) ((s.missedAck_get (f := F.pwrRailFrozen r.val) (by simp [F.pwrRailFrozen]) (by simp only [F.pwrRailFrozen]; omega)).trans
        (State.get_bump_of_ne _ 1 ?_))).trans hfrozen
      simp only [Fld.key, F.pwrRailTimeouts, F.pwrRailFrozen]
      omega
  case poll =>
    obtain ⟨hvmeas, htimeouts, hpeak, hsent⟩ := (s.at t).readRail_get (x := x) ((s.at_flag t _).trans hfrozen)
    refine ⟨_, congrArg Host.Outcome.next (doRailPoll_one x m), ?_, ?_, State.readInput_vbus _ m,
      State.readInput_power _ m, ?_, (State.readInput_sent _ m).trans (hsent.trans (s.at_sent t))⟩
    · exact (State.readInput_get_rail _ m (by simp only [F.pwrRailVmeas]; omega) (by simp [F.pwrRailVmeas])).trans hvmeas
    · exact (State.readInput_get_rail _ m (by simp only [F.pwrRailTimeouts]; omega) (by simp [F.pwrRailTimeouts])).trans htimeouts
    · rw [State.readInput_peak, hpeak, s.at_get]
  case low =>
    obtain ⟨hmode, hover, hslips', hsent⟩ := (s.at t).ldoLow_shows
    exact ⟨_, congrArg Host.Outcome.next (doLdoReturnLow_of_free hsave hslips hqueue), hmode, hover, hslips', hsent.trans (s.at_sent t)⟩
  case cycled =>
    refine ⟨_, congrArg Host.Outcome.next (doFeedCycled_of_latched hlatched hv), ?_, State.get_set_same _ (F.pwrFeedstatRetryCount f.val) 0,
      (State.sent_of_units (State.set_units (((s.at t).setVin f.val v.val).toFeed f.val fsAbsent) _ 0)).trans (s.at_sent t)⟩
    refine (State.get_set_of_ne _ _ _ _ ?_).trans (State.feed_toFeed _ f.val (by decide))
    simp only [Fld.key, F.pwrFeedstatRetryCount, F.pwrFeedstatState]
    omega

end Sys2Proof.Machine

/-! Requests for leave, renewals, expiries and the owner's commands (R377 to R381). -/
namespace Sys2Proof.Machine

section
variable {s : State} {t : Nat} {q : LeaveReq}

theorem State.get_modLvc (s : State) (g : LeaveUnit → LeaveUnit) (f : Fld) : (s.modLvc g).get f = s.get f := State.get_of_regs rfl f

theorem State.modLvc_of_fixed {g : LeaveUnit → LeaveUnit} (h : g s.lvc = s.lvc) : s.modLvc g = s := by
  rw [State.modLvc, h]

@[simp] theorem State.at_holds (s : State) (t : Nat) (q : Purpose) : (s.at t).holds q = s.holds q := by
  rw [State.holds, State.holds, s.at_lvc]

@[simp] theorem State.at_hasLeave (s : State) (t : Nat) (q : Purpose) : (s.at t).hasLeave q = s.hasLeave q := by
  rw [State.hasLeave, State.hasLeave, s.at_holds, s.at_lvc]

theorem doLeaveRequest_of_new {p : Purpose} (h : s.hasLeave p = false) : doLeaveRequest p t s = (s.at t).requestLeave p :=
  if_neg (by rw [s.at_hasLeave, h]; decide)

theorem State.askLeave_of_grant (h : s.decideLeave q none = .grant) : s.askLeave q = s.grantLeave q := by
  simp only [State.askLeave, h]

theorem State.askLeave_of_refuse {why : Nat} (h : s.decideLeave q none = .refuse why) : s.askLeave q = s.refuseLeave q.purpose why := by
  simp only [State.askLeave, h]

/-- A request waits at the queue's end, counted. -/
def State.deferred (s : State) (q : LeaveReq) : State :=
  ({ s with lvc := { s.lvc with queue := s.lvc.queue ++ [q] } } : State).bump F.lvcCountDeferred 1

/-- A deferred request waits at the queue's end; a request of LVC.REQ shows it too. -/
theorem State.askLeave_of_defer {why : Nat} (h : s.decideLeave q none = .defer why) (hroom : s.lvc.queue.length < 32) :
    (s.askLeave q).units = (s.deferred q).units := by
  simp only [State.askLeave, h, if_pos hroom]
  split
  · exact State.setAll_units ..
  · exact State.setAll_units ..
  · rfl

/-- The granted slip stands in the lowest free place (R377). -/
theorem State.grantLeave_slip (hkind : q.kind ≠ 10) {g : Fin 8} (hpurpose : q.purpose = .copyEngine g) : s.grantLeave q =
    ({ s with lvc := { s.lvc with slips := SMap.put s.lvc.slips s.freeSlip (q.slip s.now) } } : State).set (F.cpeStatPaused g.val) 0 := by
  rw [State.grantLeave, if_neg hkind]
  simp only [State.onGrant, hpurpose]

/-! Re-decision (R379). -/

theorem State.expireWaits_of_none (h : ∀ q ∈ s.lvc.queue, s.limitedWait q = false) : s.expireWaits = s := by
  have hgone : s.lvc.queue.filter s.limitedWait = [] := List.filter_eq_nil_iff.mpr fun q hq => ne_true_of_eq_false (h q hq)
  have hkept : s.lvc.queue.filter (fun q => !s.limitedWait q) = s.lvc.queue := List.filter_eq_self.mpr fun q hq => by rw [h q hq]; rfl
  rw [State.expireWaits, hgone]
  exact State.modLvc_of_fixed (by rw [hkept])

theorem State.expireWaits_of_only (hqueue : s.lvc.queue = [q]) (hover : s.limitedWait q = true) :
    s.expireWaits = (s.modLvc fun u => { u with queue := [] }).refuseLeave q.purpose 0 := by
  have hgone : s.lvc.queue.filter s.limitedWait = [q] := by rw [hqueue, List.filter_cons_of_pos hover, List.filter_nil]
  have hkept : s.lvc.queue.filter (fun q => !s.limitedWait q) = [] := by
    rw [hqueue, List.filter_cons_of_neg (by rw [hover]; decide), List.filter_nil]
  rw [State.expireWaits, hgone, State.modLvc, State.modLvc, hkept]
  rfl

theorem redecideOrder_one (q : LeaveReq) : redecideOrder [q] = [q] := by
  by_cases hsave : q.kind = 10
  · simp [redecideOrder, hsave]
  · by_cases hpower : q.kind = 1 <;> simp [redecideOrder, hsave, hpower]

/-- The one deferred request is decided: granted, refused, or left. -/
theorem State.redecide_one (hqueue : s.lvc.queue = [q]) : s.redecide = s.redecideList false [q] ∧ s.lvc.queue.filter (· != q) = [] := by
  refine ⟨by rw [State.redecide, hqueue, redecideOrder_one], ?_⟩
  rw [hqueue, List.filter_cons_of_neg (by simp), List.filter_nil]

theorem State.redecide_of_grant (hqueue : s.lvc.queue = [q]) (h : s.decideLeave q none = .grant) :
    s.redecide = (s.modLvc fun u => { u with queue := [] }).grantLeave q := by
  obtain ⟨hone, hrest⟩ := State.redecide_one hqueue
  simp only [hone, State.redecideList, h, hrest, Bool.false_eq_true, if_false, State.modLvc]

theorem State.redecide_of_refuse {why : Nat} (hqueue : s.lvc.queue = [q]) (h : s.decideLeave q none = .refuse why) :
    s.redecide = (s.modLvc fun u => { u with queue := [] }).refuseLeave q.purpose why := by
  obtain ⟨hone, hrest⟩ := State.redecide_one hqueue
  simp only [hone, State.redecideList, h, hrest, State.modLvc]

theorem State.redecide_of_defer {why : Nat} (hqueue : s.lvc.queue = [q]) (h : s.decideLeave q none = .defer why) : s.redecide = s := by
  simp only [(State.redecide_one hqueue).1, State.redecideList, h]

/-! Renewals and expiries (R377, R378). -/

theorem State.renewSlip_of_granted {i : Nat} {x : Slip} (hslip : SMap.find? s.lvc.slips i = some x) (h : (s.renewSlip i).2 = none) :
    (s.renewSlip i).1 = { s with lvc := { s.lvc with slips := SMap.put s.lvc.slips i { x with expiry := s.now + usec x.dur } } } := by
  simp only [State.renewSlip, hslip] at h ⊢
  split at h
  · simp only [*]
  · cases h
  · cases h

theorem doLeaveRenew_of_granted {i : Nat} (h : ((s.at t).renewSlip i).2 = none) : doLeaveRenew i t s = ((s.at t).renewSlip i).1 := by
  simp only [doLeaveRenew, h]
  cases SMap.find? (s.at t).lvc.slips i <;> rfl

theorem State.pauseFor_units (s : State) (p : Purpose) : (s.pauseFor p).units = s.units := by
  cases p <;> rfl

theorem State.endSlip_of_no_queue {i : Nat} (h : s.lvc.queue = []) :
    s.endSlip i = { s with lvc := { s.lvc with slips := SMap.del s.lvc.slips i } } := State.redecide_of_no_queue h

theorem doSlipExpiry_of_early {i : Nat} {x : Slip} (hslip : SMap.find? s.lvc.slips i = some x) (hearly : (s.at t).now < x.expiry) :
    doSlipExpiry i t s = s.at t := by
  simp only [doSlipExpiry, s.at_lvc, hslip]
  exact if_pos (.inl hearly)

theorem doSlipExpiry_of_over {i : Nat} {x : Slip} (hslip : SMap.find? s.lvc.slips i = some x) (hover : x.expiry ≤ (s.at t).now)
    (hplain : x.extended = false) (hkind : x.kind ≠ 11) : doSlipExpiry i t s = ((s.at t).pauseFor x.purpose).endSlip i := by
  simp only [doSlipExpiry, s.at_lvc, hslip]
  rw [if_neg (by rw [hplain, not_or]; exact ⟨Nat.not_lt.mpr hover, by decide⟩), if_neg hkind]

/-! The owner's commands (R381). -/

variable {p : Principal}

theorem releaseSlip_of_none (h : s.ownSlip p = none) : releaseSlip p s = (s, stDenied) := by
  simp only [releaseSlip, h]

theorem releaseSlip_of_own {x : Slip} (h : s.ownSlip p = some x) (hkind : x.kind ≠ 11) :
    releaseSlip p s = (s.endSlip (s.get F.lvcCtlSlip), stOk) := by
  simp only [releaseSlip, h, if_neg hkind]

theorem renewOwn_of_none (h : s.ownSlip p = none) : renewOwn p s = (s, stDenied) := by
  simp only [renewOwn, h]

/-- A renewal and its outcome in LVC.RESP. -/
def State.renewedOwn (s : State) : State :=
  (s.renewSlip (s.get F.lvcCtlSlip)).1.setAll [(F.lvcRespResult, if (s.renewSlip (s.get F.lvcCtlSlip)).2.isNone then 1 else 3),
    (F.lvcRespSlip, s.get F.lvcCtlSlip), (F.lvcRespReason, ((s.renewSlip (s.get F.lvcCtlSlip)).2).getD 0)]

theorem renewOwn_of_own {x : Slip} (h : s.ownSlip p = some x) : renewOwn p s = (s.renewedOwn, stOk) := by
  simp only [renewOwn, h, State.renewedOwn]

theorem State.renewedOwn_shows (s : State) : s.renewedOwn.get F.lvcRespSlip = s.get F.lvcCtlSlip % 32 ∧
    (s.renewedOwn.get F.lvcRespResult = 1 ∨ s.renewedOwn.get F.lvcRespResult = 3) := by
  simp (disch := decide) only [State.renewedOwn, State.setAll, List.foldl_cons, List.foldl_nil, State.get_set_of_ne, State.get_set_same]
  refine ⟨rfl, ?_⟩
  split
  · exact .inl rfl
  · exact .inr rfl

end

/-- Settles O39: each command is its branch; a re-decision decides the requests that remain in their order. -/
theorem leaveCommandsComplete : Obligations.LeaveCommandsComplete := by
  unfold Obligations.LeaveCommandsComplete
  refine ⟨fun s q t hleave => congrArg _ (if_pos ((s.at_hasLeave t q).trans hleave)), fun s r q t hr hleave => ?request,
    fun s q hkind ⟨g, hpurpose⟩ => ?granted, fun s q mine hsafe hsave hldo => if_pos ?safe, fun s t hqueue => ?none,
    fun s r t hr hwaits => ?redecided, fun s r y t q hr hqueue hwaits hy => ?one, fun s r t q hr hqueue hover => ?waited,
    fun s i t x hslip hgranted => ?renewed, fun s i t x hslip => ⟨fun hearly => congrArg _ (doSlipExpiry_of_early hslip hearly),
      fun hover hplain hkind hqueue => ?expired⟩, fun s src who hserves howner => ?owned⟩
  case request =>
    subst hr
    have hrun : exec (.leaveRequest q t) s = .next ((s.at t).askLeave ((s.at t).leaveFigures q)) :=
      congrArg Host.Outcome.next (doLeaveRequest_of_new hleave)
    refine ⟨fun hgrant => hrun.trans (congrArg _ (State.askLeave_of_grant hgrant)),
      fun why hrefuse => hrun.trans (congrArg _ (State.askLeave_of_refuse hrefuse)), fun why hdefer hroom => ⟨_, hrun, ?_⟩⟩
    have hunits := State.askLeave_of_defer hdefer (by rwa [s.at_lvc])
    rw [State.lvc_of_units hunits, State.chart_of_units hunits, State.sent_of_units hunits]
    exact ⟨congrArg (·.queue ++ _) (s.at_lvc t), congrArg (·.slips) (s.at_lvc t), s.at_chart t, s.at_sent t⟩
  case granted => exact ⟨_, State.grantLeave_slip hkind hpurpose, SMap.find?_put_same .., rfl, rfl, rfl⟩
  case safe => simp [hsafe, hsave, hldo]
  case none =>
    have hnone : (s.at t).lvc.queue = [] := by rw [s.at_lvc, hqueue]
    have hwaits : (s.at t).expireWaits = s.at t := State.expireWaits_of_none (by rw [hnone]; exact fun q hq => absurd hq List.not_mem_nil)
    exact congrArg Host.Outcome.next ((congrArg State.redecide hwaits).trans (State.redecide_of_no_queue hnone))
  case redecided =>
    subst hr
    exact congrArg _ (congrArg State.redecide (State.expireWaits_of_none (by rwa [s.at_lvc])))
  case one =>
    subst hr hy
    have hqueue' : (s.at t).lvc.queue = [q] := by rw [s.at_lvc, hqueue]
    have hrun : exec (.leaveRedecide t) s = .next (s.at t).redecide :=
      congrArg _ (congrArg State.redecide (State.expireWaits_of_none (by simp only [hqueue', List.forall_mem_singleton, hwaits])))
    exact ⟨fun h => hrun.trans (congrArg _ (State.redecide_of_grant hqueue' h)),
      fun why h => hrun.trans (congrArg _ (State.redecide_of_refuse hqueue' h)),
      fun why h => hrun.trans (congrArg _ (State.redecide_of_defer hqueue' h))⟩
  case waited =>
    subst hr
    exact congrArg _ (congrArg State.redecide (State.expireWaits_of_only (by rw [s.at_lvc, hqueue]) hover))
  case renewed =>
    have hslip' : SMap.find? (s.at t).lvc.slips i.val = some x := by rw [s.at_lvc, hslip]
    refine ⟨_, congrArg Host.Outcome.next ((doLeaveRenew_of_granted hgranted).trans (State.renewSlip_of_granted hslip' hgranted)),
      SMap.find?_put_same .., s.at_regs t, congrArg (·.queue) (s.at_lvc t), fun k hk => ?_⟩
    exact (SMap.find?_put_of_ne _ _ hk.symm).trans (congrArg (fun u : LeaveUnit => SMap.find? u.slips k) (s.at_lvc t))
  case expired =>
    have hunits := (s.at t).pauseFor_units x.purpose
    have hnone : ((s.at t).pauseFor x.purpose).lvc.queue = [] := by rw [State.lvc_of_units hunits, s.at_lvc, hqueue]
    exact ⟨_, congrArg Host.Outcome.next ((doSlipExpiry_of_over hslip hover hplain hkind).trans (State.endSlip_of_no_queue hnone)),
      SMap.find?_del_same .., (State.chart_of_units hunits).trans (s.at_chart t), (State.sent_of_units hunits).trans (s.at_sent t)⟩
  case owned =>
    refine ⟨fun hnone => ⟨congrArg _ (State.regCommand_denied hserves howner (releaseSlip_of_none (s := s.touch src) hnone)),
        congrArg _ (State.regCommand_denied hserves howner (renewOwn_of_none (s := s.touch src) hnone))⟩,
      fun x hown => ⟨fun hkind => congrArg _ (State.regCommand_acts hserves howner (effect := fun u => u.endSlip (u.get F.lvcCtlSlip))
          (releaseSlip_of_own (s := s.touch src) hown hkind)),
        ⟨_, congrArg _ (State.regCommand_acts hserves howner (renewOwn_of_own (s := s.touch src) hown)), (s.touch src).renewedOwn_shows⟩⟩,
      ⟨_, congrArg _ (State.regCommand_acts hserves howner (act := withdrawOwn) (effect := fun u => (withdrawOwn who u).1) rfl), rfl, rfl⟩,
      fun hkind hhelm => congrArg _ (State.regCommand_acts hserves howner (if_pos ⟨hkind, hhelm⟩)),
      fun hkind => congrArg _ (State.regCommand_acts hserves howner (effect := fun u => u.requestLeave (.otherMgt who.isHelm))
        ((if_neg fun h => absurd (hkind.symm.trans h.1) (by decide)).trans (if_pos ⟨hkind, howner⟩))),
      fun hldo hother => congrArg _ (State.regCommand_denied hserves howner ((if_neg fun h => hldo h.1).trans (if_neg fun h => hother h.1)))⟩

end Sys2Proof.Machine

/-! Power-state commands, entries and wakes (R387 to R392, R406). -/
namespace Sys2Proof.Machine

section
variable {s : State} {t : Nat}

theorem writePstate_of_refused {req : Nat} (hreq : req ≠ 1) (h : s.pstateRefusal req ≠ 0) :
    writePstate req s = (s.set F.rstPstateRefuse (s.pstateRefusal req), stDenied) := by
  rw [writePstate, if_neg hreq, if_pos h]

theorem writePstate_of_entry {req : Nat} (hreq : req ≠ 1) (hentry : req ≠ 0) (h : s.pstateRefusal req = 0) :
    writePstate req s = (((s.set F.rstPstateBusy 1).modPwr fun u => { u with entry := req }).startQuiesce, stOk) := by
  rw [writePstate, if_neg hreq, if_neg (not_not.mpr h), if_neg hentry]

theorem writePstate_of_exit (h : s.pstateRefusal 0 = 0) : writePstate 0 s = (s.leaveP2, stOk) := by
  rw [writePstate, if_neg (by decide), if_neg (not_not.mpr h), if_pos rfl]

/-- A register write that a rule refuses, with what the refusal shows, is answered DENIED. -/
theorem State.regCommand_refused {src : Sess} {who : Principal} (hserves : s.serves src who) {rights : Principal → Bool} (hr : rights who = true)
    {act : Principal → State → State × Nat} {u : State} (h : act who (s.touch src) = (u, stDenied)) :
    s.regCommand src rights act = u.respond src (cciOf stDenied) stDenied 0 [] := by
  rw [State.regCommand_served hserves hr, h]

/-- A line in a directory is the first condition of R388. -/
theorem State.pstateRefusal_of_line (h : s.home.dir ≠ []) (req : Nat) : s.pstateRefusal req = 1 := by
  have hline : s.home.dir.isEmpty = false := List.isEmpty_eq_false_iff.mpr h
  rw [State.pstateRefusal, hline]
  rfl

/-! Entries (R388). -/

/-- The pads latched, the regions and the Rose off. -/
def State.entered (s : State) : State := (((List.range 8).filter s.regionOn).foldl (fun s g => s.regionOff g) s.latchPads).roseOff

theorem State.roseOff_mode (s : State) : s.roseOff.get F.hubXbarstatMode = 0 := by
  simp (disch := decide) only [State.roseOff, State.setAll, List.foldl_cons, List.foldl_nil, State.get_set_of_ne, State.get_set_same]
  rfl

section
variable (hquiet : s.chtu.quiesced = true) (hsave : s.pwr.saveStart = none)
include hquiet hsave

theorem doPstateEntryComplete_of_p2 (hentry : s.pwr.entry = 2) : doPstateEntryComplete t s =
    ((s.at t).entered.setAll [(F.rstPstateCur, 2), (F.rstPstateBusy, 0)]).modPwr fun u => { u with entry := 0 } := by
  refine (if_pos ?_).trans (if_pos ((congrArg PowerUnit.entry (s.at_pwr t)).trans hentry))
  rw [s.at_chtu, s.at_pwr]
  exact ⟨hquiet, hsave, .inl hentry⟩

theorem doPstateEntryComplete_of_p3 (hentry : s.pwr.entry = 3) (hwake : s.pwr.laterWake = 0) :
    doPstateEntryComplete t s = (s.at t).entered.standby 0 := by
  have hlater : ¬(s.at t).pwr.laterWake ≠ 0 := by rw [s.at_pwr, hwake]; decide
  refine (if_pos ?_).trans ((if_neg (by rw [s.at_pwr, hentry]; decide)).trans (if_neg hlater))
  rw [s.at_chtu, s.at_pwr]
  exact ⟨hquiet, hsave, .inr hentry⟩

end

theorem State.standbyFeed_units (s : State) (f : Nat) : (s.standbyFeed f).units = s.units := by
  simp only [State.standbyFeed]
  split
  · rfl
  · exact State.setAll_units ..

/-- A feed's words stand apart from the phase of a reset. -/
theorem State.standbyFeed_phase (s : State) {f : Nat} (hf : f < 2) : (s.standbyFeed f).get F.rstStatPhase = s.get F.rstStatPhase := by
  simp only [State.standbyFeed]
  split
  · rfl
  · simp (disch := (simp only [Fld.key, F.pwrFeedstatOringOn, F.pwrFeedstatGateOk, F.pwrFeedstatPg, F.pwrFeedmeasIin, F.pwrFeedstatState,
      F.rstStatPhase]; omega)) only [State.setAll, List.foldl_cons, List.foldl_nil, State.get_set_of_ne]

theorem rstStatPhase_unkept (whole : Bool) :
    (persists F.rstStatPhase.key || powerKey whole F.rstStatPhase.key || keptPins F.rstStatPhase.key) = false := by
  cases whole <;> decide

theorem State.moduleReset_phase (s : State) (source : Nat) (whole : Bool) : (s.moduleReset source whole).get F.rstStatPhase = 0 := by
  obtain ⟨v, hrun, hregs, -⟩ := s.moduleReset_eq source whole
  rw [hrun, State.get_bump_of_ne _ _ (by decide), State.get_setAll_of_ne _ (by simp; decide)]
  exact State.get_of_find?_none (by rw [hregs]; exact SMap.find?_filter_of_false _ fun _ => rstStatPhase_unkept whole)

theorem State.modPwr_parts (s : State) (g : PowerUnit → PowerUnit) : (s.modPwr g).sessions = s.sessions ∧ (s.modPwr g).lvc = s.lvc ∧
    (s.modPwr g).home = s.home ∧ (s.modPwr g).core = s.core := ⟨rfl, rfl, rfl, rfl⟩

/-- Standby's reset, before the feeds enter it (R369, R388). -/
def State.standbyReset (s : State) (phase : Nat) : State :=
  ((s.moduleReset (s.get F.rstCauseSource) true).setAll [(F.rstCauseCount, s.get F.rstCauseCount), (F.pwrRideRiding, 0), (F.pwrBusVbus, 0),
    (F.pwrReckonEnergy, 0)]).modPwr fun u => { u with shedPhase := phase }

theorem State.standby_eq (s : State) (phase : Nat) : s.standby phase = ((s.standbyReset phase).standbyFeed 0).standbyFeed 1 := rfl

/-- In standby nothing is powered, and the sessions, the slips and the queues of work are gone. -/
theorem State.standby_shows (s : State) (phase : Nat) : (s.standby phase).get F.rstStatPhase = 0 ∧ (s.standby phase).sessions = [] ∧
    (s.standby phase).lvc.slips = [] ∧ (s.standby phase).core.bolt = [] ∧ (s.standby phase).home.dir = [] := by
  have hunits : (s.standby phase).units = (s.standbyReset phase).units := by
    rw [State.standby_eq, State.standbyFeed_units, State.standbyFeed_units]
  obtain ⟨-, -, -, -, hsessions, hlvc, hhome, hcore, -⟩ := State.eq_of_units hunits
  obtain ⟨-, -, -, -, hsessions', hlvc', hhome', hcore', -⟩ := State.eq_of_units (State.setAll_units (s.moduleReset (s.get F.rstCauseSource) true)
    [(F.rstCauseCount, s.get F.rstCauseCount), (F.pwrRideRiding, 0), (F.pwrBusVbus, 0), (F.pwrReckonEnergy, 0)])
  obtain ⟨-, -, -, -, hnone, hslips, -, hdir, hbolt, -⟩ := s.moduleReset_units (s.get F.rstCauseSource) true rfl
  obtain ⟨hsessionsPwr, hlvcPwr, hhomePwr, hcorePwr⟩ := State.modPwr_parts ((s.moduleReset (s.get F.rstCauseSource) true).setAll
    [(F.rstCauseCount, s.get F.rstCauseCount), (F.pwrRideRiding, 0), (F.pwrBusVbus, 0), (F.pwrReckonEnergy, 0)]) fun u => { u with shedPhase := phase }
  refine ⟨?_, by rw [hsessions, State.standbyReset, hsessionsPwr, hsessions', hnone], ?_, ?_, ?_⟩
  · rw [State.standby_eq, State.standbyFeed_phase _ (by decide), State.standbyFeed_phase _ (by decide), State.standbyReset, State.get_modPwr,
      State.get_setAll_of_ne _ (by simp; decide), State.moduleReset_phase]
  · rw [hlvc, State.standbyReset, hlvcPwr, hlvc', hslips]
  · rw [hcore, State.standbyReset, hcorePwr, hcore', hbolt]
  · rw [hhome, State.standbyReset, hhomePwr, hhome', hdir]

/-! Wakes (R389). -/

/-- A feed in standby starts as from a fresh application. -/
def State.restartFeed (s : State) (f : Nat) : State := if s.feed f = fsStandby then (s.toFeed f fsAbsent).settleFeed f else s

theorem State.restartFeeds_eq (s : State) : s.restartFeeds = (s.restartFeed 0).restartFeed 1 := rfl

theorem State.restartFeed_get (s : State) {f : Nat} {g : Fld} (h : (F.pwrFeedstatState f).key ≠ g.key) : (s.restartFeed f).get g = s.get g := by
  simp only [State.restartFeed, State.settleFeed]
  split_ifs
  · rw [State.get_toFeed_of_ne _ _ h, State.get_toFeed_of_ne _ _ h]
  · exact State.get_toFeed_of_ne _ _ h
  · rfl

theorem State.restartFeed_feed (s : State) (f : Nat) : (s.restartFeed f).feed f ≠ fsStandby := by
  simp only [State.restartFeed, State.settleFeed]
  split_ifs with hstandby hvoltage
  · rw [State.feed_toFeed _ f (by decide)]
    decide
  · rw [State.feed_toFeed _ f (by decide)]
    decide
  · exact hstandby

theorem State.restartFeed_nv (s : State) (f : Nat) : (s.restartFeed f).nv = s.nv := by
  simp only [State.restartFeed, State.settleFeed]
  split_ifs <;> rfl

/-- The wake recorded, before the feeds start (R389, R398). -/
def State.wakeNoted (s : State) (src : Nat) : State :=
  (((s.setAll [(F.rstCauseSource, 3), (F.rstCauseWakeSrc, src)]).bump F.rstCauseCount 1).modPwr fun u => { u with laterWake := 0 }).noteReset

theorem State.leaveStandby_of_standby {src : Nat} (hentry : s.pwr.entry ≠ 3) (hpower : s.unpowered = true) (hshed : s.pwr.shedPhase = 0)
    (hfeed : s.feed 0 = fsStandby ∨ s.feed 1 = fsStandby) : s.leaveStandby src = (s.wakeNoted src).restartFeeds := by
  have hstandby : ([0, 1].any fun f => s.feed f == fsStandby) = true := by simpa using hfeed
  rw [State.leaveStandby, if_neg hentry, if_pos (by rw [hpower, hshed]; rfl), if_pos hstandby, State.wakeNoted]

theorem State.get_noteReset (s : State) (f : Fld) : s.noteReset.get f = s.get f := State.get_of_regs rfl f

theorem State.wakeNoted_shows (s : State) {src : Nat} (h : src < 3) : (s.wakeNoted src).get F.rstCauseSource = 3 ∧
    (s.wakeNoted src).get F.rstCauseWakeSrc = src ∧ (s.wakeNoted src).nv = s.nv := by
  have hnv (u : State) (g : PowerUnit → PowerUnit) : (u.modPwr g).noteReset.nv = u.nv := rfl
  refine ⟨?_, ?_, (hnv ..).trans (State.nv_of_units (by rw [State.bump_units, State.setAll_units]))⟩
  all_goals
    rw [State.wakeNoted, State.get_noteReset, State.get_modPwr, State.get_bump_of_ne _ 1 (by decide)]
    simp (disch := decide) only [State.setAll, List.foldl_cons, List.foldl_nil, State.get_set_of_ne, State.get_set_same]
  · rfl
  · exact Nat.mod_eq_of_lt (by simp only [F.rstCauseWakeSrc]; omega)

/-- A wake's feeds stand outside standby, and its record stands (R389). -/
theorem State.woken_shows (s : State) {src : Nat} (h : src < 3) : (s.wakeNoted src).restartFeeds.get F.rstCauseSource = 3 ∧
    (s.wakeNoted src).restartFeeds.get F.rstCauseWakeSrc = src ∧ (s.wakeNoted src).restartFeeds.feed 0 ≠ fsStandby ∧
    (s.wakeNoted src).restartFeeds.feed 1 ≠ fsStandby ∧ (s.wakeNoted src).restartFeeds.nv = s.nv := by
  obtain ⟨hsource, hwake, hnv⟩ := s.wakeNoted_shows h
  rw [State.restartFeeds_eq]
  refine ⟨?_, ?_, ?_, State.restartFeed_feed _ 1, ?_⟩
  · rw [State.restartFeed_get _ (by decide), State.restartFeed_get _ (by decide), hsource]
  · rw [State.restartFeed_get _ (by decide), State.restartFeed_get _ (by decide), hwake]
  · rw [State.feed, State.restartFeed_get _ (by decide)]
    exact State.restartFeed_feed _ 0
  · rw [State.restartFeed_nv, State.restartFeed_nv, hnv]

end

/-- Settles O40: a request is its branch of R388; an entry and a wake end in the words they write last. -/
theorem powerStatesComplete : Obligations.PowerStatesComplete := by
  unfold Obligations.PowerStatesComplete
  refine ⟨fun s src who hserves hhelm => ⟨fun hrefuse => ?refuse2, fun hrefuse => ?refuse3, fun hrefuse => ?refuse0, fun hfree => ?enter2,
      fun hfree => ?enter3, fun hfree => ?leave, fun hheld => ?noPads, fun hheld => ?pads⟩, fun s req h => State.pstateRefusal_of_line h req,
    fun s t hquiet hsave => ⟨fun hentry => ?p2, fun hentry hwake => ⟨_, congrArg Host.Outcome.next
      (doPstateEntryComplete_of_p3 hquiet hsave hentry hwake), (s.at t).entered.standby_shows 0⟩⟩, fun s wakeL t hentry => ?later,
    fun s wakeL t hentry hpower hshed hfeed => ?wake⟩
  case refuse2 => exact congrArg _ (State.regCommand_refused hserves hhelm (writePstate_of_refused (s := s.touch src) (by decide) hrefuse))
  case refuse3 => exact congrArg _ (State.regCommand_refused hserves hhelm (writePstate_of_refused (s := s.touch src) (by decide) hrefuse))
  case refuse0 => exact congrArg _ (State.regCommand_refused hserves hhelm (writePstate_of_refused (s := s.touch src) (by decide) hrefuse))
  case enter2 => exact congrArg _ (State.regCommand_acts hserves hhelm (writePstate_of_entry (s := s.touch src) (by decide) (by decide) hfree))
  case enter3 => exact congrArg _ (State.regCommand_acts hserves hhelm (writePstate_of_entry (s := s.touch src) (by decide) (by decide) hfree))
  case leave => exact congrArg Host.Outcome.next (State.regCommand_acts hserves hhelm (act := fun _ u => writePstate 0 u)
      (effect := fun u => u.leaveP2) (writePstate_of_exit (s := s.touch src) hfree))
  case noPads => exact congrArg _ (State.regCommand_acts hserves hhelm (congrArg (·, stOk) (if_neg (ne_true_of_eq_false hheld))))
  case pads => exact congrArg _ (State.regCommand_acts hserves hhelm (congrArg (·, stOk) (if_pos hheld)))
  case p2 =>
    refine ⟨_, congrArg Host.Outcome.next (doPstateEntryComplete_of_p2 hquiet hsave hentry), ?_, ?_, rfl, ?_⟩
    all_goals rw [State.get_modPwr]
    · exact State.get_setAll_of_mem _ [] [(F.rstPstateBusy, 0)] (by simp; decide)
    · exact State.get_setAll_of_mem _ [(F.rstPstateCur, 2)] [] (by simp)
    · exact (State.get_setAll_of_ne _ (by simp; decide)).trans (State.roseOff_mode _)
  case later =>
    have hentry' : (s.at t).pwr.entry = 3 := by rw [s.at_pwr, hentry]
    refine ⟨_, congrArg Host.Outcome.next (if_pos hentry'), ?_, fun hwake => ?_, s.at_regs t⟩
    · change (if (s.at t).pwr.laterWake = 1 then 1 else if wakeL = true then 1 else 2) ≠ 0
      split_ifs <;> decide
    · subst hwake
      exact ite_self _
  case wake =>
    have hfeed' : (s.at t).feed 0 = fsStandby ∨ (s.at t).feed 1 = fsStandby := by rwa [s.at_feed, s.at_feed]
    have hrun := State.leaveStandby_of_standby (src := if wakeL then 1 else 2) (by rwa [s.at_pwr]) ((s.at_unpowered t).trans hpower)
      (by rwa [s.at_pwr]) hfeed'
    obtain ⟨hsource, hwake, hfirst, hsecond, hnv⟩ := (s.at t).woken_shows (src := if wakeL then 1 else 2) (by cases wakeL <;> decide)
    exact ⟨_, congrArg Host.Outcome.next hrun, hsource, hwake, hfirst, hsecond, hnv.trans (s.at_nv t)⟩

end Sys2Proof.Machine

/-! Errors, scrubs, repairs and rows out of service (R341 to R356). -/
namespace Sys2Proof.Machine

theorem eccBase_cases (u : Nat) : eccBase u = 0x18000 ∨ 0x500000 ≤ eccBase u := by
  unfold eccBase
  split
  · exact .inr (by omega)
  · exact .inl rfl

theorem State.get_modNv (s : State) (g : NonVolatile → NonVolatile) (f : Fld) : (s.modNv g).get f = s.get f := State.get_of_regs rfl f

theorem State.get_modEcc (s : State) (g : EccUnit → EccUnit) (f : Fld) : (s.modEcc g).get f = s.get f := State.get_of_regs rfl f

section
variable {s : State} {t : Nat}

theorem State.at_ecc (s : State) (t : Nat) : (s.at t).ecc = s.ecc := by rw [s.at_eq t]

@[simp] theorem State.at_unitOn (s : State) (t u : Nat) : (s.at t).unitOn u = s.unitOn u := by
  rw [State.unitOn, State.unitOn, State.regionPowered, State.regionPowered, s.at_get]

theorem State.at_freePool (s : State) (t g : Nat) : (s.at t).freePool g = s.freePool g := by
  rw [s.at_eq t]
  rfl

theorem State.at_rowFree (s : State) (t g group mac row : Nat) : (s.at t).rowFree g group mac row = s.rowFree g group mac row := by
  rw [State.rowFree, State.rowFree, s.at_core, s.at_home]

/-! What a scrub's request for leave does (R344). -/

theorem State.leaveFigures_scrub (s : State) (u : Fin 9) : (s.leaveFigures (.scrub u)).purpose = .scrub u ∧ (s.leaveFigures (.scrub u)).kind ≠ 10 := by
  simp only [State.leaveFigures]
  split <;> simp

/-- A scrub's request is answered by LEAVE_REFUSED, or the scrub stands and stays BUSY; its summary stands either way. -/
structure State.ScrubAsked (s v : State) (u : Nat) (j : ScrubJob) : Prop where
  summary : ∀ f : Fld, f.addr = eccBase u + 0x10 → f.lsb < 32 → v.get f = s.get f
  outcome : v.flag (F.eccScrubLeaveRefused (eccBase u)) = true ∨ (v.flag (F.eccScrubBusy (eccBase u)) = s.flag (F.eccScrubBusy (eccBase u)) ∧
    ∃ k : ScrubJob, SMap.find? v.ecc.scrubs u = some k ∧ k.begun = j.begun ∧ k.target = j.target)

section
variable {u : Fin 9} {j : ScrubJob} (hjob : SMap.find? s.ecc.scrubs u.val = some j)
include hjob

theorem State.grantLeave_scrub {q : LeaveReq} (hkind : q.kind ≠ 10) (hpurpose : q.purpose = .scrub u) : s.ScrubAsked (s.grantLeave q) u.val j := by
  have hrun : s.grantLeave q = (({ s with lvc := { s.lvc with slips := SMap.put s.lvc.slips s.freeSlip (q.slip s.now) } } : State).set
      (F.eccScrubPaused (eccBase u.val)) 0).modEcc fun x => { x with scrubs := SMap.alter x.scrubs u.val fun j => { j with granted := true } } := by
    rw [State.grantLeave, if_neg hkind]
    simp only [State.onGrant, hpurpose, State.modEcc, State.set, State.store]
  have hget {f : Fld} (h : (F.eccScrubPaused (eccBase u.val)).key ≠ f.key) : (s.grantLeave q).get f = s.get f := by
    rw [hrun, State.get_modEcc, State.get_set_of_ne _ _ _ _ h]
    exact State.get_of_regs rfl f
  refine ⟨fun f haddr hlsb => hget ?_, .inr ⟨congrArg (· == 1) (hget ?_), { j with granted := true }, ?_, rfl, rfl⟩⟩
  · simp only [Fld.key, F.eccScrubPaused]
    omega
  · simp only [Fld.key, F.eccScrubPaused, F.eccScrubBusy]
    omega
  · rw [hrun, State.modEcc]
    exact (SMap.find?_alter ..).trans (by rw [if_pos rfl]; exact congrArg (Option.map _) hjob)

theorem State.refuseLeave_scrub (hbegun : j.begun = false) (why : Nat) : s.ScrubAsked (s.refuseLeave (.scrub u) why) u.val j := by
  have hnot : (SMap.find? s.ecc.scrubs u.val).any (·.begun) = false := by rw [hjob]; exact hbegun
  have hget (f : Fld) : (s.refuseLeave (.scrub u) why).get f = ((s.bump F.lvcCountRefused 1).setAll [(F.eccScrubLeaveRefused (eccBase u.val), 1),
      (F.eccScrubBusy (eccBase u.val), 0)]).get f := (congrArg (State.get · f) (if_neg (ne_true_of_eq_false hnot))).trans (State.get_of_regs rfl f)
  refine ⟨fun f haddr hlsb => ?_, .inl (beq_iff_eq.mpr ((hget _).trans ?_))⟩
  · rw [hget]
    have hbase := eccBase_cases u.val
    simp (disch := (have := hbase; have := haddr; have := hlsb; simp only [Fld.key, F.eccScrubLeaveRefused, F.eccScrubBusy, F.lvcCountRefused]; omega)) only
      [State.setAll, List.foldl_cons, List.foldl_nil, State.get_set_of_ne, State.get_bump_of_ne]
  · exact State.get_setAll_of_mem _ [] _ (by simp [Fld.key, F.eccScrubBusy, F.eccScrubLeaveRefused])

theorem State.requestLeave_scrub (hbegun : j.begun = false) : s.ScrubAsked (s.requestLeave (.scrub u)) u.val j := by
  obtain ⟨hpurpose, hkind⟩ := s.leaveFigures_scrub u
  have hrefused (why : Nat) : s.ScrubAsked (s.refuseLeave (s.leaveFigures (.scrub u)).purpose why) u.val j := by
    rw [hpurpose]
    exact State.refuseLeave_scrub hjob hbegun why
  rw [State.requestLeave]
  cases hdecision : s.decideLeave (s.leaveFigures (.scrub u)) none with
  | grant =>
    rw [State.askLeave_of_grant hdecision]
    exact State.grantLeave_scrub hjob hkind hpurpose
  | refuse why =>
    rw [State.askLeave_of_refuse hdecision]
    exact hrefused why
  | defer why =>
    by_cases hroom : s.lvc.queue.length < 32
    · have hrun : s.askLeave (s.leaveFigures (.scrub u)) = s.deferred (s.leaveFigures (.scrub u)) := by
        simp only [State.askLeave, hdecision, if_pos hroom, hpurpose, State.deferred]
      have hget {f : Fld} (h : F.lvcCountDeferred.key ≠ f.key) : (s.deferred (s.leaveFigures (.scrub u))).get f = s.get f :=
        (State.get_bump_of_ne _ 1 h).trans (State.get_of_regs rfl f)
      have hbase := eccBase_cases u.val
      rw [hrun]
      refine ⟨fun f haddr hlsb => hget ?_, .inr ⟨congrArg (· == 1) (hget ?_), j, hjob, rfl, rfl⟩⟩
      · simp only [Fld.key, F.lvcCountDeferred]
        omega
      · simp only [Fld.key, F.lvcCountDeferred, F.eccScrubBusy]
        omega
    · have hrun : s.askLeave (s.leaveFigures (.scrub u)) = s.refuseLeave (s.leaveFigures (.scrub u)).purpose reasonSlots := by
        simp only [State.askLeave, hdecision, if_neg hroom]
      rw [hrun]
      exact hrefused _

end

/-- A scrub begun: its summary cleared, BUSY, and its job (R344). -/
def State.scrubBegun (s : State) (u : Nat) : State :=
  (s.setAll [(F.eccScrubsumCe (eccBase u), 0), (F.eccScrubsumUe (eccBase u), 0), (F.eccScrubsumColumn (eccBase u), 0),
    (F.eccScrubsumCell (eccBase u), 0), (F.eccScrubsumKeysFull (eccBase u), 0), (F.eccScrubsumFirst (eccBase u), 0),
    (F.eccScrubsumLast (eccBase u), 0), (F.eccScrubsumColkeyMacro (eccBase u), 0), (F.eccScrubsumColkeyCol (eccBase u), 0),
    (F.eccScrubsumColkeyRows (eccBase u), 0), (F.eccScrubBusy (eccBase u), 1)]).modEcc fun x => { x with
      scrubs := SMap.put x.scrubs u ⟨false, false, s.get (F.eccScrubTarget (eccBase u)), s.get (F.eccScrubrangeFirst (eccBase u)),
        s.get (F.eccScrubrangeLast (eccBase u)), [], s.now⟩ }

theorem State.scrubBegun_get (s : State) (u : Nat) : (s.scrubBegun u).get (F.eccScrubsumCe (eccBase u)) = 0 ∧
    (s.scrubBegun u).get (F.eccScrubsumUe (eccBase u)) = 0 ∧ (s.scrubBegun u).flag (F.eccScrubBusy (eccBase u)) = true := by
  simp (disch := (simp only [Fld.key, F.eccScrubsumCe, F.eccScrubsumUe, F.eccScrubsumColumn, F.eccScrubsumCell, F.eccScrubsumKeysFull,
      F.eccScrubsumFirst, F.eccScrubsumLast, F.eccScrubsumColkeyMacro, F.eccScrubsumColkeyCol, F.eccScrubsumColkeyRows, F.eccScrubBusy]; omega)) only
    [State.flag, State.scrubBegun, State.get_modEcc, State.setAll, List.foldl_cons, List.foldl_nil, State.get_set_of_ne, State.get_set_same]
  exact ⟨Nat.zero_mod _, Nat.zero_mod _, rfl⟩

theorem startScrub_of_busy {u : Fin 9} (h : s.flag (F.eccScrubBusy (eccBase u.val)) = true) : startScrub u s = s :=
  if_pos (by rw [h]; rfl)

theorem startScrub_of_free {u : Fin 9} (hidle : s.flag (F.eccScrubBusy (eccBase u.val)) = false) (hon : s.unitOn u.val = true)
    (hstack : s.get (F.eccScrubTarget (eccBase u.val)) = 0x3F → u.val ≠ 8 ∧ u.val ∉ s.home.lostStacks) :
    startScrub u s = (s.scrubBegun u.val).requestLeave (.scrub u) := by
  have hkept : (s.get (F.eccScrubTarget (eccBase u.val)) == 0x3F && (u.val == 8 || s.home.lostStacks.contains u.val)) = false := by
    rw [Bool.and_eq_false_imp]
    intro htarget
    obtain ⟨hrose, hlost⟩ := hstack (beq_iff_eq.mp htarget)
    rw [beq_false_of_ne hrose, Bool.false_or, List.contains_eq_mem, decide_eq_false hlost]
  exact if_neg (by rw [hidle, hkept, hon]; decide)

theorem doScrubRead_of_quiet {u : Nat} {j : ScrubJob} (hjob : SMap.find? s.ecc.scrubs u = some j) (hgranted : j.granted = true)
    (hgoing : s.flag (F.eccScrubPaused (eccBase u)) = false) (hrange : j.target = 0x3F → j.next ≤ j.last) : doScrubRead u [] t s =
      (s.at t).modEcc fun x => { x with scrubs := SMap.put x.scrubs u { j with begun := true, next := j.next + 1 } } := by
  simp only [doScrubRead, s.at_ecc, hjob]
  refine (if_neg ?_).trans rfl
  rw [s.at_flag, hgranted, hgoing]
  rintro (h | h | ⟨h, hover⟩)
  · cases h
  · cases h
  · exact absurd (hrange h) (by omega)

theorem doScrubRead_of_waiting {u : Nat} {j : ScrubJob} (hjob : SMap.find? s.ecc.scrubs u = some j)
    (h : j.granted = false ∨ s.flag (F.eccScrubPaused (eccBase u)) = true) (found : List MemError) : doScrubRead u found t s = s.at t := by
  simp only [doScrubRead, s.at_ecc, hjob]
  refine if_pos ?_
  rw [s.at_flag]
  exact h.imp_right .inl

theorem doScrubLeaveRenew_of_granted {u : Fin 9} {i : Nat} {x : Slip} {j : ScrubJob} (hjob : SMap.find? s.ecc.scrubs u.val = some j)
    (hgranted : j.granted = true) (hslip : (s.lvc.slips.filter fun e => e.2.purpose == .scrub u).head? = some (i, x))
    (hrenewed : ((s.at t).renewSlip i).2 = none) :
    doScrubLeaveRenew u t s = ((s.at t).renewSlip i).1.set (F.eccScrubPaused (eccBase u.val)) 0 := by
  have hmay : (SMap.find? s.ecc.scrubs u.val).any (·.granted) = true := by rw [hjob]; exact hgranted
  simp only [doScrubLeaveRenew, s.at_ecc, s.at_lvc, if_pos hmay, hslip, hrenewed, Option.isNone_none, if_true]

/-- A scrub's end in its registers (R345, R346). -/
def State.scrubEnded (s : State) (u : Nat) : State :=
  (s.modEcc fun x => { x with scrubs := SMap.del x.scrubs u }).setAll [(F.eccScrubBusy (eccBase u), 0), (F.eccScrubPaused (eccBase u), 0),
    (F.eccScrubDone (eccBase u), 1)]

theorem doScrubDone_of_read {u : Fin 9} {j : ScrubJob} (hjob : SMap.find? s.ecc.scrubs u.val = some j) (hgranted : j.granted = true)
    (hrange : j.target = 0x3F → j.last < j.next) (hqueue : s.lvc.queue = []) : doScrubDone u t s =
      { (s.at t).scrubEnded u.val with lvc := { ((s.at t).scrubEnded u.val).lvc with
        slips := ((s.at t).scrubEnded u.val).lvc.slips.filter fun e => e.2.purpose != .scrub u } } := by
  have hlvc : ((s.at t).scrubEnded u.val).lvc = s.lvc := (State.lvc_of_units (State.setAll_units ..)).trans (s.at_lvc t)
  have hwithdrawn : ((s.at t).scrubEnded u.val).withdrawFor (.scrub u) = (s.at t).scrubEnded u.val := if_neg (by rw [hlvc, hqueue]; exact Bool.false_ne_true)
  have hrun : doScrubDone u t s = (((s.at t).scrubEnded u.val).withdrawFor (.scrub u)).releaseFor (.scrub u) := by
    simp only [doScrubDone, s.at_ecc, hjob]
    refine if_pos ⟨hgranted, ?_⟩
    by_cases h : j.target = 0x3F
    · exact .inr (hrange h)
    · exact .inl h
  rw [hrun, hwithdrawn]
  exact State.redecide_of_no_queue (by rw [← hqueue, ← hlvc])

theorem State.scrubEnded_shows (s : State) (u : Nat) : SMap.find? (s.scrubEnded u).ecc.scrubs u = none ∧
    (s.scrubEnded u).flag (F.eccScrubBusy (eccBase u)) = false ∧ (s.scrubEnded u).flag (F.eccScrubDone (eccBase u)) = true ∧
    (s.scrubEnded u).sent = s.sent := by
  have hunits := (s.modEcc fun x => { x with scrubs := SMap.del x.scrubs u }).setAll_units [(F.eccScrubBusy (eccBase u), 0),
    (F.eccScrubPaused (eccBase u), 0), (F.eccScrubDone (eccBase u), 1)]
  refine ⟨?_, ?_, ?_, (State.sent_of_units hunits).trans rfl⟩
  · rw [State.scrubEnded, State.ecc_of_units hunits]
    exact SMap.find?_del_same ..
  all_goals
    simp (disch := (simp only [Fld.key, F.eccScrubBusy, F.eccScrubPaused, F.eccScrubDone]; omega)) only
      [State.flag, State.scrubEnded, State.setAll, List.foldl_cons, List.foldl_nil, State.get_set_of_ne, State.get_set_same]
  · rfl
  · rfl

/-! Burns (R350, R353, R356). -/

theorem startBurn_of_busy (h : s.flag F.eccFusecmdBusy = true) : startBurn s = s := if_pos (.inl h)

theorem startBurn_of_soft (hidle : s.flag F.eccFusecmdBusy = false) (hunit : s.get F.eccFusecmdInstance ≤ 8)
    (hsoft : s.get (F.eccRepairqState (eccBase (s.get F.eccFusecmdInstance)) (s.get F.eccFusecmdEntry)) = 2) :
    (startBurn s).flag F.eccFusecmdBusy = true ∧ (startBurn s).ecc.burning.isSome = true ∧ (startBurn s).nv = s.nv := by
  have hmay : ¬(s.flag F.eccFusecmdBusy = true ∨ 8 < s.get F.eccFusecmdInstance ∨
      s.get (F.eccRepairqState (eccBase (s.get F.eccFusecmdInstance)) (s.get F.eccFusecmdEntry)) ≠ 2) := by
    rw [hidle, hsoft]
    rintro (h | h | h)
    · cases h
    · omega
    · exact h rfl
  rw [startBurn, if_neg hmay]
  exact ⟨beq_iff_eq.mpr ((State.get_modEcc ..).trans (State.get_set_same s F.eccFusecmdBusy 1)), rfl, rfl⟩

/-- A burn ended in its registers. -/
def State.burnEnded (s : State) (ok : Bool) : State :=
  (s.setAll [(F.eccFusecmdBusy, 0), (F.eccFusecmdDone, 1), (F.eccFusecmdFailed, if ok then s.get F.eccFusecmdFailed else 1)]).modEcc
    fun x => { x with burning := none }

theorem State.burnEnded_shows (s : State) (ok : Bool) : (s.burnEnded ok).flag F.eccFusecmdBusy = false ∧
    (s.burnEnded ok).flag F.eccFusecmdDone = true ∧ (ok = false → (s.burnEnded ok).flag F.eccFusecmdFailed = true) ∧
    (s.burnEnded ok).nv = s.nv := by
  have hnv (u : State) (g : EccUnit → EccUnit) : (u.modEcc g).nv = u.nv := rfl
  refine ⟨?_, ?_, fun hfailed => ?_, (hnv ..).trans (s.setAll_nv _)⟩
  all_goals
    simp (disch := decide) only [State.flag, State.burnEnded, State.get_modEcc, State.setAll, List.foldl_cons, List.foldl_nil, State.get_set_of_ne,
      State.get_set_same]
  · rfl
  · rfl
  · rw [hfailed]
    rfl

/-- A verified burn: the soft repair is hard, its Almanac record dropped and its fuse burnt (R353). -/
def State.repairBurnt (s : State) (u e key : Nat) : State :=
  ((s.burnEnded true).set (F.eccRepairqState (eccBase u) e) 3).modNv fun n => { n with
    softRepairs := SMap.del n.softRepairs key, fuseMap := SMap.put n.fuseMap key 1 }

theorem doFuseBurnDone_of_verified {u e key : Nat} (hburning : s.ecc.burning = some (u, e, key))
    (hsoft : s.get (F.eccRepairqState (eccBase u) e) = 2) : doFuseBurnDone true t s = (s.at t).repairBurnt u e key := by
  simp only [doFuseBurnDone, s.at_ecc, hburning, s.at_get, hsoft, if_true, State.repairBurnt, State.burnEnded]

theorem doFuseBurnDone_of_failed {u e key : Nat} (hburning : s.ecc.burning = some (u, e, key)) :
    doFuseBurnDone false t s = (s.at t).burnEnded false := by
  simp only [doFuseBurnDone, s.at_ecc, hburning, Bool.false_eq_true, if_false, State.burnEnded]

theorem State.repairBurnt_shows (s : State) (u key : Nat) {e : Nat} (he : e < 16) : (s.repairBurnt u e key).flag F.eccFusecmdBusy = false ∧
    (s.repairBurnt u e key).flag F.eccFusecmdDone = true ∧ (s.repairBurnt u e key).get (F.eccRepairqState (eccBase u) e) = 3 ∧
    SMap.find? (s.repairBurnt u e key).nv.softRepairs key = none ∧ SMap.find? (s.repairBurnt u e key).nv.fuseMap key = some 1 ∧
    (s.repairBurnt u e key).ecc.burning = none := by
  have hget (f : Fld) : (s.repairBurnt u e key).get f = ((s.burnEnded true).set (F.eccRepairqState (eccBase u) e) 3).get f := by
    rw [State.repairBurnt, State.get_modNv]
  have hapart {f : Fld} (haddr : f.addr = 0x18040) (hlsb : f.lsb < 32) : (F.eccRepairqState (eccBase u) e).key ≠ f.key := by
    have hbase := eccBase_cases u
    simp only [Fld.key, F.eccRepairqState, haddr]
    omega
  obtain ⟨hbusy, hdone, -, -⟩ := s.burnEnded_shows true
  refine ⟨?_, ?_, (hget _).trans (State.get_set_same _ _ 3), SMap.find?_del_same .., SMap.find?_put_same .., rfl⟩
  · rw [State.flag, hget, State.get_set_of_ne _ _ _ _ (hapart rfl (by decide))]
    exact hbusy
  · rw [State.flag, hget, State.get_set_of_ne _ _ _ _ (hapart rfl (by decide))]
    exact hdone

end

/-- Settles O36: an error is handled or not by its place; a scrub, a burn and a row are their branches. -/
theorem storedDataComplete : Obligations.StoredDataComplete := by
  unfold Obligations.StoredDataComplete
  refine ⟨fun s u p after w t => ⟨fun hin hon => ?handled, fun hout => ?elsewhere⟩, fun s src who u hserves howner hreach =>
      ⟨fun hbusy => ?scrubBusy, fun hidle hon hstack => ?scrubBegun⟩,
    fun s u t j hjob hgranted hgoing hrange => ⟨_, congrArg Host.Outcome.next (doScrubRead_of_quiet hjob hgranted hgoing hrange),
      SMap.find?_put_same .., s.at_regs t, s.at_sent t⟩,
    fun s u t j hjob hwaits found => congrArg _ (doScrubRead_of_waiting hjob hwaits found),
    fun s u t i x j hjob hgranted hslip hrenewed => congrArg _ (doScrubLeaveRenew_of_granted hjob hgranted hslip hrenewed),
    fun s u t j hjob hgranted hrange hqueue => ?scrubDone, fun s src who hserves hhelm => ⟨fun hbusy => ?burnBusy, fun hidle hunit hsoft => ?burn⟩,
    fun s t u e key hburning hu he hsoft => ⟨?verified, ?failed⟩, fun s g e t hstate => ?noRow,
    fun s g e t key hstate hkind hgroup hpool hfree hkey hin => ?row⟩
  case handled =>
    have hhere : (placeIn u.val p && (s.at t).unitOn u.val) = true := by rw [hin, s.at_unitOn, hon]; rfl
    exact ⟨congrArg _ (if_pos hhere), congrArg _ (if_pos hhere)⟩
  case elsewhere =>
    have hnot : ¬(placeIn u.val p && (s.at t).unitOn u.val) = true := by
      rw [s.at_unitOn]
      rcases hout with h | h <;> simp [h]
    exact ⟨congrArg _ (if_neg hnot), congrArg _ (if_neg hnot)⟩
  case scrubBusy =>
    exact congrArg Host.Outcome.next ((State.regCommandAt_acts hserves hreach howner (startScrub u)).trans
      (congrArg (fun x : State => x.done src) (startScrub_of_busy (s := s.touch src) hbusy)))
  case scrubBegun =>
    obtain ⟨hce, hue, hbusy⟩ := (s.touch src).scrubBegun_get u.val
    obtain ⟨hsummary, houtcome⟩ := State.requestLeave_scrub (s := (s.touch src).scrubBegun u.val) (u := u) (SMap.find?_put_same ..) rfl
    have hrun : exec (.scrubStart src u) s = .next ((((s.touch src).scrubBegun u.val).requestLeave (.scrub u)).done src) :=
      congrArg Host.Outcome.next ((State.regCommandAt_acts hserves hreach howner (startScrub u)).trans
        (congrArg (fun x : State => x.done src) (startScrub_of_free (s := s.touch src) hidle hon hstack)))
    refine ⟨_, hrun, (hsummary _ rfl (Nat.zero_lt_succ 31)).trans hce, (hsummary _ rfl (by simp [F.eccScrubsumUe])).trans hue, ?_⟩
    exact houtcome.imp_right fun ⟨hstill, k, hk, hbegun, htarget⟩ => ⟨hstill.trans hbusy, k, hk, hbegun, htarget⟩
  case scrubDone =>
    obtain ⟨hnone, hbusy, hdone, hsent⟩ := (s.at t).scrubEnded_shows u.val
    exact ⟨_, congrArg Host.Outcome.next (doScrubDone_of_read hjob hgranted hrange hqueue), hnone, hbusy, hdone, hsent.trans (s.at_sent t)⟩
  case burnBusy =>
    exact congrArg _ (State.regCommand_acts hserves hhelm (act := fun _ u => (startBurn u, stOk)) (effect := fun u => u)
      (congrArg (·, stOk) (startBurn_of_busy (s := s.touch src) hbusy)))
  case burn =>
    obtain ⟨hbusy, hburning, hnv⟩ := startBurn_of_soft (s := s.touch src) hidle hunit hsoft
    exact ⟨_, congrArg _ (State.regCommand_acts hserves hhelm (act := fun _ u => (startBurn u, stOk)) (effect := startBurn) rfl), hbusy, hburning, hnv⟩
  case verified => exact ⟨_, congrArg Host.Outcome.next (doFuseBurnDone_of_verified hburning hsoft), (s.at t).repairBurnt_shows u key he⟩
  case failed =>
    obtain ⟨hbusy, -, hfailed, hnv⟩ := (s.at t).burnEnded_shows false
    exact ⟨_, congrArg Host.Outcome.next (doFuseBurnDone_of_failed hburning), hbusy, hfailed rfl, hnv.trans (s.at_nv t), rfl⟩
  case noRow =>
    exact congrArg Host.Outcome.next (if_neg fun h => hstate (by rw [← s.at_get t]; exact h.1))
  case row =>
    subst hkey
    refine congrArg Host.Outcome.next ((if_pos ?_).trans ?_)
    · simp only [s.at_get, s.at_freePool, s.at_rowFree, s.at_ecc, hkind]
      exact ⟨hstate, trivial, hgroup, hpool, hfree, by rw [List.contains_eq_mem, decide_eq_false hin]⟩
    · simp only [s.at_get, hkind]

end Sys2Proof.Machine

/-! Temperature (R460 to R463, R468, R469): readings, blind dies, the end of throttling, and the cut at 112 °C. -/
namespace Sys2Proof.Machine

/-- A change that leaves HUB.THERM.STATE, and that lets no request for leave in while none waits (R379, R462). -/
structure State.KeepsCut (s u : State) : Prop where
  kept : s.lvc.queue = [] → u.lvc.queue = [] ∧ u.get F.hubThermState = s.get F.hubThermState

/-- A field stands at another bit than HUB.THERM.STATE. -/
def Fld.besideTherm (f : Fld) : Bool := decide (f.lsb < 32) && f.lsb != F.hubThermState.lsb

theorem Fld.key_ne_of_besideTherm {f : Fld} (h : f.besideTherm = true) : f.key ≠ F.hubThermState.key := by
  simp only [Fld.besideTherm, Bool.and_eq_true, decide_eq_true_eq, bne_iff_ne] at h
  exact Fld.key_ne_of_lsb_ne h.1 (by decide) h.2

namespace State.KeepsCut
variable {s u v : State}

theorem refl (s : State) : KeepsCut s s := ⟨fun h => ⟨h, rfl⟩⟩

theorem trans (h : KeepsCut s u) (g : KeepsCut u v) : KeepsCut s v where
  kept hs :=
    have ⟨hu, hstate⟩ := h.kept hs
    ⟨(g.kept hu).1, (g.kept hu).2.trans hstate⟩

theorem ite {c : Prop} [Decidable c] (h : KeepsCut s u) (g : KeepsCut s v) : KeepsCut s (if c then u else v) := by
  split
  · exact h
  · exact g

theorem foldl {α : Type} {g : State → α → State} (h : ∀ s a, KeepsCut s (g s a)) (l : List α) (s : State) : KeepsCut s (l.foldl g s) := by
  induction l generalizing s with
  | nil => exact refl s
  | cons a r ih => exact (h s a).trans (ih _)

theorem of_units (hregs : u.regs = s.regs) (hlvc : u.lvc = s.lvc) : KeepsCut s u where
  kept h := ⟨(congrArg LeaveUnit.queue hlvc).trans h, State.get_of_regs hregs _⟩

theorem set_of_ne (s : State) {f : Fld} (h : f.key ≠ F.hubThermState.key) (v : Nat) : KeepsCut s (s.set f v) where
  kept hs := ⟨hs, s.get_set_of_ne _ _ v h⟩

theorem set (s : State) {f : Fld} (h : f.besideTherm = true) (v : Nat) : KeepsCut s (s.set f v) :=
  set_of_ne s (Fld.key_ne_of_besideTherm h) v

/-! The same after a change that keeps the cut. -/

theorem thenSet (h : KeepsCut s u) {f : Fld} (hf : f.besideTherm = true) {v : Nat} : KeepsCut s (u.set f v) := h.trans (.set u hf v)
theorem thenModCore (h : KeepsCut s u) {g : CoreUnit → CoreUnit} : KeepsCut s (u.modCore g) := h.trans (.of_units rfl rfl)
theorem thenModHome (h : KeepsCut s u) {g : HomeUnit → HomeUnit} : KeepsCut s (u.modHome g) := h.trans (.of_units rfl rfl)
theorem thenModCpy (h : KeepsCut s u) {g : CopyUnit → CopyUnit} : KeepsCut s (u.modCpy g) := h.trans (.of_units rfl rfl)
theorem thenModPwr (h : KeepsCut s u) {g : PowerUnit → PowerUnit} : KeepsCut s (u.modPwr g) := h.trans (.of_units rfl rfl)
theorem thenModLan (h : KeepsCut s u) {g : LaneUnit → LaneUnit} : KeepsCut s (u.modLan g) := h.trans (.of_units rfl rfl)
theorem thenModLnk (h : KeepsCut s u) {g : LinkUnit → LinkUnit} : KeepsCut s (u.modLnk g) := h.trans (.of_units rfl rfl)
theorem thenModSeam (h : KeepsCut s u) {g : SeamUnit → SeamUnit} : KeepsCut s (u.modSeam g) := h.trans (.of_units rfl rfl)
theorem thenModFlt (h : KeepsCut s u) {g : FaultUnit → FaultUnit} : KeepsCut s (u.modFlt g) := h.trans (.of_units rfl rfl)
theorem thenModEcc (h : KeepsCut s u) {g : EccUnit → EccUnit} : KeepsCut s (u.modEcc g) := h.trans (.of_units rfl rfl)
theorem thenModThm (h : KeepsCut s u) {g : ThermalUnit → ThermalUnit} : KeepsCut s (u.modThm g) := h.trans (.of_units rfl rfl)
theorem thenEmit (h : KeepsCut s u) {e : Emit} : KeepsCut s (u.emit e) := h.trans (.of_units rfl rfl)

end State.KeepsCut

theorem State.raise_keepsCut (s : State) (code : Nat) (auds : List Nat) : s.KeepsCut (s.raise code auds) :=
  .foldl (fun s _ => (State.KeepsCut.set s rfl _).thenSet rfl) _ s

/-! What a message lost with its region takes with it (R106, R112). -/

theorem State.sendCredits_keepsCut (s : State) (p : Nat) (fc : FcClass) (headers data : Nat) :
    s.KeepsCut (s.sendCredits p fc headers data) := .ite (.of_units rfl rfl) (.of_units rfl rfl)

theorem State.returnCredits_keepsCut (s : State) (m : Msg) : s.KeepsCut (s.returnCredits m) :=
  .ite (.refl s) (s.sendCredits_keepsCut _ _ _ _)

theorem State.dropStaged_keepsCut (s : State) (m : Msg) : s.KeepsCut (s.dropStaged m) := by
  have hstaged : s.KeepsCut { s with core := { s.core with staged := s.core.staged.filter (· != m) } } := .of_units rfl rfl
  exact .ite hstaged (hstaged.trans (State.returnCredits_keepsCut _ m))

theorem State.unstage_keepsCut (s : State) (m : Msg) : s.KeepsCut (s.unstage m) := by
  rw [State.unstage]
  cases s.staging m with
  | none => exact .refl s
  | some x => exact s.dropStaged_keepsCut x

theorem State.clearOverq_keepsCut (s : State) (g : Nat) : s.KeepsCut (s.clearOverq g) :=
  .trans (.foldl (fun s _ => .ite (.set s rfl _) (.refl s)) _ s) (.foldl (fun s _ => .ite (.set s rfl _) (.refl s)) _ _)

theorem State.endDeficit_keepsCut (s : State) (o t : Nat) : s.KeepsCut (s.endDeficit o t) := .ite (.refl s) (.of_units rfl rfl)

theorem State.dropBolt_keepsCut (s : State) (m : Msg) : s.KeepsCut (s.dropBolt m) := by
  unfold State.dropBolt
  exact ((State.KeepsCut.refl s).thenModCore.trans (State.unstage_keepsCut _ m)).trans
    ((State.endDeficit_keepsCut ..).trans (State.clearOverq_keepsCut ..))

theorem State.closeMsg_keepsCut (s : State) (o : Nat) (m : Msg) (poisoned : Bool) : s.KeepsCut (s.closeMsg o m poisoned) := .of_units rfl rfl

theorem State.sendCw_keepsCut (s : State) (o : Nat) (m : Msg) : s.KeepsCut (s.sendCw o m) := by
  have hfnl (l : List SentCw) : s.KeepsCut (s.setBuffer o l) :=
    .trans (u := s.setFnl o { s.fnl o with buffer := l }) (.of_units rfl rfl) (.set _ rfl _)
  exact .ite ((hfnl _).thenSet rfl).thenEmit (.refl s)

theorem State.endFilled_keepsCut (s : State) (o : Nat) (m : Msg) : s.KeepsCut (s.endFilled o m) := by
  unfold State.endFilled
  exact .ite ((s.dropBolt_keepsCut m).trans (State.closeMsg_keepsCut ..))
    ((State.KeepsCut.refl s).thenModCore.trans (State.closeMsg_keepsCut ..))

theorem State.fillOn_keepsCut (s : State) (o n : Nat) : s.KeepsCut (s.fillOn o n) := by
  induction n generalizing s with
  | zero => exact .refl s
  | succ n ih =>
    rw [State.fillOn]
    cases s.openMsg o with
    | none => exact .refl s
    | some m =>
      have hsent := s.sendCw_keepsCut o m
      exact .ite (.ite (hsent.trans (State.endFilled_keepsCut ..)) (hsent.thenModCore.trans (ih _))) (.refl s)

theorem State.fillMsg_keepsCut (s : State) (o : Nat) (m : Msg) : s.KeepsCut (s.fillMsg o m) := by
  have hgone : s.KeepsCut (s.modCore fun u => { u with gaps := SMap.del u.gaps o, bolt := u.bolt.map fun x =>
    if x = m then { m with filled := true, left := m.inBolt } else x }) := .of_units rfl rfl
  unfold State.fillMsg
  exact (State.KeepsCut.ite (((State.KeepsCut.ite hgone hgone.thenEmit).thenSet rfl).trans (State.raise_keepsCut ..))
    ((((State.KeepsCut.ite hgone hgone.thenEmit).thenSet rfl).trans (State.raise_keepsCut ..)).thenSet rfl).thenModCore).trans
    (State.fillOn_keepsCut ..)

theorem State.dropLost_keepsCut (s : State) (f : Nat → Bool) : s.KeepsCut (s.dropLost f) := by
  refine .foldl (fun s m => .ite (.thenModCore ?filled) (s.dropBolt_keepsCut m)) _ s
  exact s.fillMsg_keepsCut m.out m

theorem State.showCollisions_keepsCut (s : State) (ids : List Nat) : s.KeepsCut (s.showCollisions ids) :=
  .foldl (fun s _ => .set s rfl _) _ s

theorem State.dropAdvs_keepsCut (s : State) (f : Nat → Bool) : s.KeepsCut (s.dropAdvs f) := by
  have hgone : s.KeepsCut (s.modBnd fun u => { u with advs := u.advs.filter fun e => !f e.1 }) := .of_units rfl rfl
  exact .ite (.refl s) (hgone.trans (State.showCollisions_keepsCut ..))

theorem State.clearCells_keepsCut (s : State) (f : Nat → Bool) : s.KeepsCut (s.clearCells f) := by
  unfold State.clearCells
  refine .trans (.trans ?units (State.dropAdvs_keepsCut ..)) (State.dropLost_keepsCut ..)
  exact .thenModHome (.thenModCore (.thenModLnk (.thenModLan (.refl s))))

/-! A copy job ends with its region (R230). -/

theorem State.releaseFor_keepsCut (s : State) (q : Purpose) : s.KeepsCut (s.releaseFor q) where
  kept h := by
    have hsame : s.releaseFor q = s.modLvc fun u => { u with slips := u.slips.filter fun e => e.2.purpose != q } :=
      State.redecide_of_no_queue h
    rw [hsame]
    exact ⟨h, State.get_modLvc ..⟩

theorem State.completeRec_keepsCut (s : State) (j : CopyJob) (status detail : Nat) : s.KeepsCut (s.completeRec j status detail) :=
  .ite (.trans (.set s rfl _) (.foldl (fun s _ => .set s rfl _) _ _)) (.of_units rfl rfl)

theorem State.endJob_keepsCut (s : State) (j : CopyJob) (status detail : Nat) : s.KeepsCut (s.endJob j status detail) := by
  have hended := ((s.completeRec_keepsCut j status detail).thenModCpy (g := fun u =>
    { u with jobs := u.jobs.filter fun x => x.id != j.id })).thenModHome (g := fun u =>
    { u with engineWait := u.engineWait.filter fun x => x.tag / 2 ^ 28 != j.id })
  unfold State.endJob
  dsimp only
  split_ifs
  · exact hended.thenModCpy
  · exact hended.thenModCpy.trans (State.releaseFor_keepsCut ..)
  · exact hended.thenModCpy

theorem State.endJobs_keepsCut (s : State) (f : CopyJob → Bool) (status detail : Nat) : s.KeepsCut (s.endJobs f status detail) :=
  .foldl (fun s j => s.endJob_keepsCut j status detail) _ s

/-! A region that loses its power (R390). -/

theorem hubThermState_beyond_regions (g : Nat) : inReach regionRanges g (F.hubThermState.key / 32) = false := by
  rw [← Bool.not_eq_true, inReach_iff]
  rintro ⟨e, he, hlow, -⟩
  have hbase : ∀ e ∈ regionRanges, F.hubThermState.key / 32 < e.1 := by decide
  have := hbase e he
  omega

theorem State.freeFilter_keepsCut (s : State) (n : Nat) : s.KeepsCut (s.freeFilter n) := .ite (.refl s) (.of_units rfl rfl)

theorem State.markRetired_keepsCut (s : State) (f : Nat → Bool) : s.KeepsCut (s.markRetired f) := .foldl (fun s _ => .set s rfl _) _ s

theorem State.dropLatch_keepsCut (s : State) (loc : Nat) (counters : Nat → Bool) : s.KeepsCut (s.dropLatch loc counters) := .of_units rfl rfl

/-- The state without the registers and the counters of a region that is wiped (R390). -/
def State.wipedRegs (s : State) (g : Nat) (kept : Nat → Bool) : State :=
  { s with
    regs := s.regs.filter (fun e => !inReach regionRanges g (e.1 / 32) || kept e.1)
    ctrs := s.ctrs.filter (fun e => ctrRegion e.1 != g) }

theorem State.wipedRegs_keepsCut (s : State) (g : Nat) (kept : Nat → Bool) : s.KeepsCut (s.wipedRegs g kept) where
  kept h := ⟨h, congrArg (·.getD F.hubThermState.reset) (SMap.find?_filter_of_true s.regs fun _ => by rw [hubThermState_beyond_regions]; rfl)⟩

theorem State.wipeRegion_keepsCut (s : State) (g : Nat) (kept : Nat → Bool) : s.KeepsCut (s.wipeRegion g kept) := by
  have hcells := (s.wipedRegs_keepsCut g kept).trans (State.clearCells_keepsCut _ fun p => p / 128 == g)
  unfold State.wipeRegion
  dsimp only
  refine .trans (.trans (.thenModEcc (.thenModFlt (.thenModSeam (.thenModCpy (.trans ?homes
    (.foldl (fun s n => s.freeFilter_keepsCut n) _ _)))))) (State.markRetired_keepsCut ..)) (State.dropLatch_keepsCut ..)
  exact .thenModHome (.thenModCore hcells)

theorem State.blindSensors_keepsCut (s : State) (g : Nat) : s.KeepsCut (s.blindSensors g) :=
  (((State.KeepsCut.set s rfl _).thenSet rfl).thenSet rfl).thenModThm

theorem State.regionOff_keepsCut (s : State) (g : Nat) : s.KeepsCut (s.regionOff g) := by
  have hwiped := (s.endJobs_keepsCut (fun j => j.g == g) stUnknownOutcome 0).trans (State.wipeRegion_keepsCut _ g keptPins)
  unfold State.regionOff
  refine .trans (.trans (.thenModPwr ?flags) (.foldl (fun s _ => .set s rfl 3) _ _)) (State.blindSensors_keepsCut ..)
  exact .thenSet (.thenSet hwiped rfl) rfl

theorem State.roseOff_keepsCut (s : State) : s.KeepsCut s.roseOff :=
  ((((State.KeepsCut.set s rfl _).trans (.set_of_ne _ (by decide) _)).thenSet rfl).thenSet rfl).thenSet rfl

/-- What a thermal cut begins with: the jobs end, and the state is shown (R230, R462). -/
def State.cutShown (s : State) : State := (s.endJobs (fun _ => true) stUnknownOutcome dtShed).set F.hubThermState 3

/-- The regions and the Rose off (R462). -/
def State.regionsCut (s : State) : State := (((List.range 8).filter s.regionOn).foldl (fun s g => s.regionOff g) s).roseOff

theorem State.regionsCut_keepsCut (s : State) : s.KeepsCut s.regionsCut :=
  .trans (.foldl (fun s g => s.regionOff_keepsCut g) _ s) (State.roseOff_keepsCut _)

theorem State.get_thermalCut (s : State) (f : Fld) : s.thermalCut.get f = s.cutShown.regionsCut.get f :=
  (State.get_modLvc ..).trans (State.get_modPwr ..)

/-- After a thermal cut the state is 3 (R462). -/
theorem State.thermalCut_state {s : State} (h : s.lvc.queue = []) : s.thermalCut.get F.hubThermState = 3 := by
  have hended := (s.endJobs_keepsCut (fun _ => true) stUnknownOutcome dtShed).kept h
  have hcut := s.cutShown.regionsCut_keepsCut.kept hended.1
  rw [State.get_thermalCut, hcut.2, State.cutShown, State.get_set_same]
  rfl

theorem State.thermalCut_mode (s : State) : s.thermalCut.get F.hubXbarstatMode = 0 := by
  rw [State.get_thermalCut]
  exact State.roseOff_mode _

theorem State.thermalCut_pwr (s : State) : s.thermalCut.pwr.powering = [] ∧ s.thermalCut.pwr.powerWait = [] := ⟨rfl, rfl⟩

theorem State.askRegions_of_cut {s : State} (h : s.get F.hubThermState = 3) (mask : Nat) : s.askRegions mask = s := if_pos h

/-! Readings (R460, R469). -/

theorem tempWord_lt (x : Int) : tempWord x < 2 ^ 12 := by
  rw [tempWord]
  omega

theorem tempOf_tempWord (v : Fin 1521) : tempOf (tempWord ((v.val : Int) - 320)) = (v.val : Int) - 320 := by
  rw [tempOf, tempWord]
  split <;> omega

theorem State.takeReading_of_live {s : State} {r : TempReading} {v : Fin 1521} (hvalue : r.value = some v)
    (hlive : s.sensorLive r.sensor.val = true) : s.takeReading r =
      (s.setAll [(F.hubTemp r.sensor.val, tempWord ((v.val : Int) - 320)), (F.hubTempValid r.sensor.val, 1)]).modThm fun u =>
        { u with
          lastValid := SMap.put u.lastValid r.sensor.val s.now
          blind := if r.sensor.val < 18 then u.blind.filter (· != dieOf r.sensor.val) else u.blind } := by
  rw [State.takeReading, hvalue]
  exact if_pos hlive

theorem State.get_modThm (s : State) (g : ThermalUnit → ThermalUnit) (f : Fld) : (s.modThm g).get f = s.get f := State.get_of_regs rfl f

/-- A reading as its sensor's register shows it (R469). -/
theorem State.tempShown (s : State) (i : Nat) (v : Fin 1521) :
    (s.setAll [(F.hubTemp i, tempWord ((v.val : Int) - 320)), (F.hubTempValid i, 1)]).get (F.hubTemp i) = tempWord ((v.val : Int) - 320) ∧
    (s.setAll [(F.hubTemp i, tempWord ((v.val : Int) - 320)), (F.hubTempValid i, 1)]).get (F.hubTempValid i) = 1 := by
  simp (disch := (simp only [Fld.key, F.hubTemp, F.hubTempValid]; omega)) only [State.setAll, List.foldl_cons, List.foldl_nil,
    State.get_set_of_ne, State.get_set_same]
  exact ⟨Nat.mod_eq_of_lt (tempWord_lt _), rfl⟩

theorem State.at_thm (s : State) (t : Nat) : (s.at t).thm = s.thm := by rw [s.at_eq t]

/-! What an event of the sensors does in each case (R460, R463). -/

theorem doTempSample_of_unpowered {s : State} (h : s.unpowered = true) (l : List TempReading) (t : Nat) : doTempSample l t s = s.at t :=
  if_pos ((s.at_unpowered t).trans h)

theorem doTempSample_of_powered {s : State} (h : s.unpowered = false) (l : List TempReading) (t : Nat) : doTempSample l t s =
    (l.foldl State.takeReading (s.at t)).staleSensors.heat (s.at t).tMax (stackRise (s.at t) (l.foldl State.takeReading (s.at t)).staleSensors) :=
  if_neg (ne_true_of_eq_false ((s.at_unpowered t).trans h))

theorem doSensorBlind_of_seeing {s : State} {d t : Nat} (h : (s.at t).dieBlind d = false) : doSensorBlind d t s = s.at t :=
  if_neg (ne_true_of_eq_false h)

theorem doSensorBlind_of_blind {s : State} {d t : Nat} (h : (s.at t).dieBlind d = true) : doSensorBlind d t s =
    (((((s.at t).setAll [(F.hubTempValid (2 * d), 0), (F.hubTempValid (2 * d + 1), 0)]).modThm fun u =>
      { u with blind := u.blind ++ [d] }).reportAt inTemp 1).notify atDegraded).heat (s.at t).tMax false := if_pos h

section
variable {s : State} {t a : Nat} (hcool : s.thm.coolSince = some a)
include hcool

theorem doThrottleEnd_of_cooled (hthrottled : s.get F.hubThermState = 1) (h : a + sec 1 ≤ (s.at t).now) :
    doThrottleEnd t s = (s.at t).set F.hubThermState 0 := by
  have hdue : (s.at t).thm.coolSince.any (fun a => decide (a + sec 1 ≤ (s.at t).now)) = true := by
    rw [State.at_thm, hcool, Option.any_some, decide_eq_true_eq]
    exact h
  unfold doThrottleEnd
  dsimp only
  rw [if_pos ⟨(s.at_get t _).trans hthrottled, hdue⟩]

theorem doThrottleEnd_of_early (h : (s.at t).now < a + sec 1) : doThrottleEnd t s = s.at t := by
  unfold doThrottleEnd
  dsimp only
  rw [if_neg]
  rw [State.at_thm, hcool, Option.any_some, decide_eq_true_eq]
  exact fun hcooled => Nat.not_le.mpr h hcooled.2

end

/-- Settles O45: the cut keeps what it shows, as each step of a region's loss of power leaves HUB.THERM.STATE and lets no request in. -/
theorem thermalComplete : Obligations.ThermalComplete := by
  unfold Obligations.ThermalComplete
  refine ⟨?reading, ?invalid, ?standby, ?sample, ?cut, ?seeing, ?blind, ?cool, ?peak⟩
  case reading =>
    intro s r v hvalue hlive
    obtain ⟨htemp, hvalid⟩ := s.tempShown r.sensor.val v
    refine ⟨_, State.takeReading_of_live hvalue hlive, (State.get_modThm ..).trans htemp, ?_, ?_, SMap.find?_put_same ..⟩
    · rw [State.flag, State.get_modThm, hvalid]
      rfl
    · rw [State.get_modThm, htemp, tempOf_tempWord]
  case invalid =>
    intro s r hvalue
    rw [State.takeReading, hvalue]
  case standby => exact fun s l t hoff => congrArg Host.Outcome.next (doTempSample_of_unpowered hoff l t)
  case sample =>
    intro s r l t hon hr
    rw [hr]
    exact congrArg Host.Outcome.next (doTempSample_of_powered hon l t)
  case cut =>
    intro s hqueue
    have hstate := State.thermalCut_state hqueue
    obtain ⟨hpowering, hwait⟩ := s.thermalCut_pwr
    have hmode := s.thermalCut_mode
    generalize s.thermalCut = u at *
    exact ⟨u, rfl, hstate, hmode, hpowering, hwait, State.askRegions_of_cut hstate⟩
  case seeing => exact fun s d t hsees => congrArg Host.Outcome.next (doSensorBlind_of_seeing hsees)
  case blind =>
    rintro s r d t rfl hblind
    exact congrArg Host.Outcome.next (doSensorBlind_of_blind hblind)
  case cool =>
    exact fun s t a hthrottled hcool => ⟨fun hover => congrArg Host.Outcome.next (doThrottleEnd_of_cooled hcool hthrottled hover),
      fun hearly => congrArg Host.Outcome.next (doThrottleEnd_of_early hcool hearly)⟩
  case peak =>
    intro s src who hserves hhelm
    exact congrArg Host.Outcome.next (State.regCommand_acts hserves hhelm (act := fun _ s => (clearPeak s, stOk)) (effect := clearPeak) rfl)

end Sys2Proof.Machine
